-- ==== Sys2Proof/Word.lean ====
section
/-! DEFINITION. The native word (R21) and the plainest arithmetic on words, bits and sparse maps. -/

namespace Sys2Proof

/-- R21: the native word is 24 bits. -/
abbrev Word := BitVec 24

abbrev Byte := BitVec 8

/-- The value of a two's complement field of width `w` (R21). -/
def toSigned (w n : Nat) : Int :=
  if n % 2 ^ w < 2 ^ (w - 1) then (n % 2 ^ w : Nat) else (n % 2 ^ w : Nat) - (2 ^ w : Nat)

/-- The two's complement code of `i` in a field of width `w` (R21). -/
def ofSigned (w : Nat) (i : Int) : Nat := (i % (2 ^ w : Nat)).toNat

/-- `i` held within `lo` and `hi`. -/
def clampInt (lo hi i : Int) : Int := if i < lo then lo else if hi < i then hi else i

/-- `n` held within `lo` and `hi`. -/
def clampNat (lo hi n : Nat) : Nat := if n < lo then lo else if hi < n then hi else n

/-- Bits `[lo + w - 1 : lo]` of `n`. -/
def bitsOf (n lo w : Nat) : Nat := n / 2 ^ lo % 2 ^ w

/-- Bit `i` of `n`. -/
def bitOf (n i : Nat) : Bool := n / 2 ^ i % 2 == 1

def boolNat (b : Bool) : Nat := if b then 1 else 0

/-- `n` with bit `i` set. -/
def setBit (n i : Nat) : Nat := if bitOf n i then n else n + 2 ^ i

/-- `n` with bit `i` clear. -/
def clearBit (n i : Nat) : Nat := if bitOf n i then n - 2 ^ i else n

def putBit (n i : Nat) (b : Bool) : Nat := if b then setBit n i else clearBit n i

/-- Nearest integer to `a / b`, halves rounded up (R264). -/
def roundDiv (a b : Nat) : Nat := (2 * a + b) / (2 * b)

/-- `⌈a / b⌉`. -/
def ceilDiv (a b : Nat) : Nat := (a + b - 1) / b

/-- A map from keys to values that lists only some keys, in one canonical form: keys strictly
rising. What an unlisted key holds is the reader's to say. -/
abbrev Sparse (α : Type) := List (Nat × α)

/-- The value listed at `k`. -/
def sparseFind {α : Type} (k : Nat) : Sparse α → Option α
  | [] => none
  | (k', v) :: rest => if k = k' then some v else sparseFind k rest

/-- `l` with `v` listed at `k`, in rising order. -/
def sparsePut {α : Type} (k : Nat) (v : α) : Sparse α → Sparse α
  | [] => [(k, v)]
  | (k', v') :: rest =>
      if k < k' then (k, v) :: (k', v') :: rest
      else if k = k' then (k, v) :: rest
      else (k', v') :: sparsePut k v rest

/-- `l` with nothing listed at `k`. -/
def sparseDrop {α : Type} (k : Nat) : Sparse α → Sparse α
  | [] => []
  | (k', v') :: rest => if k = k' then sparseDrop k rest else (k', v') :: sparseDrop k rest

/-- `l` with `v` at `k`, an entry equal to the unlisted value `d` being dropped. -/
def sparseStore {α : Type} [DecidableEq α] (d : α) (k : Nat) (v : α) (l : Sparse α) : Sparse α :=
  if v = d then sparseDrop k l else sparsePut k v l

/-- The canonical form: keys strictly rising, and no entry equal to what its unlisted key reads. -/
def sparseWf {α : Type} [DecidableEq α] (d : Nat → α) : Sparse α → Bool
  | [] => true
  | [(k, v)] => decide (v ≠ d k)
  | (k, v) :: (k', v') :: rest =>
      decide (v ≠ d k) && decide (k < k') && sparseWf d ((k', v') :: rest)

end Sys2Proof
end

