-- ==== Sys2Proof/Syntax.lean ====
section
/-! DEFINITION. The block's commands (spec/opcode_table.json) and their operands. -/

namespace Sys2Proof.Machine

/-- The fields of an instruction word (R89) but its OPCODE, which the constructor fixes, and the
extension words. `ring` is the ring the sequencer takes it from; its position is the ring's own
head, or the address its resident run has reached. -/
structure Op where
  ring : Nat
  dst : Nat
  src : Nat
  imm9 : Nat
  ext : List Word
  deriving DecidableEq, Repr

/-- Who makes a register access (R35): the main host, the side-band, or a WRREG of a ring. -/
inductive Writer where
  | host
  | sideBand
  | ring (r : Nat)
  deriving DecidableEq, Repr

/-- R216, R229: a codeword that a read did not find clean: its stripe, its AREA and logical page, the bit errors
corrected in it, the retry reads it took, and whether it is correct in the end. -/
structure CodewordRead where
  stripe : Nat
  area : Nat
  page : Nat
  errors : Nat
  retries : Nat
  correct : Bool
  deriving DecidableEq, Repr

/-- R216, R226: what an operation on the flash store met: the codewords it read that were not clean, and its page
programs, as the LUN, packed as R236 packs it and shifted right by 6, and the time in µs. -/
structure FlashWork where
  reads : List CodewordRead
  programs : List (Nat × Nat)
  deriving DecidableEq, Repr

/-- R213, R222, R224: a target as the store finds it: whether it answers and can be trained, its parameter page
(LUNs and planes as FL_GEOM0 codes them, page data size in units of 4 KiB as a code, spare bytes per 4 KiB, pages per
block, blocks per plane, and tPROG in µs), and the bytes of its unique ID. -/
structure FoundTarget where
  channel : Nat
  target : Nat
  signature : Bool
  trained : Bool
  luns : Nat
  planes : Nat
  size : Nat
  spare : Nat
  pages : Nat
  blocks : Nat
  tprog : Nat
  uid : List Nat
  deriving DecidableEq, Repr

/-- R293, R303, R309: what the battery unit reads: the cells and the pack in mV, and the pack
temperature in 0.1 °C as the thermistor's curve gives it. -/
structure PackReading where
  cell1 : Nat
  cell2 : Nat
  pack : Nat
  temp : Int
  deriving DecidableEq, Repr

/-- R297, R298: a sample: both paths' integrals in nC, whether the fine path was saturated and the coarse
integral clipped, and the mean currents of the coarse path and of the pack in mA; where the coarse path was powered
down, the time it took to start, in 10 ns units, and whether the pack was charging then. -/
structure ChargeSample where
  fine : Int
  coarse : Int
  saturated : Bool
  clipped : Bool
  coarseMa : Int
  packMa : Int
  start : Nat
  inward : Bool
  deriving DecidableEq, Repr

/-- R318: a complete IRIG-B frame: whether every position marker is in place and every BCD digit
legal, its BCD fields, its straight binary seconds where the format carries them, the fields of the
IEEE C37.118.1 extension, and the captured reference edge in half nanoseconds of Wellhead time. -/
structure IrigFrame where
  markers : Bool
  digits : Bool
  second : Nat
  minute : Nat
  hour : Nat
  day : Nat
  year : Nat
  sbs : Nat
  parity : Bool
  timeQuality : Nat
  offset : Int
  lsp : Bool
  delete : Bool
  edge : Nat
  deriving DecidableEq, Repr

/-- R394, R406: a character as the receiver samples it: the decision samples of each bit, the start bit first (at 3× the
first of each is the sample; a bit that is not given is idle); whether its start edge fell while the port's DE was
asserted; the measured start bit in periods of the fast oscillator, and whether the character decoded at that width
reads 0x0D with a valid stop bit. -/
structure UartChar where
  bits : List (Bool × Bool × Bool)
  muted : Bool
  width : Nat
  cr : Bool
  deriving DecidableEq, Repr

/-- R418, R422, R433: a good frame as heard: its fields, the lines that carried it and whether the first
good copy came on line B, the time of its reference edge in 10 ns units of Wellhead time, and its
place in the cycle in µs from the boundary. -/
structure LinkFrame where
  flags : Nat
  dst : Nat
  src : Nat
  seq : Nat
  payload : List Nat
  lineA : Bool
  lineB : Bool
  firstB : Bool
  time : Nat
  place : Nat
  deriving DecidableEq, Repr

end Sys2Proof.Machine

namespace Sys2Proof

open Machine

/-- The block's commands: one constructor per row of spec/opcode_table.json. A ring instruction
carries its fields and extension words; an external or timed event carries what the block observes. -/
inductive Instr where
  /-- R49. At each tick edge the tick unit loads ring credits and spill, snapshots ready work and serves the rings in priority order. -/
  | tickEdge (excess : Option (Nat × Nat))
  /-- R94. NOP does nothing. -/
  | nop (op : Op)
  /-- R94. LDI loads an immediate or extension word into a general register. -/
  | ldi (op : Op)
  /-- R94. MOV copies operand B into a general register. -/
  | mov (op : Op)
  /-- R92. ADD adds operand B to a general register modulo 2^24 and sets the flags. -/
  | add (op : Op)
  /-- R92. SUB subtracts operand B from a general register and sets the flags. -/
  | sub (op : Op)
  /-- R92. AND combines a general register with operand B bitwise and sets Z and N. -/
  | and (op : Op)
  /-- R92. OR combines a general register with operand B bitwise and sets Z and N. -/
  | or (op : Op)
  /-- R92. CMP sets the flags from a register minus operand B without changing registers. -/
  | cmp (op : Op)
  /-- R96. BR branches forward by IMM9 when its condition holds, skipping words in queue mode. -/
  | br (op : Op)
  /-- R97. LOOP closes a counted loop body in a resident program. -/
  | loop (op : Op)
  /-- R98. WAITT holds its ring for a number of ticks counted by TK_COUNT. -/
  | waitt (op : Op)
  /-- R98. The WAITT target tick count is reached and the ring resumes. -/
  | waittExpiry (ring : Nat)
  /-- R99. WAITE holds its ring until a matching event or a timeout. -/
  | waite (op : Op)
  /-- R99. A matching event is raised, loading its sequence number and clearing T. -/
  | waiteMatch (ring : Nat) (seq : Nat)
  /-- R99. The WAITE timeout edge arrives without a match and T sets. -/
  | waiteTimeout (ring : Nat)
  /-- R100. SIGNAL posts a completion with status 0x01 and result B at issue. -/
  | signal (op : Op)
  /-- R101. FENCE waits until every earlier instruction of its ring has posted. -/
  | fence (op : Op)
  /-- R101. The last outstanding earlier completion posts and the waiting FENCE posts its own. -/
  | fenceRelease (ring : Nat)
  /-- R102. RDREG reads one aperture slot into a general register as the ring's owner would. -/
  | rdreg (op : Op)
  /-- R103. WRREG writes a general register, optionally masked, to one aperture slot as a keyed write. -/
  | wrreg (op : Op)
  /-- R8. An instruction with opcode 0x3F completes with status 0x00 and counts as a violation. -/
  | reservedOpcode (op : Op)
  /-- R107. A unit's work ends and its completion entry is posted to the ring's queue. -/
  | unitCompletion (unit : Nat)
  /-- R9. A keyed write to a register with no behaviour of its own updates the writable fields or counts a violation. -/
  | registerWrite (w : Writer) (off : Nat) (v : Word)
  /-- R10. A write of 1 to SY_VIOLCLR.CLEAR zeroes SY_VIOLATIONS and SY_LASTVIOL. -/
  | violationClear (w : Writer)
  /-- R114. A write of a descriptor number to SY_PGFREE removes an unbound program from the store. -/
  | programFree (w : Writer) (prog : Nat)
  /-- R57. A legal write to TK_RATE sets or cancels a pending rate change. -/
  | tkRateWrite (w : Writer) (rate : Nat)
  /-- R46. A write of ring shares is checked against the 900 sum and resident worst cases and applies from the next edge. -/
  | tkShareWrite (w : Writer) (shares : List (Nat × Nat))
  /-- R59. A write to TK_STARVE sets the threshold, and 0 clears every starvation bit. -/
  | tkStarveWrite (w : Writer) (ticks : Nat)
  /-- R64. A control word or side-band write changes the aperture BASE while the aperture is closed. -/
  | apertureBaseWrite (w : Writer) (part : Nat) (v : Nat)
  /-- R64. A write of EN opens or closes the aperture, refused when the range is outside capacity or over a region. -/
  | apertureEnableWrite (w : Writer) (en : Bool)
  /-- R68. A write of QU_TAILr by the ring's owner covers new submission words within the occupancy limits. -/
  | doorbell (w : Writer) (ring : Nat) (tail : Nat)
  /-- R72. A write of RES = 1 requests binding a ring to a resident program at the next tick edge. -/
  | residentBind (w : Writer) (ring : Nat) (entry : Nat)
  /-- R73. A write of RES = 0 requests unbinding a ring at the next tick edge. -/
  | residentUnbind (w : Writer) (ring : Nat) (entry : Nat)
  /-- R81. The consumer frees completion entries by advancing QU_CQHEADm. -/
  | cqHeadWrite (w : Writer) (m : Nat) (head : Nat)
  /-- R78. A write of QU_CQMAPL or QU_CQMAPH remaps rings to completion queues for later admissions. -/
  | cqMapWrite (w : Writer) (high : Bool) (map : Nat)
  /-- R76. The main host writes GIVE to hand ring 15 and CQ3 to the side-band at the next tick edge. -/
  | ring15Give (w : Writer)
  /-- R76. The side-band writes RETURN to hand ring 15 back to the main host at the next tick edge. -/
  | ring15Return (w : Writer)
  /-- R84. A W1C write to QU_EVPEND clears pending bits and releases EVENT_n when all are zero. -/
  | evpendClear (w : Writer) (bits : Nat)
  /-- R132. A host READ is forwarded, served from the aperture or answered with zero according to DRAM ownership. -/
  | hostRead (rank bank col first beats : Nat)
  /-- R132. A host WRITE is forwarded and captured, served by the aperture or absorbed according to ownership. -/
  | hostWrite (rank bank col first beats : Nat) (data : List Nat) (mask : Nat) (check : List Nat)
  /-- R124. A host ACT or PRE is tracked per bank and forwarded or absorbed. -/
  | hostActPre (rank : Nat) (bank : Option Nat) (row : Option Nat)
  /-- R120. A host mode register write is recorded and forwarded with the device's substitutions. -/
  | hostMrs (rank mr value : Nat) (device : Option Nat)
  /-- R132. A host REF, ZQ or power-down command is forwarded or absorbed by ownership. -/
  | hostRefreshOrZq
  /-- R131. A host SRE puts a rank into self-refresh, opening a waiting lend window or completing a STANDBY wait. -/
  | hostSelfRefreshEntry (rank : Nat)
  /-- R141. A host self-refresh exit during an open lend window closes the window with status 0x4D. -/
  | hostSrx (rank units : Nat)
  /-- R120. A host command with a C/A parity error is dropped, H_ALERT_n pulses and HP_PARERR counts. -/
  | caParityError (rank : Nat)
  /-- R120. A write of an operating speed control word takes effect only while OWN is DEVICE. -/
  | operatingSpeedWord (mts : Nat)
  /-- R121. The host writes the buffer word that ends host-side training and HTRAIN sets. -/
  | hostTrainingEnd
  /-- R143. Assertion of RESET_n resets the host side and aperture enable and takes the DRAM if the host owns it. -/
  | resetNAssert
  /-- R122. A DRAM-side training pass starts at DRAM rail start or once the host clock and speed words are ready. -/
  | dramTrainingPassStart (pass : Nat)
  /-- R122. A DRAM-side training pass ends, setting DTI or DTH or logging DTRAIN_FAIL. -/
  | dramTrainingDone (failure : Option (Nat × Nat))
  /-- R134. A write of CLAIM hands the DRAM to the host, after the deferred scrub when one is pending. -/
  | claim (w : Writer)
  /-- R144. A write of RETRAIN repeats both DRAM-side training passes. -/
  | retrain (w : Writer)
  /-- R127. The write-once LOCK freezes the check-code table and pattern until cold start. -/
  | eccLockWrite (w : Writer)
  /-- R588. After the internal pass and image detection, the cold-start scrub starts or is deferred. -/
  | scrubStart
  /-- R136. The cold-start scrub ends, logging SCRUB_DONE and renewing the base. -/
  | scrubEnd (work : FlashWork)
  /-- R138. LEND with SNAPSHOT asks the host to lend the DRAM to write a new base generation. -/
  | lendSnapshot (op : Op)
  /-- R138. LEND with SCRUB asks the host to lend the DRAM to run pending SCRUBs. -/
  | lendScrub (op : Op)
  /-- R138. LEND with RETRAIN asks the host to lend the DRAM to repeat both training passes. -/
  | lendRetrain (op : Op)
  /-- R138. WAIT runs out before every rank is in self-refresh and LEND completes with status 0x4C. -/
  | lendWaitTimeout
  /-- R140. The lend purpose completes and the window closes with status 0x01. -/
  | lendPurposeDone (work : FlashWork)
  /-- R140. MAXDUR elapses and the lend window closes with status 0x4D. -/
  | lendMaxdurExpiry (units : Nat)
  /-- R142. SCRUB records a range to be zeroed in the next SCRUB lend window. -/
  | scrub (op : Op)
  /-- R152. REGION DEFINE creates a region and counts the dirty pages already in it. -/
  | regionDefine (op : Op)
  /-- R152. REGION RETIRE deletes a region, journalling its buffered lines. -/
  | regionRetire (op : Op)
  /-- R152. REGION REPRIORITISE changes a region's priority. -/
  | regionReprioritise (op : Op)
  /-- R163. PFENCE creates the next persist barrier referenced to its doorbell or tick edge. -/
  | pfence (op : Op)
  /-- R166. A durable barrier becomes recoverable or known not to be, and its PFENCE completes. -/
  | pfenceDurableDone
  /-- R168. FOLD START starts a fold at once. -/
  | foldStart (op : Op)
  /-- R168. FOLD HOLD pauses folding at the next page boundary. -/
  | foldHold (op : Op)
  /-- R168. FOLD RELEASE lets folding resume. -/
  | foldRelease (op : Op)
  /-- R168. With AUTOFOLD set, a fold starts when SH_JFILL reaches SH_FOLDAT. -/
  | foldAutoStart
  /-- R167. A fold commits a new base generation by a root update and frees journal pages. -/
  | foldCommit (work : FlashWork)
  /-- R167. A fold stops before committing on a flash error, freeze or renewal, leaving the old generation valid. -/
  | foldAbandoned (work : FlashWork)
  /-- R160. A journal page reaches 2 ms after its first record and is written. -/
  | journalPageTimeout
  /-- R165. A journal page reaches flash and barriers it completes become recoverable. -/
  | journalPageWritten (work : FlashWork)
  /-- R162. Every 200 ticks the shadow rate loop sets SH_BWNOW from demand within its envelope. -/
  | shadowLoopUpdate
  /-- R170. Every 20 ticks the device computes U, E_req, E_avail and the margin. -/
  | holdupAccounting
  /-- R178. ARM action 1 arms the save and loads WARN, HYST, GRACE and LKPF. -/
  | arm (op : Op)
  /-- R178. ARM action 2 disarms the save. -/
  | disarm (op : Op)
  /-- R181. VIN below WARN for 10 µs asserts PFW_n and, when armed, runs pre-save. -/
  | warningCondition
  /-- R183. VIN stays at or above WARN plus HYST for 2 ms and the warning is withdrawn. -/
  | warningWithdrawal
  /-- R182. The grace window ends and Pavane starts with cause 3. -/
  | graceExpiry
  /-- R182. VIN below 8.5 V for 2 µs starts Pavane with cause 1. -/
  | criticalCondition
  /-- R182. SAVE_n low for 1 µs in WARNING starts Pavane with cause 2. -/
  | saveNLow
  /-- R193. SAVE starts Pavane with cause 4. -/
  | save (op : Op)
  /-- R187. The capture flush of step 5 ends, the energy decision is taken and the save set begins. -/
  | pavaneFlushDone (work : FlashWork)
  /-- R187. The save set and index are written, then the event log and the sealed commit record. -/
  | saveSetWritten (work : FlashWork)
  /-- R191. A save rail, energy or placement failure abandons step 6 and marks the save record abandoned. -/
  | pavaneAbandon (energy mram : Bool)
  /-- R187. The rails have come down and the device enters SAVED or OFF. -/
  | pavaneShutdownDone
  /-- R197. RESTORE enters RESTORING and runs Galliard, choosing the image. -/
  | restore (op : Op)
  /-- R202. RESTORE with STAGED runs Galliard marking regions ready for host windows. -/
  | restoreStaged (op : Op)
  /-- R202. Galliard finishes a region; in a staged restore it is marked ready. -/
  | regionRestored (work : FlashWork)
  /-- R201. Galliard's renewal installs the restored base and RESTORE completes. -/
  | galliardEnd (work : FlashWork)
  /-- R603. Pavane or a rail failure stops Galliard and RESTORE completes with status 0x47. -/
  | galliardStop
  /-- R203. The host writes HOSTWIN 1 to pause the restore and open a host window. -/
  | hostwinOpen (w : Writer)
  /-- R203. The host writes HOSTWIN 0 and the restore resumes. -/
  | hostwinClose (w : Writer)
  /-- R203. SV_WINMAX elapses and the host window closes. -/
  | hostwinTimeout
  /-- R234. FLINFO returns the selected flash store figure. -/
  | flinfo (op : Op)
  /-- R224. With NAND rails good at core start, the store trains targets, takes a root and opens or formats. -/
  | flashOpen (targets : List FoundTarget) (bad : List (Nat × Nat)) (work : FlashWork)
  /-- R228. A failed program or erase maps the block to a spare and relocates live content. -/
  | blockRetired (plane block cause : Nat) (work : FlashWork)
  /-- R229. A patrol pass over every live codeword ends. -/
  | patrolDone (codewords : Nat) (work : FlashWork)
  /-- R229. A weak stripe is rewritten into a free stripe and the root updated. -/
  | stripeRefresh (patrol work : FlashWork)
  /-- R230. The least-worn live stripe is moved when wear spread exceeds 500. -/
  | wearLevelMove (work : FlashWork)
  /-- R231. Hourly the device recomputes FL_LIFEMEAS and FL_LIFEBW, logging LIFE_LOW. -/
  | lifeRecompute
  /-- R240. Every 10 µs the sequencer starts rails whose dependencies have settled and marks rails good. -/
  | sequencerEvaluation (mask : Nat)
  /-- R241. A started rail misses its window within TSTART and the device latches. -/
  | startTimeout (rail : Nat)
  /-- R242. A released rail falls below its off-threshold and the next rail of the stop begins. -/
  | railOffReached (rail reading : Nat)
  /-- R242. OFFTO elapses without the rail falling, logging RAIL_STUCK and continuing the stop. -/
  | railStuck (rail reading : Nat)
  /-- R243. A running rail leaves its window, opening a fault episode and asserting FAULT_n. -/
  | railFault (rail : Nat) (high : Bool) (reading ma : Nat)
  /-- R244. Every faulted rail is back in window for 1 ms before T_FAULT and RAIL_RECOVERED is logged. -/
  | faultWithdrawal
  /-- R244. T_FAULT elapses and the episode ends in Pavane or a shutdown to LATCHED. -/
  | tFaultExpiry
  /-- R247. A write of UNLATCH with VIN qualified clears the latch record and wakes the running set. -/
  | unlatch (w : Writer)
  /-- R252. A side-band write of PW_CTL.WAKE wakes the device from DORMANT or SAVED. -/
  | wake (w : Writer)
  /-- R287. VIN has been above the qualification level for 100 ms, returning the path to VIN and starting a wake. -/
  | vinQualified (r : PackReading)
  /-- R252. PSTATE ACTIVE moves the device to ACTIVE. -/
  | pstateActive (op : Op)
  /-- R252. PSTATE QUIET moves the device to QUIET. -/
  | pstateQuiet (op : Op)
  /-- R252. PSTATE MAINT moves the device to MAINT. -/
  | pstateMaint (op : Op)
  /-- R253. PSTATE STANDBY enters STANDBY once the DRAM is in self-refresh. -/
  | pstateStandby (op : Op)
  /-- R253. WAIT runs out before every rank is in self-refresh and PSTATE completes with status 0x32. -/
  | standbyWaitTimeout
  /-- R252. PSTATE DORMANT stops all rails and enters DORMANT. -/
  | pstateDormant (op : Op)
  /-- R257. RAIL ON starts EN11. -/
  | railOn (op : Op)
  /-- R257. RAIL OFF stops EN11. -/
  | railOff (op : Op)
  /-- R257. RAIL STATUS returns a rail's state, rank and last reading. -/
  | railStatus (op : Op)
  /-- R250. MARGIN sets a margin step on a channel and moves the rail's window. -/
  | margin (op : Op)
  /-- R250. The margined rail has been in its moved window for SETTLE and MARGIN completes. -/
  | marginSettled (m : Nat)
  /-- R250. The rail misses its moved window within 10 ms and the output returns to nominal. -/
  | marginTimeout (m : Nat)
  /-- R248. FAULT_n held low by another module for 10 µs logs FAULT_SEEN. -/
  | faultLineLow
  /-- R248. Another module releases FAULT_n and FAULT_SEEN is logged with word 5 = 0. -/
  | faultLineRelease
  /-- R266. A channel's raw condition holds for DGL + 1 samples and its window flag changes. -/
  | monitorFlagChange (ch : Nat) (node : Int) (samples : Nat) (codes : List Int)
  /-- R275. A converter scan converts the enabled inputs, the audit DAC and the reference. -/
  | monitorScan (codes : List (List Int)) (audit reference short : List Int)
  /-- R282. A write of a monitor channel's configuration is judged as a whole slot. -/
  | monitorConfigWrite (w : Writer) (off : Nat) (v : Nat)
  /-- R280. A queued fault-log cause is written to a slot in two phases. -/
  | faultLogEntryWrite (fresh : List Int)
  /-- R287. The critical VIN flag releases PP_VIN and drives PP_BAT. -/
  | powerPathSwitchover (node : Int)
  /-- R290. The charger's run conditions hold and it enters PRE, CC or HOLD. -/
  | chargerRunStart (r : PackReading)
  /-- R290. A run condition fails and the charger goes OFF. -/
  | chargerRunStop
  /-- R290. Pack temperature leaves the charge range and the charger holds. -/
  | chargerTempHold (r : PackReading)
  /-- R290. Pack temperature returns to the charge range and charging resumes. -/
  | chargerTempResume (r : PackReading)
  /-- R290. The lower cell stays above BT_VCUT for 1 s and charging moves to CC. -/
  | prechargeDone (r : PackReading)
  /-- R290. The higher cell reaches BT_VCHG and charging moves to CV. -/
  | constantVoltageReached (r : PackReading)
  /-- R302. Current below BT_ITERM for 60 s ends in FLOAT and a full charge recalibrates the gauge. -/
  | chargeFull
  /-- R290. The charge timer reaches BT_CTIMEOUT and the charger enters FAULT. -/
  | chargeFault
  /-- R292. Each second in FLOAT the float voltage is compensated within its envelope. -/
  | floatLoopUpdate
  /-- R293. Each 1 s cycle the cells are measured and the higher cell bleeds when they differ. -/
  | balanceCycle (r : PackReading)
  /-- R294. A qualified removal sign stops charging and latches PACK_ABSENT. -/
  | packRemoved (sign : Nat)
  /-- R296. Reinsertion conditions hold for 2 s, clearing PACK_ABSENT and restarting the gauge. -/
  | packInserted (r : PackReading)
  /-- R297. At a sample edge the interval charge is latched from the chosen path and accumulated. -/
  | coulombSample (q : ChargeSample)
  /-- R304. The gauge computes reported and decision state of charge, disagreement and E_avail. -/
  | gaugeUpdate (r : PackReading)
  /-- R305. A cell below BT_VCUT for 1 s under discharge writes off the remaining count. -/
  | gaugeCutoff (r : PackReading)
  /-- R307. A cell below BT_VEXH for 100 ms without VIN declares exhaustion and enters OFF. -/
  | exhaustion (r : PackReading)
  /-- R308. A legal write of BT_CAPNOM sets BT_CAP and UNCERT. -/
  | btCapnomWrite (w : Writer) (v : Nat)
  /-- R336. TSET steps Wellhead time to the given stamp at issue. -/
  | tset (op : Op)
  /-- R336. TSET with SYNC applies the stamp at the next PPS_IN edge. -/
  | tsetSync (op : Op)
  /-- R337. No PPS_IN edge within 2 s and TSET completes with status 0x22. -/
  | tsetSyncTimeout
  /-- R323. TSLEW moves time by a signed amount through frequency. -/
  | tslew (op : Op)
  /-- R323. The slew amount has been applied and TSLEW completes. -/
  | slewDone
  /-- R329. TMARK raises TIME_MARK carrying two registers and a tag. -/
  | tmark (op : Op)
  /-- R330. TCAP captures a stamp at issue. -/
  | tcapNow (op : Op)
  /-- R330. TCAP captures a stamp at the next PPS_IN edge. -/
  | tcapPpsIn (op : Op)
  /-- R330. TCAP captures a stamp at the next IRIG-B reference edge. -/
  | tcapIrigb (op : Op)
  /-- R330. TCAP captures a stamp at the next PPS_OUT edge. -/
  | tcapPpsOut (op : Op)
  /-- R330. An edge capture sees no edge in 2 s and completes with status 0x21. -/
  | tcapTimeout (k : Nat)
  /-- R330. A side-band write of SNAP latches the present time into TM_SNAP. -/
  | timeSnapshot (w : Writer)
  /-- R334. LOGRD copies event-log entries into general staging. -/
  | logrd (op : Op)
  /-- R332. A write to TM_LOGREL releases entries up to the named sequence number. -/
  | logRelease (w : Writer) (seq : Nat)
  /-- R332. A write of TM_LOGCFG.STOP changes the overwrite policy and may clear LOGSTOP. -/
  | logPolicyWrite (w : Writer) (stop : Bool)
  /-- R325. A write of FORGET empties the holdover table. -/
  | holdoverForget (w : Writer)
  /-- R328. A host write sets, replaces or cancels a pending leap. -/
  | leapWrite (w : Writer) (pend at_ : Nat)
  /-- R321. At each Wellhead second the source is selected and the servo and error bound updated. -/
  | secondBoundary (crystal : Option Int)
  /-- R316. A deglitched PPS_IN edge is captured, accepted or rejected, and qualifies the PPS part. -/
  | ppsEdge (t : Nat)
  /-- R317. A complete RMC or ZDA sentence on U3 is validated and names a PPS edge. -/
  | nmeaSentence (arrival : Nat)
  /-- R318. A complete IRIG-B frame is checked and contributes to source 3. -/
  | irigbFrame (f : IrigFrame)
  /-- R325. Once a minute while locked the TCXO frequency is learned into a temperature bin. -/
  | holdoverSample (mean : Int) (span : Nat)
  /-- R312. The TCXO stops or deviates and time moves to the crystal-locked clock. -/
  | oscFault (deviated : Bool)
  /-- R312. The TCXO agrees with the crystal for 60 s and OSCFAIL clears. -/
  | oscOk
  /-- R313. TM_TCXOMAX hours in SAVED elapse and EN10 stops. -/
  | tcxoPeriodEnd
  /-- R313. Every 60 s in SAVED or LATCHED the die temperature is converted for the frequency model. -/
  | savedTemperatureCheck (codes : List Int)
  /-- R328. Wellhead reaches TM_LEAPAT with a pending leap and TM_UTCOFS changes. -/
  | leapApplied
  /-- R343. SC_DET holds the present level for SC_DETDB and PRESENT sets. -/
  | scCardInserted
  /-- R343. A removal edge on SC_DET clears PRESENT and triggers deactivation. -/
  | scCardRemoved
  /-- R344. SCACT cold powers and resets the card, trying allowed classes. -/
  | scactCold (op : Op)
  /-- R344. SCACT warm resets the active card without changing supply. -/
  | scactWarm (op : Op)
  /-- R345. An answer to reset is received and checked, choosing protocol and parameters. -/
  | scAtr (bytes : List Nat) (clean : Bool)
  /-- R344. TS or the ATR does not arrive in time and the class attempt fails. -/
  | scAtrTimeout
  /-- R344. After 10 ms unpowered the next allowed class is tried. -/
  | scClassRetry
  /-- R346. The card's PPS response is received and applied or fails. -/
  | scPpsResponse (bytes : List Nat)
  /-- R358. SCDEACT deactivates the smart-card port. -/
  | scdeact (op : Op)
  /-- R349. SCXFR exchanges one APDU under T=1 or moves raw characters. -/
  | scxfr (op : Op)
  /-- R350. A T=1 block from the card is received and drives the exchange. -/
  | scBlockReceived (bytes : List Nat) (parity gap : Bool)
  /-- R350. The block waiting time expires without a card block. -/
  | scBwtExpiry
  /-- R353. A raw-mode character is received, stored or retried. -/
  | scRawCharacter (sent ok : Bool) (v : Nat)
  /-- R353. The raw waiting time passes without a character and SCXFR completes. -/
  | scWtExpiry
  /-- R352. An exchange exceeds SC_XFRTO and the port deactivates. -/
  | scXfrTimeout
  /-- R348. SCCLK STOP stops the card clock after the idle interval when allowed. -/
  | scclkStop (op : Op)
  /-- R348. SCCLK START restarts the card clock. -/
  | scclkStart (op : Op)
  /-- R348. SCCLK RATE changes the run divider for the session. -/
  | scclkRate (op : Op)
  /-- R341. VM8 leaves its window or the current limit holds 5 µs, deactivating the port. -/
  | scSupplyFault (kind vcc ma : Nat)
  /-- R357. SC_VCC falls below 0.4 V and the port becomes INACTIVE. -/
  | scDeactivationDone
  /-- R368. MC_DET holds the present level for MC_DETDB and PRESENT sets. -/
  | mcCardInserted
  /-- R368. A removal edge on MC_DET clears PRESENT and triggers deactivation. -/
  | mcCardRemoved
  /-- R370. MCINIT ON powers, identifies and tunes the memory card. -/
  | mcinitOn (op : Op)
  /-- R381. MCINIT OFF deactivates the memory-card port. -/
  | mcinitOff (op : Op)
  /-- R370. MCINIT RETUNE reruns bus width and timing selection. -/
  | mcinitRetune (op : Op)
  /-- R372. A card response is received and checked by CRC7. -/
  | mcResponse (crc : Bool) (value : Nat)
  /-- R372. A response does not arrive in 64 clocks and the command is retried or fails. -/
  | mcResponseTimeout
  /-- R373. MCRW READ moves blocks from the card into the buffer ring. -/
  | mcrwRead (op : Op)
  /-- R373. MCRW WRITE moves blocks from the buffer ring to the card. -/
  | mcrwWrite (op : Op)
  /-- R373. The host raises MC_HOSTCNT to announce blocks ready or consumed. -/
  | mcHostcntWrite (w : Writer) (v : Nat)
  /-- R374. A read data block arrives and is stored or re-read on CRC failure. -/
  | mcReadBlock (crc : Bool) (bytes : List Nat)
  /-- R373. The card releases busy for a written block and DEVCNT advances. -/
  | mcBusyRelease (ok : Bool)
  /-- R374. Busy exceeds MC_BUSYTO and the write completes with status 0x67. -/
  | mcBusyTimeout
  /-- R373. A wait on the host exceeds 1 ms and MC_STARVED is logged. -/
  | mcStarved
  /-- R373. A wait on the host exceeds MC_XFRTO and the transfer ends with status 0x6E. -/
  | mcHostWaitTimeout
  /-- R377. MCRPMB COUNTER reads the authenticated write counter. -/
  | mcrpmbCounter (op : Op)
  /-- R377. MCRPMB WRITE performs an authenticated write to the replay-protected area. -/
  | mcrpmbWrite (op : Op)
  /-- R377. MCRPMB READ performs an authenticated read from the replay-protected area. -/
  | mcrpmbRead (op : Op)
  /-- R377. MCRPMB PROGKEY programs the loaded key into the card. -/
  | mcrpmbProgkey (op : Op)
  /-- R379. MCWP TMPSET sets temporary write protection. -/
  | mcwpTmpset (op : Op)
  /-- R379. MCWP TMPCLR clears temporary write protection. -/
  | mcwpTmpclr (op : Op)
  /-- R379. MCWP PERMSET sets permanent write protection. -/
  | mcwpPermset (op : Op)
  /-- R379. MCWP STATUS reports the protection bits. -/
  | mcwpStatus (op : Op)
  /-- R367. VM9 leaves its window or the current limit holds 5 µs, deactivating the port. -/
  | mcSupplyFault (kind vcc ma : Nat)
  /-- R381. MC_VCC falls below 0.4 V and the port becomes INACTIVE. -/
  | mcDeactivationDone
  /-- R411. UACFG ENABLE configures and enables a UART. -/
  | uacfgEnable (op : Op)
  /-- R411. UACFG DISABLE empties the FIFOs, ends transfers and stops the port. -/
  | uacfgDisable (op : Op)
  /-- R411. UACFG FLUSH empties the FIFOs and ends pending transfers. -/
  | uacfgFlush (op : Op)
  /-- R400. UAXFR SEND queues bytes from staging for transmission. -/
  | uaxfrSend (op : Op)
  /-- R399. UAXFR RECV queues a receive into staging. -/
  | uaxfrRecv (op : Op)
  /-- R397. A completed character is sorted as break, framing or parity error and stored or dropped. -/
  | uartCharacterReceived (p : Nat) (c : UartChar)
  /-- R399. The line stays idle RXTO character times and the FIFO is flushed to the RECV. -/
  | uartRxIdleTimeout (p : Nat)
  /-- R400. The last stop bit of a SEND leaves and the SEND completes. -/
  | uartSendDone (p : Nat)
  /-- R405. An idle sleeping-enabled port stops its sample clock. -/
  | uartSleepEntry (p : Nat)
  /-- R405. A falling RX edge wakes a sleeping port and times the character from the captured edge. -/
  | uartWake (p : Nat)
  /-- R438. LKJOIN takes the link ports and joins with an address. -/
  | lkjoin (op : Op)
  /-- R438. Four cycles pass after the JOIN without conflict and JOINED sets. -/
  | joinConfirmed
  /-- R438. No master's beacons within WAIT and LKJOIN completes with status 0x85. -/
  | joinWaitTimeout
  /-- R428. LKSEND queues one frame for transmission. -/
  | lksend (op : Op)
  /-- R436. LKRECV queues a receive of frames into the link window. -/
  | lkrecv (op : Op)
  /-- R436. LK_RXTO cycles pass after a stored frame and LKRECV completes. -/
  | lkrecvTimeout
  /-- R425. LKSLOT loads and validates a slot table. -/
  | lkslot (op : Op)
  /-- R440. LKLEAVE sends a LEAVE frame and returns the ports. -/
  | lkleave (op : Op)
  /-- R449. LKTIME STATUS reports the role, class and master. -/
  | lktimeStatus (op : Op)
  /-- R442. LKTIME CLAIM sends a master claim when allowed. -/
  | lktimeClaim (op : Op)
  /-- R449. LKTIME YIELD clears MASTEROK and hands over when master. -/
  | lktimeYield (op : Op)
  /-- R423. A link cycle opens, with the master sending its beacon. -/
  | linkCycleBoundary
  /-- R428. A queued frame starts in a slot or contention window where it fits. -/
  | linkTransmit (t : Nat)
  /-- R429. A character mismatch on both lines ends the attempt and backs off. -/
  | linkCollision
  /-- R431. No valid ACK by the deadline and the frame is retried or fails. -/
  | ackTimeout
  /-- R424. A good beacon sets the cycle boundary, table check and election state. -/
  | beaconReceived (f : LinkFrame)
  /-- R424. No beacon arrives and the boundary is extrapolated, muting after 7 cycles. -/
  | beaconMissing
  /-- R442. A node hears no beacon for its silence count and begins beaconing. -/
  | silenceTimeout
  /-- R432. A good DATA frame is delivered or judged duplicate and acknowledged. -/
  | dataFrameReceived (f : LinkFrame)
  /-- R431. A valid ACK completes or retries the pending send. -/
  | ackReceived (dst seq result : Nat)
  /-- R439. A JOIN naming the device's address draws a CONFLICT. -/
  | joinReceived (f : LinkFrame)
  /-- R439. A CONFLICT resolves an address clash, possibly making the device leave. -/
  | conflictReceived (f : LinkFrame)
  /-- R419. A LEAVE frame from a peer is received. -/
  | leaveReceived (f : LinkFrame)
  /-- R445. A power-fail or withdrawn NOTICE logs LK_PEERNOTICE, or a claim drives handover. -/
  | noticeReceived (f : LinkFrame)
  /-- R437. Noise, foreign, unknown-source or intruder traffic is counted and discarded or flagged. -/
  | lkStranger (cls src : Nat)
  /-- R442. Every 64 cycles a node with a better class repeats its claim. -/
  | claimRepeat
  /-- R460. AELOAD BEGIN opens a base or delta load. -/
  | aeloadBegin (op : Op)
  /-- R460. AELOAD CHUNK hands package bytes to the security unit. -/
  | aeloadChunk (op : Op)
  /-- R460. AELOAD END verifies the package and image and writes the flash copy. -/
  | aeloadEnd (op : Op)
  /-- R460. AELOAD ABORT closes the open load. -/
  | aeloadAbort (op : Op)
  /-- R461. RELOAD loads the newest valid model set from flash. -/
  | aeloadReload (op : Op)
  /-- R461. The model set write to the flash model area ends. -/
  | modelFlashWriteDone (taken : Bool) (work : FlashWork)
  /-- R465. AERUN queues an analytics job on a window frame or staging input. -/
  | aerun (op : Op)
  /-- R468. At a tick edge in ACTIVE or MAINT the running job executes one slice. -/
  | jobSlice
  /-- R465. No frame is ready within WAIT ticks and the job completes with status 0x97. -/
  | frameWaitTimeout
  /-- R473. A write of AE_WINk_A.EN enables an ingest window within scratch limits. -/
  | ingestWindowEnable (w : Writer) (k v : Nat)
  /-- R507. AEADAPT START begins an adaptation of the last layer. -/
  | aeadaptStart (op : Op)
  /-- R508. AEADAPT EVENT runs a labelled forward pass and updates the training table. -/
  | aeadaptEvent (op : Op)
  /-- R510. AEADAPT COMMIT codes the training table as a new overlay and publishes it. -/
  | aeadaptCommit (op : Op)
  /-- R510. The committed overlay's flash write ends and COMMIT completes. -/
  | commitFlashDone (taken : Bool) (work : FlashWork)
  /-- R507. AEADAPT END discards uncommitted updates and ends the adaptation. -/
  | aeadaptEnd (op : Op)
  /-- R515. AEADAPT REBASE carries old station weights onto a new base. -/
  | aeadaptRebase (op : Op)
  /-- R513. AEEXPORT writes the overlay in force as a sealed delta package. -/
  | aeexport (op : Op)
  /-- R512. AEFREEZE FREEZE stops learning at the next slice boundary. -/
  | aefreezeFreeze (op : Op)
  /-- R512. AEFREEZE THAW clears FROZEN. -/
  | aefreezeThaw (op : Op)
  /-- R497. CPPACK encodes bfloat16 values into BEW-128 blocks. -/
  | cppackBew128 (op : Op)
  /-- R497. CPPACK encodes words into BEA-16 blocks. -/
  | cppackBea16 (op : Op)
  /-- R497. CPPACK builds a VDS body from deltas. -/
  | cppackVds (op : Op)
  /-- R498. CPUNPACK decodes BEW-128 blocks. -/
  | cpunpackBew128 (op : Op)
  /-- R498. CPUNPACK decodes BEA-16 blocks. -/
  | cpunpackBea16 (op : Op)
  /-- R498. CPUNPACK decodes a VDS body. -/
  | cpunpackVds (op : Op)
  /-- R499. CPCHECK checks BEW-128 blocks without writing. -/
  | cpcheckBew128 (op : Op)
  /-- R499. CPCHECK checks a VDS body without writing. -/
  | cpcheckVds (op : Op)
  /-- R499. CPCHECK checks ciphertext chunks against a CRC table. -/
  | cpcheckChunkCrc (op : Op)
  /-- R535. SEVERIFY runs the package checks without acting. -/
  | severify (op : Op)
  /-- R535. SEOPEN verifies a package and acts on it by kind. -/
  | seopen (op : Op)
  /-- R540. SESEAL makes a signed sealed-record package. -/
  | seseal (op : Op)
  /-- R538. SEKEY RPMB derives and loads the card's RPMB key. -/
  | sekeyRpmb (op : Op)
  /-- R538. SEKEY RPMBCLEAR clears the loaded RPMB key. -/
  | sekeyRpmbclear (op : Op)
  /-- R525. SEKEY OWNERSET burns an owner hash from a statement. -/
  | sekeyOwnerset (op : Op)
  /-- R526. SEKEY OWNERREVOKE burns an owner's revocation bit. -/
  | sekeyOwnerrevoke (op : Op)
  /-- R539. A write of SE_EXPCFG names the export owner and sets VALID. -/
  | exportOwnerWrite (w : Writer) (owner : Nat)
  /-- R562. FPIND SET programs current, duty and blink of masked indicators. -/
  | fpindSet (op : Op)
  /-- R562. FPIND STATUS returns FP_DIAG. -/
  | fpindStatus (op : Op)
  /-- R551. An indicator measurement opens or ends a fault episode. -/
  | indicatorMeasurement (k current pinv : Nat)
  /-- R552. Every PERIOD a dim channel's pulse is stretched and measured. -/
  | provingPulse (k current pinv : Nat)
  /-- R553. Every PERIOD a channel is probed with 20 µA in its off-time. -/
  | offStateProbe (k pinv : Nat)
  /-- R558. FPKEY RAISE raises a release request. -/
  | fpkeyRaise (op : Op)
  /-- R559. FPKEY CANCEL withdraws a release request. -/
  | fpkeyCancel (op : Op)
  /-- R556. FPKEY REBASE forces a key rebaseline. -/
  | fpkeyRebase (op : Op)
  /-- R562. FPKEY STATUS returns FP_STATUS. -/
  | fpkeyStatus (op : Op)
  /-- R557. A touch qualifies for TOUCHMIN and raises or withdraws a release request. -/
  | keyTouch (sample : Nat)
  /-- R557. FP_DELTA falls below the release level and TOUCHED clears. -/
  | keyTouchRelease (sample : Nat)
  /-- R557. Two samples below minus ANTITHR force a rebaseline. -/
  | keyAntiTouch (sample : Nat)
  /-- R557. A touch held HOLDMAX sets STUCK and rebaselines. -/
  | keyHeldStuck (sample : Nat)
  /-- R556. Every 64 samples the key baseline loop updates within its envelope. -/
  | baselineUpdate (samples : List Nat)
  /-- R560. The steady release indication ends after 60 s or a removal. -/
  | feedbackSteadyTimeout
  /-- R566. The bus supply rises or falls and the side-band port engages or disengages. -/
  | smbusBusEngage (up : Bool)
  /-- R568. A register write transaction with matching PEC writes a slot. -/
  | smbusRegisterWrite (bytes : List Nat)
  /-- R568. A page select transaction sets SB_PAGE. -/
  | smbusPageSelect (bytes : List Nat)
  /-- R571. A register read transaction returns a word and PEC. -/
  | smbusRegisterRead (command : Option Nat) (count : Nat)
  /-- R570. A malformed byte sequence changes nothing and counts in SB_FORMERR. -/
  | smbusFormError
  /-- R567. SCL held low 25 to 35 ms abandons the transaction. -/
  | smbusTimeout
  /-- R574. A main-host write of SB_HBEAT resets the age and makes the heartbeat ALIVE. -/
  | heartbeatBeat (w : Writer)
  /-- R574. The heartbeat age reaches twice PERIOD or the boot interval runs out and HB lapses. -/
  | heartbeatLapse
  /-- R574. A write of SB_HBCFG.EN turns the heartbeat on or off. -/
  | heartbeatEnableWrite (w : Writer) (en : Bool)
  /-- R575. A side-band TAKE with HB lapsed takes stewardship and seizes ring 15. -/
  | stewardTake (w : Writer)
  /-- R577. A side-band RELEASE ends stewardship once ring 15 is returned. -/
  | stewardRelease (w : Writer)
  /-- R581. VDD_AON rises from OFF, the image in force is chosen and DORMANT or LATCHED is entered. -/
  | coldStart (sa : Nat) (validA validB : Bool) (r : PackReading)
  /-- R583. VDD_AON below 2.70 V for 5 µs ends all activity and leaves the device in OFF. -/
  | vddAonLoss (saveTorn rootTorn : Bool)
  /-- R346. No PPS response arrives within 9,600 etu, so the activation deactivates the port and SCACT completes with status 0x5D. -/
  | scPpsTimeout
  /-- R370. OCR bit 31 has not read ready within 1 s of the repeated CMD1, so the port deactivates and MCINIT completes with status 0x64. -/
  | mcIdentTimeout
  /-- R381. At Pavane step 2, 10 ms pass without the busy release of the block in progress, so memory-card deactivation proceeds and the block is recorded as torn. -/
  | mcSaveWaitExpiry
  deriving DecidableEq, Repr

end Sys2Proof
end

