-- ==== Sys2Proof/Config.lean ====
section
/-! DEFINITION. What the spec leaves open: values the machine produces that no rule fixes. Each is an
opaque constant, so a statement that holds holds for every such value. -/

namespace Sys2Proof.Config

/-- A value the spec leaves open, for the `n`-th time the machine needs one (R430's random draws,
R454's table, the data of a stopped job). Assumption log 4. -/
opaque freeValue : Nat → Nat

/-- The byte an address of the DRAM holds after the `gen`-th rail start without a scrub (R136). -/
opaque memoryByte : Nat → Nat → Nat

/-- The check byte a beat of the DRAM holds then. -/
opaque memoryCheck : Nat → Nat → Nat

/-- The MN_VAL of a converter input whose conversion R273 names without giving it: input 22 and
inputs 32 to 39, from the input and its reading. -/
opaque converterValue : Nat → Int → Int

/-- The engine's table functions 6 (sigmoid) and 7 (tanh) inside their range, from the function, F_out
and the input: R454 bounds their error and states no entry. -/
opaque tableFunction : Nat → Nat → Int → Int

/-- The code lengths the device would take for token counts: R491 leaves its choice among equally
short tables open. -/
opaque codeLengths : List Nat → List Nat

end Sys2Proof.Config
end

