-- ==== Sys2Proof/Machine/Crypto.lean ====
section
/-! DEFINITION. The hashes the security unit and the memory-card port compute: SHA-256 (FIPS 180-4),
HMAC (RFC 2104), HKDF (RFC 5869), and the CRC-32 of packages. -/

namespace Sys2Proof.Machine

/-- Rotate a 32-bit word right. -/
def rotr32 (n x : Nat) : Nat := x / 2 ^ n + x % 2 ^ n * 2 ^ (32 - n)

def not32 (x : Nat) : Nat := 2 ^ 32 - 1 - x

/-- A row of eight 32-bit words, from the most significant. -/
def shaRow (v : Nat) : List Nat := ([7, 6, 5, 4, 3, 2, 1, 0] : List Nat).map fun i => v / 2 ^ (32 * i) % 2 ^ 32

/-- FIPS 180-4, 5.3.3: the first hash value, as one number of 256 bits. -/
def shaInit : List Nat := shaRow 0x6a09e667bb67ae853c6ef372a54ff53a510e527f9b05688c1f83d9ab5be0cd19

/-- FIPS 180-4, 4.2.2: the round constants, eight to a number. -/
def shaKeys : List Nat :=
  shaRow 0x428a2f9871374491b5c0fbcfe9b5dba53956c25b59f111f1923f82a4ab1c5ed5 ++
  shaRow 0xd807aa9812835b01243185be550c7dc372be5d7480deb1fe9bdc06a7c19bf174 ++
  shaRow 0xe49b69c1efbe47860fc19dc6240ca1cc2de92c6f4a7484aa5cb0a9dc76f988da ++
  shaRow 0x983e5152a831c66db00327c8bf597fc7c6e00bf3d5a7914706ca635114292967 ++
  shaRow 0x27b70a852e1b21384d2c6dfc53380d13650a7354766a0abb81c2c92e92722c85 ++
  shaRow 0xa2bfe8a1a81a664bc24b8b70c76c51a3d192e819d6990624f40e3585106aa070 ++
  shaRow 0x19a4c1161e376c082748774c34b0bcb5391c0cb34ed8aa4a5b9cca4f682e6ff3 ++
  shaRow 0x748f82ee78a5636f84c878148cc7020890befffaa4506cebbef9a3f7c67178f2

/-- A big-endian number of some bytes. -/
def bigEndian (bytes : List Nat) : Nat := bytes.foldl (fun a b => a * 256 + b % 256) 0

/-- The `n` bytes of a number, big-endian. -/
def toBigEndian : Nat → Nat → List Nat
  | 0, _ => []
  | n + 1, v => v / 256 ^ n % 256 :: toBigEndian n v

/-- A little-endian number of some bytes. -/
def littleEndian (bytes : List Nat) : Nat := bytes.foldr (fun b a => a * 256 + b % 256) 0

def toLittleEndian : Nat → Nat → List Nat
  | 0, _ => []
  | n + 1, v => v % 256 :: toLittleEndian n (v / 256)

/-- Cut a list into pieces of `k`. -/
def pieces (k : Nat) : Nat → List Nat → List (List Nat)
  | 0, _ => []
  | _ + 1, [] => []
  | fuel + 1, l => l.take k :: pieces k fuel (l.drop k)

/-- The exclusive or of two rotations of `x` and of `last`: FIPS 180-4's four sigma functions. -/
def shaMix (a b last x : Nat) : Nat := rotr32 a x ^^^ (rotr32 b x ^^^ last)

/-- The message schedule, newest word first. -/
def shaSchedule : Nat → List Nat → List Nat
  | 0, w => w
  | n + 1, w =>
      let near := w.getD 1 0
      let far := w.getD 14 0
      let new := shaMix 17 19 (near / 2 ^ 10) near + shaMix 7 18 (far / 2 ^ 3) far + w.getD 6 0 + w.getD 15 0
      shaSchedule n (new % 2 ^ 32 :: w)

/-- One round on the working words, the oldest of which leaves: `key` is the round constant and the word. -/
def shaRound (st : List Nat) (key : Nat × Nat) : List Nat :=
  let at_ (i : Nat) : Nat := st.getD i 0
  let chosen := (at_ 4 &&& at_ 5) ^^^ (not32 (at_ 4) &&& at_ 6)
  let most := (at_ 0 &&& (at_ 1 ^^^ at_ 2)) ^^^ (at_ 1 &&& at_ 2)
  let first := at_ 7 + shaMix 6 11 (rotr32 25 (at_ 4)) (at_ 4) + chosen + key.1 + key.2
  let second := shaMix 2 13 (rotr32 22 (at_ 0)) (at_ 0) + most
  let (head, tail) := (st.take 3, (st.drop 4).take 3)
  ((first + second) % 2 ^ 32 :: head) ++ ((at_ 3 + first) % 2 ^ 32 :: tail)

def shaBlock (st : List Nat) (block : List Nat) : List Nat :=
  let w := (shaSchedule 48 ((pieces 4 16 block).map bigEndian).reverse).reverse
  let out := (shaKeys.zip w).foldl shaRound st
  (st.zip out).map fun p => (p.1 + p.2) % 2 ^ 32

def sha256 (msg : List Nat) : List Nat :=
  let pad := (119 - msg.length % 64) % 64
  let m := msg ++ [0x80] ++ List.replicate pad 0 ++ toBigEndian 8 (8 * msg.length)
  ((pieces 64 (m.length / 64 + 1) m).foldl shaBlock shaInit).flatMap (toBigEndian 4)

def hmacSha256 (key msg : List Nat) : List Nat :=
  let k := if 64 < key.length then sha256 key else key
  let k := k ++ List.replicate (64 - k.length) 0
  sha256 (k.map (· ^^^ 0x5C) ++ sha256 (k.map (· ^^^ 0x36) ++ msg))

/-- HKDF with SHA-256, 32 bytes (R527). -/
def hkdf (ikm salt info : List Nat) : List Nat :=
  let salt := if salt.isEmpty then List.replicate 32 0 else salt
  hmacSha256 (hmacSha256 salt ikm) (info ++ [1])

/-- The bytes of an ASCII string. -/
def ascii (s : String) : List Nat := s.toList.map (·.toNat)

def crc32Bits : Nat → Nat → Nat
  | 0, c => c
  | n + 1, c => crc32Bits n (if c % 2 = 1 then c / 2 ^^^ 0xEDB88320 else c / 2)

/-- CRC-32 of IEEE 802.3. -/
def crc32 (bytes : List Nat) : Nat :=
  (bytes.foldl (fun c b => crc32Bits 8 (c ^^^ b % 256)) 0xFFFFFFFF) ^^^ 0xFFFFFFFF

end Sys2Proof.Machine
end

