-- ==== Sys2Proof/Machine/Registers.lean ====
section
/-! DEFINITION. The register file's fields, generated from the register tables of spec/ (R2, R10,
R61, R87, R116, R148, R176, R210, R235, R260, R283, R309, R338, R364, R387, R414, R451, R477, R504,
R520, R546, R563, R579, R595): one constant per field, and per unit the table of its slots. -/

namespace Sys2Proof.Machine

/-- One field of a register: the aperture offset of its slot, its lowest bit, its width and its
value after cold start of a module with the factory parameter image (R6, R594). A field whose Reset
is "—" takes the value its assumption-log entry names. -/
structure Field where
  off : Nat
  lo : Nat
  width : Nat
  reset : Nat
  deriving DecidableEq, Repr

/-- The field's key in the register file. -/
def Field.key (f : Field) : Nat := f.off * 32 + f.lo

/-- The access codes of R35. -/
inductive Access where
  | ro | wo | w1c | rwm | rws | rw | w1
  deriving DecidableEq, Repr

/-- A field as its register table gives it: its access code, and whether its Reset is P (R6). -/
structure FieldAcc where
  field : Field
  acc : Access
  param : Bool
  deriving DecidableEq, Repr

/-- A row of slots: `count` slots from `base`, `stride` bytes apart, and the fields of slot `i`. -/
structure SlotRow where
  base : Nat
  stride : Nat
  count : Nat
  fields : Nat → List FieldAcc

/-! Factory values that differ along an index (R594, and the tables named at each). -/

/-- R260: the factory settle times, in units of 100 µs. -/
def settleFactory : List Nat := [20, 10, 10, 20, 10, 5, 10, 5, 5, 5, 50, 10]

/-- The identity public key of the reset state, packed under R27 (assumption log 25). -/
def idpubReset : List Nat :=
  [0xd1176b, 0x2ce1f2, 0xf84742, 0xe5e6bc, 0x40a463, 0x377f2, 0x2d817d, 0xa033eb, 0x39a1f4, 0x98d845,
   0x4f96c2, 0xe242e3, 0x7f1afe, 0xe78e9b, 0x7c4aeb, 0x169e0f, 0x33ce2b, 0x316b57, 0xcbce5e, 0x6840b6,
   0x51bf37, 0xf5]

/-- R260: the factory dependency masks. -/
def depFactory : List Nat :=
  [0x002, 0x000, 0x002, 0x011, 0x000, 0x008, 0x001, 0x040, 0x004, 0x004, 0x000, 0x004]

/-- R263, R594: the factory attenuator codes of VM0 to VM31 (0 = 1, 1 = 1/2, 2 = 1/4, 3 = 1/8). -/
def attFactory (n : Nat) : Nat :=
  [0, 1, 2, 1, 2, 0, 2, 1, 3, 2, 2, 2, 0, 0, 1, 2, 2, 3, 2, 2, 0, 0].getD n 0

/-- R594: the nominal codes of VM0 to VM11. -/
def nomFactory (n : Nat) : Nat :=
  [696, 737, 676, 492, 512, 492, 676, 737, 307, 676, 573, 676].getD n 0

/-- R268, R270, R594: the factory modes. VM17 to VM21 are the battery unit's. -/
def modeFactory (n : Nat) : Nat := if n ≤ 13 then 2 else 3

/-- R268, R270, R286, R594: VM10's low-power mode is S, that of VM12 and VM17 to VM20 is U, the others are
off. -/
def lpmodeFactory (n : Nat) : Nat := if n = 10 then 3 else if n = 12 ∨ (17 ≤ n ∧ n ≤ 20) then 4 else 0

/-- R268, R270, R594. VM12's is round(HYST × 2.56) at the factory HYST of 4. -/
def hysFactory (n : Nat) : Nat := if n = 12 then 10 else 4

/-- R268, R270, R286, R594. -/
def dglFactory (n : Nat) : Nat := if n = 12 ∨ (17 ≤ n ∧ n ≤ 20) then 49 else if n = 21 then 4 else 9

/-- R268, R270, R286, R594: the factory high thresholds. -/
def hiFactory (n : Nat) : Nat :=
  if n < 12 then roundDiv (nomFactory n * 108) 100
  else [1023, 1023, 1023, 1023, 1023, 748, 748, 748, 1000, 635].getD (n - 12) 1023

/-- R264, R270, R286, R594: the factory low thresholds. VM12's is round(WARN × 0.512) at 1,020; those of VM17 to
VM19 are BT_VEXH's at its factory value. -/
def loFactory (n : Nat) : Nat :=
  if n < 12 then roundDiv (nomFactory n * 92) 100
  else [522, 435, 0, 0, 0, 532, 532, 532, 0, 389].getD (n - 12) 0

/-- R594: round(2,500 / ATT). -/
def gainFactory (n : Nat) : Nat := 2500 * 2 ^ attFactory n

/-- R338: the factory LOCKTHR of source `s`. -/
def lockthrFactory (s : Nat) : Nat := if s ≤ 2 then 50 else if s = 3 then 200 else 500

/-- R338: the factory SRCERR of source `s`. -/
def srcerrFactory (s : Nat) : Nat := if s ≤ 2 then 20 else if s = 3 then 100 else 200

/-- R414: the factory image enables U2 at 115,200 bit/s, 8N1, 16×, with AUTO 0 and RXTO 4. -/
def uaCfgBFactory (p : Nat) : Nat := if p = 2 then 4 else 0

/-- R392, R414: the rate the factory divider of U2 gives. -/
def uaRateFactory (p : Nat) : Nat := if p = 2 then 48000000 * 256 / (6667 * 16) else 0


namespace Reg

/-! R10, spec/01_the_module_and_its_panel.md -/

def SY_VIOLATIONS.COUNT : Field := ⟨0x20, 0, 24, 0⟩
def SY_LASTVIOL.LAST : Field := ⟨0x24, 0, 24, 0⟩
def SY_VIOLCLR.CLEAR : Field := ⟨0x28, 0, 1, 0⟩
/-! R2, spec/00_scope.md -/

def SY_DEVID.PART : Field := ⟨0x0, 8, 16, 0x2416⟩
def SY_DEVID.STEPL : Field := ⟨0x0, 4, 4, 0xB⟩
def SY_DEVID.STEPD : Field := ⟨0x0, 0, 4, 0⟩
/-! R595, spec/24_start_up.md -/

def SY_STARTINFO.KIND : Field := ⟨0x4, 20, 4, 0⟩
def SY_STARTINFO.PSRC : Field := ⟨0x4, 0, 2, 0⟩
def SY_COLDSTARTS.COUNT : Field := ⟨0x8, 0, 24, 1⟩
def SY_CORESTARTS.COUNT : Field := ⟨0xc, 0, 24, 0⟩
def SY_PARAMSEQ.SEQ : Field := ⟨0x10, 0, 24, 0⟩
def SY_PARAMRECS.N : Field := ⟨0x14, 0, 14, 0⟩
def SY_BOOT.FLAGS : Field := ⟨0x18, 0, 7, 0⟩
/-! R116, spec/05_instruction_words.md -/

def SY_PGFREE.PROG : Field := ⟨0x40, 0, 5, 0⟩
def SY_PGLAST.STATUS : Field := ⟨0x44, 16, 8, 0⟩
def SY_PGLAST.PROG : Field := ⟨0x44, 0, 5, 0⟩
def SY_PGSPACE.FREE : Field := ⟨0x48, 0, 15, 16384⟩
def SY_PG_A.VALID (k : Nat) : Field := ⟨0x100 + 16 * k, 23, 1, 0⟩
def SY_PG_A.BOUND (k : Nat) : Field := ⟨0x100 + 16 * k, 22, 1, 0⟩
def SY_PG_A.RING (k : Nat) : Field := ⟨0x100 + 16 * k, 14, 4, 0⟩
def SY_PG_A.ADDR (k : Nat) : Field := ⟨0x100 + 16 * k, 0, 14, 0⟩
def SY_PG_B.LEN (k : Nat) : Field := ⟨0x104 + 16 * k, 0, 15, 0⟩
def SY_PG_C.WCOST (k : Nat) : Field := ⟨0x108 + 16 * k, 0, 24, 0⟩
def SY_PG_D.POSTS (k : Nat) : Field := ⟨0x10c + 16 * k, 0, 9, 0⟩
def SY_CTX.G (r : Nat) (g : Nat) : Field := ⟨0x400 + 32 * r + 4 * g, 0, 24, 0⟩
def SY_FLAGS.LC (r : Nat) : Field := ⟨0x600 + 4 * r, 9, 4, 0⟩
def SY_FLAGS.T (r : Nat) : Field := ⟨0x600 + 4 * r, 4, 1, 0⟩
def SY_FLAGS.Z (r : Nat) : Field := ⟨0x600 + 4 * r, 3, 1, 0⟩
def SY_FLAGS.N (r : Nat) : Field := ⟨0x600 + 4 * r, 2, 1, 0⟩
def SY_FLAGS.C (r : Nat) : Field := ⟨0x600 + 4 * r, 1, 1, 0⟩
def SY_FLAGS.V (r : Nat) : Field := ⟨0x600 + 4 * r, 0, 1, 0⟩
/-! R61, spec/03_frame_tick.md -/

def TK_RATE.RATE : Field := ⟨0x1000, 0, 16, 20000⟩
def TK_CYCLES.CYCLES : Field := ⟨0x1004, 0, 24, 20000⟩
def TK_BUDGET.BUDGET : Field := ⟨0x1008, 0, 24, 18000⟩
def TK_PENDRATE.RATE : Field := ⟨0x100c, 0, 16, 20000⟩
def TK_COUNTH.COUNT : Field := ⟨0x1010, 0, 8, 0⟩
def TK_COUNTL.COUNT : Field := ⟨0x1014, 0, 24, 0⟩
def TK_INDEX.INDEX : Field := ⟨0x1018, 0, 16, 0⟩
def TK_STATUS.OVERRUN : Field := ⟨0x101c, 2, 1, 0⟩
def TK_STATUS.STEPPED : Field := ⟨0x101c, 1, 1, 0⟩
def TK_STATUS.RATE_PEND : Field := ⟨0x101c, 0, 1, 0⟩
def TK_SKIPPED.COUNT : Field := ⟨0x1020, 0, 24, 0⟩
def TK_REPEATED.COUNT : Field := ⟨0x1024, 0, 24, 0⟩
def TK_OVERRUNS.COUNT : Field := ⟨0x1028, 0, 24, 0⟩
def TK_STARVE.TICKS : Field := ⟨0x102c, 0, 8, 0⟩
def TK_STARVED.RING : Field := ⟨0x1030, 0, 16, 0⟩
def TK_SPILLEND.CYCLES : Field := ⟨0x1034, 0, 24, 0⟩
def TK_SHARE.SHARE (r : Nat) : Field := ⟨0x1040 + 4 * r, 0, 10, (if r = 15 then 50 else 0)⟩
def TK_USED.CYCLES (r : Nat) : Field := ⟨0x1080 + 4 * r, 0, 24, 0⟩
/-! R87, spec/04_control_aperture_and_rings.md -/

def QU_APCTL.EN : Field := ⟨0x2000, 16, 1, 0⟩
def QU_APCTL.BASE : Field := ⟨0x2000, 0, 16, 0⟩
def QU_EVENA.CQ : Field := ⟨0x2004, 20, 4, 0⟩
def QU_EVENA.UNIT : Field := ⟨0x2004, 0, 20, 0⟩
def QU_EVPEND.CQ : Field := ⟨0x2008, 20, 4, 0⟩
def QU_EVPEND.UNIT : Field := ⟨0x2008, 0, 20, 0⟩
def QU_CQMAPL.MAP : Field := ⟨0x200c, 0, 16, 0⟩
def QU_CQMAPH.MAP15 : Field := ⟨0x2010, 14, 2, 3⟩
def QU_CQMAPH.MAP : Field := ⟨0x2010, 0, 14, 0⟩
def QU_R15CTL.SEIZED : Field := ⟨0x2014, 9, 1, 0⟩
def QU_R15CTL.OWNER : Field := ⟨0x2014, 8, 1, 0⟩
def QU_R15CTL.RETURN : Field := ⟨0x2014, 1, 1, 0⟩
def QU_R15CTL.GIVE : Field := ⟨0x2014, 0, 1, 0⟩
def QU_HELD.RING : Field := ⟨0x2018, 0, 16, 0⟩
def QU_CQTAIL.TAIL (m : Nat) : Field := ⟨0x2040 + 16 * m, 0, 24, 0⟩
def QU_CQHEAD.HEAD (m : Nat) : Field := ⟨0x2044 + 16 * m, 0, 24, 0⟩
def QU_CQIRQ.AGE (m : Nat) : Field := ⟨0x2048 + 16 * m, 11, 8, 0⟩
def QU_CQIRQ.COUNT (m : Nat) : Field := ⟨0x2048 + 16 * m, 0, 11, 1⟩
def QU_CQRES.RESV (m : Nat) : Field := ⟨0x204c + 16 * m, 0, 11, 0⟩
def QU_TAIL.TAIL (r : Nat) : Field := ⟨0x2100 + 32 * r, 0, 24, 0⟩
def QU_HEAD.HEAD (r : Nat) : Field := ⟨0x2104 + 32 * r, 0, 24, 0⟩
def QU_MODE.RES (r : Nat) : Field := ⟨0x2108 + 32 * r, 14, 1, 0⟩
def QU_MODE.ENTRY (r : Nat) : Field := ⟨0x2108 + 32 * r, 0, 14, 0⟩
def QU_PER.PERIOD (r : Nat) : Field := ⟨0x210c + 32 * r, 0, 16, 1⟩
def QU_STAT.SKIPS (r : Nat) : Field := ⟨0x2110 + 32 * r, 0, 24, 0⟩
def QU_OUT.OUT (r : Nat) : Field := ⟨0x2114 + 32 * r, 0, 12, 0⟩
/-! R148, spec/06_host_memory_path.md -/

def HP_CONFIG.RANKS : Field := ⟨0x3000, 16, 3, 0⟩
def HP_CONFIG.WIDTH : Field := ⟨0x3000, 15, 1, 0⟩
def HP_CONFIG.DENS : Field := ⟨0x3000, 14, 1, 0⟩
def HP_CONFIG.GIB : Field := ⟨0x3000, 0, 7, 0⟩
def HP_RATE.MTS : Field := ⟨0x3004, 0, 12, 0⟩
def HP_STATUS.BASE : Field := ⟨0x3008, 5, 1, 0⟩
def HP_STATUS.DTH : Field := ⟨0x3008, 4, 1, 0⟩
def HP_STATUS.DTI : Field := ⟨0x3008, 3, 1, 0⟩
def HP_STATUS.HTRAIN : Field := ⟨0x3008, 2, 1, 0⟩
def HP_STATUS.SCRUBBING : Field := ⟨0x3008, 1, 1, 0⟩
def HP_STATUS.DEFERRED : Field := ⟨0x3008, 0, 1, 0⟩
def HP_OWN.BLOCK : Field := ⟨0x300c, 3, 1, 0⟩
def HP_OWN.STATE : Field := ⟨0x300c, 0, 2, 1⟩
def HP_OWNCTL.RETRAIN : Field := ⟨0x3010, 1, 1, 0⟩
def HP_OWNCTL.CLAIM : Field := ⟨0x3010, 0, 1, 0⟩
def HP_SCRUBCFG.EN : Field := ⟨0x3014, 0, 1, 1⟩
def HP_CHKPAT.PAT : Field := ⟨0x3018, 0, 8, 0⟩
def HP_ECCCTL.LOCK : Field := ⟨0x301c, 1, 1, 0⟩
def HP_ECCCTL.MODE : Field := ⟨0x301c, 0, 1, 0⟩
def HP_ABSORBED.COUNT : Field := ⟨0x3020, 0, 24, 0⟩
def HP_CHKMISM.COUNT : Field := ⟨0x3024, 0, 24, 0⟩
def HP_PARERR.COUNT : Field := ⟨0x3028, 0, 24, 0⟩
def HP_SCRUBPEND.COUNT : Field := ⟨0x302c, 0, 4, 0⟩
def HP_ECCCOL.COL (k : Nat) : Field := ⟨0x3100 + 4 * k, 0, 8, 0⟩
/-! R176, spec/07_regions_and_shadow.md -/

def SH_STATUS.JFULL : Field := ⟨0x4000, 6, 1, 0⟩
def SH_STATUS.FOLDHELD : Field := ⟨0x4000, 5, 1, 0⟩
def SH_STATUS.FOLDING : Field := ⟨0x4000, 4, 1, 0⟩
def SH_STATUS.PINNED : Field := ⟨0x4000, 3, 1, 0⟩
def SH_STATUS.PDIRTY : Field := ⟨0x4000, 2, 1, 0⟩
def SH_STATUS.LOW : Field := ⟨0x4000, 1, 1, 0⟩
def SH_STATUS.SHORT : Field := ⟨0x4000, 0, 1, 0⟩
def SH_CTL.AUTOFOLD : Field := ⟨0x4004, 1, 1, 1⟩
def SH_CTL.LOOP : Field := ⟨0x4004, 0, 1, 1⟩
def SH_BWREQ.MBS : Field := ⟨0x4008, 0, 11, 200⟩
def SH_BWMIN.MBS : Field := ⟨0x400c, 0, 11, 50⟩
def SH_BWMAX.MBS : Field := ⟨0x4010, 0, 11, 1200⟩
def SH_BWMAN.MBS : Field := ⟨0x4014, 0, 11, 200⟩
def SH_BWNOW.MBS : Field := ⟨0x4018, 0, 11, 0⟩
def SH_FLASHRATE.MBS : Field := ⟨0x401c, 0, 11, 0⟩
def SH_CAPFILL.ENTRIES : Field := ⟨0x4020, 0, 15, 0⟩
def SH_OVERFLOWS.COUNT : Field := ⟨0x4024, 0, 24, 0⟩
def SH_DIRTYH.PAGES : Field := ⟨0x4028, 0, 1, 0⟩
def SH_DIRTYL.PAGES : Field := ⟨0x402c, 0, 24, 0⟩
def SH_UNSHAD.MIB : Field := ⟨0x4030, 0, 17, 0⟩
def SH_EREQ.E : Field := ⟨0x4034, 0, 24, 0⟩
def SH_MARGIN.E : Field := ⟨0x4038, 0, 24, 0⟩
def SH_DIRTYCAP.MIB : Field := ⟨0x403c, 0, 17, 0⟩
def SH_EFIXED.E : Field := ⟨0x4040, 0, 24, 120⟩
def SH_ERES.E : Field := ⟨0x4044, 0, 24, 500⟩
def SH_EPERGIB.E : Field := ⟨0x4048, 0, 24, 940⟩
def SH_WARN.E : Field := ⟨0x404c, 0, 24, 1000⟩
def SH_BARH.BAR : Field := ⟨0x4050, 0, 24, 0⟩
def SH_BARL.BAR : Field := ⟨0x4054, 0, 24, 0⟩
def SH_RECBARH.BAR : Field := ⟨0x4058, 0, 24, 0⟩
def SH_RECBARL.BAR : Field := ⟨0x405c, 0, 24, 0⟩
def SH_JSEQH.JSEQ : Field := ⟨0x4060, 0, 24, 0⟩
def SH_JSEQL.JSEQ : Field := ⟨0x4064, 0, 24, 0⟩
def SH_JFILL.PERMIL : Field := ⟨0x4068, 0, 10, 0⟩
def SH_FOLDAT.PERMIL : Field := ⟨0x406c, 0, 10, 500⟩
def SH_BASEGEN.GEN : Field := ⟨0x4070, 0, 24, 0⟩
def SH_EPOCH.EPOCH : Field := ⟨0x4074, 0, 24, 0⟩
def SH_RG_A.VALID (k : Nat) : Field := ⟨0x4100 + 16 * k, 23, 1, 0⟩
def SH_RG_A.KIND (k : Nat) : Field := ⟨0x4100 + 16 * k, 20, 2, 0⟩
def SH_RG_A.START (k : Nat) : Field := ⟨0x4100 + 16 * k, 0, 20, 0⟩
def SH_RG_B.PRIO (k : Nat) : Field := ⟨0x4104 + 16 * k, 21, 3, 0⟩
def SH_RG_B.COUNT (k : Nat) : Field := ⟨0x4104 + 16 * k, 0, 21, 0⟩
def SH_RG_C.DIRTY (k : Nat) : Field := ⟨0x4108 + 16 * k, 0, 24, 0⟩
/-! R210, spec/08_save_and_restore.md -/

def SV_STATUS.WIN : Field := ⟨0x5000, 9, 1, 0⟩
def SV_STATUS.STAGED : Field := ⟨0x5000, 8, 1, 0⟩
def SV_STATUS.PFW : Field := ⟨0x5000, 7, 1, 0⟩
def SV_STATUS.IMAGE : Field := ⟨0x5000, 4, 2, 0⟩
def SV_STATUS.ARMED : Field := ⟨0x5000, 3, 1, 0⟩
def SV_STATUS.STATE : Field := ⟨0x5000, 0, 3, 0⟩
def SV_ARMCFG.LKPF : Field := ⟨0x5004, 15, 1, 0⟩
def SV_ARMCFG.HYST : Field := ⟨0x5004, 10, 4, 4⟩
def SV_ARMCFG.GRACE : Field := ⟨0x5004, 0, 6, 10⟩
def SV_WARN.WARN : Field := ⟨0x5008, 0, 11, 1020⟩
def SV_SAVESH.SEQ : Field := ⟨0x500c, 0, 24, 0⟩
def SV_SAVESL.SEQ : Field := ⟨0x5010, 0, 24, 0⟩
def SV_LASTSAVE.STATE : Field := ⟨0x5014, 0, 2, 0⟩
def SV_RESULT.KIND : Field := ⟨0x5018, 22, 2, 0⟩
def SV_RESULT.DAMAGED : Field := ⟨0x5018, 0, 22, 0⟩
def SV_RBARH.BAR : Field := ⟨0x501c, 0, 24, 0⟩
def SV_RBARL.BAR : Field := ⟨0x5020, 0, 24, 0⟩
def SV_RSTAMP.STAMP (i : Nat) : Field := ⟨0x5024 + 4 * i, 0, 24, 0⟩
def SV_READY.RGN (i : Nat) : Field := ⟨0x5030 + 4 * i, 0, 24, 0⟩
def SV_STAGECTL.HOSTWIN : Field := ⟨0x503c, 0, 1, 0⟩
def SV_WINMAX.MS : Field := ⟨0x5040, 0, 10, 100⟩
def SV_WITHDRAWALS.COUNT : Field := ⟨0x5044, 0, 24, 0⟩
/-! R235, spec/09_flash_store.md -/

def FL_STATUS.RETSCAN : Field := ⟨0x6000, 7, 1, 0⟩
def FL_STATUS.PATROL : Field := ⟨0x6000, 6, 1, 0⟩
def FL_STATUS.CAPSHORT : Field := ⟨0x6000, 5, 1, 0⟩
def FL_STATUS.SPARELOW : Field := ⟨0x6000, 4, 1, 0⟩
def FL_STATUS.MISMATCH : Field := ⟨0x6000, 3, 1, 0⟩
def FL_STATUS.FORMATTING : Field := ⟨0x6000, 2, 1, 0⟩
def FL_STATUS.NOBASE : Field := ⟨0x6000, 1, 1, 0⟩
def FL_STATUS.READY : Field := ⟨0x6000, 0, 1, 0⟩
def FL_GEOM0.CHANNELS : Field := ⟨0x6004, 20, 4, 0⟩
def FL_GEOM0.TARGETS : Field := ⟨0x6004, 18, 2, 0⟩
def FL_GEOM0.LUNS : Field := ⟨0x6004, 16, 2, 0⟩
def FL_GEOM0.PLANES : Field := ⟨0x6004, 14, 2, 0⟩
def FL_GEOM0.PAGESZ : Field := ⟨0x6004, 12, 2, 0⟩
def FL_GEOM0.PARITY : Field := ⟨0x6004, 10, 2, 0⟩
def FL_GEOM1.PAGES : Field := ⟨0x6008, 0, 11, 0⟩
def FL_GEOM2.BLOCKS : Field := ⟨0x600c, 0, 14, 0⟩
def FL_CHUSE.CH : Field := ⟨0x6010, 0, 4, 0⟩
def FL_RATE.MBS : Field := ⟨0x6014, 0, 12, 0⟩
def FL_BGSHARE.PCT : Field := ⟨0x6018, 0, 6, 28⟩
def FL_PATROL.HOURS : Field := ⟨0x601c, 0, 10, 24⟩
def FL_WEAKPCT.PCT : Field := ⟨0x6020, 0, 7, 60⟩
def FL_RETSTALE.DAYS : Field := ⟨0x6024, 0, 9, 30⟩
def FL_ERESV.STRIPES : Field := ⟨0x6028, 0, 5, 4⟩
def FL_LIFEWARN.DAYS : Field := ⟨0x602c, 0, 16, 3650⟩
def FL_JSTRIPES.STRIPES : Field := ⟨0x6030, 0, 13, 0⟩
def FL_RATEDPE.CYCLES : Field := ⟨0x6034, 0, 24, 0⟩
def FL_MEANPE.CYCLES : Field := ⟨0x6038, 0, 24, 0⟩
def FL_MAXPE.CYCLES : Field := ⟨0x603c, 0, 24, 0⟩
def FL_STRIPES.COUNT : Field := ⟨0x6040, 0, 13, 0⟩
def FL_ERASED.COUNT : Field := ⟨0x6044, 0, 13, 0⟩
def FL_CAPGIB.GIB : Field := ⟨0x6048, 0, 24, 0⟩
def FL_REQGIB.GIB : Field := ⟨0x604c, 0, 24, 0⟩
def FL_CORR.COUNT : Field := ⟨0x6050, 0, 24, 0⟩
def FL_RETRIES.COUNT : Field := ⟨0x6054, 0, 24, 0⟩
def FL_UNCORR.COUNT : Field := ⟨0x6058, 0, 24, 0⟩
def FL_GROWN.COUNT : Field := ⟨0x605c, 0, 24, 0⟩
def FL_LIFEMEAS.DAYS : Field := ⟨0x6060, 0, 24, 0⟩
def FL_LIFEBW.DAYS : Field := ⟨0x6064, 0, 24, 0⟩
def FL_WA.HUNDREDTHS : Field := ⟨0x6068, 0, 16, 0⟩
def FL_PATROLAGE.HOURS : Field := ⟨0x606c, 0, 24, 0⟩
/-! R260, spec/10_rails_and_sequencing.md -/

def PW_STATE.PREV : Field := ⟨0x7000, 4, 4, 0⟩
def PW_STATE.STATE : Field := ⟨0x7000, 0, 4, 1⟩
def PW_CTL.AUXWAKE : Field := ⟨0x7004, 5, 1, 1⟩
def PW_CTL.AUXSTBY : Field := ⟨0x7004, 4, 1, 1⟩
def PW_CTL.WAKE : Field := ⟨0x7004, 1, 1, 0⟩
def PW_CTL.UNLATCH : Field := ⟨0x7004, 0, 1, 0⟩
def PW_WAKE.STATE : Field := ⟨0x7008, 0, 4, 4⟩
def PW_TFAULT.MS : Field := ⟨0x700c, 0, 7, 5⟩
def PW_STATUS.FAULTEP : Field := ⟨0x7010, 5, 1, 0⟩
def PW_STATUS.SEQ : Field := ⟨0x7010, 4, 1, 0⟩
def PW_STATUS.FLINE : Field := ⟨0x7010, 3, 1, 0⟩
def PW_STATUS.FAULTOUT : Field := ⟨0x7010, 2, 1, 0⟩
def PW_STATUS.HOLDWAKE : Field := ⟨0x7010, 1, 1, 0⟩
def PW_STATUS.LATCHED : Field := ⟨0x7010, 0, 1, 0⟩
def PW_LATCH.CAUSE : Field := ⟨0x7014, 4, 3, 0⟩
def PW_LATCH.RAIL : Field := ⟨0x7014, 0, 4, 0⟩
def PW_ON.EN : Field := ⟨0x7018, 0, 12, 0⟩
def PW_GOOD.RAIL : Field := ⟨0x701c, 0, 12, 0⟩
def PW_STUCK.RAIL : Field := ⟨0x7020, 0, 12, 0⟩
def PW_FAULTS.COUNT : Field := ⟨0x7024, 0, 24, 0⟩
def PW_FAULTCFG.FLATCH : Field := ⟨0x7028, 0, 1, 1⟩
def PW_MG.STEP (m : Nat) : Field := ⟨0x7040 + 4 * m, 4, 3, 0⟩
def PW_MG.RAIL (m : Nat) : Field := ⟨0x7040 + 4 * m, 0, 4, 15⟩
def PW_RAIL_A.FAULTN (k : Nat) : Field := ⟨0x7100 + 16 * k, 22, 1, 1⟩
def PW_RAIL_A.DISEN (k : Nat) : Field := ⟨0x7100 + 16 * k, 21, 1, 0⟩
def PW_RAIL_A.ISOLATE (k : Nat) : Field := ⟨0x7100 + 16 * k, 20, 1, 0⟩
def PW_RAIL_A.SETTLE (k : Nat) : Field := ⟨0x7100 + 16 * k, 12, 8, (settleFactory.getD k 0)⟩
def PW_RAIL_A.DEP (k : Nat) : Field := ⟨0x7100 + 16 * k, 0, 12, (depFactory.getD k 0)⟩
def PW_RAIL_B.OFFPCT (k : Nat) : Field := ⟨0x7104 + 16 * k, 16, 6, 10⟩
def PW_RAIL_B.OFFTO (k : Nat) : Field := ⟨0x7104 + 16 * k, 8, 8, 20⟩
def PW_RAIL_B.TSTART (k : Nat) : Field := ⟨0x7104 + 16 * k, 0, 8, 10⟩
def PW_RAIL_C.RANK (k : Nat) : Field := ⟨0x7108 + 16 * k, 3, 4, 0⟩
def PW_RAIL_C.STATE (k : Nat) : Field := ⟨0x7108 + 16 * k, 0, 3, 0⟩
/-! R283, spec/11_monitors_and_converter.md -/

def MN_STATUS.REFFAIL : Field := ⟨0x8000, 1, 1, 0⟩
def MN_STATUS.AUDFAIL : Field := ⟨0x8000, 0, 1, 0⟩
def MN_SCAN.AVG : Field := ⟨0x8004, 16, 3, 1⟩
def MN_SCAN.TICKS : Field := ⟨0x8004, 0, 16, 20⟩
def MN_SCANEN0.IN : Field := ⟨0x8008, 0, 24, 0x7FFFFF⟩
def MN_SCANEN1.IN : Field := ⟨0x800c, 0, 16, 0xF800⟩
def MN_LOW0.CH : Field := ⟨0x8010, 0, 24, 0⟩
def MN_LOW1.CH : Field := ⟨0x8014, 0, 8, 0⟩
def MN_HIGH0.CH : Field := ⟨0x8018, 0, 24, 0⟩
def MN_HIGH1.CH : Field := ⟨0x801c, 0, 8, 0⟩
def MN_STKLO0.CH : Field := ⟨0x8020, 0, 24, 0⟩
def MN_STKLO1.CH : Field := ⟨0x8024, 0, 8, 0⟩
def MN_STKHI0.CH : Field := ⟨0x8028, 0, 24, 0⟩
def MN_STKHI1.CH : Field := ⟨0x802c, 0, 8, 0⟩
def MN_AUDFAIL0.CH : Field := ⟨0x8030, 0, 24, 0⟩
def MN_AUDFAIL1.CH : Field := ⟨0x8034, 0, 8, 0⟩
def MN_AUDTOL.TOL : Field := ⟨0x8038, 0, 5, 6⟩
def MN_SCANSKIP.COUNT : Field := ⟨0x803c, 0, 24, 0⟩
def MN_FLSEL.SLOT : Field := ⟨0x8040, 0, 10, 0⟩
def MN_FLNEWEST.SLOT : Field := ⟨0x8044, 0, 10, 0⟩
def MN_FLCOUNT.COUNT : Field := ⟨0x8048, 0, 11, 0⟩
def MN_FLSTAT.PINNED : Field := ⟨0x804c, 1, 1, 0⟩
def MN_FLSTAT.VALID : Field := ⟨0x804c, 0, 1, 0⟩
def MN_FLLOST.COUNT : Field := ⟨0x8050, 0, 24, 0⟩
def MN_FLTORN.COUNT : Field := ⟨0x8054, 0, 24, 0⟩
def MN_FLDROP.COUNT : Field := ⟨0x8058, 0, 24, 0⟩
def MN_MGSEL.MG : Field := ⟨0x805c, 0, 2, 0⟩
def MN_WMON.EN (j : Nat) : Field := ⟨0x8060 + 4 * j, 23, 1, 0⟩
def MN_WMON.POL (j : Nat) : Field := ⟨0x8060 + 4 * j, 22, 1, 0⟩
def MN_WMON.OD (j : Nat) : Field := ⟨0x8060 + 4 * j, 21, 1, 0⟩
def MN_WMON.RAW (j : Nat) : Field := ⟨0x8060 + 4 * j, 20, 1, 0⟩
def MN_WMON.COND (j : Nat) : Field := ⟨0x8060 + 4 * j, 18, 2, 0⟩
def MN_WMON.CH (j : Nat) : Field := ⟨0x8060 + 4 * j, 0, 5, 0⟩
def MN_CH_A.ATT (n : Nat) : Field := ⟨0x8100 + 32 * n, 20, 2, (attFactory n)⟩
def MN_CH_A.MODE (n : Nat) : Field := ⟨0x8100 + 32 * n, 17, 3, (modeFactory n)⟩
def MN_CH_A.LPMODE (n : Nat) : Field := ⟨0x8100 + 32 * n, 14, 3, (lpmodeFactory n)⟩
def MN_CH_A.HYS (n : Nat) : Field := ⟨0x8100 + 32 * n, 8, 6, (hysFactory n)⟩
def MN_CH_A.DGL (n : Nat) : Field := ⟨0x8100 + 32 * n, 0, 8, (dglFactory n)⟩
def MN_CH_B.EVT (n : Nat) : Field := ⟨0x8104 + 32 * n, 20, 1, 0⟩
def MN_CH_B.HI (n : Nat) : Field := ⟨0x8104 + 32 * n, 10, 10, (hiFactory n)⟩
def MN_CH_B.LO (n : Nat) : Field := ⟨0x8104 + 32 * n, 0, 10, (loFactory n)⟩
def MN_CH_C.NOM (n : Nat) : Field := ⟨0x8108 + 32 * n, 0, 10, (nomFactory n)⟩
def MN_CH_D.HI (n : Nat) : Field := ⟨0x810c + 32 * n, 10, 10, (hiFactory n)⟩
def MN_CH_D.LO (n : Nat) : Field := ⟨0x810c + 32 * n, 0, 10, (loFactory n)⟩
def MN_CH_E.GAIN (n : Nat) : Field := ⟨0x8110 + 32 * n, 0, 24, (gainFactory n)⟩
def MN_RAW.RAW (i : Nat) : Field := ⟨0x8500 + 4 * i, 0, 24, 0⟩
def MN_VAL.VAL (i : Nat) : Field := ⟨0x8600 + 4 * i, 0, 24, 0⟩
def MN_FLWIN.WORD (w : Nat) : Field := ⟨0x8800 + 4 * w, 0, 24, 0⟩
/-! R309, spec/12_battery_and_gauge.md -/

def BT_STATUS.RPINNED : Field := ⟨0x9000, 11, 1, 0⟩
def BT_STATUS.FPINNED : Field := ⟨0x9000, 10, 1, 0⟩
def BT_STATUS.OVERI : Field := ⟨0x9000, 9, 1, 0⟩
def BT_STATUS.BALANCING : Field := ⟨0x9000, 8, 1, 0⟩
def BT_STATUS.CUTOFF : Field := ⟨0x9000, 7, 1, 0⟩
def BT_STATUS.UNCERT : Field := ⟨0x9000, 6, 1, 0⟩
def BT_STATUS.DISAGREE : Field := ⟨0x9000, 5, 1, 0⟩
def BT_STATUS.PATH : Field := ⟨0x9000, 4, 1, 0⟩
def BT_STATUS.VINOK : Field := ⟨0x9000, 3, 1, 0⟩
def BT_STATUS.RANGE : Field := ⟨0x9000, 2, 1, 0⟩
def BT_STATUS.INSERTING : Field := ⟨0x9000, 1, 1, 0⟩
def BT_STATUS.PACK_ABSENT : Field := ⟨0x9000, 0, 1, 0⟩
def BT_CTL.BALEN : Field := ⟨0x9004, 3, 1, 1⟩
def BT_CTL.FLOOP : Field := ⟨0x9004, 2, 1, 1⟩
def BT_CTL.RNGLOOP : Field := ⟨0x9004, 1, 1, 1⟩
def BT_CTL.CHGEN : Field := ⟨0x9004, 0, 1, 1⟩
def BT_PHASE.PHASE : Field := ⟨0x9008, 0, 3, 0⟩
def BT_ICHG.MA : Field := ⟨0x900c, 0, 10, 500⟩
def BT_VCHG.MV : Field := ⟨0x9010, 0, 12, 3600⟩
def BT_ITERM.MA : Field := ⟨0x9014, 0, 8, 30⟩
def BT_VFLOAT.MV : Field := ⟨0x9018, 0, 12, 3350⟩
def BT_TCOMP.TC : Field := ⟨0x901c, 0, 6, 20⟩
def BT_VFMIN.MV : Field := ⟨0x9020, 0, 12, 3300⟩
def BT_VFMAX.MV : Field := ⟨0x9024, 0, 12, 3400⟩
def BT_VFMAN.MV : Field := ⟨0x9028, 0, 12, 3350⟩
def BT_VFNOW.MV : Field := ⟨0x902c, 0, 12, 0⟩
def BT_RNG.MAN : Field := ⟨0x9030, 2, 1, 0⟩
def BT_RNG.MAX : Field := ⟨0x9030, 1, 1, 1⟩
def BT_RNG.MIN : Field := ⟨0x9030, 0, 1, 0⟩
def BT_RNGRET.MA : Field := ⟨0x9034, 0, 9, 250⟩
def BT_RNGHYS.N : Field := ⟨0x9038, 0, 8, 8⟩
def BT_BAL.ON : Field := ⟨0x903c, 8, 8, 20⟩
def BT_BAL.OFF : Field := ⟨0x903c, 0, 8, 5⟩
def BT_QACCH.QACC : Field := ⟨0x9040, 0, 24, 0⟩
def BT_QACCL.QACC : Field := ⟨0x9044, 0, 24, 0⟩
def BT_QREM.Q : Field := ⟨0x9048, 0, 24, 0⟩
def BT_CAP.Q : Field := ⟨0x904c, 0, 24, 15000⟩
def BT_CAPNOM.Q : Field := ⟨0x9050, 0, 24, 15000⟩
def BT_SOC.PCT : Field := ⟨0x9054, 0, 10, 0⟩
def BT_SOCCC.PCT : Field := ⟨0x9058, 0, 10, 0⟩
def BT_SOCD.PCT : Field := ⟨0x905c, 0, 10, 0⟩
def BT_VRANGE.VHI : Field := ⟨0x9060, 10, 10, 0⟩
def BT_VRANGE.VLO : Field := ⟨0x9060, 0, 10, 0⟩
def BT_DTOL.PCT : Field := ⟨0x9064, 0, 10, 50⟩
def BT_QOVER.Q : Field := ⟨0x9068, 0, 24, 0⟩
def BT_KEEP.Q : Field := ⟨0x906c, 0, 24, 6000⟩
def BT_VSAVE.MV : Field := ⟨0x9070, 0, 13, 6000⟩
def BT_EFF.PCT : Field := ⟨0x9074, 0, 7, 85⟩
def BT_RCELL.MOHM : Field := ⟨0x9078, 0, 9, 60⟩
def BT_EAVAIL.E : Field := ⟨0x907c, 0, 24, 0⟩
def BT_VCELL1.MV : Field := ⟨0x9080, 0, 13, 0⟩
def BT_VCELL2.MV : Field := ⟨0x9084, 0, 13, 0⟩
def BT_VPACK.MV : Field := ⟨0x9088, 0, 13, 0⟩
def BT_IPACK.MA : Field := ⟨0x908c, 0, 24, 0⟩
def BT_TEMP.DC : Field := ⟨0x9090, 0, 24, 0⟩
def BT_VCUT.MV : Field := ⟨0x9094, 0, 12, 2800⟩
def BT_VEXH.MV : Field := ⟨0x9098, 0, 12, 2600⟩
def BT_CTIMEOUT.MIN : Field := ⟨0x909c, 0, 11, 360⟩
def BT_REMOVALS.COUNT : Field := ⟨0x90a0, 0, 24, 0⟩
def BT_FULLS.COUNT : Field := ⟨0x90a4, 0, 24, 0⟩
/-! R338, spec/13_time_base.md -/

def TM_STATUS.LEARNED : Field := ⟨0xa000, 11, 1, 0⟩
def TM_STATUS.LOGSTOP : Field := ⟨0xa000, 10, 1, 0⟩
def TM_STATUS.XTAL : Field := ⟨0xa000, 9, 1, 0⟩
def TM_STATUS.OSCFAIL : Field := ⟨0xa000, 8, 1, 0⟩
def TM_STATUS.DISAGREE : Field := ⟨0xa000, 7, 1, 0⟩
def TM_STATUS.PINNED : Field := ⟨0xa000, 6, 1, 0⟩
def TM_STATUS.SLEWING : Field := ⟨0xa000, 5, 1, 0⟩
def TM_STATUS.SRC : Field := ⟨0xa000, 2, 3, 0⟩
def TM_STATUS.QUAL : Field := ⟨0xa000, 0, 2, 0⟩
def TM_CTL.FORGET : Field := ⟨0xa004, 3, 1, 0⟩
def TM_CTL.LEARN : Field := ⟨0xa004, 2, 1, 1⟩
def TM_CTL.NOSTEP : Field := ⟨0xa004, 1, 1, 0⟩
def TM_CTL.LOOP : Field := ⟨0xa004, 0, 1, 1⟩
def TM_SRCPRIO.PRIO : Field := ⟨0xa008, 0, 12, 0x29C⟩
def TM_SRCQ.Q : Field := ⟨0xa00c, 0, 4, 0⟩
def TM_NOW.STAMP (i : Nat) : Field := ⟨0xa010 + 4 * i, 0, 24, 0⟩
def TM_ERRBOUND.T : Field := ⟨0xa01c, 0, 24, 0xFFFFFF⟩
def TM_PHERR.T : Field := ⟨0xa020, 0, 24, 0⟩
def TM_FREQNOW.F : Field := ⟨0xa024, 0, 24, 0⟩
def TM_SLEWMIN.F : Field := ⟨0xa028, 0, 24, (0x1000000-100000)⟩
def TM_SLEWMAX.F : Field := ⟨0xa02c, 0, 24, 100000⟩
def TM_FREQMAN.F : Field := ⟨0xa030, 0, 24, 0⟩
def TM_SERVOTC.S : Field := ⟨0xa034, 0, 11, 16⟩
def TM_STEPTHR.T : Field := ⟨0xa038, 0, 24, 100000⟩
def TM_TRIM.T : Field := ⟨0xa03c, 0, 24, 0⟩
def TM_SRCCFG.LOCKTHR (s : Nat) : Field := ⟨0xa03c + 4 * s, 12, 12, (lockthrFactory s)⟩
def TM_SRCCFG.SRCERR (s : Nat) : Field := ⟨0xa03c + 4 * s, 0, 12, (srcerrFactory s)⟩
def TM_DISTOL.T : Field := ⟨0xa050, 0, 24, 1000⟩
def TM_HOLDU.UNL : Field := ⟨0xa054, 12, 12, 250⟩
def TM_HOLDU.LRN : Field := ⟨0xa054, 0, 12, 30⟩
def TM_HOLDLIM.T : Field := ⟨0xa058, 0, 24, 100000⟩
def TM_XTAL.XTU : Field := ⟨0xa05c, 12, 12, 100⟩
def TM_XTAL.XTK : Field := ⟨0xa05c, 0, 12, 34⟩
def TM_XTOFS.F : Field := ⟨0xa060, 0, 24, 0⟩
def TM_TCXOMAX.H : Field := ⟨0xa064, 0, 14, 168⟩
def TM_UTCOFS.S : Field := ⟨0xa068, 0, 8, 37⟩
def TM_LEAP.SETTER : Field := ⟨0xa06c, 2, 2, 0⟩
def TM_LEAP.PEND : Field := ⟨0xa06c, 0, 2, 0⟩
def TM_LEAPATH.AT : Field := ⟨0xa070, 0, 16, 0⟩
def TM_LEAPATL.AT : Field := ⟨0xa074, 0, 24, 0⟩
def TM_PPSIN.DLY : Field := ⟨0xa078, 8, 16, 0⟩
def TM_PPSIN.EDGE : Field := ⟨0xa078, 0, 1, 0⟩
def TM_PPSOUT.ADV : Field := ⟨0xa07c, 8, 16, 0⟩
def TM_PPSOUT.QMIN : Field := ⟨0xa07c, 2, 2, 2⟩
def TM_PPSOUT.POL : Field := ⟨0xa07c, 1, 1, 1⟩
def TM_PPSOUT.EN : Field := ⟨0xa07c, 0, 1, 1⟩
def TM_PPSWID.US : Field := ⟨0xa080, 0, 19, 100000⟩
def TM_IRIGIN.DLY : Field := ⟨0xa084, 8, 16, 0⟩
def TM_IRIGIN.TQMAX : Field := ⟨0xa084, 4, 4, 4⟩
def TM_IRIGIN.EXT : Field := ⟨0xa084, 3, 1, 1⟩
def TM_IRIGIN.FMT : Field := ⟨0xa084, 0, 3, 4⟩
def TM_IRIGOUT.ADV : Field := ⟨0xa088, 8, 16, 0⟩
def TM_IRIGOUT.EN : Field := ⟨0xa088, 7, 1, 1⟩
def TM_IRIGOUT.EXT : Field := ⟨0xa088, 6, 1, 1⟩
def TM_IRIGOUT.FMT : Field := ⟨0xa088, 3, 3, 4⟩
def TM_IRIGOFS.HH : Field := ⟨0xa08c, 0, 6, 0⟩
def TM_GNSS.ASSOC : Field := ⟨0xa090, 0, 1, 0⟩
def TM_CLASS.CLASS : Field := ⟨0xa094, 0, 3, 0⟩
def TM_PPSBAD.COUNT : Field := ⟨0xa098, 0, 24, 0⟩
def TM_IRIGBAD.COUNT : Field := ⟨0xa09c, 0, 24, 0⟩
def TM_NMEABAD.COUNT : Field := ⟨0xa0a0, 0, 24, 0⟩
def TM_STEPS.COUNT : Field := ⟨0xa0a4, 0, 24, 0⟩
def TM_SAVTCXO.MIN : Field := ⟨0xa0a8, 0, 24, 0⟩
def TM_SAVXT.MIN : Field := ⟨0xa0ac, 0, 24, 0⟩
def TM_SNAPCTL.SNAP : Field := ⟨0xa0b0, 0, 1, 0⟩
def TM_SNAP.STAMP (i : Nat) : Field := ⟨0xa0b4 + 4 * i, 0, 24, 0⟩
def TM_CAP.STAMP (k : Nat) (i : Nat) : Field := ⟨0xa100 + 16 * k + 4 * i, 0, 24, 0⟩
def TM_CAP_S.ST (k : Nat) : Field := ⟨0xa10c + 16 * k, 0, 2, 0⟩
def TM_LOGCFG.STOP : Field := ⟨0xa200, 0, 1, 0⟩
def TM_LOGPAGE.PAGE : Field := ⟨0xa204, 0, 4, 0⟩
def TM_LOGOLD.SLOT : Field := ⟨0xa208, 0, 14, 0⟩
def TM_LOGCOUNT.N : Field := ⟨0xa20c, 0, 15, 0⟩
def TM_LOGLOST.COUNT : Field := ⟨0xa210, 0, 24, 0⟩
def TM_LOGREL.SEQ : Field := ⟨0xa214, 0, 24, 0⟩
def TM_EVSEQ.SEQ : Field := ⟨0xa218, 0, 24, 0⟩
def TM_TBIN.F (k : Nat) : Field := ⟨0xa400 + 8 * k, 0, 24, 0⟩
def TM_TBINN.N (k : Nat) : Field := ⟨0xa404 + 8 * k, 0, 16, 0⟩
/-! R364, spec/14_credential_card_port.md -/

def SC_STATUS.CRC : Field := ⟨0xb000, 10, 1, 0⟩
def SC_STATUS.RELREQ : Field := ⟨0xb000, 9, 1, 0⟩
def SC_STATUS.CLKSTOP : Field := ⟨0xb000, 8, 1, 0⟩
def SC_STATUS.PRESENT : Field := ⟨0xb000, 7, 1, 0⟩
def SC_STATUS.T1 : Field := ⟨0xb000, 6, 1, 0⟩
def SC_STATUS.INV : Field := ⟨0xb000, 5, 1, 0⟩
def SC_STATUS.CLASS : Field := ⟨0xb000, 3, 2, 0⟩
def SC_STATUS.STATE : Field := ⟨0xb000, 0, 3, 0⟩
def SC_CFG.NAD : Field := ⟨0xb004, 16, 8, 0⟩
def SC_CFG.IFSD : Field := ⟨0xb004, 8, 8, 254⟩
def SC_CFG.STOPLVL : Field := ⟨0xb004, 1, 1, 0⟩
def SC_CFG.DETPOL : Field := ⟨0xb004, 0, 1, 1⟩
def SC_CLKCFG.RUNDIV : Field := ⟨0xb008, 9, 9, 80⟩
def SC_CLKCFG.ACTDIV : Field := ⟨0xb008, 0, 9, 112⟩
def SC_PAGE.RSPPG : Field := ⟨0xb00c, 1, 1, 0⟩
def SC_PAGE.CMDPG : Field := ⟨0xb00c, 0, 1, 0⟩
def SC_FD.FD : Field := ⟨0xb010, 0, 8, 0x11⟩
def SC_T1.IFSC : Field := ⟨0xb014, 16, 8, 0⟩
def SC_T1.CWI : Field := ⟨0xb014, 12, 4, 0⟩
def SC_T1.BWI : Field := ⟨0xb014, 8, 4, 0⟩
def SC_T1.N : Field := ⟨0xb014, 0, 8, 0⟩
def SC_XFRTO.S : Field := ⟨0xb018, 0, 10, 60⟩
def SC_DETDB.MS : Field := ⟨0xb01c, 0, 9, 50⟩
def SC_SEQ.DEV : Field := ⟨0xb020, 1, 1, 0⟩
def SC_SEQ.CARD : Field := ⟨0xb020, 0, 1, 0⟩
def SC_RBLK.COUNT : Field := ⟨0xb024, 0, 24, 0⟩
def SC_RETX.COUNT : Field := ⟨0xb028, 0, 24, 0⟩
def SC_DUPS.COUNT : Field := ⟨0xb02c, 0, 24, 0⟩
def SC_RESYNCHS.COUNT : Field := ⟨0xb030, 0, 24, 0⟩
def SC_PARERR.COUNT : Field := ⟨0xb034, 0, 24, 0⟩
def SC_INSERTS.COUNT : Field := ⟨0xb038, 0, 24, 0⟩
def SC_REMOVALS.COUNT : Field := ⟨0xb03c, 0, 24, 0⟩
def SC_ATRLEN.LEN : Field := ⟨0xb040, 0, 6, 0⟩
def SC_RXCOUNT.N : Field := ⟨0xb044, 0, 14, 0⟩
def SC_ATR.ATR (i : Nat) : Field := ⟨0xb080 + 4 * i, 0, 24, 0⟩
/-! R387, spec/15_memory_card_port.md -/

def MC_STATUS.RELREQ : Field := ⟨0xc000, 11, 1, 0⟩
def MC_STATUS.PERMWP : Field := ⟨0xc000, 10, 1, 0⟩
def MC_STATUS.TMPWP : Field := ⟨0xc000, 9, 1, 0⟩
def MC_STATUS.RPMB : Field := ⟨0xc000, 8, 1, 0⟩
def MC_STATUS.HS : Field := ⟨0xc000, 7, 1, 0⟩
def MC_STATUS.WIDE : Field := ⟨0xc000, 6, 1, 0⟩
def MC_STATUS.SECTOR : Field := ⟨0xc000, 5, 1, 0⟩
def MC_STATUS.PRESENT : Field := ⟨0xc000, 4, 1, 0⟩
def MC_STATUS.CLKRUN : Field := ⟨0xc000, 3, 1, 0⟩
def MC_STATUS.STATE : Field := ⟨0xc000, 0, 3, 0⟩
def MC_CFG.RCA : Field := ⟨0xc004, 8, 16, 1⟩
def MC_CFG.GATE : Field := ⟨0xc004, 1, 1, 1⟩
def MC_CFG.DETPOL : Field := ⟨0xc004, 0, 1, 1⟩
def MC_CLKCFG.IDDIV : Field := ⟨0xc008, 0, 14, 4000⟩
def MC_RUNDIV.CDIV : Field := ⟨0xc00c, 0, 14, 0⟩
def MC_DETDB.MS : Field := ⟨0xc010, 0, 9, 50⟩
def MC_XFRTO.MS : Field := ⟨0xc014, 0, 16, 2000⟩
def MC_BUSYTO.MS : Field := ⟨0xc018, 0, 10, 250⟩
def MC_HOSTCNT.N : Field := ⟨0xc01c, 0, 17, 0⟩
def MC_DEVCNT.N : Field := ⟨0xc020, 0, 17, 0⟩
def MC_XCOUNT.N : Field := ⟨0xc024, 0, 17, 0⟩
def MC_TORNH.VALID : Field := ⟨0xc028, 23, 1, 0⟩
def MC_TORNH.ADDR : Field := ⟨0xc028, 0, 8, 0⟩
def MC_TORNL.ADDR : Field := ⟨0xc02c, 0, 24, 0⟩
def MC_CAPH.BLOCKS : Field := ⟨0xc030, 0, 8, 0⟩
def MC_CAPL.BLOCKS : Field := ⟨0xc034, 0, 24, 0⟩
def MC_CARDST.ST : Field := ⟨0xc038, 0, 24, 0⟩
def MC_WPCTL.KEYPROG : Field := ⟨0xc03c, 1, 1, 0⟩
def MC_WPCTL.PERMOK : Field := ⟨0xc03c, 0, 1, 0⟩
def MC_CRCERR.COUNT : Field := ⟨0xc040, 0, 24, 0⟩
def MC_RETRIES.COUNT : Field := ⟨0xc044, 0, 24, 0⟩
def MC_READS.COUNT : Field := ⟨0xc048, 0, 24, 0⟩
def MC_WRITES.COUNT : Field := ⟨0xc04c, 0, 24, 0⟩
def MC_INSERTS.COUNT : Field := ⟨0xc050, 0, 24, 0⟩
def MC_REMOVALS.COUNT : Field := ⟨0xc054, 0, 24, 0⟩
def MC_TORNS.COUNT : Field := ⟨0xc058, 0, 24, 0⟩
def MC_RPMBCNTH.CNT : Field := ⟨0xc05c, 0, 8, 0⟩
def MC_RPMBCNTL.CNT : Field := ⟨0xc060, 0, 24, 0⟩
def MC_CID.CID (i : Nat) : Field := ⟨0xc080 + 4 * i, 0, 24, 0⟩
def MC_CSD.CSD (i : Nat) : Field := ⟨0xc0a0 + 4 * i, 0, 24, 0⟩
/-! R414, spec/16_serial_ports.md -/

def UA_OWN.LINK : Field := ⟨0xd000, 0, 2, 0⟩
def UA_ABMIN.BPS : Field := ⟨0xd004, 0, 24, 1200⟩
def UA_ABMAX.BPS : Field := ⟨0xd008, 0, 24, 115200⟩
def UA_STAT.ENABLED (p : Nat) : Field := ⟨0xd100 + 128 * p, 6, 1, (if p = 2 then 1 else 0)⟩
def UA_STAT.SLEEPING (p : Nat) : Field := ⟨0xd100 + 128 * p, 5, 1, 0⟩
def UA_STAT.DE (p : Nat) : Field := ⟨0xd100 + 128 * p, 4, 1, 0⟩
def UA_STAT.TXBUSY (p : Nat) : Field := ⟨0xd100 + 128 * p, 3, 1, 0⟩
def UA_STAT.RXBUSY (p : Nat) : Field := ⟨0xd100 + 128 * p, 2, 1, 0⟩
def UA_STAT.ABPINNED (p : Nat) : Field := ⟨0xd100 + 128 * p, 1, 1, 0⟩
def UA_STAT.LINK (p : Nat) : Field := ⟨0xd100 + 128 * p, 0, 1, 0⟩
def UA_CFGA.DIV (p : Nat) : Field := ⟨0xd104 + 128 * p, 0, 22, (if p = 2 then 6667 else 0)⟩
def UA_CFGB.CFG (p : Nat) : Field := ⟨0xd108 + 128 * p, 0, 24, (uaCfgBFactory p)⟩
def UA_CFGC.LEAD (p : Nat) : Field := ⟨0xd10c + 128 * p, 8, 8, 0⟩
def UA_CFGC.TAIL (p : Nat) : Field := ⟨0xd10c + 128 * p, 0, 8, 0⟩
def UA_CFGD.TXTRIG (p : Nat) : Field := ⟨0xd110 + 128 * p, 7, 7, (if p = 2 then 32 else 0)⟩
def UA_CFGD.RXTRIG (p : Nat) : Field := ⟨0xd110 + 128 * p, 0, 7, (if p = 2 then 32 else 0)⟩
def UA_LEVEL.TX (p : Nat) : Field := ⟨0xd114 + 128 * p, 8, 8, 0⟩
def UA_LEVEL.RX (p : Nat) : Field := ⟨0xd114 + 128 * p, 0, 8, 0⟩
def UA_FLAGS.BRK (p : Nat) : Field := ⟨0xd118 + 128 * p, 1, 1, 0⟩
def UA_FLAGS.OVR (p : Nat) : Field := ⟨0xd118 + 128 * p, 0, 1, 0⟩
def UA_RATE.BPS (p : Nat) : Field := ⟨0xd11c + 128 * p, 0, 24, (uaRateFactory p)⟩
def UA_RXBYTES.COUNT (p : Nat) : Field := ⟨0xd120 + 128 * p, 0, 24, 0⟩
def UA_TXBYTES.COUNT (p : Nat) : Field := ⟨0xd124 + 128 * p, 0, 24, 0⟩
def UA_GLITCH.COUNT (p : Nat) : Field := ⟨0xd128 + 128 * p, 0, 24, 0⟩
def UA_NOISE.COUNT (p : Nat) : Field := ⟨0xd12c + 128 * p, 0, 24, 0⟩
def UA_FRAMING.COUNT (p : Nat) : Field := ⟨0xd130 + 128 * p, 0, 24, 0⟩
def UA_PARITY.COUNT (p : Nat) : Field := ⟨0xd134 + 128 * p, 0, 24, 0⟩
def UA_OVERRUN.COUNT (p : Nat) : Field := ⟨0xd138 + 128 * p, 0, 24, 0⟩
def UA_BREAK.COUNT (p : Nat) : Field := ⟨0xd13c + 128 * p, 0, 24, 0⟩
def UA_WAKELOST.COUNT (p : Nat) : Field := ⟨0xd140 + 128 * p, 0, 24, 0⟩
def UA_ABREJECT.COUNT (p : Nat) : Field := ⟨0xd144 + 128 * p, 0, 24, 0⟩
def UA_PEND.SENDS (p : Nat) : Field := ⟨0xd148 + 128 * p, 3, 3, 0⟩
def UA_PEND.RECVS (p : Nat) : Field := ⟨0xd148 + 128 * p, 0, 3, 0⟩
/-! R451, spec/17_roltur_link.md -/

def LK_STATUS.AUTOREC : Field := ⟨0xe000, 9, 1, 0⟩
def LK_STATUS.BOPINNED : Field := ⟨0xe000, 8, 1, 0⟩
def LK_STATUS.TABLEMIS : Field := ⟨0xe000, 7, 1, 0⟩
def LK_STATUS.BDOWN : Field := ⟨0xe000, 6, 1, 0⟩
def LK_STATUS.ADOWN : Field := ⟨0xe000, 5, 1, 0⟩
def LK_STATUS.LEAVING : Field := ⟨0xe000, 4, 1, 0⟩
def LK_STATUS.JOINING : Field := ⟨0xe000, 3, 1, 0⟩
def LK_STATUS.JOINED : Field := ⟨0xe000, 2, 1, 0⟩
def LK_STATUS.MASTER : Field := ⟨0xe000, 1, 1, 0⟩
def LK_CFG.RATE : Field := ⟨0xe004, 21, 3, 2⟩
def LK_CFG.AUTO : Field := ⟨0xe004, 20, 1, 1⟩
def LK_CFG.MASTEROK : Field := ⟨0xe004, 19, 1, 1⟩
def LK_CFG.DROPUNK : Field := ⟨0xe004, 18, 1, 0⟩
def LK_CFG.C : Field := ⟨0xe004, 8, 8, 20⟩
def LK_CFG.TURN : Field := ⟨0xe004, 0, 5, 5⟩
def LK_ADDR.ADDR : Field := ⟨0xe008, 0, 16, 0⟩
def LK_UIDH.UID : Field := ⟨0xe00c, 0, 16, 0⟩
def LK_UIDM.UID : Field := ⟨0xe010, 0, 24, 0⟩
def LK_UIDL.UID : Field := ⟨0xe014, 0, 24, 0⟩
def LK_MASTER.CLASS : Field := ⟨0xe018, 16, 3, 0⟩
def LK_MASTER.ADDR : Field := ⟨0xe018, 0, 16, 0⟩
def LK_CYCLE.N : Field := ⟨0xe01c, 0, 24, 0⟩
def LK_DELAYA.NS : Field := ⟨0xe020, 0, 16, 0⟩
def LK_DELAYB.NS : Field := ⟨0xe024, 0, 16, 0⟩
def LK_BOMIN.CYC : Field := ⟨0xe028, 0, 11, 1⟩
def LK_BOMAX.CYC : Field := ⟨0xe02c, 0, 11, 1024⟩
def LK_BOMAN.CYC : Field := ⟨0xe030, 0, 11, 16⟩
def LK_BONOW.CYC : Field := ⟨0xe034, 0, 11, 16⟩
def LK_CTL.BOLOOP : Field := ⟨0xe038, 0, 1, 1⟩
def LK_RXTO.CYC : Field := ⟨0xe03c, 0, 8, 4⟩
def LK_TABLEID.ID : Field := ⟨0xe040, 0, 24, 0⟩
def LK_QUEUE.FRAMES : Field := ⟨0xe044, 8, 6, 0⟩
def LK_QUEUE.SENDS : Field := ⟨0xe044, 0, 5, 0⟩
def LK_TXFRAMES.COUNT : Field := ⟨0xe080, 0, 24, 0⟩
def LK_RXFRAMES.COUNT : Field := ⟨0xe084, 0, 24, 0⟩
def LK_RETRIES.COUNT : Field := ⟨0xe088, 0, 24, 0⟩
def LK_COLLISIONS.COUNT : Field := ⟨0xe08c, 0, 24, 0⟩
def LK_DUPS.COUNT : Field := ⟨0xe090, 0, 24, 0⟩
def LK_PDUPS.COUNT : Field := ⟨0xe094, 0, 24, 0⟩
def LK_NOISE.COUNT : Field := ⟨0xe098, 0, 24, 0⟩
def LK_FOREIGN.COUNT : Field := ⟨0xe09c, 0, 24, 0⟩
def LK_UNKNOWN.COUNT : Field := ⟨0xe0a0, 0, 24, 0⟩
def LK_INTRUDERS.COUNT : Field := ⟨0xe0a4, 0, 24, 0⟩
def LK_LENFAULTS.COUNT : Field := ⟨0xe0a8, 0, 24, 0⟩
def LK_RXDROP.COUNT : Field := ⟨0xe0ac, 0, 24, 0⟩
def LK_ALOSS.COUNT : Field := ⟨0xe0b0, 0, 24, 0⟩
def LK_BLOSS.COUNT : Field := ⟨0xe0b4, 0, 24, 0⟩
def LK_ELECTIONS.COUNT : Field := ⟨0xe0b8, 0, 24, 0⟩
def LK_NOTICELOST.COUNT : Field := ⟨0xe0bc, 0, 24, 0⟩
def LK_SLOT.ENTRY (k : Nat) (w : Nat) : Field := ⟨0xe100 + 12 * k + 4 * w, 0, 24, 0⟩
/-! R477, spec/18_analytics_engine.md -/

def AE_STATUS.PINNED : Field := ⟨0xf000, 8, 1, 0⟩
def AE_STATUS.FROZEN : Field := ⟨0xf000, 7, 1, 0⟩
def AE_STATUS.ADAPTING : Field := ⟨0xf000, 6, 1, 0⟩
def AE_STATUS.LOADING : Field := ⟨0xf000, 5, 1, 0⟩
def AE_STATUS.PAUSED : Field := ⟨0xf000, 4, 1, 0⟩
def AE_STATUS.RUNNING : Field := ⟨0xf000, 3, 1, 0⟩
def AE_STATUS.PLANNING : Field := ⟨0xf000, 2, 1, 0⟩
def AE_STATUS.OVERLAY : Field := ⟨0xf000, 1, 1, 0⟩
def AE_STATUS.MODEL : Field := ⟨0xf000, 0, 1, 0⟩
def AE_CTL.SCOREEV : Field := ⟨0xf004, 1, 1, 0⟩
def AE_CTL.AUTOLOAD : Field := ⟨0xf004, 0, 1, 1⟩
def AE_DUTY.PCT : Field := ⟨0xf008, 0, 7, 90⟩
def AE_SLICECYC.CYC : Field := ⟨0xf00c, 0, 24, 18000⟩
def AE_MODELID.ID : Field := ⟨0xf010, 0, 24, 0⟩
def AE_OVLID.ID : Field := ⟨0xf014, 0, 24, 0⟩
def AE_TARNUSED.BYTES : Field := ⟨0xf018, 0, 23, 0⟩
def AE_OVLUSED.BYTES : Field := ⟨0xf01c, 0, 23, 0⟩
def AE_SCRNEED.BYTES : Field := ⟨0xf020, 0, 21, 0⟩
def AE_SCRFRAMES.BYTES : Field := ⟨0xf024, 0, 21, 0⟩
def AE_JOBQ.N : Field := ⟨0xf028, 0, 3, 0⟩
def AE_JOBPOS.TAG : Field := ⟨0xf02c, 16, 8, 0⟩
def AE_JOBPOS.LAYER : Field := ⟨0xf02c, 8, 6, 0⟩
def AE_JOBPOS.SLICES : Field := ⟨0xf02c, 0, 8, 0⟩
def AE_LASTCYC.CYC : Field := ⟨0xf030, 0, 24, 0⟩
def AE_THRESH.T : Field := ⟨0xf034, 0, 24, 0x7FFFFF⟩
def AE_JOBSDONE.COUNT : Field := ⟨0xf038, 0, 24, 0⟩
def AE_JOBSFAIL.COUNT : Field := ⟨0xf03c, 0, 24, 0⟩
def AE_LOADBYTES.BYTES : Field := ⟨0xf040, 0, 23, 0⟩
def AE_WIN_A.EN (k : Nat) : Field := ⟨0xf100 + 32 * k, 23, 1, 0⟩
def AE_WIN_A.FMT (k : Nat) : Field := ⟨0xf100 + 32 * k, 22, 1, 0⟩
def AE_WIN_A.ISHIFT (k : Nat) : Field := ⟨0xf100 + 32 * k, 16, 4, 0⟩
def AE_WIN_A.CH (k : Nat) : Field := ⟨0xf100 + 32 * k, 0, 6, 0⟩
def AE_WIN_B.START (k : Nat) : Field := ⟨0xf104 + 32 * k, 0, 24, 0⟩
def AE_WIN_C.PAGES (k : Nat) : Field := ⟨0xf108 + 32 * k, 0, 16, 0⟩
def AE_WIN_D.FLEN (k : Nat) : Field := ⟨0xf10c + 32 * k, 0, 12, 0⟩
def AE_WIN_E.FSEQ (k : Nat) : Field := ⟨0xf110 + 32 * k, 0, 24, 0⟩
def AE_WIN_F.READY (k : Nat) : Field := ⟨0xf114 + 32 * k, 9, 2, 0⟩
def AE_WIN_F.FIFO (k : Nat) : Field := ⟨0xf114 + 32 * k, 0, 9, 0⟩
def AE_WIN_G.FULLDROP (k : Nat) : Field := ⟨0xf118 + 32 * k, 0, 24, 0⟩
def AE_WIN_H.PARTDROP (k : Nat) : Field := ⟨0xf11c + 32 * k, 0, 24, 0⟩
def AE_FRAMELOST.COUNT (k : Nat) : Field := ⟨0xf200 + 4 * k, 0, 24, 0⟩
/-! R520, spec/20_field_adaptation.md -/

def AE_STEP.STEP : Field := ⟨0xf044, 0, 16, 0x3A80⟩
def AE_CLAMP.Q : Field := ⟨0xf048, 0, 11, 64⟩
def AE_LRMAX.LR : Field := ⟨0xf04c, 0, 24, 1024⟩
def AE_LRMIN.LR : Field := ⟨0xf050, 0, 24, 128⟩
def AE_LRNOW.LR : Field := ⟨0xf054, 0, 24, 0⟩
def AE_TPOS.T : Field := ⟨0xf058, 0, 24, 0x010000⟩
def AE_TNEG.T : Field := ⟨0xf05c, 0, 24, 0⟩
def AE_OVLMAX.BYTES : Field := ⟨0xf060, 0, 20, 65536⟩
def AE_NEVENTS.N : Field := ⟨0xf064, 0, 24, 0⟩
def AE_HELD.N : Field := ⟨0xf068, 0, 16, 0⟩
def AE_ADNEED.BYTES : Field := ⟨0xf06c, 0, 16, 0⟩
def AE_COMMITS.COUNT : Field := ⟨0xf070, 0, 24, 0⟩
/-! R504, spec/19_weight_and_delta_formats.md -/

def CP_STATUS.BUSY : Field := ⟨0x10000, 3, 1, 0⟩
def CP_STATUS.QUEUED : Field := ⟨0x10000, 0, 3, 0⟩
def CP_OUTLEN.BYTES : Field := ⟨0x10004, 0, 18, 0⟩
def CP_LASTFAIL.STATUS : Field := ⟨0x10008, 16, 8, 0⟩
def CP_LASTFAIL.BLOCK : Field := ⟨0x10008, 0, 16, 0⟩
def CP_PACKS.COUNT : Field := ⟨0x1000c, 0, 24, 0⟩
def CP_UNPACKS.COUNT : Field := ⟨0x10010, 0, 24, 0⟩
def CP_FAILS.COUNT : Field := ⟨0x10014, 0, 24, 0⟩
/-! R546, spec/21_keys_and_trust.md -/

def SE_STATUS.BUSY : Field := ⟨0x11000, 3, 1, 0⟩
def SE_STATUS.QUEUED : Field := ⟨0x11000, 0, 3, 0⟩
def SE_SLOTST.ST (i : Nat) : Field := ⟨0x11004 + 4 * i, 0, 24, (if i = 0 then 0x15 else 0)⟩
def SE_EXPCFG.VALID : Field := ⟨0x11010, 2, 1, 0⟩
def SE_EXPCFG.OWNER : Field := ⟨0x11010, 0, 2, 0⟩
def SE_LASTFAIL.STATUS : Field := ⟨0x11014, 16, 8, 0⟩
def SE_LASTFAIL.OPCODE : Field := ⟨0x11014, 8, 6, 0⟩
def SE_LASTFAIL.KIND : Field := ⟨0x11014, 0, 3, 0⟩
def SE_OPENS.COUNT : Field := ⟨0x11018, 0, 24, 0⟩
def SE_FAILS.COUNT : Field := ⟨0x1101c, 0, 24, 0⟩
def SE_SEALSEQH.SEQ : Field := ⟨0x11020, 0, 24, 0⟩
def SE_SEALSEQL.SEQ : Field := ⟨0x11024, 0, 24, 0⟩
def SE_CARDST.ENT : Field := ⟨0x11028, 0, 8, 0⟩
def SE_RPMBST.LOADED : Field := ⟨0x1102c, 3, 1, 0⟩
def SE_RPMBST.ENTRY : Field := ⟨0x1102c, 0, 3, 0⟩
def SE_FLSEL.SIGNER : Field := ⟨0x11030, 3, 3, 0⟩
def SE_FLSEL.KIND : Field := ⟨0x11030, 0, 3, 0⟩
def SE_FLOORH.SEQ : Field := ⟨0x11034, 0, 24, 0⟩
def SE_FLOORL.SEQ : Field := ⟨0x11038, 0, 24, 0⟩
def SE_IDPUB.KEY (i : Nat) : Field := ⟨0x11040 + 4 * i, 0, 24, (idpubReset.getD i 0)⟩
def SE_VROOT.HASH (i : Nat) : Field := ⟨0x110c0 + 4 * i, 0, 24, 0⟩
def SE_OWN.HASH (k : Nat) (i : Nat) : Field := ⟨0x11100 + 64 * k + 4 * i, 0, 24, 0⟩
/-! R563, spec/22_faceplate.md -/

def FP_STATUS.BLPINNED : Field := ⟨0x12000, 11, 1, 0⟩
def FP_STATUS.STUCK : Field := ⟨0x12000, 10, 1, 0⟩
def FP_STATUS.TOUCHED : Field := ⟨0x12000, 9, 1, 0⟩
def FP_STATUS.RELREQ : Field := ⟨0x12000, 8, 1, 0⟩
def FP_STATUS.FAULT : Field := ⟨0x12000, 0, 8, 0⟩
def FP_DIAG.DIAG : Field := ⟨0x12004, 0, 16, 0⟩
def FP_CTL.BLLOOP : Field := ⟨0x12008, 1, 1, 1⟩
def FP_CTL.SHORTOFF : Field := ⟨0x12008, 0, 1, 1⟩
def FP_KEYCFG.TARGET : Field := ⟨0x1200c, 22, 2, 3⟩
def FP_KEYCFG.FBEN : Field := ⟨0x1200c, 21, 1, 0⟩
def FP_KEYCFG.FBIND : Field := ⟨0x1200c, 18, 3, 0⟩
def FP_TOUCHTHR.CNT : Field := ⟨0x12010, 0, 12, 200⟩
def FP_ANTITHR.CNT : Field := ⟨0x12014, 0, 12, 100⟩
def FP_KEYTIME.TOUCHMIN : Field := ⟨0x12018, 10, 10, 60⟩
def FP_KEYTIME.HOLDMAX : Field := ⟨0x12018, 0, 10, 20⟩
def FP_BLMIN.CNT : Field := ⟨0x1201c, 0, 12, 0⟩
def FP_BLMAX.CNT : Field := ⟨0x12020, 0, 12, 4095⟩
def FP_BLMAN.CNT : Field := ⟨0x12024, 0, 12, 0⟩
def FP_BASE.CNT : Field := ⟨0x12028, 0, 24, 0⟩
def FP_SAMPLE.CNT : Field := ⟨0x1202c, 0, 24, 0⟩
def FP_DELTA.CNT : Field := ⟨0x12030, 0, 24, 0⟩
def FP_TOUCHES.COUNT : Field := ⟨0x12034, 0, 24, 0⟩
def FP_STUCKS.COUNT : Field := ⟨0x12038, 0, 24, 0⟩
def FP_DIAGV.SHORTV : Field := ⟨0x1203c, 0, 10, 300⟩
def FP_IND_A.SET (k : Nat) : Field := ⟨0x12100 + 16 * k, 0, 24, 0⟩
def FP_IND_B.PROVE (k : Nat) : Field := ⟨0x12104 + 16 * k, 23, 1, 0⟩
def FP_IND_B.PROBE (k : Nat) : Field := ⟨0x12104 + 16 * k, 22, 1, 0⟩
def FP_IND_B.PERIOD (k : Nat) : Field := ⟨0x12104 + 16 * k, 16, 6, 0⟩
def FP_IND_B.SAVEEN (k : Nat) : Field := ⟨0x12104 + 16 * k, 15, 1, 0⟩
def FP_IND_B.SAVEDUTY (k : Nat) : Field := ⟨0x12104 + 16 * k, 0, 11, 0⟩
def FP_IND_C.LAST (k : Nat) : Field := ⟨0x12108 + 16 * k, 22, 2, 0⟩
def FP_IND_C.AGE (k : Nat) : Field := ⟨0x12108 + 16 * k, 12, 10, 0⟩
def FP_IND_C.PINV (k : Nat) : Field := ⟨0x12108 + 16 * k, 0, 10, 0⟩
/-! R579, spec/23_side_band.md -/

def SB_PAGE.PAGE : Field := ⟨0x13000, 0, 10, 0⟩
def SB_STATUS.BUSPWR : Field := ⟨0x13004, 7, 1, 0⟩
def SB_STATUS.STEWARD : Field := ⟨0x13004, 6, 1, 0⟩
def SB_STATUS.CAUSE : Field := ⟨0x13004, 4, 2, 0⟩
def SB_STATUS.HB : Field := ⟨0x13004, 2, 2, 0⟩
def SB_STEWCTL.RELEASE : Field := ⟨0x13008, 1, 1, 0⟩
def SB_STEWCTL.TAKE : Field := ⟨0x13008, 0, 1, 0⟩
def SB_HBEAT.BEAT : Field := ⟨0x1300c, 0, 1, 0⟩
def SB_HBCFG.EN : Field := ⟨0x13010, 23, 1, 1⟩
def SB_HBCFG.PERIOD : Field := ⟨0x13010, 0, 14, 1000⟩
def SB_HBBOOT.S : Field := ⟨0x13014, 0, 10, 120⟩
def SB_HBAGE.MS : Field := ⟨0x13018, 0, 24, 0⟩
def SB_CFG.TOUTEN : Field := ⟨0x1301c, 0, 1, 1⟩
def SB_ADDR.ADDR : Field := ⟨0x13020, 0, 7, 0x58⟩
def SB_PECERR.COUNT : Field := ⟨0x13024, 0, 24, 0⟩
def SB_FORMERR.COUNT : Field := ⟨0x13028, 0, 24, 0⟩
def SB_TIMEOUTS.COUNT : Field := ⟨0x1302c, 0, 24, 0⟩
def SB_LAPSES.COUNT : Field := ⟨0x13030, 0, 24, 0⟩

end Reg

/-- The slots of unit 0 that hold a field (R10, R116, R2, R595). -/
def syRows0 : List SlotRow := [
  ⟨0x0, 4, 1, fun _ => [⟨Reg.SY_DEVID.PART, .ro, false⟩, ⟨Reg.SY_DEVID.STEPL, .ro, false⟩, ⟨Reg.SY_DEVID.STEPD, .ro,
    false⟩]⟩,
  ⟨0x4, 4, 1, fun _ => [⟨Reg.SY_STARTINFO.KIND, .ro, false⟩, ⟨Reg.SY_STARTINFO.PSRC, .ro, false⟩]⟩,
  ⟨0x8, 4, 1, fun _ => [⟨Reg.SY_COLDSTARTS.COUNT, .ro, false⟩]⟩,
  ⟨0xc, 4, 1, fun _ => [⟨Reg.SY_CORESTARTS.COUNT, .ro, false⟩]⟩,
  ⟨0x10, 4, 1, fun _ => [⟨Reg.SY_PARAMSEQ.SEQ, .ro, false⟩]⟩,
  ⟨0x14, 4, 1, fun _ => [⟨Reg.SY_PARAMRECS.N, .ro, false⟩]⟩,
  ⟨0x18, 4, 1, fun _ => [⟨Reg.SY_BOOT.FLAGS, .ro, false⟩]⟩,
  ⟨0x20, 4, 1, fun _ => [⟨Reg.SY_VIOLATIONS.COUNT, .ro, false⟩]⟩,
  ⟨0x24, 4, 1, fun _ => [⟨Reg.SY_LASTVIOL.LAST, .ro, false⟩]⟩,
  ⟨0x28, 4, 1, fun _ => [⟨Reg.SY_VIOLCLR.CLEAR, .wo, false⟩]⟩,
  ⟨0x40, 4, 1, fun _ => [⟨Reg.SY_PGFREE.PROG, .wo, false⟩]⟩,
  ⟨0x44, 4, 1, fun _ => [⟨Reg.SY_PGLAST.STATUS, .ro, false⟩, ⟨Reg.SY_PGLAST.PROG, .ro, false⟩]⟩]
def syRows1 : List SlotRow := [
  ⟨0x48, 4, 1, fun _ => [⟨Reg.SY_PGSPACE.FREE, .ro, false⟩]⟩,
  ⟨0x100, 16, 32, fun i => [⟨Reg.SY_PG_A.VALID i, .ro, false⟩, ⟨Reg.SY_PG_A.BOUND i, .ro, false⟩, ⟨Reg.SY_PG_A.RING i,
    .ro, false⟩, ⟨Reg.SY_PG_A.ADDR i, .ro, false⟩]⟩,
  ⟨0x104, 16, 32, fun i => [⟨Reg.SY_PG_B.LEN i, .ro, false⟩]⟩,
  ⟨0x108, 16, 32, fun i => [⟨Reg.SY_PG_C.WCOST i, .ro, false⟩]⟩,
  ⟨0x10c, 16, 32, fun i => [⟨Reg.SY_PG_D.POSTS i, .ro, false⟩]⟩,
  ⟨0x400, 32, 16, fun i => [⟨Reg.SY_CTX.G i 0, .ro, false⟩]⟩,
  ⟨0x404, 32, 16, fun i => [⟨Reg.SY_CTX.G i 1, .ro, false⟩]⟩,
  ⟨0x408, 32, 16, fun i => [⟨Reg.SY_CTX.G i 2, .ro, false⟩]⟩,
  ⟨0x40c, 32, 16, fun i => [⟨Reg.SY_CTX.G i 3, .ro, false⟩]⟩,
  ⟨0x410, 32, 16, fun i => [⟨Reg.SY_CTX.G i 4, .ro, false⟩]⟩,
  ⟨0x414, 32, 16, fun i => [⟨Reg.SY_CTX.G i 5, .ro, false⟩]⟩,
  ⟨0x418, 32, 16, fun i => [⟨Reg.SY_CTX.G i 6, .ro, false⟩]⟩]
def syRows2 : List SlotRow := [
  ⟨0x41c, 32, 16, fun i => [⟨Reg.SY_CTX.G i 7, .ro, false⟩]⟩,
  ⟨0x600, 4, 16, fun i => [⟨Reg.SY_FLAGS.LC i, .ro, false⟩, ⟨Reg.SY_FLAGS.T i, .ro, false⟩, ⟨Reg.SY_FLAGS.Z i, .ro,
    false⟩, ⟨Reg.SY_FLAGS.N i, .ro, false⟩, ⟨Reg.SY_FLAGS.C i, .ro, false⟩, ⟨Reg.SY_FLAGS.V i, .ro, false⟩]⟩]
def syRows : List SlotRow :=
  syRows0 ++ syRows1 ++ syRows2

/-- The slots of unit 1 that hold a field (R61). -/
def tkRows0 : List SlotRow := [
  ⟨0x1000, 4, 1, fun _ => [⟨Reg.TK_RATE.RATE, .rwm, true⟩]⟩,
  ⟨0x1004, 4, 1, fun _ => [⟨Reg.TK_CYCLES.CYCLES, .ro, true⟩]⟩,
  ⟨0x1008, 4, 1, fun _ => [⟨Reg.TK_BUDGET.BUDGET, .ro, true⟩]⟩,
  ⟨0x100c, 4, 1, fun _ => [⟨Reg.TK_PENDRATE.RATE, .ro, true⟩]⟩,
  ⟨0x1010, 4, 1, fun _ => [⟨Reg.TK_COUNTH.COUNT, .ro, false⟩]⟩,
  ⟨0x1014, 4, 1, fun _ => [⟨Reg.TK_COUNTL.COUNT, .ro, false⟩]⟩,
  ⟨0x1018, 4, 1, fun _ => [⟨Reg.TK_INDEX.INDEX, .ro, false⟩]⟩,
  ⟨0x101c, 4, 1, fun _ => [⟨Reg.TK_STATUS.OVERRUN, .w1c, false⟩, ⟨Reg.TK_STATUS.STEPPED, .w1c, false⟩,
    ⟨Reg.TK_STATUS.RATE_PEND, .ro, false⟩]⟩,
  ⟨0x1020, 4, 1, fun _ => [⟨Reg.TK_SKIPPED.COUNT, .ro, false⟩]⟩,
  ⟨0x1024, 4, 1, fun _ => [⟨Reg.TK_REPEATED.COUNT, .ro, false⟩]⟩,
  ⟨0x1028, 4, 1, fun _ => [⟨Reg.TK_OVERRUNS.COUNT, .ro, false⟩]⟩,
  ⟨0x102c, 4, 1, fun _ => [⟨Reg.TK_STARVE.TICKS, .rwm, true⟩]⟩]
def tkRows1 : List SlotRow := [
  ⟨0x1030, 4, 1, fun _ => [⟨Reg.TK_STARVED.RING, .ro, false⟩]⟩,
  ⟨0x1034, 4, 1, fun _ => [⟨Reg.TK_SPILLEND.CYCLES, .ro, false⟩]⟩,
  ⟨0x1040, 4, 16, fun i => [⟨Reg.TK_SHARE.SHARE i, .rwm, true⟩]⟩,
  ⟨0x1080, 4, 16, fun i => [⟨Reg.TK_USED.CYCLES i, .ro, false⟩]⟩]
def tkRows : List SlotRow :=
  tkRows0 ++ tkRows1

/-- The slots of unit 2 that hold a field (R87). -/
def quRows0 : List SlotRow := [
  ⟨0x2000, 4, 1, fun _ => [⟨Reg.QU_APCTL.EN, .rws, false⟩, ⟨Reg.QU_APCTL.BASE, .rws, false⟩]⟩,
  ⟨0x2004, 4, 1, fun _ => [⟨Reg.QU_EVENA.CQ, .rwm, false⟩, ⟨Reg.QU_EVENA.UNIT, .rwm, false⟩]⟩,
  ⟨0x2008, 4, 1, fun _ => [⟨Reg.QU_EVPEND.CQ, .w1c, false⟩, ⟨Reg.QU_EVPEND.UNIT, .w1c, false⟩]⟩,
  ⟨0x200c, 4, 1, fun _ => [⟨Reg.QU_CQMAPL.MAP, .rwm, false⟩]⟩,
  ⟨0x2010, 4, 1, fun _ => [⟨Reg.QU_CQMAPH.MAP15, .ro, false⟩, ⟨Reg.QU_CQMAPH.MAP, .rwm, false⟩]⟩,
  ⟨0x2014, 4, 1, fun _ => [⟨Reg.QU_R15CTL.SEIZED, .ro, false⟩, ⟨Reg.QU_R15CTL.OWNER, .ro, false⟩,
    ⟨Reg.QU_R15CTL.RETURN, .wo, false⟩, ⟨Reg.QU_R15CTL.GIVE, .wo, false⟩]⟩,
  ⟨0x2018, 4, 1, fun _ => [⟨Reg.QU_HELD.RING, .ro, false⟩]⟩,
  ⟨0x2040, 16, 4, fun i => [⟨Reg.QU_CQTAIL.TAIL i, .ro, false⟩]⟩,
  ⟨0x2044, 16, 4, fun i => [⟨Reg.QU_CQHEAD.HEAD i, .rwm, false⟩]⟩,
  ⟨0x2048, 16, 4, fun i => [⟨Reg.QU_CQIRQ.AGE i, .rwm, true⟩, ⟨Reg.QU_CQIRQ.COUNT i, .rwm, true⟩]⟩,
  ⟨0x204c, 16, 4, fun i => [⟨Reg.QU_CQRES.RESV i, .ro, false⟩]⟩,
  ⟨0x2100, 32, 16, fun i => [⟨Reg.QU_TAIL.TAIL i, .rwm, false⟩]⟩]
def quRows1 : List SlotRow := [
  ⟨0x2104, 32, 16, fun i => [⟨Reg.QU_HEAD.HEAD i, .ro, false⟩]⟩,
  ⟨0x2108, 32, 16, fun i => [⟨Reg.QU_MODE.RES i, .rwm, false⟩, ⟨Reg.QU_MODE.ENTRY i, .rwm, false⟩]⟩,
  ⟨0x210c, 32, 16, fun i => [⟨Reg.QU_PER.PERIOD i, .rwm, false⟩]⟩,
  ⟨0x2110, 32, 16, fun i => [⟨Reg.QU_STAT.SKIPS i, .ro, false⟩]⟩,
  ⟨0x2114, 32, 16, fun i => [⟨Reg.QU_OUT.OUT i, .ro, false⟩]⟩]
def quRows : List SlotRow :=
  quRows0 ++ quRows1

/-- The slots of unit 3 that hold a field (R148). -/
def hpRows0 : List SlotRow := [
  ⟨0x3000, 4, 1, fun _ => [⟨Reg.HP_CONFIG.RANKS, .ro, true⟩, ⟨Reg.HP_CONFIG.WIDTH, .ro, true⟩, ⟨Reg.HP_CONFIG.DENS,
    .ro, true⟩, ⟨Reg.HP_CONFIG.GIB, .ro, true⟩]⟩,
  ⟨0x3004, 4, 1, fun _ => [⟨Reg.HP_RATE.MTS, .ro, false⟩]⟩,
  ⟨0x3008, 4, 1, fun _ => [⟨Reg.HP_STATUS.BASE, .ro, false⟩, ⟨Reg.HP_STATUS.DTH, .ro, false⟩, ⟨Reg.HP_STATUS.DTI, .ro,
    false⟩, ⟨Reg.HP_STATUS.HTRAIN, .ro, false⟩, ⟨Reg.HP_STATUS.SCRUBBING, .ro, false⟩, ⟨Reg.HP_STATUS.DEFERRED, .ro,
      false⟩]⟩,
  ⟨0x300c, 4, 1, fun _ => [⟨Reg.HP_OWN.BLOCK, .ro, false⟩, ⟨Reg.HP_OWN.STATE, .ro, false⟩]⟩,
  ⟨0x3010, 4, 1, fun _ => [⟨Reg.HP_OWNCTL.RETRAIN, .wo, false⟩, ⟨Reg.HP_OWNCTL.CLAIM, .wo, false⟩]⟩,
  ⟨0x3014, 4, 1, fun _ => [⟨Reg.HP_SCRUBCFG.EN, .rwm, true⟩]⟩,
  ⟨0x3018, 4, 1, fun _ => [⟨Reg.HP_CHKPAT.PAT, .rwm, true⟩]⟩,
  ⟨0x301c, 4, 1, fun _ => [⟨Reg.HP_ECCCTL.LOCK, .w1, false⟩, ⟨Reg.HP_ECCCTL.MODE, .rwm, true⟩]⟩,
  ⟨0x3020, 4, 1, fun _ => [⟨Reg.HP_ABSORBED.COUNT, .ro, false⟩]⟩,
  ⟨0x3024, 4, 1, fun _ => [⟨Reg.HP_CHKMISM.COUNT, .ro, false⟩]⟩,
  ⟨0x3028, 4, 1, fun _ => [⟨Reg.HP_PARERR.COUNT, .ro, false⟩]⟩,
  ⟨0x302c, 4, 1, fun _ => [⟨Reg.HP_SCRUBPEND.COUNT, .ro, false⟩]⟩]
def hpRows1 : List SlotRow := [
  ⟨0x3100, 4, 64, fun i => [⟨Reg.HP_ECCCOL.COL i, .rwm, true⟩]⟩]
def hpRows : List SlotRow :=
  hpRows0 ++ hpRows1

/-- The slots of unit 4 that hold a field (R176). -/
def shRows0 : List SlotRow := [
  ⟨0x4000, 4, 1, fun _ => [⟨Reg.SH_STATUS.JFULL, .ro, false⟩, ⟨Reg.SH_STATUS.FOLDHELD, .ro, false⟩,
    ⟨Reg.SH_STATUS.FOLDING, .ro, false⟩, ⟨Reg.SH_STATUS.PINNED, .ro, false⟩, ⟨Reg.SH_STATUS.PDIRTY, .ro, false⟩,
      ⟨Reg.SH_STATUS.LOW, .ro, false⟩, ⟨Reg.SH_STATUS.SHORT, .ro, false⟩]⟩,
  ⟨0x4004, 4, 1, fun _ => [⟨Reg.SH_CTL.AUTOFOLD, .rwm, true⟩, ⟨Reg.SH_CTL.LOOP, .rwm, true⟩]⟩,
  ⟨0x4008, 4, 1, fun _ => [⟨Reg.SH_BWREQ.MBS, .rwm, true⟩]⟩,
  ⟨0x400c, 4, 1, fun _ => [⟨Reg.SH_BWMIN.MBS, .rwm, true⟩]⟩,
  ⟨0x4010, 4, 1, fun _ => [⟨Reg.SH_BWMAX.MBS, .rwm, true⟩]⟩,
  ⟨0x4014, 4, 1, fun _ => [⟨Reg.SH_BWMAN.MBS, .rwm, true⟩]⟩,
  ⟨0x4018, 4, 1, fun _ => [⟨Reg.SH_BWNOW.MBS, .ro, false⟩]⟩,
  ⟨0x401c, 4, 1, fun _ => [⟨Reg.SH_FLASHRATE.MBS, .ro, false⟩]⟩,
  ⟨0x4020, 4, 1, fun _ => [⟨Reg.SH_CAPFILL.ENTRIES, .ro, false⟩]⟩,
  ⟨0x4024, 4, 1, fun _ => [⟨Reg.SH_OVERFLOWS.COUNT, .ro, false⟩]⟩,
  ⟨0x4028, 4, 1, fun _ => [⟨Reg.SH_DIRTYH.PAGES, .ro, false⟩]⟩,
  ⟨0x402c, 4, 1, fun _ => [⟨Reg.SH_DIRTYL.PAGES, .ro, false⟩]⟩]
def shRows1 : List SlotRow := [
  ⟨0x4030, 4, 1, fun _ => [⟨Reg.SH_UNSHAD.MIB, .ro, false⟩]⟩,
  ⟨0x4034, 4, 1, fun _ => [⟨Reg.SH_EREQ.E, .ro, false⟩]⟩,
  ⟨0x4038, 4, 1, fun _ => [⟨Reg.SH_MARGIN.E, .ro, false⟩]⟩,
  ⟨0x403c, 4, 1, fun _ => [⟨Reg.SH_DIRTYCAP.MIB, .ro, false⟩]⟩,
  ⟨0x4040, 4, 1, fun _ => [⟨Reg.SH_EFIXED.E, .rwm, true⟩]⟩,
  ⟨0x4044, 4, 1, fun _ => [⟨Reg.SH_ERES.E, .rwm, true⟩]⟩,
  ⟨0x4048, 4, 1, fun _ => [⟨Reg.SH_EPERGIB.E, .rwm, true⟩]⟩,
  ⟨0x404c, 4, 1, fun _ => [⟨Reg.SH_WARN.E, .rwm, true⟩]⟩,
  ⟨0x4050, 4, 1, fun _ => [⟨Reg.SH_BARH.BAR, .ro, false⟩]⟩,
  ⟨0x4054, 4, 1, fun _ => [⟨Reg.SH_BARL.BAR, .ro, false⟩]⟩,
  ⟨0x4058, 4, 1, fun _ => [⟨Reg.SH_RECBARH.BAR, .ro, false⟩]⟩,
  ⟨0x405c, 4, 1, fun _ => [⟨Reg.SH_RECBARL.BAR, .ro, false⟩]⟩]
def shRows2 : List SlotRow := [
  ⟨0x4060, 4, 1, fun _ => [⟨Reg.SH_JSEQH.JSEQ, .ro, false⟩]⟩,
  ⟨0x4064, 4, 1, fun _ => [⟨Reg.SH_JSEQL.JSEQ, .ro, false⟩]⟩,
  ⟨0x4068, 4, 1, fun _ => [⟨Reg.SH_JFILL.PERMIL, .ro, false⟩]⟩,
  ⟨0x406c, 4, 1, fun _ => [⟨Reg.SH_FOLDAT.PERMIL, .rwm, true⟩]⟩,
  ⟨0x4070, 4, 1, fun _ => [⟨Reg.SH_BASEGEN.GEN, .ro, false⟩]⟩,
  ⟨0x4074, 4, 1, fun _ => [⟨Reg.SH_EPOCH.EPOCH, .ro, false⟩]⟩,
  ⟨0x4100, 16, 64, fun i => [⟨Reg.SH_RG_A.VALID i, .ro, false⟩, ⟨Reg.SH_RG_A.KIND i, .ro, false⟩,
    ⟨Reg.SH_RG_A.START i, .ro, false⟩]⟩,
  ⟨0x4104, 16, 64, fun i => [⟨Reg.SH_RG_B.PRIO i, .ro, false⟩, ⟨Reg.SH_RG_B.COUNT i, .ro, false⟩]⟩,
  ⟨0x4108, 16, 64, fun i => [⟨Reg.SH_RG_C.DIRTY i, .ro, false⟩]⟩]
def shRows : List SlotRow :=
  shRows0 ++ shRows1 ++ shRows2

/-- The slots of unit 5 that hold a field (R210). -/
def svRows0 : List SlotRow := [
  ⟨0x5000, 4, 1, fun _ => [⟨Reg.SV_STATUS.WIN, .ro, false⟩, ⟨Reg.SV_STATUS.STAGED, .ro, false⟩, ⟨Reg.SV_STATUS.PFW,
    .ro, false⟩, ⟨Reg.SV_STATUS.IMAGE, .ro, false⟩, ⟨Reg.SV_STATUS.ARMED, .ro, false⟩, ⟨Reg.SV_STATUS.STATE, .ro,
      false⟩]⟩,
  ⟨0x5004, 4, 1, fun _ => [⟨Reg.SV_ARMCFG.LKPF, .ro, false⟩, ⟨Reg.SV_ARMCFG.HYST, .ro, true⟩, ⟨Reg.SV_ARMCFG.GRACE,
    .ro, true⟩]⟩,
  ⟨0x5008, 4, 1, fun _ => [⟨Reg.SV_WARN.WARN, .ro, true⟩]⟩,
  ⟨0x500c, 4, 1, fun _ => [⟨Reg.SV_SAVESH.SEQ, .ro, false⟩]⟩,
  ⟨0x5010, 4, 1, fun _ => [⟨Reg.SV_SAVESL.SEQ, .ro, false⟩]⟩,
  ⟨0x5014, 4, 1, fun _ => [⟨Reg.SV_LASTSAVE.STATE, .ro, false⟩]⟩,
  ⟨0x5018, 4, 1, fun _ => [⟨Reg.SV_RESULT.KIND, .ro, false⟩, ⟨Reg.SV_RESULT.DAMAGED, .ro, false⟩]⟩,
  ⟨0x501c, 4, 1, fun _ => [⟨Reg.SV_RBARH.BAR, .ro, false⟩]⟩,
  ⟨0x5020, 4, 1, fun _ => [⟨Reg.SV_RBARL.BAR, .ro, false⟩]⟩,
  ⟨0x5024, 4, 3, fun i => [⟨Reg.SV_RSTAMP.STAMP i, .ro, false⟩]⟩,
  ⟨0x5030, 4, 3, fun i => [⟨Reg.SV_READY.RGN i, .ro, false⟩]⟩,
  ⟨0x503c, 4, 1, fun _ => [⟨Reg.SV_STAGECTL.HOSTWIN, .rwm, false⟩]⟩]
def svRows1 : List SlotRow := [
  ⟨0x5040, 4, 1, fun _ => [⟨Reg.SV_WINMAX.MS, .rwm, true⟩]⟩,
  ⟨0x5044, 4, 1, fun _ => [⟨Reg.SV_WITHDRAWALS.COUNT, .ro, false⟩]⟩]
def svRows : List SlotRow :=
  svRows0 ++ svRows1

/-- The slots of unit 6 that hold a field (R235). -/
def flRows0 : List SlotRow := [
  ⟨0x6000, 4, 1, fun _ => [⟨Reg.FL_STATUS.RETSCAN, .ro, false⟩, ⟨Reg.FL_STATUS.PATROL, .ro, false⟩,
    ⟨Reg.FL_STATUS.CAPSHORT, .ro, false⟩, ⟨Reg.FL_STATUS.SPARELOW, .ro, false⟩, ⟨Reg.FL_STATUS.MISMATCH, .ro, false⟩,
      ⟨Reg.FL_STATUS.FORMATTING, .ro, false⟩, ⟨Reg.FL_STATUS.NOBASE, .ro, false⟩, ⟨Reg.FL_STATUS.READY, .ro, false⟩]⟩,
  ⟨0x6004, 4, 1, fun _ => [⟨Reg.FL_GEOM0.CHANNELS, .ro, true⟩, ⟨Reg.FL_GEOM0.TARGETS, .ro, true⟩, ⟨Reg.FL_GEOM0.LUNS,
    .ro, true⟩, ⟨Reg.FL_GEOM0.PLANES, .ro, true⟩, ⟨Reg.FL_GEOM0.PAGESZ, .ro, true⟩, ⟨Reg.FL_GEOM0.PARITY, .ro, true⟩]⟩,
  ⟨0x6008, 4, 1, fun _ => [⟨Reg.FL_GEOM1.PAGES, .ro, true⟩]⟩,
  ⟨0x600c, 4, 1, fun _ => [⟨Reg.FL_GEOM2.BLOCKS, .ro, true⟩]⟩,
  ⟨0x6010, 4, 1, fun _ => [⟨Reg.FL_CHUSE.CH, .ro, false⟩]⟩,
  ⟨0x6014, 4, 1, fun _ => [⟨Reg.FL_RATE.MBS, .ro, false⟩]⟩,
  ⟨0x6018, 4, 1, fun _ => [⟨Reg.FL_BGSHARE.PCT, .rwm, true⟩]⟩,
  ⟨0x601c, 4, 1, fun _ => [⟨Reg.FL_PATROL.HOURS, .rwm, true⟩]⟩,
  ⟨0x6020, 4, 1, fun _ => [⟨Reg.FL_WEAKPCT.PCT, .rwm, true⟩]⟩,
  ⟨0x6024, 4, 1, fun _ => [⟨Reg.FL_RETSTALE.DAYS, .rwm, true⟩]⟩,
  ⟨0x6028, 4, 1, fun _ => [⟨Reg.FL_ERESV.STRIPES, .rwm, true⟩]⟩,
  ⟨0x602c, 4, 1, fun _ => [⟨Reg.FL_LIFEWARN.DAYS, .rwm, true⟩]⟩]
def flRows1 : List SlotRow := [
  ⟨0x6030, 4, 1, fun _ => [⟨Reg.FL_JSTRIPES.STRIPES, .ro, true⟩]⟩,
  ⟨0x6034, 4, 1, fun _ => [⟨Reg.FL_RATEDPE.CYCLES, .ro, true⟩]⟩,
  ⟨0x6038, 4, 1, fun _ => [⟨Reg.FL_MEANPE.CYCLES, .ro, false⟩]⟩,
  ⟨0x603c, 4, 1, fun _ => [⟨Reg.FL_MAXPE.CYCLES, .ro, false⟩]⟩,
  ⟨0x6040, 4, 1, fun _ => [⟨Reg.FL_STRIPES.COUNT, .ro, false⟩]⟩,
  ⟨0x6044, 4, 1, fun _ => [⟨Reg.FL_ERASED.COUNT, .ro, false⟩]⟩,
  ⟨0x6048, 4, 1, fun _ => [⟨Reg.FL_CAPGIB.GIB, .ro, false⟩]⟩,
  ⟨0x604c, 4, 1, fun _ => [⟨Reg.FL_REQGIB.GIB, .ro, false⟩]⟩,
  ⟨0x6050, 4, 1, fun _ => [⟨Reg.FL_CORR.COUNT, .ro, false⟩]⟩,
  ⟨0x6054, 4, 1, fun _ => [⟨Reg.FL_RETRIES.COUNT, .ro, false⟩]⟩,
  ⟨0x6058, 4, 1, fun _ => [⟨Reg.FL_UNCORR.COUNT, .ro, false⟩]⟩,
  ⟨0x605c, 4, 1, fun _ => [⟨Reg.FL_GROWN.COUNT, .ro, false⟩]⟩]
def flRows2 : List SlotRow := [
  ⟨0x6060, 4, 1, fun _ => [⟨Reg.FL_LIFEMEAS.DAYS, .ro, false⟩]⟩,
  ⟨0x6064, 4, 1, fun _ => [⟨Reg.FL_LIFEBW.DAYS, .ro, false⟩]⟩,
  ⟨0x6068, 4, 1, fun _ => [⟨Reg.FL_WA.HUNDREDTHS, .ro, false⟩]⟩,
  ⟨0x606c, 4, 1, fun _ => [⟨Reg.FL_PATROLAGE.HOURS, .ro, false⟩]⟩]
def flRows : List SlotRow :=
  flRows0 ++ flRows1 ++ flRows2

/-- The slots of unit 7 that hold a field (R260). -/
def pwRows0 : List SlotRow := [
  ⟨0x7000, 4, 1, fun _ => [⟨Reg.PW_STATE.PREV, .ro, false⟩, ⟨Reg.PW_STATE.STATE, .ro, false⟩]⟩,
  ⟨0x7004, 4, 1, fun _ => [⟨Reg.PW_CTL.AUXWAKE, .rwm, true⟩, ⟨Reg.PW_CTL.AUXSTBY, .rwm, true⟩, ⟨Reg.PW_CTL.WAKE, .wo,
    false⟩, ⟨Reg.PW_CTL.UNLATCH, .wo, false⟩]⟩,
  ⟨0x7008, 4, 1, fun _ => [⟨Reg.PW_WAKE.STATE, .rwm, true⟩]⟩,
  ⟨0x700c, 4, 1, fun _ => [⟨Reg.PW_TFAULT.MS, .rwm, true⟩]⟩,
  ⟨0x7010, 4, 1, fun _ => [⟨Reg.PW_STATUS.FAULTEP, .ro, false⟩, ⟨Reg.PW_STATUS.SEQ, .ro, false⟩, ⟨Reg.PW_STATUS.FLINE,
    .ro, false⟩, ⟨Reg.PW_STATUS.FAULTOUT, .ro, false⟩, ⟨Reg.PW_STATUS.HOLDWAKE, .ro, false⟩, ⟨Reg.PW_STATUS.LATCHED,
      .ro, false⟩]⟩,
  ⟨0x7014, 4, 1, fun _ => [⟨Reg.PW_LATCH.CAUSE, .ro, true⟩, ⟨Reg.PW_LATCH.RAIL, .ro, true⟩]⟩,
  ⟨0x7018, 4, 1, fun _ => [⟨Reg.PW_ON.EN, .ro, false⟩]⟩,
  ⟨0x701c, 4, 1, fun _ => [⟨Reg.PW_GOOD.RAIL, .ro, false⟩]⟩,
  ⟨0x7020, 4, 1, fun _ => [⟨Reg.PW_STUCK.RAIL, .w1c, false⟩]⟩,
  ⟨0x7024, 4, 1, fun _ => [⟨Reg.PW_FAULTS.COUNT, .ro, false⟩]⟩,
  ⟨0x7028, 4, 1, fun _ => [⟨Reg.PW_FAULTCFG.FLATCH, .rwm, true⟩]⟩,
  ⟨0x7040, 4, 4, fun i => [⟨Reg.PW_MG.STEP i, .ro, false⟩, ⟨Reg.PW_MG.RAIL i, .rwm, true⟩]⟩]
def pwRows1 : List SlotRow := [
  ⟨0x7100, 16, 12, fun i => [⟨Reg.PW_RAIL_A.FAULTN i, .rwm, true⟩, ⟨Reg.PW_RAIL_A.DISEN i, .rwm, true⟩,
    ⟨Reg.PW_RAIL_A.ISOLATE i, .rwm, true⟩, ⟨Reg.PW_RAIL_A.SETTLE i, .rwm, true⟩, ⟨Reg.PW_RAIL_A.DEP i, .rwm, true⟩]⟩,
  ⟨0x7104, 16, 12, fun i => [⟨Reg.PW_RAIL_B.OFFPCT i, .rwm, true⟩, ⟨Reg.PW_RAIL_B.OFFTO i, .rwm, true⟩,
    ⟨Reg.PW_RAIL_B.TSTART i, .rwm, true⟩]⟩,
  ⟨0x7108, 16, 12, fun i => [⟨Reg.PW_RAIL_C.RANK i, .ro, false⟩, ⟨Reg.PW_RAIL_C.STATE i, .ro, false⟩]⟩]
def pwRows : List SlotRow :=
  pwRows0 ++ pwRows1

/-- The slots of unit 8 that hold a field (R283). -/
def mnRows0 : List SlotRow := [
  ⟨0x8000, 4, 1, fun _ => [⟨Reg.MN_STATUS.REFFAIL, .ro, false⟩, ⟨Reg.MN_STATUS.AUDFAIL, .ro, false⟩]⟩,
  ⟨0x8004, 4, 1, fun _ => [⟨Reg.MN_SCAN.AVG, .rwm, true⟩, ⟨Reg.MN_SCAN.TICKS, .rwm, true⟩]⟩,
  ⟨0x8008, 4, 1, fun _ => [⟨Reg.MN_SCANEN0.IN, .rwm, true⟩]⟩,
  ⟨0x800c, 4, 1, fun _ => [⟨Reg.MN_SCANEN1.IN, .rwm, true⟩]⟩,
  ⟨0x8010, 4, 1, fun _ => [⟨Reg.MN_LOW0.CH, .ro, false⟩]⟩,
  ⟨0x8014, 4, 1, fun _ => [⟨Reg.MN_LOW1.CH, .ro, false⟩]⟩,
  ⟨0x8018, 4, 1, fun _ => [⟨Reg.MN_HIGH0.CH, .ro, false⟩]⟩,
  ⟨0x801c, 4, 1, fun _ => [⟨Reg.MN_HIGH1.CH, .ro, false⟩]⟩,
  ⟨0x8020, 4, 1, fun _ => [⟨Reg.MN_STKLO0.CH, .w1c, false⟩]⟩,
  ⟨0x8024, 4, 1, fun _ => [⟨Reg.MN_STKLO1.CH, .w1c, false⟩]⟩,
  ⟨0x8028, 4, 1, fun _ => [⟨Reg.MN_STKHI0.CH, .w1c, false⟩]⟩,
  ⟨0x802c, 4, 1, fun _ => [⟨Reg.MN_STKHI1.CH, .w1c, false⟩]⟩]
def mnRows1 : List SlotRow := [
  ⟨0x8030, 4, 1, fun _ => [⟨Reg.MN_AUDFAIL0.CH, .ro, false⟩]⟩,
  ⟨0x8034, 4, 1, fun _ => [⟨Reg.MN_AUDFAIL1.CH, .ro, false⟩]⟩,
  ⟨0x8038, 4, 1, fun _ => [⟨Reg.MN_AUDTOL.TOL, .rwm, true⟩]⟩,
  ⟨0x803c, 4, 1, fun _ => [⟨Reg.MN_SCANSKIP.COUNT, .ro, false⟩]⟩,
  ⟨0x8040, 4, 1, fun _ => [⟨Reg.MN_FLSEL.SLOT, .rw, false⟩]⟩,
  ⟨0x8044, 4, 1, fun _ => [⟨Reg.MN_FLNEWEST.SLOT, .ro, false⟩]⟩,
  ⟨0x8048, 4, 1, fun _ => [⟨Reg.MN_FLCOUNT.COUNT, .ro, false⟩]⟩,
  ⟨0x804c, 4, 1, fun _ => [⟨Reg.MN_FLSTAT.PINNED, .ro, false⟩, ⟨Reg.MN_FLSTAT.VALID, .ro, false⟩]⟩,
  ⟨0x8050, 4, 1, fun _ => [⟨Reg.MN_FLLOST.COUNT, .ro, false⟩]⟩,
  ⟨0x8054, 4, 1, fun _ => [⟨Reg.MN_FLTORN.COUNT, .ro, false⟩]⟩,
  ⟨0x8058, 4, 1, fun _ => [⟨Reg.MN_FLDROP.COUNT, .ro, false⟩]⟩,
  ⟨0x805c, 4, 1, fun _ => [⟨Reg.MN_MGSEL.MG, .rwm, false⟩]⟩]
def mnRows2 : List SlotRow := [
  ⟨0x8060, 4, 8, fun i => [⟨Reg.MN_WMON.EN i, .rwm, true⟩, ⟨Reg.MN_WMON.POL i, .rwm, true⟩, ⟨Reg.MN_WMON.OD i, .rwm,
    true⟩, ⟨Reg.MN_WMON.RAW i, .rwm, true⟩, ⟨Reg.MN_WMON.COND i, .rwm, true⟩, ⟨Reg.MN_WMON.CH i, .rwm, true⟩]⟩,
  ⟨0x8100, 32, 32, fun i => [⟨Reg.MN_CH_A.ATT i, .rwm, true⟩, ⟨Reg.MN_CH_A.MODE i, .rwm, true⟩, ⟨Reg.MN_CH_A.LPMODE i,
    .rwm, true⟩, ⟨Reg.MN_CH_A.HYS i, .rwm, true⟩, ⟨Reg.MN_CH_A.DGL i, .rwm, true⟩]⟩,
  ⟨0x8104, 32, 32, fun i => [⟨Reg.MN_CH_B.EVT i, .rwm, true⟩, ⟨Reg.MN_CH_B.HI i, .rwm, true⟩, ⟨Reg.MN_CH_B.LO i, .rwm,
    true⟩]⟩,
  ⟨0x8108, 32, 32, fun i => [⟨Reg.MN_CH_C.NOM i, .rwm, true⟩]⟩,
  ⟨0x810c, 32, 32, fun i => [⟨Reg.MN_CH_D.HI i, .ro, false⟩, ⟨Reg.MN_CH_D.LO i, .ro, false⟩]⟩,
  ⟨0x8110, 32, 32, fun i => [⟨Reg.MN_CH_E.GAIN i, .rwm, true⟩]⟩,
  ⟨0x8500, 4, 40, fun i => [⟨Reg.MN_RAW.RAW i, .ro, false⟩]⟩,
  ⟨0x8600, 4, 40, fun i => [⟨Reg.MN_VAL.VAL i, .ro, false⟩]⟩,
  ⟨0x8800, 4, 64, fun i => [⟨Reg.MN_FLWIN.WORD i, .ro, false⟩]⟩]
def mnRows : List SlotRow :=
  mnRows0 ++ mnRows1 ++ mnRows2

/-- The slots of unit 9 that hold a field (R309). -/
def btRows0 : List SlotRow := [
  ⟨0x9000, 4, 1, fun _ => [⟨Reg.BT_STATUS.RPINNED, .ro, false⟩, ⟨Reg.BT_STATUS.FPINNED, .ro, false⟩,
    ⟨Reg.BT_STATUS.OVERI, .ro, false⟩, ⟨Reg.BT_STATUS.BALANCING, .ro, false⟩, ⟨Reg.BT_STATUS.CUTOFF, .ro, false⟩,
      ⟨Reg.BT_STATUS.UNCERT, .ro, false⟩, ⟨Reg.BT_STATUS.DISAGREE, .ro, false⟩, ⟨Reg.BT_STATUS.PATH, .ro, false⟩,
        ⟨Reg.BT_STATUS.VINOK, .ro, false⟩, ⟨Reg.BT_STATUS.RANGE, .ro, false⟩, ⟨Reg.BT_STATUS.INSERTING, .ro, false⟩,
          ⟨Reg.BT_STATUS.PACK_ABSENT, .ro, false⟩]⟩,
  ⟨0x9004, 4, 1, fun _ => [⟨Reg.BT_CTL.BALEN, .rwm, true⟩, ⟨Reg.BT_CTL.FLOOP, .rwm, true⟩, ⟨Reg.BT_CTL.RNGLOOP, .rwm,
    true⟩, ⟨Reg.BT_CTL.CHGEN, .rwm, true⟩]⟩,
  ⟨0x9008, 4, 1, fun _ => [⟨Reg.BT_PHASE.PHASE, .ro, false⟩]⟩,
  ⟨0x900c, 4, 1, fun _ => [⟨Reg.BT_ICHG.MA, .rwm, true⟩]⟩,
  ⟨0x9010, 4, 1, fun _ => [⟨Reg.BT_VCHG.MV, .rwm, true⟩]⟩,
  ⟨0x9014, 4, 1, fun _ => [⟨Reg.BT_ITERM.MA, .rwm, true⟩]⟩,
  ⟨0x9018, 4, 1, fun _ => [⟨Reg.BT_VFLOAT.MV, .rwm, true⟩]⟩,
  ⟨0x901c, 4, 1, fun _ => [⟨Reg.BT_TCOMP.TC, .rwm, true⟩]⟩,
  ⟨0x9020, 4, 1, fun _ => [⟨Reg.BT_VFMIN.MV, .rwm, true⟩]⟩,
  ⟨0x9024, 4, 1, fun _ => [⟨Reg.BT_VFMAX.MV, .rwm, true⟩]⟩,
  ⟨0x9028, 4, 1, fun _ => [⟨Reg.BT_VFMAN.MV, .rwm, true⟩]⟩,
  ⟨0x902c, 4, 1, fun _ => [⟨Reg.BT_VFNOW.MV, .ro, false⟩]⟩]
def btRows1 : List SlotRow := [
  ⟨0x9030, 4, 1, fun _ => [⟨Reg.BT_RNG.MAN, .rwm, true⟩, ⟨Reg.BT_RNG.MAX, .rwm, true⟩, ⟨Reg.BT_RNG.MIN, .rwm, true⟩]⟩,
  ⟨0x9034, 4, 1, fun _ => [⟨Reg.BT_RNGRET.MA, .rwm, true⟩]⟩,
  ⟨0x9038, 4, 1, fun _ => [⟨Reg.BT_RNGHYS.N, .rwm, true⟩]⟩,
  ⟨0x903c, 4, 1, fun _ => [⟨Reg.BT_BAL.ON, .rwm, true⟩, ⟨Reg.BT_BAL.OFF, .rwm, true⟩]⟩,
  ⟨0x9040, 4, 1, fun _ => [⟨Reg.BT_QACCH.QACC, .ro, false⟩]⟩,
  ⟨0x9044, 4, 1, fun _ => [⟨Reg.BT_QACCL.QACC, .ro, false⟩]⟩,
  ⟨0x9048, 4, 1, fun _ => [⟨Reg.BT_QREM.Q, .ro, false⟩]⟩,
  ⟨0x904c, 4, 1, fun _ => [⟨Reg.BT_CAP.Q, .ro, false⟩]⟩,
  ⟨0x9050, 4, 1, fun _ => [⟨Reg.BT_CAPNOM.Q, .rwm, true⟩]⟩,
  ⟨0x9054, 4, 1, fun _ => [⟨Reg.BT_SOC.PCT, .ro, false⟩]⟩,
  ⟨0x9058, 4, 1, fun _ => [⟨Reg.BT_SOCCC.PCT, .ro, false⟩]⟩,
  ⟨0x905c, 4, 1, fun _ => [⟨Reg.BT_SOCD.PCT, .ro, false⟩]⟩]
def btRows2 : List SlotRow := [
  ⟨0x9060, 4, 1, fun _ => [⟨Reg.BT_VRANGE.VHI, .ro, false⟩, ⟨Reg.BT_VRANGE.VLO, .ro, false⟩]⟩,
  ⟨0x9064, 4, 1, fun _ => [⟨Reg.BT_DTOL.PCT, .rwm, true⟩]⟩,
  ⟨0x9068, 4, 1, fun _ => [⟨Reg.BT_QOVER.Q, .ro, false⟩]⟩,
  ⟨0x906c, 4, 1, fun _ => [⟨Reg.BT_KEEP.Q, .rwm, true⟩]⟩,
  ⟨0x9070, 4, 1, fun _ => [⟨Reg.BT_VSAVE.MV, .rwm, true⟩]⟩,
  ⟨0x9074, 4, 1, fun _ => [⟨Reg.BT_EFF.PCT, .rwm, true⟩]⟩,
  ⟨0x9078, 4, 1, fun _ => [⟨Reg.BT_RCELL.MOHM, .rwm, true⟩]⟩,
  ⟨0x907c, 4, 1, fun _ => [⟨Reg.BT_EAVAIL.E, .ro, false⟩]⟩,
  ⟨0x9080, 4, 1, fun _ => [⟨Reg.BT_VCELL1.MV, .ro, false⟩]⟩,
  ⟨0x9084, 4, 1, fun _ => [⟨Reg.BT_VCELL2.MV, .ro, false⟩]⟩,
  ⟨0x9088, 4, 1, fun _ => [⟨Reg.BT_VPACK.MV, .ro, false⟩]⟩,
  ⟨0x908c, 4, 1, fun _ => [⟨Reg.BT_IPACK.MA, .ro, false⟩]⟩]
def btRows3 : List SlotRow := [
  ⟨0x9090, 4, 1, fun _ => [⟨Reg.BT_TEMP.DC, .ro, false⟩]⟩,
  ⟨0x9094, 4, 1, fun _ => [⟨Reg.BT_VCUT.MV, .rwm, true⟩]⟩,
  ⟨0x9098, 4, 1, fun _ => [⟨Reg.BT_VEXH.MV, .rwm, true⟩]⟩,
  ⟨0x909c, 4, 1, fun _ => [⟨Reg.BT_CTIMEOUT.MIN, .rwm, true⟩]⟩,
  ⟨0x90a0, 4, 1, fun _ => [⟨Reg.BT_REMOVALS.COUNT, .ro, false⟩]⟩,
  ⟨0x90a4, 4, 1, fun _ => [⟨Reg.BT_FULLS.COUNT, .ro, false⟩]⟩]
def btRows : List SlotRow :=
  btRows0 ++ btRows1 ++ btRows2 ++ btRows3

/-- The slots of unit 10 that hold a field (R338). -/
def tmRows0 : List SlotRow := [
  ⟨0xa000, 4, 1, fun _ => [⟨Reg.TM_STATUS.LEARNED, .ro, false⟩, ⟨Reg.TM_STATUS.LOGSTOP, .ro, false⟩,
    ⟨Reg.TM_STATUS.XTAL, .ro, false⟩, ⟨Reg.TM_STATUS.OSCFAIL, .ro, false⟩, ⟨Reg.TM_STATUS.DISAGREE, .ro, false⟩,
      ⟨Reg.TM_STATUS.PINNED, .ro, false⟩, ⟨Reg.TM_STATUS.SLEWING, .ro, false⟩, ⟨Reg.TM_STATUS.SRC, .ro, false⟩,
        ⟨Reg.TM_STATUS.QUAL, .ro, false⟩]⟩,
  ⟨0xa004, 4, 1, fun _ => [⟨Reg.TM_CTL.FORGET, .wo, false⟩, ⟨Reg.TM_CTL.LEARN, .rwm, true⟩, ⟨Reg.TM_CTL.NOSTEP, .rwm,
    true⟩, ⟨Reg.TM_CTL.LOOP, .rwm, true⟩]⟩,
  ⟨0xa008, 4, 1, fun _ => [⟨Reg.TM_SRCPRIO.PRIO, .rwm, true⟩]⟩,
  ⟨0xa00c, 4, 1, fun _ => [⟨Reg.TM_SRCQ.Q, .ro, false⟩]⟩,
  ⟨0xa010, 4, 3, fun i => [⟨Reg.TM_NOW.STAMP i, .ro, false⟩]⟩,
  ⟨0xa01c, 4, 1, fun _ => [⟨Reg.TM_ERRBOUND.T, .ro, false⟩]⟩,
  ⟨0xa020, 4, 1, fun _ => [⟨Reg.TM_PHERR.T, .ro, false⟩]⟩,
  ⟨0xa024, 4, 1, fun _ => [⟨Reg.TM_FREQNOW.F, .ro, false⟩]⟩,
  ⟨0xa028, 4, 1, fun _ => [⟨Reg.TM_SLEWMIN.F, .rwm, true⟩]⟩,
  ⟨0xa02c, 4, 1, fun _ => [⟨Reg.TM_SLEWMAX.F, .rwm, true⟩]⟩,
  ⟨0xa030, 4, 1, fun _ => [⟨Reg.TM_FREQMAN.F, .rwm, true⟩]⟩,
  ⟨0xa034, 4, 1, fun _ => [⟨Reg.TM_SERVOTC.S, .rwm, true⟩]⟩]
def tmRows1 : List SlotRow := [
  ⟨0xa038, 4, 1, fun _ => [⟨Reg.TM_STEPTHR.T, .rwm, true⟩]⟩,
  ⟨0xa03c, 4, 1, fun _ => [⟨Reg.TM_TRIM.T, .rwm, true⟩]⟩,
  ⟨0xa040, 4, 4, fun i => [⟨Reg.TM_SRCCFG.LOCKTHR (i + 1), .rwm, true⟩, ⟨Reg.TM_SRCCFG.SRCERR (i + 1), .rwm, true⟩]⟩,
  ⟨0xa050, 4, 1, fun _ => [⟨Reg.TM_DISTOL.T, .rwm, true⟩]⟩,
  ⟨0xa054, 4, 1, fun _ => [⟨Reg.TM_HOLDU.UNL, .rwm, true⟩, ⟨Reg.TM_HOLDU.LRN, .rwm, true⟩]⟩,
  ⟨0xa058, 4, 1, fun _ => [⟨Reg.TM_HOLDLIM.T, .rwm, true⟩]⟩,
  ⟨0xa05c, 4, 1, fun _ => [⟨Reg.TM_XTAL.XTU, .rwm, true⟩, ⟨Reg.TM_XTAL.XTK, .rwm, true⟩]⟩,
  ⟨0xa060, 4, 1, fun _ => [⟨Reg.TM_XTOFS.F, .ro, true⟩]⟩,
  ⟨0xa064, 4, 1, fun _ => [⟨Reg.TM_TCXOMAX.H, .rwm, true⟩]⟩,
  ⟨0xa068, 4, 1, fun _ => [⟨Reg.TM_UTCOFS.S, .rwm, true⟩]⟩,
  ⟨0xa06c, 4, 1, fun _ => [⟨Reg.TM_LEAP.SETTER, .ro, false⟩, ⟨Reg.TM_LEAP.PEND, .rwm, false⟩]⟩,
  ⟨0xa070, 4, 1, fun _ => [⟨Reg.TM_LEAPATH.AT, .rwm, false⟩]⟩]
def tmRows2 : List SlotRow := [
  ⟨0xa074, 4, 1, fun _ => [⟨Reg.TM_LEAPATL.AT, .rwm, false⟩]⟩,
  ⟨0xa078, 4, 1, fun _ => [⟨Reg.TM_PPSIN.DLY, .rwm, true⟩, ⟨Reg.TM_PPSIN.EDGE, .rwm, true⟩]⟩,
  ⟨0xa07c, 4, 1, fun _ => [⟨Reg.TM_PPSOUT.ADV, .rwm, true⟩, ⟨Reg.TM_PPSOUT.QMIN, .rwm, true⟩, ⟨Reg.TM_PPSOUT.POL,
    .rwm, true⟩, ⟨Reg.TM_PPSOUT.EN, .rwm, true⟩]⟩,
  ⟨0xa080, 4, 1, fun _ => [⟨Reg.TM_PPSWID.US, .rwm, true⟩]⟩,
  ⟨0xa084, 4, 1, fun _ => [⟨Reg.TM_IRIGIN.DLY, .rwm, true⟩, ⟨Reg.TM_IRIGIN.TQMAX, .rwm, true⟩, ⟨Reg.TM_IRIGIN.EXT,
    .rwm, true⟩, ⟨Reg.TM_IRIGIN.FMT, .rwm, true⟩]⟩,
  ⟨0xa088, 4, 1, fun _ => [⟨Reg.TM_IRIGOUT.ADV, .rwm, true⟩, ⟨Reg.TM_IRIGOUT.EN, .rwm, true⟩, ⟨Reg.TM_IRIGOUT.EXT,
    .rwm, true⟩, ⟨Reg.TM_IRIGOUT.FMT, .rwm, true⟩]⟩,
  ⟨0xa08c, 4, 1, fun _ => [⟨Reg.TM_IRIGOFS.HH, .rwm, true⟩]⟩,
  ⟨0xa090, 4, 1, fun _ => [⟨Reg.TM_GNSS.ASSOC, .rwm, true⟩]⟩,
  ⟨0xa094, 4, 1, fun _ => [⟨Reg.TM_CLASS.CLASS, .ro, false⟩]⟩,
  ⟨0xa098, 4, 1, fun _ => [⟨Reg.TM_PPSBAD.COUNT, .ro, false⟩]⟩,
  ⟨0xa09c, 4, 1, fun _ => [⟨Reg.TM_IRIGBAD.COUNT, .ro, false⟩]⟩,
  ⟨0xa0a0, 4, 1, fun _ => [⟨Reg.TM_NMEABAD.COUNT, .ro, false⟩]⟩]
def tmRows3 : List SlotRow := [
  ⟨0xa0a4, 4, 1, fun _ => [⟨Reg.TM_STEPS.COUNT, .ro, false⟩]⟩,
  ⟨0xa0a8, 4, 1, fun _ => [⟨Reg.TM_SAVTCXO.MIN, .ro, false⟩]⟩,
  ⟨0xa0ac, 4, 1, fun _ => [⟨Reg.TM_SAVXT.MIN, .ro, false⟩]⟩,
  ⟨0xa0b0, 4, 1, fun _ => [⟨Reg.TM_SNAPCTL.SNAP, .wo, false⟩]⟩,
  ⟨0xa0b4, 4, 3, fun i => [⟨Reg.TM_SNAP.STAMP i, .ro, false⟩]⟩,
  ⟨0xa100, 16, 4, fun i => [⟨Reg.TM_CAP.STAMP i 0, .ro, false⟩]⟩,
  ⟨0xa104, 16, 4, fun i => [⟨Reg.TM_CAP.STAMP i 1, .ro, false⟩]⟩,
  ⟨0xa108, 16, 4, fun i => [⟨Reg.TM_CAP.STAMP i 2, .ro, false⟩]⟩,
  ⟨0xa10c, 16, 4, fun i => [⟨Reg.TM_CAP_S.ST i, .ro, false⟩]⟩,
  ⟨0xa200, 4, 1, fun _ => [⟨Reg.TM_LOGCFG.STOP, .rwm, true⟩]⟩,
  ⟨0xa204, 4, 1, fun _ => [⟨Reg.TM_LOGPAGE.PAGE, .rwm, false⟩]⟩,
  ⟨0xa208, 4, 1, fun _ => [⟨Reg.TM_LOGOLD.SLOT, .ro, false⟩]⟩]
def tmRows4 : List SlotRow := [
  ⟨0xa20c, 4, 1, fun _ => [⟨Reg.TM_LOGCOUNT.N, .ro, false⟩]⟩,
  ⟨0xa210, 4, 1, fun _ => [⟨Reg.TM_LOGLOST.COUNT, .ro, false⟩]⟩,
  ⟨0xa214, 4, 1, fun _ => [⟨Reg.TM_LOGREL.SEQ, .rw, false⟩]⟩,
  ⟨0xa218, 4, 1, fun _ => [⟨Reg.TM_EVSEQ.SEQ, .ro, false⟩]⟩,
  ⟨0xa400, 8, 64, fun i => [⟨Reg.TM_TBIN.F i, .ro, true⟩]⟩,
  ⟨0xa404, 8, 64, fun i => [⟨Reg.TM_TBINN.N i, .ro, true⟩]⟩]
def tmRows : List SlotRow :=
  tmRows0 ++ tmRows1 ++ tmRows2 ++ tmRows3 ++ tmRows4

/-- The slots of unit 11 that hold a field (R364). -/
def scRows0 : List SlotRow := [
  ⟨0xb000, 4, 1, fun _ => [⟨Reg.SC_STATUS.CRC, .ro, false⟩, ⟨Reg.SC_STATUS.RELREQ, .ro, false⟩,
    ⟨Reg.SC_STATUS.CLKSTOP, .ro, false⟩, ⟨Reg.SC_STATUS.PRESENT, .ro, false⟩, ⟨Reg.SC_STATUS.T1, .ro, false⟩,
      ⟨Reg.SC_STATUS.INV, .ro, false⟩, ⟨Reg.SC_STATUS.CLASS, .ro, false⟩, ⟨Reg.SC_STATUS.STATE, .ro, false⟩]⟩,
  ⟨0xb004, 4, 1, fun _ => [⟨Reg.SC_CFG.NAD, .rwm, true⟩, ⟨Reg.SC_CFG.IFSD, .rwm, true⟩, ⟨Reg.SC_CFG.STOPLVL, .rwm,
    true⟩, ⟨Reg.SC_CFG.DETPOL, .rwm, true⟩]⟩,
  ⟨0xb008, 4, 1, fun _ => [⟨Reg.SC_CLKCFG.RUNDIV, .rwm, true⟩, ⟨Reg.SC_CLKCFG.ACTDIV, .rwm, true⟩]⟩,
  ⟨0xb00c, 4, 1, fun _ => [⟨Reg.SC_PAGE.RSPPG, .rw, false⟩, ⟨Reg.SC_PAGE.CMDPG, .rw, false⟩]⟩,
  ⟨0xb010, 4, 1, fun _ => [⟨Reg.SC_FD.FD, .ro, false⟩]⟩,
  ⟨0xb014, 4, 1, fun _ => [⟨Reg.SC_T1.IFSC, .ro, false⟩, ⟨Reg.SC_T1.CWI, .ro, false⟩, ⟨Reg.SC_T1.BWI, .ro, false⟩,
    ⟨Reg.SC_T1.N, .ro, false⟩]⟩,
  ⟨0xb018, 4, 1, fun _ => [⟨Reg.SC_XFRTO.S, .rwm, true⟩]⟩,
  ⟨0xb01c, 4, 1, fun _ => [⟨Reg.SC_DETDB.MS, .rwm, true⟩]⟩,
  ⟨0xb020, 4, 1, fun _ => [⟨Reg.SC_SEQ.DEV, .ro, false⟩, ⟨Reg.SC_SEQ.CARD, .ro, false⟩]⟩,
  ⟨0xb024, 4, 1, fun _ => [⟨Reg.SC_RBLK.COUNT, .ro, false⟩]⟩,
  ⟨0xb028, 4, 1, fun _ => [⟨Reg.SC_RETX.COUNT, .ro, false⟩]⟩,
  ⟨0xb02c, 4, 1, fun _ => [⟨Reg.SC_DUPS.COUNT, .ro, false⟩]⟩]
def scRows1 : List SlotRow := [
  ⟨0xb030, 4, 1, fun _ => [⟨Reg.SC_RESYNCHS.COUNT, .ro, false⟩]⟩,
  ⟨0xb034, 4, 1, fun _ => [⟨Reg.SC_PARERR.COUNT, .ro, false⟩]⟩,
  ⟨0xb038, 4, 1, fun _ => [⟨Reg.SC_INSERTS.COUNT, .ro, false⟩]⟩,
  ⟨0xb03c, 4, 1, fun _ => [⟨Reg.SC_REMOVALS.COUNT, .ro, false⟩]⟩,
  ⟨0xb040, 4, 1, fun _ => [⟨Reg.SC_ATRLEN.LEN, .ro, false⟩]⟩,
  ⟨0xb044, 4, 1, fun _ => [⟨Reg.SC_RXCOUNT.N, .ro, false⟩]⟩,
  ⟨0xb080, 4, 11, fun i => [⟨Reg.SC_ATR.ATR i, .ro, false⟩]⟩]
def scRows : List SlotRow :=
  scRows0 ++ scRows1

/-- The slots of unit 12 that hold a field (R387). -/
def mcRows0 : List SlotRow := [
  ⟨0xc000, 4, 1, fun _ => [⟨Reg.MC_STATUS.RELREQ, .ro, false⟩, ⟨Reg.MC_STATUS.PERMWP, .ro, false⟩,
    ⟨Reg.MC_STATUS.TMPWP, .ro, false⟩, ⟨Reg.MC_STATUS.RPMB, .ro, false⟩, ⟨Reg.MC_STATUS.HS, .ro, false⟩,
      ⟨Reg.MC_STATUS.WIDE, .ro, false⟩, ⟨Reg.MC_STATUS.SECTOR, .ro, false⟩, ⟨Reg.MC_STATUS.PRESENT, .ro, false⟩,
        ⟨Reg.MC_STATUS.CLKRUN, .ro, false⟩, ⟨Reg.MC_STATUS.STATE, .ro, false⟩]⟩,
  ⟨0xc004, 4, 1, fun _ => [⟨Reg.MC_CFG.RCA, .rwm, true⟩, ⟨Reg.MC_CFG.GATE, .rwm, true⟩, ⟨Reg.MC_CFG.DETPOL, .rwm,
    true⟩]⟩,
  ⟨0xc008, 4, 1, fun _ => [⟨Reg.MC_CLKCFG.IDDIV, .rwm, true⟩]⟩,
  ⟨0xc00c, 4, 1, fun _ => [⟨Reg.MC_RUNDIV.CDIV, .ro, false⟩]⟩,
  ⟨0xc010, 4, 1, fun _ => [⟨Reg.MC_DETDB.MS, .rwm, true⟩]⟩,
  ⟨0xc014, 4, 1, fun _ => [⟨Reg.MC_XFRTO.MS, .rwm, true⟩]⟩,
  ⟨0xc018, 4, 1, fun _ => [⟨Reg.MC_BUSYTO.MS, .rwm, true⟩]⟩,
  ⟨0xc01c, 4, 1, fun _ => [⟨Reg.MC_HOSTCNT.N, .rwm, false⟩]⟩,
  ⟨0xc020, 4, 1, fun _ => [⟨Reg.MC_DEVCNT.N, .ro, false⟩]⟩,
  ⟨0xc024, 4, 1, fun _ => [⟨Reg.MC_XCOUNT.N, .ro, false⟩]⟩,
  ⟨0xc028, 4, 1, fun _ => [⟨Reg.MC_TORNH.VALID, .w1c, false⟩, ⟨Reg.MC_TORNH.ADDR, .ro, false⟩]⟩,
  ⟨0xc02c, 4, 1, fun _ => [⟨Reg.MC_TORNL.ADDR, .ro, false⟩]⟩]
def mcRows1 : List SlotRow := [
  ⟨0xc030, 4, 1, fun _ => [⟨Reg.MC_CAPH.BLOCKS, .ro, false⟩]⟩,
  ⟨0xc034, 4, 1, fun _ => [⟨Reg.MC_CAPL.BLOCKS, .ro, false⟩]⟩,
  ⟨0xc038, 4, 1, fun _ => [⟨Reg.MC_CARDST.ST, .ro, false⟩]⟩,
  ⟨0xc03c, 4, 1, fun _ => [⟨Reg.MC_WPCTL.KEYPROG, .rwm, false⟩, ⟨Reg.MC_WPCTL.PERMOK, .rwm, false⟩]⟩,
  ⟨0xc040, 4, 1, fun _ => [⟨Reg.MC_CRCERR.COUNT, .ro, false⟩]⟩,
  ⟨0xc044, 4, 1, fun _ => [⟨Reg.MC_RETRIES.COUNT, .ro, false⟩]⟩,
  ⟨0xc048, 4, 1, fun _ => [⟨Reg.MC_READS.COUNT, .ro, false⟩]⟩,
  ⟨0xc04c, 4, 1, fun _ => [⟨Reg.MC_WRITES.COUNT, .ro, false⟩]⟩,
  ⟨0xc050, 4, 1, fun _ => [⟨Reg.MC_INSERTS.COUNT, .ro, false⟩]⟩,
  ⟨0xc054, 4, 1, fun _ => [⟨Reg.MC_REMOVALS.COUNT, .ro, false⟩]⟩,
  ⟨0xc058, 4, 1, fun _ => [⟨Reg.MC_TORNS.COUNT, .ro, false⟩]⟩,
  ⟨0xc05c, 4, 1, fun _ => [⟨Reg.MC_RPMBCNTH.CNT, .ro, false⟩]⟩]
def mcRows2 : List SlotRow := [
  ⟨0xc060, 4, 1, fun _ => [⟨Reg.MC_RPMBCNTL.CNT, .ro, false⟩]⟩,
  ⟨0xc080, 4, 6, fun i => [⟨Reg.MC_CID.CID i, .ro, false⟩]⟩,
  ⟨0xc0a0, 4, 6, fun i => [⟨Reg.MC_CSD.CSD i, .ro, false⟩]⟩]
def mcRows : List SlotRow :=
  mcRows0 ++ mcRows1 ++ mcRows2

/-- The slots of unit 13 that hold a field (R414). -/
def uaRows0 : List SlotRow := [
  ⟨0xd000, 4, 1, fun _ => [⟨Reg.UA_OWN.LINK, .ro, false⟩]⟩,
  ⟨0xd004, 4, 1, fun _ => [⟨Reg.UA_ABMIN.BPS, .rwm, true⟩]⟩,
  ⟨0xd008, 4, 1, fun _ => [⟨Reg.UA_ABMAX.BPS, .rwm, true⟩]⟩,
  ⟨0xd100, 128, 4, fun i => [⟨Reg.UA_STAT.ENABLED i, .ro, false⟩, ⟨Reg.UA_STAT.SLEEPING i, .ro, false⟩,
    ⟨Reg.UA_STAT.DE i, .ro, false⟩, ⟨Reg.UA_STAT.TXBUSY i, .ro, false⟩, ⟨Reg.UA_STAT.RXBUSY i, .ro, false⟩,
      ⟨Reg.UA_STAT.ABPINNED i, .ro, false⟩, ⟨Reg.UA_STAT.LINK i, .ro, false⟩]⟩,
  ⟨0xd104, 128, 4, fun i => [⟨Reg.UA_CFGA.DIV i, .ro, true⟩]⟩,
  ⟨0xd108, 128, 4, fun i => [⟨Reg.UA_CFGB.CFG i, .ro, true⟩]⟩,
  ⟨0xd10c, 128, 4, fun i => [⟨Reg.UA_CFGC.LEAD i, .ro, true⟩, ⟨Reg.UA_CFGC.TAIL i, .ro, true⟩]⟩,
  ⟨0xd110, 128, 4, fun i => [⟨Reg.UA_CFGD.TXTRIG i, .ro, true⟩, ⟨Reg.UA_CFGD.RXTRIG i, .ro, true⟩]⟩,
  ⟨0xd114, 128, 4, fun i => [⟨Reg.UA_LEVEL.TX i, .ro, false⟩, ⟨Reg.UA_LEVEL.RX i, .ro, false⟩]⟩,
  ⟨0xd118, 128, 4, fun i => [⟨Reg.UA_FLAGS.BRK i, .w1c, false⟩, ⟨Reg.UA_FLAGS.OVR i, .w1c, false⟩]⟩,
  ⟨0xd11c, 128, 4, fun i => [⟨Reg.UA_RATE.BPS i, .ro, true⟩]⟩,
  ⟨0xd120, 128, 4, fun i => [⟨Reg.UA_RXBYTES.COUNT i, .ro, false⟩]⟩]
def uaRows1 : List SlotRow := [
  ⟨0xd124, 128, 4, fun i => [⟨Reg.UA_TXBYTES.COUNT i, .ro, false⟩]⟩,
  ⟨0xd128, 128, 4, fun i => [⟨Reg.UA_GLITCH.COUNT i, .ro, false⟩]⟩,
  ⟨0xd12c, 128, 4, fun i => [⟨Reg.UA_NOISE.COUNT i, .ro, false⟩]⟩,
  ⟨0xd130, 128, 4, fun i => [⟨Reg.UA_FRAMING.COUNT i, .ro, false⟩]⟩,
  ⟨0xd134, 128, 4, fun i => [⟨Reg.UA_PARITY.COUNT i, .ro, false⟩]⟩,
  ⟨0xd138, 128, 4, fun i => [⟨Reg.UA_OVERRUN.COUNT i, .ro, false⟩]⟩,
  ⟨0xd13c, 128, 4, fun i => [⟨Reg.UA_BREAK.COUNT i, .ro, false⟩]⟩,
  ⟨0xd140, 128, 4, fun i => [⟨Reg.UA_WAKELOST.COUNT i, .ro, false⟩]⟩,
  ⟨0xd144, 128, 4, fun i => [⟨Reg.UA_ABREJECT.COUNT i, .ro, false⟩]⟩,
  ⟨0xd148, 128, 4, fun i => [⟨Reg.UA_PEND.SENDS i, .ro, false⟩, ⟨Reg.UA_PEND.RECVS i, .ro, false⟩]⟩]
def uaRows : List SlotRow :=
  uaRows0 ++ uaRows1

/-- The slots of unit 14 that hold a field (R451). -/
def lkRows0 : List SlotRow := [
  ⟨0xe000, 4, 1, fun _ => [⟨Reg.LK_STATUS.AUTOREC, .ro, false⟩, ⟨Reg.LK_STATUS.BOPINNED, .ro, false⟩,
    ⟨Reg.LK_STATUS.TABLEMIS, .ro, false⟩, ⟨Reg.LK_STATUS.BDOWN, .ro, false⟩, ⟨Reg.LK_STATUS.ADOWN, .ro, false⟩,
      ⟨Reg.LK_STATUS.LEAVING, .ro, false⟩, ⟨Reg.LK_STATUS.JOINING, .ro, false⟩, ⟨Reg.LK_STATUS.JOINED, .ro, false⟩,
        ⟨Reg.LK_STATUS.MASTER, .ro, false⟩]⟩,
  ⟨0xe004, 4, 1, fun _ => [⟨Reg.LK_CFG.RATE, .rwm, true⟩, ⟨Reg.LK_CFG.AUTO, .rwm, true⟩, ⟨Reg.LK_CFG.MASTEROK, .rwm,
    true⟩, ⟨Reg.LK_CFG.DROPUNK, .rwm, true⟩, ⟨Reg.LK_CFG.C, .rwm, true⟩, ⟨Reg.LK_CFG.TURN, .rwm, true⟩]⟩,
  ⟨0xe008, 4, 1, fun _ => [⟨Reg.LK_ADDR.ADDR, .ro, false⟩]⟩,
  ⟨0xe00c, 4, 1, fun _ => [⟨Reg.LK_UIDH.UID, .ro, false⟩]⟩,
  ⟨0xe010, 4, 1, fun _ => [⟨Reg.LK_UIDM.UID, .ro, false⟩]⟩,
  ⟨0xe014, 4, 1, fun _ => [⟨Reg.LK_UIDL.UID, .ro, false⟩]⟩,
  ⟨0xe018, 4, 1, fun _ => [⟨Reg.LK_MASTER.CLASS, .ro, false⟩, ⟨Reg.LK_MASTER.ADDR, .ro, false⟩]⟩,
  ⟨0xe01c, 4, 1, fun _ => [⟨Reg.LK_CYCLE.N, .ro, false⟩]⟩,
  ⟨0xe020, 4, 1, fun _ => [⟨Reg.LK_DELAYA.NS, .rwm, true⟩]⟩,
  ⟨0xe024, 4, 1, fun _ => [⟨Reg.LK_DELAYB.NS, .rwm, true⟩]⟩,
  ⟨0xe028, 4, 1, fun _ => [⟨Reg.LK_BOMIN.CYC, .rwm, true⟩]⟩,
  ⟨0xe02c, 4, 1, fun _ => [⟨Reg.LK_BOMAX.CYC, .rwm, true⟩]⟩]
def lkRows1 : List SlotRow := [
  ⟨0xe030, 4, 1, fun _ => [⟨Reg.LK_BOMAN.CYC, .rwm, true⟩]⟩,
  ⟨0xe034, 4, 1, fun _ => [⟨Reg.LK_BONOW.CYC, .ro, true⟩]⟩,
  ⟨0xe038, 4, 1, fun _ => [⟨Reg.LK_CTL.BOLOOP, .rwm, true⟩]⟩,
  ⟨0xe03c, 4, 1, fun _ => [⟨Reg.LK_RXTO.CYC, .rwm, true⟩]⟩,
  ⟨0xe040, 4, 1, fun _ => [⟨Reg.LK_TABLEID.ID, .ro, false⟩]⟩,
  ⟨0xe044, 4, 1, fun _ => [⟨Reg.LK_QUEUE.FRAMES, .ro, false⟩, ⟨Reg.LK_QUEUE.SENDS, .ro, false⟩]⟩,
  ⟨0xe080, 4, 1, fun _ => [⟨Reg.LK_TXFRAMES.COUNT, .ro, false⟩]⟩,
  ⟨0xe084, 4, 1, fun _ => [⟨Reg.LK_RXFRAMES.COUNT, .ro, false⟩]⟩,
  ⟨0xe088, 4, 1, fun _ => [⟨Reg.LK_RETRIES.COUNT, .ro, false⟩]⟩,
  ⟨0xe08c, 4, 1, fun _ => [⟨Reg.LK_COLLISIONS.COUNT, .ro, false⟩]⟩,
  ⟨0xe090, 4, 1, fun _ => [⟨Reg.LK_DUPS.COUNT, .ro, false⟩]⟩,
  ⟨0xe094, 4, 1, fun _ => [⟨Reg.LK_PDUPS.COUNT, .ro, false⟩]⟩]
def lkRows2 : List SlotRow := [
  ⟨0xe098, 4, 1, fun _ => [⟨Reg.LK_NOISE.COUNT, .ro, false⟩]⟩,
  ⟨0xe09c, 4, 1, fun _ => [⟨Reg.LK_FOREIGN.COUNT, .ro, false⟩]⟩,
  ⟨0xe0a0, 4, 1, fun _ => [⟨Reg.LK_UNKNOWN.COUNT, .ro, false⟩]⟩,
  ⟨0xe0a4, 4, 1, fun _ => [⟨Reg.LK_INTRUDERS.COUNT, .ro, false⟩]⟩,
  ⟨0xe0a8, 4, 1, fun _ => [⟨Reg.LK_LENFAULTS.COUNT, .ro, false⟩]⟩,
  ⟨0xe0ac, 4, 1, fun _ => [⟨Reg.LK_RXDROP.COUNT, .ro, false⟩]⟩,
  ⟨0xe0b0, 4, 1, fun _ => [⟨Reg.LK_ALOSS.COUNT, .ro, false⟩]⟩,
  ⟨0xe0b4, 4, 1, fun _ => [⟨Reg.LK_BLOSS.COUNT, .ro, false⟩]⟩,
  ⟨0xe0b8, 4, 1, fun _ => [⟨Reg.LK_ELECTIONS.COUNT, .ro, false⟩]⟩,
  ⟨0xe0bc, 4, 1, fun _ => [⟨Reg.LK_NOTICELOST.COUNT, .ro, false⟩]⟩,
  ⟨0xe100, 12, 64, fun i => [⟨Reg.LK_SLOT.ENTRY i 0, .ro, false⟩]⟩,
  ⟨0xe104, 12, 64, fun i => [⟨Reg.LK_SLOT.ENTRY i 1, .ro, false⟩]⟩]
def lkRows3 : List SlotRow := [
  ⟨0xe108, 12, 64, fun i => [⟨Reg.LK_SLOT.ENTRY i 2, .ro, false⟩]⟩]
def lkRows : List SlotRow :=
  lkRows0 ++ lkRows1 ++ lkRows2 ++ lkRows3

/-- The slots of unit 15 that hold a field (R477, R520). -/
def aeRows0 : List SlotRow := [
  ⟨0xf000, 4, 1, fun _ => [⟨Reg.AE_STATUS.PINNED, .ro, false⟩, ⟨Reg.AE_STATUS.FROZEN, .ro, false⟩,
    ⟨Reg.AE_STATUS.ADAPTING, .ro, false⟩, ⟨Reg.AE_STATUS.LOADING, .ro, false⟩, ⟨Reg.AE_STATUS.PAUSED, .ro, false⟩,
      ⟨Reg.AE_STATUS.RUNNING, .ro, false⟩, ⟨Reg.AE_STATUS.PLANNING, .ro, false⟩, ⟨Reg.AE_STATUS.OVERLAY, .ro, false⟩,
        ⟨Reg.AE_STATUS.MODEL, .ro, false⟩]⟩,
  ⟨0xf004, 4, 1, fun _ => [⟨Reg.AE_CTL.SCOREEV, .rwm, true⟩, ⟨Reg.AE_CTL.AUTOLOAD, .rwm, true⟩]⟩,
  ⟨0xf008, 4, 1, fun _ => [⟨Reg.AE_DUTY.PCT, .rwm, true⟩]⟩,
  ⟨0xf00c, 4, 1, fun _ => [⟨Reg.AE_SLICECYC.CYC, .ro, true⟩]⟩,
  ⟨0xf010, 4, 1, fun _ => [⟨Reg.AE_MODELID.ID, .ro, false⟩]⟩,
  ⟨0xf014, 4, 1, fun _ => [⟨Reg.AE_OVLID.ID, .ro, false⟩]⟩,
  ⟨0xf018, 4, 1, fun _ => [⟨Reg.AE_TARNUSED.BYTES, .ro, false⟩]⟩,
  ⟨0xf01c, 4, 1, fun _ => [⟨Reg.AE_OVLUSED.BYTES, .ro, false⟩]⟩,
  ⟨0xf020, 4, 1, fun _ => [⟨Reg.AE_SCRNEED.BYTES, .ro, false⟩]⟩,
  ⟨0xf024, 4, 1, fun _ => [⟨Reg.AE_SCRFRAMES.BYTES, .ro, false⟩]⟩,
  ⟨0xf028, 4, 1, fun _ => [⟨Reg.AE_JOBQ.N, .ro, false⟩]⟩,
  ⟨0xf02c, 4, 1, fun _ => [⟨Reg.AE_JOBPOS.TAG, .ro, false⟩, ⟨Reg.AE_JOBPOS.LAYER, .ro, false⟩, ⟨Reg.AE_JOBPOS.SLICES,
    .ro, false⟩]⟩]
def aeRows1 : List SlotRow := [
  ⟨0xf030, 4, 1, fun _ => [⟨Reg.AE_LASTCYC.CYC, .ro, false⟩]⟩,
  ⟨0xf034, 4, 1, fun _ => [⟨Reg.AE_THRESH.T, .rwm, true⟩]⟩,
  ⟨0xf038, 4, 1, fun _ => [⟨Reg.AE_JOBSDONE.COUNT, .ro, false⟩]⟩,
  ⟨0xf03c, 4, 1, fun _ => [⟨Reg.AE_JOBSFAIL.COUNT, .ro, false⟩]⟩,
  ⟨0xf040, 4, 1, fun _ => [⟨Reg.AE_LOADBYTES.BYTES, .ro, false⟩]⟩,
  ⟨0xf044, 4, 1, fun _ => [⟨Reg.AE_STEP.STEP, .rwm, true⟩]⟩,
  ⟨0xf048, 4, 1, fun _ => [⟨Reg.AE_CLAMP.Q, .rwm, true⟩]⟩,
  ⟨0xf04c, 4, 1, fun _ => [⟨Reg.AE_LRMAX.LR, .rwm, true⟩]⟩,
  ⟨0xf050, 4, 1, fun _ => [⟨Reg.AE_LRMIN.LR, .rwm, true⟩]⟩,
  ⟨0xf054, 4, 1, fun _ => [⟨Reg.AE_LRNOW.LR, .ro, false⟩]⟩,
  ⟨0xf058, 4, 1, fun _ => [⟨Reg.AE_TPOS.T, .rwm, true⟩]⟩,
  ⟨0xf05c, 4, 1, fun _ => [⟨Reg.AE_TNEG.T, .rwm, true⟩]⟩]
def aeRows2 : List SlotRow := [
  ⟨0xf060, 4, 1, fun _ => [⟨Reg.AE_OVLMAX.BYTES, .rwm, true⟩]⟩,
  ⟨0xf064, 4, 1, fun _ => [⟨Reg.AE_NEVENTS.N, .ro, false⟩]⟩,
  ⟨0xf068, 4, 1, fun _ => [⟨Reg.AE_HELD.N, .ro, false⟩]⟩,
  ⟨0xf06c, 4, 1, fun _ => [⟨Reg.AE_ADNEED.BYTES, .ro, false⟩]⟩,
  ⟨0xf070, 4, 1, fun _ => [⟨Reg.AE_COMMITS.COUNT, .ro, false⟩]⟩,
  ⟨0xf100, 32, 8, fun i => [⟨Reg.AE_WIN_A.EN i, .rwm, false⟩, ⟨Reg.AE_WIN_A.FMT i, .rwm, false⟩,
    ⟨Reg.AE_WIN_A.ISHIFT i, .rwm, false⟩, ⟨Reg.AE_WIN_A.CH i, .rwm, false⟩]⟩,
  ⟨0xf104, 32, 8, fun i => [⟨Reg.AE_WIN_B.START i, .rwm, false⟩]⟩,
  ⟨0xf108, 32, 8, fun i => [⟨Reg.AE_WIN_C.PAGES i, .rwm, false⟩]⟩,
  ⟨0xf10c, 32, 8, fun i => [⟨Reg.AE_WIN_D.FLEN i, .rwm, false⟩]⟩,
  ⟨0xf110, 32, 8, fun i => [⟨Reg.AE_WIN_E.FSEQ i, .ro, false⟩]⟩,
  ⟨0xf114, 32, 8, fun i => [⟨Reg.AE_WIN_F.READY i, .ro, false⟩, ⟨Reg.AE_WIN_F.FIFO i, .ro, false⟩]⟩,
  ⟨0xf118, 32, 8, fun i => [⟨Reg.AE_WIN_G.FULLDROP i, .ro, false⟩]⟩]
def aeRows3 : List SlotRow := [
  ⟨0xf11c, 32, 8, fun i => [⟨Reg.AE_WIN_H.PARTDROP i, .ro, false⟩]⟩,
  ⟨0xf200, 4, 8, fun i => [⟨Reg.AE_FRAMELOST.COUNT i, .ro, false⟩]⟩]
def aeRows : List SlotRow :=
  aeRows0 ++ aeRows1 ++ aeRows2 ++ aeRows3

/-- The slots of unit 16 that hold a field (R504). -/
def cpRows0 : List SlotRow := [
  ⟨0x10000, 4, 1, fun _ => [⟨Reg.CP_STATUS.BUSY, .ro, false⟩, ⟨Reg.CP_STATUS.QUEUED, .ro, false⟩]⟩,
  ⟨0x10004, 4, 1, fun _ => [⟨Reg.CP_OUTLEN.BYTES, .ro, false⟩]⟩,
  ⟨0x10008, 4, 1, fun _ => [⟨Reg.CP_LASTFAIL.STATUS, .ro, false⟩, ⟨Reg.CP_LASTFAIL.BLOCK, .ro, false⟩]⟩,
  ⟨0x1000c, 4, 1, fun _ => [⟨Reg.CP_PACKS.COUNT, .ro, false⟩]⟩,
  ⟨0x10010, 4, 1, fun _ => [⟨Reg.CP_UNPACKS.COUNT, .ro, false⟩]⟩,
  ⟨0x10014, 4, 1, fun _ => [⟨Reg.CP_FAILS.COUNT, .ro, false⟩]⟩]
def cpRows : List SlotRow :=
  cpRows0

/-- The slots of unit 17 that hold a field (R546). -/
def seRows0 : List SlotRow := [
  ⟨0x11000, 4, 1, fun _ => [⟨Reg.SE_STATUS.BUSY, .ro, false⟩, ⟨Reg.SE_STATUS.QUEUED, .ro, false⟩]⟩,
  ⟨0x11004, 4, 3, fun i => [⟨Reg.SE_SLOTST.ST i, .ro, false⟩]⟩,
  ⟨0x11010, 4, 1, fun _ => [⟨Reg.SE_EXPCFG.VALID, .ro, true⟩, ⟨Reg.SE_EXPCFG.OWNER, .rwm, true⟩]⟩,
  ⟨0x11014, 4, 1, fun _ => [⟨Reg.SE_LASTFAIL.STATUS, .ro, false⟩, ⟨Reg.SE_LASTFAIL.OPCODE, .ro, false⟩,
    ⟨Reg.SE_LASTFAIL.KIND, .ro, false⟩]⟩,
  ⟨0x11018, 4, 1, fun _ => [⟨Reg.SE_OPENS.COUNT, .ro, false⟩]⟩,
  ⟨0x1101c, 4, 1, fun _ => [⟨Reg.SE_FAILS.COUNT, .ro, false⟩]⟩,
  ⟨0x11020, 4, 1, fun _ => [⟨Reg.SE_SEALSEQH.SEQ, .ro, false⟩]⟩,
  ⟨0x11024, 4, 1, fun _ => [⟨Reg.SE_SEALSEQL.SEQ, .ro, false⟩]⟩,
  ⟨0x11028, 4, 1, fun _ => [⟨Reg.SE_CARDST.ENT, .ro, false⟩]⟩,
  ⟨0x1102c, 4, 1, fun _ => [⟨Reg.SE_RPMBST.LOADED, .ro, false⟩, ⟨Reg.SE_RPMBST.ENTRY, .ro, false⟩]⟩,
  ⟨0x11030, 4, 1, fun _ => [⟨Reg.SE_FLSEL.SIGNER, .rw, false⟩, ⟨Reg.SE_FLSEL.KIND, .rw, false⟩]⟩,
  ⟨0x11034, 4, 1, fun _ => [⟨Reg.SE_FLOORH.SEQ, .ro, false⟩]⟩]
def seRows1 : List SlotRow := [
  ⟨0x11038, 4, 1, fun _ => [⟨Reg.SE_FLOORL.SEQ, .ro, false⟩]⟩,
  ⟨0x11040, 4, 22, fun i => [⟨Reg.SE_IDPUB.KEY i, .ro, false⟩]⟩,
  ⟨0x110c0, 4, 11, fun i => [⟨Reg.SE_VROOT.HASH i, .ro, false⟩]⟩,
  ⟨0x11100, 4, 11, fun i => [⟨Reg.SE_OWN.HASH 0 i, .ro, false⟩]⟩,
  ⟨0x11140, 4, 11, fun i => [⟨Reg.SE_OWN.HASH 1 i, .ro, false⟩]⟩,
  ⟨0x11180, 4, 11, fun i => [⟨Reg.SE_OWN.HASH 2 i, .ro, false⟩]⟩,
  ⟨0x111c0, 4, 11, fun i => [⟨Reg.SE_OWN.HASH 3 i, .ro, false⟩]⟩]
def seRows : List SlotRow :=
  seRows0 ++ seRows1

/-- The slots of unit 18 that hold a field (R563). -/
def fpRows0 : List SlotRow := [
  ⟨0x12000, 4, 1, fun _ => [⟨Reg.FP_STATUS.BLPINNED, .ro, false⟩, ⟨Reg.FP_STATUS.STUCK, .ro, false⟩,
    ⟨Reg.FP_STATUS.TOUCHED, .ro, false⟩, ⟨Reg.FP_STATUS.RELREQ, .ro, false⟩, ⟨Reg.FP_STATUS.FAULT, .ro, false⟩]⟩,
  ⟨0x12004, 4, 1, fun _ => [⟨Reg.FP_DIAG.DIAG, .ro, false⟩]⟩,
  ⟨0x12008, 4, 1, fun _ => [⟨Reg.FP_CTL.BLLOOP, .rwm, true⟩, ⟨Reg.FP_CTL.SHORTOFF, .rwm, true⟩]⟩,
  ⟨0x1200c, 4, 1, fun _ => [⟨Reg.FP_KEYCFG.TARGET, .rwm, true⟩, ⟨Reg.FP_KEYCFG.FBEN, .rwm, true⟩,
    ⟨Reg.FP_KEYCFG.FBIND, .rwm, true⟩]⟩,
  ⟨0x12010, 4, 1, fun _ => [⟨Reg.FP_TOUCHTHR.CNT, .rwm, true⟩]⟩,
  ⟨0x12014, 4, 1, fun _ => [⟨Reg.FP_ANTITHR.CNT, .rwm, true⟩]⟩,
  ⟨0x12018, 4, 1, fun _ => [⟨Reg.FP_KEYTIME.TOUCHMIN, .rwm, true⟩, ⟨Reg.FP_KEYTIME.HOLDMAX, .rwm, true⟩]⟩,
  ⟨0x1201c, 4, 1, fun _ => [⟨Reg.FP_BLMIN.CNT, .rwm, true⟩]⟩,
  ⟨0x12020, 4, 1, fun _ => [⟨Reg.FP_BLMAX.CNT, .rwm, true⟩]⟩,
  ⟨0x12024, 4, 1, fun _ => [⟨Reg.FP_BLMAN.CNT, .rwm, true⟩]⟩,
  ⟨0x12028, 4, 1, fun _ => [⟨Reg.FP_BASE.CNT, .ro, false⟩]⟩,
  ⟨0x1202c, 4, 1, fun _ => [⟨Reg.FP_SAMPLE.CNT, .ro, false⟩]⟩]
def fpRows1 : List SlotRow := [
  ⟨0x12030, 4, 1, fun _ => [⟨Reg.FP_DELTA.CNT, .ro, false⟩]⟩,
  ⟨0x12034, 4, 1, fun _ => [⟨Reg.FP_TOUCHES.COUNT, .ro, false⟩]⟩,
  ⟨0x12038, 4, 1, fun _ => [⟨Reg.FP_STUCKS.COUNT, .ro, false⟩]⟩,
  ⟨0x1203c, 4, 1, fun _ => [⟨Reg.FP_DIAGV.SHORTV, .rwm, true⟩]⟩,
  ⟨0x12100, 16, 8, fun i => [⟨Reg.FP_IND_A.SET i, .rwm, false⟩]⟩,
  ⟨0x12104, 16, 8, fun i => [⟨Reg.FP_IND_B.PROVE i, .rwm, false⟩, ⟨Reg.FP_IND_B.PROBE i, .rwm, false⟩,
    ⟨Reg.FP_IND_B.PERIOD i, .rwm, false⟩, ⟨Reg.FP_IND_B.SAVEEN i, .rwm, false⟩, ⟨Reg.FP_IND_B.SAVEDUTY i, .rwm,
      false⟩]⟩,
  ⟨0x12108, 16, 8, fun i => [⟨Reg.FP_IND_C.LAST i, .ro, false⟩, ⟨Reg.FP_IND_C.AGE i, .ro, false⟩,
    ⟨Reg.FP_IND_C.PINV i, .ro, false⟩]⟩]
def fpRows : List SlotRow :=
  fpRows0 ++ fpRows1

/-- The slots of unit 19 that hold a field (R579). -/
def sbRows0 : List SlotRow := [
  ⟨0x13000, 4, 1, fun _ => [⟨Reg.SB_PAGE.PAGE, .rws, false⟩]⟩,
  ⟨0x13004, 4, 1, fun _ => [⟨Reg.SB_STATUS.BUSPWR, .ro, false⟩, ⟨Reg.SB_STATUS.STEWARD, .ro, false⟩,
    ⟨Reg.SB_STATUS.CAUSE, .ro, false⟩, ⟨Reg.SB_STATUS.HB, .ro, false⟩]⟩,
  ⟨0x13008, 4, 1, fun _ => [⟨Reg.SB_STEWCTL.RELEASE, .wo, false⟩, ⟨Reg.SB_STEWCTL.TAKE, .wo, false⟩]⟩,
  ⟨0x1300c, 4, 1, fun _ => [⟨Reg.SB_HBEAT.BEAT, .wo, false⟩]⟩,
  ⟨0x13010, 4, 1, fun _ => [⟨Reg.SB_HBCFG.EN, .rwm, true⟩, ⟨Reg.SB_HBCFG.PERIOD, .rwm, true⟩]⟩,
  ⟨0x13014, 4, 1, fun _ => [⟨Reg.SB_HBBOOT.S, .rwm, true⟩]⟩,
  ⟨0x13018, 4, 1, fun _ => [⟨Reg.SB_HBAGE.MS, .ro, false⟩]⟩,
  ⟨0x1301c, 4, 1, fun _ => [⟨Reg.SB_CFG.TOUTEN, .rws, true⟩]⟩,
  ⟨0x13020, 4, 1, fun _ => [⟨Reg.SB_ADDR.ADDR, .ro, false⟩]⟩,
  ⟨0x13024, 4, 1, fun _ => [⟨Reg.SB_PECERR.COUNT, .ro, false⟩]⟩,
  ⟨0x13028, 4, 1, fun _ => [⟨Reg.SB_FORMERR.COUNT, .ro, false⟩]⟩,
  ⟨0x1302c, 4, 1, fun _ => [⟨Reg.SB_TIMEOUTS.COUNT, .ro, false⟩]⟩]
def sbRows1 : List SlotRow := [
  ⟨0x13030, 4, 1, fun _ => [⟨Reg.SB_LAPSES.COUNT, .ro, false⟩]⟩]
def sbRows : List SlotRow :=
  sbRows0 ++ sbRows1

/-- The slots of the register block that holds aperture offset `off` (R32). -/
def blockRows (unit : Nat) : List SlotRow :=
  match unit with
  | 0 => syRows | 1 => tkRows | 2 => quRows | 3 => hpRows | 4 => shRows
  | 5 => svRows | 6 => flRows | 7 => pwRows | 8 => mnRows | 9 => btRows
  | 10 => tmRows | 11 => scRows | 12 => mcRows | 13 => uaRows | 14 => lkRows
  | 15 => aeRows | 16 => cpRows | 17 => seRows | 18 => fpRows | 19 => sbRows
  | _ => []

/-- Whether the row holds the slot at `off`. -/
def SlotRow.holds (r : SlotRow) (off : Nat) : Bool :=
  decide (r.base ≤ off) && decide ((off - r.base) % r.stride = 0) &&
    decide ((off - r.base) / r.stride < r.count)

/-- The fields of the slot at `off`; none where the address names no register (R5). -/
def slotFields (off : Nat) : List FieldAcc :=
  match (blockRows (off / 0x1000)).find? (·.holds off) with
  | some r => r.fields ((off - r.base) / r.stride)
  | none => []

end Sys2Proof.Machine
end

