-- ==== Sys2Proof/Machine/UnitState.lean ====
section
/-! DEFINITION. What each unit holds that none of its registers shows: plain data, one structure a
unit. The registers themselves are in the register file. -/

namespace Sys2Proof.Machine

/-- The completion an issued instruction owes (R79, R106): its ring, word 1 of its entry, whether it
came from a resident program, its opcode, and the queue that reserved its entry. -/
structure OpRef where
  ring : Nat
  word1 : Nat
  res : Bool
  opcode : Nat
  cq : Nat
  deriving DecidableEq, Repr

/-- One entry of the event log (R333); `saved`: a restore laid it out (R200). -/
structure LogEntry where
  code : Nat
  source : Nat
  time : Nat
  qual : Nat
  seq : Nat
  w5 : Nat
  w6 : Nat
  w7 : Nat
  released : Bool
  saved : Bool
  deriving DecidableEq, Repr

/-! ## The host memory path (R118 to R149) -/

/-- The latest filling of a range of memory, in bytes: zero lines with check byte `pat` (R125), or
content no rule fixes, of generation `gen` (R136). -/
structure Fill where
  first : Nat
  len : Nat
  pat : Option Nat
  gen : Nat
  deriving DecidableEq, Repr

/-- The content of a memory: bytes by module address, check bytes by beat, and what an unlisted byte
or beat holds, by the newest fill that covers it. -/
structure Image where
  cells : Sparse Byte
  checks : Sparse Byte
  fills : List Fill
  deriving DecidableEq, Repr

/-- R138: a LEND that waits for self-refresh until `waitEnd`, or its open window with the time it opened. -/
structure Lend where
  ref : OpRef
  purpose : Nat
  maxdur : Nat
  waitEnd : Nat
  opened : Option Nat
  deriving DecidableEq, Repr

/-- R142: a pending SCRUB and the 64 KiB units of it done. -/
structure ScrubReq where
  ref : OpRef
  start : Nat
  count : Nat
  done : Nat
  deriving DecidableEq, Repr

/-- The host path. `modes` and `deviceModes` are the mode register values the host wrote, by rank and by rank and
device, `words` the control and buffer words, and `space` the function space selected (R120); `rows` the open row
of each bank as the host sees it (R124), none being precharged; `selfRefresh` the ranks in self-refresh;
`deafUntil` the end of the 4 µs after a reclaiming SRX (R141); `speedWritten` that the operating speed words are
written, `passes` the training passes due, `passing` the one running, and `trained` the rate that DTH was trained
at (R122); `railScrub` that the cold-start scrub follows the internal pass (R136); `scrubFrom` when a scrub began;
`claimWaits` that a CLAIM waits for its scrub's end (R131); `resetInLend` an assertion of RESET_n in the window;
the seconds of the last CHECK_MISMATCH and PARITY_ERROR (R128); the DRAM; and what the last host READ returned. -/
structure HostPath where
  modes : Sparse Nat
  deviceModes : Sparse Nat
  words : Sparse Nat
  space : Nat
  rows : Sparse Nat
  selfRefresh : Nat
  deafUntil : Nat
  speedWritten : Bool
  passes : List Nat
  passing : Option Nat
  trained : Option Nat
  railScrub : Bool
  scrubFrom : Nat
  claimWaits : Bool
  lend : Option Lend
  scrubs : List ScrubReq
  resetInLend : Bool
  mismatchSecond : Option Nat
  paritySecond : Option Nat
  dram : Image
  generation : Nat
  answer : List Nat
  answerCheck : List Nat
  deriving DecidableEq, Repr

/-! ## The shadow unit (R150 to R177) -/

/-- An item of the capture order (R154, R163): a line with its enabled bytes and the place of its
first capture, or a barrier with its reference's place, time, quality and origin, and whether PDIRTY
was 0 at its reference. -/
inductive CapItem where
  | line (addr : Nat) (bytes : Sparse Nat) (place : Nat)
  | barrier (num time qual ring : Nat) (edge : Bool) (place : Nat) (clean : Bool)
  deriving DecidableEq, Repr

/-- R158: a journal page: JSEQ, EPOCH, BAR, its records, and the CRC-32 it was written with. -/
structure JPage where
  jseq : Nat
  epoch : Nat
  bar : Nat
  items : List CapItem
  crc : Nat
  deriving DecidableEq, Repr

/-- R163: a barrier reference, such as a doorbell write of a queue-mode ring: the tail it set, its place in the capture
order, its time and quality, and PDIRTY at it (R165). -/
structure Bell where
  tail : Nat
  place : Nat
  time : Nat
  qual : Nat
  dirty : Bool
  deriving DecidableEq, Repr

/-- R163: a PFENCE that has issued and waits until every PFENCE of an earlier reference has its number: whether it is
DURABLE, its reference, and whether that is a tick edge. -/
structure FenceWait where
  ref : OpRef
  durable : Bool
  bell : Bell
  edge : Bool
  deriving DecidableEq, Repr

/-- R167: a fold in progress: the FOLD START that waits for it, its cut, and when it began. -/
structure Fold where
  ref : Option OpRef
  cut : Nat
  began : Nat
  deriving DecidableEq, Repr

/-- The shadow unit. `order` is the capture order not yet placed, `page` the open journal page, `closed` that it is
to be written before it is full and `pageFrom` when it took its first record (R160), `pagesOut` the pages written
in this interval (R161), `lastBar` the latest barrier placed in a page, `place` the next place in the order, which
captures and references take in turn, `bells` the doorbells a PFENCE may refer to, by ring, `waiting` the PFENCEs
without a number, in the order of their references (R163); `dirty` the dirty pages, rising (R156); `fences` the
DURABLE PFENCEs that wait and their barriers; `calm` the rate loop's (R14); the runs of updates above each
threshold (R172); the second of the last CAPTURE_OVERFLOW; and the TK_COUNT of the last update of the loop and of
the accounting. -/
structure Shadow where
  order : List CapItem
  page : List CapItem
  closed : Bool
  pageFrom : Nat
  pagesOut : Nat
  lastBar : Nat
  place : Nat
  bells : Sparse (List Bell)
  waiting : List FenceWait
  dirty : List Nat
  fences : List (OpRef × Nat)
  fold : Option Fold
  calm : Nat
  shortRun : Nat
  lowRun : Nat
  overflowSecond : Option Nat
  loopTick : Option Nat
  accountTick : Option Nat
  deriving DecidableEq, Repr

/-! ## The flash store and the records in MRAM (R194, R195, R212 to R236) -/

/-- A region as the save record and the commit record hold it. -/
structure Region where
  num : Nat
  kind : Nat
  prio : Nat
  start : Nat
  count : Nat
  deriving DecidableEq, Repr

/-- R194: the save record. -/
structure SaveRecord where
  epoch : Nat
  openBar : Nat
  openTime : Nat
  openQual : Nat
  frozen : Bool
  frozenAt : Nat
  table : List Region
  saveSeq : Nat
  saveState : Nat
  deriving DecidableEq, Repr

/-- R195: the commit record: its fields, SHA-256 over the index and the saved log, and its seal; with the event log
saved under it. -/
structure Commit where
  full : Bool
  pdirty : Bool
  planned : Bool
  saveSeq : Nat
  epoch : Nat
  gen : Nat
  jseq : Nat
  bar : Nat
  recBar : Nat
  startTime : Nat
  startQual : Nat
  time : Nat
  qual : Nat
  pages : Nat
  table : List Region
  digest : List Nat
  mac : List Nat
  log : List LogEntry
  deriving DecidableEq, Repr

/-- R461: a copy of the model set: its place in the order of writing, and the packages of its base and
its overlay, as received or as the device made them (R539); an empty overlay is none. -/
structure ModelCopy where
  order : Nat
  base : List Nat
  overlay : List Nat
  deriving DecidableEq, Repr

/-- R222: the root record: ROOTSEQ, the NAND identity, the slot, SH_BASEGEN and SH_EPOCH of the base, the first stripe
of its map, the JSEQ of the first page after its cut, the first stripes of the live save set and of the model area,
and the bad-block table's location. -/
structure Root where
  seq : Nat
  identity : Nat
  slot : Nat
  gen : Nat
  epoch : Nat
  map : Nat
  cut : Nat
  save : Nat
  model : Nat
  table : Nat
  deriving DecidableEq, Repr

/-- R219: the use of a stripe that is not free: the journal ring, the base generation, a save set, the save set that
a restore made part of the base (R201), a copy of the model set, content not yet committed, or the content of another
stripe that a wear-levelling move has copied and no root names yet (R223, R230). -/
inductive StripeUse where
  | journal | generation | save | carried | model (copy : Nat) | next | moved (stripe : Nat)
  deriving DecidableEq, Repr

/-- R215: a codeword as it was last programmed: its AREA, owner sequence, logical page and write sequence, and its
CRC-32. -/
structure Codeword where
  area : Nat
  owner : Nat
  page : Nat
  seq : Nat
  crc : Nat
  deriving DecidableEq, Repr

/-- R223: what a root record names: the uses of the stripes, and what the base, the journal and the save set hold. -/
structure StoreView where
  uses : List (Nat × StripeUse)
  erased : List Nat
  weak : List Nat
  base : Option Image
  baseCut : Nat
  journal : List JPage
  spent : List JPage
  saveIndex : List Nat
  saveCells : Sparse Byte
  commits : List (Option Commit)
  deriving DecidableEq, Repr

/-- What the NAND and MRAM hold of the flash store. `root` is the newer valid MRAM copy of the root record,
`oldRoot` the other, `oldStore` what that one names, `rootAt` when the newer was written, and `nandRoots` the
copies in the system blocks, by channel (R222, R223); `bad` the bad-block table, as plane and block, `grown` the
blocks grown bad since format, `stripes` the stripes of the format and `retired` those retired, `spares` the spare
blocks left by plane, their number at format, `moved` the spare that stands in for a block position of a plane and
`system` for a system block (R218, R228); `uses` what each stripe holds, in the order in which they were taken, a
stripe unlisted being free, `erased` the free stripes that are erased, and `ringFrom` the page that began the ring
(R219, R227); `wear` the erase counts (R230); `codewords` what is programmed (R215); `lost` the uncorrectable
codewords, by AREA and logical page (R216), `weak` the stripes that need refresh (R229), and the uncorrectable
codewords since format (R234). `base` is what the base reads as, none before a first renewal, `baseCut` the barrier
of its cut; `journal` the pages of the epoch and `spent` the pages of an earlier epoch that the base still needs
(R201); `saveIndex` and `saveCells` the save set, and `commits` the two copies of the commit record, on the
channels `commitAt` (R219). `tprog` is the parameter page's and `times` the last 64 program times of each LUN,
newest first (R226); `written` the bytes programmed and those of them in journal pages, in each powered hour of the
last 168 and, first, in the present one, `lifeFrom` since when the store has been powered in that, and `lifePart`
for how long before (R231); `bgShare` the FL_BGSHARE that a retention scan's end puts back (R232); `writeSeq` the
store's write sequence (R215). `refreshed` counts this patrol pass's refreshes; the second the last pass ended
(R232) and the time this one began; the two copies of the model set (R461); and the LIFE_LOW episode with its run
of good recomputations. -/
structure Flash where
  root : Option Root
  oldRoot : Option Root
  oldStore : Option StoreView
  rootAt : Nat
  nandRoots : List (Option Root)
  bad : List (Nat × Nat)
  grown : Nat
  stripes : Nat
  retired : List Nat
  spares : Sparse (List Nat)
  sparesAtFormat : Nat
  moved : Sparse Nat
  system : Sparse Nat
  uses : List (Nat × StripeUse)
  erased : List Nat
  ringFrom : Nat
  codewords : List Codeword
  wear : Sparse Nat
  lost : List (Nat × Nat)
  weak : List Nat
  lostSum : Nat
  base : Option Image
  baseCut : Nat
  journal : List JPage
  spent : List JPage
  saveIndex : List Nat
  saveCells : Sparse Byte
  commits : List (Option Commit)
  commitAt : List Nat
  tprog : Nat
  times : Sparse (List Nat)
  written : List (Nat × Nat)
  lifeFrom : Nat
  lifePart : Nat
  bgShare : Nat
  writeSeq : Nat
  refreshed : Nat
  patrolEnd : Option Nat
  patrolFrom : Nat
  models : List (Option ModelCopy)
  lifeLow : Bool
  lifeRun : Nat
  deriving DecidableEq, Repr

/-! ## Save and restore (R178 to R211) -/

/-- R187: how far Pavane has come: the flush of step 5, step 6, step 7 and 8. -/
inductive PavaneStep where
  | flush | set | down
  deriving DecidableEq, Repr

/-- Pavane in progress: its cause, its step, the time and quality of its start edge, whether a
planned save, what it may write (R190, R192), whether the save set was written (R189), and the
energy left at an abandon (R191). -/
structure Pavane where
  cause : Nat
  step : PavaneStep
  time : Nat
  qual : Nat
  skips : Bool
  packAbsent : Bool
  full : Bool
  energy : Bool
  deriving DecidableEq, Repr

/-- Galliard in progress: its RESTORE, staged or not, the clock at issue, the kind chosen, the
restored barrier with the stamp of R210, the regions still to be restored in the order of R188, the image being
built, the journal pages it was built from (R199), and the power state that RESTORE was issued in. -/
structure Galliard where
  ref : OpRef
  staged : Bool
  began : Nat
  kind : Nat
  bar : Nat
  time : Nat
  qual : Nat
  regions : List Region
  table : List Region
  image : Image
  pages : List JPage
  damaged : List Nat
  fromState : Nat
  deriving DecidableEq, Repr

/-- The save unit. `warning`: PFW_n is to be asserted (R181, R185); `preSave` runs since the time given, and `erased`
blocks were pre-erased for it; `warnFrom` when the warning condition arose; `lifted` the cap of R161; `noticed` that a
power-fail frame went out; `winFrom` when a host window opened; MRAM's two copies of the save record, the newer valid
one, the other, and when the newer was written (R194). -/
structure SaveUnit where
  pavane : Option Pavane
  galliard : Option Galliard
  warning : Bool
  preSave : Option Nat
  erased : Nat
  warnFrom : Nat
  lifted : Bool
  noticed : Bool
  winFrom : Nat
  record : SaveRecord
  oldRecord : Option SaveRecord
  recordAt : Nat
  deriving DecidableEq, Repr

/-! ## Rails (R237 to R261) -/

/-- R240: what the sequencer holds of a rail: its start rank, the evaluations it has been good for, the
evaluation it was started at, whether a card port asks for it and since which evaluation, and DIS; the evaluations its
monitor has reported it in its window without a break (R244, R250); SETTLE and TSTART of its last start, OFFTO and
OFFPCT of its last stop (R255), and the evaluation at which it was released, or found stuck. -/
structure Rail where
  rank : Nat
  goodFor : Nat
  t0 : Nat
  target : Bool
  asked : Nat
  dis : Bool
  inFor : Nat
  settle : Nat
  tstart : Nat
  offto : Nat
  offpct : Nat
  offAt : Nat
  deriving DecidableEq, Repr

/-- R253, R254: a PSTATE that waits: its target, and for STANDBY the clock at which WAIT runs out. -/
structure PstateWait where
  ref : OpRef
  target : Nat
  until_ : Nat
  deriving DecidableEq, Repr

/-- R250: a MARGIN that waits: its channel, and the evaluation of its issue. -/
structure MarginWait where
  channel : Nat
  ref : OpRef
  issued : Nat
  deriving DecidableEq, Repr

/-- What follows a stop sequence (R242): a power state of R252, OFF, the end of a save, or the state
that an aborted wake leaves standing (R589). -/
inductive StopTo where
  | dormant | latched | saved | off | abort
  deriving DecidableEq, Repr

/-- R242: a stop sequence: the rails still to be released in order, the rail released whose fall is
awaited, the unreleased rails seen collapsed, and what follows. -/
structure Stop where
  rails : List Nat
  rail : Option Nat
  collapsed : List Nat
  goal : StopTo
  deriving DecidableEq, Repr

/-- The power unit. `evals` counts evaluations of 10 µs; `seq` is the target set of the running start sequence as a
mask (0 none), `seqFrom` the evaluation it began at and `wake` whether it is a wake; `pstate` the PSTATEs that
wait; `railOns` and `railOffs` the RAILs that wait; `margins` the MARGINs that wait; `returning` the rails that
settle at nominal, with the margin step whose window is still in force (0 none) and the evaluation it began at
(R250, R251); `stop` the stop sequence; `latching` the cause and rail the latch record is to take; the fault
episode's rails, the first of them, and when it began; `aux` that EN11 is wanted (R238); that EN11 was isolated
(R245); whether another module holds FAULT_n, and whether the line's low level was seen (R248). -/
structure Power where
  rails : Sparse Rail
  evals : Nat
  seq : Nat
  seqFrom : Nat
  wake : Bool
  pstate : List PstateWait
  railOns : List OpRef
  railOffs : List OpRef
  margins : List MarginWait
  returning : Sparse (Nat × Nat)
  stop : Option Stop
  latching : Option (Nat × Nat)
  faulted : Nat
  firstFault : Nat
  faultFrom : Nat
  aux : Bool
  isolated : Bool
  lineLow : Bool
  lineSeen : Bool
  deriving DecidableEq, Repr

/-! ## Monitors (R262 to R284) -/

/-- R278, R279: a slot of the fault log: its words 0 to 62, whether it is torn, and pinned. -/
structure FaultSlot where
  words : List Nat
  torn : Bool
  pinned : Bool
  deriving DecidableEq, Repr

/-- R280: a cause that waits for its entry: the event code and its words 5 to 7. -/
structure FaultCause where
  code : Nat
  w5 : Nat
  w6 : Nat
  w7 : Nat
  deriving DecidableEq, Repr

/-- The monitor unit: the fault log, the queued causes, FSEQ, the entries still to be pinned, the runs of failing
and passing reference checks (R276), the DAC the audit has reached (R277), the failing DACs with their passing
runs, since when each channel is outside (R271), the raw condition of each channel, 0 IN, and since when its flag
has been LOW or not LOW (R265, R266, R287), when each input was last converted since the core start (R279), the
slot of the newest entry, the thresholds a card port has put in force on VM8 or VM9 (R269), the TK_COUNT of the
last scan, when it began and when it ends (R275). -/
structure Monitors where
  slots : Sparse FaultSlot
  queue : List FaultCause
  fseq : Nat
  pins : Nat
  refFails : Nat
  refPasses : Nat
  audit : Nat
  auditFails : Sparse Nat
  outside : Sparse Nat
  raw : Sparse Nat
  since : Sparse Nat
  readAt : Sparse Nat
  newest : Option Nat
  portForce : Sparse (Nat × Nat)
  scanTick : Option Nat
  scanAt : Nat
  scanEnd : Nat
  deriving DecidableEq, Repr

/-! ## Battery, charger and gauge (R285 to R310) -/

/-- The battery unit: the pins PP_VIN, PP_BAT and BT_HOLD, and the cell that bleeds (0 none); the charge timer as
what has run, in units of 10 ns, and since when it runs (R290); the float and range loops (R292, R299); the
accumulator's remainder in nC (R300), and in µC what is drawn of BT_QREM's last unit and what BT_QOVER's next unit
holds (R301); the samples without clipping (R297); the disagreement episode: its run of agreeing updates, its
length, whether its event was logged, and the GAUGE_AGREE owed (R304); BT_CAP in the gauge record (R302); when the
phase began (R290), when the float demand was last formed (R292) and the balancing cycle began (R293); since when
the conditions of a re-insertion (R296) and of a cut-off (R305) hold, and since when the samples of a CV phase lie
below BT_ITERM (R290); and the TK_COUNT and the time of the last sample (R297) and of the last computation of the
gauge (R304). -/
structure Battery where
  ppVin : Bool
  ppBat : Bool
  hold : Bool
  bleed : Nat
  timer : Nat
  timerFrom : Option Nat
  floatCalm : Nat
  demand : Nat
  demandCalm : Nat
  rangeCalm : Nat
  nano : Int
  remFrac : Nat
  overFrac : Nat
  clipRun : Nat
  agreeRun : Nat
  disagreeLen : Nat
  disagreeLogged : Bool
  agreeOwed : Option Nat
  capRecord : Option Nat
  phaseFrom : Nat
  floatAt : Nat
  balanceAt : Nat
  insertFrom : Option Nat
  lowFrom : Option Nat
  termFrom : Option Nat
  sampleTick : Option Nat
  sampledAt : Nat
  gaugeTick : Option Nat
  gaugedAt : Nat
  deriving DecidableEq, Repr

/-! ## Wellhead (R311 to R339) -/

/-- R323: a slew in progress: its TSLEW (none once the core rail has stopped), the amount asked for (10 ns), what
has been applied (in units of 10⁻⁹ of that), since when the present contribution acts, and that contribution in
ppb. -/
structure Slew where
  ref : Option OpRef
  amount : Int
  applied : Int
  since : Nat
  part : Int
  deriving DecidableEq, Repr

/-- R334: a LOGRD in progress: its instruction, where it copies to, the words it copies, its status, and its result. -/
structure LogRead where
  ref : OpRef
  dest : Nat
  words : List Nat
  status : Nat
  count : Nat
  deriving DecidableEq, Repr

/-- Wellhead. `e` holds each source's phase error of this second (R315), in units of 10 ns; `pps*` the PPS part
(R316): the last accepted edge in half nanoseconds of Wellhead time, moved with every step, and of the time clock,
the run of edges, whether an edge was accepted this second, and the misses; `line` the characters of U3's sentence (R317, R391); `gnss*` (R317) the last named second
and its edge, the run, the clock at the last valid sentence, and the name waiting for the next edge; `irig*`
(R318); `link*` (R443): the run of measurements, whether source 4 qualifies for this second alone, and the bound
the beacon carried; `utcNext` a UTC offset to be taken (R444); `fresh` that the selected source has not measured
since it was selected; `locked` the lock count; `agree` and `disagreeSecs` the episode of R315; `window` the
measurements since the last step as (time clock, e, output); `calm` the servo's; `base` the output without a slew's
contribution; `history` the last outputs, newest first; `boundNs` the error bound in nanoseconds; `slew`; the TSET
that waits for an edge, with its time and the clock at its issue; the captures that wait as (slot, kind, clock at
issue); the seconds of quality 0b11; the leap a source last reported in conflict; the latched upper word of
TM_LEAPAT (R26); the events to be logged at the next core start; the second of the last boundary judged (R314); and
the clock at the last holdover sample (R325), at the entry of SAVED and at the start of the present minute of SAVED
or LATCHED (R313); when OSCFAIL set (R312); the correction of the time clock in force, in ppb (R326); and the LOGRD
in progress (R334). -/
structure TimeUnit where
  e : List (Option Int)
  ppsLast : Int
  ppsClock : Int
  ppsRun : Nat
  ppsSeen : Bool
  ppsMissed : Nat
  gnssLast : Nat
  gnssRun : Nat
  gnssAt : Nat
  gnssEdge : Int
  gnssPending : Option Nat
  line : List Nat
  irigLast : Nat
  irigRun : Nat
  irigSilent : Nat
  irigSeen : Bool
  linkSilent : Nat
  linkRun : Nat
  linkOnce : Bool
  linkBound : Nat
  utcNext : Option Nat
  fresh : Bool
  locked : Nat
  agree : Nat
  disagreeSecs : Nat
  window : List (Nat × Int × Int)
  calm : Nat
  base : Int
  history : List Int
  boundNs : Nat
  slew : Option Slew
  tset : Option (OpRef × Nat × Nat)
  caps : List (OpRef × Nat × Nat × Nat)
  qual3 : Nat
  conflict : Option (Nat × Nat)
  leapHigh : Nat
  deferred : List (Nat × Nat × Nat × Nat)
  second : Nat
  sampledAt : Nat
  savedFrom : Nat
  minuteFrom : Nat
  oscFrom : Nat
  correction : Int
  logRead : Option LogRead
  deriving DecidableEq, Repr

/-! ## Release requests and the faceplate (R548 to R564) -/

/-- A channel's diagnosis: the time of its latest measurement, the run of equal bad results and the result, the run
of good ones, and when its fault episode began; the setting before the last write with the edges since the core
start at that write (R60, R549); and the clock at the last measured period, proving pulse and probe. -/
structure Lamp where
  measured : Option Nat
  bad : Nat
  result : Nat
  good : Nat
  fault : Option Nat
  prev : Nat
  setTick : Option Nat
  pulseAt : Option Nat
  provedAt : Option Nat
  probedAt : Option Nat
  deriving DecidableEq, Repr

/-- The faceplate: the ports the raised request names (0 none), those of them that are safe, and those that were
INACTIVE when it was raised; when it was raised, the steady indication with its target and start (R560), the lamps,
the FPIND SETs that wait with the TK_COUNT of their issue (R549), whether the first baseline was taken, the
baseline loop's calm count, when the touch qualified, and the channels that Pavane holds at SAVEDUTY (R554); and by
the time clock, when a sample last stood below TOUCHTHR, and the last baseline update. -/
structure Faceplate where
  target : Nat
  safe : Nat
  resting : Nat
  raisedAt : Nat
  steady : Option (Nat × Nat)
  lamps : Sparse Lamp
  sets : List (OpRef × Nat)
  based : Bool
  calm : Nat
  touchedAt : Nat
  saving : Bool
  lowAt : Nat
  updateAt : Nat
  deriving DecidableEq, Repr

/-! ## The side-band port (R565 to R580) -/

/-- The side-band port: the clock at which SB_HBAGE had its registered value, the command code of the
last register transaction, the bytes the last read returned, and the clock at which the boot interval began. -/
structure SideBand where
  ageFrom : Nat
  command : Nat
  answer : List Nat
  bootFrom : Nat
  deriving DecidableEq, Repr

/-! ## The smart-card port (R340 to R365) -/

/-- What the smart-card port waits for: nothing, an ATR, the 10 ms of a class retry, the PPS
response, the S(IFS response), or the exchange's next block or character. -/
inductive ScWait where
  | none | atr | retry | pps | ifs | data
  deriving DecidableEq, Repr

/-- The smart-card port: the SCACT or SCXFR in progress; the SCDEACTs that wait; what it waits for;
the SCACT's fields, the classes left and tried; the clock stop indicator X, the divider in force, the
guard time N's WI and the index TA1 proposed; IMPL, IFSDFAIL and PPS performed; the cause and status
of the deactivation under way; the last bytes sent to the card; and the exchange: LEN, RXMAX, the
command bytes acknowledged, the last I-block's length and M and whether it is acknowledged, the last
R-block's PCB, attempts, RESYNCH requests sent, whether an S(ABORT request) is out, the WTX factor,
the tries of the present raw character and the raw characters sent; the last I-block, as it is sent again (R350); RUNDIV of the
session and the level at which SC_CLK is stopped (R348); the code on SC_VSEL1 and SC_VSEL0 (R341); and the clock when SCXFR
was issued, and when the present wait began. -/
structure SmartCard where
  op : Option OpRef
  deacts : List OpRef
  wait : ScWait
  cold : Bool
  raw : Bool
  nopps : Bool
  classes : Nat
  tried : Nat
  x : Nat
  divider : Nat
  wi : Nat
  proposed : Nat
  impl : Bool
  ifsdFail : Bool
  ppsDone : Bool
  cause : Nat
  status : Nat
  sent : List Nat
  len : Nat
  rxMax : Nat
  acked : Nat
  lastLen : Nat
  lastMore : Bool
  lastAcked : Bool
  lastR : Option Nat
  attempts : Nat
  resynch : Nat
  aborting : Bool
  wtx : Nat
  tries : Nat
  sentRaw : Nat
  lastI : List Nat
  rundiv : Nat
  clkHigh : Bool
  vsel : Nat
  began : Nat
  since : Nat
  deriving DecidableEq, Repr

/-! ## The memory-card port (R366 to R388) -/

/-- What the memory-card port does next, in order: a command that expects a response, a data block
that comes from the card, a busy release that ends a block sent to it. -/
inductive McItem where
  | cmd (idx arg : Nat)
  | data
  | busy
  deriving DecidableEq, Repr

/-- The memory-card port: the instruction in progress and the MCINIT OFFs that wait; what is to come
from the card, the outstanding item first, and whether its command was already repeated; the stage of
the instruction; its DST and operands; the EXT_CSD's presence and CARD_TYPE; the tries of a read block;
whether MC_STARVED was logged in this wait; what the instruction completes with once the commands in
`todo` are done, and whether a block was then begun and not confirmed; the nonce, counter, MACed bytes and frames
of an MCRPMB; the RPMB key and the entry it came from; CID and CSD; the bytes that the blocks to come carry to the
card; the deactivation's cause and status; whether Pavane step 2 waits for a busy release or a CMD12, and since when;
when MC_VCC first entered its window in this activation; and when the present wait began. -/
structure MemCard where
  op : Option OpRef
  offs : List OpRef
  todo : List McItem
  retried : Bool
  stage : Nat
  action : Nat
  buf : Nat
  wide : Bool
  hs : Bool
  cdiv : Nat
  ext : Bool
  cardType : Nat
  addr : Nat
  count : Nat
  tries : Nat
  starved : Bool
  ending : Option (Nat × Nat)
  nonce : List Nat
  counter : Nat
  frames : List Nat
  got : Nat
  key : Option (List Nat)
  cid : List Nat
  csd : Nat
  sent : List Nat
  cause : Nat
  status : Nat
  saveWait : Bool
  saveFrom : Nat
  begun : Bool
  vccAt : Option Nat
  since : Nat
  deriving DecidableEq, Repr

/-! ## The serial ports (R389 to R415) -/

/-- R401: a transfer: its UAXFR, its range, the bytes moved (of a SEND: those that leave before the port's `txAt`), and
ERR. -/
structure UaXfr where
  ref : OpRef
  off : Nat
  len : Nat
  done : Nat
  err : Bool
  deriving DecidableEq, Repr

/-- A port: the receive FIFO, oldest byte first; the SENDs and RECVs in order; the rate in force as it was asked
for and the autobaud loop's calm count (R407); the seconds of the last UA_OVERRUN and UA_BREAK; when the last
character, or the waking edge, came; when the next character of the oldest SEND after its `done` ones begins; how many
of its characters LOOP has brought back (R403); the end of the last stop bit of the transmitter's last burst other than
a running SEND, and how many of its characters UA_TXBYTES has yet to count (R403, R404); and whether the character
of a waking edge is coming, and whether the wake missed it (R405). The clock says how far the transmitter has got:
what the transmit FIFO holds, UA_TXBYTES, TXBUSY and DE follow from it. -/
structure UartPort where
  rx : List Nat
  sends : List UaXfr
  recvs : List UaXfr
  rate : Nat
  calm : Nat
  overSecond : Option Nat
  breakSecond : Option Nat
  rxAt : Nat
  txAt : Nat
  looped : Nat
  txEnd : Option Nat
  owed : Nat
  woken : Bool
  missed : Bool
  deriving DecidableEq, Repr

/-! ## The Roltur link (R416 to R452) -/

/-- A frame to be sent that no LKSEND queued: JOIN, CONFLICT answering a UID (0 for none), LEAVE, or
NOTICE of a subtype. -/
inductive LkSpecial where
  | join
  | conflict (uid : Nat)
  | leave
  | notice (sub : Nat)
  deriving DecidableEq, Repr

/-- A special frame that waits: what it is, the cycles it still waits before it may go, whether R445
bounds it, and the collisions it has had and the clock by which it must have left then. -/
structure LkExtra where
  what : LkSpecial
  delay : Nat
  bounded : Bool
  tries : Nat
  until_ : Nat
  deriving DecidableEq, Repr

/-- R428: a queued send: its LKSEND, MODE, destination (none for a broadcast), L and OFF; its sequence
and NEWSEQ once sent (R432); its attempts and the last ACK result (3 none). -/
structure LkSend where
  ref : OpRef
  mode : Nat
  dst : Option Nat
  len : Nat
  off : Nat
  seq : Option (Nat × Bool)
  attempts : Nat
  last : Nat
  deriving DecidableEq, Repr

/-- What of the device's own is on the line: the oldest LKSEND, or a special frame, and whether it
went in the contention window; or a beacon. -/
inductive LkFlight where
  | send (contention : Bool)
  | extra (contention : Bool)
  | beacon
  deriving DecidableEq, Repr

/-- R436: a frame that waits to be delivered. -/
structure LkRx where
  flags : Nat
  seq : Nat
  src : Nat
  dst : Nat
  pdup : Bool
  unknown : Bool
  lineA : Bool
  lineB : Bool
  time : Nat
  qual : Nat
  payload : List Nat
  deriving DecidableEq, Repr

/-- R436: an LKRECV: its slots from OFF, MAXF, the frames stored and the slots used. -/
structure LkRecv where
  ref : OpRef
  off : Nat
  len : Nat
  maxf : Nat
  stored : Nat
  used : Nat
  deriving DecidableEq, Repr

/-- R425: a slot table: TABLEID, CWSTART, and the words of its entries. -/
structure LkTable where
  id : Nat
  cwstart : Nat
  entries : List (Nat × Nat × Nat)
  deriving DecidableEq, Repr

/-- R426: a table that waits for its boundary: ATCYCLE, or none for the next. -/
structure LkPending where
  ref : OpRef
  at_ : Option Nat
  status : Nat
  table : LkTable
  deriving DecidableEq, Repr

/-- A node that may become master, as heard: class, UID, address and the cycle of its claim. -/
structure LkClaim where
  cls : Nat
  uid : Nat
  addr : Nat
  cycle : Nat
  deriving DecidableEq, Repr

/-- R441: the link record in MRAM: the address, LK_CFG, and the table in force. -/
structure LkRecord where
  addr : Nat
  cfg : Nat
  table : Option LkTable
  deriving DecidableEq, Repr

/-- R422: where the receiver of a line stands: hunting; after a preamble; after 0xC3; inside a frame; or past noise or a
length fault, until the line has been idle. -/
inductive LkPhase where
  | hunt
  | preamble
  | sync
  | frame
  | dead
  deriving DecidableEq, Repr

/-- R422, R437: the receiver of a line: its phase, the bytes of the frame from its flags on, the clock at the end of
its last character, whether a run of foreign characters is counted, and its last stranger: the class (0 a length
fault) and the clock. -/
structure LkLine where
  phase : LkPhase
  bytes : List Nat
  last : Nat
  run : Bool
  strange : Option (Nat × Nat)
  deriving DecidableEq, Repr

/-- The link unit. `join` is the LKJOIN in progress (none for an automatic join) and `joinStep` its step
of R438 (0 none), with the beacons of one master heard; `joinStamp` the time and quality of the join;
`uidOf` the master's UID as followed and `missed` the extrapolated cycles; `handover` who is to beacon
next; `claims` the claims heard and `claimed` the cycle of the device's last claim; `seqs` and `cache`
the tables of R432, most recent first, and `bcasts` the broadcast count; `wait` the back-off cycles
left; the line counters of R434; the seconds of the last LK_STRANGER by class; `known` the sources of
R437; why the device leaves (0: it does not) and the LKLEAVEs that wait for it; and the last bytes sent. By the time
clock: `boundary` the last cycle boundary, `flightEnd` the end of the last frame sent and `clear` before which
no frame of the device may start (R417), `waitEnd` the end of WAIT, `joinAt` the end of the JOIN frame and
`recvAt` the last frame stored by the oldest LKRECV. `silent` counts the cycles without a good beacon and `skip`
the cycles a colliding master still waits (R442). `slack` is the k drawn for the next contention attempt (R429), and
`lineA` and `lineB` are the receivers of the lines (R422). -/
structure Link where
  join : Option OpRef
  joinStep : Nat
  heard : List (Nat × Nat)
  joinStamp : Nat × Nat
  uidOf : Option Nat
  missed : Nat
  handover : Option Nat
  claims : List LkClaim
  claimed : Option Nat
  seqs : List (Nat × Nat)
  cache : List (Nat × Nat)
  bcasts : Nat
  sends : List LkSend
  extras : List LkExtra
  flight : Option LkFlight
  wait : Nat
  calm : Nat
  rx : List LkRx
  recvs : List LkRecv
  table : Option LkTable
  pendings : List LkPending
  aMiss : Nat
  bMiss : Nat
  both : Nat
  strangers : List (Option Nat)
  known : List Nat
  leaving : Nat
  leave : List OpRef
  sent : List Nat
  record : Option LkRecord
  boundary : Option Nat
  flightEnd : Nat
  clear : Nat
  waitEnd : Nat
  joinAt : Nat
  recvAt : Nat
  silent : Nat
  skip : Nat
  slack : Option Nat
  lineA : LkLine
  lineB : LkLine
  deriving DecidableEq, Repr

/-! ## The analytics engine (R453 to R478, R506 to R521) -/

/-- A frame ready in a window: FSEQ, the time and quality of its last line, its samples as
activations, and whether a job holds it. -/
structure AeFrame where
  fseq : Nat
  time : Nat
  qual : Nat
  data : List Int
  held : Bool
  deriving DecidableEq, Repr

/-- R463, R464: an ingest window: its FIFO of lines with the time and quality of their WRITEs, the clock
to which the FIFO has drained, the bytes of the frame being assembled, the frames ready, oldest
first, and the second of the last AE_INGEST_OVF. -/
structure AeWindow where
  fifo : List (List Nat × Nat × Nat)
  drained : Nat
  part : List Nat
  ready : List AeFrame
  overSecond : Option Nat
  deriving DecidableEq, Repr

/-- R460: an open load: its kind and length, the bytes taken, whether the checks before the chunks have
passed, and the END that waits for the flash store. -/
structure AeLoad where
  kind : Nat
  total : Nat
  bytes : List Nat
  checked : Bool
  ending : Option OpRef
  deriving DecidableEq, Repr

/-- R467, R508, R510: a unit of a job: a tile of a layer, a whole layer, or one of the units of an EVENT
or a COMMIT. -/
inductive AeUnit where
  | tile (layer index : Nat)
  | whole (layer : Nat)
  | error | update
  | first | table | second | publish
  deriving DecidableEq, Repr

/-- What a job is: an AERUN with its TAG and DEST, an EVENT with its LABEL, a COMMIT. -/
inductive AeWork where
  | run (tag dest : Nat)
  | event (label : Nat)
  | commit
  deriving DecidableEq, Repr

/-- A job: its input (a window, or words of general staging from a word offset), its WAIT and the TK_COUNT at
which it began to wait, its slices still to run with their costs (none before planning), the overlay
it was planned with, its input, frame number and stamp, the outputs of the layers done, its
saturations, and for a COMMIT the overlay image built and whether it was published. -/
structure AeJob where
  ref : OpRef
  work : AeWork
  window : Option Nat
  soff : Nat
  words : Nat
  wait : Nat
  since : Option Nat
  plan : Option (List (List AeUnit × Nat))
  overlay : List Nat
  input : List Int
  fseq : Nat
  time : Nat
  qual : Nat
  outputs : Sparse (List Int)
  sats : Nat
  built : List Nat
  published : Bool
  deriving DecidableEq, Repr

/-- The engine: the open load, the images in Tarn and the overlay area, whether the overlay was made by
a commit on this device, the packages they came in, the windows, the jobs with the running one first,
the training table D by input then output, the clamp loop's calm count, and the TK_COUNT of the last slice. -/
structure Analytics where
  load : Option AeLoad
  base : List Nat
  overlay : List Nat
  made : Bool
  basePack : List Nat
  overlayPack : List Nat
  windows : Sparse AeWindow
  jobs : List AeJob
  table : List Int
  calm : Nat
  sliceTick : Option Nat
  deriving DecidableEq, Repr

/-! ## The compression and security units (R496 to R505, R522 to R547) -/

/-- A range of a staging area that belongs to the device (R402): whether in package staging, its first
byte and its length. -/
structure StageRange where
  package : Bool
  first : Nat
  len : Nat
  deriving DecidableEq, Repr

/-- R496: a queued compression instruction: its kind (1 CPPACK, 2 CPUNPACK, 3 CPCHECK), FMT, COUNT and
ranges. -/
structure CpJob where
  ref : OpRef
  kind : Nat
  fmt : Nat
  count : Nat
  src : StageRange
  dst : StageRange
  deriving DecidableEq, Repr

/-- R541: what a queued security instruction does: SEVERIFY or SEOPEN of a package; SESEAL with its MODE,
owner, ID, the bytes sealed, DOFF and the time and quality of its issue; SEKEY. -/
inductive SeWork where
  | verify (off : Nat)
  | openPack (off : Nat)
  | sealed (mode owner id soff len doff time qual : Nat)
  | rpmb (entry : Nat)
  | rpmbClear
  | owner (action off : Nat)
  deriving DecidableEq, Repr

/-- R541: a queued security instruction: what it does, and the ranges it holds. -/
structure SeJob where
  ref : OpRef
  work : SeWork
  ranges : List StageRange
  deriving DecidableEq, Repr

/-- R584: a copy of the parameter image: its sequence number, its records as (register index, value),
and whether it is valid. -/
structure ParamCopy where
  seq : Nat
  records : List (Nat × Nat)
  good : Bool
  deriving DecidableEq, Repr

/-- The security unit: OTP slots 0 and 1, the owners' public keys in MRAM by owner slot, the sequence
floors by 8 × SIGNER + KIND (R534), the card key entries as label and seed (R537), the parameter image
copies, the records in force, the queue with the running instruction first, and the slots torn that
are to be logged at the next core start (R542). -/
structure Security where
  identity : Nat
  root : List Nat
  owners : Sparse (List Nat)
  floors : Sparse Nat
  cards : Sparse (List Nat)
  copies : List (Option ParamCopy)
  inForce : List (Nat × Nat)
  queue : List SeJob
  torn : List Nat
  deriving DecidableEq, Repr

end Sys2Proof.Machine
end

