-- ==== Sys2Proof/Machine/State.lean ====
section
/-! DEFINITION. The block's state: the register file, the aperture's memories, and what each unit
holds that no register shows. -/

namespace Sys2Proof.Machine

/-- What a ring waits for (R98, R99, R101). `resume`: the wait has ended and the ring resumes at the
next tick edge. -/
inductive Wait where
  | none
  | ticks (target : Nat)
  | event (code : Nat) (since : Nat) (target : Option Nat) (dst : Nat)
  | fence (ref : OpRef) (count : Nat)
  | resume
  deriving DecidableEq, Repr

/-- What a ring holds besides its registers: the wait, the loop counters (0 idle), the tail of the snapshot (R49),
the pending bind or unbind and its writer's KIND (R73), whether an unbind judged at an edge waits for the run in
progress to finish (R73), the tick of the bind, the program of the binding, the queue a run in progress has
reserved its entries in, the address it has reached and its unused reservations (R74), the credit and the cycles
used in the present tick, the share loaded at its edge (R49), and the starvation run (R59). -/
structure RingState where
  wait : Wait
  lc : List Nat
  snap : Nat
  pend : Option (Bool × Nat)
  leaving : Bool
  bindTick : Nat
  prog : Nat
  run : Option Nat
  pc : Nat
  pool : Nat
  credit : Nat
  used : Nat
  share : Nat
  starveRun : Nat
  starveFrom : Nat
  deriving DecidableEq, Repr

def RingState.idle : RingState :=
  ⟨.none, [0, 0, 0, 0], 0, none, false, 0, 0, none, 0, 0, 0, 0, 0, 0, 0⟩

/-- What a completion queue holds besides its registers: the TK_COUNT at which each unconsumed entry
was posted, oldest first (R85), and the open episode: the TK_COUNT of its first tick (R83), with the
rings held by it. -/
structure QueueState where
  posted : List Nat
  episode : Option Nat
  held : List Nat
  deriving DecidableEq, Repr

def QueueState.idle : QueueState := ⟨[], none, []⟩

/-- What is to be judged for ring 15 at the next tick edge (R76). -/
structure Ring15State where
  give : Bool
  giveBack : Bool
  seize : Bool
  deriving DecidableEq, Repr

/-- The tick unit: whether an edge has been produced since the core start (R43), the Wellhead time
of the last edge moved along with every step since (R54), the absolute tick number of the last edge,
the writer of the pending rate (R58), whether an overrun was logged in this second (R60), and the edges since the
core start, a count that does not wrap. -/
structure TickState where
  started : Bool
  lastEdge : Int
  lastAbs : Nat
  spill : Nat
  rateWriter : Nat × Nat × Nat
  overrunLogged : Bool
  edges : Nat
  deriving DecidableEq, Repr

/-- The block's state. `regs` is the register file by `Field.key`, a field at its reset value being
unlisted; `slots` the aperture's memories by offset, an unlisted slot reading zero. `now` is Wellhead
time in units of 10 ns, running while `running` (R311); `clock` is the time clock in the same units,
which no step moves (R54), and measures every duration; `frac` is the fraction that Wellhead's accumulator holds beyond
`now`, in units of 10⁻⁹ of 10 ns. `batch` holds the events of a cycle that is still being worked out, outside of
which it is none (R331); it is the model's own. `coreUp`: the core domain is powered.
`cycles` is what the last instruction used of the sequencer (R105). `freeCount` counts the values the
spec leaves open that the machine has drawn; it is the model's own. -/
structure State where
  regs : Sparse Nat
  slots : Sparse Nat
  now : Nat
  clock : Nat
  frac : Nat
  running : Bool
  coreUp : Bool
  rings : Sparse RingState
  queues : Sparse QueueState
  ring15 : Ring15State
  tick : TickState
  log : List LogEntry
  store : Sparse Nat
  mn : Monitors
  hp : HostPath
  sh : Shadow
  fl : Flash
  sv : SaveUnit
  pw : Power
  tm : TimeUnit
  bt : Battery
  fp : Faceplate
  sb : SideBand
  sc : SmartCard
  mc : MemCard
  ua : Sparse UartPort
  lk : Link
  ae : Analytics
  cp : List CpJob
  se : Security
  cycles : Nat
  freeCount : Nat
  batch : Option (List (Nat × Nat × Nat × Nat))
  pending : List Instr
  deriving DecidableEq, Repr

/-- Why the machine stops. -/
inductive Fault where
  /-- Raised by HOST_READ and HOST_WRITE for a module address beyond the DRAM capacity that
  HP_CONFIG gives (R118): no rank of the module answers there. Safe: the model stops where a
  module would answer something. -/
  | noMemory (addr : Nat)
  deriving DecidableEq, Repr

/-- Why the machine gives a command no meaning. -/
inductive Refusal where
  /-- Raised by `exec` alone, for a command the model does not cover. Safe: nothing is claimed. -/
  | notModelled (mnemonic : String)
  deriving DecidableEq, Repr

/-! ## Reset

The block after the cold start of a module whose records were never written (R581, R590): the
factory parameter image in force, DORMANT with the core domain down. -/

def TickState.reset : TickState :=
  { started := false, lastEdge := 0, lastAbs := 0, spill := 0, rateWriter := (0, 0, 0), overrunLogged := false,
    edges := 0 }

def Monitors.reset : Monitors :=
  { slots := [], queue := [], fseq := 0, pins := 64, refFails := 0, refPasses := 0, audit := 0, auditFails := [],
    outside := [], raw := [], since := [], readAt := [], newest := none, portForce := [], scanTick := none, scanAt := 0,
    scanEnd := 0 }

def HostPath.reset : HostPath :=
  { modes := [], deviceModes := [], words := [], space := 0, rows := [], selfRefresh := 0, deafUntil := 0,
    speedWritten := false, passes := [], passing := none, trained := none, railScrub := false, scrubFrom := 0,
      claimWaits := false, lend := none, scrubs := [],
    resetInLend := false, mismatchSecond := none, paritySecond := none, dram := ⟨[], [], []⟩,
    generation := 0, answer := [], answerCheck := [] }

def Shadow.reset : Shadow :=
  { order := [], page := [], closed := false, pageFrom := 0, pagesOut := 0, lastBar := 0, place := 0, bells := [],
    waiting := [], dirty := [], fences := [], fold := none, calm := 0, shortRun := 0, lowRun := 0,
    overflowSecond := none, loopTick := none, accountTick := none }

def Flash.reset : Flash :=
  { root := none, oldRoot := none, oldStore := none, rootAt := 0, nandRoots := [none, none, none, none], bad := [],
    grown := 0,
    stripes := 0, retired := [], spares := [], sparesAtFormat := 0, moved := [], system := [], uses := [],
    erased := [], ringFrom := 1, codewords := [], wear := [], lost := [], weak := [], lostSum := 0, base := none,
      baseCut := 0, journal := [], spent := [], saveIndex := [],
    saveCells := [], commits := [none, none], commitAt := [0, 0], tprog := 0, times := [], written := [(0, 0)],
    lifeFrom := 0, lifePart := 0, bgShare := 0, writeSeq := 0, refreshed := 0, patrolEnd := none, patrolFrom := 0,
      models := [none, none], lifeLow := false, lifeRun := 0 }

def SaveUnit.reset : SaveUnit :=
  { pavane := none, galliard := none, warning := false, preSave := none, erased := 0, warnFrom := 0,
    lifted := false, noticed := false, winFrom := 0, record := ⟨0, 0, 0, 0, false, 0, [], 0, 0⟩,
    oldRecord := none, recordAt := 0 }

def Rail.idle : Rail :=
  { rank := 0, goodFor := 0, t0 := 0, target := false, asked := 0, dis := false, inFor := 0, settle := 0, tstart := 0,
    offto := 0, offpct := 0, offAt := 0 }

def Power.reset : Power :=
  { rails := [], evals := 0, seq := 0, seqFrom := 0, wake := false, pstate := [], railOns := [],
    railOffs := [], margins := [], returning := [], stop := none, latching := none, faulted := 0,
    firstFault := 0, faultFrom := 0, aux := false, isolated := false, lineLow := false,
    lineSeen := false }

def TimeUnit.reset : TimeUnit :=
  { e := [none, none, none, none], ppsLast := 0, ppsClock := 0, ppsRun := 0, ppsSeen := false, ppsMissed := 0,
    gnssLast := 0, gnssRun := 0, gnssAt := 0, gnssEdge := 0, gnssPending := none, line := [], irigLast := 0, irigRun := 0,
    irigSilent := 0, irigSeen := false, linkSilent := 0, linkRun := 0, linkOnce := false,
    linkBound := 0, utcNext := none, fresh := false, locked := 0, agree := 0,
    disagreeSecs := 0, window := [], calm := 0, base := 0, history := [], boundNs := 167772150,
    slew := none, tset := none, caps := [], qual3 := 0, conflict := none, leapHigh := 0, deferred := [],
    second := 0, sampledAt := 0, savedFrom := 0, minuteFrom := 0, oscFrom := 0, correction := 0, logRead := none }

/-- R289, R303: BT_HOLD is driven high from cold start. -/
def Battery.reset : Battery :=
  { ppVin := true, ppBat := false, hold := true, bleed := 0, timer := 0, timerFrom := none,
    floatCalm := 0, demand := 0, demandCalm := 0, rangeCalm := 0, nano := 0, remFrac := 0,
    overFrac := 0, clipRun := 0, agreeRun := 0, disagreeLen := 0, disagreeLogged := false,
    agreeOwed := none, capRecord := none, phaseFrom := 0, floatAt := 0, balanceAt := 0, insertFrom := none,
    lowFrom := none, termFrom := none, sampleTick := none, sampledAt := 0, gaugeTick := none, gaugedAt := 0 }

def Lamp.idle : Lamp := ⟨none, 0, 0, 0, none, 0, none, none, none, none⟩

def Faceplate.reset : Faceplate :=
  { target := 0, safe := 0, resting := 0, raisedAt := 0, steady := none, lamps := [], sets := [], based := false,
    calm := 0, touchedAt := 0, saving := false, lowAt := 0, updateAt := 0 }

def SmartCard.reset : SmartCard :=
  { op := none, deacts := [], wait := .none, cold := false, raw := false, nopps := false, classes := 0,
    tried := 0, x := 0, divider := 0, wi := 10, proposed := 0x11, impl := false, ifsdFail := false,
    ppsDone := false, cause := 0, status := 0, sent := [], len := 0, rxMax := 0, acked := 0,
    lastLen := 0, lastMore := false, lastAcked := true, lastR := none, attempts := 0, resynch := 0,
    aborting := false, wtx := 1, tries := 0, sentRaw := 0, lastI := [], rundiv := 0,
    clkHigh := false, vsel := 0, began := 0, since := 0 }

def MemCard.reset : MemCard :=
  { op := none, offs := [], todo := [], retried := false, stage := 0, action := 0, buf := 0,
    wide := false, hs := false, cdiv := 0, ext := false, cardType := 0, addr := 0, count := 0,
    tries := 0, starved := false, ending := none, nonce := [], counter := 0, frames := [], got := 0,
    key := none, cid := [], csd := 0, sent := [], cause := 0, status := 0, saveWait := false,
    saveFrom := 0, begun := false, vccAt := none, since := 0 }

def UartPort.idle : UartPort := ⟨[], [], [], 0, 0, none, none, 0, 0, 0, none, 0, false, false⟩

/-- A line's receiver before its first character. -/
def LkLine.idle : LkLine := ⟨.hunt, [], 0, false, none⟩

def Link.reset : Link :=
  { join := none, joinStep := 0, heard := [], joinStamp := (0, 0), uidOf := none, missed := 0, handover := none,
    claims := [], claimed := none, seqs := [], cache := [], bcasts := 0, sends := [], extras := [],
    flight := none, wait := 0, calm := 0, rx := [], recvs := [], table := none, pendings := [],
    aMiss := 0, bMiss := 0, both := 0, strangers := [none, none, none, none], known := [],
    leaving := 0, leave := [], sent := [], record := none, boundary := none, flightEnd := 0, clear := 0, waitEnd := 0,
    joinAt := 0, recvAt := 0, silent := 0, skip := 0, slack := none, lineA := .idle, lineB := .idle }

def Analytics.reset : Analytics :=
  { load := none, base := [], overlay := [], made := false, basePack := [], overlayPack := [],
    windows := [], jobs := [], table := [], calm := 0, sliceTick := none }

/-- R523: the shipped device holds an identity key and a sealing root; their values are the model's
(assumption log 25). -/
def Security.reset : Security :=
  { identity := 1, root := List.replicate 32 0, owners := [], floors := [], cards := [],
    copies := [none, none], inForce := [], queue := [], torn := [] }

/-- R303: UNCERT sets at cold start. -/
def State.reset : State :=
  { regs := [(Reg.BT_STATUS.UNCERT.key, 1)], slots := [], now := 0, clock := 0, frac := 0, running := false,
    coreUp := false, rings := [], queues := [], ring15 := ⟨false, false, false⟩, tick := .reset, log := [], store := [],
    mn := .reset, hp := .reset, sh := .reset, fl := .reset, sv := .reset, pw := .reset, tm := .reset, bt := .reset,
    fp := .reset, sb := ⟨0, 0, [], 0⟩, sc := .reset, mc := .reset, ua := [], lk := .reset, ae := .reset, cp := [],
    se := .reset, cycles := 0, freeCount := 0, batch := none, pending := [] }

end Sys2Proof.Machine
end

