-- ==== Sys2Proof/Machine/Ops.lean ====
section
/-! DEFINITION. The named operations every unit shares: the register file, the aperture's memories,
violations, the event log, and completions. -/

namespace Sys2Proof.Machine

open Reg

/-! ## The register file -/

/-- The value of field `f`. -/
def State.get (s : State) (f : Field) : Nat := (sparseFind f.key s.regs).getD f.reset

/-- `f` takes `v`, modulo its width. -/
def State.set (s : State) (f : Field) (v : Nat) : State :=
  { s with regs := sparseStore f.reset f.key (v % 2 ^ f.width) s.regs }

/-- Whether field `f` is not zero. -/
def State.flag (s : State) (f : Field) : Bool := s.get f != 0

def State.setFlag (s : State) (f : Field) (b : Bool) : State := s.set f (boolNat b)

/-- The two's complement value of `f` (R21). -/
def State.getS (s : State) (f : Field) : Int := toSigned f.width (s.get f)

def State.setS (s : State) (f : Field) (i : Int) : State := s.set f (ofSigned f.width i)

/-- `f` rises by `n` and wraps silently. -/
def State.add (s : State) (f : Field) (n : Nat) : State := s.set f (s.get f + n)

/-- `f` rises by `n` and holds at its largest value. -/
def State.addHold (s : State) (f : Field) (n : Nat) : State :=
  s.set f (min (s.get f + n) (2 ^ f.width - 1))

/-- A value over two registers, the most significant word first (R26). -/
def State.getPair (s : State) (hi lo : Field) : Nat := s.get hi * 2 ^ 24 + s.get lo

def State.setPair (s : State) (hi lo : Field) (v : Nat) : State :=
  (s.set hi (v / 2 ^ 24)).set lo v

/-- Bit `i` of mask field `f`. -/
def State.maskBit (s : State) (f : Field) (i : Nat) : Bool := bitOf (s.get f) i

def State.setMaskBit (s : State) (f : Field) (i : Nat) (b : Bool) : State :=
  s.set f (putBit (s.get f) i b)

/-- Run `g` when `b` holds. -/
def State.when (s : State) (b : Bool) (g : State → State) : State := if b then g s else s

/-! ## The aperture's memories (R22, R27, R34) -/

/-- The word in the memory slot at `off`. -/
def State.slot (s : State) (off : Nat) : Nat := (sparseFind off s.slots).getD 0

def State.setSlot (s : State) (off v : Nat) : State :=
  { s with slots := sparseStore 0 off (v % 2 ^ 24) s.slots }

/-- Words into consecutive slots from `off`. -/
def State.setSlots (s : State) (off : Nat) : List Nat → State
  | [] => s
  | w :: ws => (s.setSlot off w).setSlots (off + 4) ws

/-- R27: byte `b` of the stream that starts at `base`. -/
def State.streamByte (s : State) (base b : Nat) : Nat := bitsOf (s.slot (base + 4 * (b / 3))) (8 * (b % 3)) 8

/-- R27: the first `n` bytes of the stream that starts at `base`. -/
def State.stream (s : State) (base n : Nat) : List Nat := (List.range n).map (s.streamByte base)

/-- R27: bytes packed three to a word, unused lanes zero. -/
def packBytes : List Nat → List Nat
  | [] => []
  | [a] => [a % 256]
  | [a, b] => [a % 256 + b % 256 * 256]
  | a :: b :: c :: rest => (a % 256 + b % 256 * 256 + c % 256 * 65536) :: packBytes rest

/-- R27: a byte stream written from `base`. -/
def State.putStream (s : State) (base : Nat) (bytes : List Nat) : State := s.setSlots base (packBytes bytes)

/-- R27: one byte of a stream, its slot's other lanes unchanged. -/
def State.putStreamByte (s : State) (base b v : Nat) : State :=
  let off := base + 4 * (b / 3)
  let lane := 8 * (b % 3)
  s.setSlot off (s.slot off - bitsOf (s.slot off) lane 8 * 2 ^ lane + v % 256 * 2 ^ lane)

/-- R27: bytes into a stream from byte `b`. -/
def State.putStreamFrom (s : State) (base b : Nat) : List Nat → State
  | [] => s
  | v :: vs => (s.putStreamByte base b v).putStreamFrom base (b + 1) vs

/-- R27: the lanes of the last slot of a stream of `n` bytes that it does not use are written zero, but for those
that `other` keeps. -/
def State.padStream (s : State) (base n : Nat) (other : Nat → Bool) : State :=
  (List.range ((3 - n % 3) % 3)).foldl (fun (s : State) i =>
    if other (n + i) then s else s.putStreamByte base (n + i) 0) s

/-! ## Rings and queues -/

def State.ring (s : State) (r : Nat) : RingState := (sparseFind r s.rings).getD RingState.idle

def State.setRing (s : State) (r : Nat) (x : RingState) : State :=
  { s with rings := sparseStore RingState.idle r x s.rings }

def State.queue (s : State) (m : Nat) : QueueState := (sparseFind m s.queues).getD QueueState.idle

def State.setQueue (s : State) (m : Nat) (x : QueueState) : State :=
  { s with queues := sparseStore QueueState.idle m x s.queues }

/-- R43: TK_COUNT, 32 bits. -/
def State.tickCount (s : State) : Nat := s.get TK_COUNTH.COUNT * 2 ^ 24 + s.get TK_COUNTL.COUNT

def State.setTickCount (s : State) (n : Nat) : State :=
  (s.set TK_COUNTH.COUNT (n / 2 ^ 24)).set TK_COUNTL.COUNT n

/-- Ticks from `a` to `b`, modulo 2³² (R45). -/
def tickDiff (a b : Nat) : Nat := (b + 2 ^ 32 - a % 2 ^ 32) % 2 ^ 32

/-! ## Time (R39, R54, R311) -/

/-- R39: the place of edge `n` of a second, in 10 ns units from its start. -/
def edgePlace (tps n : Nat) : Nat := n * 100000000 / tps

/-- R39, R54: the first edge at or after Wellhead time `t`, as its second and index. -/
def nextEdge (tps t : Nat) : Nat × Nat :=
  let sec := t / 100000000
  let n := ceilDiv (t % 100000000 * tps) 100000000
  if n < tps then (sec, n) else (sec + 1, 0)

/-- R39, R54: the next edge, as its second and index. -/
def State.edgeAhead (s : State) : Nat × Nat :=
  let tps := s.get TK_RATE.RATE
  if s.tick.started then nextEdge tps (s.tick.lastEdge + (100000000 / tps : Nat)).toNat else nextEdge tps s.now

/-- R321, R323: what a cycle of the time clock adds to Wellhead's accumulator, in units of 10⁻⁹ of 10 ns: the loop
output is its frequency against that clock. -/
def State.speed (s : State) : Nat := max 1 (1000000000 + s.getS TM_FREQNOW.F).toNat

/-- The cycles of the time clock in which Wellhead time reaches `t`. -/
def State.cyclesTo (s : State) (t : Nat) : Nat := ceilDiv (t * 1000000000 - (s.now * 1000000000 + s.frac)) s.speed

/-- Wellhead time moves on to `t`, and the time clock with it. -/
def State.advanceTo (s : State) (t : Nat) : State :=
  if s.now ≤ t then
    { s with
      now := t, clock := s.clock + s.cyclesTo t
      frac := s.now * 1000000000 + s.frac + s.cyclesTo t * s.speed - t * 1000000000 }
  else s

/-- The time clock at Wellhead time `t`. -/
def State.clockAt (s : State) (t : Int) : Int := s.clock + ((t - s.now) * 1000000000 - s.frac) / s.speed

/-- Wellhead time at time clock `c`. -/
def State.timeAt (s : State) (c : Int) : Int := s.now + ((c - s.clock) * s.speed + s.frac) / 1000000000

/-- The Wellhead time at which time next moves by itself: the next tick edge, or, where no ticks run, the next
second boundary. -/
def State.nextTime (s : State) : Nat :=
  if s.coreUp then s.edgeAhead.1 * 100000000 + edgePlace (s.get TK_RATE.RATE) s.edgeAhead.2
  else (s.now / 100000000 + 1) * 100000000

/-- Whether the clock reaches `deadline` no later than time next moves by itself. Between two edges an event that
a deadline brings has its premise only then (assumption logs 2 and 95). With Wellhead stopped the State measures no
time, and its sender vouches for it. -/
def State.due (s : State) (deadline : Nat) : Bool :=
  !s.running || decide (deadline ≤ s.clock + s.cyclesTo s.nextTime)

/-- Time passes to `deadline` of the time clock. -/
def State.passTo (s : State) (deadline : Nat) : State :=
  if s.running then
    let total := s.frac + (deadline - s.clock) * s.speed
    { s with
      now := s.now + total / 1000000000, clock := s.clock + (deadline - s.clock), frac := total % 1000000000 }
  else s

/-- The effect `f` of a deadline, at the deadline: nothing before the State can have reached it. -/
def State.onTime (s : State) (deadline : Nat) (f : State → State) : State :=
  if s.due deadline then f (s.passTo deadline) else s

/-- A value the spec leaves open: the next one, and the state that has drawn it. -/
def State.draw (s : State) : Nat × State :=
  (Config.freeValue s.freeCount, { s with freeCount := s.freeCount + 1 })

/-- `n` bytes the spec leaves open. -/
def State.drawBytes : Nat → State → List Nat × State
  | 0, s => ([], s)
  | n + 1, s =>
      let (v, s) := s.draw
      let (l, s) := State.drawBytes n s
      (v % 256 :: l, s)

def zeros (n : Nat) : List Nat := List.replicate n 0

/-! ## Violations (R7, R10, R11, R12) -/

/-- R11: KIND, DIR and WHERE of a violation. -/
structure Violation where
  kind : Nat
  dir : Nat
  loc : Nat
  deriving DecidableEq, Repr

/-- R11: the layout of SY_LASTVIOL. -/
def Violation.word (v : Violation) : Nat := v.kind * 2 ^ 22 + v.dir * 2 ^ 21 + v.loc

/-- R12: the one of two violations of one cycle that SY_LASTVIOL records. -/
def Violation.keep (a b : Violation) : Violation :=
  if a.kind < b.kind then b
  else if b.kind < a.kind then a
  else if b.loc < a.loc then b else a

/-- R10, R12: the violations of one sequencer cycle are counted and the one to be kept recorded. -/
def State.violations (s : State) (vs : List Violation) : State :=
  match vs with
  | [] => s
  | v :: rest =>
      (s.addHold SY_VIOLATIONS.COUNT vs.length).set SY_LASTVIOL.LAST
        (rest.foldl Violation.keep v).word

def State.violate (s : State) (v : Violation) : State := s.violations [v]

/-- R11: the KIND of a register access by `w`. -/
def writerKind : Writer → Nat
  | .host => 1
  | .sideBand => 2
  | .ring _ => 3

/-- R11, R103: the violation of a write by `w` to the slot at `off`. -/
def writerViolation (w : Writer) (off : Nat) : Violation :=
  match w with
  | .host => ⟨1, 1, off⟩
  | .sideBand => ⟨2, 1, off⟩
  | .ring r => ⟨3, 0, r * 2 ^ 16 + 0x0F⟩

/-- R11: the violation of an instruction. -/
def instrViolation (ring opcode : Nat) : Violation := ⟨3, 0, ring * 2 ^ 16 + opcode⟩

/-- R572: the slots of the always-on domain. -/
def alwaysOn (off : Nat) : Bool :=
  decide (off < 0x40) || (decide (0x7000 ≤ off) && decide (off < 0xA100)) ||
    (decide (0xA400 ≤ off) && decide (off < 0xA600)) ||
    (decide (0x11040 ≤ off) && decide (off < 0x11230)) ||
    (decide (0x13000 ≤ off) && decide (off < 0x14000))

/-- R571: the domain of the slot at `off` has power. -/
def State.domainUp (s : State) (off : Nat) : Bool := s.coreUp || alwaysOn off

/-- A refused register write counts as one violation; an accepted one has its effect. -/
def State.orViolate (s : State) (w : Writer) (off : Nat) (r : Option State) : State :=
  match r with
  | some t => t
  | none => s.violate (writerViolation w off)

/-- R7, R571: a write of the named register at `off` by a row of its own, whose effect is `r`; ignored under
R7 while the register's domain is down. -/
def State.rowWrite (s : State) (w : Writer) (off : Nat) (r : Option State) : State :=
  s.orViolate w off (if s.domainUp off then r else none)

/-! ## Stamps (R29) -/

/-- The three words of a stamp of Wellhead time `time` (10 ns units) and quality `qual`. -/
def stampWord0 (time : Nat) : Nat := time / 100000000 / 2 ^ 16 % 2 ^ 24

def stampWord1 (time : Nat) : Nat :=
  time / 100000000 % 2 ^ 16 * 2 ^ 8 + time % 100000000 * 10 / 2 ^ 22

def stampWord2 (time qual : Nat) : Nat := time % 100000000 * 10 % 2 ^ 22 * 4 + qual % 4

def stampWords (time qual : Nat) : List Nat := [stampWord0 time, stampWord1 time, stampWord2 time qual]

/-- The 72 bits of a stamp. -/
def stampValue (time qual : Nat) : Nat :=
  stampWord0 time * 2 ^ 48 + stampWord1 time * 2 ^ 24 + stampWord2 time qual

/-- R30: stamps are ordered by bits [71:2]; the quality takes no part. -/
def stampBefore (a b : Nat) : Bool := decide (a / 4 < b / 4)

/-- R29: Wellhead seconds. -/
def State.seconds (s : State) : Nat := s.now / 100000000

/-! ## The event log (R331 to R333) -/

/-- R331: the slots of the event log. -/
def logCapacity : Nat := 16384

/-- R332: slots that are empty or hold a released entry. Only the oldest entries are released. -/
def State.logWritable (s : State) : Nat :=
  logCapacity - s.log.length + (s.log.takeWhile (·.released)).length

/-- R331, R332: `e` is written to the log, over the oldest entry when the log is full. -/
def State.logPush (s : State) (e : LogEntry) : State :=
  if s.log.length < logCapacity then { s with log := s.log ++ [e] }
  else
    let lost := match s.log with
      | old :: _ => !old.released
      | [] => false
    let s := s.when lost (·.add TM_LOGLOST.COUNT 1)
    let s := s.set TM_LOGOLD.SLOT ((s.get TM_LOGOLD.SLOT + 1) % logCapacity)
    { s with log := s.log.drop 1 ++ [e] }

/-- R84: the pending bit of unit `u` sets when its event is written to the log while enabled. -/
def State.pendUnit (s : State) (u : Nat) : State :=
  s.when (s.maskBit QU_EVENA.UNIT u) (·.setMaskBit QU_EVPEND.UNIT u true)

/-- R99: whether a raised event of `code` matches the waited-for `want`. -/
def eventMatches (want code : Nat) : Bool :=
  if want % 128 = 0 then decide (want / 128 = code / 128) else decide (want = code)

/-- R99: the match of a waiting WAITE. -/
def State.waiteMatch (s : State) (r seq dst : Nat) : State :=
  (((s.set (SY_CTX.G r (dst % 8)) seq).set (SY_FLAGS.T r) 0).setRing r { s.ring r with wait := .resume })

/-- R109: Pavane has frozen the rings: a frozen ring is left waiting. -/
def State.frozen (s : State) : Bool := s.sv.pavane.isSome

/-- R99, R109: ring `r` takes its match with event `code` of sequence number `seq`. -/
def State.matchRing (code seq : Nat) (s : State) (r : Nat) : State :=
  match (s.ring r).wait with
  | .event want _ _ dst => if eventMatches want code && !s.frozen then s.waiteMatch r seq dst else s
  | _ => s

/-- R332: what becomes of a raised event of sequence number `e.seq`: it is written, or lost. -/
def State.logEvent (s : State) (e : LogEntry) : State :=
  if s.get TM_LOGCFG.STOP = 0 then (s.logPush e).pendUnit (e.code / 128)
  else if s.flag TM_STATUS.LOGSTOP then s.add TM_LOGLOST.COUNT 1
  else if s.logWritable = 0 then (s.setFlag TM_STATUS.LOGSTOP true).add TM_LOGLOST.COUNT 1
  else if s.logWritable = 1 then
    let s := s.add TM_LOGLOST.COUNT 1
    let seq := s.get TM_EVSEQ.SEQ
    let s := s.add TM_EVSEQ.SEQ 1
    let s := (List.range 16).foldl (State.matchRing 0x50B seq) s
    let s := s.logPush { e with code := 0x50B, source := 0, seq := seq, w5 := s.get TM_LOGLOST.COUNT, w6 := 0, w7 := 0 }
    (s.setFlag TM_STATUS.LOGSTOP true).pendUnit 10
  else (s.logPush e).pendUnit (e.code / 128)

/-- R331: an event is raised: it takes its number and stamp, waiting WAITEs match, and it is logged.
While the core rail is down nothing is logged and TM_EVSEQ does not advance. `source` is R333's. -/
def State.raiseFrom (s : State) (source code w5 w6 w7 : Nat) : State :=
  if s.coreUp then
    let seq := s.get TM_EVSEQ.SEQ
    let e : LogEntry :=
      ⟨code, source, s.now, s.get TM_STATUS.QUAL, seq, w5 % 2 ^ 24, w6 % 2 ^ 24, w7 % 2 ^ 24, false, false⟩
    let s := s.add TM_EVSEQ.SEQ 1
    let s := (List.range 16).foldl (State.matchRing code seq) s
    s.logEvent e
  else s

def State.raise (s : State) (code w5 w6 w7 : Nat) : State :=
  match s.batch with
  | some l => { s with batch := some (l ++ [(code, w5, w6, w7)]) }
  | none => s.raiseFrom 0 code w5 w6 w7

/-- A list of events with `e` in it, in ascending code. -/
def insertEvent (e : Nat × Nat × Nat × Nat) : List (Nat × Nat × Nat × Nat) → List (Nat × Nat × Nat × Nat)
  | [] => [e]
  | f :: rest => if e.1 < f.1 then e :: f :: rest else f :: insertEvent e rest

/-- R331: the events of one cycle are raised, in ascending code. -/
def State.raiseAll (s : State) (l : List (Nat × Nat × Nat × Nat)) : State :=
  (l.foldl (fun l e => insertEvent e l) []).foldl (fun (s : State) e => s.raise e.1 e.2.1 e.2.2.1 e.2.2.2) s

/-- R331: `f` takes one cycle: the events it raises take their numbers in ascending code. -/
def State.oneCycle (s : State) (f : State → State) : State :=
  match s.batch with
  | some _ => f s
  | none =>
      let t := f { s with batch := some [] }
      ({ t with batch := none } : State).raiseAll (t.batch.getD [])

/-- R84, R185: the IO 3.3 V rail is up. -/
def State.ioUp (s : State) : Bool := s.maskBit PW_ON.EN 2 && s.maskBit PW_GOOD.RAIL 2

/-- R84: EVENT_n is asserted while any pending bit is 1 and the IO 3.3 V rail is up. -/
def State.eventN (s : State) : Bool :=
  s.ioUp && (s.get QU_EVPEND.UNIT != 0 || s.get QU_EVPEND.CQ != 0)

/-! ## Completion queues (R78 to R85) -/

/-- R78: the queue of ring `r`. -/
def State.cqOf (s : State) (r : Nat) : Nat :=
  if r = 15 then 3
  else if r < 8 then bitsOf (s.get QU_CQMAPL.MAP) (2 * r) 2
  else bitsOf (s.get QU_CQMAPH.MAP) (2 * (r - 8)) 2

/-- R81: the unconsumed count U of queue `m`. -/
def State.cqUsed (s : State) (m : Nat) : Nat :=
  (s.get (QU_CQTAIL.TAIL m) + 2 ^ 24 - s.get (QU_CQHEAD.HEAD m)) % 2 ^ 24

/-- R82: the free count F of queue `m`. -/
def State.cqFree (s : State) (m : Nat) : Nat :=
  1024 - s.cqUsed m - s.get (QU_CQRES.RESV m)

/-- R85: the coalescing condition of queue `m`. -/
def State.cqCondition (s : State) (m : Nat) : Bool :=
  let count := s.get (QU_CQIRQ.COUNT m)
  let age := s.get (QU_CQIRQ.AGE m)
  let old := match (s.queue m).posted with
    | [] => false
    | t :: _ => decide (age ≤ tickDiff t s.tickCount)
  count != 0 && (decide (count ≤ s.cqUsed m) || (age != 0 && decide (1 ≤ s.cqUsed m) && old))

/-- R84, R85: queue `m` is evaluated. -/
def State.cqEvaluate (s : State) (m : Nat) : State :=
  s.when (s.cqCondition m && s.maskBit QU_EVENA.CQ m) (·.setMaskBit QU_EVPEND.CQ m true)

/-- R82: `n` entries are reserved in queue `m`. -/
def State.cqReserve (s : State) (m n : Nat) : State := s.add (QU_CQRES.RESV m) n

/-- R83: the episode of queue `m` ends once its free count has risen from 0. -/
def State.cqRelieve (s : State) (m : Nat) : State :=
  match (s.queue m).episode with
  | none => s
  | some t =>
      if s.cqFree m = 0 then s
      else
        let held := (s.queue m).held
        let s := s.setQueue m { s.queue m with episode := none, held := [] }
        let s := s.set QU_HELD.RING (held.foldl clearBit (s.get QU_HELD.RING))
        s.raise 0x102 m (min (tickDiff t s.tickCount) 0xFFFFFF) (s.cqFree m)

/-- R74, R83, R106: `n` reservations of queue `m` are released unused. -/
def State.cqRelease (s : State) (m n : Nat) : State :=
  if n = 0 then s
  else (s.set (QU_CQRES.RESV m) (s.get (QU_CQRES.RESV m) - n)).cqRelieve m

/-- R83: no queue holds ring `r`; the queues' episodes stay open. -/
def State.dropHeld (s : State) (r : Nat) : State :=
  (List.range 4).foldl (fun (s : State) m =>
    s.setQueue m { s.queue m with held := (s.queue m).held.filter fun x => x != r }) s

/-- R82, R83: ring `r` is held by queue `m`, and by no other. -/
def State.cqHold (s : State) (r m : Nat) : State :=
  let s := (s.dropHeld r).setMaskBit QU_HELD.RING r true
  match (s.queue m).episode with
  | some _ =>
      s.setQueue m { s.queue m with held := (s.queue m).held ++ [r] }
  | none =>
      let s := s.setQueue m { s.queue m with episode := some s.tickCount, held := [r] }
      s.raise 0x101 m r (s.cqUsed m)

/-- R83: a ring that reserves an entry is held no longer. -/
def State.cqUnhold (s : State) (r : Nat) : State := (s.dropHeld r).setMaskBit QU_HELD.RING r false

/-- R79: word 0 of an entry. -/
def OpRef.word0 (c : OpRef) (status : Nat) : Nat :=
  c.ring * 2 ^ 20 + status * 2 ^ 12 + c.opcode * 2 ^ 6 + boolNat c.res * 2

/-- R79: the slot of the next entry of queue `m`. -/
def State.entryBase (s : State) (m : Nat) : Nat := 0x80000 + m * 0x4000 + 16 * (s.get (QU_CQTAIL.TAIL m) % 1024)

/-- R78: the queue of an entry, one of four. -/
def OpRef.q (c : OpRef) : Nat := c.cq % 4

/-- R79, R80: the entry of `c` is written at the tail of its queue and the tail advances. -/
def State.cqWrite (s : State) (c : OpRef) (status result : Nat) : State :=
  let s := s.setSlots (s.entryBase c.q)
    [c.word0 status, c.word1, result, s.get TK_INDEX.INDEX * 2 ^ 8 + s.seconds % 2 ^ 8]
  let s := s.add (QU_CQTAIL.TAIL c.q) 1
  let s := s.set (QU_CQRES.RESV c.q) (s.get (QU_CQRES.RESV c.q) - 1)
  let s := s.setQueue c.q { s.queue c.q with posted := (s.queue c.q).posted ++ [s.tickCount] }
  let s := s.set (QU_OUT.OUT (c.ring % 16)) (s.get (QU_OUT.OUT (c.ring % 16)) - 1)
  s.cqEvaluate c.q

/-- R101: a waiting FENCE of ring `r` posts once it is the ring's only outstanding instruction. -/
def State.fenceRelease (s : State) (r : Nat) : State :=
  match (s.ring r).wait with
  | .fence ref n =>
      if s.get (QU_OUT.OUT r) ≤ 1 then
        (s.setRing r { s.ring r with wait := .resume }).cqWrite ref 0x01 n
      else s
  | _ => s

/-- R79, R80, R106: the completion of `c` is posted. -/
def State.post (s : State) (c : OpRef) (status result : Nat) : State :=
  (s.cqWrite c status (result % 2 ^ 24)).fenceRelease c.ring

/-- R80: the place of an entry among those that finish in its cycle: by ring, then by ring position, which in
queue mode runs up to the head modulo 2²⁴. -/
def State.postPlace (s : State) (c : OpRef) : Nat :=
  c.ring * 2 ^ 24 +
    (if c.res then c.word1 else (c.word1 + 2 ^ 24 - (s.get (QU_HEAD.HEAD (c.ring % 16)) + 1) % 2 ^ 24) % 2 ^ 24)

/-- `e` behind the entries whose `key` is not above its own. -/
def insertPost (key : OpRef → Nat) (e : OpRef × Nat × Nat) : List (OpRef × Nat × Nat) → List (OpRef × Nat × Nat)
  | [] => [e]
  | f :: rest => if key e.1 < key f.1 then e :: f :: rest else f :: insertPost key e rest

/-- R80: the entries that finish in one cycle, as (instruction, status, result), are posted in ascending order
of ring, and within a ring in ascending ring position. -/
def State.postAll (s : State) (l : List (OpRef × Nat × Nat)) : State :=
  (l.foldl (fun l e => insertPost s.postPlace e l) []).foldl (fun (s : State) e => s.post e.1 e.2.1 e.2.2) s

/-- Post where an instruction waits for it. -/
def State.postOpt (s : State) (c : Option OpRef) (status result : Nat) : State :=
  match c with
  | some c => s.post c status result
  | none => s

/-! ## Issue (R71, R82, R89, R105 to R108) -/

/-- R72: whether ring `r` is in resident mode. -/
def State.resident (s : State) (r : Nat) : Bool := s.flag (QU_MODE.RES r)

/-- R79: word 1 of the completion of ring `r`'s present instruction. -/
def State.position (s : State) (r : Nat) : Nat :=
  if s.resident r then (s.ring r).pc else s.get (QU_HEAD.HEAD r)

/-- R71, R89: ring `r` moves on by `n` words. -/
def State.moveOn (s : State) (r n : Nat) : State :=
  if s.resident r then s.setRing r { s.ring r with pc := (s.ring r).pc + n }
  else s.add (QU_HEAD.HEAD r) n

/-- R105: the cycles the instruction used. -/
def State.uses (s : State) (n : Nat) : State := { s with cycles := n }

/-- R74, R82: the entry of an instruction that posts: from the run's own reservations, or a new one. -/
def State.reserve (s : State) (r : Nat) : State :=
  if (s.ring r).run.isSome then s.setRing r { s.ring r with pool := (s.ring r).pool - 1 }
  else (s.cqReserve (s.cqOf r) 1).cqUnhold r

/-- R82: whether ring `r` may admit an instruction that posts. -/
def State.canReserve (s : State) (r : Nat) : Bool :=
  (s.ring r).run.isSome || decide (0 < s.cqFree (s.cqOf r))

/-- The completion the present instruction of ring `r` will owe. -/
def State.opRef (s : State) (r opcode : Nat) : OpRef :=
  ⟨r, s.position r, s.resident r, opcode, (s.ring r).run.getD (s.cqOf r)⟩

/-- A ring instruction acts only while the core domain is up, its ring waits for nothing, and Pavane has
not frozen the rings (R187). -/
def State.ringReady (s : State) (r : Nat) : Bool :=
  s.coreUp && decide ((s.ring r).wait = Wait.none) && s.sv.pavane.isNone

/-- A unit instruction of ring `op.ring`: its entry is reserved, or the ring is held (R82, R83); the
ring moves on and the instruction is outstanding; then `body` judges it and does its work. -/
def State.issue (s : State) (op : Op) (opcode cost : Nat) (body : State → OpRef → State) : State :=
  if s.ringReady op.ring then
    if s.canReserve op.ring then
      let ref := s.opRef op.ring opcode
      let s := s.reserve op.ring
      let s := s.add (QU_OUT.OUT op.ring) 1
      let s := s.moveOn op.ring (1 + op.ext.length)
      body (s.uses cost) ref
    else s.cqHold op.ring (s.cqOf op.ring)
  else s

/-- R107: refused with a core status: no effect, result zero, 20 cycles (R105). -/
def State.refuse (s : State) (ref : OpRef) (status : Nat) : State := (s.uses 20).post ref status 0

/-- R7: refused by the legality table: status 0x00 and one violation. -/
def State.illegal (s : State) (ref : OpRef) : State :=
  (s.violate (instrViolation ref.ring ref.opcode)).refuse ref 0x00

/-- R108: the order in which every unit instruction is judged: EXT, reserved fields, staging ranges,
the legality table, then the operand ranges with the unit's range status. -/
def State.judge (s : State) (ref : OpRef) (ext reserved staging legal range : Bool)
    (rangeStatus : Nat) (body : State → State) : State :=
  if !ext then s.refuse ref 0x11
  else if !reserved then s.refuse ref 0x12
  else if !staging then s.refuse ref 0x13
  else if !legal then s.illegal ref
  else if !range then s.post ref rangeStatus 0
  else body s

/-- Word `i` of the extension words (from 1), as a number. -/
def Op.word (op : Op) (i : Nat) : Nat := (op.ext.getD (i - 1) 0).toNat

/-- G[`g`] of ring `r`. -/
def State.greg (s : State) (r g : Nat) : Nat := s.get (SY_CTX.G r g)

/-! ## Envelope loops (R13 to R15) -/

/-- R14: what one update of an envelope loop does: the output held in the envelope, whether the
demand lies beyond it, and the new calm count and PINNED bit. -/
structure LoopStep where
  out : Int
  pinned : Bool
  calm : Nat
  event : Bool
  deriving DecidableEq, Repr

/-- R14: one loop update with demand `d`, envelope `lo` to `hi`, PINNED bit `pinned` and `calm`
consecutive updates inside the envelope. -/
def loopUpdate (lo hi d : Int) (pinned : Bool) (calm : Nat) : LoopStep :=
  if d < lo ∨ hi < d then ⟨clampInt lo hi d, true, 0, !pinned⟩
  else if pinned then
    if 16 ≤ calm + 1 then ⟨d, false, 0, false⟩ else ⟨d, true, calm + 1, false⟩
  else ⟨d, false, 0, false⟩

end Sys2Proof.Machine
end

