-- ==== Sys2Proof/Machine/Codecs.lean ====
section
/-! DEFINITION. The compressed formats: bfloat16, BEW-128, BEA-16 and VDS (R453, R479 to R491). -/

namespace Sys2Proof.Machine

/-! ## bfloat16 (R453, R490) -/

def bfSign (w : Nat) : Nat := bitsOf w 15 1
def bfExp (w : Nat) : Nat := bitsOf w 7 8
def bfMant (w : Nat) : Nat := bitsOf w 0 7

/-- R453: the value of a bfloat16 in units of 2⁻¹³³. -/
def bfInt (w : Nat) : Int :=
  if bfExp w = 0 then 0
  else
    let m : Int := ((128 + bfMant w) * 2 ^ (bfExp w - 1) : Nat)
    if bfSign w = 1 then -m else m

/-- `n / 2 ^ k`, to nearest, ties to even. -/
def shiftEven (n k : Nat) : Nat :=
  let q := n / 2 ^ k
  let r := n % 2 ^ k
  if 2 ^ k < 2 * r ∨ (2 * r = 2 ^ k ∧ q % 2 = 1) then q + 1 else q

/-- R490: a value in units of 2⁻¹³³ rounded to bfloat16. -/
def bfRound (i : Int) : Nat :=
  let sign := if i < 0 then 0x8000 else 0
  let n := i.natAbs
  if n < 128 then 0
  else
    let k := Nat.log2 n - 7
    let q := shiftEven n k
    let e := if q = 256 then k + 2 else k + 1
    if 254 < e then sign + 254 * 128 + 127 else sign + e * 128 + q % 128

/-- R490: the weight fed: `w` plus `q` steps. -/
def bfAdd (w : Nat) (q : Int) (step : Nat) : Nat := bfRound (bfInt w + q * bfInt step)

/-- Nearest integer to `a / b`, halves away from zero (R508, R515). -/
def roundAway (a b : Int) : Int :=
  let q : Int := ((2 * a.natAbs + b.natAbs) / (2 * b.natAbs) : Nat)
  if (a < 0) ≠ (b < 0) then -q else q

/-! ## BEW-128 (R479 to R483) -/

def crc8Bits : Nat → Nat → Nat
  | 0, c => c
  | n + 1, c => crc8Bits n (if 128 ≤ c then 2 * c ^^^ 0x107 else 2 * c)

/-- R481. -/
def crc8 (bytes : List Nat) : Nat := bytes.foldl (fun c b => crc8Bits 8 (c ^^^ b % 256)) 0

/-- R479: the entries of a block. -/
def bewEntries (block : List Nat) : List Nat :=
  let field := littleEndian (block.drop 2)
  (List.range 128).map fun i => bitsOf field (11 * i) 11

/-- R480: whether a block is valid. -/
def bewValid (block : List Nat) : Bool :=
  let base := block.getD 0 0
  crc8 (base :: block.drop 2) == block.getD 1 0 &&
    (decide (1 ≤ base) && decide (base ≤ 248) ||
      base == 0 && (bewEntries block).all fun e => bitsOf e 7 3 == 0)

/-- R480: the value of an entry. -/
def bewValue (base e : Nat) : Nat :=
  let c := bitsOf e 7 3
  if c = 0 then 0 else bitsOf e 10 1 * 0x8000 + (base + c - 1) * 128 + bitsOf e 0 7

def bewDecode (block : List Nat) : List Nat := (bewEntries block).map (bewValue (block.getD 0 0))

/-- R482: BASE for some inputs. -/
def bewBase (ws : List Nat) : Nat :=
  let top := (ws.map bfExp).foldl max 0
  if top = 0 then 0 else max (top - 6) 1

def bewEntry (base w : Nat) : Nat :=
  if bfExp w = 0 ∨ bfExp w < base then 0
  else bfSign w * 1024 + (bfExp w - base + 1) * 128 + bfMant w

/-- R482: a block of 128 finite inputs. -/
def bewEncode (ws : List Nat) : List Nat :=
  let base := bewBase ws
  let field := (ws.map (bewEntry base)).foldr (fun e acc => acc * 2048 + e) 0
  let body := toLittleEndian 176 field
  base :: crc8 (base :: body) :: body

/-- R482: the flushes of a block. -/
def bewFlushes (ws : List Nat) : Nat :=
  (ws.filter fun w => bfExp w != 0 && decide (bfExp w < bewBase ws)).length

/-! ## BEA-16 (R484) -/

def beaEntry (s : Nat) (a : Int) : Int := (a + (if s = 0 then 0 else (2 ^ (s - 1) : Nat))) / (2 ^ s : Nat)

def beaFits (i : Int) : Bool := decide (-32768 ≤ i) && decide (i ≤ 32767)

/-- R484: S. -/
def beaShift (as : List Int) : Nat :=
  ((List.range 8).find? fun s => as.all fun a => beaFits (beaEntry s a)).getD 8

def beaEncode (as : List Int) : List Nat :=
  let s := beaShift as
  s :: as.flatMap fun a => toLittleEndian 2 (ofSigned 16 (clampInt (-32768) 32767 (beaEntry s a)))

def beaSaturations (as : List Int) : Nat :=
  (as.filter fun a => !beaFits (beaEntry (beaShift as) a)).length

/-- R484: the values of a block whose shift is legal. -/
def beaDecode (block : List Nat) : List Int :=
  (List.range 16).map fun k =>
    toSigned 16 (littleEndian ((block.drop (1 + 2 * k)).take 2)) * (2 ^ block.getD 0 0 : Nat)

/-- R458: the bytes of a tensor of `n` values. -/
def beaBytes (n : Nat) : Nat := ceilDiv n 16 * 33

/-- A tensor after it has been held in scratch in blocks of 16 values, the last filled up with zeros. -/
def beaThrough (as : List Int) : List Int :=
  (List.range (ceilDiv as.length 16)).flatMap fun k =>
    let part := (as.drop (16 * k)).take 16
    (beaDecode (beaEncode (part ++ List.replicate (16 - part.length) 0))).take part.length

/-! ## VDS (R485 to R491) -/

/-- R487: the codes of a table of lengths: (length, code, token), in canonical order. -/
def vdsCodes (lens : List Nat) : List (Nat × Nat × Nat) :=
  let sorted := (List.range 12).flatMap fun l =>
    ((List.range 34).filter fun t => lens.getD t 0 == l + 1).map fun t => (l + 1, t)
  (sorted.foldl (fun (acc : List (Nat × Nat × Nat) × Nat × Nat) lt =>
      let (done, code, len) := acc
      let code := code * 2 ^ (lt.1 - len)
      ((lt.1, code, lt.2) :: done, code + 1, lt.1)) ([], 0, 0)).1.reverse

/-- R487: the Kraft sum, in units of 2⁻¹². -/
def kraft (lens : List Nat) : Nat := (lens.map fun l => if l = 0 then 0 else 2 ^ (12 - l)).sum

/-- R487: whether a table is valid. -/
def vdsTableOk (lens : List Nat) : Bool :=
  let present := lens.filter (· != 0)
  lens.all (decide <| · ≤ 12) &&
    ((decide (2 ≤ present.length) && kraft lens == 4096) || present == [1])

def bitsToNat (bits : List Bool) : Nat := bits.foldl (fun n b => 2 * n + boolNat b) 0

/-- The `n` low bits of `v`, most significant first. -/
def natBits : Nat → Nat → List Bool
  | 0, _ => []
  | n + 1, v => bitOf v n :: natBits n v

/-- R486: the bits of some bytes. -/
def byteBits (bytes : List Nat) : List Bool := bytes.flatMap (natBits 8)

/-- R486: the token that the bits start with, and the bits after it; `len` and `code` are what has
been read. -/
def vdsToken (codes : List (Nat × Nat × Nat)) : Nat → Nat → List Bool → Option (Nat × List Bool)
  | _, _, [] => none
  | len, code, b :: rest =>
      let code := 2 * code + boolNat b
      match codes.find? fun c => c.1 == len + 1 && c.2.1 == code with
      | some c => some (c.2.2, rest)
      | none => if 12 ≤ len + 1 then none else vdsToken codes (len + 1) code rest

/-- R485: the symbols of a token with its extra bits, and the bits after them. -/
def vdsSymbols (t : Nat) (bits : List Bool) : Option (List Int × List Bool) :=
  if t < 16 then some (List.replicate (t + 1) 0, bits)
  else if t = 16 then
    if bits.length < 7 then none
    else some (List.replicate (bitsToNat (bits.take 7) + 1) 0, bits.drop 7)
  else if t < 25 then some ([(t : Int) - 16], bits)
  else if t < 33 then some ([24 - (t : Int)], bits)
  else if bits.length < 12 then none
  else some ([toSigned 12 (bitsToNat (bits.take 12))], bits.drop 12)

/-- R486: `need` symbols from `bits`, which end at the next offset. -/
def vdsRead (codes : List (Nat × Nat × Nat)) : Nat → Nat → List Bool → Option (List Int)
  | _, 0, bits => if bits.length < 8 ∧ bits.all (!·) then some [] else none
  | 0, _, _ => none
  | fuel + 1, need, bits =>
      match vdsToken codes 0 0 bits with
      | none => none
      | some (t, bits) =>
          match vdsSymbols t bits with
          | none => none
          | some (qs, bits) =>
              if need < qs.length then none
              else (vdsRead codes fuel (need - qs.length) bits).map (qs ++ ·)

/-- R488: a body as its parts: the lengths, the index, the stream. -/
structure VdsBody where
  lens : List Nat
  index : List Nat
  stream : List Nat
  deriving DecidableEq, Repr

/-- R488: the body in some bytes; none where it is not well formed. -/
def vdsParse (bytes : List Nat) : Option VdsBody :=
  let lens := (bytes.take 17).flatMap fun b => [b / 16 % 16, b % 16]
  let nvb := littleEndian ((bytes.drop 17).take 3)
  let len := littleEndian ((bytes.drop 20).take 3)
  if 24 ≤ bytes.length ∧ vdsTableOk lens = true ∧ 1 ≤ nvb ∧ nvb ≤ 65535 ∧ bytes.getD 23 0 = 0 ∧
      bytes.length = 24 + 3 * nvb + len then
    let index := (List.range nvb).map fun j => littleEndian ((bytes.drop (24 + 3 * j)).take 3)
    some ⟨lens, index, bytes.drop (24 + 3 * nvb)⟩
  else none

/-- R486: the offset at which block `j` ends. -/
def VdsBody.next (b : VdsBody) (j : Nat) : Nat := b.index.getD (j + 1) b.stream.length

/-- R486: the symbols of block `j`; none where it is not consistent. -/
def VdsBody.block (b : VdsBody) (j : Nat) : Option (List Int) :=
  let first := b.index.getD j 0
  let next := b.next j
  if first ≤ b.stream.length ∧ next ≤ b.stream.length ∧ first ≤ next then
    vdsRead (vdsCodes b.lens) 128 128 (byteBits ((b.stream.drop first).take (next - first)))
  else none

/-- R491: the token of a run of `n` zeros, as (token, value of its extra bits). -/
def zeroToken (n : Nat) : Nat × Nat := if n ≤ 16 then (n - 1, 0) else (16, n - 1)

/-- R491: the token of a symbol that is not zero. -/
def symbolToken (q : Int) : Nat × Nat :=
  if 1 ≤ q ∧ q ≤ 8 then ((16 + q).toNat, 0)
  else if -8 ≤ q ∧ q ≤ -1 then ((24 - q).toNat, 0)
  else (33, ofSigned 12 q)

/-- R491: the tokens of a block, `zeros` zeros having been read. -/
def vdsTokens : Nat → List Int → List (Nat × Nat)
  | zeros, [] => if zeros = 0 then [] else [zeroToken zeros]
  | zeros, q :: rest =>
      if q = 0 then vdsTokens (zeros + 1) rest
      else (if zeros = 0 then [] else [zeroToken zeros]) ++ symbolToken q :: vdsTokens 0 rest

/-- A package of the minimising of R491: its weight and its tokens. -/
abbrev Coin := Nat × List Nat

def insertCoin (c : Coin) : List Coin → List Coin
  | [] => [c]
  | d :: rest => if c.1 < d.1 then c :: d :: rest else d :: insertCoin c rest

def pairCoins : List Coin → List Coin
  | a :: b :: rest => (a.1 + b.1, a.2 ++ b.2) :: pairCoins rest
  | _ => []

def coinRounds (leaves : List Coin) : Nat → List Coin → List Coin
  | 0, l => l
  | n + 1, l => coinRounds leaves n ((pairCoins l).foldl (fun acc c => insertCoin c acc) leaves)

/-- R491: lengths of at most 12 that minimise the coded bits of tokens with these counts. -/
def minimalLengths (counts : List Nat) : List Nat :=
  let present := (List.range 34).filter fun t => counts.getD t 0 != 0
  let leaves := present.foldl (fun acc t => insertCoin (counts.getD t 0, [t]) acc) []
  if present.length ≤ 1 then (List.range 34).map fun t => boolNat (present.contains t)
  else
    let used := ((coinRounds leaves 11 leaves).take (2 * present.length - 2)).flatMap (·.2)
    (List.range 34).map fun t => used.count t

/-- The coded bits of tokens with these counts, but for their extra bits. -/
def codedBits (counts lens : List Nat) : Nat := ((counts.zip lens).map fun p => p.1 * p.2).sum

/-- R491: the lengths the device takes. Its choice among equally short tables is its own
(assumption log 23). -/
def vdsLengths (counts : List Nat) : List Nat :=
  let best := minimalLengths counts
  let own := Config.codeLengths counts
  if own.length = 34 ∧ vdsTableOk own = true ∧ codedBits counts own = codedBits counts best ∧
      own.map (· == 0) = counts.map (· == 0) then own
  else best

/-- The bytes of some bits, zero bits filling the last. -/
def packBits : Nat → List Bool → List Nat
  | 0, _ => []
  | _ + 1, [] => []
  | fuel + 1, bits =>
      let part := bits.take 8
      bitsToNat (part ++ List.replicate (8 - part.length) false) :: packBits fuel (bits.drop 8)

/-- R486: the bits of a token. -/
def tokenBits (codes : List (Nat × Nat × Nat)) (t : Nat × Nat) : List Bool :=
  let extra := if t.1 = 16 then natBits 7 t.2 else if t.1 = 33 then natBits 12 t.2 else []
  match codes.find? fun c => c.2.2 == t.1 with
  | some c => natBits c.1 c.2.1 ++ extra
  | none => extra

/-- R488: the bytes of a body. -/
def vdsBytes (lens : List Nat) (blocks : List (List Nat)) : List Nat :=
  let table := (List.range 17).map fun k => lens.getD (2 * k) 0 * 16 + lens.getD (2 * k + 1) 0
  let starts := (blocks.foldl (fun (acc : List Nat × Nat) b => (acc.2 :: acc.1, acc.2 + b.length)) ([], 0)).1
  table ++ toLittleEndian 3 blocks.length ++ toLittleEndian 3 (blocks.map (·.length)).sum ++ [0] ++
    starts.reverse.flatMap (toLittleEndian 3) ++ blocks.flatten

/-- R491: the body of some blocks of 128 symbols. -/
def vdsBuild (blocks : List (List Int)) : List Nat :=
  let tokens := blocks.map (vdsTokens 0)
  let counts := (List.range 34).map fun t => (tokens.flatten.filter fun x => x.1 == t).length
  let lens := vdsLengths counts
  let codes := vdsCodes lens
  vdsBytes lens (tokens.map fun ts =>
    let bits := ts.flatMap (tokenBits codes)
    packBits (bits.length / 8 + 1) bits)

/-- Cut a list into pieces of `k`. -/
def chunksOf {α : Type} (k : Nat) : Nat → List α → List (List α)
  | 0, _ => []
  | _ + 1, [] => []
  | fuel + 1, l => l.take k :: chunksOf k fuel (l.drop k)

/-- The pieces of `k` of a list. -/
def inChunks {α : Type} (k : Nat) (l : List α) : List (List α) := chunksOf k (l.length / k + 1) l

end Sys2Proof.Machine
end

