-- ==== Sys2Proof/Machine/Engine.lean ====
section
/-! DEFINITION. The analytics engine's arithmetic, model images, overlays and cost model (R453 to R459,
R467, R489). -/

namespace Sys2Proof.Machine

/-! ## Arithmetic (R453, R454) -/

/-- A value held within a signed range of `w` bits, and whether it saturated. -/
def saturate (w : Nat) (i : Int) : Int × Nat :=
  let hi : Int := (2 ^ (w - 1) : Nat)
  if i < -hi then (-hi, 1) else if hi ≤ i then (hi - 1, 1) else (i, 0)

/-- `floor (a × 2 ^ k)`. -/
def scale2 (a : Int) (k : Int) : Int :=
  if 0 ≤ k then a * (2 ^ k.toNat : Nat) else a / (2 ^ (-k).toNat : Nat)

/-- R453: the term of a product of an activation and a bfloat16 weight. -/
def macTerm (a : Int) (w : Nat) : Int :=
  if bfExp w = 0 then 0
  else
    let m : Int := (128 + bfMant w : Nat)
    scale2 (a * (if bfSign w = 1 then -m else m)) ((bfExp w : Int) - 118)

/-- R453: the accumulator after the products in `l`, and its saturations. -/
def accumulate : Int → Nat → List (Int × Nat) → Int × Nat
  | acc, n, [] => (acc, n)
  | acc, n, (a, w) :: rest =>
      let (t, n1) := saturate 48 (macTerm a w)
      let (sum, n2) := saturate 48 (acc + t)
      accumulate sum (n + n1 + n2) rest

/-- R453: the output of an accumulator. A `k` that is not positive shifts left (assumption log 30). -/
def narrow (fin fout : Nat) (acc : Int) : Int × Nat :=
  let k : Int := (fin : Int) + 16 - fout
  saturate 24 (if 0 < k then (acc + (2 ^ (k.toNat - 1) : Nat)) / (2 ^ k.toNat : Nat) else scale2 acc (-k))

/-- `e ^ (-x)` in units of 2⁻⁶⁴, for `x` from 0 to 8 in units of 2⁻²²: a series for x / 256, squared
eight times. -/
def expNeg (x : Nat) : Int :=
  let one : Int := (2 ^ 64 : Nat)
  let y : Int := (x * 2 ^ 34 : Nat)
  let series := (List.range 10).foldr (fun k (acc : Int) => one - y * acc / (one * (k + 1 : Nat))) one
  (List.range 8).foldl (fun (e : Int) _ => e * e / one) series

/-- R454: the exact sigmoid (6) or tanh (7) of `x`, in units of 2 ^ -`f`, to well within the bound. -/
def exactTable (act f : Nat) (x : Int) : Int :=
  let one : Int := (2 ^ 64 : Nat)
  let e := expNeg (x.natAbs * 2 ^ (22 - f))
  let half := if act = 6 then one * one / (one + e) else (one * one - e * e) * one / (one * one + e * e)
  let v := if 0 ≤ x then half else if act = 6 then one - half else -half
  v / (2 ^ (64 - f) : Nat)

/-- R454: a table function. Its value is the device's own within the error the spec bounds. -/
def tableValue (act f : Nat) (x : Int) : Int :=
  let one : Int := (2 ^ f : Nat)
  if x < -8 * one then (if act = 6 then 0 else -one)
  else if 8 * one ≤ x then one
  else
    let v := exactTable act f x
    clampInt (v - one / 4096) (v + one / 4096) (Config.tableFunction act f x)

/-- R454: the activation functions, but for saturation. -/
def activate (act f : Nat) (ap : Nat) (clip x : Int) : Int :=
  let one : Int := (2 ^ f : Nat)
  match act with
  | 1 => max x 0
  | 2 => min (max x 0) clip
  | 3 => if 0 ≤ x then x else x / (2 ^ ap : Nat)
  | 4 => clampInt 0 one (x / 4 + one / 2)
  | 5 => clampInt (-one) one x
  | 6 | 7 => tableValue act f x
  | _ => x

/-! ## Layers (R455, R457) -/

structure Layer where
  kind : Nat
  act : Nat
  srcA : Nat
  srcB : Nat
  cin : Nat
  cout : Nat
  len : Nat
  k : Nat
  stride : Nat
  pad : Nat
  fin : Nat
  fout : Nat
  ap : Nat
  clip : Nat
  first : Nat
  deriving DecidableEq, Repr

def le (bytes : List Nat) (off n : Nat) : Nat := littleEndian ((bytes.drop off).take n)

def imageId (img : List Nat) : Nat := le img 2 3
def imageLayers (img : List Nat) : Nat := img.getD 5 0
def imageBlocks (img : List Nat) : Nat := le img 8 4

def layerBytes (img : List Nat) (l : Nat) : List Nat := (img.drop (64 + 32 * l)).take 32

def layerOf (b : List Nat) : Layer :=
  ⟨b.getD 0 0, b.getD 1 0, b.getD 2 0, b.getD 3 0, le b 4 2, le b 6 2, le b 8 2, b.getD 10 0, b.getD 11 0,
    b.getD 12 0, b.getD 13 0, b.getD 14 0, b.getD 15 0, le b 16 3, le b 20 4⟩

def layerAt (img : List Nat) (l : Nat) : Layer := layerOf (layerBytes img l)

def layersOf (img : List Nat) : List Layer := (List.range (imageLayers img)).map (layerAt img)

def Layer.tiled (y : Layer) : Bool := y.kind == 1 || y.kind == 2

/-- R455: NI. -/
def Layer.ni (y : Layer) : Nat :=
  match y.kind with
  | 1 => y.cin * y.len
  | 2 => y.cin * y.k
  | 5 => y.len
  | 6 => 2
  | _ => y.k

/-- R455: L_out. -/
def Layer.lout (y : Layer) : Nat :=
  match y.kind with
  | 1 | 5 => 1
  | 6 => y.len
  | _ => (y.len + 2 * y.pad - y.k) / y.stride + 1

/-- The channels of the output. -/
def Layer.channels (y : Layer) : Nat := if y.tiled then y.cout else y.cin

/-- The values of the output. -/
def Layer.size (y : Layer) : Nat := y.channels * y.lout

def Layer.inTiles (y : Layer) : Nat := ceilDiv y.ni 32
def Layer.outTiles (y : Layer) : Nat := ceilDiv y.cout 32
def Layer.tiles (y : Layer) : Nat := y.inTiles * y.outTiles
def Layer.biasBlocks (y : Layer) : Nat := ceilDiv y.cout 128

/-- R456: the blocks of a layer. -/
def Layer.blocks (y : Layer) : Nat := if y.tiled then 8 * y.tiles + y.biasBlocks else 0

/-- R467: NE, the input elements read (assumption log 30). -/
def Layer.elements (y : Layer) : Nat := y.ni * y.size

/-! ## The checks of an image (R458) -/

/-- The length, channels and F of source `src` for layer `l`. -/
def sourceShape (ys : List Layer) (src : Nat) : Option (Nat × Nat × Nat) :=
  match ys.head?, ys[src]? with
  | some y, none => if src = 0xFF then some (y.len, y.cin, y.fin) else none
  | _, some y => some (y.lout, y.channels, y.fout)
  | _, _ => none

/-- R457: whether a source is the job input or an earlier layer. -/
def sourceOk (l src : Nat) : Bool := src == 0xFF || decide (src < l)

def within (lo hi n : Nat) : Bool := decide (lo ≤ n) && decide (n ≤ hi)

/-- R457: the form of descriptor `l`, its bytes `b`, among the layers `ys`. -/
def descriptorOk (ys : List Layer) (l : Nat) (b : List Nat) : Bool :=
  let y := layerOf b
  let shape := fun (src : Nat) =>
    match sourceShape ys src with
    | some (len, ch, f) => len == y.len && ch == y.cin && (f == y.fin || src == 0xFF)
    | none => false
  let windowed := decide (2 ≤ y.kind) && decide (y.kind ≤ 4)
  within 1 6 y.kind && within 0 7 y.act && sourceOk l y.srcA && shape y.srcA &&
    (if y.kind = 6 then sourceOk l y.srcB && shape y.srcB else y.srcB == 0) &&
    within 1 4096 y.cin && within 1 4096 y.cout && (y.tiled || y.cout == y.cin) && within 1 4096 y.len &&
    (if windowed then within 1 32 y.k && within 1 8 y.stride && within 0 16 y.pad && decide (y.k ≤ y.len + 2 * y.pad)
      else y.k == 0 && y.stride == 0 && y.pad == 0) &&
    within 0 23 y.fin && within 0 23 y.fout && (decide (y.act < 4) || decide (y.fout ≤ 22)) &&
    (if y.act = 3 then within 1 8 y.ap else y.ap == 0) && (y.act == 2 || y.clip == 0) && b.getD 19 0 == 0 &&
    (!y.tiled || y.first == ((ys.take l).map (·.blocks)).sum) && (b.drop 24).all (· == 0)

/-- R458: the form of an image. -/
def imageFormOk (img : List Nat) : Bool :=
  let ys := layersOf img
  le img 0 2 == 0xC1B1 && imageId img != 0 && within 1 64 ys.length && le img 6 2 == 0 &&
    ((img.drop 12).take 52).all (· == 0) && decide (64 + 32 * ys.length ≤ img.length) &&
    (List.range ys.length).all fun l => descriptorOk ys l (layerBytes img l)

/-- R458: the last layer that reads layer `t`, or `t` itself. -/
def lastUse (ys : List Layer) (t : Nat) : Nat :=
  (List.range ys.length).foldl (fun acc l =>
    match ys[l]? with
    | some y => if y.srcA = t ∨ (y.kind = 6 ∧ y.srcB = t) then max acc l else acc
    | none => acc) t

/-- R458: AE_SCRNEED. -/
def scratchNeed (ys : List Layer) : Nat :=
  ((List.range ys.length).map fun l =>
    ((List.range (l + 1)).map fun t =>
      if l ≤ lastUse ys t then beaBytes ((ys[t]?.map (·.size)).getD 0) else 0).sum).foldl max 0

/-- R458: the size of an image, but for scratch. -/
def imageSizeOk (img : List Nat) : Bool :=
  let ys := layersOf img
  let n := (ys.map (·.blocks)).sum
  decide (img.length ≤ 4194304) && imageBlocks img == n && img.length == 64 + 32 * ys.length + 178 * n

/-! ## Overlays (R459, R489) -/

def overlayId (o : List Nat) : Nat := le o 2 3
def overlayBase (o : List Nat) : Nat := le o 5 3
def overlayMask (o : List Nat) : Nat := le o 8 8
def overlayStep (o : List Nat) (l : Nat) : Nat := le o (32 + 2 * l) 2

/-- The weight blocks of a layer that an overlay may cover. -/
def Layer.weightBlocks (y : Layer) : Nat := if y.tiled then 8 * y.tiles else 0

/-- The covered weight blocks of the first `l` layers. -/
def coveredBlocks (ys : List Layer) (mask l : Nat) : Nat :=
  ((List.range l).map fun i =>
    if bitOf mask i then (ys[i]?.map (·.weightBlocks)).getD 0 else 0).sum

/-- R489: the form of an overlay for a base of these layers. -/
def overlayFormOk (ys : List Layer) (o : List Nat) : Bool :=
  let mask := overlayMask o
  decide (160 ≤ o.length) && le o 0 2 == 0xC1B3 && overlayId o != 0 && ((o.drop 16).take 16).all (· == 0) &&
    (List.range 64).all (fun l =>
      let step := overlayStep o l
      if bitOf mask l then (ys[l]?.map (·.tiled)).getD false && bfExp step != 0 && bfExp step != 255
      else step == 0) &&
    match vdsParse (o.drop 160) with
    | some b => b.index.length == coveredBlocks ys mask 64
    | none => false

/-- R489: the parts of an overlay in force. -/
structure Overlay where
  mask : Nat
  steps : List Nat
  body : VdsBody
  deriving DecidableEq, Repr

def overlayOf (o : List Nat) : Option Overlay :=
  match vdsParse (o.drop 160) with
  | some b => some ⟨overlayMask o, (List.range 64).map (overlayStep o), b⟩
  | none => none

/-- R489: the overlay's block for weight block `b` of layer `l`. -/
def Overlay.index (o : Overlay) (ys : List Layer) (l b : Nat) : Nat := coveredBlocks ys o.mask l + b

def covers (o : Option Overlay) (l : Nat) : Bool := (o.map fun o => bitOf o.mask l).getD false

/-! ## Blocks (R469, R483, R490) -/

/-- Block `b` of an image. -/
def imageBlock (img : List Nat) (b : Nat) : List Nat :=
  (img.drop (64 + 32 * imageLayers img + 178 * b)).take 178

/-- R490: the weights fed from weight block `b` of layer `l`; the status of a block that fails. -/
def fedBlock (img : List Nat) (ys : List Layer) (o : Option Overlay) (l b : Nat) : Except Nat (List Nat) :=
  let block := imageBlock img ((layerAt img l).first + b)
  if !bewValid block then .error 0x96
  else
    let ws := bewDecode block
    match o with
    | some o =>
        if bitOf o.mask l then
          match o.body.block (o.index ys l b) with
          | none => .error 0x95
          | some qs => .ok ((ws.zip qs).map fun p => bfAdd p.1 p.2 (o.steps.getD l 0))
        else .ok ws
    | none => .ok ws

/-- R483: the place of the weight from input `i` to output `j`, as (block of the layer, entry). -/
def Layer.place (y : Layer) (i j : Nat) : Nat × Nat :=
  (8 * (j / 32 * y.inTiles + i / 32) + i % 32 / 4, i % 4 * 32 + j % 32)

/-- The weight from input `i` to output `j`, from the fed blocks of its layer. -/
def Layer.weight (y : Layer) (fed : List (List Nat)) (i j : Nat) : Nat :=
  let (b, e) := y.place i j
  (fed.getD b []).getD e 0

/-! ## Running a layer (R453, R455) -/

/-- The value of input `c` at position `p`, a padding position being zero. -/
def inputAt (cin len : Nat) (a : List Int) (p : Int) (c : Nat) : Int :=
  if p < 0 ∨ (len : Int) ≤ p then 0 else a.getD (p.toNat * cin + c) 0

/-- The inputs of position `p` of a layer, position-major (assumption log 30). -/
def Layer.inputs (y : Layer) (a : List Int) (p : Nat) : List Int :=
  if y.kind = 1 then a
  else
    (List.range (y.cin * y.k)).map fun i =>
      inputAt y.cin y.len a ((p * y.stride : Nat) + (i / y.cin : Nat) - (y.pad : Int)) (i % y.cin)

/-- A layer's output before the activation function, from its inputs `a` and, for ADD, `b`: in units of
2 ^ -(F_in + 16). -/
def Layer.raw (y : Layer) (a b : List Int) (fed bias : List (List Nat)) (p c : Nat) : Int × Nat :=
  let channel := fun (k : Nat) =>
    inputAt y.cin y.len a ((p * y.stride : Nat) + (k : Nat) - (y.pad : Int)) c
  let whole := fun (v : Int) => (v * (65536 : Nat), 0)
  match y.kind with
  | 3 => whole (((List.range y.k).map channel).foldl max (channel 0))
  | 4 => whole ((2 * ((List.range y.k).map channel).sum + y.k) / (2 * y.k : Nat))
  | 5 =>
      let sum := ((List.range y.len).map fun (q : Nat) => inputAt y.cin y.len a (q : Int) c).sum
      whole ((sum * (roundDiv (2 ^ 24) y.len : Nat) + (2 ^ 23 : Nat)) / (2 ^ 24 : Nat))
  | 6 => whole (a.getD (p * y.cin + c) 0 + b.getD (p * y.cin + c) 0)
  | _ =>
      let start := saturate 48 (macTerm (2 ^ y.fin : Nat) ((bias.getD (c / 128) []).getD (c % 128) 0))
      let xs := y.inputs a p
      accumulate start.1 start.2 (xs.zipIdx.map fun (x, i) => (x, y.weight fed i c))

/-- The outputs of a layer, position-major, and its saturations. -/
def Layer.run (y : Layer) (a b : List Int) (fed bias : List (List Nat)) : List Int × Nat :=
  let outs := (List.range y.size).map fun i =>
    let (acc, n) := y.raw a b fed bias (i / y.channels) (i % y.channels)
    let (v, n1) := narrow y.fin y.fout acc
    let (v, n2) := saturate 24 (activate y.act y.fout y.ap (toSigned 24 y.clip) v)
    (v, n + n1 + n2)
  (outs.map (·.1), (outs.map (·.2)).sum)

/-! ## The cost model (R467) -/

/-- The recurrence within a slice: t, dec of the last block, and the uses, newest first. -/
structure Pace where
  t : Nat
  dec : Nat
  uses : List Nat
  deriving DecidableEq, Repr

def Pace.start : Pace := ⟨0, 0, []⟩

/-- One block of coded length giving `d`, in a tile that starts at `start`. -/
def Pace.block (start : Nat) (q : Pace) (d : Nat) : Pace :=
  let dec := max q.dec (q.uses.getD 15 0) + d
  ⟨q.t, dec, (max (max (q.uses.getD 0 0) dec) start + 4) :: q.uses⟩

/-- R467: d of weight block `b` of layer `l`. -/
def blockDelay (ys : List Layer) (o : Option Overlay) (l b : Nat) : Nat :=
  match o with
  | some o =>
      if bitOf o.mask l then
        let j := o.index ys l b
        2 + ceilDiv (o.body.next j - o.body.index.getD j 0) 2
      else 0
  | none => 0

/-- R467: a tile after what went before in its slice. -/
def Pace.tile (ys : List Layer) (o : Option Overlay) (l i : Nat) (q : Pace) : Pace :=
  match ys[l]? with
  | none => q
  | some y =>
      let t := q.t + if i = 0 then 16 + 4 * y.biasBlocks else 0
      let q := (List.range 8).foldl (fun q b => Pace.block t q (blockDelay ys o l (8 * i + b))) { q with t := t }
      { q with t := q.uses.getD 0 0 + y.lout + 34 }

/-- R467: a layer of kind 3 to 6. -/
def Layer.wholeCost (y : Layer) : Nat := 16 + ceilDiv y.elements 32 + 34

end Sys2Proof.Machine
end

