-- ==== Sys2Proof/Machine/Writes.lean ====
section
/-! DEFINITION. Register writes: who may write which field, and the plain write of a slot's fields
(R5, R9, R35, R573). -/

namespace Sys2Proof.Machine

open Reg

/-- R573: the offsets whose RWM fields the side-band never writes. -/
def sideBandNever (off : Nat) : Bool :=
  (decide (0x3000 ≤ off) && decide (off < 0x4000)) ||
  (decide (0x2100 ≤ off) && decide (off < 0x22E0)) ||
  (decide (0x2040 ≤ off) && decide (off < 0x2070)) ||
  [0x2004, 0x200C, 0x2010, 0x40, 0x503C, 0x5040, 0xC03C, 0x11010, 0x1300C, 0x13010, 0x13014].contains off

/-- R76, R86, R573: the RWM fields that go with ring 15. -/
def ring15Field (off : Nat) : Bool :=
  [0x22E0, 0x22E8, 0x22EC, 0x2074, 0x2078].contains off

/-- R573: whether the side-band is steward. -/
def State.steward (s : State) : Bool := s.flag SB_STATUS.STEWARD

/-- R76: whether the side-band owns ring 15. -/
def State.sideBandOwns15 (s : State) : Bool := s.flag QU_R15CTL.OWNER

/-- R35, R573: whether `w` may write an RWM field at `off`. -/
def State.mayRwm (s : State) (w : Writer) (off : Nat) : Bool :=
  match w with
  | .host => !(ring15Field off && off != 0x2078 && (s.sideBandOwns15 || s.ring15.seize))
  | .ring _ => true
  | .sideBand =>
      (ring15Field off && s.sideBandOwns15) ||
        (s.steward && !sideBandNever off && !ring15Field off)

/-- R35: whether `w` may write a field of access code `a` at `off`. The write-once LOCK and the
fields that take an action are judged where they are written. -/
def State.mayWrite (s : State) (w : Writer) (off : Nat) (a : Access) : Bool :=
  match a with
  | .ro => false
  | .wo | .w1c | .rw | .w1 => true
  | .rws => decide (w = Writer.sideBand)
  | .rwm => s.mayRwm w off

/-- The bits of a mask that lie in field `f`. -/
def Field.mask (f : Field) (m : Nat) : Nat := bitsOf m f.lo f.width

/-- R35: the written value `v`, under mask `m`, enters field `fa`. -/
def FieldAcc.write (fa : FieldAcc) (v m : Nat) (s : State) : State :=
  match fa.acc with
  | .w1c => s.set fa.field (s.get fa.field - (s.get fa.field &&& fa.field.mask (v &&& m)))
  | .wo | .ro => s
  | _ => s.set fa.field (bitsOf v fa.field.lo fa.field.width)

/-- R5, R9: the plain write of value `v` to the slot at `off`: the fields that `w` may write take
it; none where a considered field exists and `w` may write none of them. -/
def State.plainWrite (s : State) (w : Writer) (off v m : Nat) : Option State :=
  let considered := (slotFields off).filter fun fa => fa.field.mask m != 0
  let writable := considered.filter fun fa => s.mayWrite w off fa.acc
  if considered.isEmpty then some s
  else if writable.isEmpty then none
  else some (writable.foldl (fun s fa => fa.write v m s) s)

/-- R9: a write whose chapter judges each field on its own: the fields that `w` may write and for which `ok`
holds take the value; none where there is none among those considered. -/
def State.writeWhere (s : State) (ok : Field → Bool) (w : Writer) (off v m : Nat) : Option State :=
  let considered := (slotFields off).filter fun fa => fa.field.mask m != 0
  let writable := considered.filter fun fa => s.mayWrite w off fa.acc && ok fa.field
  if considered.isEmpty then some s
  else if writable.isEmpty then none
  else some (writable.foldl (fun s fa => fa.write v m s) s)

/-- A plain write that its chapter allows only when `ok`. -/
def State.writeIf (s : State) (ok : Bool) (w : Writer) (off v m : Nat) : Option State :=
  if ok then s.plainWrite w off v m else none

/-- The bits of a written value that field `f` takes. -/
def Field.of (f : Field) (v : Nat) : Nat := bitsOf v f.lo f.width

/-- Whether the value written to `f` lies from `lo` to `hi`. -/
def Field.within (f : Field) (v lo hi : Nat) : Bool := decide (lo ≤ f.of v) && decide (f.of v ≤ hi)

end Sys2Proof.Machine
end

