-- ==== Sys2Proof/Machine/Rings.lean ====
section
/-! DEFINITION. The ring unit's registers (R63 to R86): placing the aperture, doorbells, binding,
queue mapping, ring 15 and EVENT_n. -/

namespace Sys2Proof.Machine

open Reg Host

/-- R67: the occupancy of ring `r`. -/
def State.occupancy (s : State) (r : Nat) : Nat :=
  (s.get (QU_TAIL.TAIL r) + 2 ^ 24 - s.get (QU_HEAD.HEAD r)) % 2 ^ 24

/-- R76: whether `w` owns ring `r`. -/
def State.ownsRing (s : State) (w : Writer) (r : Nat) : Bool :=
  match w with
  | .ring _ => false
  | .host => decide (r < 15) || (!s.sideBandOwns15 && !s.ring15.seize)
  | .sideBand => decide (r = 15) && s.sideBandOwns15

/-- R163, R130: a doorbell of a queue-mode ring takes a place of its own in the capture order. -/
def State.bellRung (s : State) (r tail : Nat) : State :=
  let old := ((sparseFind r s.sh.bells).getD []).filter fun b =>
    decide ((b.tail + 2 ^ 24 - s.get (QU_HEAD.HEAD r)) % 2 ^ 24 ≤ 4096) && b.tail != s.get (QU_HEAD.HEAD r)
  { s with sh := { s.sh with
    place := s.sh.place + 1
    bells := sparsePut r (old ++ [⟨tail % 2 ^ 24, s.sh.place, s.now, s.get TM_STATUS.QUAL,
      s.flag SH_STATUS.PDIRTY⟩]) s.sh.bells } }

/-- R68: a write of QU_TAILr; none where it is ignored under R7. A write of the present tail has no effect. -/
def doorbellWrite (w : Writer) (r tail : Nat) (s : State) : Option State :=
  let new := (tail % 2 ^ 24 + 2 ^ 24 - s.get (QU_HEAD.HEAD r)) % 2 ^ 24
  if s.ownsRing w r && !s.resident r && decide (s.occupancy r ≤ new) && decide (new ≤ 4096) then
    if new = s.occupancy r then some s else some ((s.set (QU_TAIL.TAIL r) tail).bellRung r tail)
  else none

/-- R72, R73: a write of QU_MODEr with RES and ENTRY. A ring whose unbinding waits only for its run's end has
no change that a write could cancel. -/
def modeWrite (w : Writer) (r : Nat) (res : Bool) (entry : Nat) (s : State) : Option State :=
  if s.ownsRing w r then
    let s := s.when (!s.resident r) (·.set (QU_MODE.ENTRY r) entry)
    let pend := if res = s.resident r ∨ (s.ring r).leaving = true then none else some (res, writerKind w)
    some (s.setRing r { s.ring r with pend := pend })
  else none

/-- R72, R86: a write of QU_PERr. -/
def periodWrite (w : Writer) (r period : Nat) (s : State) : Option State :=
  if s.ownsRing w r && !s.resident r then some (s.set (QU_PER.PERIOD r) period) else none

/-- R76, R81: whether `w` owns queue `m`. -/
def State.ownsQueue (s : State) (w : Writer) (m : Nat) : Bool :=
  match w with
  | .ring _ => false
  | .host => decide (m < 3) || (!s.sideBandOwns15 && !s.ring15.seize)
  | .sideBand => decide (m = 3) && s.sideBandOwns15

/-- R81, R83, R85: a write of QU_CQHEADm. -/
def cqHeadWrite (w : Writer) (m head : Nat) (s : State) : Option State :=
  let freed := (head % 2 ^ 24 + 2 ^ 24 - s.get (QU_CQHEAD.HEAD m)) % 2 ^ 24
  if s.ownsQueue w m && decide (freed ≤ s.cqUsed m) then
    let s := s.set (QU_CQHEAD.HEAD m) head
    let s := s.setQueue m { s.queue m with posted := (s.queue m).posted.drop freed }
    some ((s.cqRelieve m).cqEvaluate m)
  else none

/-- R77: whether a written map would newly map a ring to CQ3. -/
def newlyMaps3 (n old new : Nat) : Bool :=
  (List.range n).any fun i => bitsOf new (2 * i) 2 == 3 && bitsOf old (2 * i) 2 != 3

/-- R77, R78, R86: a write of QU_CQMAPL or QU_CQMAPH. -/
def cqMapWrite (w : Writer) (high : Bool) (map : Nat) (s : State) : Option State :=
  let f := if high then QU_CQMAPH.MAP else QU_CQMAPL.MAP
  let n := if high then 7 else 8
  if w = Writer.host ∧ ¬ (s.sideBandOwns15 ∧ newlyMaps3 n (s.get f) map) then some (s.set f map) else none

/-- R9, R86, R87: a write of QU_CQIRQm. A COUNT above 1,024 is ignored. -/
def cqIrqWrite (w : Writer) (m v : Nat) (s : State) : Option State :=
  let may := match w with
    | .host => true
    | .sideBand => decide (m = 3) && s.sideBandOwns15
    | .ring _ => false
  if may then
    some ((s.when (decide ((QU_CQIRQ.COUNT m).of v ≤ 1024)) (·.set (QU_CQIRQ.COUNT m) ((QU_CQIRQ.COUNT m).of v))).set
      (QU_CQIRQ.AGE m) ((QU_CQIRQ.AGE m).of v))
  else none

/-- R86, R87: a write of QU_EVENA. The CQ3 bit is the side-band's while it owns ring 15. -/
def evenaWrite (w : Writer) (v : Nat) (s : State) : Option State :=
  let cq3 := bitOf v 23
  match w with
  | .host =>
      let keep := bitOf (s.get QU_EVENA.CQ) 3
      let s := (s.set QU_EVENA.UNIT (QU_EVENA.UNIT.of v)).set QU_EVENA.CQ (QU_EVENA.CQ.of v)
      some (s.when s.sideBandOwns15 (·.setMaskBit QU_EVENA.CQ 3 keep))
  | .sideBand => if s.sideBandOwns15 then some (s.setMaskBit QU_EVENA.CQ 3 cq3) else none
  | .ring _ => none

/-- R84: a W1C write of QU_EVPEND. -/
def evpendWrite (w : Writer) (bits : Nat) (s : State) : Option State :=
  match w with
  | .ring _ => none
  | _ =>
      let s := s.set QU_EVPEND.UNIT (s.get QU_EVPEND.UNIT - (s.get QU_EVPEND.UNIT &&& QU_EVPEND.UNIT.of bits))
      some (s.set QU_EVPEND.CQ (s.get QU_EVPEND.CQ - (s.get QU_EVPEND.CQ &&& QU_EVPEND.CQ.of bits)))

/-- R76: ring 15 rests: queue mode, head equal to tail, no completion outstanding. -/
def State.ring15Rests (s : State) : Bool :=
  !s.resident 15 && decide (s.occupancy 15 = 0) && decide (s.get (QU_OUT.OUT 15) = 0)

/-- R76: the conditions of a GIVE. -/
def State.giveHolds (s : State) : Bool :=
  !s.sideBandOwns15 && s.ring15Rests && (List.range 15).all (fun r => s.cqOf r != 3) &&
    decide (s.cqUsed 3 = 0)

/-- R76: the conditions of a RETURN. -/
def State.returnHolds (s : State) : Bool := s.sideBandOwns15 && s.ring15Rests

def giveWrite (w : Writer) (s : State) : Option State :=
  if w = Writer.host ∧ s.giveHolds = true ∧ s.ring15.seize = false then
    some { s with ring15 := { s.ring15 with give := true } }
  else none

def returnWrite (w : Writer) (s : State) : Option State :=
  if w = Writer.sideBand ∧ s.returnHolds = true then
    some { s with ring15 := { s.ring15 with giveBack := true } }
  else none

/-- R9, R76, R87: a write of QU_R15CTL: a violation where neither field is writable by `w` now. -/
def r15ctlWrite (w : Writer) (v : Nat) (s : State) : Option State :=
  match giveWrite w s, returnWrite w s with
  | none, none => none
  | some t, _ => some (if QU_R15CTL.GIVE.of v = 1 then t else s)
  | _, some t => some (if QU_R15CTL.RETURN.of v = 1 then t else s)

/-- R118: the configured DRAM capacity in bytes. -/
def State.dramBytes (s : State) : Nat := s.get HP_CONFIG.GIB * 2 ^ 30

/-- R151, R152: the regions defined, as (first byte, bytes, number). -/
def State.regionSpan (s : State) (k : Nat) : Nat × Nat :=
  (s.get (SH_RG_A.START k) * 65536, s.get (SH_RG_B.COUNT k) * 65536)

/-- R64: whether region `k` is persistent or save-only. -/
def State.regionKept (s : State) (k : Nat) : Bool :=
  s.flag (SH_RG_A.VALID k) && (s.get (SH_RG_A.KIND k) == 1 || s.get (SH_RG_A.KIND k) == 2)

/-- Whether `n` bytes from `a` meet `m` bytes from `b`. -/
def spansMeet (a n b m : Nat) : Bool := decide (a < b + m) && decide (b < a + n)

/-- R64: the MiB at BASE lies inside the capacity and clear of every persistent or save-only region. -/
def State.apertureFits (s : State) (base : Nat) : Bool :=
  decide (base * 2 ^ 20 + 2 ^ 20 ≤ s.dramBytes) &&
    (List.range 64).all fun k =>
      !(s.regionKept k && spansMeet (base * 2 ^ 20) (2 ^ 20) (s.regionSpan k).1 (s.regionSpan k).2)

/-- R63, R64: BASE is written while the aperture is closed. -/
def apertureBaseWrite (w : Writer) (part v : Nat) (s : State) : Option State :=
  let old := s.get QU_APCTL.BASE
  let new := match part with
    | 0 => old / 256 * 256 + v % 256
    | 1 => v % 256 * 256 + old % 256
    | _ => v % 65536
  match w with
  | .ring _ => none
  | _ => if s.flag QU_APCTL.EN && new != old then none else some (s.set QU_APCTL.BASE new)

/-- R64: EN opens or closes the aperture. -/
def apertureEnableWrite (w : Writer) (en : Bool) (s : State) : Option State :=
  match w with
  | .ring _ => none
  | _ => if en && !s.apertureFits (s.get QU_APCTL.BASE) then none else some (s.setFlag QU_APCTL.EN en)

/-- R9, R63, R64, R87: the side-band's write of the QU_APCTL slot, whose fields are RWS. With EN 0 BASE is
written, and a new EN is judged against it; with EN 1 BASE is not. An EN that R64 refuses is ignored. -/
def apctlWrite (w : Writer) (v : Nat) (s : State) : Option State :=
  match w with
  | .sideBand =>
      let open_ := s.flag QU_APCTL.EN
      let t := s.when (!open_) (·.set QU_APCTL.BASE (QU_APCTL.BASE.of v))
      match apertureEnableWrite w (QU_APCTL.EN.of v == 1) t with
      | some u => some u
      | none => if open_ then none else some t
  | _ => none

/-- R86: a write of value `v` to the ring unit's slot at block offset `o`. -/
def quWrite (w : Writer) (o v m : Nat) (s : State) : Option State :=
  match w with
  | .ring _ => none
  | _ =>
    if o = 0x000 then apctlWrite w v s
    else if o = 0x004 then evenaWrite w v s
    else if o = 0x008 then evpendWrite w (v &&& m) s
    else if o = 0x00C then cqMapWrite w false v s
    else if o = 0x010 then cqMapWrite w true v s
    else if o = 0x014 then r15ctlWrite w v s
    else if 0x040 ≤ o ∧ o < 0x080 ∧ o % 16 = 4 then cqHeadWrite w ((o - 0x40) / 16) v s
    else if 0x040 ≤ o ∧ o < 0x080 ∧ o % 16 = 8 then cqIrqWrite w ((o - 0x40) / 16) v s
    else if 0x100 ≤ o ∧ o < 0x300 ∧ o % 32 = 0 then doorbellWrite w ((o - 0x100) / 32) v s
    else if 0x100 ≤ o ∧ o < 0x300 ∧ o % 32 = 8 then
      modeWrite w ((o - 0x100) / 32) (bitOf v 14) (v % 2 ^ 14) s
    else if 0x100 ≤ o ∧ o < 0x300 ∧ o % 32 = 12 then periodWrite w ((o - 0x100) / 32) (v % 65536) s
    else s.plainWrite w (0x2000 + o) v m

def doorbell (w : Writer) (r tail : Nat) (s : State) : State :=
  s.rowWrite w (0x2100 + 32 * r) (doorbellWrite w r tail s)

def execDoorbell (w : Writer) (ring tail : Nat) (s : State) : Outcome State Fault Refusal :=
  .next (doorbell w ring tail s)

def execResidentBind (w : Writer) (ring entry : Nat) (s : State) : Outcome State Fault Refusal :=
  .next (s.rowWrite w (0x2108 + 32 * ring) (modeWrite w ring true entry s))

def execResidentUnbind (w : Writer) (ring entry : Nat) (s : State) : Outcome State Fault Refusal :=
  .next (s.rowWrite w (0x2108 + 32 * ring) (modeWrite w ring false entry s))

def execCqHeadWrite (w : Writer) (m head : Nat) (s : State) : Outcome State Fault Refusal :=
  .next (s.rowWrite w (0x2044 + 16 * m) (cqHeadWrite w m head s))

def execCqMapWrite (w : Writer) (high : Bool) (map : Nat) (s : State) : Outcome State Fault Refusal :=
  .next (s.rowWrite w (if high then 0x2010 else 0x200C) (cqMapWrite w high map s))

def execRing15Give (w : Writer) (s : State) : Outcome State Fault Refusal :=
  .next (s.rowWrite w 0x2014 (r15ctlWrite w 1 s))

def execRing15Return (w : Writer) (s : State) : Outcome State Fault Refusal :=
  .next (s.rowWrite w 0x2014 (r15ctlWrite w 2 s))

def execEvpendClear (w : Writer) (bits : Nat) (s : State) : Outcome State Fault Refusal :=
  .next (s.rowWrite w 0x2008 (evpendWrite w bits s))

def execApertureBaseWrite (w : Writer) (part v : Nat) (s : State) : Outcome State Fault Refusal :=
  .next (s.rowWrite w 0x2000 (apertureBaseWrite w part v s))

def execApertureEnableWrite (w : Writer) (en : Bool) (s : State) : Outcome State Fault Refusal :=
  .next (s.rowWrite w 0x2000 (apertureEnableWrite w en s))

/-! ## What the tick edge judges (R72, R73, R76) -/

/-- R110: the descriptor of the loaded program whose first word is at `addr`. -/
def State.programAt (s : State) (addr : Nat) : Option Nat :=
  (List.range 32).find? fun k => s.flag (SY_PG_A.VALID k) && s.get (SY_PG_A.ADDR k) == addr

/-- R46: S_r of ring `r` from the committed share. -/
def State.shareCycles (s : State) (r : Nat) : Nat :=
  s.get TK_CYCLES.CYCLES * s.get (TK_SHARE.SHARE r) / 1000

/-- R116: BOUND of descriptor `k` shows whether any ring is bound to it. -/
def State.showBound (s : State) (k : Nat) : State :=
  s.setFlag (SY_PG_A.BOUND k) ((List.range 16).any fun r => s.resident r && (s.ring r).prog == k)

/-- R72: the descriptor ring `r` may be bound to at this edge. -/
def State.bindTarget (s : State) (r : Nat) : Option Nat :=
  match s.programAt (s.get (QU_MODE.ENTRY r)) with
  | some k =>
      if !s.resident r && decide (s.occupancy r = 0) && s.flag (QU_PER.PERIOD r) &&
          decide (s.get (SY_PG_C.WCOST k) ≤ s.shareCycles r) then some k
      else none
  | none => none

/-- R73: ring `r` returns to queue mode. -/
def State.unbind (s : State) (r : Nat) : State :=
  let k := (s.ring r).prog
  let s := (s.setRing r { s.ring r with leaving := false }).set (QU_MODE.RES r) 0
  (s.showBound k).raise 0x104 r 0 (s.get (QU_MODE.ENTRY r))

/-- R72: the violation of ring `r`'s pending bind at this edge, if it is refused. -/
def State.bindRefusal (s : State) (r : Nat) : Option Violation :=
  match (s.ring r).pend with
  | some (true, kind) => if (s.bindTarget r).isNone then some ⟨kind, 1, 0x2108 + 32 * r⟩ else none
  | _ => none

/-- R72, R73: the pending bind or unbind of ring `r` is judged at a tick edge. A run in progress at an unbind
finishes first, and the ring is unbound as it ends. -/
def State.applyMode (s : State) (r : Nat) : State :=
  match (s.ring r).pend with
  | none => s
  | some (true, _) =>
      let s := s.setRing r { s.ring r with pend := none }
      match s.bindTarget r with
      | some k =>
          let s := s.set (QU_MODE.RES r) 1
          let s := s.setRing r { s.ring r with bindTick := s.tickCount, prog := k, pc := s.get (QU_MODE.ENTRY r) }
          (s.showBound k).raise 0x104 r 1 (s.get (QU_MODE.ENTRY r))
      | none => s
  | some (false, _) =>
      let s := s.setRing r { s.ring r with pend := none }
      if (s.ring r).run.isSome then s.setRing r { s.ring r with leaving := true } else s.unbind r

/-- R76: what a tick edge does with the pending change of ring 15's owner, where one is pending: the new owner and the
cause, or the violation of one whose conditions fail. Stewardship governs a GIVE. -/
def State.judgeRing15 (s : State) : Option (Except Violation (Nat × Nat)) :=
  if s.ring15.seize then some (.ok (1, 2))
  else if s.ring15.give then some (if s.giveHolds then .ok (1, 1) else .error ⟨1, 1, 0x2014⟩)
  else if s.ring15.giveBack then some (if s.returnHolds then .ok (0, 3) else .error ⟨2, 1, 0x2014⟩)
  else none

/-- R76: ring 15 passes to `owner`; a seizure shows as one until the ring is returned. -/
def State.passRing15 (s : State) (owner cause : Nat) : State :=
  let s := s.set QU_R15CTL.OWNER owner
  if cause = 1 then s else s.set QU_R15CTL.SEIZED (boolNat (cause == 2))

/-- R72, R73, R76: the edge judges every ring's pending mode, and then ring 15's owner. The event of the owner has the
lower code and so the lower number (R331). The refusals of the edge's cycle, `late` among them, are counted together
(R12). -/
def State.judgeTick (s : State) (late : List Violation) : State :=
  let modes := fun (s : State) => (List.range 16).foldl State.applyMode s
  let binds := late ++ (List.range 16).filterMap s.bindRefusal
  let s := match (modes s).judgeRing15 with
    | some (.ok (owner, cause)) =>
        ((modes (s.raise 0x103 owner cause (s.get (QU_HEAD.HEAD 15)))).passRing15 owner cause).violations binds
    | some (.error v) => (modes s).violations (binds ++ [v])
    | none => (modes s).violations binds
  { s with ring15 := ⟨false, false, false⟩ }

end Sys2Proof.Machine
end

