-- ==== Sys2Proof/Machine/Operands.lean ====
section
/-! DEFINITION. The operand forms of the instruction words (R89, R93 to R103) and the staging areas
that operands name (R28). -/

namespace Sys2Proof.Machine

open Reg

/-- R104: the issue costs of opcodes 0x10 to 0x3F. -/
def unitCosts : List Nat :=
  [120, 80, 60, 60, 400, 160, 160, 240, 1500, 200, 600, 400, 400, 200, 300, 120,
   300, 120, 900, 100, 2800, 2600, 1200, 300, 240, 400, 600, 400, 300, 1000, 200, 160,
   3200, 4800, 2000, 1600, 60, 1200, 1200, 800, 600, 600, 600, 400, 80, 80, 1700, 20]

def unitCost (opcode : Nat) : Nat := unitCosts.getD (opcode - 0x10) 0

/-- R94, R105: the worst-case cost of core opcode `opcode` with `ext` extension words, its form
matching or not. -/
def coreCost (opcode ext : Nat) (form : Bool) : Nat :=
  if form then
    match opcode with
    | 0x00 => 4
    | 0x01 | 0x02 | 0x03 | 0x04 | 0x05 | 0x06 | 0x07 => if ext = 0 then 4 else 6
    | 0x08 => 6
    | 0x09 => 8
    | 0x0A => 6
    | 0x0B => 10
    | 0x0C | 0x0D => 20
    | 0x0E => 24
    | _ => if ext = 2 then 32 else 28
  else
    match opcode with
    | 0x00 => 4
    | 0x09 => 8
    | 0x0B => 10
    | 0x0C | 0x0D => 20
    | 0x0E => 24
    | 0x0F => 32
    | _ => 6

/-- A field read as signed. -/
def imm9Signed (n : Nat) : Int := toSigned 9 n

/-- R93: whether the fields of a second operand are those of one of its three forms. -/
def Op.formB (op : Op) : Bool :=
  match op.ext with
  | [] => if op.imm9 / 256 % 2 = 0 then decide (op.imm9 % 256 = 0) else decide (op.src = 0)
  | [_] => decide (op.src = 0) && decide (op.imm9 = 0)
  | _ => false

/-- R93: the second operand B. -/
def State.operandB (s : State) (op : Op) : Nat :=
  match op.ext with
  | [] => if op.imm9 / 256 % 2 = 0 then s.greg op.ring op.src else op.imm9 % 256
  | w :: _ => w.toNat

/-- R94 to R103: whether the fields match a form of core opcode `opcode`. -/
def Op.coreForm (op : Op) (opcode : Nat) : Bool :=
  let n := op.ext.length
  match opcode with
  | 0x00 => n == 0 && op.dst == 0 && op.src == 0 && op.imm9 == 0
  | 0x01 => (n == 0 && op.src == 0) || (n == 1 && op.src == 0 && op.imm9 == 0)
  | 0x02 | 0x03 | 0x04 | 0x05 | 0x06 | 0x07 => op.formB
  | 0x08 => n == 0 && op.src == 0
  | 0x09 =>
      n == 1 && decide (op.dst < 4) && op.src == 0 && decide (op.imm9 / 256 = 1) &&
        decide (op.word 1 / 256 = 0) && op.word 1 != 0
  | 0x0A => op.dst == 0 && op.src == 0 && (n == 0 || (n == 1 && op.imm9 == 0))
  | 0x0B => n == 1 && op.src == 0 && decide (op.word 1 / 2 ^ 12 = 0)
  | 0x0C => op.dst == 0 && op.formB
  | 0x0D => n == 0 && op.dst == 0 && op.src == 0 && op.imm9 == 0
  | 0x0E => n == 0 || (n == 1 && op.src == 0 && op.imm9 == 0 && decide (op.word 1 < 2 ^ 18))
  | 0x0F =>
      n == 0 || ((n == 1 || n == 2) && op.dst == 0 && op.imm9 == 0 && decide (op.word 1 < 2 ^ 18))
  | _ => false

/-- R102: the slot index RDREG reads. -/
def State.rdIndex (s : State) (op : Op) : Nat :=
  match op.ext with
  | [] => ofSigned 18 ((s.greg op.ring op.src : Int) + imm9Signed op.imm9)
  | w :: _ => w.toNat % 2 ^ 18

/-- R103: the slot index WRREG writes. -/
def State.wrIndex (s : State) (op : Op) : Nat :=
  match op.ext with
  | [] => ofSigned 18 ((s.greg op.ring op.dst : Int) + imm9Signed op.imm9)
  | w :: _ => w.toNat % 2 ^ 18

/-- R103: the mask of a WRREG: all bits but for EXT 2. -/
def Op.wrMask (op : Op) : Nat :=
  match op.ext with
  | [_, m] => m.toNat
  | _ => 2 ^ 24 - 1

/-! ## Staging areas (R28) -/

def cmdBuffer : Nat := 0x100000
def rspBuffer : Nat := 0x110000
def mcStaging : Nat := 0x94000
def uaStaging : Nat := 0xA4000
def aeStaging : Nat := 0xB4000
def pkgStaging : Nat := 0xD4000
def genStaging : Nat := 0xF4000

def mcStagingBytes : Nat := 49152
def uaStagingBytes : Nat := 49152
def aeStagingWords : Nat := 32768
def pkgStagingBytes : Nat := 98304
def genStagingBytes : Nat := 36864
def genStagingWords : Nat := 12288

/-- A range of `n` units from `first` that lies wholly inside an area of `cap`. -/
def rangeInside (first n cap : Nat) : Bool := decide (first + n ≤ cap)

/-- R89: the OPCODE of an instruction word. -/
def opcodeOf (w : Nat) : Nat := bitsOf w 18 6

/-- R89: the number of extension words of an instruction word. -/
def extOf (w : Nat) : Nat := bitsOf w 15 3

/-- R89: the fields of an instruction word with its extension words. -/
def decodeOp (ring w : Nat) (ext : List Nat) : Op :=
  ⟨ring, bitsOf w 12 3, bitsOf w 9 3, bitsOf w 0 9, ext.map (BitVec.ofNat 24)⟩

end Sys2Proof.Machine
end

