-- ==== Sys2Proof/Machine/Image.lean ====
section
/-! DEFINITION. The content of the DRAM and of a base image (R125, R136, R150, R221): bytes by module
address, check bytes by beat, and filled ranges. -/

namespace Sys2Proof.Machine

def Fill.covers (f : Fill) (a : Nat) : Bool := decide (f.first ≤ a) && decide (a < f.first + f.len)

/-- The newest fill that covers byte `a`. -/
def Image.fillAt (m : Image) (a : Nat) : Option Fill := m.fills.find? (·.covers a)

/-- What an unlisted byte holds: zero, or after a rail start without a scrub a value no rule fixes. -/
def Image.defaultByte (m : Image) (a : Nat) : Nat :=
  match m.fillAt a with
  | some ⟨_, _, none, g⟩ => Config.memoryByte g a % 256
  | _ => 0

/-- Whether an unlisted byte is known to be zero. -/
def Image.zeroByDefault (m : Image) (a : Nat) : Bool :=
  match m.fillAt a with
  | some ⟨_, _, none, _⟩ => false
  | _ => true

def Image.byte (m : Image) (a : Nat) : Nat :=
  match sparseFind a m.cells with
  | some v => v.toNat
  | none => m.defaultByte a

/-- The check byte of an unlisted beat `b`, where a rule fixes it. -/
def Image.knownCheck (m : Image) (b : Nat) : Option Byte :=
  match m.fillAt (8 * b) with
  | some ⟨_, _, none, _⟩ => none
  | some ⟨_, _, some p, _⟩ => some (BitVec.ofNat 8 p)
  | none => some 0

/-- The check byte of the beat at beat number `b` (byte address / 8). -/
def Image.check (m : Image) (b : Nat) : Nat :=
  match sparseFind b m.checks with
  | some v => v.toNat
  | none =>
      match m.fillAt (8 * b) with
      | some ⟨_, _, none, g⟩ => Config.memoryCheck g b % 256
      | some ⟨_, _, some p, _⟩ => p % 256
      | none => 0

/-- Byte `a` takes `v`; a zero where zero is the default leaves nothing listed. -/
def Image.write (m : Image) (a v : Nat) : Image :=
  if v % 256 = 0 ∧ m.zeroByDefault a = true then { m with cells := sparseDrop a m.cells }
  else { m with cells := sparsePut a (BitVec.ofNat 8 v) m.cells }

/-- The check byte of beat `b` takes `v`; what an unlisted beat reads as leaves nothing listed. -/
def Image.writeCheck (m : Image) (b v : Nat) : Image :=
  if m.knownCheck b = some (BitVec.ofNat 8 v) then { m with checks := sparseDrop b m.checks }
  else { m with checks := sparsePut b (BitVec.ofNat 8 v) m.checks }

/-- The canonical form: addresses strictly rising, and no entry that reads as an unlisted one would. -/
def Image.wf (m : Image) : Bool :=
  sparseWf (fun a => if m.zeroByDefault a then some 0 else none) (m.cells.map fun c => (c.1, some c.2)) &&
    sparseWf m.knownCheck (m.checks.map fun c => (c.1, some c.2))

/-- Bytes at their addresses. -/
def Image.writes (m : Image) : List (Nat × Nat) → Image
  | [] => m
  | (a, v) :: rest => (m.write a v).writes rest

/-- The range from `first` of `len` bytes is filled; a fill that lies inside it is forgotten. -/
def Image.fill (m : Image) (f : Fill) : Image :=
  { cells := m.cells.filter fun c => !f.covers c.1
    checks := m.checks.filter fun c => !f.covers (8 * c.1)
    fills := f :: m.fills.filter fun g => !(decide (f.first ≤ g.first) && decide (g.first + g.len ≤ f.first + f.len)) }

def Image.read (m : Image) (a n : Nat) : List Nat := (List.range n).map fun i => m.byte (a + i)

/-- Whether the 4 KiB page `p` holds only zeros. -/
def Image.zeroPage (m : Image) (p : Nat) : Bool :=
  !(m.cells.any fun c => decide (c.1 / 4096 = p) && c.2 != 0) && m.zeroByDefault (4096 * p)

/-- The bytes of page `p` that are not zero, over `l`. -/
def Image.listPage (m : Image) (l : Sparse Byte) (p : Nat) : Sparse Byte :=
  (List.range 4096).foldl (fun l i => sparseStore 0 (4096 * p + i) (BitVec.ofNat 8 (m.byte (4096 * p + i))) l) l

/-- The bytes of the pages in `ps` that are not zero. -/
def Image.pageCells (m : Image) (ps : List Nat) : Sparse Byte :=
  (ps.filter fun p => !m.zeroByDefault (4096 * p)).foldl m.listPage
    (m.cells.filter fun c => ps.contains (c.1 / 4096))

/-- A rising list of numbers with `n` in it. -/
def insertNat (n : Nat) : List Nat → List Nat
  | [] => [n]
  | m :: rest => if n < m then n :: m :: rest else if n = m then m :: rest else m :: insertNat n rest

/-- R125: the check byte the device computes for eight data bytes, bit `k` of which takes column `k`
in MODE 1. -/
def checkByte (pat mode : Nat) (col : Nat → Nat) (data : List Nat) : Nat :=
  if mode = 1 then
    (List.range 64).foldl (fun c k => if bitOf (data.getD (k / 8) 0) (k % 8) then c ^^^ col k else c) pat
  else pat

open Reg in
/-- R125: the device's check byte for eight data bytes. -/
def State.checkOf (s : State) (data : List Nat) : Nat :=
  checkByte (s.get HP_CHKPAT.PAT) (s.get HP_ECCCTL.MODE) (fun k => s.get (HP_ECCCOL.COL k)) data

end Sys2Proof.Machine
end

