-- ==== Sys2Proof/Machine/Monitors.lean ====
section
/-! DEFINITION. The window monitors, the main converter and the fault log (R262 to R284). -/

namespace Sys2Proof.Machine

open Reg Host

/-! ## Power states as other units ask for them (R20, R260) -/

def dormant : Nat := 1
def saved : Nat := 2
def standby : Nat := 3
def active : Nat := 4
def quiet : Nat := 5
def maint : Nat := 6
def saving : Nat := 7
def restoring : Nat := 8
def latched : Nat := 9

def State.power (s : State) : Nat := s.get PW_STATE.STATE

/-- Whether the power state is one of `l`. -/
def State.powerIn (s : State) (l : List Nat) : Bool := l.contains s.power

/-- R237: the running-set states. -/
def State.runningSet (s : State) : Bool := s.powerIn [standby, active, quiet, maint, saving, restoring]

/-! ## Channels -/

/-- R267, R268, R269, R286: the mode code in force on channel `n`. That of a rail still stopping keeps MODE; step 3
of R242 is read to end at OFFTO, as the rail is stuck, not when its DIS ends (assumption log 108). -/
def State.channelMode (s : State) (n : Nat) : Nat :=
  if s.power = 0 then 0
  else if n = 13 then if s.runningSet then 2 else 0
  else if n = 12 then if s.runningSet then 2 else if s.power = latched then 3 else 4
  else if (sparseFind n s.mn.portForce).isSome then 1
  else if s.runningSet || (decide (n < 12) && s.get (PW_RAIL_C.STATE n) == 5) then s.get (MN_CH_A.MODE n)
  else if 17 ≤ n ∧ n ≤ 21 then
    if n = 18 ∨ n = 19 ∨ (s.power ≠ dormant ∧ n ≠ 21) then 4 else 0
  else s.get (MN_CH_A.LPMODE n)

/-- A flag mask of 32 channels over its two registers. -/
def State.channelBit (s : State) (f0 f1 : Field) (n : Nat) : Bool :=
  if n < 24 then s.maskBit f0 n else s.maskBit f1 (n - 24)

def State.setChannelBit (s : State) (f0 f1 : Field) (n : Nat) (b : Bool) : State :=
  if n < 24 then s.setMaskBit f0 n b else s.setMaskBit f1 (n - 24) b

/-- The flag of channel `n`: 0 IN, 1 LOW, 2 HIGH. -/
def State.channelFlag (s : State) (n : Nat) : Nat :=
  if s.channelBit MN_LOW0.CH MN_LOW1.CH n then 1
  else if s.channelBit MN_HIGH0.CH MN_HIGH1.CH n then 2 else 0

/-- R264, R268: HYS in force on channel `n`, in codes. -/
def State.hysteresis (s : State) (n : Nat) : Nat := if n = 13 then 4 else s.get (MN_CH_A.HYS n)

/-- R268, R269, R286: DGL in force on channel `n`. -/
def State.deglitch (s : State) (n : Nat) : Nat :=
  if n = 12 then 49
  else if n = 13 ∨ (sparseFind n s.mn.portForce).isSome = true then 9
  else s.get (MN_CH_A.DGL n)

/-- What the sequencer holds of rail `n`. -/
def State.rail (s : State) (n : Nat) : Rail := (sparseFind n s.pw.rails).getD Rail.idle

def State.setRail (s : State) (n : Nat) (x : Rail) : State :=
  { s with pw := { s.pw with rails := sparseStore Rail.idle n x s.pw.rails } }

/-- R258: the percentage of a margin step code. -/
def marginPct (step : Nat) : Int :=
  match step with
  | 1 => 5 | 2 => 10 | 3 => -5 | 4 => -10 | _ => 0

/-- R242, R257: whether rail `n` is in its stop, which ends at its step 2 or its step 3. -/
def State.railFalling (s : State) (n : Nat) : Bool := s.get (PW_RAIL_C.STATE n) == 5

/-- R250, R251: the margin step whose window is in force on rail `n`, in percent. -/
def State.railMargin (s : State) (n : Nat) : Int :=
  match sparseFind n s.pw.returning with
  | some (step, _) => marginPct step
  | none =>
  match (List.range 4).find? fun m => s.get (PW_MG.RAIL m) == n && s.get (PW_MG.STEP m) != 0 with
  | some m => marginPct (s.get (PW_MG.STEP m))
  | none => 0

/-- R270: a threshold moved by `p` percent. -/
def moved (c : Nat) (p : Int) : Nat := roundDiv (c * (100 + p).toNat) 100

/-- R255, R270: the thresholds in force on channel `n`, (low, high). A stop goes by the OFFPCT it began with. -/
def State.thresholds (s : State) (n : Nat) : Nat × Nat :=
  let lo := s.get (MN_CH_B.LO n)
  let hi := s.get (MN_CH_B.HI n)
  if n = 12 then (roundDiv (s.get SV_WARN.WARN * 512) 1000, hi)
  else if n = 13 then (435, 1023)
  else
    match sparseFind n s.mn.portForce with
    | some t => t
    | none =>
        if n < 12 then
          if s.railFalling n then
            (s.get (MN_CH_C.NOM n) * (s.rail n).offpct / 100, hi)
          else (moved lo (s.railMargin n), min 1023 (moved hi (s.railMargin n)))
        else (lo, hi)

/-- R270: MN_CHn_D shows the thresholds in force. -/
def State.retune (s : State) (n : Nat) : State :=
  (s.set (MN_CH_D.LO n) (s.thresholds n).1).set (MN_CH_D.HI n) (s.thresholds n).2

/-- R264, R268: VM12 follows SV_WARN and SV_ARMCFG.HYST. -/
def State.retuneVin (s : State) : State :=
  ((s.set (MN_CH_A.HYS 12) (roundDiv (s.get SV_ARMCFG.HYST * 256) 100)).set (MN_CH_B.LO 12)
    (s.thresholds 12).1).retune 12

/-! ## The converter -/

/-- R273, R274: MN_VALi of a reading. Inputs 32 to 34 are nodes of 1.25 V full scale, in mV; their rounding is the
model's (assumption log 85). -/
def State.converted (s : State) (i : Nat) (raw : Int) : Int :=
  if i < 32 ∧ i ≠ 22 then (raw * (s.get (MN_CH_E.GAIN i) : Int) + 32768) / 65536
  else if 32 ≤ i ∧ i ≤ 34 then (raw * 1250 + 16384) / 32768
  else Config.converterValue i raw

/-- R273: whether `codes` are the conversions of one reading. -/
def State.oneReading (s : State) (codes : List Int) : Bool := codes.length == 2 ^ s.get MN_SCAN.AVG

/-- R275: a conversion on demand delays the scan that runs by one reading. -/
def State.delayScan (s : State) : State :=
  if s.clock < s.mn.scanEnd then
    { s with mn := { s.mn with scanEnd := s.mn.scanEnd + 100 * 2 ^ s.get MN_SCAN.AVG } }
  else s

/-- R273: input `i` reads the mean of the conversions `codes`, each held at full scale, truncated toward zero. -/
def State.reading (s : State) (i : Nat) (codes : List Int) : State :=
  let raw := Int.tdiv (codes.map (clampInt (-32768) 32767)).sum codes.length
  let s := (s.setS (MN_RAW.RAW i) raw).setS (MN_VAL.VAL i) (s.converted i raw)
  { s with mn := { s.mn with readAt := sparsePut i s.clock s.mn.readAt } }

/-- R274: a rail's reading in units of 10 mV, truncated. -/
def State.railReading (s : State) (k : Nat) : Nat := ofSigned 12 (Int.tdiv (s.getS (MN_VAL.VAL k)) 10)

/-- R21: that reading as a 24-bit result, sign-extended. -/
def State.railResult (s : State) (k : Nat) : Nat := ofSigned 24 (toSigned 12 (s.railReading k))

/-! ## The fault log -/

/-- R280: a cause joins the queue; with eight queued it is dropped. -/
def State.queueFault (s : State) (code w5 w6 w7 : Nat) : State :=
  if s.mn.queue.length < 8 then
    { s with mn := { s.mn with queue := s.mn.queue ++ [⟨code, w5 % 2 ^ 24, w6 % 2 ^ 24, w7 % 2 ^ 24⟩] } }
  else s.add MN_FLDROP.COUNT 1

/-- R16, R261: an event that is also written to the fault log. -/
def State.raiseFault (s : State) (code w5 w6 w7 : Nat) : State :=
  (s.raise code w5 w6 w7).queueFault code w5 w6 w7

/-- R265: the raw condition of channel `n`. -/
def State.rawCondition (s : State) (n : Nat) : Nat := (sparseFind n s.mn.raw).getD 0

/-- R272: whether pin WMON`j` is at high level. -/
def State.wmonHigh (s : State) (j : Nat) : Bool :=
  let n := s.get (MN_WMON.CH j)
  let flag := if s.flag (MN_WMON.RAW j) then s.rawCondition n else s.channelFlag n
  let cond := match s.get (MN_WMON.COND j) with
    | 0 => flag != 0
    | 1 => flag == 1
    | 2 => flag == 2
    | _ => flag == 0
  let on := s.flag (MN_WMON.EN j) && s.channelMode n != 0 && cond
  on == s.flag (MN_WMON.POL j)

/-- R272: the pins' levels. -/
def State.wmonLevels (s : State) : Nat := ((List.range 8).map fun j => if s.wmonHigh j then 2 ^ j else 0).sum

/-- R279: the CRC of a word, least significant byte first. -/
def crcBits : Nat → Nat → Nat
  | 0, c => c
  | n + 1, c => crcBits n (if bitOf c 15 then (2 * c) % 65536 ^^^ 0x1021 else 2 * c % 65536)

/-- CRC-16/CCITT of one more byte. -/
def crc16Byte (c b : Nat) : Nat := crcBits 8 (c ^^^ (b % 256 * 256))

def crc16 (bytes : List Nat) : Nat := bytes.foldl crc16Byte 0xFFFF

def wordBytes (w : Nat) : List Nat := [w % 256, w / 256 % 256, w / 65536 % 256]

/-- R279: the age of the oldest reading in µs, zero where there is none (assumption log 101). -/
def State.readingAge (s : State) : Nat := s.mn.readAt.foldl (fun m e => max m ((s.clock - e.2) / 100)) 0

/-- R279: words 0 to 62 of an entry. -/
def State.faultWords (s : State) (c : FaultCause) : List Nat :=
  let raw := fun i => if (sparseFind i s.mn.readAt).isSome then s.get (MN_RAW.RAW i) else 0x800000
  [c.code * 2 ^ 12 + s.power * 2 ^ 8, s.mn.fseq] ++ stampWords s.now (s.get TM_STATUS.QUAL) ++
  [s.get PW_GOOD.RAIL * 2 ^ 12 + s.get PW_ON.EN, s.get PW_STUCK.RAIL, s.get MN_LOW0.CH,
    s.get MN_HIGH0.CH, s.wmonLevels * 2 ^ 16 + s.get MN_HIGH1.CH * 2 ^ 8 + s.get MN_LOW1.CH, c.w5, c.w6, c.w7,
    s.get SY_COLDSTARTS.COUNT, if s.coreUp then s.get SH_MARGIN.E else 0, s.get SV_STATUS.STATE] ++
  (List.range 40).map raw ++ [0, 0, 0, 0, 0, 0, min s.readingAge 0xFFFFFF]

/-- R279: word `w` of an entry, word 63 being its commit. -/
def FaultSlot.word (f : FaultSlot) (w : Nat) : Nat :=
  if w = 63 then 0xA50000 + crc16 (f.words.flatMap wordBytes) else f.words.getD w 0

/-- R281: slot `k` when it is valid. -/
def State.faultEntry (s : State) (k : Nat) : Option FaultSlot :=
  match sparseFind k s.mn.slots with
  | some f => if f.torn then none else some f
  | none => none

def FaultSlot.fseq (f : FaultSlot) : Nat := f.words.getD 1 0

/-- R278: of two unpinned valid entries, the one whose FSEQ is older, by modular distance from the
newest entry's. -/
def olderSlot (newest : Nat) (a b : Nat × FaultSlot) : Nat × FaultSlot :=
  if (newest + 2 ^ 24 - a.2.fseq) % 2 ^ 24 < (newest + 2 ^ 24 - b.2.fseq) % 2 ^ 24 then b else a

/-- R278: the slot an entry is written to, and whether an entry is lost for it. -/
def State.faultSlot (s : State) : Nat × Bool :=
  match (List.range 1024).find? fun k => (s.faultEntry k).isNone with
  | some k => (k, false)
  | none =>
      match s.mn.slots.filter fun e => !e.2.pinned with
      | e :: rest => ((rest.foldl (olderSlot s.mn.fseq) e).1, true)
      | [] => (0, true)

/-- R280: the channel that a cause's data name. -/
def FaultCause.channel (c : FaultCause) : Option Nat :=
  if [0x381, 0x383, 0x384, 0x385, 0x38B].contains c.code then some (c.w5 % 32)
  else if c.code = 0x386 then some (c.w6 % 32)
  else if c.code = 0x403 then some (c.w5 % 32)
  else none

/-- R283: MN_FLCOUNT counts the valid entries. -/
def State.countFaults (s : State) : State :=
  s.set MN_FLCOUNT.COUNT ((s.mn.slots.filter fun e => !e.2.torn).length)

/-- R278 to R280: cause `c` is written. -/
def State.putFault (s : State) (c : FaultCause) : State :=
  let s := { s with mn := { s.mn with fseq := (s.mn.fseq + 1) % 2 ^ 24 } }
  let (k, lost) := s.faultSlot
  let slot : FaultSlot := ⟨s.faultWords c, false, decide (0 < s.mn.pins)⟩
  let s := s.when lost (·.add MN_FLLOST.COUNT 1)
  let s := { s with mn := { s.mn with
    slots := sparsePut k slot s.mn.slots, pins := s.mn.pins - 1, newest := some k } }
  (s.set MN_FLNEWEST.SLOT k).countFaults

/-- R280: the front cause is written, with `fresh` the conversions of the channel it names. -/
def State.writeFault (fresh : List Int) (s : State) : State :=
  match s.mn.queue with
  | [] => s
  | c :: rest =>
      let t := { s with mn := { s.mn with queue := rest } }
      match c.channel with
      | some i => if s.oneReading fresh then (t.reading i fresh).delayScan.putFault c else s
      | none => t.putFault c

/-- R281: at the core start the torn slots are counted, with what FLOG_TORN says of them. -/
def State.countTorn (s : State) : State × List (Nat × Nat × Nat × Nat) :=
  match s.mn.slots.filter fun e => e.2.torn with
  | [] => (s, [])
  | e :: rest => (s.add MN_FLTORN.COUNT (rest.length + 1), [(0x407, rest.length + 1, e.1, 0)])

/-- R583: an entry being written when VDD_AON falls leaves its slot torn. -/
def State.tearFault (s : State) : State :=
  match s.mn.queue with
  | [] => s
  | _ :: _ =>
      ({ s with mn := { s.mn with
        slots := sparsePut s.faultSlot.1 ⟨[], true, false⟩ s.mn.slots, queue := [] } } : State).countFaults

/-! ## Flags -/

/-- R271: whether channel `n` logs its changes. -/
def State.monEvents (s : State) (n : Nat) : Bool :=
  (decide (14 ≤ n ∧ n ≤ 16) || decide (22 ≤ n ∧ n ≤ 31)) && s.flag (MN_CH_B.EVT n)

/-- R264, R265: the raw condition of channel `n` with its node at `node`, in units of 1.25 V / 32,768: 0 IN, 1 LOW,
2 HIGH. A channel out of its window stays so until it is past the threshold by HYS. -/
def State.judgeNode (s : State) (n : Nat) (node : Int) : Nat :=
  let (lo, hi) := s.thresholds n
  let flag := s.channelFlag n
  let hys := s.hysteresis n
  if lo ≠ 0 ∧ node < 32 * (lo : Int) then 1
  else if 32 * (hi : Int) < node then 2
  else if flag = 1 ∧ lo ≠ 0 ∧ node ≤ 32 * ((lo + hys : Nat) : Int) then 1
  else if flag = 2 ∧ 32 * ((hi : Int) - hys) ≤ node then 2
  else 0

/-- R266: the flag of channel `n` takes the value `flag`. R183, R287, R307: since when it has been LOW, or not LOW, is
kept. -/
def State.setChannelFlag (s : State) (n flag : Nat) : State :=
  let turned := (s.channelFlag n == 1) != (flag == 1)
  let s := s.setChannelBit MN_LOW0.CH MN_LOW1.CH n (flag == 1)
  let s := s.setChannelBit MN_HIGH0.CH MN_HIGH1.CH n (flag == 2)
  let s := s.when (flag == 1) (·.setChannelBit MN_STKLO0.CH MN_STKLO1.CH n true)
  let s := s.when (flag == 2) (·.setChannelBit MN_STKHI0.CH MN_STKHI1.CH n true)
  s.when turned fun s => { s with mn := { s.mn with since := sparsePut n s.clock s.mn.since } }

/-- R271: channel `n` left IN, or returned to it: its conversion and its event. -/
def State.reportFlag (s : State) (n flag left : Nat) (codes : List Int) : State :=
  let s := (s.reading n codes).delayScan
  if flag = 0 then s.raise 0x402 n (min ((s.clock - left) / 100) 0xFFFFFF) (s.get (MN_VAL.VAL n))
  else s.raise 0x401 n flag (s.get (MN_VAL.VAL n))

/-- R271: since when channel `n` is outside: its flag goes from `old` to `flag`. -/
def State.markOutside (s : State) (n old flag : Nat) : State :=
  let s := if old = 0 then { s with mn := { s.mn with outside := sparsePut n s.clock s.mn.outside } } else s
  if flag = 0 then { s with mn := { s.mn with outside := sparseDrop n s.mn.outside } } else s

/-- R367, R370 step 3: in an identification MC_VCC first enters VM9's window, once EN9 is good for its SETTLE. -/
def State.noteVcc (s : State) : State :=
  let entered := s.get MC_STATUS.STATE = 1 ∧ s.mc.vccAt = none ∧ s.get (PW_RAIL_C.STATE 9) = 3 ∧
    10 * (s.rail 9).settle ≤ (s.rail 9).goodFor ∧ s.channelFlag 9 = 0
  if entered then { s with mc := { s.mc with vccAt := some s.clock } } else s

/-- R265, R266, R271: the node of channel `n` stands at `node` for `samples` consecutive samples; the flag follows after
DGL + 1 of them. `codes` are the conversions of R271. -/
def flagChange (n : Nat) (node : Int) (samples : Nat) (codes : List Int) (s : State) : State :=
  if n < 32 ∧ s.channelMode n ≠ 0 ∧ 0 < samples then
    let flag := s.judgeNode n node
    let old := s.channelFlag n
    let t := { s with mn := { s.mn with raw := sparseStore 0 n flag s.mn.raw } }
    if flag ≠ old ∧ s.deglitch n + 1 ≤ samples then
      let left := (sparseFind n s.mn.outside).getD s.clock
      let t := (t.setChannelFlag n flag).markOutside n old flag
      if s.monEvents n && (old == 0 || flag == 0) then
        if s.oneReading codes then t.reportFlag n flag left codes else s
      else t.noteVcc
    else t
  else s

/-- R267: the flag of a channel that is off reads IN. -/
def State.dropFlag (s : State) (n : Nat) : State :=
  if s.channelMode n = 0 then
    let s := s.setChannelBit MN_LOW0.CH MN_LOW1.CH n false
    let s := s.setChannelBit MN_HIGH0.CH MN_HIGH1.CH n false
    { s with mn := { s.mn with raw := sparseDrop n s.mn.raw, outside := sparseDrop n s.mn.outside } }
  else s

def State.dropFlags (s : State) : State := (List.range 32).foldl State.dropFlag s

/-! ## Scans -/

/-- R273: whether input `i` is enabled in MN_SCANENx. -/
def State.scanEnabled (s : State) (i : Nat) : Bool :=
  if i < 24 then s.maskBit MN_SCANEN0.IN i else s.maskBit MN_SCANEN1.IN (i - 24)

/-- R275: the enabled inputs, ascending. -/
def State.scanInputs (s : State) : List Nat := (List.range 40).filter s.scanEnabled

/-- R277: the DAC this scan audits: the first from `d` on whose channel is not off. -/
def State.auditDac (s : State) (d : Nat) : Option Nat :=
  ((List.range 64).map fun i => (d + i) % 64).find? fun e => s.channelMode (e / 2) != 0

/-- R277: the code of DAC `d`. -/
def State.dacCode (s : State) (d : Nat) : Nat :=
  if d % 2 = 0 then (s.thresholds (d / 2)).1 else (s.thresholds (d / 2)).2

/-- R277: the AUDFAIL bit of channel `n` shows whether either DAC is failing. -/
def State.showAudit (s : State) (n : Nat) : State :=
  let fails := (sparseFind (2 * n) s.mn.auditFails).isSome || (sparseFind (2 * n + 1) s.mn.auditFails).isSome
  let s := s.setChannelBit MN_AUDFAIL0.CH MN_AUDFAIL1.CH n fails
  s.setFlag MN_STATUS.AUDFAIL (!s.mn.auditFails.isEmpty)

/-- R277: the audit of DAC `d` reads `raw`. -/
def State.judgeAudit (s : State) (d : Nat) (raw : Int) : State :=
  let code := s.dacCode d
  let name := d / 2 + 64 * (d % 2)
  let bad := decide (32 * s.get MN_AUDTOL.TOL < (raw - 32 * code).natAbs)
  match sparseFind d s.mn.auditFails with
  | none =>
      if bad then
        let s := { s with mn := { s.mn with auditFails := sparsePut d 0 s.mn.auditFails } }
        (s.showAudit (d / 2)).raiseFault 0x403 name code (ofSigned 24 (Int.tdiv raw 32))
      else s
  | some passes =>
      if bad then { s with mn := { s.mn with auditFails := sparsePut d 0 s.mn.auditFails } }
      else if passes + 1 < 4 then { s with mn := { s.mn with auditFails := sparsePut d (passes + 1) s.mn.auditFails } }
      else
        let s := { s with mn := { s.mn with auditFails := sparseDrop d s.mn.auditFails } }
        (s.showAudit (d / 2)).raise 0x404 name code 0

/-- R277: the audit of one scan. -/
def State.runAudit (s : State) (codes : List Int) : State :=
  match s.auditDac s.mn.audit with
  | none => s
  | some d =>
      let s := s.reading 32 codes
      let s := { s with mn := { s.mn with audit := (d + 1) % 64 } }
      if s.flag MN_STATUS.REFFAIL then s else s.judgeAudit d (s.getS (MN_RAW.RAW 32))

/-- R276: the reference check of one scan. -/
def State.checkReference (s : State) (reference short : List Int) : State :=
  let s := (s.reading 33 reference).reading 34 short
  let good := decide ((s.getS (MN_RAW.RAW 33) - 26214).natAbs ≤ 105) &&
    decide ((s.getS (MN_RAW.RAW 34)).natAbs ≤ 16)
  if good then
    let n := s.mn.refPasses + 1
    if s.flag MN_STATUS.REFFAIL && decide (16 ≤ n) then
      let s := { s with mn := { s.mn with refFails := 0, refPasses := 0 } }
      (s.setFlag MN_STATUS.REFFAIL false).raise 0x406 0 0 0
    else { s with mn := { s.mn with refFails := 0, refPasses := min n 16 } }
  else
    let n := s.mn.refFails + 1
    let s := { s with mn := { s.mn with refFails := min n 4, refPasses := 0 } }
    if decide (4 ≤ n) && !s.flag MN_STATUS.REFFAIL then
      (s.setFlag MN_STATUS.REFFAIL true).raiseFault 0x405 (s.get (MN_RAW.RAW 33)) (s.get (MN_RAW.RAW 34)) 0
    else s

/-- R45, R275: a scan falls due at the present tick edge. -/
def State.scanDue (s : State) : Bool :=
  s.coreUp && s.tick.started && s.tickCount % s.get MN_SCAN.TICKS == 0 && s.mn.scanTick != some s.tickCount

/-- R275: a scan begins: it takes 2^AVG µs a reading. -/
def State.beginScan (s : State) : State :=
  let ends := s.clock + 100 * (s.scanInputs.length + 3) * 2 ^ s.get MN_SCAN.AVG
  { s with mn := { s.mn with scanTick := some s.tickCount, scanAt := s.clock, scanEnd := ends } }

/-- R275 to R277: the readings of a scan. -/
def State.runScan (s : State) (codes : List (List Int)) (audit reference short : List Int) : State :=
  let s := (s.scanInputs.zip codes).foldl (fun s c => s.reading c.1 c.2) s.beginScan
  (s.runAudit audit).checkReference reference short

/-- R275: a scan that falls due, with the conversions of its readings; it is skipped while the one before it runs. In
LATCHED one runs every 100 ms. -/
def scan (codes : List (List Int)) (audit reference short : List Int) (s : State) : State :=
  if codes.length = s.scanInputs.length ∧ ((audit :: reference :: short :: codes).all s.oneReading) = true then
    if s.scanDue then
      if s.clock < s.mn.scanEnd then
        ({ s with mn := { s.mn with scanTick := some s.tickCount } } : State).add MN_SCANSKIP.COUNT 1
      else s.runScan codes audit reference short
    else if s.power = latched ∧ s.coreUp = false then
      s.onTime (s.mn.scanAt + 10000000) (·.runScan codes audit reference short)
    else s
  else s

/-! ## Writes (R282) -/

/-- R282: whether channel `n` is written by the main host. -/
def hostChannel (n : Nat) : Bool :=
  decide (n ≤ 11) || decide (14 ≤ n ∧ n ≤ 16) || decide (22 ≤ n ∧ n ≤ 31)

/-- R282: whether the slot at block offset `o` of channel `n` may take `v`. -/
def State.channelLegal (s : State) (n o v : Nat) : Bool :=
  let a := o % 0x20
  if n = 12 then
    a == 4 && decide ((s.thresholds 12).1 < (MN_CH_B.HI n).of v) && (MN_CH_B.LO n).of v == s.get (MN_CH_B.LO n) &&
      (MN_CH_B.EVT n).of v == s.get (MN_CH_B.EVT n)
  else
    hostChannel n && (sparseFind n s.mn.portForce).isNone &&
    (if a = 0 then
      decide ((MN_CH_A.MODE n).of v ≤ 4) && [0, 3, 4].contains ((MN_CH_A.LPMODE n).of v) &&
        !(decide (n ≤ 11) && s.flag PW_STATUS.SEQ && (MN_CH_A.MODE n).of v != s.get (MN_CH_A.MODE n))
     else if a = 4 then decide ((MN_CH_B.LO n).of v < (MN_CH_B.HI n).of v)
     else true)

/-- A write of value `v` to the monitor block's slot at block offset `o`. -/
def mnWrite (w : Writer) (o v m : Nat) (s : State) : Option State :=
  if o = 0x004 then
    s.writeIf (MN_SCAN.TICKS.within v 1 65535 && MN_SCAN.AVG.within v 0 4) w (0x8000 + o) v m
  else if o = 0x038 then s.writeIf (MN_AUDTOL.TOL.within v 1 31) w (0x8000 + o) v m
  else if 0x100 ≤ o ∧ o < 0x500 then
    let n := (o - 0x100) / 0x20
    if s.channelLegal n o v then
      if n = 12 then
        if s.mayWrite w (0x8000 + o) .rwm then some ((s.set (MN_CH_B.HI 12) ((MN_CH_B.HI 12).of v)).retune 12)
        else none
      else (s.plainWrite w (0x8000 + o) v m).map fun t => (t.retune n).dropFlag n
    else none
  else s.plainWrite w (0x8000 + o) v m

def execMonitorFlagChange (ch : Nat) (node : Int) (samples : Nat) (codes : List Int) (s : State) :
    Outcome State Fault Refusal :=
  .next (flagChange ch node samples codes s)

def execMonitorScan (codes : List (List Int)) (audit reference short : List Int) (s : State) :
    Outcome State Fault Refusal :=
  .next (scan codes audit reference short s)

/-- R282: a write of a channel's configuration at aperture offset `off`; one that names no register is ignored
and not counted (R5). -/
def execMonitorConfigWrite (w : Writer) (off v : Nat) (s : State) : Outcome State Fault Refusal :=
  .next <| if (slotFields off).isEmpty then s else (s.orViolate w off (mnWrite w (off - 0x8000) v (2 ^ 24 - 1) s))

def execFaultLogEntryWrite (fresh : List Int) (s : State) : Outcome State Fault Refusal :=
  .next (s.writeFault fresh)

end Sys2Proof.Machine
end

