-- ==== Sys2Proof/Machine/Release.lean ====
section
/-! DEFINITION. What the two card ports share: their rails and monitor windows (R237, R269), and the
release request they serve (R558, R559). -/

namespace Sys2Proof.Machine

open Reg

/-- R237: a card port asks for its rail, or releases it. -/
def State.wantRail (s : State) (n : Nat) (b : Bool) : State :=
  let x := s.rail n
  s.setRail n { x with target := b, asked := if b && !x.target then s.pw.evals else x.asked }

/-- R237, R240: the rail of a card port is good. -/
def State.portPowered (s : State) (n : Nat) : Bool := s.get (PW_RAIL_C.STATE n) == 3

/-- R269: a card port loads its window into channel `n`, or returns it to its stored settings. -/
def State.forceChannel (s : State) (n : Nat) (t : Option (Nat × Nat)) : State :=
  let force := match t with
    | some t => sparsePut n t s.mn.portForce
    | none => sparseDrop n s.mn.portForce
  (({ s with mn := { s.mn with portForce := force } }).retune n).dropFlag n

/-- R559: the request ends; RELREQ clears here and in the ports. -/
def State.releaseEnd (s : State) (cause : Nat) : State :=
  if s.flag FP_STATUS.RELREQ then
    let s := ((s.set FP_STATUS.RELREQ 0).set SC_STATUS.RELREQ 0).set MC_STATUS.RELREQ 0
    let s := s.raise 0x905 cause s.fp.target (min ((s.clock - s.fp.raisedAt) / 100000) 0xFFFFFF)
    let steady := if cause = 1 ∧ s.flag FP_KEYCFG.FBEN = true then some (s.fp.target, s.clock) else none
    { s with fp := { s.fp with target := 0, safe := 0, resting := 0, steady := steady } }
  else s

/-- R559: a named port (1 smart card, 2 memory card) has logged its safe event. -/
def State.releaseSafe (s : State) (port : Nat) : State :=
  let s := { s with fp := { s.fp with safe := s.fp.safe ||| port } }
  if s.fp.target ≠ 0 ∧ s.fp.safe &&& s.fp.target = s.fp.target then s.releaseEnd 1 else s

/-- R560: the removal edge of a named card ends the steady indication. -/
def State.releaseRemoved (s : State) (port : Nat) : State :=
  match s.fp.steady with
  | some (t, _) => if t &&& port ≠ 0 then { s with fp := { s.fp with steady := none } } else s
  | none => s

end Sys2Proof.Machine
end

