-- ==== Sys2Proof/Machine/MemCard.lean ====
section
/-! DEFINITION. The memory-card port (R366 to R388). Where R370, R376 and R378 name a field of the
card's registers without its place, it is JESD84-B51's (PRESUMED, assumption log 21). -/

namespace Sys2Proof.Machine

open Reg Host

def mcInactive : Nat := 0
def mcIdent : Nat := 1
def mcIdle : Nat := 2
def mcTransfer : Nat := 3
def mcDeactivating : Nat := 4

def State.mcState (s : State) : Nat := s.get MC_STATUS.STATE

def State.setMc (s : State) (x : MemCard) : State := { s with mc := x }

/-- The opcode of the instruction in progress, 0 for none. -/
def State.mcOpcode (s : State) : Nat :=
  match s.mc.op with
  | some ref => ref.opcode
  | none => 0

def State.mcBusyWith (s : State) (opcode : Nat) : Bool := s.mc.op.isSome && s.mcOpcode == opcode

/-- What is to come from the card; the first item is outstanding. -/
def State.mcAwait (s : State) (l : List McItem) : State :=
  s.setMc { s.mc with todo := l, retried := false, since := s.clock }

/-- R366: the outstanding item is `x`. -/
def State.mcHead (s : State) : Option McItem := s.mc.todo.head?

/-- The outstanding item is done. -/
def State.mcPop (s : State) : State := s.mcAwait (s.mc.todo.drop 1)

/-- R373: whether the port is in a WRITE, and the block ADDR + DEVCNT has begun to be sent. -/
def State.mcWriting (s : State) : Bool := s.mcBusyWith 0x25 && s.mc.action == 2

def State.mcBegun (s : State) : Bool :=
  s.mcWriting && s.mcHead == some .busy && decide (s.get MC_DEVCNT.N < s.get MC_HOSTCNT.N) &&
    decide (s.get MC_DEVCNT.N < s.mc.count)

/-- R373: whether the port waits on the host. -/
def State.mcWaitsHost (s : State) : Bool :=
  s.mcBusyWith 0x25 && decide (s.get MC_DEVCNT.N < s.mc.count) &&
    ((s.mc.action == 2 && s.mcHead == some .busy && decide (s.get MC_HOSTCNT.N ≤ s.get MC_DEVCNT.N)) ||
     (s.mc.action == 1 && s.mcHead == some .data && decide (s.get MC_HOSTCNT.N + 96 ≤ s.get MC_DEVCNT.N)))

/-- R369: MC_STATUS.CLKRUN. In an identification the clock starts at step 4 of R370, 1 ms after MC_VCC entered its
window. -/
def State.mcClkRun (s : State) : Bool :=
  if s.mcState = mcIdent then s.mc.vccAt.any fun t => decide (t + 100000 ≤ s.clock)
  else if s.mcState = mcIdle then !s.flag MC_CFG.GATE
  else if s.mcState = mcTransfer then !(s.flag MC_CFG.GATE && s.mcWaitsHost)
  else false

/-! ## Deactivation (R380 to R383) -/

/-- R381: a deactivation starts. -/
def State.mcDeactivate (s : State) (cause status : Nat) : State :=
  if s.mcState = mcIdent ∨ s.mcState = mcIdle ∨ s.mcState = mcTransfer then
    if s.mcWriting && (s.mcBegun || s.mc.begun) then
      let block := s.mc.addr + s.get MC_DEVCNT.N
      let s := ((s.set MC_TORNH.VALID 1).set MC_TORNH.ADDR (block / 2 ^ 24)).set MC_TORNL.ADDR block
      let s := (s.add MC_TORNS.COUNT 1).raise 0x606 (block / 2 ^ 24 % 256) block (s.get MC_DEVCNT.N)
      (s.set MC_STATUS.STATE mcDeactivating).setMc
        { s.mc with cause := cause, status := 0x63, todo := [], saveWait := false }
    else
      (s.set MC_STATUS.STATE mcDeactivating).setMc
        { s.mc with cause := cause, status := status, todo := [], saveWait := false }
  else s

def State.mcCapacity (s : State) : Nat := s.getPair MC_CAPH.BLOCKS MC_CAPL.BLOCKS

/-- R385: the result of MCINIT ON and RETUNE. -/
def State.mcinitResult (s : State) : Nat :=
  s.get MC_STATUS.SECTOR * 2 ^ 23 + s.get MC_STATUS.RPMB * 2 ^ 22 + s.get MC_STATUS.WIDE * 2 ^ 21 +
    s.get MC_STATUS.HS * 2 ^ 20 + min (s.mcCapacity / 2048) 0xFFFFF

/-- R379: MCWP's result as read back. -/
def State.mcwpResult (s : State) : Nat := 2 * s.get MC_STATUS.PERMWP + s.get MC_STATUS.TMPWP

/-- R373, R377, R379, R382, R385: the result of the instruction in progress as it stands: an MCRPMB's is its READ's
frame count or its WRITE's counter. -/
def State.mcResult (s : State) : Nat :=
  if s.mcBusyWith 0x25 then s.get MC_DEVCNT.N
  else
    match s.mc.ending with
    | some (_, result) => result
    | none =>
        if s.mcBusyWith 0x24 then s.mcinitResult
        else if s.mcBusyWith 0x27 then s.mcwpResult
        else if s.mc.action = 3 then s.mc.got
        else s.mc.counter % 2 ^ 24

/-- R381 step 3, R382, R383, R538: MC_VCC is below 0.4 V. -/
def mcDeactivationDone (s : State) : State :=
  if s.mcState = mcDeactivating then
    let mc := s.mc
    let result := s.mcResult
    let s := (s.set MC_STATUS.STATE mcInactive).setMc
      { mc with op := none, offs := [], ending := none, key := none, vccAt := none }
    let s := ((s.set MC_WPCTL.KEYPROG 0).set MC_WPCTL.PERMOK 0).set SE_RPMBST.LOADED 0
    let s := (s.wantRail 9 false).forceChannel 9 none
    let posted := if mc.op.isSome then mc.status else 0
    let s := s.raise 0x604 mc.cause posted 0
    let s := s.postAll ((mc.op.toList.map fun r => (r, mc.status, result)) ++ mc.offs.map fun r => (r, 0x01, 0))
    if s.flag MC_STATUS.RELREQ then
      if mc.cause = 2 ∨ mc.cause = 3 then s.releaseEnd 4
      else if mc.cause = 4 then s
      else (s.raise 0x608 0 0 0).releaseSafe 2
    else s
  else s

/-- R383: a raised request deactivates the idle port. -/
def State.mcReleaseIdle (s : State) : State :=
  if s.flag MC_STATUS.RELREQ ∧ s.mcState = mcIdle then s.mcDeactivate 5 0x6F else s

/-- R383: a request is raised for this port. -/
def State.mcReleaseRaise (s : State) : State :=
  let s := s.set MC_STATUS.RELREQ 1
  if s.mcState = mcInactive then (s.raise 0x608 0 0 0).releaseSafe 2 else s.mcReleaseIdle

/-- R366, R384: the instruction ends without deactivation. -/
def State.mcFinish (s : State) (status result : Nat) : State :=
  let op := s.mc.op
  let s := s.when (s.mcBusyWith 0x27 && s.mc.action == 3) (·.set MC_WPCTL.PERMOK 0)
  let s := s.when (s.mcBusyWith 0x26 && s.mc.action == 4) (·.set MC_WPCTL.KEYPROG 0)
  let s := (s.set MC_STATUS.STATE mcIdle).setMc { s.mc with op := none, todo := [], ending := none, stage := 0 }
  (s.postOpt op status result).mcReleaseIdle

/-- R381: the write in progress has ended, or none was. The bus is idle: CMD12 goes first where blocks of a
multi-block transfer are left, and the port deactivates at its response. -/
def State.mcStop (s : State) : State :=
  if s.mcBusyWith 0x25 ∧ 1 < s.mc.count then s.mcAwait [.cmd 12 0] else s.mcDeactivate 4 0x6F

/-- R381: Pavane step 2 deactivates the port, after the write in progress (R602). -/
def State.mcPavane (s : State) : State :=
  let busy := s.mcState = mcTransfer ∧ s.mcHead = some .busy ∧ (s.mcWriting = false ∨ s.mcBegun = true)
  let t := s.setMc { s.mc with saveWait := true, saveFrom := s.clock }
  if busy then t else if s.mcWaitsHost then t.mcStop else s.mcDeactivate 4 0x6F

/-! ## Identification (R369, R370) -/

/-- The bound of CDIV set by the CSD's TRAN_SPEED (R369). -/
def tranBound (code : Nat) : Nat :=
  let tenths := [0, 10, 12, 13, 15, 20, 26, 30, 35, 40, 45, 52, 55, 60, 70, 80].getD (code / 8 % 16) 0
  let rate := tenths * 10 ^ (code % 8) * 10000
  if rate = 0 then 0 else ceilDiv 1600000000 rate

/-- The capacity in 512-byte blocks that the CSD gives. -/
def csdBlocks (csd : Nat) : Nat :=
  (bitsOf csd 62 12 + 1) * 2 ^ (bitsOf csd 47 3 + 2) * 2 ^ bitsOf csd 80 4 / 512

/-- Bytes into the registers of R387, the first in the highest bits. -/
def msbWords (bytes : List Nat) (i : Nat) : Nat :=
  bytes.getD (3 * i) 0 * 65536 + bytes.getD (3 * i + 1) 0 * 256 + bytes.getD (3 * i + 2) 0

/-- R378: the CSD is read. -/
def State.mcTakeCsd (s : State) (csd : Nat) : State :=
  let bytes := toBigEndian 16 csd
  let s := (List.range 6).foldl (fun s i => s.set (MC_CSD.CSD i) (msbWords bytes i)) s
  let s := (s.setFlag MC_STATUS.TMPWP (bitOf csd 12)).setFlag MC_STATUS.PERMWP (bitOf csd 13)
  s.setMc { s.mc with csd := csd }

/-- R369, R370 step 8. -/
def State.mcReady (s : State) : State :=
  let div := max (max s.mc.cdiv (if s.flag MC_STATUS.HS then 0 else 62)) (tranBound (bitsOf s.mc.csd 96 8))
  let s := s.set MC_RUNDIV.CDIV div
  let r := s.mcinitResult
  let short := (s.mc.wide && !s.flag MC_STATUS.WIDE) || (s.mc.hs && !s.flag MC_STATUS.HS)
  let s := s.raise 0x603 r div 0
  s.mcFinish (if short then 0x02 else 0x01) r

/-- R370 step 7, high-speed timing. -/
def State.mcTiming (s : State) : State :=
  if s.mc.hs && s.mc.ext && bitOf s.mc.cardType 1 then
    (s.setMc { s.mc with stage := 3 }).mcAwait [.cmd 6 0x03B90100]
  else s.mcReady

/-- R370 step 7, the bus width. -/
def State.mcTune (s : State) : State :=
  if s.mc.wide && s.mc.ext then
    (s.setMc { s.mc with stage := 1 }).mcAwait [.cmd 6 0x03B70100, .cmd 19 0, .cmd 14 0, .data]
  else s.mcTiming

/-- R370 step 6, after the card is selected. -/
def State.mcSelected (s : State) : State :=
  let len := if s.flag MC_STATUS.SECTOR then [] else [McItem.cmd 16 512]
  if 4 ≤ bitsOf s.mc.csd 122 4 then
    (s.setMc { s.mc with stage := 0, ext := true }).mcAwait ([.cmd 8 0, .data] ++ len)
  else
    let s := s.putStreamFrom mcStaging (512 * s.mc.buf) (List.replicate 512 0)
    let s := ((s.setMc { s.mc with stage := 0, ext := false }).set MC_STATUS.RPMB 0)
    if len = [] then s.mcTune else s.mcAwait len

/-- R370 step 6, R376: the EXT_CSD. -/
def State.mcTakeExt (s : State) (bytes : List Nat) : State :=
  let s := s.putStreamFrom mcStaging (512 * s.mc.buf) (bytes.take 512)
  let s := s.setFlag MC_STATUS.RPMB (bytes.getD 168 0 != 0)
  let s := s.setMc { s.mc with cardType := bytes.getD 196 0 }
  s.when (s.flag MC_STATUS.SECTOR) (·.setPair MC_CAPH.BLOCKS MC_CAPL.BLOCKS (littleEndian ((bytes.drop 212).take 4)))

/-- R370 step 5: the OCR. -/
def State.mcTakeOcr (s : State) (ocr : Nat) : State :=
  if bitOf ocr 31 then
    let rca := s.get MC_CFG.RCA * 65536
    (s.setFlag MC_STATUS.SECTOR (bitOf ocr 30)).mcAwait [.cmd 2 0, .cmd 3 rca, .cmd 9 rca, .cmd 7 rca]
  else s

/-! ## Ending an instruction -/

/-- R366: the instruction ends without deactivation; one that ends an identification logs MC_READY. -/
def State.mcClose (s : State) (status result : Nat) : State :=
  (s.when (s.mcBusyWith 0x24) (·.raise 0x603 result (s.get MC_RUNDIV.CDIV) 0)).mcFinish status result

/-- R371, R374, R376: the instruction will complete with `status`: the transfer is stopped where `stop`, the RPMB access
is restored, and the card status is read after every error and at the end of every MCRW. -/
def State.mcEnd (s : State) (status result : Nat) (stop : Bool) : State :=
  let s := s.setMc { s.mc with ending := some (status, result), begun := s.mc.begun || s.mcBegun }
  let check := if status = 0x01 then [] else [McItem.cmd 13 0]
  if s.mcBusyWith 0x25 then s.mcAwait ((if stop then [.cmd 12 0] else []) ++ [.cmd 13 0])
  else if s.mcBusyWith 0x26 then s.mcAwait (.cmd 6 0x03B30000 :: check)
  else if status = 0x01 then s.mcClose status result
  else s.mcAwait check

/-- The commands of `todo` are done. -/
def State.mcEnded (s : State) : State :=
  match s.mc.ending with
  | some (status, result) =>
      if s.mcBusyWith 0x25 then
        let st := s.get MC_CARDST.ST * 256
        s.mcFinish (if bitOf st 31 then 0x6A else if bitOf st 26 then 0x68 else status) (s.get MC_DEVCNT.N)
      else s.mcClose status result
  | none => s

/-- The result of a failure that the card reports no result for (R377). -/
def State.mcFailResult (s : State) : Nat := if s.mcBusyWith 0x26 then 0 else s.mcResult

/-- R370, R372: a command failed twice, at last with a corrupt response where `corrupt`. A card that never answers fails
its identification with status 0x64; one whose response is corrupt twice ends it with 0x65, and the port deactivates
as for the other (DESIGN CHOICE, assumption log 114). -/
def State.mcCommandLost (s : State) (corrupt : Bool) : State :=
  match s.mc.ending with
  | some (_, result) =>
      if s.mcHead = some (.cmd 13 0) then s.mcClose 0x65 s.mcResult
      else if s.mc.saveWait then s.mcDeactivate 4 0x6F
      else (s.setMc { s.mc with ending := some (0x65, result) }).mcAwait [.cmd 13 0]
  | none =>
      if s.mc.saveWait then s.mcDeactivate 4 0x6F
      else if s.mcBusyWith 0x24 ∧ s.mc.stage = 0 then s.mcDeactivate 6 (if corrupt then 0x65 else 0x64)
      else s.mcEnd 0x65 s.mcFailResult (s.mcBusyWith 0x25 && s.get MC_DEVCNT.N != 0)

/-- R372: a command without a good response is repeated once. -/
def State.mcRepeat (s : State) (corrupt : Bool) : State :=
  if s.mc.retried then s.mcCommandLost corrupt
  else (s.add MC_RETRIES.COUNT 1).setMc { s.mc with retried := true, since := s.clock }

/-! ## The replay-protected area (R376, R377) -/

/-- R376: a frame. -/
def rpmbFrame (mac data nonce : List Nat) (counter addr count type : Nat) : List Nat :=
  List.replicate 196 0 ++ mac ++ data ++ nonce ++ toBigEndian 4 counter ++ toBigEndian 2 addr ++
    toBigEndian 2 count ++ [0, 0] ++ toBigEndian 2 type

/-- R376: the bytes the MAC covers. -/
def maced (frame : List Nat) : List Nat := frame.drop 228

/-- CMD23 and CMD25 for `n` frames to the card. -/
def rpmbOut (n arg : Nat) : List McItem := [.cmd 23 arg, .cmd 25 0] ++ List.replicate n .busy

/-- CMD23 and CMD18 for `n` frames from the card. -/
def rpmbIn (n : Nat) : List McItem := [.cmd 23 n, .cmd 18 0] ++ List.replicate n .data

/-- R377: the request frame `type` with a fresh nonce. -/
def State.rpmbRequest (s : State) (type addr : Nat) : State :=
  let (nonce, s) := State.drawBytes 16 s
  s.setMc { s.mc with
    nonce := nonce, frames := [], got := 0,
    sent := rpmbFrame (zeros 32) (zeros 256) nonce 0 addr 0 type }

/-- R377: the data frames of WRITE, the MAC in the last. -/
def rpmbWriteFrames (key : List Nat) (counter addr count : Nat) (data : List (List Nat)) : List Nat :=
  let bare := data.map fun d => rpmbFrame (zeros 32) d (zeros 16) counter addr count 3
  let mac := hmacSha256 key (bare.flatMap maced)
  let last := data.getLast?.getD []
  bare.dropLast.flatten ++ rpmbFrame mac last (zeros 16) counter addr count 3

/-- R377: the request for the result of a write. -/
def resultRequest : List Nat := rpmbFrame (zeros 32) (zeros 256) (zeros 16) 0 0 0 5

/-- R377: the counter is known and WRITE sends its frames, and then the result request. -/
def State.rpmbWriteOut (s : State) : State :=
  let n := s.mc.count
  let data := (List.range n).map fun i => (List.range 256).map fun j => s.streamByte mcStaging (512 * s.mc.buf + 256 * i + j)
  let s := s.setMc { s.mc with
    stage := 1, frames := [], got := 0,
    sent := rpmbWriteFrames (s.mc.key.getD []) s.mc.counter s.mc.addr n data ++ resultRequest }
  s.mcAwait (rpmbOut n (2 ^ 31 + n) ++ rpmbOut 1 1 ++ rpmbIn 1)

/-- R377: the status of a card's non-zero result. -/
def rpmbResultStatus (r : Nat) : Nat :=
  if r = 3 ∨ bitOf r 7 = true then 0x6C else if r = 7 then 0x6D else 0x6B

/-- R377: READ writes zero over its whole destination after a MAC or nonce failure. -/
def State.rpmbForged (s : State) : State :=
  let s := s.when (s.mc.action == 3) (·.putStreamFrom mcStaging (512 * s.mc.buf) (zeros (256 * s.mc.count)))
  s.mcEnd 0x6B 0 false

/-- R377: the type a response must have. -/
def rpmbResponseType (action stage : Nat) : Nat :=
  if action = 3 then 0x0400 else if action = 4 then 0x0100 else if action = 2 ∧ stage = 1 then 0x0300 else 0x0200

/-- R377: an accepted last response. -/
def State.rpmbAccepted (s : State) (counter : Nat) : State :=
  if s.mc.action = 3 then s.mcEnd 0x01 s.mc.count false
  else if s.mc.action = 4 then s.mcEnd 0x01 0 false
  else
    let s := (s.set MC_RPMBCNTH.CNT (counter / 2 ^ 24)).set MC_RPMBCNTL.CNT counter
    if s.mc.action = 1 then s.mcEnd 0x01 (counter % 2 ^ 24) false
    else if s.mc.stage = 0 then (s.setMc { s.mc with counter := counter }).rpmbWriteOut
    else (s.raise 0x60A s.mc.addr s.mc.count counter).mcEnd 0x01 (counter % 2 ^ 24) false

/-- R377: a response frame. -/
def State.rpmbResponse (s : State) (f : List Nat) : State :=
  let type := bigEndian (f.drop 510 |>.take 2)
  let result := bigEndian (f.drop 508 |>.take 2)
  let counter := bigEndian (f.drop 500 |>.take 4)
  let nonce := f.drop 484 |>.take 16
  let want := rpmbResponseType s.mc.action s.mc.stage
  let wantsNonce := want = 0x0200 ∨ want = 0x0400
  let s := s.setMc { s.mc with frames := s.mc.frames ++ maced f, got := s.mc.got + 1 }
  if type ≠ want then s.mcEnd 0x6B result false
  else if result ≠ 0 then s.mcEnd (rpmbResultStatus result) result false
  else if wantsNonce ∧ nonce ≠ s.mc.nonce then s.rpmbForged
  else
    let s := s.when (s.mc.action == 3)
      (·.putStreamFrom mcStaging (512 * s.mc.buf + 256 * (s.mc.got - 1)) (f.drop 228 |>.take 256))
    if s.mc.action = 3 ∧ s.mc.got < s.mc.count then s.mcPop
    else if f.drop 196 |>.take 32 |> (· != hmacSha256 (s.mc.key.getD []) s.mc.frames) then s.rpmbForged
    else if s.mc.action = 2 ∧ s.mc.stage = 1 ∧ counter ≠ s.mc.counter + 1 then s.mcEnd 0x6B 0 false
    else s.rpmbAccepted counter

/-! ## Write protection (R378, R379) -/

/-- R379: the CSD with the changed bit and a recomputed CRC7. -/
def crc7Step : Nat → Nat → Nat → Nat
  | 0, _, c => c
  | n + 1, v, c =>
      let top := boolNat (bitOf c 6) ^^^ boolNat (bitOf v n)
      crc7Step n v (if top = 1 then (2 * c % 128) ^^^ 0x09 else 2 * c % 128)

def csdWithCrc (csd : Nat) : Nat := csd / 256 * 256 + 2 * crc7Step 120 (csd / 256) 0 + 1

/-- R379: the CSD has been read back, and the card is selected again. -/
def State.mcwpDone (s : State) : State :=
  let shown := if s.mc.action = 1 then s.flag MC_STATUS.TMPWP
    else if s.mc.action = 2 then !s.flag MC_STATUS.TMPWP else s.flag MC_STATUS.PERMWP
  s.mcEnd (if shown then 0x01 else 0x68) s.mcwpResult false

/-! ## Progress -/

/-- R373: the address a command names. -/
def State.mcAddress (s : State) (block : Nat) : Nat := if s.flag MC_STATUS.SECTOR then block else 512 * block

/-- The commands and data of `todo` are done: the instruction's next part. -/
def State.mcNext (s : State) : State :=
  if s.mc.todo ≠ [] then s
  else if s.mc.ending.isSome then s.mcEnded
  else if s.mcBusyWith 0x24 then
    if s.mc.stage = 0 then s.mcTune
    else if s.mc.stage = 3 then (s.set MC_STATUS.HS 1).mcReady
    else s.mcTiming
  else if s.mcBusyWith 0x27 then s.mcwpDone
  else s

/-- R370, R373, R379: a good response to command `idx`. -/
def State.mcAnswered (s : State) (idx value : Nat) : State :=
  match idx with
  | 1 => s.mcTakeOcr value
  | 2 =>
      let bytes := toBigEndian 16 value
      let s := (List.range 6).foldl (fun s i => s.set (MC_CID.CID i) (msbWords bytes i)) s
      (s.setMc { s.mc with cid := bytes }).mcPop
  | 9 =>
      let bits := s.mcwpResult
      let s := s.mcTakeCsd value
      let s := s.when (s.mcBusyWith 0x27 && s.mcwpResult != bits) (·.raise 0x609 s.mc.action s.mcwpResult 0)
      (s.when (!s.flag MC_STATUS.SECTOR || decide (bitsOf value 122 4 < 4))
        (·.setPair MC_CAPH.BLOCKS MC_CAPL.BLOCKS (csdBlocks value))).mcPop.mcNext
  | 7 => if s.mcBusyWith 0x24 then s.mcSelected else s.mcPop.mcNext
  | 12 => if s.mc.saveWait then s.mcDeactivate 4 0x6F else s.mcPop.mcNext
  | 13 =>
      let s := s.set MC_CARDST.ST (value / 256)
      let refused := s.mcBusyWith 0x25 && (bitOf value 31 || bitOf value 26)
      if refused && s.mc.ending.isNone then
        (s.setMc { s.mc with ending := some (0x01, 0), todo := [] }).mcEnded
      else s.mcPop.mcNext
  | _ => s.mcPop.mcNext

/-- R369: `n` cycles of MC_CLK, 1,600 MHz over the divider in force, in units of 10 ns. -/
def State.mcCycles (s : State) (n : Nat) : Nat := n * s.get MC_RUNDIV.CDIV / 16

/-- R370 step 4: the end of its 74 clock cycles, 1 ms after MC_VCC entered its window at `t`. -/
def State.mcStep5 (s : State) (t : Nat) : Nat := t + 100000 + s.mcCycles 74

/-- R370, R379: a command that expects no response has been sent when `f` concerns the next one: CMD0, which waits for
step 4, and the CMD7 that deselects the card. -/
def State.mcUnanswered (s : State) (f : State → State) : State :=
  match s.mcHead with
  | some (.cmd 0 _) =>
      match s.mc.vccAt with
      | some t => s.onTime (s.mcStep5 t) fun s => f s.mcPop
      | none => s
  | some (.cmd 7 0) => f (s.setMc { s.mc with todo := s.mc.todo.drop 1 })
  | _ => f s

/-- R370, R372: a response, its CRC7 good where it has one. -/
def mcResponse (crc : Bool) (value : Nat) (s : State) : State :=
  s.mcUnanswered fun s =>
    match s.mcHead with
    | some (.cmd idx _) =>
        if idx = 1 || crc then s.mcAnswered idx value
        else (s.add MC_CRCERR.COUNT 1).mcRepeat true
    | _ => s

/-- R372: no response in 64 clock cycles. CMD1 is repeated under R370. -/
def mcResponseTimeout (s : State) : State :=
  s.mcUnanswered fun s =>
    match s.mcHead with
    | some (.cmd idx _) => if idx = 1 then s else s.onTime (s.mc.since + s.mcCycles 64) (·.mcRepeat false)
    | _ => s

/-- R370: OCR bit 31 has not read 1 within 1 s of step 4. -/
def mcIdentTimeout (s : State) : State :=
  s.mcUnanswered fun s =>
    match s.mcHead, s.mc.vccAt with
    | some (.cmd 1 _), some t => s.onTime (s.mcStep5 t + 100000000) (·.mcDeactivate 6 0x64)
    | _, _ => s

/-- R373, R374: a data block of an MCRW READ. -/
def State.mcReadData (s : State) (crc : Bool) (bytes : List Nat) : State :=
  let i := s.get MC_DEVCNT.N
  if s.get MC_HOSTCNT.N + 96 ≤ i then s
  else if crc then
    let s := s.putStreamFrom mcStaging (512 * ((s.mc.buf + i) % 96)) (bytes.take 512)
    let s := (s.set MC_DEVCNT.N (i + 1)).add MC_READS.COUNT 1
    let s := s.setMc { s.mc with tries := 0, since := s.clock }
    if i + 1 = s.mc.count then s.mcEnd 0x01 0 false else s
  else
    let s := s.add MC_CRCERR.COUNT 1
    if 3 ≤ s.mc.tries + 1 then s.mcEnd 0x66 0 true
    else
      let s := (s.add MC_RETRIES.COUNT 1).setMc { s.mc with tries := s.mc.tries + 1 }
      s.mcAwait [.cmd 12 0, .cmd 13 0, .cmd 23 (s.mc.count - i), .cmd 18 (s.mcAddress (s.mc.addr + i)), .data]

/-- R370, R374, R377: a data block from the card. -/
def mcReadBlock (crc : Bool) (bytes : List Nat) (s : State) : State :=
  match s.mcHead with
  | some .data =>
      if s.mcBusyWith 0x25 then s.mcReadData crc bytes
      else if s.mcBusyWith 0x26 then
        if crc then s.rpmbResponse bytes else (s.add MC_CRCERR.COUNT 1).mcEnd 0x6B 0 false
      else if s.mc.stage = 1 then
        if crc && bytes.getD 0 0 == 0xA5 then ((s.set MC_STATUS.WIDE 1).mcPop).mcNext
        else (((s.set MC_STATUS.WIDE 0).setMc { s.mc with stage := 2 })).mcAwait [.cmd 6 0x03B70000]
      else if crc then ((s.mcTakeExt bytes).mcPop).mcNext
      else (s.add MC_CRCERR.COUNT 1).mcRepeat true
  | _ => s

/-- R373: a written block is confirmed. -/
def State.mcConfirmed (s : State) : State :=
  let i := s.get MC_DEVCNT.N
  let s := (s.set MC_DEVCNT.N (i + 1)).add MC_WRITES.COUNT 1
  let s := s.setMc { s.mc with since := s.clock }
  if s.mc.saveWait then (if i + 1 = s.mc.count then s.mcDeactivate 4 0x6F else s.mcStop)
  else if i + 1 = s.mc.count then s.mcEnd 0x01 0 false
  else s

/-- R373, R374, R377, R379: busy is released; `ok`: the CRC status was good. -/
def mcBusyRelease (ok : Bool) (s : State) : State :=
  if s.mcHead = some .busy then
    if s.mcWriting then
      if s.mcBegun then if ok then s.mcConfirmed else s.mcEnd 0x67 0 true else s
    else if s.mc.saveWait then s.mcDeactivate 4 0x6F
    else if ok then (s.setMc { s.mc with sent := s.mc.sent.drop 512 }).mcPop.mcNext
    else s.mcEnd 0x67 s.mcFailResult false
  else s

/-- R374: busy held beyond MC_BUSYTO. -/
def mcBusyTimeout (s : State) : State :=
  if s.mcHead = some .busy ∧ (s.mcWriting = false ∨ s.mcBegun = true) then
    s.onTime (s.mc.since + s.get MC_BUSYTO.MS * 100000) fun s => s.mcEnd 0x67 s.mcFailResult (s.mcBusyWith 0x25)
  else s

/-- R381: 10 ms of Pavane step 2 pass. -/
def mcSaveWaitExpiry (s : State) : State :=
  if s.mc.saveWait then s.onTime (s.mc.saveFrom + 1000000) (·.mcDeactivate 4 0x6F) else s

/-- R373: a wait on the host exceeds 1 ms. -/
def mcStarved (s : State) : State :=
  if s.mcWaitsHost && !s.mc.starved then
    s.onTime (s.mc.since + 100000) fun s =>
      (s.raise 0x607 s.mc.action (s.get MC_DEVCNT.N) (s.get MC_HOSTCNT.N)).setMc { s.mc with starved := true }
  else s

/-- R373: a wait on the host exceeds MC_XFRTO. -/
def mcHostWaitTimeout (s : State) : State :=
  if s.mcWaitsHost then s.onTime (s.mc.since + s.get MC_XFRTO.MS * 100000) (·.mcEnd 0x6E 0 true) else s

/-- R373, R384: a write of MC_HOSTCNT. -/
def mcHostcntWrite (w : Writer) (v : Nat) (s : State) : Option State :=
  let ok := s.mcBusyWith 0x25 && decide (s.get MC_HOSTCNT.N ≤ v) && decide (v ≤ s.mc.count) &&
    (s.mc.action == 1 || decide (v ≤ s.get MC_DEVCNT.N + 96))
  if ok && s.mayWrite w 0xC01C .rwm then
    let t := s.set MC_HOSTCNT.N v
    some (if t.mcWaitsHost then t else t.setMc { t.mc with starved := false, since := t.clock })
  else none

/-! ## Instructions -/

/-- R366, R370, R384, R385: MCINIT. -/
def mcinit (op : Op) (s : State) : State :=
  s.issue op 0x24 (unitCost 0x24) fun s ref =>
    let cdiv := op.word 1
    let off := op.dst == 2
    let fields := op.src % 2 == 0 && decide (op.imm9 < 128) && decide (cdiv < 2 ^ 14)
    let legal :=
      match op.dst with
      | 1 => s.powerIn [standby, active, quiet, maint] && s.mcState == mcInactive &&
          s.flag MC_STATUS.PRESENT && !s.flag MC_STATUS.RELREQ
      | 3 => s.mcState == mcIdle && !s.flag MC_STATUS.RELREQ
      | _ => true
    let range := decide (1 ≤ op.dst) && decide (op.dst ≤ 3) && decide (op.imm9 ≤ 95) &&
      (if off then cdiv == 0 else decide (31 ≤ cdiv) && decide (cdiv ≤ 16000))
    s.judge ref (op.ext.length == 1) fields true legal range 0x60 fun s =>
      if off then
        if s.mcState = mcInactive then s.post ref 0x01 0
        else (s.setMc { s.mc with offs := s.mc.offs ++ [ref] }).mcDeactivate 1 0x6F
      else
        let s := (s.set MC_STATUS.STATE mcIdent).setMc { s.mc with
          op := some ref, action := op.dst, wide := bitOf op.src 2, hs := bitOf op.src 1, cdiv := cdiv,
          ending := none, begun := false, saveWait := false }
        if op.dst = 3 then s.mcTune
        else
          let s := ((s.set MC_STATUS.WIDE 0).set MC_STATUS.HS 0).set MC_RUNDIV.CDIV (s.get MC_CLKCFG.IDDIV)
          let s := (s.wantRail 9 true).forceChannel 9
            (some (roundDiv (300 * 2048) 1000, roundDiv (360 * 2048) 1000))
          (s.setMc { s.mc with buf := op.imm9, stage := 0, ext := false, vccAt := none }).mcAwait
            [.cmd 0 0, .cmd 1 0x40FF8000]

/-- R373: the commands that start an MCRW. -/
def State.mcrwStart (s : State) : State :=
  let a := s.mcAddress s.mc.addr
  let n := s.mc.count
  if s.mc.action = 1 then
    s.mcAwait (if n = 1 then [.cmd 17 a, .data] else [.cmd 23 n, .cmd 18 a, .data])
  else s.mcAwait (if n = 1 then [.cmd 24 a, .busy] else [.cmd 23 n, .cmd 25 a, .busy])

/-- R373, R384, R385: MCRW. -/
def mcrw (op : Op) (s : State) : State :=
  s.issue op 0x25 (unitCost 0x25) fun s ref =>
    let addr := op.word 1 % 256 * 2 ^ 24 + op.word 2
    let count := op.word 3
    let fields := op.src == 0 && decide (op.imm9 < 128) && decide (op.word 1 < 256)
    let legal := s.mcState == mcIdle && !s.flag MC_STATUS.RELREQ
    let range := decide (1 ≤ op.dst) && decide (op.dst ≤ 2) && decide (op.imm9 ≤ 95)
    s.judge ref (op.ext.length == 3) fields true legal range 0x60 fun s =>
      let s := (s.set MC_HOSTCNT.N 0).set MC_DEVCNT.N 0
      if count = 0 then s.post ref 0x01 0
      else if 65535 < count then s.post ref 0x69 0
      else if s.mcCapacity < addr + count then s.post ref 0x6A 0
      else if op.dst = 2 ∧ (s.flag MC_STATUS.TMPWP = true ∨ s.flag MC_STATUS.PERMWP = true) then s.post ref 0x68 0
      else
        let s := s.set MC_XCOUNT.N count
        ((s.set MC_STATUS.STATE mcTransfer).setMc { s.mc with
          op := some ref, action := op.dst, buf := op.imm9, addr := addr, count := count, tries := 0,
          starved := false, ending := none, begun := false, saveWait := false }).mcrwStart

/-- R377, R384, R385: MCRPMB. -/
def mcrpmb (op : Op) (s : State) : State :=
  s.issue op 0x26 (unitCost 0x26) fun s ref =>
    let count := op.word 1 / 65536
    let addr := op.word 1 % 65536
    let fields := op.src == 0 && decide (op.imm9 < 128)
    let staging := !(op.dst == 2 || op.dst == 3) || decide (op.imm9 * 512 + count * 256 ≤ mcStagingBytes)
    let legal := s.mcState == mcIdle && !s.flag MC_STATUS.RELREQ && s.mc.key.isSome &&
      (op.dst != 4 || s.flag MC_WPCTL.KEYPROG)
    let range := decide (op.imm9 ≤ 95) &&
      (match op.dst with
       | 2 => decide (1 ≤ count) && decide (count ≤ 2)
       | 3 => decide (1 ≤ count) && decide (count ≤ 32)
       | 1 | 4 => op.word 1 == 0
       | _ => false)
    s.judge ref (op.ext.length == 1) fields staging legal true 0x60 fun s =>
      let done := s.when (op.dst == 4) (·.set MC_WPCTL.KEYPROG 0)
      if !range then done.post ref 0x60 0
      else if !s.flag MC_STATUS.RPMB then done.post ref 0x6D 0
      else
        let s := (s.set MC_STATUS.STATE mcTransfer).setMc { s.mc with
          op := some ref, action := op.dst, buf := op.imm9, addr := addr, count := count, stage := 0,
          frames := [], got := 0, counter := 0, ending := none, begun := false, saveWait := false }
        let enter := [McItem.cmd 6 0x03B30300]
        if op.dst = 3 then (s.rpmbRequest 4 addr).mcAwait (enter ++ rpmbOut 1 1 ++ rpmbIn count)
        else if op.dst = 4 then
          (s.setMc { s.mc with
            sent := rpmbFrame (s.mc.key.getD []) (zeros 256) (zeros 16) 0 0 0 1 ++ resultRequest }).mcAwait
            (enter ++ rpmbOut 1 1 ++ rpmbOut 1 1 ++ rpmbIn 1)
        else (s.rpmbRequest 2 0).mcAwait (enter ++ rpmbOut 1 1 ++ rpmbIn 1)

/-- R379, R384, R385: MCWP. -/
def mcwp (op : Op) (s : State) : State :=
  s.issue op 0x27 (unitCost 0x27) fun s ref =>
    let legal := s.mcState == mcIdle && !s.flag MC_STATUS.RELREQ && (op.dst != 3 || s.flag MC_WPCTL.PERMOK)
    s.judge ref op.ext.isEmpty (op.src == 0 && op.imm9 == 0) true legal
      (decide (1 ≤ op.dst) && decide (op.dst ≤ 4)) 0x60 fun s =>
      if op.dst = 4 then s.post ref 0x01 s.mcwpResult
      else if op.dst = 2 ∧ s.flag MC_STATUS.PERMWP = true then s.post ref 0x68 s.mcwpResult
      else
        let bit := if op.dst = 3 then 13 else 12
        let csd := csdWithCrc (putBit s.mc.csd bit (op.dst != 2))
        let rca := s.get MC_CFG.RCA * 65536
        ((s.set MC_STATUS.STATE mcTransfer).setMc { s.mc with
          op := some ref, action := op.dst, ending := none, begun := false, saveWait := false,
          sent := toBigEndian 16 csd }).mcAwait [.cmd 27 0, .busy, .cmd 7 0, .cmd 9 rca, .cmd 7 rca]

/-! ## Detection, faults and writes -/

/-- R368: the present level has held for MC_DETDB. -/
def mcCardInserted (s : State) : State :=
  if s.coreUp = true ∧ s.flag MC_STATUS.PRESENT = false then
    ((s.set MC_STATUS.PRESENT 1).add MC_INSERTS.COUNT 1).raise 0x601 1 0 0
  else s

/-- R368: a removal edge. -/
def mcCardRemoved (s : State) : State :=
  if s.coreUp = true ∧ s.flag MC_STATUS.PRESENT = true then
    let s := (s.set MC_STATUS.PRESENT 0).add MC_REMOVALS.COUNT 1
    let s := s.raise 0x602 s.mcState (s.get MC_DEVCNT.N) 0
    (s.mcDeactivate 2 0x62).releaseRemoved 2
  else s

/-- R367, R382: a supply fault: 1 low, 2 high, 3 current. -/
def State.mcVccFault (s : State) (kind vcc ma : Nat) : State :=
  if s.mcState = mcIdent ∨ s.mcState = mcIdle ∨ s.mcState = mcTransfer then
    (s.raise 0x605 kind vcc ma).mcDeactivate 3 0x61
  else s

/-- R269, R367: a fault that VM9's flag or the current limit reports once MC_VCC has entered its window, or step 3 of
R370 that fails: it has not entered it 2 ms after EN9 was good for its SETTLE. -/
def mcSupplyFault (kind vcc ma : Nat) (s : State) : State :=
  let x := s.rail 9
  let late := s.portPowered 9 && decide (10 * x.settle + 200 ≤ x.goodFor)
  let reported := s.channelFlag 9 = kind
  if (s.mc.vccAt.isSome = true ∧ (kind = 3 ∨ reported)) ∨ (s.mc.vccAt = none ∧ late = true ∧ kind ≠ 3 ∧ reported) then
    s.mcVccFault kind vcc ma
  else s

/-- R384: a write of value `v` to the port's slot at block offset `o`. -/
def mcWrite (w : Writer) (o v m : Nat) (s : State) : Option State :=
  let off := 0xC000 + o
  let off0 := s.mcState == mcInactive
  if o = 0x004 then 
    s.writeWhere (fun f => off0 && (f.key != MC_CFG.RCA.key || f.of v != 0)) w off v m
  else if o = 0x008 then s.writeIf (off0 && MC_CLKCFG.IDDIV.within v 4000 16000) w off v m
  else if o = 0x010 then s.writeIf (off0 && MC_DETDB.MS.within v 10 500) w off v m
  else if o = 0x014 then s.writeIf (off0 && MC_XFRTO.MS.within v 10 60000) w off v m
  else if o = 0x018 then s.writeIf (off0 && MC_BUSYTO.MS.within v 1 1000) w off v m
  else if o = 0x01C then mcHostcntWrite w (MC_HOSTCNT.N.of v) s
  else if o = 0x03C then s.writeIf (w == .host) w off v m
  else s.plainWrite w off v m

/-- R375: whether the device owns buffer block `b`. -/
def State.mcOwnsBlock (s : State) (b : Nat) : Bool :=
  if s.mcBusyWith 0x25 then
    if s.mc.action = 1 then
      (List.range (min s.mc.count 96)).any fun i => (s.mc.buf + i) % 96 == b
    else
      (List.range (s.get MC_HOSTCNT.N - s.get MC_DEVCNT.N)).any fun i =>
        (s.mc.buf + s.get MC_DEVCNT.N + i) % 96 == b
  else false

def execMcCardInserted (s : State) : Outcome State Fault Refusal := .next (mcCardInserted s)
def execMcCardRemoved (s : State) : Outcome State Fault Refusal := .next (mcCardRemoved s)
def execMcinitOn (op : Op) (s : State) : Outcome State Fault Refusal := .next (mcinit { op with dst := 1 } s)
def execMcinitOff (op : Op) (s : State) : Outcome State Fault Refusal := .next (mcinit { op with dst := 2 } s)
def execMcinitRetune (op : Op) (s : State) : Outcome State Fault Refusal := .next (mcinit { op with dst := 3 } s)
def execMcResponse (crc : Bool) (value : Nat) (s : State) : Outcome State Fault Refusal :=
  .next (mcResponse crc value s)
def execMcResponseTimeout (s : State) : Outcome State Fault Refusal := .next (mcResponseTimeout s)
def execMcIdentTimeout (s : State) : Outcome State Fault Refusal := .next (mcIdentTimeout s)
def execMcrwRead (op : Op) (s : State) : Outcome State Fault Refusal := .next (mcrw { op with dst := 1 } s)
def execMcrwWrite (op : Op) (s : State) : Outcome State Fault Refusal := .next (mcrw { op with dst := 2 } s)
def execMcHostcntWrite (w : Writer) (v : Nat) (s : State) : Outcome State Fault Refusal :=
  .next (s.rowWrite w 0xC01C (mcHostcntWrite w v s))
def execMcReadBlock (crc : Bool) (bytes : List Nat) (s : State) : Outcome State Fault Refusal :=
  .next (mcReadBlock crc bytes s)
def execMcBusyRelease (ok : Bool) (s : State) : Outcome State Fault Refusal := .next (mcBusyRelease ok s)
def execMcBusyTimeout (s : State) : Outcome State Fault Refusal := .next (mcBusyTimeout s)
def execMcSaveWaitExpiry (s : State) : Outcome State Fault Refusal := .next (mcSaveWaitExpiry s)
def execMcStarved (s : State) : Outcome State Fault Refusal := .next (mcStarved s)
def execMcHostWaitTimeout (s : State) : Outcome State Fault Refusal := .next (mcHostWaitTimeout s)
def execMcrpmbCounter (op : Op) (s : State) : Outcome State Fault Refusal := .next (mcrpmb { op with dst := 1 } s)
def execMcrpmbWrite (op : Op) (s : State) : Outcome State Fault Refusal := .next (mcrpmb { op with dst := 2 } s)
def execMcrpmbRead (op : Op) (s : State) : Outcome State Fault Refusal := .next (mcrpmb { op with dst := 3 } s)
def execMcrpmbProgkey (op : Op) (s : State) : Outcome State Fault Refusal := .next (mcrpmb { op with dst := 4 } s)
def execMcwpTmpset (op : Op) (s : State) : Outcome State Fault Refusal := .next (mcwp { op with dst := 1 } s)
def execMcwpTmpclr (op : Op) (s : State) : Outcome State Fault Refusal := .next (mcwp { op with dst := 2 } s)
def execMcwpPermset (op : Op) (s : State) : Outcome State Fault Refusal := .next (mcwp { op with dst := 3 } s)
def execMcwpStatus (op : Op) (s : State) : Outcome State Fault Refusal := .next (mcwp { op with dst := 4 } s)
def execMcSupplyFault (kind vcc ma : Nat) (s : State) : Outcome State Fault Refusal :=
  .next (mcSupplyFault kind vcc ma s)
def execMcDeactivationDone (s : State) : Outcome State Fault Refusal := .next (mcDeactivationDone s)

end Sys2Proof.Machine
end

