-- ==== Sys2Proof/Machine/Cipher.lean ====
section
/-! DEFINITION. The ciphers and the curve the security unit uses: AES-256-GCM (FIPS 197, SP 800-38D)
and P-256 with ECDH and ECDSA (FIPS 186-4). The spec names them (R527, R530); their constants are the
standards' (assumption log 24). -/

namespace Sys2Proof.Machine

/-! ## AES-256 -/

/-- Multiplication in GF(2⁸) modulo x⁸ + x⁴ + x³ + x + 1. -/
def gfMul : Nat → Nat → Nat → Nat
  | 0, _, _ => 0
  | n + 1, a, b =>
      let rest := gfMul n (if 128 ≤ a then 2 * a ^^^ 0x11B else 2 * a) (b / 2)
      if b % 2 = 1 then a ^^^ rest else rest

def gf (a b : Nat) : Nat := gfMul 8 a b

/-- The inverse in GF(2⁸), as the 254th power. -/
def gfInv (a : Nat) : Nat :=
  let a2 := gf a a
  let a4 := gf a2 a2
  let a8 := gf a4 a4
  let a16 := gf a8 a8
  let a32 := gf a16 a16
  let a64 := gf a32 a32
  gf (gf (gf a2 a4) (gf a8 a16)) (gf (gf a32 a64) (gf a64 a64))

def rotl8 (n x : Nat) : Nat := x * 2 ^ n % 256 + x / 2 ^ (8 - n)

/-- The substitution of one byte. -/
def aesSub (x : Nat) : Nat :=
  let b := gfInv x
  b ^^^ rotl8 1 b ^^^ rotl8 2 b ^^^ rotl8 3 b ^^^ rotl8 4 b ^^^ 0x63

def xorEach (a b : List Nat) : List Nat := (a.zip b).map fun p => p.1 ^^^ p.2

/-- The key schedule, newest word first: `i` words are made, `n` are still to be made. -/
def aesSchedule : Nat → Nat → Nat → List (List Nat) → List (List Nat)
  | 0, _, _, w => w
  | n + 1, i, rcon, w =>
      let t := w.getD 0 []
      let t :=
        if i % 8 = 0 then xorEach ((t.drop 1 ++ t.take 1).map aesSub) [rcon, 0, 0, 0]
        else if i % 8 = 4 then t.map aesSub
        else t
      aesSchedule n (i + 1) (if i % 8 = 0 then gf rcon 2 else rcon) (xorEach (w.getD 7 []) t :: w)

/-- The 15 round keys of a 32-byte key. -/
def aesKeys (key : List Nat) : List (List Nat) :=
  pieces 16 16 ((aesSchedule 52 8 1 (pieces 4 8 key).reverse).reverse.flatten)

def aesShift (st : List Nat) : List Nat :=
  (List.range 16).map fun i => st.getD (i % 4 + 4 * ((i / 4 + i % 4) % 4)) 0

def aesMix (st : List Nat) : List Nat :=
  (pieces 4 4 st).flatMap fun c =>
    (List.range 4).map fun r =>
      gf (c.getD r 0) 2 ^^^ gf (c.getD ((r + 1) % 4) 0) 3 ^^^ c.getD ((r + 2) % 4) 0 ^^^
        c.getD ((r + 3) % 4) 0

/-- One block under the round keys. -/
def aesBlock (keys : List (List Nat)) (block : List Nat) : List Nat :=
  let first := xorEach block (keys.getD 0 [])
  let mid := ((keys.drop 1).take 13).foldl (fun st k => xorEach (aesMix (aesShift (st.map aesSub))) k) first
  xorEach (aesShift (mid.map aesSub)) (keys.getD 14 [])

/-! ## Galois/counter mode -/

/-- Multiplication in GF(2¹²⁸), the first bit being the most significant. -/
def ghMul : Nat → Nat → Nat → Nat
  | 0, _, _ => 0
  | n + 1, x, v =>
      let rest := ghMul n x (if v % 2 = 1 then v / 2 ^^^ 0xE1000000000000000000000000000000 else v / 2)
      if bitOf x n then v ^^^ rest else rest

def padTo16 (l : List Nat) : List Nat := l ++ List.replicate ((16 - l.length % 16) % 16) 0

def ghash (h : Nat) (aad text : List Nat) : Nat :=
  let m := padTo16 aad ++ padTo16 text ++ toBigEndian 8 (8 * aad.length) ++ toBigEndian 8 (8 * text.length)
  (pieces 16 (m.length / 16 + 1) m).foldl (fun y b => ghMul 128 (y ^^^ bigEndian b) h) 0

/-- The key stream's blocks from counter `i`. -/
def gcmStream (keys : List (List Nat)) (nonce : List Nat) : Nat → Nat → List Nat
  | 0, _ => []
  | n + 1, i => aesBlock keys (nonce ++ toBigEndian 4 i) ++ gcmStream keys nonce n (i + 1)

/-- Encrypting and decrypting are one operation. -/
def gcmCrypt (key nonce text : List Nat) : List Nat :=
  xorEach text (gcmStream (aesKeys key) nonce (text.length / 16 + 1) 2)

/-- The tag over a ciphertext. -/
def gcmTag (key nonce aad cipher : List Nat) : List Nat :=
  let keys := aesKeys key
  let h := bigEndian (aesBlock keys (List.replicate 16 0))
  xorEach (toBigEndian 16 (ghash h aad cipher)) (aesBlock keys (nonce ++ [0, 0, 0, 1]))

/-! ## P-256 -/

def p256p : Nat := 2 ^ 256 - 2 ^ 224 + 2 ^ 192 + 2 ^ 96 - 1
def p256n : Nat := 0xffffffff00000000ffffffffffffffffbce6faada7179e84f3b9cac2fc632551
def p256b : Nat := 0x5ac635d8aa3a93e7b3ebbd55769886bc651d06b0cc53b0f63bce3c3e27d2604b

/-- A point, none being the point at infinity. -/
abbrev Point := Option (Nat × Nat)

def p256g : Point :=
  some (0x6b17d1f2e12c4247f8bce6e563a440f277037d812deb33a0f4a13945d898c296,
    0x4fe342e2fe1a7f9b8ee7eb4a7c0f9e162bce33576b315ececbb6406837bf51f5)

/-- `a ^ e` modulo `m`, for `e` below 2 ^ `n`. -/
def powMod (m : Nat) : Nat → Nat → Nat → Nat
  | 0, _, _ => 1
  | n + 1, a, e =>
      let rest := powMod m n (a * a % m) (e / 2)
      if e % 2 = 1 then a * rest % m else rest

/-- The inverse modulo a prime below 2²⁵⁶. -/
def invMod (m a : Nat) : Nat := powMod m 256 (a % m) (m - 2)

def pointAdd (a b : Point) : Point :=
  match a, b with
  | none, q => q
  | q, none => q
  | some (x1, y1), some (x2, y2) =>
      if x1 = x2 ∧ (y1 + y2) % p256p = 0 then none
      else
        let slope :=
          if x1 = x2 then (3 * x1 * x1 + (p256p - 3)) * invMod p256p (2 * y1) % p256p
          else (y2 + p256p - y1) * invMod p256p (x2 + p256p - x1) % p256p
        let x3 := (slope * slope + 2 * p256p - x1 - x2) % p256p
        some (x3, (slope * (x1 + p256p - x3) + p256p - y1) % p256p)

/-- `k` times a point, for `k` below 2 ^ `n`. -/
def pointMul : Nat → Nat → Point → Point
  | 0, _, _ => none
  | n + 1, k, p =>
      let rest := pointMul n (k / 2) (pointAdd p p)
      if k % 2 = 1 then pointAdd p rest else rest

/-- X then Y, 32 bytes each. -/
def pointBytes (p : Point) : List Nat :=
  match p with
  | none => List.replicate 64 0
  | some (x, y) => toBigEndian 32 x ++ toBigEndian 32 y

/-- The point in 64 bytes; none where they are no point of the curve. -/
def pointOf (bytes : List Nat) : Point :=
  let x := bigEndian (bytes.take 32)
  let y := bigEndian ((bytes.drop 32).take 32)
  if x < p256p ∧ y < p256p ∧ y * y % p256p = (x * x * x + (p256p - 3) * x + p256b) % p256p then some (x, y)
  else none

/-- The public key of a scalar. -/
def publicKey (d : Nat) : List Nat := pointBytes (pointMul 256 d p256g)

/-- The ECDH shared X coordinate; none where the key is no point. -/
def ecdh (d : Nat) (key : List Nat) : Option (List Nat) :=
  match pointOf key with
  | none => none
  | some p => (pointMul 256 d (some p)).map fun q => toBigEndian 32 q.1

/-- ECDSA over the SHA-256 of `msg` with nonce `k`: r then s. -/
def ecdsaSign (d k : Nat) (msg : List Nat) : List Nat :=
  let z := bigEndian (sha256 msg)
  let r := match pointMul 256 k p256g with
    | none => 0
    | some (x, _) => x % p256n
  toBigEndian 32 r ++ toBigEndian 32 (invMod p256n k * (z + r * d) % p256n)

def ecdsaVerify (key msg sig : List Nat) : Bool :=
  let z := bigEndian (sha256 msg)
  let r := bigEndian (sig.take 32)
  let t := bigEndian ((sig.drop 32).take 32)
  match pointOf key with
  | none => false
  | some q =>
      if r = 0 ∨ t = 0 ∨ p256n ≤ r ∨ p256n ≤ t then false
      else
        let w := invMod p256n t
        match pointAdd (pointMul 256 (z * w % p256n) p256g) (pointMul 256 (r * w % p256n) (some q)) with
        | none => false
        | some (x, _) => x % p256n == r

end Sys2Proof.Machine
end

