-- ==== Sys2Proof/Machine/Nmea.lean ====
section
/-! DEFINITION. R317: the sentences of source 1. Their layout is NMEA 0183's, which the spec names and does not give
(PRESUMED, assumption log 115). -/

namespace Sys2Proof.Machine

/-- R317: an RMC or ZDA sentence: whether its checksum is valid, its time field a whole second and, for RMC, its status
A; and its UTC date and time. A field that is no number makes the time no whole second. -/
structure NmeaSentence where
  rmc : Bool
  checksum : Bool
  whole : Bool
  active : Bool
  year : Nat
  month : Nat
  day : Nat
  hour : Nat
  minute : Nat
  second : Nat
  deriving DecidableEq, Repr

/-- The longest sentence, from its dollar sign to its line feed. -/
def nmeaLongest : Nat := 82

/-- R391: the parser takes a character: a dollar sign begins a sentence. -/
def nmeaTake (line : List Nat) (c : Nat) : List Nat :=
  if c = 36 then [c] else if line ≠ [] ∧ line.length < nmeaLongest then line ++ [c] else line

/-- The fields of a sentence's body, between commas. -/
def nmeaFields : List Nat → List (List Nat)
  | [] => [[]]
  | c :: rest =>
      if c = 44 then [] :: nmeaFields rest
      else
        match nmeaFields rest with
        | [] => [[c]]
        | f :: fs => (c :: f) :: fs

/-- The value of decimal digits; none where there is none or another character. -/
def nmeaNumber (l : List Nat) : Option Nat :=
  if l ≠ [] ∧ l.all (fun c => decide (48 ≤ c) && decide (c ≤ 57)) = true then some (l.foldl (fun n c => 10 * n + (c - 48)) 0)
  else none

/-- The value of a hexadecimal digit. -/
def nmeaHex (c : Nat) : Nat := if c ≤ 57 then c - 48 else if c ≤ 70 then c - 55 else c - 87

/-- `n` decimal digits of a field, from the `i`th. -/
def nmeaPart (f : List Nat) (i n : Nat) : Option Nat := nmeaNumber ((f.drop i).take n)

/-- R317: whether a time field is a whole second: six digits, and no fraction but zeros. -/
def nmeaWhole (f : List Nat) : Bool :=
  (nmeaPart f 0 6).isSome && (f.drop 6 |>.all fun c => c == 46 || c == 48)

/-- R317: the sentence in `line`: none where it is incomplete, or neither RMC nor ZDA. -/
def parseNmea (line : List Nat) : Option NmeaSentence :=
  let body := (line.drop 1).takeWhile (· != 42)
  match (line.drop 1).dropWhile (· != 42) with
  | 42 :: a :: b :: _ =>
      let fields := nmeaFields body
      let kind := (fields.headD []).drop 2
      let field := fun i => fields.getD i []
      let sum := body.foldl (fun x c => x ^^^ c) 0
      let make := fun (rmc active : Bool) (y m d : Option Nat) =>
        let t := field 1
        some { rmc := rmc, active := active,
               checksum := sum == 16 * nmeaHex a + nmeaHex b,
               whole := nmeaWhole t && y.isSome && m.isSome && d.isSome,
               year := y.getD 0, month := m.getD 0, day := d.getD 0,
               hour := (nmeaPart t 0 2).getD 0, minute := (nmeaPart t 2 2).getD 0, second := (nmeaPart t 4 2).getD 0 }
      if kind = [82, 77, 67] then
        make true (field 2 == [65]) (nmeaPart (field 9) 4 2) (nmeaPart (field 9) 2 2) (nmeaPart (field 9) 0 2)
      else if kind = [90, 68, 65] then
        make false true (nmeaNumber (field 4)) (nmeaNumber (field 3)) (nmeaNumber (field 2))
      else none
  | _ => none

end Sys2Proof.Machine
end

