-- ==== Sys2Proof/Machine/Uart.lean ====
section
/-! DEFINITION. The serial ports (R389 to R415). -/

namespace Sys2Proof.Machine

open Reg Host

def State.port (s : State) (p : Nat) : UartPort := (sparseFind p s.ua).getD UartPort.idle

def State.setPort (s : State) (p : Nat) (x : UartPort) : State :=
  { s with ua := sparseStore UartPort.idle p x s.ua }

/-! ## Configuration (R392, R393, R411) -/

/-- R411: bit `i` of the port's word 2. -/
def State.uaBit (s : State) (p i : Nat) : Bool := bitOf (s.get (UA_CFGB.CFG p)) i

def State.uaLoop (s : State) (p : Nat) : Bool := s.uaBit p 16
def State.uaEcho (s : State) (p : Nat) : Bool := s.uaBit p 15
def State.uaAuto (s : State) (p : Nat) : Bool := s.uaBit p 11

/-- R411: samples a bit. -/
def oversampling (code : Nat) : Nat := if code = 0 then 16 else if code = 1 then 8 else 3

/-- R392: the source clock in Hz of word 2. -/
def uaSource (cfg : Nat) : Nat := if bitOf cfg 21 then 32768 else 48000000

/-- R392: the rate of a divider under word 2. -/
def uaRate (div cfg : Nat) : Nat := uaSource cfg * 256 / (div * oversampling (cfg / 2 ^ 22))

def State.uaOwned (s : State) (p : Nat) : Bool := bitOf (s.get UA_OWN.LINK) p

/-- R411: whether words 1 to 4 of an ENABLE lie within their ranges. -/
def uaConfigOk (p div cfg trig : Nat) : Bool :=
  decide (256 ≤ div) && decide (div ≤ 4194303) && cfg / 2 ^ 22 != 3 && bitsOf cfg 18 2 != 3 &&
    cfg % 256 != 0 && trig / 128 % 128 != 0 && trig % 128 != 0 && !(bitOf cfg 16 && bitOf cfg 15) &&
    !(bitOf cfg 11 && p != 2)

/-! ## The transmitter (R400, R403, R404)

The clock says how far it has got; nothing is stored as it goes. -/

/-- R393: the bits of a frame. -/
def State.uaBits (s : State) (p : Nat) : Nat :=
  2 + (if s.uaBit p 20 then 7 else 8) + boolNat (bitsOf (s.get (UA_CFGB.CFG p)) 18 2 != 0) + boolNat (s.uaBit p 17)

/-- R393: `n` character times at the rate in force, in units of 10 ns. -/
def State.uaChars (s : State) (p n : Nat) : Nat := n * s.uaBits p * 100000000 / s.get (UA_RATE.BPS p)

/-- R393: the whole character times in `e` units of 10 ns. -/
def State.uaCharsIn (s : State) (p e : Nat) : Nat := ((e + 1) * s.get (UA_RATE.BPS p) - 1) / (s.uaBits p * 100000000)

/-- R404: `n` sixteenths of a bit, in units of 10 ns. -/
def State.uaSixteenths (s : State) (p n : Nat) : Nat := n * 100000000 / (16 * s.get (UA_RATE.BPS p))

/-- R400: how many characters of the running SEND have left. -/
def State.uaLeft (s : State) (p : Nat) (x : UaXfr) : Nat :=
  let from_ := (s.port p).txAt
  if s.clock < from_ then x.done - 1 else min x.len (x.done + s.uaCharsIn p (s.clock - from_))

/-- R408: how many characters of the running SEND have left at the next character boundary. -/
def State.uaEnded (s : State) (p : Nat) (x : UaXfr) : Nat :=
  let n := s.uaLeft p x
  if s.clock ≤ (s.port p).txAt then x.done
  else if (s.port p).txAt + s.uaChars p (n - x.done) = s.clock then n
  else min x.len (n + 1)

/-- R404: when DE may be released after the last stop bit at `t`. -/
def State.uaTail (s : State) (p t : Nat) : Nat := t + s.uaSixteenths p (s.get (UA_CFGC.TAIL p))

/-- R404, R414: whether DE is asserted: from a burst's lead to its tail, and never in LOOP. -/
def State.uaDe (s : State) (p : Nat) : Bool :=
  !s.uaLoop p && (!(s.port p).sends.isEmpty || (s.port p).txEnd.any fun t => decide (s.clock < s.uaTail p t))

/-- R414: whether the transmit shifter has characters to send. -/
def State.uaSending (s : State) (p : Nat) : Bool :=
  !(s.port p).sends.isEmpty || (s.port p).txEnd.any fun t => decide (s.clock < t)

/-- R405, R414: whether the receiver is known to be in a character: that of a waking edge, or one that LOOP brings. -/
def State.uaReceiving (s : State) (p : Nat) : Bool :=
  ((s.port p).woken && !(s.port p).missed) || (s.uaLoop p && s.uaSending p)

/-- R404: when a character that enters the idle or busy transmitter now starts: at once while DE stays asserted, after
the lead otherwise. -/
def State.uaStart (s : State) (p : Nat) : Nat :=
  let lead := if s.uaLoop p then 0 else s.uaSixteenths p (s.get (UA_CFGC.LEAD p))
  match (s.port p).txEnd with
  | some t => if s.clock < t then t else if s.clock < s.uaTail p t then s.clock else s.clock + lead
  | none => s.clock + lead

/-- R409: the characters of the last burst that have not left. -/
def State.uaOwed (s : State) (p : Nat) : Nat :=
  match (s.port p).txEnd with
  | some t => min (s.port p).owed (ceilDiv ((t - s.clock) * s.get (UA_RATE.BPS p)) (s.uaBits p * 100000000))
  | none => 0

/-- R409, R414: UA_TXBYTESp: the characters that have left. -/
def State.uaTxBytes (s : State) (p : Nat) : Nat :=
  let running := match (s.port p).sends with
    | [] => 0
    | x :: _ => s.uaLeft p x
  s.get (UA_TXBYTES.COUNT p) + ((s.port p).owed - s.uaOwed p) + running

/-- R409: UA_TXBYTESp takes over what has left of the last burst. -/
def State.uaCount (s : State) (p : Nat) : State :=
  let owed := s.uaOwed p
  let s := s.add (UA_TXBYTES.COUNT p) ((s.port p).owed - owed)
  s.setPort p { s.port p with owed := owed }

/-- R403, R404: `n` characters that no SEND names are queued for transmission: an echo, or a frame of the link unit. They
start no sooner than `from_`. -/
def State.uaQueue (s : State) (p from_ n : Nat) : State :=
  let s := s.uaCount p
  let end_ := max from_ (s.uaStart p) + s.uaChars p n
  s.setPort p { s.port p with txEnd := some end_, owed := (s.port p).owed + n }

/-- R390, R411: the transmitter stops and DE is released at once. -/
def State.uaQuiet (s : State) (p : Nat) : State :=
  let s := s.uaCount p
  s.setPort p { s.port p with txEnd := none, owed := 0, woken := false, missed := false }

/-- R407: the rate changes from the next start edge: the character being sent ends at the old one. -/
def State.uaRebase (s : State) (p : Nat) : State :=
  match (s.port p).sends with
  | [] => s
  | x :: rest =>
      let n := s.uaEnded p x
      s.setPort p { s.port p with
        sends := { x with done := n } :: rest, txAt := (s.port p).txAt + s.uaChars p (n - x.done) }

/-- R407: port `p` takes the nominal rate `rate`. -/
def State.uaTakeRate (s : State) (p rate : Nat) : State :=
  let cfg := s.get (UA_CFGB.CFG p)
  let div := roundDiv (48000000 * 256) (rate * oversampling (cfg / 2 ^ 22))
  let s := ((s.uaRebase p).set (UA_CFGA.DIV p) div).set (UA_RATE.BPS p) (uaRate div cfg)
  s.setPort p { s.port p with rate := rate }

/-- R411: the configuration applies. With AUTO the loop's output is the rate held within the
envelope (R15). -/
def State.uaConfigure (s : State) (p div cfg de trig : Nat) : State :=
  let s := (s.set (UA_CFGA.DIV p) div).set (UA_CFGB.CFG p) cfg
  let s := (s.set (UA_CFGC.LEAD p) (de / 2 ^ 16)).set (UA_CFGC.TAIL p) (de / 2 ^ 8)
  let s := (s.set (UA_CFGD.TXTRIG p) (trig / 128)).set (UA_CFGD.RXTRIG p) trig
  let rate := uaRate div cfg
  let s := (s.set (UA_RATE.BPS p) rate).set (UA_STAT.ABPINNED p) 0
  let s := s.setPort p { s.port p with rate := rate, calm := 0 }
  let held := clampNat (s.get UA_ABMIN.BPS) (s.get UA_ABMAX.BPS) rate
  if bitOf cfg 11 ∧ held ≠ rate then s.uaTakeRate p held else s

/-! ## Transfers (R399 to R402) -/

/-- R402: the window of port `p`. -/
def uaWindow (p : Nat) : Nat := uaStaging + 0x4000 * p

/-- R412: a RECV's result. -/
def recvResult (timeout : Bool) (x : UaXfr) : Nat :=
  boolNat timeout * 2 ^ 23 + boolNat x.err * 2 ^ 22 + x.done

/-- R399: `n` bytes of the FIFO move into the oldest RECV. -/
def State.uaMove (s : State) (p n : Nat) : State :=
  match (s.port p).recvs with
  | [] => s
  | x :: rest =>
      let s := s.putStreamFrom (uaWindow p) (x.off + x.done) ((s.port p).rx.take n)
      s.setPort p { s.port p with rx := (s.port p).rx.drop n, recvs := { x with done := x.done + n } :: rest }

/-- R399: the oldest RECV completes. -/
def State.uaRecvEnd (s : State) (p : Nat) (timeout : Bool) : State :=
  match (s.port p).recvs with
  | [] => s
  | x :: rest => (s.setPort p { s.port p with recvs := rest }).post x.ref 0x01 (recvResult timeout x)

/-- R399: receive DMA, for at most `fuel` moves. -/
def State.uaDma : Nat → Nat → State → State
  | 0, _, s => s
  | fuel + 1, p, s =>
      match (s.port p).recvs with
      | [] => s
      | x :: _ =>
          let r := x.len - x.done
          let level := (s.port p).rx.length
          if level = 0 ∨ level < min (s.get (UA_CFGD.RXTRIG p)) r then s
          else
            let s := s.uaMove p (min level r)
            if level < r then s else State.uaDma fuel p (s.uaRecvEnd p false)

/-! ## Receiving (R394 to R399, R406, R407) -/

/-- R398: a character enters the receive FIFO. -/
def State.uaStore (s : State) (p v : Nat) : State :=
  let s := s.add (UA_RXBYTES.COUNT p) 1
  let rx := (s.port p).rx
  let s :=
    if rx.length < 128 then s.setPort p { s.port p with rx := rx ++ [v % 256] }
    else
      let s := (s.setPort p { s.port p with rx := rx.take 127 ++ [v % 256] }).add (UA_OVERRUN.COUNT p) 1
      let s := s.set (UA_FLAGS.OVR p) 1
      if (s.port p).overSecond = some s.seconds then s
      else (s.setPort p { s.port p with overSecond := some s.seconds }).raise 0x681 p 1 128
  State.uaDma 5 p s

/-- R393, R411: whether the parity bit is right for the data bits under word 2. -/
def parityRight (cfg data : Nat) (bit : Bool) : Bool :=
  let n := if bitOf cfg 20 then 7 else 8
  let odd := ((List.range n).filter (bitOf data ·)).length % 2 == 1
  match bitsOf cfg 18 2 with
  | 1 => bit == odd
  | 2 => bit != odd
  | _ => true

/-- R406: the standard rates. -/
def standardRates : List Nat :=
  [300, 600, 1200, 2400, 4800, 9600, 19200, 38400, 57600, 115200, 230400, 460800, 921600]

/-- R406: the standard rate within 5 % of a start bit of `width` periods. -/
def standardRate (width : Nat) : Option Nat :=
  standardRates.find? fun r =>
    decide (95 * r * width ≤ 48000000 * 100) && decide (48000000 * 100 ≤ 105 * r * width)

/-- R407: one update of the autobaud loop. -/
def State.autobaud (s : State) (demand measured : Nat) : State :=
  let lo := s.get UA_ABMIN.BPS
  let step := loopUpdate lo (s.get UA_ABMAX.BPS) demand (s.flag (UA_STAT.ABPINNED 2)) (s.port 2).calm
  let out := step.out.toNat
  let s := (s.setFlag (UA_STAT.ABPINNED 2) step.pinned).setPort 2 { s.port 2 with calm := step.calm }
  let old := (s.port 2).rate
  let s := if out = old then s else (s.uaTakeRate 2 out).raise 0x683 old out measured
  s.when step.event (·.raise 0x684 (if demand < lo then 0 else 1) demand out)

/-- R406: a start bit measured on U2, whatever becomes of its character. -/
def State.measureStart (s : State) (c : UartChar) : State :=
  if s.uaAuto 2 ∧ c.cr ∧ 0 < c.width then
    match standardRate c.width with
    | some r => s.autobaud r (48000000 / c.width)
    | none => s.add (UA_ABREJECT.COUNT 2) 1
  else s

/-- R397: a break. -/
def State.uaBreak (s : State) (p : Nat) : State :=
  let s := (s.add (UA_BREAK.COUNT p) 1).set (UA_FLAGS.BRK p) 1
  if (s.port p).breakSecond = some s.seconds then s
  else (s.setPort p { s.port p with breakSecond := some s.seconds }).raise 0x682 p 1 0

/-- R399, R412: ERR of the RECV in progress. -/
def State.uaError (s : State) (p : Nat) : State :=
  match (s.port p).recvs with
  | [] => s
  | x :: rest => s.setPort p { s.port p with recvs := { x with err := true } :: rest }

/-- R394: a bit's value under word 2: the majority of its decision samples, at 3× the sample. -/
def bitDecision (cfg : Nat) (b : Bool × Bool × Bool) : Bool :=
  if cfg / 2 ^ 22 = 2 then b.1 else (b.1 && b.2.1) || (b.1 && b.2.2) || (b.2.1 && b.2.2)

/-- R394: the decision of bit `k`. -/
def UartChar.bit (c : UartChar) (cfg k : Nat) : Bool := bitDecision cfg (c.bits.getD k (true, true, true))

/-- R394: whether one of the first `n` bits has three samples that disagree. -/
def UartChar.noisy (c : UartChar) (cfg n : Nat) : Bool :=
  cfg / 2 ^ 22 != 2 && (c.bits.take n).any fun b => b.1 != b.2.1 || b.1 != b.2.2

/-- R393: the data bits of word 2. -/
def dataBits (cfg : Nat) : Nat := if bitOf cfg 20 then 7 else 8

/-- R393, R394: the data, least significant bit first. -/
def UartChar.data (c : UartChar) (cfg : Nat) : Nat :=
  (List.range (dataBits cfg)).foldl (fun v k => v + boolNat (c.bit cfg (k + 1)) * 2 ^ k) 0

/-- R393: whether every stop bit of a frame of `n` bits is high. -/
def UartChar.stop (c : UartChar) (cfg n : Nat) : Bool :=
  c.bit cfg (n - 1) && (!bitOf cfg 17 || c.bit cfg (n - 2))

/-- R397: whether every decision of a frame of `n` bits is low. -/
def UartChar.low (c : UartChar) (cfg n : Nat) : Bool := (List.range n).all fun k => !c.bit cfg k

/-- R397, R403: a character that is no glitch and no break. U3's go to the sentence parser first (R391). -/
def State.uaSort (s : State) (p : Nat) (c : UartChar) : State :=
  let cfg := s.get (UA_CFGB.CFG p)
  let data := c.data cfg
  let framing := !c.stop cfg (s.uaBits p)
  let parity := !parityRight cfg data (c.bit cfg (dataBits cfg + 1))
  let s := if p = 3 ∧ framing = false then { s with tm := { s.tm with line := nmeaTake s.tm.line data } } else s
  let s := s.when framing (·.add (UA_FRAMING.COUNT p) 1)
  let s := s.when parity (·.add (UA_PARITY.COUNT p) 1)
  let s := s.when (framing || parity) (·.uaError p)
  let s := s.when (s.uaEcho p && !framing) (·.uaQueue p s.clock 1)
  if (framing || parity) && bitOf cfg 10 then s
  else if s.uaOwned p then s.add (UA_RXBYTES.COUNT p) 1
  else s.uaStore p data

/-- R394, R395, R397: a character that DEMUTE does not discard. UA_NOISEp grows by at most one in its time (R409,
assumption log 116). -/
def State.uaDecide (s : State) (p : Nat) (c : UartChar) : State :=
  let cfg := s.get (UA_CFGB.CFG p)
  let n := s.uaBits p
  let glitch := c.bit cfg 0
  let s := s.when (c.noisy cfg (if glitch then 1 else n)) (·.add (UA_NOISE.COUNT p) 1)
  if glitch then s.add (UA_GLITCH.COUNT p) 1
  else if c.low cfg n then s.uaBreak p
  else s.uaSort p c

/-- R395, R397, R405, R406: a character reaches the receiver of port `p`. One that the wake missed is discarded. -/
def State.uaReceive (s : State) (p : Nat) (c : UartChar) : State :=
  let q := s.port p
  let missed := q.missed && decide (s.clock ≤ q.rxAt + s.uaChars p 2)
  let s := s.setPort p { q with rxAt := s.clock, woken := false, missed := false }
  if missed then s
  else
    let s := if s.uaBit p 14 && c.muted then s else s.uaDecide p c
    if p = 2 then s.measureStart c else s

/-- R403: byte `v` as LOOP brings it back. -/
def State.loopChar (s : State) (p v : Nat) : UartChar :=
  let cfg := s.get (UA_CFGB.CFG p)
  let d := dataBits cfg
  let odd := ((List.range d).filter (bitOf v ·)).length % 2 == 1
  let parity := match bitsOf cfg 18 2 with
    | 1 => [odd]
    | 2 => [!odd]
    | _ => []
  let all := false :: (List.range d).map (bitOf v ·) ++ parity
  { bits := all.map fun b => (b, b, b), muted := false,
    width := oversampling (cfg / 2 ^ 22) * s.get (UA_CFGA.DIV p) / 256, cr := v % 2 ^ d == 0x0D }

/-- R403: with LOOP the first `n` characters of SEND `x` have come back. -/
def State.uaLoopTo (s : State) (p : Nat) (x : UaXfr) (n : Nat) : State :=
  if s.uaLoop p then
    let from_ := (s.port p).looped
    let s := s.setPort p { s.port p with looped := max from_ n }
    (List.range (n - from_)).foldl (fun s i =>
      s.uaReceive p (s.loopChar p (s.streamByte (uaWindow p) (x.off + from_ + i)))) s
  else s

/-- R395, R397, R403, R406: a character completes: at the port's pin or, with LOOP, the next one of the running
SEND. -/
def State.uaCharacter (p : Nat) (c : UartChar) (s : State) : State :=
  if s.coreUp = true ∧ p < 4 ∧ s.flag (UA_STAT.ENABLED p) = true ∧ s.flag (UA_STAT.SLEEPING p) = false then
    if s.uaLoop p then
      match (s.port p).sends with
      | [] => s
      | x :: _ =>
          let n := (s.port p).looped + 1
          if n ≤ x.len then s.onTime ((s.port p).txAt + s.uaChars p (n - x.done)) (·.uaLoopTo p x n) else s
    else s.uaReceive p c
  else s

/-! ## Stopping (R390, R408, R411) -/

/-- R408, R412, R413: the SENDs of port `p` end: the running one with `running` and the bytes sent, those not started
with `waiting`. The Pavane freeze counts to the next character boundary; the character in the shifter leaves
in any case. -/
def State.uaStopSends (s : State) (p running waiting : Nat) : State :=
  match (s.port p).sends with
  | [] => s
  | x :: rest =>
      let ended := s.uaEnded p x
      let n := if running = 0x72 then ended else s.uaLeft p x
      let end_ := (s.port p).txAt + s.uaChars p (ended - x.done)
      let s := ((s.uaLoopTo p x n).uaCount p).add (UA_TXBYTES.COUNT p) n
      let s := s.setPort p { s.port p with
        sends := [], looped := 0, owed := ended - n, txEnd := if ended = 0 then (s.port p).txEnd else some end_ }
      s.postAll ((x.ref, running, n) :: rest.map fun y => (y.ref, waiting, 0))

/-- R408, R412, R413: the RECVs of port `p` end. -/
def State.uaStopRecvs (s : State) (p running waiting : Nat) : State :=
  match (s.port p).recvs with
  | [] => s
  | x :: rest =>
      (s.setPort p { s.port p with recvs := [] }).postAll
        ((x.ref, running, recvResult false x) :: rest.map fun y => (y.ref, waiting, 0))

/-- R411, R413: DISABLE, FLUSH, or the link taking the port: both FIFOs are emptied and every
transfer completes with status 0x73. -/
def State.uaFlush (s : State) (p : Nat) : State :=
  let s := (s.uaStopSends p 0x73 0x73).uaStopRecvs p 0x73 0x73
  s.setPort p { s.port p with rx := [] }

/-- R408: the freeze of Pavane step 1. -/
def State.uaFreeze (s : State) : State :=
  [0, 1, 2, 3].foldl (fun s p => (s.uaStopSends p 0x72 0x03).uaStopRecvs p 0x72 0x03) s

/-- R408: a port stops: it sends and receives nothing. -/
def State.uaStop (s : State) (p : Nat) : State :=
  ((s.set (UA_STAT.ENABLED p) 0).set (UA_STAT.SLEEPING p) 0).uaQuiet p

/-- R408: the IO rails go down. -/
def State.uaStopAll (s : State) : State := [0, 1, 2, 3].foldl State.uaStop s

/-- R390: the link unit takes port `p`, whose configuration it replaces. -/
def State.uaTake (s : State) (p div cfg de trig : Nat) : State :=
  let n := (s.port p).sends.length + (s.port p).recvs.length
  let s := (s.uaFlush p).uaQuiet p
  let s := (s.setMaskBit UA_OWN.LINK p true).set (UA_STAT.LINK p) 1
  let s := ((s.uaConfigure p div cfg de trig).set (UA_STAT.ENABLED p) 1).set (UA_STAT.SLEEPING p) 0
  s.raise 0x685 p 1 n

/-- R390: the link unit returns port `p`. -/
def State.uaReturn (s : State) (p : Nat) : State :=
  let s := (s.setMaskBit UA_OWN.LINK p false).set (UA_STAT.LINK p) 0
  ((s.set (UA_STAT.ENABLED p) 0).uaQuiet p).raise 0x685 p 0 0

/-- R399: what the FIFO holds moves, and the oldest RECV completes if it holds a byte. -/
def State.uaIdle (s : State) (p : Nat) : State :=
  match (s.port p).recvs with
  | [] => s
  | x :: _ =>
      let n := min (s.port p).rx.length (x.len - x.done)
      let s := s.uaMove p n
      if 0 < x.done + n then s.uaRecvEnd p (decide (x.done + n < x.len)) else s

/-- R399: the line has been idle for RXTO character times. -/
def uartRxIdle (p : Nat) (s : State) : State :=
  if s.coreUp then s.onTime ((s.port p).rxAt + s.uaChars p (s.get (UA_CFGB.CFG p) % 256)) (·.uaIdle p) else s

/-- R400: when the last stop bit of the running SEND `x` leaves. -/
def State.uaSendEnd (s : State) (p : Nat) (x : UaXfr) : Nat := (s.port p).txAt + s.uaChars p (x.len - x.done)

/-- R400, R403: SEND `x` has left, and the next one follows without a gap. With LOOP its bytes reach the receiver. -/
def State.uaSent (s : State) (p : Nat) (x : UaXfr) (rest : List UaXfr) : State :=
  let end_ := s.uaSendEnd p x
  let s := ((s.uaLoopTo p x x.len).uaCount p).add (UA_TXBYTES.COUNT p) x.len
  let s := s.setPort p { s.port p with sends := rest, txAt := end_, looped := 0, txEnd := some end_ }
  s.post x.ref 0x01 x.len

/-- R400: the oldest SEND ends. -/
def uartSendDone (p : Nat) (s : State) : State :=
  match (s.port p).sends with
  | [] => s
  | x :: rest => if s.flag (UA_STAT.ENABLED p) then s.onTime (s.uaSendEnd p x) (·.uaSent p x rest) else s

/-- R405: the conditions of sleep; the line has been idle for 2 character times. -/
def uartSleep (p : Nat) (s : State) : State :=
  if s.coreUp = true ∧ s.flag (UA_STAT.ENABLED p) = true ∧ s.uaBit p 12 = true ∧ (s.port p).woken = false then
    s.onTime ((s.port p).rxAt + s.uaChars p 2) fun s =>
      s.when (!s.uaDe p && !s.uaSending p) (·.set (UA_STAT.SLEEPING p) 1)
  else s

/-- R405: whether the first decision sample falls at least 1.5 µs after the edge. -/
def State.wakeCatches (s : State) (p : Nat) : Bool :=
  let cfg := s.get (UA_CFGB.CFG p)
  let n := if cfg / 2 ^ 22 = 0 then 7 else if cfg / 2 ^ 22 = 1 then 3 else 1
  decide (uaSource cfg * 256 * 15 ≤ n * s.get (UA_CFGA.DIV p) * 10000000)

/-- R405: a falling edge on RX of a sleeping port, which LOOP ignores (R403). A character that the wake misses is
counted, and discarded when it completes. -/
def uartWake (p : Nat) (s : State) : State :=
  if s.coreUp = true ∧ s.flag (UA_STAT.SLEEPING p) = true ∧ s.uaLoop p = false then
    let missed := !s.wakeCatches p
    let s := s.set (UA_STAT.SLEEPING p) 0
    let s := s.setPort p { s.port p with rxAt := s.clock, woken := !missed, missed := missed }
    s.when missed (·.add (UA_WAKELOST.COUNT p) 1)
  else s

/-! ## Instructions (R410 to R412) -/

def uacfg (op : Op) (s : State) : State :=
  s.issue op 0x28 (unitCost 0x28) fun s ref =>
    let p := op.imm9 % 4
    let n := op.ext.length
    let ext := if op.dst = 1 then n == 4 else if op.dst = 2 ∨ op.dst = 3 then n == 0 else n == 4 || n == 0
    let div := op.word 1
    let cfg := op.word 2
    let fields := op.src == 0 && decide (op.imm9 < 4) && decide (div < 2 ^ 22) && bitsOf cfg 8 2 == 0 &&
      op.word 3 % 256 == 0 && decide (op.word 4 < 2 ^ 14)
    let idle := (s.port p).sends.isEmpty && (s.port p).recvs.isEmpty
    let legal := !s.uaOwned p && (op.dst != 1 || idle)
    let range := if op.dst = 1 then uaConfigOk p div cfg (op.word 4) else op.dst == 2 || op.dst == 3
    s.judge ref ext fields true legal range 0x70 fun s =>
      if op.dst = 1 then
        let s := ((s.uaConfigure p div cfg (op.word 3) (op.word 4)).set (UA_STAT.ENABLED p) 1).set
          (UA_STAT.SLEEPING p) 0
        s.post ref 0x01 (s.get (UA_RATE.BPS p))
      else
        let s := s.uaFlush p
        (s.when (op.dst == 2) (·.uaStop p)).post ref 0x01 0

def uaxfr (op : Op) (s : State) : State :=
  s.issue op 0x29 (unitCost 0x29) fun s ref =>
    let p := op.imm9 % 4
    let off := op.word 1
    let len := op.word 2
    let fields := op.src == 0 && decide (op.imm9 < 4) && decide (off < 2 ^ 14) && decide (len < 2 ^ 14)
    let legal := s.flag (UA_STAT.ENABLED p) && !s.uaOwned p && (op.dst != 1 || !s.uaEcho p)
    s.judge ref (op.ext.length == 2) fields (rangeInside off len 12288) legal
      (op.dst == 1 || op.dst == 2) 0x70 fun s =>
      let x : UaXfr := ⟨ref, off, len, 0, false⟩
      if len = 0 then s.post ref 0x01 0
      else if op.dst = 1 then
        if 4 ≤ (s.port p).sends.length then s.post ref 0x71 0
        else
          let sends := (s.port p).sends
          let s := s.setPort p { s.port p with
            sends := sends ++ [x], txAt := if sends.isEmpty then s.uaStart p else (s.port p).txAt }
          s.set (UA_STAT.SLEEPING p) 0
      else if 4 ≤ (s.port p).recvs.length then s.post ref 0x71 0
      else State.uaDma 5 p (s.setPort p { s.port p with recvs := (s.port p).recvs ++ [x] })

/-- R402: whether the device owns byte `b` of port `p`'s window. -/
def State.uaOwnsByte (s : State) (p b : Nat) : Bool :=
  ((s.port p).sends ++ (s.port p).recvs).any fun x => decide (x.off ≤ b) && decide (b < x.off + x.len)

/-- R414: a write of value `v` to the unit's slot at block offset `o`. -/
def uaWrite (w : Writer) (o v m : Nat) (s : State) : Option State :=
  let off := 0xD000 + o
  if o = 0x004 then
    s.writeIf (UA_ABMIN.BPS.within v 300 921600 && decide (v ≤ s.get UA_ABMAX.BPS)) w off v m
  else if o = 0x008 then
    s.writeIf (UA_ABMAX.BPS.within v 300 921600 && decide (s.get UA_ABMIN.BPS ≤ v)) w off v m
  else s.plainWrite w off v m

/-- R400, R414: the level of the transmit FIFO once `n` of `len` bytes have entered the shifter: at TXTRIG the DMA has
filled it again. -/
def txLevel (trig len n : Nat) : Nat := min (128 - n % (128 - trig)) (len - n)

/-- R414: UA_LEVELp. A character enters the shifter as its start bit begins. -/
def State.uaLevel (s : State) (p : Nat) : Nat :=
  let tx := match (s.port p).sends with
    | [] => 0
    | x :: _ => txLevel (s.get (UA_CFGD.TXTRIG p)) x.len (if s.clock < (s.port p).txAt then x.done else s.uaLeft p x + 1)
  tx * 256 + (s.port p).rx.length

/-- R414: UA_PENDp. -/
def State.uaPend (s : State) (p : Nat) : Nat := (s.port p).sends.length * 8 + (s.port p).recvs.length

def execUacfgEnable (op : Op) (s : State) : Outcome State Fault Refusal := .next (uacfg { op with dst := 1 } s)
def execUacfgDisable (op : Op) (s : State) : Outcome State Fault Refusal := .next (uacfg { op with dst := 2 } s)
def execUacfgFlush (op : Op) (s : State) : Outcome State Fault Refusal := .next (uacfg { op with dst := 3 } s)
def execUaxfrSend (op : Op) (s : State) : Outcome State Fault Refusal := .next (uaxfr { op with dst := 1 } s)
def execUaxfrRecv (op : Op) (s : State) : Outcome State Fault Refusal := .next (uaxfr { op with dst := 2 } s)
def execUartRxIdleTimeout (p : Nat) (s : State) : Outcome State Fault Refusal := .next (uartRxIdle p s)
def execUartSendDone (p : Nat) (s : State) : Outcome State Fault Refusal := .next (uartSendDone p s)
def execUartSleepEntry (p : Nat) (s : State) : Outcome State Fault Refusal := .next (uartSleep p s)
def execUartWake (p : Nat) (s : State) : Outcome State Fault Refusal := .next (uartWake p s)

end Sys2Proof.Machine
end

