-- ==== Sys2Proof/Machine/Nand.lean ====
section
/-! DEFINITION. The NAND of the flash store (R213 to R220, R226 to R230): its geometry, blocks and stripes, the
erase ledger, what its reads and programs report, and the root record (R222, R223). -/

namespace Sys2Proof.Machine

open Reg

/-! ## Geometry (R213, R215, R219) -/

/-- R235: the planes of a LUN. -/
def State.planeCount (s : State) : Nat := 2 ^ s.get FL_GEOM0.PLANES

/-- R235: B, the bytes of page data. -/
def State.pageBytes (s : State) : Nat := 4096 * 2 ^ s.get FL_GEOM0.PAGESZ

/-- R213: the geometries the store supports. -/
def State.geometryOk (s : State) : Bool :=
  s.get FL_GEOM0.CHANNELS != 0 && decide (s.get FL_GEOM0.PLANES ≤ 2) && decide (s.get FL_GEOM0.PAGESZ ≤ 2) &&
    decide (s.get FL_GEOM0.PARITY ≤ 2) && decide (64 ≤ s.get FL_GEOM1.PAGES) && decide (s.get FL_GEOM1.PAGES ≤ 1536) &&
    decide (256 ≤ s.get FL_GEOM2.BLOCKS) && decide (s.get FL_GEOM2.BLOCKS ≤ 8192)

/-- R215: the parity bytes of a codeword. -/
def State.parityBytes (s : State) : Nat := 256 + 64 * s.get FL_GEOM0.PARITY

/-- R215: the spare bytes a codeword needs: 32 of metadata and its parity. -/
def State.spareNeeded (s : State) : Nat := 32 + s.parityBytes

/-- R215: T, the bit errors a codeword's hard decision corrects. -/
def State.correctable (s : State) : Nat := 72 + 18 * s.get FL_GEOM0.PARITY

/-- R215: bytes 0 to 27 of a codeword's metadata. -/
def Codeword.front (c : Codeword) : List Nat :=
  c.area :: (toLittleEndian 6 c.owner ++ toLittleEndian 4 c.page ++ toLittleEndian 6 c.seq ++ zeros 11)

/-- R215: the 32 metadata bytes of a codeword. -/
def Codeword.spare (c : Codeword) : List Nat := c.front ++ toLittleEndian 4 c.crc

/-- R215: the data of the codewords that hold `bytes`, the last filled up with zeros. -/
def dataPages (bytes : List Nat) : List (List Nat) :=
  (List.range (ceilDiv bytes.length 4096)).map fun i =>
    let part := (bytes.drop (4096 * i)).take 4096
    part ++ zeros (4096 - part.length)

/-- R224, R226: the channels in use. -/
def State.channelsInUse (s : State) : List Nat := (List.range 4).filter fun c => s.maskBit FL_CHUSE.CH c

def State.channelsUsed (s : State) : Nat := s.channelsInUse.length

/-- The LUNs of channel `c`, packed as R236 packs them, shifted right by 6. -/
def State.lunsOf (s : State) (c : Nat) : List Nat :=
  (List.range (s.get FL_GEOM0.TARGETS + 1)).flatMap fun t =>
    (List.range (s.get FL_GEOM0.LUNS + 1)).map fun l => 16 * c + 4 * t + l

/-- The planes in use, packed as R236 packs them, shifted right by 4. -/
def State.planesInUse (s : State) : List Nat :=
  (s.channelsInUse.flatMap s.lunsOf).flatMap fun l => (List.range s.planeCount).map fun p => 4 * l + p

/-- R219: the blocks of a stripe. -/
def State.stripeBlocks (s : State) : Nat :=
  s.channelsUsed * (s.get FL_GEOM0.TARGETS + 1) * (s.get FL_GEOM0.LUNS + 1) * s.planeCount

/-- R215, R219: the codewords, of 4 KiB of data each, of a stripe. -/
def State.stripePages (s : State) : Nat := s.stripeBlocks * s.get FL_GEOM1.PAGES * 2 ^ s.get FL_GEOM0.PAGESZ

def State.stripeBytes (s : State) : Nat := 4096 * s.stripePages

/-- The stripes that `n` codewords take. -/
def State.stripesFor (s : State) (n : Nat) : Nat := if s.stripePages = 0 then 0 else ceilDiv n s.stripePages

/-! ## Capacity (R219, R220) -/

/-- R219: FL_JSTRIPES, the stripes of the journal ring; 0 selects the fewest that hold an eighth of the DRAM. -/
def State.journalStripes (s : State) : Nat :=
  if s.get FL_JSTRIPES.STRIPES = 0 then
    if s.stripePages = 0 then 0 else max 2 (ceilDiv (s.dramBytes / 8) s.stripeBytes)
  else s.get FL_JSTRIPES.STRIPES

def State.journalCap (s : State) : Nat := s.journalStripes * s.stripePages

/-- R220: S, the persistent and save-only regions declared, in bytes. -/
def State.keptBytes (s : State) : Nat :=
  ((List.range 64).map fun k => if s.regionKept k then (s.regionSpan k).2 else 0).sum

/-- R220: what FL_REQGIB reads. -/
def State.requiredGib (s : State) : Nat :=
  ceilDiv (2 * s.dramBytes + 2 * s.keptBytes + s.journalStripes * s.stripeBytes + 2 ^ 30) (2 ^ 30)

/-- R220: what FL_CAPGIB reads. -/
def State.capacityGib (s : State) : Nat := s.get FL_STRIPES.COUNT * s.stripeBytes / 2 ^ 30

/-- R220: the figures are renewed, with the event of the condition's start or end. -/
def State.checkCapacity (s : State) : State :=
  let s := (s.set FL_CAPGIB.GIB s.capacityGib).set FL_REQGIB.GIB s.requiredGib
  let short := decide (s.get FL_CAPGIB.GIB < s.get FL_REQGIB.GIB)
  if short == s.flag FL_STATUS.CAPSHORT || !s.flag FL_STATUS.READY then s
  else
    (s.setFlag FL_STATUS.CAPSHORT short).raise (if short then 0x306 else 0x307) (s.get FL_CAPGIB.GIB)
      (s.get FL_REQGIB.GIB) 0

/-! ## Stripes (R219, R227, R230) -/

def State.setFl (s : State) (fl : Flash) : State := { s with fl := fl }

/-- R218, R228: whether stripe `k` is in service. -/
def State.inService (s : State) (k : Nat) : Bool := decide (k < s.fl.stripes) && !s.fl.retired.contains k

/-- R219: the free pool. -/
def State.freePool (s : State) : List Nat :=
  (List.range s.fl.stripes).filter fun k => !s.fl.retired.contains k && (sparseFind k s.fl.uses).isNone

/-- R234 ITEM 5: the number of free stripes. -/
def State.freeStripes (s : State) : Nat := s.freePool.length

/-- The stripes that hold `use`, in the order in which they were taken. -/
def State.stripesOf (s : State) (use : StripeUse) : List Nat := (s.fl.uses.filter fun e => e.2 == use).map (·.1)

/-- R230: the erase count of stripe `k`. -/
def State.wearOf (s : State) (k : Nat) : Nat := (sparseFind k s.fl.wear).getD 0

/-- R230: the erase counts of the stripes in service. -/
def State.wearCounts (s : State) : List Nat := (s.fl.wear.filter fun e => s.inService e.1).map (·.2)

/-- R230: FL_MEANPE and FL_MAXPE of the ledger. -/
def State.showWear (s : State) : State :=
  let n := s.get FL_STRIPES.COUNT
  let s := s.set FL_MEANPE.CYCLES (if n = 0 then 0 else s.wearCounts.sum / n)
  s.set FL_MAXPE.CYCLES (s.wearCounts.foldl max 0)

/-- R230: the ledger counts an erase of stripe `k`. -/
def State.eraseStripe (s : State) (k : Nat) : State :=
  (s.setFl { s.fl with wear := sparsePut k (s.wearOf k + 1) s.fl.wear }).showWear

/-- R227, R235: FL_ERASED follows the erased free stripes. -/
def State.showErased (s : State) : State := s.set FL_ERASED.COUNT s.fl.erased.length

/-- R230: the less worn of two stripes; of two alike an erased one. -/
def State.lessWorn (s : State) (a b : Nat) : Nat :=
  if s.wearOf b < s.wearOf a then b
  else if s.wearOf b = s.wearOf a ∧ s.fl.erased.contains b = true ∧ s.fl.erased.contains a = false then b
  else a

/-- R230: the least worn of some stripes. -/
def State.leastWorn (s : State) : List Nat → Option Nat
  | [] => none
  | k :: rest => some (rest.foldl s.lessWorn k)

/-- R227, R230: up to `n` more free stripes are erased, the least worn first. -/
def State.eraseFree : Nat → State → State
  | 0, s => s
  | n + 1, s =>
      match s.leastWorn (s.freePool.filter fun k => !s.fl.erased.contains k) with
      | some k => State.eraseFree n ((s.eraseStripe k).setFl { (s.eraseStripe k).fl with erased := insertNat k s.fl.erased })
      | none => s

/-- R227: with a base at least FL_ERESV free stripes are kept erased. -/
def State.keepErased (s : State) : State :=
  let s := s.when (s.fl.base.isSome && s.flag FL_STATUS.READY) fun s =>
    s.eraseFree (s.get FL_ERESV.STRIPES - s.fl.erased.length)
  s.showErased

/-- R219, R230: the least worn stripe of the free pool, erased, leaves it. -/
def State.pickStripe (s : State) : Option (Nat × State) :=
  (s.leastWorn s.freePool).map fun k =>
    let t := if s.fl.erased.contains k then s else s.eraseStripe k
    (k, t.setFl { t.fl with erased := t.fl.erased.filter (· != k) })

/-- R219, R230: a stripe of the free pool takes `use`. -/
def State.takeStripe (s : State) (use : StripeUse) : Option State :=
  s.pickStripe.map fun (k, t) => t.setFl { t.fl with uses := t.fl.uses ++ [(k, use)] }

/-- R219, R220: `n` stripes take `use`; none where the free pool has too few. -/
def State.takeStripes (use : StripeUse) : Nat → State → Option State
  | 0, s => some s
  | n + 1, s => (s.takeStripe use).bind (State.takeStripes use n)

/-- R223, R230: copies of stripes that are not in `uses` any more are free. -/
def dropCopies (uses : List (Nat × StripeUse)) : List (Nat × StripeUse) :=
  uses.filter fun e =>
    match e.2 with
    | .moved k => uses.any fun f => f.1 == k
    | _ => true

/-- R223: the stripes of `use` join the free pool. -/
def State.dropUse (s : State) (use : StripeUse) : State :=
  s.setFl { s.fl with
    uses := dropCopies (s.fl.uses.filter fun e => e.2 != use)
    weak := s.fl.weak.filter fun k => sparseFind k s.fl.uses != some use }

/-- R223, R230: the copies that a root record names from now on stand in for the stripes they copy. -/
def settleCopies (uses : List (Nat × StripeUse)) : List (Nat × StripeUse) :=
  let copies := uses.filterMap fun e =>
    match e.2 with
    | .moved k => some (k, e.1)
    | _ => none
  (uses.filter fun e => !(copies.any fun c => c.2 == e.1)).map fun e =>
    (((copies.find? fun c => c.1 == e.1).map (·.2)).getD e.1, e.2)

/-- R223: what was written as `old` is now `new`. -/
def State.renameUse (s : State) (old new : StripeUse) : State :=
  s.setFl { s.fl with uses := s.fl.uses.map fun e => (e.1, if e.2 == old then new else e.2) }

/-- R219, R230: up to `n` free stripes join the ring, the least worn first; each is erased as its first page comes. -/
def State.growRing : Nat → State → State
  | 0, s => s
  | n + 1, s =>
      match s.leastWorn s.freePool with
      | some k =>
          State.growRing n (s.setFl { s.fl with
            uses := s.fl.uses ++ [(k, .journal)], erased := s.fl.erased.filter (· != k) })
      | none => s

/-- R219: the ring has the stripes FL_JSTRIPES gives it, as far as the pool goes. A ring that changes begins with the
next page. -/
def State.fitRing (s : State) : State :=
  let have_ := s.stripesOf .journal
  let want := s.journalStripes
  if have_.length = want then s
  else
    let s := s.setFl { s.fl with ringFrom := s.getPair SH_JSEQH.JSEQ SH_JSEQL.JSEQ + 1 }
    if want < have_.length then
      s.setFl { s.fl with uses := s.fl.uses.filter fun e => e.2 != StripeUse.journal || (have_.take want).contains e.1 }
    else State.growRing (want - have_.length) s

/-- R219, R230: where the page of sequence `n` begins a stripe of the ring, that is erased for it. -/
def State.turnRing (s : State) (n : Nat) : State :=
  if s.journalCap = 0 then s
  else
    let place := (n - s.fl.ringFrom) % s.journalCap
    if place % s.stripePages = 0 then
      match (s.stripesOf .journal)[place / s.stripePages]? with
      | some k =>
          let s := s.eraseStripe k
          s.setFl { s.fl with uses := s.fl.uses.filter fun e => e.2 != StripeUse.moved k }
      | none => s
    else s

/-! ## Rates (R226) -/

/-- R226: SH_FLASHRATE. -/
def State.showFlashRate (s : State) : State :=
  s.set SH_FLASHRATE.MBS ((100 - s.get FL_BGSHARE.PCT) * s.get FL_RATE.MBS / 1000 * 10)

/-- R226: the longest of a LUN's last 64 programs, or tPROG before any, in µs. -/
def State.programTime (s : State) (lun : Nat) : Nat :=
  match sparseFind lun s.fl.times with
  | some l => l.foldl max 1
  | none => max 1 s.fl.tprog

/-- R214, R226: a channel's program rate in MB/s, no more than 400: each LUN programs a page in every plane. -/
def State.channelRate (s : State) (c : Nat) : Nat :=
  let each := (s.lunsOf c).map fun l => s.planeCount * s.pageBytes * 1000000 / s.programTime l
  min 400 (each.sum / 1000000)

/-- R226: FL_RATE follows the program times. -/
def State.showRate (s : State) : State :=
  (s.set FL_RATE.MBS (s.channelsInUse.map s.channelRate).sum).showFlashRate

/-! ## Reads and programs (R216, R226, R229, R231) -/

/-- R229: the codeword's stripe needs refresh. -/
def State.weakRead (s : State) (c : CodewordRead) : Bool :=
  c.retries != 0 || decide (s.get FL_WEAKPCT.PCT * s.correctable < 100 * c.errors)

/-- R216: one codeword that a read did not find clean; `source` as CODEWORD_LOST gives it. -/
def State.codewordRead (source : Nat) (s : State) (c : CodewordRead) : State :=
  let s := s.add FL_RETRIES.COUNT c.retries
  if c.correct then s.when (c.errors != 0) (·.add FL_CORR.COUNT 1)
  else
    let s := s.setFl { s.fl with
      lost := if s.fl.lost.contains (c.area, c.page) then s.fl.lost else (c.area, c.page) :: s.fl.lost
      lostSum := s.fl.lostSum + 1 }
    (s.add FL_UNCORR.COUNT 1).raise 0x304 c.area c.page source

/-- R229: a stripe in use is to be refreshed. -/
def State.markWeak (s : State) (k : Nat) : State :=
  if (sparseFind k s.fl.uses).isSome then s.setFl { s.fl with weak := insertNat k s.fl.weak } else s

/-- R226: a LUN's program took `t` µs. -/
def State.timeProgram (s : State) (p : Nat × Nat) : State :=
  s.setFl { s.fl with times := sparsePut p.1 ((p.2 :: (sparseFind p.1 s.fl.times).getD []).take 64) s.fl.times }

/-- R216, R226, R229: what an operation met: `source` is 1 for patrol, 2 for a fold, 3 for another read; patrol,
fold and Galliard reads apply the refresh test. -/
def State.flashWork (s : State) (source : Nat) (tests : Bool) (k : FlashWork) : State :=
  let s := k.reads.foldl (State.codewordRead source) s
  let s := s.when tests fun s => ((k.reads.filter s.weakRead).map (·.stripe)).foldl State.markWeak s
  if k.programs.isEmpty then s else (k.programs.foldl State.timeProgram s).showRate

/-- R215, R231, R600: `n` codewords were programmed, `j` of them journal pages. -/
def State.programmed (s : State) (n j : Nat) : State :=
  let (all, pages) := s.fl.written.headD (0, 0)
  s.setFl { s.fl with
    written := (all + 4096 * n, pages + 4096 * j) :: s.fl.written.drop 1
    writeSeq := min (s.fl.writeSeq + n) (2 ^ 48 - 1) }

/-- R215, R231: the codeword of logical page `e.1` in `area` is programmed with the data `e.2`. Where the spec lays
out no data for the area its CRC-32 is a free value (assumption log 111). -/
def State.programCodeword (area owner : Nat) (s : State) (e : Nat × Option (List Nat)) : State :=
  let s := s.programmed 1 (boolNat (area == 3))
  let c : Codeword := ⟨area, owner, e.1, s.fl.writeSeq, 0⟩
  let (v, s) := match e.2 with
    | some data => (crc32 (data ++ c.front), s)
    | none => s.draw
  s.setFl { s.fl with
    codewords := { c with crc := v % 2 ^ 32 } ::
      s.fl.codewords.filter fun d => d.area != area || d.owner != owner || d.page != e.1
    lost := s.fl.lost.filter (· != (area, e.1 % 2 ^ 24)) }

/-- R215: codewords of `area`, as logical page and data. -/
def State.programAll (s : State) (area owner : Nat) (l : List (Nat × Option (List Nat))) : State :=
  l.foldl (State.programCodeword area owner) s

/-- R215: the codewords that hold `bytes`, from logical page `first` on. -/
def State.programBytes (s : State) (area owner first : Nat) (bytes : List Nat) : State :=
  let pages := dataPages bytes
  s.programAll area owner (((List.range pages.length).zip pages).map fun e => (first + e.1, some e.2))

/-- R216: whether the codeword of `page` in `area` is uncorrectable. -/
def State.isLost (s : State) (area page : Nat) : Bool := s.fl.lost.contains (area, page % 2 ^ 24)

/-- R216: no content of `areas` is left, or it is written anew. -/
def State.forgetLost (s : State) (areas : List Nat) : State :=
  s.setFl { s.fl with
    lost := s.fl.lost.filter fun e => !areas.contains e.1
    codewords := s.fl.codewords.filter fun c => !areas.contains c.area }

/-! ## The root record (R222, R223) -/

/-- R222: the 256 bytes of the root record. -/
def Root.bytes (r : Root) : List Nat :=
  let body := toLittleEndian 2 0xC1AB ++ toLittleEndian 6 r.seq ++ toLittleEndian 8 r.identity ++ [r.slot] ++
    toLittleEndian 3 r.gen ++ toLittleEndian 3 r.epoch ++ toLittleEndian 4 r.map ++ toLittleEndian 6 r.cut ++
    toLittleEndian 4 r.save ++ toLittleEndian 4 r.model ++ toLittleEndian 4 r.table ++ zeros 207
  body ++ toLittleEndian 4 (crc32 body)

/-- R222: the NAND identity of the targets' unique IDs. -/
def nandIdentity (uids : List Nat) : Nat := littleEndian ((sha256 uids).take 8)

/-- R222: the stripe of a use that was taken first, or 0xFFFF_FFFF for none. -/
def State.firstOf (s : State) (uses : List StripeUse) : Nat := ((uses.flatMap s.stripesOf).head?).getD 0xFFFFFFFF

/-- R222: what the root of sequence `seq` says now; `cut` is the JSEQ of the first page after the base's cut. -/
def State.rootNow (s : State) (seq identity slot cut : Nat) : Root :=
  { seq := seq, identity := identity, slot := slot, gen := s.get SH_BASEGEN.GEN, epoch := s.get SH_EPOCH.EPOCH
    map := s.firstOf [.generation], cut := cut, save := s.firstOf [.save, .carried]
    model := s.firstOf [.model 0, .model 1], table := 1 }

/-- R223: what a root record over `f` names. -/
def Flash.view (f : Flash) : StoreView :=
  ⟨f.uses, f.erased, f.weak, f.base, f.baseCut, f.journal, f.spent, f.saveIndex, f.saveCells, f.commits⟩

/-- R223: the store as a root record names it. -/
def Flash.withView (f : Flash) (v : StoreView) : Flash :=
  { f with
    uses := v.uses, erased := v.erased, weak := v.weak, base := v.base, baseCut := v.baseCut, journal := v.journal
    spent := v.spent, saveIndex := v.saveIndex, saveCells := v.saveCells, commits := v.commits }

/-- R223: a root record goes to the system blocks of every channel in use, and then over the older MRAM copy; the newer
one names the store as it `was`. -/
def State.writeRoot (s : State) (was : Flash) (r : Root) : State :=
  let nand := (s.fl.nandRoots.zip (List.range 4)).map fun e => if s.maskBit FL_CHUSE.CH e.2 then some r else e.1
  let s := s.setFl { s.fl with
    root := some r, oldRoot := s.fl.root, oldStore := some was.view, rootAt := s.clock, nandRoots := nand }
  let page := r.bytes ++ zeros (4096 - 256)
  s.programAll 9 0 (s.channelsInUse.map fun c => (c, some page))

/-- R222: the slot a new generation takes: A and B in turn. -/
def State.nextSlot (s : State) : Nat := if (s.fl.root.map (·.slot)) = some 1 then 2 else 1

/-- R222, R223: a root update at the end of a refresh, or with a new base in slot `slot` and its cut, over the
store as it `was`. It names the copies of wear-levelling moves, and the stripes that these leave are free. -/
def State.updateRoot (s : State) (was : Flash) (slot cut : Nat) : State :=
  match s.fl.root with
  | some r =>
      let uses := settleCopies s.fl.uses
      let weak := s.fl.weak.filter fun k => uses.any fun e => e.1 == k
      let s := s.setFl { s.fl with uses := uses, weak := weak }
      s.writeRoot was (s.rootNow (r.seq + 1) r.identity slot cut)
  | none => s

end Sys2Proof.Machine
end

