-- ==== Sys2Proof/Machine/Shadow.lean ====
section
/-! DEFINITION. Persistent regions and the shadow journal (R150 to R177): regions, captures, the
journal, barriers, folding and hold-up accounting. -/

namespace Sys2Proof.Machine

open Reg Host

/-! ## Counts -/

def State.bar (s : State) : Nat := s.getPair SH_BARH.BAR SH_BARL.BAR
def State.recBar (s : State) : Nat := s.getPair SH_RECBARH.BAR SH_RECBARL.BAR
def State.jseq (s : State) : Nat := s.getPair SH_JSEQH.JSEQ SH_JSEQL.JSEQ

def CapItem.isLine : CapItem → Bool
  | .line _ _ _ => true
  | .barrier _ _ _ _ _ _ _ => false

/-- R154, R163: the place of an item in the capture order. -/
def CapItem.place : CapItem → Nat
  | .line _ _ p => p
  | .barrier _ _ _ _ _ p _ => p

/-! ## Records and pages (R158, R159) -/

/-- A stamp as a 72-bit value, little-endian. -/
def stampBytes (time qual : Nat) : List Nat := toLittleEndian 9 (stampValue time qual)

/-- R159: the 76 bytes of a record. -/
def CapItem.record : CapItem → List Nat
  | .line addr bytes _ =>
      toLittleEndian 4 (2 ^ 30 + addr % 2 ^ 30) ++ toLittleEndian 8 (bytes.foldl (fun m b => setBit m b.1) 0) ++
        (List.range 64).map fun i => (sparseFind i bytes).getD 0 % 256
  | .barrier num time qual ring edge _ _ =>
      toLittleEndian 4 (2 ^ 31) ++ toLittleEndian 6 num ++ stampBytes time qual ++ [ring % 16 + 16 * boolNat edge] ++
        zeros 56

/-- R158: bytes 0 to 59 of a page. -/
def JPage.head (p : JPage) : List Nat :=
  toLittleEndian 2 0xC1A7 ++ toLittleEndian 6 p.jseq ++ toLittleEndian 3 p.epoch ++ [p.items.length % 256] ++
    toLittleEndian 6 p.bar ++ zeros 42

/-- R158: bytes 64 to 4,095 of a page: 53 records, those beyond COUNT zero, and four zeros. -/
def JPage.body (p : JPage) : List Nat :=
  (p.items.flatMap (·.record)) ++ zeros (76 * (53 - p.items.length) + 4)

/-- R158: the CRC-32 of a page. -/
def JPage.checksum (p : JPage) : Nat := crc32 (p.head ++ p.body)

/-- R158: the 4,096 bytes of a page. -/
def JPage.bytes (p : JPage) : List Nat := p.head ++ toLittleEndian 4 p.crc ++ p.body

/-- R216, R217: the page is read without error and its CRC-32 is right. -/
def State.pageValid (s : State) (p : JPage) : Bool := !s.isLost 3 p.jseq && p.crc == p.checksum

/-! ## The capture order (R154, R163) -/

/-- R154: the capture-buffer entries in use. -/
def State.capFill (s : State) : Nat := (s.sh.order.filter (·.isLine)).length

/-- R599: the barrier records that wait for a journal page, those without a number among them. -/
def State.barriersWaiting (s : State) : Nat := (s.sh.order.filter fun i => !i.isLine).length + s.sh.waiting.length

/-! ## Regions (R150 to R153) -/

/-- The region that holds byte address `a`. -/
def State.regionAt (s : State) (a : Nat) : Option Nat :=
  (List.range 64).find? fun k =>
    s.flag (SH_RG_A.VALID k) && decide ((s.regionSpan k).1 ≤ a) &&
      decide (a < (s.regionSpan k).1 + (s.regionSpan k).2)

/-- R150: the kind of the memory at byte address `a`: 1 persistent, 2 save-only, 3 volatile, or no
region. -/
def State.kindAt (s : State) (a : Nat) : Nat :=
  match s.regionAt a with
  | some k => s.get (SH_RG_A.KIND k)
  | none => 3

/-- R152: the dirty pages in region `k`. -/
def State.dirtyIn (s : State) (k : Nat) : List Nat :=
  s.sh.dirty.filter fun p =>
    decide ((s.regionSpan k).1 ≤ 4096 * p) && decide (4096 * p < (s.regionSpan k).1 + (s.regionSpan k).2)

/-- R65, R592: page `p` lies beneath the open aperture. -/
def State.beneathAperture (s : State) (p : Nat) : Bool :=
  s.flag QU_APCTL.EN && decide (p / 256 = s.get QU_APCTL.BASE)

/-- R65, R170, R188: the dirty pages inside a persistent or save-only region, but for those beneath the open
aperture. -/
def State.savePages (s : State) : List Nat :=
  s.sh.dirty.filter fun p =>
    (s.kindAt (4096 * p) == 1 || s.kindAt (4096 * p) == 2) && !s.beneathAperture p

/-- R176: SH_DIRTY and the per-region counts follow the dirty map. -/
def State.showDirty (s : State) : State :=
  let n := s.savePages.length
  let s := (s.set SH_DIRTYH.PAGES (n / 2 ^ 24)).set SH_DIRTYL.PAGES n
  (List.range 64).foldl (fun s k =>
    if s.flag (SH_RG_A.VALID k) then s.set (SH_RG_C.DIRTY k) (min (s.dirtyIn k).length 0xFFFFFF) else s) s

/-- The regions defined, in number order. -/
def State.regionTable (s : State) : List Region :=
  (List.range 64).filterMap fun k =>
    if s.flag (SH_RG_A.VALID k) then
      some ⟨k, s.get (SH_RG_A.KIND k), s.get (SH_RG_B.PRIO k), s.get (SH_RG_A.START k), s.get (SH_RG_B.COUNT k)⟩
    else none

/-- Region `r` stands in the region registers. -/
def State.putRegion (s : State) (r : Region) : State :=
  let s := ((s.set (SH_RG_A.VALID r.num) 1).set (SH_RG_A.KIND r.num) r.kind).set (SH_RG_A.START r.num) r.start
  (s.set (SH_RG_B.PRIO r.num) r.prio).set (SH_RG_B.COUNT r.num) r.count

/-- Region `k` is empty. -/
def State.dropRegion (s : State) (k : Nat) : State :=
  let s := ((s.set (SH_RG_A.VALID k) 0).set (SH_RG_A.KIND k) 0).set (SH_RG_A.START k) 0
  ((s.set (SH_RG_B.PRIO k) 0).set (SH_RG_B.COUNT k) 0).set (SH_RG_C.DIRTY k) 0

/-- R194: the save record is written over the older of its two copies, and is then the newer. -/
def State.setRecord (s : State) (r : SaveRecord) : State :=
  { s with sv := { s.sv with record := r, oldRecord := some s.sv.record, recordAt := s.clock } }

/-- R194: the save record's region table follows the regions. -/
def State.saveTable (s : State) : State := s.setRecord { s.sv.record with table := s.regionTable }

/-! ## The dirty map (R155 to R157) -/

/-- R157, R194: PDIRTY sets, for page `p`. -/
def State.freeze (s : State) (cause p : Nat) : State :=
  if s.flag SH_STATUS.PDIRTY then s
  else
    let s := s.setFlag SH_STATUS.PDIRTY true
    let s := s.setRecord { s.sv.record with frozen := true, frozenAt := s.bar }
    s.raise 0x203 (s.get SH_RECBARL.BAR) cause p

/-- Page `p` is dirty. -/
def State.markDirty (s : State) (p : Nat) : State :=
  if s.sh.dirty.contains p then s
  else ({ s with sh := { s.sh with dirty := insertNat p s.sh.dirty } } : State).showDirty

/-- R155: a capture overflows. -/
def State.overflow (s : State) (p : Nat) : State :=
  let s := s.add SH_OVERFLOWS.COUNT 1
  let s := s.markDirty p
  let first := s.sh.overflowSecond != some s.seconds
  let s := { s with sh := { s.sh with overflowSecond := some s.seconds } }
  let s := s.when first (·.raise 0x202 p 1 s.capFill)
  s.freeze 1 p

/-! ## Captures (R154) -/

/-- The enabled bytes of a later capture overwrite an entry's. -/
def mergeBytes (old new : Sparse Nat) : Sparse Nat := new.foldl (fun m b => sparsePut b.1 b.2 m) old

/-- R67, R89: the instruction at position `p` of ring `r`: its word and its extension words. -/
def State.queued (s : State) (r p : Nat) : Nat × List Nat :=
  let at_ (i : Nat) : Nat := s.slot (0x40000 + r * 0x4000 + 4 * ((p + i) % 4096))
  let w := at_ 0
  (w, (List.range (extOf w)).map fun i => at_ (i + 1))

/-- The positions of the PFENCEs among the `left` words of ring `r` from position `p` on. -/
def State.fencesFrom (s : State) (r : Nat) : Nat → Nat → Nat → List Nat
  | 0, _, _ => []
  | n + 1, left, p =>
      if left = 0 then []
      else
        let (w, ext) := s.queued r p
        let rest := s.fencesFrom r n (left - (1 + ext.length)) ((p + 1 + ext.length) % 2 ^ 24)
        if opcodeOf w = 0x19 ∧ ext = [] then p :: rest else rest

/-- R163: the doorbell that covered position `p` of ring `r`. -/
def State.bellOf (s : State) (r p : Nat) : Option Bell :=
  ((sparseFind r s.sh.bells).getD []).find? fun b =>
    let ahead := (b.tail + 2 ^ 24 - p) % 2 ^ 24
    decide (1 ≤ ahead) && decide (ahead ≤ 4096)

/-- R163: the places of the references of the PFENCEs that a doorbell covers and that have not yet issued. A ring in
resident mode, and ring 15 while the side-band owns it, refers to tick edges. In frozen rings none will issue (R187). -/
def State.coveredFences (s : State) : List Nat :=
  if s.frozen then [] else
  ((List.range 16).filter fun r => !s.resident r && !(r == 15 && s.sideBandOwns15)).flatMap fun r =>
    (s.fencesFrom r (s.occupancy r) (s.occupancy r) (s.get (QU_HEAD.HEAD r))).filterMap fun p =>
      (s.bellOf r p).map (·.place)

/-- R154, R163: the places of the references whose barriers are not yet in the capture order. -/
def State.openReferences (s : State) : List Nat := s.coveredFences ++ s.sh.waiting.map (·.bell.place)

/-- R154: the newest of those references, which no capture merges across. -/
def State.lastReference (s : State) : Nat := s.openReferences.foldl max 0

/-- R154: the entry for `addr` takes `bytes`, if one is open that was first captured behind place `after`. -/
def mergeLine (addr after : Nat) (bytes : Sparse Nat) : List CapItem → Option (List CapItem)
  | [] => none
  | .line a b p :: rest =>
      match mergeLine addr after bytes rest with
      | some rest' => some (.line a b p :: rest')
      | none =>
          if a = addr ∧ after ≤ p ∧ rest.all (·.isLine) = true then
            some (.line a (mergeBytes b bytes) p :: rest)
          else none
  | i :: rest => (mergeLine addr after bytes rest).map (i :: ·)

def captureEntries : Nat := 24576

/-- R201, R219: the pages of the ring in use. -/
def State.journalUsed (s : State) : Nat := s.fl.journal.length + s.fl.spent.length

/-- R219: SH_JFILL is the fraction of the ring in use. -/
def State.showFill (s : State) : State :=
  s.set SH_JFILL.PERMIL (if s.journalCap = 0 then 0 else 1000 * s.journalUsed / s.journalCap)

/-- R169, R600: no page can be written. -/
def State.journalFull (s : State) : Bool := decide (s.journalCap ≤ s.journalUsed) || s.jseq == 2 ^ 48 - 1

/-- R160: whether a page takes no further record. -/
def pageFull (p : List CapItem) : Bool :=
  decide (53 ≤ p.length) || p.any fun i => !i.isLine

/-- R154, R160, R163: records move from the capture order into the open page, in order, up to the first reference at
place `limit` whose barrier is still to come. -/
def fillPage (limit : Option Nat) : List CapItem → List CapItem → List CapItem × List CapItem
  | page, [] => (page, [])
  | page, i :: rest =>
      if pageFull page || limit.any (· < i.place) then (page, i :: rest) else fillPage limit (page ++ [i]) rest

/-- R169, R224: the journal takes records while the store is open and a page is free. -/
def State.place (s : State) : State :=
  if !s.flag FL_STATUS.READY || s.flag SH_STATUS.JFULL then s
  else if s.sh.page.isEmpty && s.journalFull then
    (s.setFlag SH_STATUS.JFULL true).raise 0x20A (s.get SH_JSEQL.JSEQ) s.capFill 0
  else if s.sh.closed then s
  else
    let (page, order) := fillPage s.openReferences.min? s.sh.page s.sh.order
    let from_ := if s.sh.page.isEmpty then s.clock else s.sh.pageFrom
    { s with sh := { s.sh with page := page, order := order, pageFrom := from_ } }

/-- R129, R150, R154: a captured write burst: the line's address [35:6] and its enabled bytes. -/
def State.capture (s : State) (addr : Nat) (bytes : Sparse Nat) : State :=
  let p := addr / 64
  if s.kindAt (64 * addr) = 1 then
    if bytes.isEmpty || s.sh.dirty.contains p then s
    else
      let here := s.sh.place
      let s := { s with sh := { s.sh with place := here + 1 } }
      match mergeLine addr s.lastReference bytes s.sh.order with
      | some order => { s with sh := { s.sh with order := order } }
      | none =>
          if captureEntries ≤ s.capFill then s.overflow p
          else ({ s with sh := { s.sh with order := s.sh.order ++ [.line addr bytes here] } } : State).place
  else s.markDirty p

/-! ## Journal pages (R158 to R161, R165) -/

/-- R160: whether the open page is due to be written. -/
def State.pageDue (s : State) : Bool :=
  !s.sh.page.isEmpty && (s.sh.closed || pageFull s.sh.page)

/-- R161: the pages the shadow bandwidth allows in one interval of 200 ticks. -/
def State.pageAllowance (s : State) : Nat :=
  s.get SH_BWNOW.MBS * 1000000 * 200 / (max 1 (s.get TK_RATE.RATE) * 4096)

/-- R165: the barrier of a page, if it is recoverable. -/
def pageBarrier (page : List CapItem) : Option (Nat × Bool) :=
  page.findSome? fun i =>
    match i with
    | .barrier n _ _ _ _ _ c => some (n, c)
    | .line _ _ _ => none

/-- R158, R165: the open page is in flash. -/
def State.writePage (s : State) : State :=
  let n := min (s.jseq + 1) (2 ^ 48 - 1)
  let s := s.setPair SH_JSEQH.JSEQ SH_JSEQL.JSEQ n
  let page : JPage := ⟨n, s.get SH_EPOCH.EPOCH, s.sh.lastBar, s.sh.page, 0⟩
  let found := pageBarrier s.sh.page
  let page := { page with crc := page.checksum }
  let s := (s.turnRing n).programAll 3 n [(n % 2 ^ 32, some page.bytes)]
  let s := s.setFl { s.fl with journal := s.fl.journal ++ [page] }
  let s := { s with sh := { s.sh with
    page := [], closed := false, pagesOut := s.sh.pagesOut + 1,
    lastBar := match found with | some (b, _) => b | none => s.sh.lastBar } }
  let s := match found with
    | some (b, true) => s.setPair SH_RECBARH.BAR SH_RECBARL.BAR b
    | _ => s
  s.showFill.place

/-- R165: a due page reaches flash, within the allowance of R161. -/
def journalPageWritten (work : FlashWork) (s : State) : State :=
  if s.pageDue && (s.sv.lifted || decide (s.sh.pagesOut < s.pageAllowance)) then
    (s.flashWork 3 false work).writePage
  else s

/-- R160: 2 ms after its first record the open page is to be written. -/
def journalPageTimeout (s : State) : State :=
  if s.sh.page.isEmpty then s
  else s.onTime (s.sh.pageFrom + 200000) fun s => { s with sh := { s.sh with closed := true } }

/-- Every record of the buffer and the open page goes to flash (R187 step 5). -/
def State.flushPages : Nat → State → State
  | 0, s => s
  | n + 1, s =>
      if s.sh.page.isEmpty then s
      else State.flushPages n s.writePage

def State.flushAll (s : State) : State := State.flushPages (s.sh.order.length + 1) s.place

/-! ## Barriers (R163 to R166) -/

/-- R163: the reference of a PFENCE of ring `r` at position `p`: its doorbell, or the tick edge. -/
def State.fenceBell (s : State) (r p : Nat) : Bell × Bool :=
  let edge : Bell := ⟨0, s.sh.place, s.now, s.get TM_STATUS.QUAL, s.flag SH_STATUS.PDIRTY⟩
  if s.resident r || (r == 15 && s.sideBandOwns15) then (edge, true)
  else ((s.bellOf r p).getD edge, false)

/-- R154, R163: a barrier takes its place in the order. -/
def insertBarrier (b : CapItem) : List CapItem → List CapItem
  | [] => [b]
  | i :: rest => if b.place < i.place then b :: i :: rest else i :: insertBarrier b rest

/-- R163: PFENCEs in the order of their references; those that share one in the order of their issue. -/
def insertWait (w : FenceWait) : List FenceWait → List FenceWait
  | [] => [w]
  | v :: rest => if w.bell.place < v.bell.place then w :: v :: rest else v :: insertWait w rest

/-- R163, R165: the barrier of `w` is created: the next number, and its record's place in the order. It can become
recoverable where PDIRTY was 0 at its reference. -/
def State.createBarrier (s : State) (w : FenceWait) : State :=
  let n := s.bar + 1
  let clean := !w.bell.dirty
  let s := s.setPair SH_BARH.BAR SH_BARL.BAR n
  let item := CapItem.barrier n w.bell.time w.bell.qual w.ref.ring w.edge w.bell.place clean
  let s := { s with sh := { s.sh with order := insertBarrier item s.sh.order } }
  s.when (clean && w.durable) fun s => { s with sh := { s.sh with fences := s.sh.fences ++ [(w.ref, n)] } }

/-- R166: what the PFENCE of `w` completes with as barrier `n` enters the capture order, if it does. -/
def FenceWait.answer (w : FenceWait) (n : Nat) : Option (OpRef × Nat × Nat) :=
  if w.bell.dirty then some (w.ref, 0x43, n)
  else if w.durable then none
  else some (w.ref, 0x01, n)

/-- R163, R166: the PFENCEs of `l` take their numbers, in order. -/
def State.numberFences (s : State) (l : List FenceWait) : State :=
  let answers := (l.zip (List.range l.length)).filterMap fun e => e.1.answer (s.bar + 1 + e.2)
  ((l.foldl State.createBarrier s).place).postAll answers

/-- R163: the PFENCEs that wait take their numbers, up to the first reference that precedes them and whose PFENCE
has not yet issued. -/
def State.settleFences (s : State) : State :=
  let may := fun (w : FenceWait) => s.coveredFences.all fun p => decide (w.bell.place ≤ p)
  let ready := s.sh.waiting.filter may
  let s := { s with sh := { s.sh with waiting := s.sh.waiting.filter fun w => !may w } }
  s.numberFences ready

/-- R163, R166: PFENCE `ref` has issued: its barrier is created as soon as every earlier one is. -/
def State.makeBarrier (s : State) (ref : OpRef) (durable : Bool) : State :=
  let (b, edge) := s.fenceBell ref.ring ref.word1
  let s := { s with sh := { s.sh with
    waiting := insertWait ⟨ref, durable, b, edge⟩ s.sh.waiting
    place := if b.place = s.sh.place then s.sh.place + 1 else s.sh.place } }
  s.settleFences

/-- R153: the states in which the shadow unit's instructions are legal. -/
def State.shadowLegal (s : State) : Bool := s.powerIn [standby, active, maint, quiet]

/-- R163, R166, R599, R600: PFENCE. -/
def pfence (op : Op) (s : State) : State :=
  if 64 ≤ s.barriersWaiting then s
  else
    s.issue op 0x19 (unitCost 0x19) fun s ref =>
      s.judge ref (op.ext.length == 0) (op.dst == 0 && op.src == 0 && decide (op.imm9 < 2)) true
        (s.shadowLegal && s.bar + s.sh.waiting.length != 2 ^ 48 - 1) true 0x40
        fun s => s.makeBarrier ref (op.imm9 == 1)

/-- R166: a DURABLE PFENCE whose barrier has become recoverable completes. -/
def State.fencesDone (s : State) : State :=
  let done := s.sh.fences.filter fun f => decide (f.2 ≤ s.recBar)
  let s := { s with sh := { s.sh with fences := s.sh.fences.filter fun f => !decide (f.2 ≤ s.recBar) } }
  s.postAll (done.map fun f => (f.1, 0x01, f.2))

/-! ## Renewal (R156) -/

/-- R167, R174: a fold stops before committing. -/
def State.abandonFold (s : State) (cause status : Nat) : State :=
  match s.sh.fold with
  | none => s
  | some f =>
      let s := ({ s with sh := { s.sh with fold := none } } : State).setFlag SH_STATUS.FOLDING false
      (s.raise 0x209 cause 0 0).postOpt f.ref status 0

/-- R169: JFULL ends once a page is free. -/
def State.relieveJournal (s : State) : State :=
  let s := s.showFill
  if s.flag SH_STATUS.JFULL && !s.journalFull then
    ((s.setFlag SH_STATUS.JFULL false).raise 0x20B (s.get SH_JFILL.PERMIL) 0 0).place
  else s

/-- R219, R221: the 4 KiB pages of a list of byte cells, rising. -/
def cellPages (cells : Sparse Byte) : List Nat := cells.foldl (fun l c => insertNat (c.1 / 4096) l) []

/-- R219, R221: the codewords of a generation of content `m`: one for each page that is not zero, and its map of 8-byte
entries. -/
def generationPages (m : Image) : Nat :=
  let n := (cellPages m.cells).length
  n + max 1 (ceilDiv (8 * n) 4096)

/-- R215, R219, R223: generation `gen` of content `m` is written to free stripes; none where too few are free. -/
def State.writeGeneration (s : State) (gen : Nat) (m : Image) : Option State :=
  (s.takeStripes .next (s.stripesFor (generationPages m))).map fun t =>
    let pages := cellPages m.cells
    let t := t.forgetLost [1, 2]
    (t.programAll 1 gen (pages.map fun p => (p, some (m.read (4096 * p) 4096)))).programAll 2 gen
      ((List.range (generationPages m - pages.length)).map fun i => (i, none))

/-- R167, R201, R219, R223: what was written is the base: the stripes of the old generation and of a save set that it
needed go, the root, which `was` has not seen, is switched over, and those stripes are free. -/
def State.switchBase (s : State) (was : Flash) (cut : Nat) : State :=
  let s := ((s.dropUse .generation).dropUse .carried).renameUse .next .generation
  let s := if s.stripesOf .save = [] then s.forgetLost [4] else s
  let kept := (s.fl.spent ++ s.fl.journal).map (·.jseq)
  let s := s.setFl { s.fl with codewords := s.fl.codewords.filter fun c => c.area != 3 || kept.contains c.owner }
  (s.updateRoot was s.nextSlot cut).keepErased

/-- R137, R156, R194: the base of a new epoch reads as `base`; `dirty` is the dirty map afterwards. -/
def State.beginEpoch (s : State) (base : Image) (dirty : List Nat) : State :=
  let s := (s.abandonFold 3 0x03).add SH_EPOCH.EPOCH 1
  let s := s.setPair SH_RECBARH.BAR SH_RECBARL.BAR s.bar
  let s := { s with sh := { s.sh with order := [], page := [], closed := false, dirty := dirty, lastBar := s.bar } }
  let s := s.setFl { s.fl with base := some base, journal := [] }
  let s := (s.setFlag SH_STATUS.PDIRTY false).setFlag HP_STATUS.BASE true
  (s.setFlag FL_STATUS.NOBASE false).setRecord { s.sv.record with
    epoch := s.get SH_EPOCH.EPOCH, openBar := s.bar, openTime := s.now, openQual := s.get TM_STATUS.QUAL,
    frozen := false, frozenAt := 0, table := s.regionTable }

/-- R156, R166, R169: the end of a renewal. -/
def State.endRenewal (s : State) (cause : Nat) : State :=
  let s := s.showDirty.raise 0x20C cause (s.get SH_EPOCH.EPOCH) (s.get SH_RECBARL.BAR)
  s.relieveJournal.fencesDone.place

/-- R156, R221: a scrub or a SNAPSHOT renews the base with a new generation of content `base`; none where the store has
too few free stripes for it (R220). -/
def State.renew (s : State) (cause : Nat) (base : Image) (dirty : List Nat) : Option State :=
  (s.writeGeneration (s.get SH_BASEGEN.GEN + 1) base).map fun t =>
    let t := (t.beginEpoch base dirty).add SH_BASEGEN.GEN 1
    let t := t.setFl { t.fl with baseCut := t.bar, spent := [] }
    (t.switchBase s.fl (t.jseq + 1)).endRenewal cause

/-- R219: no save set is left but what the base needs. -/
def State.dropSave (s : State) : State :=
  let s := (s.setFl { s.fl with saveIndex := [], saveCells := [] }).dropUse .save
  s.forgetLost ([5, 6, 7] ++ if s.stripesOf .carried = [] then [4] else [])

/-- R156, R201: a restore renews the base, or under EMPTY renews nothing where no stripe is free for the new generation
(assumption log 111). Its generation, the journal pages `kept` and, where `exact`, the save set
stay as that base until the first fold; under EMPTY, `fresh`, the base is a new generation without pages. -/
def State.renewRestored (s : State) (base : Image) (dirty : List Nat) (kept : List JPage) (exact fresh : Bool) : State :=
  let was := s.fl
  if fresh then
    match s.writeGeneration (s.get SH_BASEGEN.GEN) base with
    | some t =>
        let t := t.beginEpoch base dirty
        let t := (t.setFl { t.fl with baseCut := t.bar, spent := [] }).dropSave
        (t.switchBase was (t.jseq + 1)).endRenewal 3
    | none => s
  else
    let spent := s.fl.spent ++ kept
    let s := s.beginEpoch base dirty
    let s := s.setFl { s.fl with spent := spent, baseCut := min s.fl.baseCut s.bar }
    let s := (if exact then s.renameUse .save .carried else s).dropSave
    ((s.updateRoot was ((s.fl.root.map (·.slot)).getD 0) (s.jseq + 1)).keepErased).endRenewal 3

/-! ## REGION (R152, R153, R173) -/

/-- R155, R118: a range of 64 KiB units lies inside the capacity. -/
def State.unitsFit (s : State) (start count : Nat) : Bool := decide ((start + count) * 65536 ≤ s.dramBytes)

/-- R64: a range of 64 KiB units meets the open aperture. -/
def State.meetsAperture (s : State) (start count : Nat) : Bool :=
  s.flag QU_APCTL.EN && spansMeet (start * 65536) (count * 65536) (s.get QU_APCTL.BASE * 2 ^ 20) (2 ^ 20)

/-- A range of 64 KiB units meets a region of `ks`. -/
def State.meetsRegion (s : State) (ks : Nat → Bool) (start count : Nat) : Bool :=
  (List.range 64).any fun k =>
    ks k && spansMeet (start * 65536) (count * 65536) (s.regionSpan k).1 (s.regionSpan k).2

/-- R138: whether a lend window is open. -/
def State.windowOpen (s : State) : Bool :=
  match s.hp.lend with
  | some l => l.opened.isSome
  | none => false

/-- The operands of REGION (R173). -/
structure RegionArgs where
  action : Nat
  kind : Nat
  prio : Nat
  num : Nat
  start : Nat
  count : Nat
  deriving DecidableEq, Repr

def regionArgs (op : Op) : RegionArgs :=
  ⟨op.dst, op.src, op.imm9 / 64, op.imm9 % 64, op.word 1 % 2 ^ 20, op.word 2 % 2 ^ 21⟩

/-- R64, R127, R153: REGION's legality. -/
def State.regionLegal (s : State) (a : RegionArgs) : Bool :=
  s.shadowLegal && !s.windowOpen &&
    (a.action != 1 ||
      (!s.meetsAperture a.start a.count &&
        ((a.kind != 1 && a.kind != 2) || (s.flag HP_ECCCTL.LOCK && s.flag HP_STATUS.BASE))))

/-- R173: REGION's ranges. -/
def State.regionRange (s : State) (a : RegionArgs) : Bool :=
  match a.action with
  | 1 =>
      decide (1 ≤ a.kind) && decide (a.kind ≤ 3) && decide (1 ≤ a.count) &&
        decide (a.count ≤ 1048576) && s.unitsFit a.start a.count
  | 2 => a.kind == 0 && a.prio == 0 && a.start == 0 && a.count == 0
  | 3 => a.kind == 0 && a.start == 0 && a.count == 0
  | _ => false

/-- R177: REGION_CHANGED. -/
def State.regionChanged (s : State) (a : RegionArgs) (n : Nat) : State :=
  s.raise 0x201 a.num (a.action * 2 ^ 6 + a.kind * 2 ^ 3 + a.prio) n

/-- R152, R173: DEFINE. A range that overlaps another region is judged before a number in use; the spec gives no
order of the two (assumption log 98). -/
def State.defineRegion (s : State) (ref : OpRef) (a : RegionArgs) : State :=
  if s.meetsRegion (fun k => k != a.num && s.flag (SH_RG_A.VALID k)) a.start a.count then s.post ref 0x41 0
  else if s.flag (SH_RG_A.VALID a.num) then s.post ref 0x42 0
  else
    let s := (s.putRegion ⟨a.num, a.kind, a.prio, a.start, a.count⟩).saveTable.checkCapacity.showDirty
    let found := s.dirtyIn a.num
    let s := s.regionChanged a (min found.length 0xFFFFFF)
    let s := match found with
      | p :: _ => s.when (a.kind == 1) (·.freeze 2 p)
      | [] => s
    s.post ref (if a.kind = 1 ∧ found ≠ [] then 0x02 else 0x01) (min found.length 0xFFFFFF)

/-- R152: RETIRE and REPRIORITISE. -/
def State.retireRegion (s : State) (ref : OpRef) (a : RegionArgs) : State :=
  if s.flag (SH_RG_A.VALID a.num) then
    (((s.dropRegion a.num).saveTable.checkCapacity.showDirty).regionChanged a 0).post ref 0x01 0
  else s.post ref 0x42 0

def State.reprioritise (s : State) (ref : OpRef) (a : RegionArgs) : State :=
  if s.flag (SH_RG_A.VALID a.num) then
    (((s.set (SH_RG_B.PRIO a.num) a.prio).saveTable).regionChanged a 0).post ref 0x01 0
  else s.post ref 0x42 0

/-- R152: REGION. -/
def region (op : Op) (s : State) : State :=
  let a := regionArgs op
  s.issue op 0x18 (unitCost 0x18) fun s ref =>
    s.judge ref (op.ext.length == 2)
      (decide (op.word 1 < 2 ^ 20) && decide (op.word 2 < 2 ^ 21)) true
      (s.regionLegal a) (s.regionRange a) 0x40
      fun s =>
        match a.action with
        | 1 => s.defineRegion ref a
        | 2 => s.retireRegion ref a
        | _ => s.reprioritise ref a

/-! ## Folding (R167 to R169, R174) -/

/-- R159: a record takes effect on the base. -/
def applyItem (m : Image) : CapItem → Image
  | .line a bytes _ => m.writes (bytes.map fun b => (64 * a + b.1, b.2))
  | .barrier _ _ _ _ _ _ _ => m

def applyPages (m : Image) (ps : List JPage) : Image :=
  ps.foldl (fun m p => p.items.foldl applyItem m) m

/-- R167: the pages whose records lie up to the record of barrier `cut`. -/
def pagesTo (cut : Nat) : List JPage → List JPage
  | [] => []
  | p :: rest =>
      match pageBarrier p.items with
      | some (b, _) => if b = cut then [p] else p :: pagesTo cut rest
      | none => p :: pagesTo cut rest

/-- Whether the record of barrier `cut` is in the journal. -/
def hasBarrier (cut : Nat) (ps : List JPage) : Bool :=
  ps.any fun p => (pageBarrier p.items).any fun b => b.1 == cut

/-- R168: folding is paused. -/
def State.foldPaused (s : State) : Bool := s.flag SH_STATUS.FOLDHELD || s.power == quiet

/-- R167: a fold begins with the present recovery barrier as its cut. -/
def State.beginFold (s : State) (ref : Option OpRef) : State :=
  ({ s with sh := { s.sh with fold := some ⟨ref, s.recBar, s.clock⟩ } } : State).setFlag SH_STATUS.FOLDING true

/-- R168: the fold's cut would be the present generation's. -/
def State.nothingToFold (s : State) : Bool := decide (s.recBar ≤ s.fl.baseCut) || s.fl.base.isNone

/-- R153: FOLD's legality, by action; the shared conditions for an action out of range (R655). -/
def State.foldLegal (s : State) (action : Nat) : Bool :=
  if action = 1 then
    s.powerIn [standby, active, maint] && !s.flag SH_STATUS.FOLDING && !s.flag SH_STATUS.FOLDHELD
  else s.shadowLegal

/-- R168, R174: FOLD. -/
def foldInstr (op : Op) (s : State) : State :=
  s.issue op 0x1D (unitCost 0x1D) fun s ref =>
    s.judge ref (op.ext.length == 0) (op.src == 0 && op.imm9 == 0) true
      (s.foldLegal op.dst) (decide (1 ≤ op.dst) && decide (op.dst ≤ 3)) 0x40
      fun s =>
        match op.dst with
        | 1 => if s.nothingToFold then s.post ref 0x01 0 else s.beginFold (some ref)
        | 2 => (s.setFlag SH_STATUS.FOLDHELD true).post ref 0x01 0
        | _ => (s.setFlag SH_STATUS.FOLDHELD false).post ref 0x01 0

/-- R168: AUTOFOLD starts a fold. -/
def foldAutoStart (s : State) : State :=
  if s.coreUp && s.flag SH_CTL.AUTOFOLD && !s.foldPaused && !s.flag SH_STATUS.FOLDING &&
      decide (s.get SH_FOLDAT.PERMIL ≤ s.get SH_JFILL.PERMIL) && !s.nothingToFold then
    s.beginFold none
  else s

/-- R167, R216, R217: a fold to `cut` reads the base and the pages up to its record; all of them are correct. -/
def State.foldReads (s : State) (folded : List JPage) : Bool :=
  !(s.fl.lost.any fun e => e.1 == 1 || e.1 == 2 || (e.1 == 4 && s.stripesOf .carried != [])) && (s.fl.spent ++ folded).all s.pageValid

/-- R167, R201: the fold of `base` with the pages `folded` commits, over the store as it `was`. -/
def State.commitFold (s : State) (was : Flash) (f : Fold) (folded : List JPage) : State :=
  let freed := folded.length + s.fl.spent.length
  let cut := match folded.getLast? with
    | some p => p.jseq + 1
    | none => (s.fl.root.map (·.cut)).getD 0
  let s := s.setFl { s.fl with baseCut := f.cut, journal := s.fl.journal.drop folded.length, spent := [] }
  let s := ((s.add SH_BASEGEN.GEN 1).switchBase was cut).setFlag SH_STATUS.FOLDING false
  let s := { s with sh := { s.sh with fold := none } }
  let s := s.showFill.raise 0x208 (s.get SH_BASEGEN.GEN) (min freed 0xFFFFFF)
    (min ((s.clock - f.began) / 100000) 0xFFFFFF)
  s.relieveJournal.postOpt f.ref 0x01 (min freed 0xFFFFFF)

/-- R167, R220: the fold ends: it commits, or is abandoned where it met a codeword it could not read or found no free
stripe. -/
def foldCommit (work : FlashWork) (s : State) : State :=
  match s.sh.fold, s.fl.base with
  | some f, some base =>
      if s.foldPaused then s
      else
        let s := s.flashWork 2 true work
        let folded := if hasBarrier f.cut s.fl.journal then pagesTo f.cut s.fl.journal else []
        let image := applyPages base folded
        match s.writeGeneration (s.get SH_BASEGEN.GEN + 1) image with
        | some t =>
            if s.foldReads folded then (t.setFl { t.fl with base := some image }).commitFold s.fl f folded
            else s.abandonFold 1 0x44
        | none => s.abandonFold 1 0x44
  | _, _ => s

/-- R167: a fold meets a flash error. -/
def foldAbandoned (work : FlashWork) (s : State) : State :=
  if s.sh.fold.isSome then (s.flashWork 2 true work).abandonFold 1 0x44 else s

/-! ## The rate loop (R162) -/

def State.shadowLoop (s : State) : State :=
  if s.flag SH_CTL.LOOP then
    let d := min (s.get SH_BWREQ.MBS) (s.get SH_FLASHRATE.MBS)
    let r := loopUpdate (s.get SH_BWMIN.MBS) (s.get SH_BWMAX.MBS) d (s.flag SH_STATUS.PINNED) s.sh.calm
    let s := (s.set SH_BWNOW.MBS r.out.toNat).setFlag SH_STATUS.PINNED r.pinned
    let s := { s with sh := { s.sh with calm := r.calm } }
    s.when r.event (·.raise 0x204 (boolNat (decide (s.get SH_BWMIN.MBS ≤ d))) d r.out.toNat)
  else s

/-- R161, R162: an update interval begins, once at its tick edge. -/
def shadowLoopUpdate (s : State) : State :=
  if s.coreUp && s.tickCount % 200 == 0 && s.sh.loopTick != some s.tickCount then
    ({ s with sh := { s.sh with pagesOut := 0, loopTick := some s.tickCount } } : State).shadowLoop
  else s

/-! ## Hold-up accounting (R170 to R172) -/

/-- R170: U, in bytes. -/
def State.unshadowed (s : State) : Nat := 64 * s.capFill + 4096 * s.savePages.length

/-- R170: E_req. -/
def State.eReq (s : State) : Nat :=
  s.get SH_EFIXED.E + s.get SH_ERES.E + ceilDiv (s.unshadowed * s.get SH_EPERGIB.E) (2 ^ 30)

/-- R171: E_avail − E_req, held. -/
def State.saveMargin (s : State) : Int :=
  clampInt (-0x7FFFFF) 0x7FFFFF ((s.get BT_EAVAIL.E : Int) - s.eReq)

/-- R171: SH_DIRTYCAP. With SH_EPERGIB 0 the quotient is undefined and the spec is silent: it reports its largest value
(assumption log 98). -/
def State.dirtyCap (s : State) : Nat :=
  let e : Int := (s.get BT_EAVAIL.E : Int) - s.get SH_EFIXED.E - s.get SH_ERES.E
  if e < 0 then 0
  else if s.get SH_EPERGIB.E = 0 then 0x10000
  else min 0x10000 (e.toNat * 1024 / s.get SH_EPERGIB.E)

/-- R172: one episode: its bit, the run of updates at or above its threshold, and its events. -/
def State.marginEpisode (s : State) (bit : Field) (below : Bool) (run code which : Nat) : State × Nat :=
  if below then
    let t := s.setFlag bit true
    (t.when (!s.flag bit) (·.raise code (s.get SH_MARGIN.E) (s.get SH_EREQ.E) (s.get BT_EAVAIL.E)), 0)
  else if s.flag bit then
    if 16 ≤ run + 1 then ((s.setFlag bit false).raise 0x207 which (s.get SH_MARGIN.E) 0, 0) else (s, run + 1)
  else (s, 0)

/-- R170 to R172. An E_req that 24 bits do not hold is held at its largest value (assumption log 98). -/
def State.accountHoldup (s : State) : State :=
  let m := s.saveMargin
  let s := (s.set SH_UNSHAD.MIB (ceilDiv s.unshadowed (2 ^ 20))).set SH_EREQ.E (min s.eReq 0xFFFFFF)
  let s := (s.setS SH_MARGIN.E m).set SH_DIRTYCAP.MIB s.dirtyCap
  let (s, short) := s.marginEpisode SH_STATUS.SHORT (decide (m < 0)) s.sh.shortRun 0x206 1
  let (s, low) := s.marginEpisode SH_STATUS.LOW (decide (m < s.get SH_WARN.E)) s.sh.lowRun 0x205 2
  { s with sh := { s.sh with shortRun := short, lowRun := low } }

/-- R170: once at its tick edge. -/
def holdupAccounting (s : State) : State :=
  if s.coreUp && s.tickCount % 20 == 0 && s.sh.accountTick != some s.tickCount then
    ({ s with sh := { s.sh with accountTick := some s.tickCount } } : State).accountHoldup
  else s

/-! ## Writes (R162, R176) -/

/-- R15, R162: SH_CTL, SH_BWMAN and the loop's output. -/
def State.shadowManual (s : State) (was : Bool) : State :=
  if s.flag SH_CTL.LOOP then
    if was then s
    else
      s.set SH_BWNOW.MBS (clampNat (s.get SH_BWMIN.MBS) (s.get SH_BWMAX.MBS) (s.get SH_BWMAN.MBS))
  else
    let s := { s with sh := { s.sh with calm := 0 } }
    (s.set SH_BWNOW.MBS (s.get SH_BWMAN.MBS)).setFlag SH_STATUS.PINNED false

/-- A write of value `v` to the shadow unit's slot at block offset `o`. -/
def shWrite (w : Writer) (o v m : Nat) (s : State) : Option State :=
  let off := 0x4000 + o
  if o = 0x004 ∨ o = 0x014 then (s.plainWrite w off v m).map (·.shadowManual (s.flag SH_CTL.LOOP))
  else if o = 0x008 then s.writeIf (SH_BWREQ.MBS.within v 16 1200) w off v m
  else if o = 0x00C then s.writeIf (SH_BWMIN.MBS.within v 16 (min 1200 (s.get SH_BWMAX.MBS))) w off v m
  else if o = 0x010 then s.writeIf (SH_BWMAX.MBS.within v (max 16 (s.get SH_BWMIN.MBS)) 1200) w off v m
  else if o = 0x06C then s.writeIf (SH_FOLDAT.PERMIL.within v 1 1000) w off v m
  else s.plainWrite w off v m

def execRegionDefine (op : Op) (s : State) : Outcome State Fault Refusal := .next (region { op with dst := 1 } s)
def execRegionRetire (op : Op) (s : State) : Outcome State Fault Refusal := .next (region { op with dst := 2 } s)
def execRegionReprioritise (op : Op) (s : State) : Outcome State Fault Refusal := .next (region { op with dst := 3 } s)
def execPfence (op : Op) (s : State) : Outcome State Fault Refusal := .next (pfence op s)
def execPfenceDurableDone (s : State) : Outcome State Fault Refusal := .next s.fencesDone
def execFoldStart (op : Op) (s : State) : Outcome State Fault Refusal := .next (foldInstr { op with dst := 1 } s)
def execFoldHold (op : Op) (s : State) : Outcome State Fault Refusal := .next (foldInstr { op with dst := 2 } s)
def execFoldRelease (op : Op) (s : State) : Outcome State Fault Refusal := .next (foldInstr { op with dst := 3 } s)
def execFoldAutoStart (s : State) : Outcome State Fault Refusal := .next (foldAutoStart s)
def execFoldCommit (work : FlashWork) (s : State) : Outcome State Fault Refusal := .next (foldCommit work s)
def execFoldAbandoned (work : FlashWork) (s : State) : Outcome State Fault Refusal := .next (foldAbandoned work s)
def execJournalPageTimeout (s : State) : Outcome State Fault Refusal := .next (journalPageTimeout s)
def execJournalPageWritten (work : FlashWork) (s : State) : Outcome State Fault Refusal :=
  .next (journalPageWritten work s)
def execShadowLoopUpdate (s : State) : Outcome State Fault Refusal := .next (shadowLoopUpdate s)
def execHoldupAccounting (s : State) : Outcome State Fault Refusal := .next (holdupAccounting s)

end Sys2Proof.Machine
end

