-- ==== Sys2Proof/Machine/Flash.lean ====
section
/-! DEFINITION. The flash store (R212 to R236): opening, rates, spares, patrol, wear and life. -/

namespace Sys2Proof.Machine

open Reg Host

/-! ## Life (R231) -/

/-- R231: R, the bytes the stripes may still take. -/
def State.lifeBytes (s : State) : Nat :=
  (s.get FL_STRIPES.COUNT * s.get FL_RATEDPE.CYCLES - s.wearCounts.sum) * s.stripeBytes

/-- A projection in days, held; its largest value when the rate is zero. -/
def lifeDays (num den : Nat) : Nat := if den = 0 then 0xFFFFFF else min (num / den) 0xFFFFFF

/-- R231: the powered seconds of the window of 7 days, the present hour as far as it has come. -/
def State.lifeSeconds (s : State) : Nat :=
  3600 * (s.fl.written.length - 1) + (s.fl.lifePart + (s.clock - s.fl.lifeFrom)) / 100000000

/-- R231: the powered time of the present hour counts up to now: the store loses power. -/
def State.stopLife (s : State) : State :=
  if s.flag FL_STATUS.READY then
    s.setFl { s.fl with lifePart := s.fl.lifePart + (s.clock - s.fl.lifeFrom), lifeFrom := s.clock }
  else s

/-- R231: FL_WA over the window. Where it holds no journal page the quotient is undefined and the spec is silent: a
free value (assumption log 99). -/
def State.showAmplification (s : State) : State :=
  let all := (s.fl.written.map (·.1)).sum
  let pages := (s.fl.written.map (·.2)).sum
  if pages = 0 then
    let (v, s) := s.draw
    s.set FL_WA.HUNDREDTHS (max 100 (v % 65536))
  else s.set FL_WA.HUNDREDTHS (min 0xFFFF (max 100 (100 * all / pages)))

/-- R231: both projections are recomputed, with the episode of LIFE_LOW. -/
def State.recomputeLife (s : State) : State :=
  let s := s.showAmplification
  let all := (s.fl.written.map (·.1)).sum
  let s := s.set FL_LIFEMEAS.DAYS (lifeDays (s.lifeBytes * s.lifeSeconds) (all * 86400))
  let s := s.set FL_LIFEBW.DAYS
    (lifeDays (s.lifeBytes * 100) (s.get SH_BWNOW.MBS * 1000000 * s.get FL_WA.HUNDREDTHS * 86400))
  if s.get FL_LIFEMEAS.DAYS < s.get FL_LIFEWARN.DAYS then
    let low := s.fl.lifeLow
    let s := s.setFl { s.fl with lifeLow := true, lifeRun := 0 }
    s.when (!low) (·.raise 0x30A (s.get FL_LIFEMEAS.DAYS) (s.get FL_MAXPE.CYCLES) (s.get FL_RATEDPE.CYCLES))
  else if s.fl.lifeLow then
    if 24 ≤ s.fl.lifeRun + 1 then s.setFl { s.fl with lifeLow := false, lifeRun := 0 }
    else s.setFl { s.fl with lifeRun := s.fl.lifeRun + 1 }
  else s

/-- An hour in units of 10 ns. -/
def hourTicks : Nat := 360000000000

/-- R231: the hourly recomputation; the window drops what is older than 7 days. -/
def lifeRecompute (s : State) : State :=
  if s.coreUp then
    s.onTime (s.fl.lifeFrom + (hourTicks - s.fl.lifePart)) fun s =>
      let s := s.setFl { s.fl with written := (0, 0) :: s.fl.written.take 168, lifeFrom := s.clock, lifePart := 0 }
      s.recomputeLife
  else s

/-! ## Blocks and spares (R218, R228) -/

/-- R218: the spares a plane sets aside at format. -/
def State.planeSpares (s : State) : Nat := ceilDiv (2 * s.get FL_GEOM2.BLOCKS) 100

/-- R218: the blocks of plane `p` that are good at format. -/
def State.goodBlocks (s : State) (p : Nat) : List Nat :=
  (List.range (s.get FL_GEOM2.BLOCKS)).filter fun b => !s.fl.bad.contains (p, b)

/-- R218: the positions of plane `p` that the system blocks take: blocks 0 and 1 of LUN 0 of target 0 of each channel,
which lie in plane 0, or in planes 0 and 1. -/
def State.systemPositions (s : State) (p : Nat) : List Nat :=
  if p % 64 = 0 then (if s.planeCount = 1 then [0, 1] else [0])
  else if p % 64 = 1 ∧ 1 < s.planeCount then [0]
  else []

/-- R218: the spares of plane `p` at format, from its highest-numbered good block down. -/
def State.spareBlocks (s : State) (p : Nat) : List Nat := (s.goodBlocks p).reverse.take s.planeSpares

/-- R218: the stripes of a format: good blocks minus spares, the fewest over all planes. -/
def State.formatStripes (s : State) : Nat :=
  ((s.planesInUse.map fun p => (s.goodBlocks p).length - s.planeSpares).min?).getD 0

/-- A block position of a plane, as `moved` lists it. -/
def positionKey (plane pos : Nat) : Nat := plane * 8192 + pos

/-- R218: the positions of plane `p` below `stripes` that a spare stands in for. -/
def State.movedPositions (s : State) (stripes p : Nat) : List Nat :=
  (List.range stripes).filter fun b => s.fl.bad.contains (p, b) || (s.systemPositions p).contains b

/-- R218: the spares of plane `p` are set aside, and those of them that stand in for a position taken. Where fewer are
spare than positions are taken the spec names no block for the rest: they keep the block of their number (assumption
log 111). -/
def State.formatPlane (stripes : Nat) (s : State) (p : Nat) : State :=
  let want := s.movedPositions stripes p
  let pool := s.spareBlocks p
  s.setFl { s.fl with
    moved := (want.zip pool).foldl (fun m e => sparsePut (positionKey p e.1) e.2 m) s.fl.moved
    spares := sparsePut p (pool.drop want.length) s.fl.spares }

/-- R228: the spares left in plane `p`. -/
def State.sparesOf (s : State) (p : Nat) : List Nat := (sparseFind p s.fl.spares).getD []

def State.sparesLeft (s : State) (p : Nat) : Nat := (s.sparesOf p).length

/-- R234 ITEM 4: the fewest spares left in any plane. -/
def State.fewestSpares (s : State) : Nat := ((s.planesInUse.map s.sparesLeft).min?).getD 0

/-- R228: plane `p` has fewer than a quarter of the spares that the format set aside. -/
def State.spareLow (s : State) (p : Nat) : Bool := decide (4 * s.sparesLeft p < s.fl.sparesAtFormat)

/-- R218: the block that stands at position `pos` of plane `p`. -/
def State.blockAt (s : State) (p pos : Nat) : Nat := (sparseFind (positionKey p pos) s.fl.moved).getD pos

/-- R228: the stripe that block `b` of plane `p` belongs to, where it belongs to one. -/
def State.stripeOfBlock (s : State) (p b : Nat) : Option Nat :=
  (List.range s.fl.stripes).find? fun k => s.inService k && s.blockAt p k == b

/-- R229, R230: the content of stripe `k` is rewritten into a free stripe, which takes its place; none where no
stripe is free. -/
def State.moveStripe (s : State) (k : Nat) : Option State :=
  if (sparseFind k s.fl.uses).isSome then
    s.pickStripe.map fun (n, t) =>
      let uses := t.fl.uses.map fun e => if e.1 = k then (n, e.2) else e
      (t.setFl { t.fl with uses := dropCopies uses, weak := t.fl.weak.filter (· != k) }).programmed t.stripePages 0
  else none

/-- R228: stripe `k`, which holds nothing, is retired for a block of plane `p`: its other good blocks become spares of
their planes. -/
def State.withdrawStripe (s : State) (k p : Nat) : State :=
  let spares := (s.planesInUse.filter (· != p)).foldl (fun l q =>
    let b := s.blockAt q k
    if s.fl.bad.contains (q, b) then l else sparsePut q (((sparseFind q l).getD []) ++ [b]) l) s.fl.spares
  let s := s.setFl { s.fl with
    erased := s.fl.erased.filter (· != k), weak := s.fl.weak.filter (· != k)
    retired := insertNat k s.fl.retired, spares := spares }
  (s.set FL_STRIPES.COUNT (s.fl.stripes - s.fl.retired.length)).showWear

/-- R228: stripe `k` is retired for a block of plane `p`, its live content moving to a free stripe first. Where none is
free it stays in service, which the spec does not foresee (assumption log 111). -/
def State.retireStripe (s : State) (k p : Nat) : State :=
  if (sparseFind k s.fl.uses).isSome then
    match s.moveStripe k with
    | some t => t.withdrawStripe k p
    | none => s
  else s.withdrawStripe k p

/-- R218: the system block position of plane `p` at which block `b` stands, if it does. -/
def State.systemAt (s : State) (p b : Nat) : Option Nat :=
  (s.systemPositions p).find? fun pos => (sparseFind (positionKey p pos) s.fl.system).getD pos == b

/-- R218, R228: a spare of plane `p` stands in for the system block at `pos`, and its content, a root copy or the
bad-block table, is rewritten there. Without a spare the block stays as it is (assumption log 111). -/
def State.replaceSystem (s : State) (p pos : Nat) : State :=
  match s.sparesOf p with
  | [] => s
  | spare :: rest =>
      (s.setFl { s.fl with
        system := sparsePut (positionKey p pos) spare s.fl.system,
          spares := sparsePut p rest s.fl.spares }).programmed 1 0

/-- R228: block `b` of plane `p` is bad: a spare of the plane stands in for it, or its stripe is retired. -/
def State.replaceBlock (s : State) (p b : Nat) : State :=
  let s := s.setFl { s.fl with bad := (p, b) :: s.fl.bad, grown := s.fl.grown + 1 }
  if (s.sparesOf p).contains b then
    s.setFl { s.fl with spares := sparsePut p ((s.sparesOf p).filter (· != b)) s.fl.spares }
  else
    match s.systemAt p b, s.stripeOfBlock p b, s.sparesOf p with
    | some pos, _, _ => s.replaceSystem p pos
    | none, none, _ => s
    | none, some k, [] => s.retireStripe k p
    | none, some k, spare :: rest =>
        let live := (sparseFind k s.fl.uses).isSome
        let s := s.setFl { s.fl with
          moved := sparsePut (positionKey p k) spare s.fl.moved, spares := sparsePut p rest s.fl.spares }
        s.when live (·.programmed (s.get FL_GEOM1.PAGES * 2 ^ s.get FL_GEOM0.PAGESZ) 0)

/-- R228: a program (cause 1) or erase (cause 2) failed in a block of `plane`, packed as R236 packs it, shifted right by
4. While SPARELOW is set a further plane below its quarter logs no second event (assumption log 111). -/
def blockRetired (plane block cause : Nat) (work : FlashWork) (s : State) : State :=
  if s.coreUp && s.flag FL_STATUS.READY then
    let s := (s.replaceBlock plane block).addHold FL_GROWN.COUNT 1
    let s := (s.raise 0x303 (plane * 16) block cause).flashWork 3 false work
    let s := s.when (s.spareLow plane && !s.flag FL_STATUS.SPARELOW) fun s =>
      (s.setFlag FL_STATUS.SPARELOW true).raise 0x305 (plane * 16) (s.sparesLeft plane) 0
    s.keepErased.checkCapacity
  else s

/-! ## Opening (R213, R224) -/

/-- R213, R224: why target `t` of channel `c` fails, if it does: 1 no signature, 2 training, 3 geometry. -/
def State.targetCause (s : State) (targets : List FoundTarget) (c t : Nat) : Option Nat :=
  match targets.find? fun f => f.channel == c && f.target == t with
  | none => some 1
  | some f =>
      if !f.signature then some 1
      else if !f.trained then some 2
      else if s.geometryOk && f.luns == s.get FL_GEOM0.LUNS && f.planes == s.get FL_GEOM0.PLANES &&
          f.size == s.get FL_GEOM0.PAGESZ && f.pages == s.get FL_GEOM1.PAGES && f.blocks == s.get FL_GEOM2.BLOCKS &&
          decide (s.spareNeeded ≤ f.spare) then none
      else some 3

/-- R224: the channels populated that are lost, each with its first target that fails and the cause. -/
def State.lostChannels (s : State) (targets : List FoundTarget) : List (Nat × Nat × Nat) :=
  ((List.range 4).filter fun c => s.maskBit FL_GEOM0.CHANNELS c).filterMap fun c =>
    (List.range (s.get FL_GEOM0.TARGETS + 1)).findSome? fun t =>
      (s.targetCause targets c t).map fun cause => (c, t, cause)

/-- R222: the unique IDs of all targets populated, in channel and target order. -/
def State.uniqueIds (s : State) (targets : List FoundTarget) : List Nat :=
  ((List.range 4).filter fun c => s.maskBit FL_GEOM0.CHANNELS c).flatMap fun c =>
    (List.range (s.get FL_GEOM0.TARGETS + 1)).flatMap fun t =>
      ((targets.find? fun f => f.channel == c && f.target == t).map (·.uid)).getD []

/-- R224, R226: step 1 of the opening: the channels that are in use, with tPROG as the parameter pages give it. -/
def State.probe (s : State) (targets : List FoundTarget) : State :=
  let lost := s.lostChannels targets
  let s := lost.foldl (fun (s : State) l => s.raise 0x302 l.1 l.2.1 l.2.2) s
  let s := s.set FL_CHUSE.CH (lost.foldl (fun m l => clearBit m l.1) (s.get FL_GEOM0.CHANNELS))
  let used := targets.filter fun f => s.maskBit FL_CHUSE.CH f.channel
  (s.setFl { s.fl with tprog := (used.map (·.tprog)).foldl max 1, times := [] }).showRate

/-- R224: the root copies that can be read in NAND. -/
def State.nandCopies (s : State) : List Root :=
  ((s.fl.nandRoots.zip (List.range 4)).filterMap fun e =>
    if s.maskBit FL_CHUSE.CH e.2 && !s.isLost 9 e.2 then e.1 else none)

/-- R224: step 2: the MRAM copy, or without one the NAND copy with the highest ROOTSEQ. -/
def State.foundRoot (s : State) : Option Root :=
  match s.fl.root with
  | some r => some r
  | none => s.nandCopies.foldl (fun best r => if best.any (fun b => decide (r.seq ≤ b.seq)) then best else some r) none

/-- R224: a format: the bad-block table, the stripe map, and a root with no base generation. Nothing is erased. -/
def State.formatStore (s : State) (uids : List Nat) (bad : List (Nat × Nat)) : State :=
  let seq := (s.foundRoot.map (·.seq)).getD 0 + 1
  let s := s.setFl { s.fl with
    bad := bad, grown := 0, retired := [], spares := [], moved := [], system := [], sparesAtFormat := s.planeSpares,
      uses := []
    erased := [], codewords := [], lost := [], weak := [], lostSum := 0, base := none, baseCut := 0, journal := [],
      spent := []
    saveIndex := [], saveCells := [], commits := [none, none], models := [none, none] }
  let n := s.formatStripes
  let s := s.planesInUse.foldl (State.formatPlane n) (s.setFl { s.fl with stripes := n })
  let was := s.fl
  let s := (s.set FL_GROWN.COUNT 0).fitRing
  let s := s.programAll 10 0 [(0, none)]
  s.writeRoot was (s.rootNow seq (nandIdentity uids) 0 (s.jseq + 1))

/-- R232: seconds since the last complete patrol pass, where they are known. -/
def State.patrolSeconds (s : State) : Option Nat :=
  if s.get TM_STATUS.QUAL = 0 then none else s.fl.patrolEnd.map fun t => s.seconds - t

/-- R235: FL_PATROLAGE: hours since the last complete pass, 0xFF_FFFF when unknown. -/
def State.patrolAge (s : State) : Nat :=
  match s.patrolSeconds with
  | some t => min (t / 3600) 0xFFFFFF
  | none => 0xFFFFFF

/-- R232: the first pass begins, as a retention scan when the last one is too old or its age unknown. FL_BGSHARE is
50 for that pass. The spec gives FL_STATUS.PATROL no meaning of its own: it shows that passes run, and stays set
between them (assumption log 111). -/
def State.beginPatrol (s : State) : State :=
  let s := (s.setFlag FL_STATUS.PATROL true).setFl { s.fl with patrolFrom := s.clock, refreshed := 0 }
  let stale := match s.patrolSeconds with
    | some t => decide (86400 * s.get FL_RETSTALE.DAYS < t)
    | none => true
  s.when stale fun s =>
    let s := s.setFl { s.fl with bgShare := s.get FL_BGSHARE.PCT }
    (((s.setFlag FL_STATUS.RETSCAN true).set FL_BGSHARE.PCT 50).raise 0x309 s.patrolAge 0 0).showFlashRate

/-- R232: the pass ends, and FL_BGSHARE is what it was. -/
def State.endScan (s : State) : State :=
  if s.flag FL_STATUS.RETSCAN then
    ((s.setFlag FL_STATUS.RETSCAN false).set FL_BGSHARE.PCT s.fl.bgShare).showFlashRate
  else s

/-- R224: the store is ready. FL_GROWN and SPARELOW show what the bad-block table holds; a SPARELOW that is found
so logs no event (assumption log 111). -/
def State.storeReady (s : State) (outcome : Nat) : State :=
  let s := ((s.setFlag FL_STATUS.NOBASE s.fl.base.isNone).setFlag FL_STATUS.READY true).setFlag FL_STATUS.FORMATTING false
  let s := (s.set FL_STRIPES.COUNT (s.fl.stripes - s.fl.retired.length)).set FL_GROWN.COUNT (min s.fl.grown 0xFFFFFF)
  let s := (s.setFlag FL_STATUS.SPARELOW (s.planesInUse.any s.spareLow)).fitRing.keepErased
  let s := s.setFl { s.fl with lifeFrom := s.clock }
  let s := s.raise 0x301 outcome (s.get FL_CHUSE.CH) (s.get FL_STRIPES.COUNT)
  s.showWear.checkCapacity.showFill.beginPatrol.place

/-- R224: outcome 1: the store is opened from root `r`. What was being written and not named is free. -/
def State.openStore (s : State) (r : Root) : State :=
  let s := ((s.set SH_BASEGEN.GEN r.gen).set SH_EPOCH.EPOCH r.epoch).dropUse .next
  let named := s.fl.uses.filter fun e =>
    match e.2 with
    | .moved _ => false
    | _ => true
  let s := s.setFl { s.fl with root := some r, uses := named }
  let last := ((s.fl.spent ++ s.fl.journal).getLast?.map (·.jseq)).getD (r.cut - 1)
  (s.setPair SH_JSEQH.JSEQ SH_JSEQL.JSEQ last).storeReady 1

/-- R224: the opening, from the targets as found, what the reads met, and, for a format, the factory's bad-block
markers as plane and block. A format shows FORMATTING from one FLASH_OPEN, which finds no root to open from, to the
next, at which it ends (assumption log 99). -/
def flashOpen (targets : List FoundTarget) (bad : List (Nat × Nat)) (work : FlashWork) (s : State) : State :=
  if !s.coreUp || s.flag FL_STATUS.READY then s
  else if s.flag FL_STATUS.FORMATTING then
    (s.formatStore (s.uniqueIds targets) bad).storeReady (if s.flag FL_STATUS.MISMATCH then 3 else 2)
  else
    let s := (s.probe targets).flashWork 3 false work
    match s.foundRoot with
    | none => s.setFlag FL_STATUS.FORMATTING true
    | some r =>
        let identity := r.identity == nandIdentity (s.uniqueIds targets)
        if identity && s.nandCopies.any (fun c => c.seq == r.seq || c.seq == r.seq + 1) then s.openStore r
        else
          ((s.setFlag FL_STATUS.MISMATCH true).raise 0x30B (r.seq % 2 ^ 24) (if identity then 2 else 1) 0).setFlag
            FL_STATUS.FORMATTING true

/-! ## Patrol (R225, R229, R230, R232) -/

/-- R225, R229: the states in which patrol, refresh and wear-levelling have flash time. -/
def State.backgroundRuns (s : State) : Bool :=
  s.flag FL_STATUS.READY && s.powerIn [standby, active, maint] && s.sv.pavane.isNone && s.sv.galliard.isNone

/-- R229: a pass over every live codeword ends, and the next one begins, no earlier than FL_PATROL hours after this
one did. -/
def patrolDone (codewords : Nat) (work : FlashWork) (s : State) : State :=
  if s.backgroundRuns && s.flag FL_STATUS.PATROL && decide (s.fl.patrolFrom ≤ s.clock) then
    let s := s.flashWork 1 true work
    let s := s.raise 0x308 (min codewords 0xFFFFFF) s.fl.refreshed ((s.clock - s.fl.patrolFrom) / hourTicks)
    let next := max s.clock (s.fl.patrolFrom + s.get FL_PATROL.HOURS * hourTicks)
    let s := s.endScan
    s.setFl { s.fl with patrolEnd := some s.seconds, patrolFrom := next, refreshed := 0 }
  else s

/-- R219: a stripe of the image that a Galliard reads. -/
def StripeUse.ofImage : StripeUse → Bool
  | .generation | .journal | .save | .carried => true
  | .model _ | .next | .moved _ => false

/-- R229, R232: the stripe to be refreshed next: the first, in a retention scan one of the waiting image before
others. -/
def State.nextWeak (s : State) : Option Nat :=
  let image := s.fl.weak.find? fun k => (sparseFind k s.fl.uses).any (·.ofImage)
  if s.flag FL_STATUS.RETSCAN && s.get SV_STATUS.IMAGE != 0 then image.or s.fl.weak.head? else s.fl.weak.head?

/-- R229: stripe `k` is rewritten and the root updated; nothing where no stripe is free. -/
def State.refreshStripe (s : State) (k : Nat) : State :=
  match s.moveStripe k, s.fl.root with
  | some t, some r =>
      let t := t.updateRoot s.fl r.slot r.cut
      (t.setFl { t.fl with refreshed := t.fl.refreshed + 1 }).keepErased
  | _, _ => s

/-- R229: a stripe that needs refresh is rewritten. `patrol` is what the pass has met up to now, of which the
refresh need not wait for the end of the pass, and `work` what the refresh itself met. -/
def stripeRefresh (patrol work : FlashWork) (s : State) : State :=
  if s.backgroundRuns then
    let s := s.flashWork 1 true patrol
    match s.nextWeak with
    | some k => (s.refreshStripe k).flashWork 3 false work
    | none => s
  else s

/-- R230: the stripe whose content a wear-levelling move copies: the least worn live one, where it is not copied yet. -/
def State.coldStripe (s : State) : Option Nat :=
  (s.leastWorn (s.fl.uses.map (·.1))).filter fun k =>
    s.fl.uses.all fun e =>
      match e.2 with
      | .moved j => e.1 != k && j != k
      | _ => true

/-- R223, R230: the content of the least-worn live stripe is copied into a free stripe. The next root update names the
copy and frees the stripe. -/
def wearLevelMove (work : FlashWork) (s : State) : State :=
  if s.backgroundRuns && decide (s.get FL_MEANPE.CYCLES + 500 < s.get FL_MAXPE.CYCLES) then
    match s.coldStripe.bind fun k => s.takeStripe (.moved k) with
    | some t => ((t.programmed t.stripePages 0).flashWork 3 false work).keepErased
    | none => s
  else s

/-! ## FLINFO (R233, R234) -/

/-- FL_STATUS as the register reads. -/
def State.flashStatus (s : State) : Nat :=
  s.get FL_STATUS.RETSCAN * 128 + s.get FL_STATUS.PATROL * 64 + s.get FL_STATUS.CAPSHORT * 32 +
    s.get FL_STATUS.SPARELOW * 16 + s.get FL_STATUS.MISMATCH * 8 + s.get FL_STATUS.FORMATTING * 4 +
    s.get FL_STATUS.NOBASE * 2 + s.get FL_STATUS.READY

/-- R234: the figure `item` names. -/
def State.flashItem (s : State) (item : Nat) : Nat :=
  match item with
  | 0 => s.flashStatus
  | 1 => s.get FL_LIFEMEAS.DAYS
  | 2 => s.get FL_LIFEBW.DAYS
  | 3 => s.get FL_MAXPE.CYCLES
  | 4 => s.fewestSpares
  | 5 => s.freeStripes
  | 6 => s.fl.lostSum
  | _ => s.get FL_CAPGIB.GIB

/-- R231, R233, R234: FLINFO; the projections are recomputed at each. -/
def flinfo (op : Op) (s : State) : State :=
  s.issue op 0x1F (unitCost 0x1F) fun s ref =>
    s.judge ref (op.ext.length == 0) (op.src == 0 && op.imm9 == 0) true true true 0
      fun s =>
        let s := s.recomputeLife
        s.post ref 0x01 (min (s.flashItem op.dst) 0xFFFFFF)

/-- R232, R233: FL_BGSHARE is written; in a retention scan it stays 50, and the written value follows at its end
(assumption log 111). -/
def State.shareWritten (t : State) : State :=
  if t.flag FL_STATUS.RETSCAN then
    (t.setFl { t.fl with bgShare := t.get FL_BGSHARE.PCT }).set FL_BGSHARE.PCT 50
  else t.showFlashRate

/-- R233: a write of value `v` to the flash block's slot at block offset `o`. -/
def flWrite (w : Writer) (o v m : Nat) (s : State) : Option State :=
  let off := 0x6000 + o
  if o = 0x018 then (s.writeIf (FL_BGSHARE.PCT.within v 0 50) w off v m).map (·.shareWritten)
  else if o = 0x01C then s.writeIf (FL_PATROL.HOURS.within v 1 720) w off v m
  else if o = 0x020 then s.writeIf (FL_WEAKPCT.PCT.within v 25 90) w off v m
  else if o = 0x024 then s.writeIf (FL_RETSTALE.DAYS.within v 1 365) w off v m
  else if o = 0x028 then (s.writeIf (FL_ERESV.STRIPES.within v 1 31) w off v m).map (·.keepErased)
  else if o = 0x02C then s.writeIf (FL_LIFEWARN.DAYS.within v 1 65535) w off v m
  else s.plainWrite w off v m

def execFlinfo (op : Op) (s : State) : Outcome State Fault Refusal := .next (flinfo op s)

def execBlockRetired (plane block cause : Nat) (work : FlashWork) (s : State) : Outcome State Fault Refusal :=
  .next (blockRetired plane block cause work s)

def execPatrolDone (codewords : Nat) (work : FlashWork) (s : State) : Outcome State Fault Refusal :=
  .next (patrolDone codewords work s)
def execStripeRefresh (patrol work : FlashWork) (s : State) : Outcome State Fault Refusal :=
  .next (stripeRefresh patrol work s)
def execWearLevelMove (work : FlashWork) (s : State) : Outcome State Fault Refusal := .next (wearLevelMove work s)
def execLifeRecompute (s : State) : Outcome State Fault Refusal := .next (lifeRecompute s)

end Sys2Proof.Machine
end

