-- ==== Sys2Proof/Machine/HostPath.lean ====
section
/-! DEFINITION. The host memory path but for READ and WRITE (R118 to R149): ownership of the DRAM,
training, the scrub, lend windows and the block's registers. -/

namespace Sys2Proof.Machine

open Reg Host

/-! ## Ownership (R131 to R135) -/

/-- R131, R149: OWN changes. `block`: by Pavane. -/
def State.ownChange (s : State) (new : Nat) (block : Bool) (cause : Nat) : State :=
  let old := s.get HP_OWN.STATE
  ((s.set HP_OWN.STATE new).setFlag HP_OWN.BLOCK block).raise 0x181 old (new + 8 * boolNat block) cause

def State.own (s : State) : Nat := s.get HP_OWN.STATE

/-- R131: OWN is DEVICE with BLOCK 0. -/
def State.deviceOwns (s : State) : Bool := s.own == 1 && !s.flag HP_OWN.BLOCK

/-- R118: the organisations of the table, from HP_CONFIG. -/
def State.organised (s : State) : Bool :=
  let rankGib := 8 * 2 ^ s.get HP_CONFIG.DENS * 2 ^ s.get HP_CONFIG.WIDTH
  let ranks := s.get HP_CONFIG.RANKS
  decide (1 ≤ ranks) && decide (ranks * rankGib = s.get HP_CONFIG.GIB) && decide (ranks ≤ 4) &&
    decide (s.get HP_CONFIG.GIB ≤ 64)

/-- R118: the row bits of the organisation. -/
def State.rowBits (s : State) : Nat := 16 + s.get HP_CONFIG.DENS + s.get HP_CONFIG.WIDTH

/-- R138: every rank is in self-refresh. -/
def State.allRefreshing (s : State) : Bool :=
  (List.range (s.get HP_CONFIG.RANKS)).all fun r => bitOf s.hp.selfRefresh r

/-- R122, R136: device DRAM work in progress. -/
def State.dramWork (s : State) : Bool :=
  s.flag HP_STATUS.SCRUBBING || s.windowOpen || s.sv.galliard.isSome || s.hp.passing.isSome

/-! ## Filling (R125, R136, R142) -/

/-- R125: `units` of 64 KiB from `start` hold zero lines. -/
def State.zeroUnits (s : State) (start units : Nat) : State :=
  { s with hp := { s.hp with
    dram := s.hp.dram.fill ⟨start * 65536, units * 65536, some (s.get HP_CHKPAT.PAT), 0⟩ } }

/-- R131, R136, R137: the DRAM rail starts. -/
def State.dramRailStart (s : State) : State :=
  let g := s.hp.generation + 1
  let s := { s with hp := { s.hp with
    generation := g, dram := ⟨[], [], [⟨0, s.dramBytes, none, g⟩]⟩, railScrub := s.flag HP_SCRUBCFG.EN,
    passes := [0, 1], passing := none, trained := none, rows := [], selfRefresh := 0 } }
  let s := ((s.setFlag HP_STATUS.DTI false).setFlag HP_STATUS.DTH false).setFlag HP_STATUS.BASE false
  let s := (s.setFlag HP_STATUS.SCRUBBING false).setFlag HP_STATUS.DEFERRED false
  s.ownChange 1 false 1

/-! ## Training (R121, R122) -/

/-- R142: the purpose of the open window, if one is open. -/
def State.lendPurpose (s : State) : Nat :=
  match s.hp.lend with
  | some l => if l.opened.isSome then l.purpose else 0
  | none => 0

/-- R122, R136: nothing the host-rate pass waits for remains but the host's clock, which the row stands for: the
speed words are written, the internal pass and a scrub that follows it are over, and the DRAM has no other work. -/
def State.hostPassMay (s : State) : Bool :=
  s.hp.speedWritten && !s.hp.passes.contains 0 && !s.hp.railScrub && !s.flag HP_STATUS.SCRUBBING &&
    s.sv.galliard.isNone && (s.lendPurpose == 0 || s.lendPurpose == 3)

/-- R122: a pass begins. -/
def trainingPassStart (pass : Nat) (s : State) : State :=
  if s.coreUp && s.hp.passes.contains pass && s.hp.passing.isNone && (pass == 0 || s.hostPassMay) then
    { s with hp := { s.hp with passing := some pass } }
  else s

/-- R136: the scrub begins. -/
def State.beginScrub (s : State) : State :=
  let s := (s.setFlag HP_STATUS.SCRUBBING true).setFlag HP_STATUS.DEFERRED false
  { s with hp := { s.hp with scrubFrom := s.clock } }

/-- R122: a pass ends; `failure` is the rank and the step. An unsupported organisation fails (R118); where the
training names no rank and step of its own the event says rank 0, step 1, which no rule states (assumption log 96). -/
def trainingDone (failure : Option (Nat × Nat)) (s : State) : State :=
  match s.hp.passing with
  | none => s
  | some p =>
      let s := { s with hp := { s.hp with passing := none, passes := s.hp.passes.erase p } }
      match (if s.organised then failure else some (failure.getD (0, 1))) with
      | some (rank, step) => s.raiseFault 0x182 p rank step
      | none =>
          if p = 0 then s.setFlag HP_STATUS.DTI true
          else
            let s := s.setFlag HP_STATUS.DTH true
            { s with hp := { s.hp with trained := some (s.get HP_RATE.MTS) } }

/-- R144: RETRAIN is legal. -/
def State.retrainLegal (s : State) : Bool := s.deviceOwns && !s.dramWork

/-- R122: both passes are to be repeated. -/
def State.repeatPasses (s : State) : State :=
  let s := (s.setFlag HP_STATUS.DTI false).setFlag HP_STATUS.DTH false
  { s with hp := { s.hp with passes := [0, 1], passing := none, trained := none } }

/-- R118: the host data rates. -/
def hostRates : List Nat := [1600, 1866, 2133, 2400, 2666, 2933, 3200]

/-- R122: `mts` is a change of operating speed: it is not the present one, or DTH was trained at another. -/
def State.speedChange (s : State) (mts : Nat) : Bool := mts != s.get HP_RATE.MTS || s.hp.trained.any (· != mts)

/-- R122: DTH clears and the host-rate pass is due again; one that runs is given up. -/
def State.redoHostPass (s : State) : State :=
  let s := s.setFlag HP_STATUS.DTH false
  { s with hp := { s.hp with
    passes := if s.hp.passes.contains 1 then s.hp.passes else s.hp.passes ++ [1]
    passing := s.hp.passing.filter (· != 1)
    trained := none } }

/-- R118, R120, R122: the operating speed words give `mts`, one of the seven rates. What words that give another rate do
the spec does not say: they have no effect here, and are no violation (assumption log 109). -/
def speedWord (mts : Nat) (s : State) : State :=
  if s.own = 1 then
    if hostRates.contains mts then
      let s := s.when (s.speedChange mts) fun s => (s.set HP_RATE.MTS mts).redoHostPass
      { s with hp := { s.hp with speedWritten := true } }
    else s
  else s.violate (writerViolation .host 0x3004)

/-! ## Claim and release (R134, R144) -/

/-- R144: CLAIM is legal. -/
def State.claimLegal (s : State) (w : Writer) : Bool :=
  decide (w = Writer.host) && s.powerIn [active, quiet, maint] && s.deviceOwns && s.sv.galliard.isNone &&
    s.flag HP_STATUS.HTRAIN && s.flag HP_STATUS.DTH

/-- R134: the release: the device takes every rank out of self-refresh and the host has the DRAM. -/
def State.release (s : State) : State :=
  ({ s with hp := { s.hp with selfRefresh := 0, claimWaits := false } } : State).ownChange 0 false 7

/-- R131, R134, R136: CLAIM, after the deferred scrub when one is pending. -/
def State.claim (s : State) : State :=
  if s.flag HP_STATUS.DEFERRED then
    let s := s.beginScrub
    { s with hp := { s.hp with claimWaits := true } }
  else if s.flag HP_STATUS.SCRUBBING then { s with hp := { s.hp with claimWaits := true } }
  else s.release

/-- R9, R144: a write of HP_OWNCTL: a violation where neither field is writable by `w` now. Of two legal
actions RETRAIN is taken (assumption log 92). -/
def ownctlWrite (w : Writer) (v m : Nat) (s : State) : Option State :=
  let claims := bitOf m 0 && s.claimLegal w
  let retrains := bitOf m 1 && s.retrainLegal
  if !claims && !retrains then none
  else if retrains && bitOf v 1 then some s.repeatPasses
  else some (s.when (claims && bitOf v 0) (·.claim))

/-- R136, R196: the image a CLAIM passed over is discarded at the end of its scrub. -/
def State.discardImage (s : State) : State :=
  let image := s.get SV_STATUS.IMAGE
  if image = 0 then s
  else
    let s := s.set SV_STATUS.IMAGE 0
    let s := s.setRecord { s.sv.record with saveState := 0, table := [] }
    let s := (s.setFl { s.fl with commits := [none, none] }).dropSave
    s.raise 0x28C image (s.sv.record.saveSeq % 2 ^ 24) 0

/-- R136, R137, R156: the cold-start scrub ends. It renews nothing where the flash store has no free stripe (assumption
log 111). -/
def scrubEnd (work : FlashWork) (s : State) : State :=
  if s.flag HP_STATUS.SCRUBBING then
    let s := s.flashWork 3 false work
    let units := s.dramBytes / 65536
    let s := (s.zeroUnits 0 units).setFlag HP_STATUS.SCRUBBING false
    let s := s.raise 0x183 0 units (min ((s.clock - s.hp.scrubFrom) / 100000) 0xFFFFFF)
    let s := s.discardImage
    let s := (s.renew 1 ⟨[], [], []⟩ []).getD s
    s.when s.hp.claimWaits (·.release)
  else s

/-! ## Lend windows (R138 to R142) -/

/-- R142: SCRUBPEND shows the pending SCRUBs. -/
def State.showScrubs (s : State) : State := s.set HP_SCRUBPEND.COUNT s.hp.scrubs.length

/-- R140: the window closes, or the wait ends, and LEND completes. -/
def State.closeLend (s : State) (status result : Nat) : State :=
  match s.hp.lend with
  | none => s
  | some l => ({ s with hp := { s.hp with lend := none } } : State).post l.ref status result

/-- R140: the duration of the open window in ms. -/
def State.lendMs (s : State) : Nat :=
  match s.hp.lend.bind (·.opened) with
  | some t => min ((s.clock - t) / 100000) 0xFFFFFF
  | none => 0

/-- R131, R140: the window closes, and the host has the DRAM again, or the device if RESET_n was
asserted in the window. -/
def State.endWindow (s : State) (status : Nat) : State :=
  let ms := s.lendMs
  let reset := s.hp.resetInLend
  let s := { s with hp := { s.hp with resetInLend := false } }
  (s.ownChange (if reset then 1 else 0) false 3).closeLend status ms

/-- R142: pending SCRUBs that a later region overlaps complete with 0x4E. -/
def State.dropScrubs (s : State) : State :=
  let hit := fun (q : ScrubReq) => s.meetsRegion s.regionKept q.start q.count
  let bad := s.hp.scrubs.filter hit
  let s := { s with hp := { s.hp with scrubs := s.hp.scrubs.filter fun q => !hit q } }
  (s.postAll (bad.map fun q => (q.ref, 0x4E, 0))).showScrubs

/-- R142: `units` of the pending SCRUBs are zeroed, in submission order. -/
def runScrubs : List ScrubReq → Nat → State → State × List ScrubReq
  | [], _, s => (s, [])
  | q :: rest, units, s =>
      let left := q.count - q.done
      if left ≤ units then
        let s := s.zeroUnits (q.start + q.done) left
        let s := (s.raise 0x183 1 q.count s.lendMs).post q.ref 0x01 q.count
        runScrubs rest (units - left) s
      else (s.zeroUnits (q.start + q.done) units, { q with done := q.done + units } :: rest)

/-- R142: the SCRUBs advance by `units`. -/
def State.advanceScrubs (s : State) (units : Nat) : State :=
  let (s, rest) := runScrubs s.hp.scrubs units s
  ({ s with hp := { s.hp with scrubs := rest } } : State).showScrubs

/-- R138, R139, R142: the window opens. A pending SCRUB that a region overlaps is dropped as a SCRUB window opens,
the only kind of window that runs SCRUBs (assumption log 96). -/
def State.openLend (s : State) : State :=
  match s.hp.lend with
  | some l =>
      if l.opened.isNone && s.allRefreshing && s.own == 0 then
        let s := { s with hp := { s.hp with lend := some { l with opened := some s.clock } } }
        let s := s.ownChange 2 false 2
        if l.purpose = 2 then
          let s := s.dropScrubs
          if s.hp.scrubs.isEmpty then (s.ownChange 0 false 3).closeLend 0x02 0 else s
        else if l.purpose = 3 then s.repeatPasses
        else s
      else s
  | none => s

/-- R140, R141, R142: the open window is cut short with `units` of the SCRUBs zeroed. -/
def State.cutLend (s : State) (units : Nat) : State :=
  match s.lendPurpose with
  | 0 => s
  | 2 => (s.advanceScrubs units).endWindow 0x4D
  | 3 => ({ s with hp := { s.hp with passing := none, passes := [] } } : State).endWindow 0x4D
  | _ => s.endWindow 0x4D

/-- R138, R140: the purpose completes. A SCRUB submitted while the SCRUB window is open is zeroed in that window,
which has not completed while one is pending (assumption log 96). A SNAPSHOT for which the flash store has too few
free stripes is cut short (R220). -/
def lendPurposeDone (work : FlashWork) (s : State) : State :=
  match s.lendPurpose with
  | 1 =>
      let s := s.flashWork 3 false work
      let base : Image := { s.hp.dram with checks := [] }
      match s.renew 2 base [] with
      | some t => t.endWindow 0x01
      | none => s.cutLend 0
  | 2 => (s.advanceScrubs (s.hp.scrubs.map (·.count)).sum).endWindow 0x01
  | 3 => if s.hp.passes.isEmpty then s.endWindow 0x01 else s
  | _ => s

/-- R140: the time at which MAXDUR has elapsed, or WAIT runs out. -/
def Lend.deadline (l : Lend) : Nat :=
  match l.opened with
  | some t => t + l.maxdur * 100000
  | none => l.waitEnd

/-- R140, R142: MAXDUR elapses with `units` of the SCRUBs zeroed. -/
def lendMaxdurExpiry (units : Nat) (s : State) : State :=
  match s.hp.lend with
  | some l => if l.opened.isSome then s.onTime l.deadline (·.cutLend units) else s
  | none => s

/-- R138: WAIT runs out. -/
def lendWaitTimeout (s : State) : State :=
  match s.hp.lend with
  | some l => if l.opened.isNone then s.onTime l.deadline (·.closeLend 0x4C 0) else s
  | none => s

/-- R132, R141: the host issues SRX to rank `rank`: forwarded in HOST; in LENT the window closes, with every rank in
self-refresh (R140), and host commands are absorbed for 4 µs; absorbed otherwise. -/
def hostSrx (rank units : Nat) (s : State) : State :=
  let purpose := s.lendPurpose
  if purpose != 0 then
    let s := (s.raise 0x186 purpose s.lendMs 0).cutLend units
    { s with hp := { s.hp with deafUntil := s.clock + 400 } }
  else if s.own = 0 ∧ s.hp.deafUntil ≤ s.clock then
    { s with hp := { s.hp with selfRefresh := clearBit s.hp.selfRefresh rank } }
  else s

/-- R138, R144, R145, R576: LEND. -/
def lend (op : Op) (s : State) : State :=
  s.issue op 0x1A (unitCost 0x1A) fun s ref =>
    s.judge ref (op.ext.length == 1) (op.src == 0 && decide (op.word 1 < 2 ^ 16)) true
      (s.powerIn [active, quiet, maint] && s.own == 0 && s.hp.lend.isNone && s.flag HP_STATUS.DTH &&
        s.pw.pstate.isEmpty && !(op.ring == 15 && s.sideBandOwns15))
      (decide (1 ≤ op.dst) && decide (op.dst ≤ 3) && decide (1 ≤ op.imm9) && decide (1 ≤ op.word 1)) 0x4E
      fun s => { s with hp := { s.hp with lend := some ⟨ref, op.dst, op.word 1, s.clock + op.imm9 * 1000000, none⟩ } }

/-- R142, R144, R146: SCRUB. -/
def scrub (op : Op) (s : State) : State :=
  let start := op.word 1
  let count := op.word 2
  s.issue op 0x1E (unitCost 0x1E) fun s ref =>
    s.judge ref (op.ext.length == 2)
      (op.dst == 0 && op.src == 0 && op.imm9 == 0 && decide (start < 2 ^ 20) && decide (count < 2 ^ 21))
      true (s.powerIn [standby, active, quiet, maint])
      (decide (1 ≤ count) && decide (count ≤ 1048576) && s.unitsFit start count &&
        !s.meetsAperture start count && !s.meetsRegion s.regionKept start count) 0x4E
      fun s =>
        if 8 ≤ s.hp.scrubs.length then s.post ref 0x4F 0
        else
          ({ s with hp := { s.hp with scrubs := s.hp.scrubs ++ [⟨ref, start, count, 0⟩] } } : State).showScrubs

/-! ## Host commands that move no data (R120, R124, R128, R143) -/

/-- R124: the key of a bank in the table of open rows. -/
def bankKey (rank bank : Nat) : Nat := rank * 16 + bank

/-- R124: an ACT of `row`, or a PRE; `bank` none names every bank of the rank. -/
def hostActPre (rank : Nat) (bank row : Option Nat) (s : State) : State :=
  let banks := match bank with
    | some b => [b]
    | none => List.range 16
  let rows := banks.foldl (fun m b =>
    match row with
    | some r => sparsePut (bankKey rank b) r m
    | none => sparseDrop (bankKey rank b) m) s.hp.rows
  { s with hp := { s.hp with rows := rows } }

/-- The place of a control or buffer word of function space `space`: in space 0 a 4-bit word is chosen by A[7:4], else
an 8-bit one by A[11:8]; A12 tells a buffer word from a register's (assumption log 96). -/
def wordKey (space value : Nat) : Nat :=
  8192 * space + (if space = 0 ∧ value / 256 % 16 = 0 then value % 8192 / 16 else 32 + value % 8192 / 256)

/-- R120: a control or buffer word is stored as written. The buffer word BC7x also selects the function space of those
that follow (assumption log 96). -/
def State.storeWord (s : State) (value : Nat) : State :=
  let space := if value % 8192 / 256 = 0x17 then value % 8 else s.hp.space
  { s with hp := { s.hp with words := sparsePut (wordKey s.hp.space value) value s.hp.words, space := space } }

/-- R63, R120: a control word. F7RC0x to F7RC2x place the aperture, and F7RC3x to F7RCFx have no effect. -/
def State.controlWord (s : State) (value : Nat) : State :=
  if s.hp.space = 7 ∧ value % 8192 / 4096 = 0 then
    match value / 256 % 16 with
    | 0 => s.rowWrite .host 0x2000 (apertureBaseWrite .host 0 (value % 256) s)
    | 1 => s.rowWrite .host 0x2000 (apertureBaseWrite .host 1 (value % 256) s)
    | 2 => s.rowWrite .host 0x2000 (apertureEnableWrite .host (bitOf value 0) s)
    | _ => s
  else s.storeWord value

/-- R120: a mode register write is recorded, for the rank or for one device of it. A write of MR7 is what JEDEC gives
the control and buffer words (assumption log 96). -/
def hostMrs (rank mr value : Nat) (device : Option Nat) (s : State) : State :=
  if mr = 7 then s.controlWord value
  else match device with
  | none =>
      let key := rank * 8 + mr
      { s with hp := { s.hp with
        modes := sparsePut key value s.hp.modes,
        deviceModes := s.hp.deviceModes.filter fun e => e.1 / 32 != key } }
  | some d =>
      { s with hp := { s.hp with deviceModes := sparsePut ((rank * 8 + mr) * 32 + d) value s.hp.deviceModes } }

/-- R120: MR2 write CRC (bit 12) is recorded as enabled on a device of rank `rank`, of its 9 or 18. -/
def State.crcEnabled (s : State) (rank : Nat) : Bool :=
  let key := rank * 8 + 2
  let shared := (sparseFind key s.hp.modes).getD 0
  (List.range (9 * 2 ^ s.get HP_CONFIG.WIDTH)).any fun d =>
    bitOf ((sparseFind (key * 32 + d) s.hp.deviceModes).getD shared) 12

/-- R120, R149: a command with a C/A parity error is dropped and counted. -/
def caParityError (rank : Nat) (s : State) : State :=
  let s := s.add HP_PARERR.COUNT 1
  let first := s.hp.paritySecond != some s.seconds
  let s := { s with hp := { s.hp with paritySecond := some s.seconds } }
  s.when first (·.raise 0x185 1 rank 0)

/-- R133, R143: RESET_n is asserted. The operating speed words go to their JESD reset value, 1,600 MT/s; a CLAIM that
waits for its scrub is over, since ownership then returns only through CLAIM. -/
def resetN (s : State) : State :=
  let s := (s.setFlag HP_STATUS.HTRAIN false).setFlag QU_APCTL.EN false
  let s := s.set HP_RATE.MTS 1600
  let s := { s with hp := { s.hp with words := [], space := 0, speedWritten := false, claimWaits := false } }
  match s.own with
  | 0 => s.ownChange 1 false 6
  | 3 => s.ownChange 1 false 6
  | 2 => { s with hp := { s.hp with resetInLend := true } }
  | _ => s

/-! ## Pavane (R131, R138, R142) -/

/-- R138, R142: at the freeze a waiting LEND and the pending SCRUBs complete with 0x03. -/
def State.freezeHostPath (s : State) : State :=
  let s := match s.hp.lend with
    | some l => if l.opened.isNone then s.closeLend 0x03 0 else s
    | none => s
  let qs := s.hp.scrubs
  let s := ({ s with hp := { s.hp with scrubs := [] } } : State).showScrubs
  s.postAll (qs.map fun q => (q.ref, 0x03, 0))

/-- R131: Pavane step 3. A scrub stops, and a CLAIM no longer waits for it. -/
def State.blockHost (s : State) : State :=
  let ms := s.lendMs
  let open_ := s.windowOpen
  let s := s.setFlag HP_STATUS.SCRUBBING false
  let s := { s with hp := { s.hp with railScrub := false, claimWaits := false, resetInLend := false } }
  let s := s.ownChange 1 true 5
  if open_ then s.closeLend 0x4D ms else s

/-! ## Writes (R127, R144, R148) -/

/-- R127: the write-once LOCK. -/
def eccLockWrite (w : Writer) (s : State) : Option State :=
  if s.flag HP_ECCCTL.LOCK then none else s.plainWrite w 0x301C (2 + s.get HP_ECCCTL.MODE) (2 ^ 24 - 1)

/-- A write of value `v` to the host path's slot at block offset `o`. -/
def hpWrite (w : Writer) (o v m : Nat) (s : State) : Option State :=
  let off := 0x3000 + o
  if o = 0x010 then ownctlWrite w v m s
  else if o = 0x018 ∨ o = 0x01C ∨ (0x100 ≤ o ∧ o < 0x200) then
    s.writeIf (!s.flag HP_ECCCTL.LOCK) w off v m
  else s.plainWrite w off v m

def execHostActPre (rank : Nat) (bank row : Option Nat) (s : State) : Outcome State Fault Refusal :=
  .next (s.when s.coreUp (hostActPre rank bank row))
def execHostMrs (rank mr value : Nat) (device : Option Nat) (s : State) : Outcome State Fault Refusal :=
  .next (s.when s.coreUp (hostMrs rank mr value device))
/-- R132: forwarded or absorbed by ownership; nothing the block holds changes. -/
def execHostRefreshOrZq (s : State) : Outcome State Fault Refusal := .next s
def execHostSrx (rank units : Nat) (s : State) : Outcome State Fault Refusal :=
  .next (s.when s.coreUp (hostSrx rank units))
def execCaParityError (rank : Nat) (s : State) : Outcome State Fault Refusal :=
  .next (s.when s.coreUp (caParityError rank))
def execOperatingSpeedWord (mts : Nat) (s : State) : Outcome State Fault Refusal :=
  .next (s.when s.coreUp (speedWord mts))
/-- R121: HTRAIN sets. -/
def execHostTrainingEnd (s : State) : Outcome State Fault Refusal :=
  .next (s.when s.coreUp (·.setFlag HP_STATUS.HTRAIN true))
def execResetNAssert (s : State) : Outcome State Fault Refusal := .next (s.when s.coreUp resetN)
def execDramTrainingPassStart (pass : Nat) (s : State) : Outcome State Fault Refusal := .next (trainingPassStart pass s)
def execDramTrainingDone (failure : Option (Nat × Nat)) (s : State) : Outcome State Fault Refusal :=
  .next (trainingDone failure s)
def execClaim (w : Writer) (s : State) : Outcome State Fault Refusal :=
  .next (s.rowWrite w 0x3010 (ownctlWrite w 1 3 s))
def execRetrain (w : Writer) (s : State) : Outcome State Fault Refusal :=
  .next (s.rowWrite w 0x3010 (ownctlWrite w 2 3 s))
def execEccLockWrite (w : Writer) (s : State) : Outcome State Fault Refusal :=
  .next (s.rowWrite w 0x301C (eccLockWrite w s))
def execScrubEnd (work : FlashWork) (s : State) : Outcome State Fault Refusal := .next (scrubEnd work s)
def execLendSnapshot (op : Op) (s : State) : Outcome State Fault Refusal := .next (lend { op with dst := 1 } s)
def execLendScrub (op : Op) (s : State) : Outcome State Fault Refusal := .next (lend { op with dst := 2 } s)
def execLendRetrain (op : Op) (s : State) : Outcome State Fault Refusal := .next (lend { op with dst := 3 } s)
def execLendWaitTimeout (s : State) : Outcome State Fault Refusal := .next (lendWaitTimeout s)
def execLendPurposeDone (work : FlashWork) (s : State) : Outcome State Fault Refusal := .next (lendPurposeDone work s)
def execLendMaxdurExpiry (units : Nat) (s : State) : Outcome State Fault Refusal := .next (lendMaxdurExpiry units s)
def execScrub (op : Op) (s : State) : Outcome State Fault Refusal := .next (scrub op s)

end Sys2Proof.Machine
end

