-- ==== Sys2Proof/Machine/Wellhead.lean ====
section
/-! DEFINITION. Wellhead's time: steps, quality, sources, servo, holdover, leap seconds and outputs
(R311 to R328). -/

namespace Sys2Proof.Machine

open Reg Host

/-- One second, in units of 10 ns. -/
def oneSecond : Nat := 100000000

/-! ## Deferred events -/

/-- An event raised while the core rail may be down: logged at the next core start then. -/
def State.raiseLater (s : State) (code w5 w6 w7 : Nat) : State :=
  if s.coreUp then s.raise code w5 w6 w7
  else { s with tm := { s.tm with deferred := s.tm.deferred ++ [(code, w5, w6, w7)] } }

/-! ## The oscillator (R311, R326) -/

/-- The die temperature, in 0.1 °C. -/
def State.dieTemp (s : State) : Int := s.getS (MN_VAL.VAL 22)

/-- R326: the crystal's predicted offset at `t` in 0.1 °C, in ppb. -/
def State.crystalOffset (s : State) (t : Int) : Int :=
  s.getS TM_XTOFS.F - Int.tdiv ((s.get TM_XTAL.XTK : Int) * (t - 250) * (t - 250)) 100

/-- R326: the correction of the time clock follows: on the crystal, its predicted offset. -/
def State.correctClock (s : State) : State :=
  { s with tm := { s.tm with correction := if s.flag TM_STATUS.XTAL then s.crystalOffset s.dieTemp else 0 } }

/-- R311: Wellhead runs from the TCXO whenever EN10 is good and OSCFAIL is 0, and otherwise from the crystal. -/
def State.showXtal (s : State) : State :=
  if s.running then
    (s.setFlag TM_STATUS.XTAL (s.flag TM_STATUS.OSCFAIL ||
      !(s.maskBit PW_ON.EN 10 && s.maskBit PW_GOOD.RAIL 10))).correctClock
  else s

/-! ## Quality, class and outputs (R324, R327) -/

/-- R324: TM_CLASS of a quality and a selected source. -/
def classOf (qual src : Nat) : Nat :=
  match qual with
  | 3 => if src = 1 ∨ src = 2 then 4 else if src = 3 then 3 else 2
  | 2 => 2
  | 1 => 1
  | _ => 0

def State.qual (s : State) : Nat := s.get TM_STATUS.QUAL
def State.source (s : State) : Nat := s.get TM_STATUS.SRC

/-- Whether source `k` is qualified. -/
def State.qualified (s : State) (k : Nat) : Bool := s.maskBit TM_SRCQ.Q (k - 1)

/-- R327: whether each output is emitted at quality `q`. -/
def State.ppsGate (s : State) (q : Nat) : Bool := s.flag TM_PPSOUT.EN && decide (s.get TM_PPSOUT.QMIN ≤ q)
def State.irigGate (s : State) (q : Nat) : Bool := s.flag TM_IRIGOUT.EN && q != 0

/-- R327: OUTPUT_GATED for an enabled output whose gate changes. -/
def State.gateEvent (s : State) (which : Nat) (before after : Bool) : State :=
  if before == after then s else s.raise 0x50F which (boolNat before) s.qual

/-- R324: the quality takes `q`. -/
def State.setQuality (s : State) (q : Nat) : State :=
  let old := s.qual
  if q = old then s
  else
    let pps := s.ppsGate old
    let irig := s.irigGate old
    let s := (s.set TM_STATUS.QUAL q).set TM_CLASS.CLASS (classOf q s.source)
    let s := s.raise 0x503 old q (s.get TM_ERRBOUND.T)
    (s.gateEvent 1 pps (s.ppsGate q)).gateEvent 2 irig (s.irigGate q)

/-- R324: the bound, in nanoseconds, and TM_ERRBOUND in units of 10 ns: rounded up, where the manual does not say how
(assumption log 113). -/
def State.setBound (s : State) (ns : Nat) : State :=
  let ns := min ns 167772150
  ({ s with tm := { s.tm with boundNs := ns } } : State).set TM_ERRBOUND.T (ceilDiv ns 10)

/-! ## Steps (R54, R322) -/

/-- R339: the seconds and the microseconds of a signed step, in 10 ns units. -/
def stepSeconds (d : Int) : Int := clampInt (-0x800000) 0x7FFFFF (Int.tdiv d oneSecond)
def stepMicros (d : Int) : Int := Int.tdiv (Int.tmod d oneSecond) 100

/-- R54, R322: Wellhead time steps by `d`, never below zero. The expected second of a qualified PPS part is
measured by the time clock and moves along; the spacing that qualifies one is measured by Wellhead time (R316). What the
sources measured before it counts no more (R321). The boundary a step passes is not judged. -/
def State.stepTime (s : State) (d : Int) (cause : Nat) : State :=
  let new := ((s.now : Int) + d).toNat
  let d := (new : Int) - s.now
  let s := { s with
    now := new, tick := { s.tick with lastEdge := s.tick.lastEdge + d },
    tm := { s.tm with
      ppsLast := if s.qualified 2 then s.tm.ppsLast + 20 * d else s.tm.ppsLast
      gnssEdge := if s.qualified 2 then s.tm.gnssEdge + 20 * d else s.tm.gnssEdge
      window := [], e := [none, none, none, none], second := new / oneSecond } }
  (s.add TM_STEPS.COUNT 1).raise 0x504 cause (ofSigned 24 (stepSeconds d)) (ofSigned 24 (stepMicros d))

/-! ## Sources (R314 to R319) -/

def State.qualify (s : State) (k : Nat) (b : Bool) : State := s.setMaskBit TM_SRCQ.Q (k - 1) b

/-- R314: the entries of TM_SRCPRIO, first to last. -/
def State.priorities (s : State) : List Nat :=
  [9, 6, 3, 0].map fun lo => bitsOf (s.get TM_SRCPRIO.PRIO) lo 3

/-- R314: the first qualified source of the list, 0 for none. -/
def State.bestSource (s : State) : Nat :=
  (s.priorities.find? fun k => decide (1 ≤ k) && decide (k ≤ 4) && s.qualified k).getD 0

/-- R315: source `k` measures `e` in this second. -/
def State.measure (s : State) (k : Nat) (e : Int) : State :=
  { s with tm := { s.tm with e := s.tm.e.set (k - 1) (some e) } }

/-- R315: what source `k` measured in this second. -/
def State.errorOf (s : State) (k : Nat) : Option Int :=
  if k = 0 then none else (s.tm.e.getD (k - 1) none)

/-- R315: e of an edge at `edge` half nanoseconds whose true second is `sec`, with TM_TRIM, in 10 ns
units. -/
def State.phase (s : State) (sec : Nat) (edge : Int) : Int :=
  Int.tdiv (2000000000 * (sec : Int) - edge) 20 + s.getS TM_TRIM.T

/-- R324: the selected source becomes `new`. -/
def State.selectSource (s : State) (new : Nat) : State :=
  let old := s.source
  if new = old then s
  else
    let s := (s.set TM_STATUS.SRC new).set TM_CLASS.CLASS (classOf s.qual new)
    let s := { s with tm := { s.tm with fresh := new != 0, locked := 0, window := [] } }
    let s := s.raise 0x501 old new (s.get TM_SRCQ.Q)
    if s.qual = 3 then s.setQuality 2 else s

/-- R314, R324: the IO 3.3 V rail stops: every source is lost. -/
def State.dropSources (s : State) : State :=
  let s := s.set TM_SRCQ.Q 0
  let s := { s with tm := { s.tm with
    ppsRun := 0, gnssRun := 0, irigRun := 0, e := [none, none, none, none] } }
  s.selectSource 0

/-! ## The calendar (R317, R318, R320) -/

/-- Days from 1970-01-01 to a date of the Gregorian calendar. -/
def daysTo (y m d : Nat) : Nat :=
  let y' := if m ≤ 2 then y - 1 else y
  let doy := (153 * (if m ≤ 2 then m + 9 else m - 3) + 2) / 5 + (d - 1)
  365 * y' + y' / 4 - y' / 100 + y' / 400 + doy - 719468

/-- The year of a day counted from 1970-01-01. -/
def yearOfDay (day : Nat) : Nat :=
  let z := day + 719468
  let era := z / 146097
  let doe := z % 146097
  let yoe := (doe - doe / 1460 + doe / 36524 - doe / 146096) / 365
  let doy := doe - (365 * yoe + yoe / 4 - yoe / 100)
  yoe + era * 400 + if 306 ≤ doy then 1 else 0

/-- R320: U of a UTC date and time; second 60 counts as the first of the next day. -/
def utcSeconds (days hour minute second : Nat) : Nat := 86400 * days + 3600 * hour + 60 * minute + second

/-- R320: TAI seconds of U. -/
def State.taiOf (s : State) (u : Nat) : Nat := u + s.get TM_UTCOFS.S

/-! ## PPS and GNSS (R316, R317) -/

/-- R317: the name `sec` of the edge at `edge`: the run, qualification and e of source 1. A second sentence that
gives the edge the name it has adds nothing. -/
def State.nameEdge (s : State) (sec : Nat) (edge : Int) : State :=
  let good := s.qualified 2
  if good ∧ s.tm.gnssRun ≠ 0 ∧ s.tm.gnssEdge = edge ∧ s.tm.gnssLast = sec then s
  else
    let next := s.tm.gnssEdge ≠ edge ∧ sec = s.tm.gnssLast + 1
    let run := if good then (if next then min 4 (s.tm.gnssRun + 1) else 1) else 0
    let s := { s with tm := { s.tm with gnssLast := sec, gnssEdge := edge, gnssRun := run } }
    let s := s.when (run == 4) (·.qualify 1 true)
    s.measure 1 (s.phase sec edge)

/-- The whole second nearest to `edge` half nanoseconds. -/
def nearestSecond (edge : Int) : Nat := ((edge + 1000000000) / 2000000000).toNat

/-- R316: the time clock, in half nanoseconds, at Wellhead time `edge` in the same units. -/
def State.edgeAtClock (s : State) (edge : Int) : Int :=
  20 * s.clock + ((edge - 20 * s.now) * 1000000000 - 20 * s.frac) / s.speed

/-- R316: an accepted edge. -/
def State.acceptEdge (s : State) (edge : Int) : State :=
  let s := { s with tm := { s.tm with
    ppsLast := edge, ppsClock := s.edgeAtClock edge, ppsSeen := true, ppsMissed := 0 } }
  let s := s.measure 2 (s.phase (nearestSecond edge) edge)
  match s.tm.gnssPending with
  | some sec => ({ s with tm := { s.tm with gnssPending := none } } : State).nameEdge sec edge
  | none => s

/-- R316: an edge is judged: a spacing of 1 s ± 100 µs by Wellhead time before qualification, and after it 1 ms from the
second that the time clock expects. -/
def State.judgeEdge (s : State) (edge : Int) : State :=
  if s.qualified 2 then
    let gap := s.edgeAtClock edge - s.tm.ppsClock
    let off := gap - 2000000000 * ((gap + 1000000000) / 2000000000)
    if 2000000 < off.natAbs then s.add TM_PPSBAD.COUNT 1 else s.acceptEdge edge
  else
    let gap := edge - s.tm.ppsLast
    let near := decide ((gap - 2000000000).natAbs ≤ 200000)
    let run := if near && s.tm.ppsRun != 0 then s.tm.ppsRun + 1 else 1
    let s := { s with tm := { s.tm with ppsRun := run, ppsLast := edge } }
    if 4 ≤ run then (s.qualify 2 true).acceptEdge edge else s

/-- R330: the capture `c` takes the stamp of time `t`. -/
def State.giveCapture (t : Nat) (s : State) (c : OpRef × Nat × Nat × Nat) : State :=
  let k := c.2.1
  let s := (s.set (TM_CAP.STAMP k 0) (stampWord0 t)).set (TM_CAP.STAMP k 1) (stampWord1 t)
  let s := (s.set (TM_CAP.STAMP k 2) (stampWord2 t s.qual)).set (TM_CAP_S.ST k) 2
  s.post c.1 0x01 (stampWord2 t s.qual)

/-- R330: whether the capture `c` waits for an edge of kind `kind`, the one at time `t` coming no earlier than its
issue. -/
def State.capturedBy (s : State) (kind t : Nat) (c : OpRef × Nat × Nat × Nat) : Bool :=
  c.2.2.1 == kind && decide ((c.2.2.2 : Int) ≤ s.clockAt t)

/-- R330: the captures of kind `kind` that wait take the stamp of time `t`. -/
def State.takeCaptures (s : State) (kind t : Nat) : State :=
  let hit := s.tm.caps.filter (s.capturedBy kind t)
  let s := { s with tm := { s.tm with caps := s.tm.caps.filter fun c => !s.capturedBy kind t c } }
  hit.foldl (State.giveCapture t) s

/-- R324: the loss of a TSET: the bound is held at its largest value. -/
def State.timeSet (s : State) (delta : Int) : State :=
  s.oneCycle fun s =>
    let s := (s.stepTime delta 1).setBound 167772150
    ({ s with tm := { s.tm with locked := 0 } } : State).setQuality 1

/-- R336: a TSET with SYNC is applied at the edge at Wellhead time `t`. -/
def State.applyTset (s : State) (t : Nat) : State :=
  match s.tm.tset with
  | none => s
  | some (ref, time, from_) =>
      if (from_ : Int) ≤ s.clockAt t then
        (({ s with tm := { s.tm with tset := none } } : State).timeSet ((time : Int) - t)).post ref 0x01 0
      else s

/-- R316, R330, R336: a deglitched active edge of PPS_IN, captured at `t` in units of 2.5 ns. -/
def ppsEdge (t : Nat) (s : State) : State :=
  if s.coreUp then
    let edge : Int := 5 * (t : Int) - 2 * s.get TM_PPSIN.DLY
    let s := s.judgeEdge edge
    (s.takeCaptures 1 (t / 4)).applyTset (t / 4)
  else s

/-- R317: whether a sentence is valid. -/
def NmeaSentence.valid (m : NmeaSentence) : Bool := m.checksum && m.whole && (!m.rmc || m.active)

/-- R317: source 1 is lost. -/
def State.loseGnss (s : State) : State :=
  ({ s with tm := { s.tm with gnssRun := 0, gnssPending := none } } : State).qualify 1 false

/-- R317: no valid sentence has arrived for 3 s. -/
def State.gnssSilent (s : State) : Bool := decide (s.tm.gnssAt + 3 * oneSecond ≤ s.clock)

/-- R317: the RMC or ZDA sentence `m` that arrives at `arrival`, Wellhead time in 10 ns units. -/
def State.takeSentence (s : State) (m : NmeaSentence) (arrival : Nat) : State :=
  if m.valid then
    let year := if m.rmc ∧ m.year < 100 then 2000 + m.year else m.year
    let sec := s.taiOf (utcSeconds (daysTo year m.month m.day) m.hour m.minute m.second)
    let s := s.when s.gnssSilent (·.loseGnss)
    let s := { s with tm := { s.tm with gnssAt := s.clock } }
    if s.flag TM_GNSS.ASSOC then { s with tm := { s.tm with gnssPending := some sec } }
    else
      let age : Int := 20 * (arrival : Int) - s.tm.ppsLast
      if 100000000 ≤ age ∧ age ≤ 1900000000 then s.nameEdge sec s.tm.ppsLast else s
  else
    let s := s.add TM_NMEABAD.COUNT 1
    if m.rmc && m.checksum && !m.active then s.loseGnss else s

/-- R317, R391: a sentence on U3 is complete. It is the one the parser holds. -/
def nmeaSentence (arrival : Nat) (s : State) : State :=
  if s.coreUp then
    match parseNmea s.tm.line with
    | some m => ({ s with tm := { s.tm with line := [] } } : State).takeSentence m arrival
    | none => s
  else s

/-! ## Leap seconds (R328) -/

def State.leapAt (s : State) : Nat := s.get TM_LEAPATH.AT * 2 ^ 24 + s.get TM_LEAPATL.AT

/-- R328: a leap is pending, set by `setter`. -/
def State.setLeap (s : State) (pend at_ setter : Nat) : State :=
  let s := ((s.set TM_LEAP.PEND pend).set TM_LEAP.SETTER setter).set TM_LEAPATH.AT (at_ / 2 ^ 24)
  let s := s.set TM_LEAPATL.AT at_
  let s := { s with tm := { s.tm with leapHigh := at_ / 2 ^ 24, conflict := none } }
  s.raise 0x508 pend at_ setter

/-- R328: a source reports a leap. -/
def State.sourceLeap (s : State) (pend at_ setter : Nat) : State :=
  if s.get TM_LEAP.PEND = 0 then s.setLeap pend at_ setter
  else if (s.get TM_LEAP.PEND = pend ∧ s.leapAt = at_) ∨ s.tm.conflict = some (pend, at_) then s
  else
    ({ s with tm := { s.tm with conflict := some (pend, at_) } } : State).raise 0x508 (s.get TM_LEAP.PEND) s.leapAt 4

/-- R328: Wellhead has reached TM_LEAPAT. -/
def leapApplied (s : State) : State :=
  let pend := s.get TM_LEAP.PEND
  if pend ≠ 0 ∧ s.leapAt ≤ s.seconds then
    let old := s.get TM_UTCOFS.S
    let new := if pend = 1 then old + 1 else old - 1
    let s := ((s.set TM_UTCOFS.S new).set TM_LEAP.PEND 0).set TM_LEAP.SETTER 0
    s.raiseLater 0x509 new old 0
  else s

/-- R328, R335: a write of PEND and TM_LEAPAT. -/
def leapWrite (w : Writer) (pend at_ : Nat) (s : State) : Option State :=
  if s.mayWrite w 0xA06C .rwm then
    if pend = 0 then
      some (((s.set TM_LEAP.PEND 0).set TM_LEAP.SETTER 0).raise 0x508 0 s.leapAt 1)
    else if pend ≤ 2 ∧ s.now + 2 * oneSecond ≤ at_ * oneSecond then some (s.setLeap pend (at_ % 2 ^ 40) 1)
    else none
  else none

/-! ## IRIG-B (R318) -/

/-- R318: what a format B000 to B007 carries: a year, and straight binary seconds. -/
def irigYear (fmt : Nat) : Bool := decide (4 ≤ fmt)
def irigSbs (fmt : Nat) : Bool := [0, 3, 4, 7].contains fmt

/-- R318: whether a frame is valid. -/
def State.irigValid (s : State) (f : IrigFrame) : Bool :=
  f.markers && f.digits && decide (f.second ≤ 60) && decide (f.minute ≤ 59) && decide (f.hour ≤ 23) &&
    decide (1 ≤ f.day) && decide (f.day ≤ 366) &&
    (f.second != 60 || s.get TM_LEAP.PEND == 1) &&
    (!irigSbs (s.get TM_IRIGIN.FMT) || f.sbs == 3600 * f.hour + 60 * f.minute + f.second) &&
    (!s.flag TM_IRIGIN.EXT ||
      (f.parity && decide (f.timeQuality ≤ s.get TM_IRIGIN.TQMAX) && f.timeQuality != 0xF))

/-- R318, R320: the TAI second of a frame's reference edge. The coded time is UTC plus the offset, as on IRIGB_OUT
(R327, assumption log 39). -/
def State.irigSecond (s : State) (f : IrigFrame) : Nat :=
  let year :=
    if irigYear (s.get TM_IRIGIN.FMT) then 2000 + f.year % 100
    else yearOfDay ((s.seconds - s.get TM_UTCOFS.S) / 86400)
  let coded := utcSeconds (daysTo year 1 1 + (f.day - 1)) f.hour f.minute f.second
  s.taiOf ((coded : Int) - (if s.flag TM_IRIGIN.EXT then 1800 * f.offset else 0)).toNat

/-- R318, R328, R330: a complete frame. Its own reference edge came at its beginning; an inserted second 60 counts
as the first of the next day (R320), and belongs to the day that ends with it. -/
def irigFrame (f : IrigFrame) (s : State) : State :=
  if s.coreUp then
    let edge : Int := (f.edge : Int) - 2 * s.get TM_IRIGIN.DLY
    let s := s.takeCaptures 2 (f.edge / 20)
    if s.irigValid f then
      let sec := s.irigSecond f
      let run := if sec = s.tm.irigLast + 1 then min 3 (s.tm.irigRun + 1) else 1
      let s := { s with tm := { s.tm with irigLast := sec, irigRun := run, irigSeen := true, irigSilent := 0 } }
      let dated := irigYear (s.get TM_IRIGIN.FMT) || s.qual != 0
      let s := s.when (run == 3 && dated) (·.qualify 3 true)
      let s := s.measure 3 (s.phase sec edge)
      if f.lsp && s.flag TM_IRIGIN.EXT then
        let utc := sec - s.get TM_UTCOFS.S - (if f.second = 60 then 1 else 0)
        let at_ := (utc / 86400 + 1) * 86400 + s.get TM_UTCOFS.S
        let at_ := if f.delete then at_ - 1 else at_ + 1
        s.sourceLeap (if f.delete then 2 else 1) at_ 2
      else s
    else
      ({ s with tm := { s.tm with irigRun := 0 } } : State).add TM_IRIGBAD.COUNT 1
  else s

/-! ## Holdover (R325, R326) -/

/-- R325: the bin of a temperature in 0.1 °C. -/
def tempBin (t : Int) : Option Nat := if -400 ≤ t ∧ t < 1200 then some ((t + 400) / 25).toNat else none

def State.binLearned (s : State) (k : Nat) : Bool := decide (k < 64) && decide (4 ≤ s.get (TM_TBINN.N k))

/-- R325: the learned neighbour the interpolation uses at `t` in bin `k`: the one on `t`'s side of the
bin's centre, else the other. -/
def State.neighbour (s : State) (t : Int) (k : Nat) : Option Nat :=
  let up := decide (2 * (25 * (k : Int) - 400) + 25 ≤ 2 * t)
  let above := s.binLearned (k + 1)
  let below := decide (1 ≤ k) && s.binLearned (k - 1)
  if up then (if above then some (k + 1) else if below then some (k - 1) else none)
  else if below then some (k - 1) else if above then some (k + 1) else none

/-- R325: the learned frequency at `t`, interpolated between the centres of its bin and a neighbour. -/
def State.learnedFreq (s : State) (t : Int) : Option Int :=
  match tempBin t with
  | none => none
  | some k =>
      if s.binLearned k then
        (s.neighbour t k).map fun j =>
          let fk := s.getS (TM_TBIN.F k)
          let fj := s.getS (TM_TBIN.F j)
          let d := 2 * t - (2 * (25 * (k : Int) - 400) + 25)
          fk + Int.tdiv ((fj - fk) * d) (50 * ((j : Int) - k))
      else none

/-- The mean of the outputs kept, newest first. -/
def meanOf (l : List Int) : Int := if l.isEmpty then 0 else Int.tdiv l.sum l.length

/-- R325, R326: the holdover frequency. -/
def State.holdover (s : State) : Int :=
  if s.flag TM_STATUS.XTAL then 0
  else (s.learnedFreq s.dieTemp).getD (meanOf s.tm.history)

def State.showLearned (s : State) : State := s.setFlag TM_STATUS.LEARNED (s.learnedFreq s.dieTemp).isSome

/-- R325: a sample in the bin of the mean temperature `mean`. -/
def State.learnBin (s : State) (mean : Int) : State :=
  match tempBin mean with
  | none => s
  | some k =>
      let n := s.get (TM_TBINN.N k)
      let f := s.getS (TM_TBIN.F k)
      let m := meanOf s.tm.history
      ((s.setS (TM_TBIN.F k) (f + Int.tdiv (m - f) (min (n + 1) 16 : Nat))).addHold (TM_TBINN.N k) 1).showLearned

/-- R325: a minute's sample, its mean temperature and span in 0.1 °C, a minute after the last. -/
def holdoverSample (mean : Int) (span : Nat) (s : State) : State :=
  if s.flag TM_CTL.LEARN && s.qual == 3 && decide (300 ≤ s.tm.qual3) && decide (span ≤ 10) then
    s.onTime (s.tm.sampledAt + 60 * oneSecond) fun s =>
      ({ s with tm := { s.tm with sampledAt := s.clock } } : State).learnBin mean
  else s

/-- R325: FORGET empties the table. -/
def State.forgetBins (s : State) : State :=
  ((List.range 64).foldl (fun s k => (s.set (TM_TBIN.F k) 0).set (TM_TBINN.N k) 0) s).showLearned

def forgetWrite (w : Writer) (s : State) : Option State :=
  if s.mayWrite w 0xA004 .rwm then some s.forgetBins else none

/-! ## Loop output (R321, R323) -/

/-- R323: the contribution of a slew in progress. -/
def State.slewPart (s : State) : Int :=
  match s.tm.slew with
  | none => 0
  | some k => if 0 ≤ k.amount then s.getS TM_SLEWMAX.F else -(((s.getS TM_SLEWMIN.F).natAbs : Nat) : Int)

/-- R323: what the slew has applied up to now is taken in, and `part` acts from here on. -/
def State.slewAccrue (s : State) (part : Int) : State :=
  match s.tm.slew with
  | none => s
  | some k =>
      { s with tm := { s.tm with
        slew := some { k with
          applied := k.applied + k.part * ((s.clock - k.since : Nat) : Int), since := s.clock, part := part } } }

/-- R321, R323: the output is held within the envelope while the loop is enabled. -/
def State.heldOutput (s : State) (total : Int) : Int :=
  if s.flag TM_CTL.LOOP then clampInt (s.getS TM_SLEWMIN.F) (s.getS TM_SLEWMAX.F) total else total

/-- R321, R323: the output of the present base and contribution, outside a loop update. A slew moves time by what it
adds to the output that would be in force without it. -/
def State.showOutput (s : State) : State :=
  let out := s.heldOutput (s.tm.base + s.slewPart)
  (s.setS TM_FREQNOW.F out).slewAccrue (out - s.heldOutput s.tm.base)

/-- R14, R321: a loop update with demand `d`. -/
def State.loopOutput (s : State) (d : Int) : State :=
  let part := s.slewPart
  let r := loopUpdate (s.getS TM_SLEWMIN.F) (s.getS TM_SLEWMAX.F) (d + part) (s.flag TM_STATUS.PINNED) s.tm.calm
  let s := (s.setS TM_FREQNOW.F r.out).setFlag TM_STATUS.PINNED r.pinned
  let s := { s with tm := { s.tm with calm := r.calm, base := d } }
  let s := s.slewAccrue (r.out - s.heldOutput d)
  s.when r.event (·.raise 0x505 (boolNat (decide (s.getS TM_SLEWMIN.F ≤ d + part))) (ofSigned 24 (d + part))
    (ofSigned 24 r.out))

/-- The outputs between the measurements of a window, newest first, each for as long as it acted. -/
def windowDrift : List (Nat × Int × Int) → Int
  | a :: b :: rest => a.2.2 * ((a.1 : Int) - b.1) + windowDrift (b :: rest)
  | _ => 0

/-- R321: f_src from the window: the mean output between its first and its last measurement, and what e gained.
With fewer than two it is the output in force, without a slew's contribution. -/
def State.sourceFreq (s : State) : Int :=
  match s.tm.window, s.tm.window.getLast? with
  | a :: _ :: _, some b =>
      Int.tdiv (windowDrift s.tm.window + 1000000000 * (a.2.1 - b.2.1)) (max 1 ((a.1 : Int) - b.1))
  | _, _ => s.heldOutput s.tm.base

/-- R321: the measurement `e` joins the window of the last TM_SERVOTC seconds. -/
def State.addMeasure (s : State) (e : Int) : State :=
  let recent := s.tm.window.filter fun m =>
    decide (s.clock + oneSecond / 2 < m.1 + s.get TM_SERVOTC.S * oneSecond)
  { s with tm := { s.tm with window := (s.clock, e, s.getS TM_FREQNOW.F) :: recent } }

/-- R321: the servo's demand. -/
def State.servoDemand (s : State) (e : Int) : Int :=
  s.sourceFreq + Int.tdiv (10 * e) (max 1 (s.get TM_SERVOTC.S))

/-! ## The second boundary (R314 to R324) -/

/-- R316 to R318: the sources that the second's silence loses. Edges are expected only of a qualified PPS part. -/
def State.ageSources (s : State) : State :=
  let miss := if s.tm.ppsSeen || !s.qualified 2 then 0 else s.tm.ppsMissed + 1
  let irig := if s.tm.irigSeen then 0 else s.tm.irigSilent + 1
  let s := { s with tm := { s.tm with
    ppsMissed := miss, ppsSeen := false, irigSilent := irig, irigSeen := false,
    linkSilent := s.tm.linkSilent + 1 } }
  let s := if 2 ≤ miss then
      (({ s with tm := { s.tm with ppsRun := 0 } } : State).qualify 2 false).loseGnss else s
  let s := s.when s.gnssSilent (·.loseGnss)
  let s := if 3 ≤ irig then ({ s with tm := { s.tm with irigRun := 0 } } : State).qualify 3 false else s
  if 3 ≤ s.tm.linkSilent then s.qualify 4 false else s

/-- R315: the spread of the qualified sources' measurements. -/
def State.spread (s : State) : Nat :=
  let es := [1, 2, 3, 4].filterMap fun k => if s.qualified k then s.errorOf k else none
  match es with
  | [] => 0
  | a :: rest => (rest.foldl max a - rest.foldl min a).toNat

/-- R315, R324: the disagreement episode. A second in which fewer than two qualified sources measured counts as an
agreeing one, where the manual is silent (assumption log 113). -/
def State.judgeSources (s : State) : State :=
  let spread := s.spread
  if s.get TM_DISTOL.T < spread then
    let was := s.flag TM_STATUS.DISAGREE
    let s := s.setFlag TM_STATUS.DISAGREE true
    let s := { s with tm := { s.tm with agree := 0, disagreeSecs := if was then s.tm.disagreeSecs + 1 else 1 } }
    if was then s
    else
      let s := s.raise 0x506 (s.get TM_SRCQ.Q) (min spread 0xFFFFFF) 0
      if s.qual = 3 then s.setQuality 2 else s
  else if s.flag TM_STATUS.DISAGREE then
    let n := s.tm.agree + 1
    let secs := s.tm.disagreeSecs + 1
    if 16 ≤ n then
      let s := { s with tm := { s.tm with agree := 0, disagreeSecs := 0 } }
      (s.setFlag TM_STATUS.DISAGREE false).raise 0x507 (min secs 0xFFFFFF) 0 0
    else { s with tm := { s.tm with agree := n, disagreeSecs := secs } }
  else s

/-- R322: whether source `k` gives time of day. -/
def givesDay (k : Nat) : Bool := k == 1 || k == 3 || k == 4

/-- R322: whether the boundary steps time by e. -/
def State.stepDue (s : State) (k : Nat) (e : Int) : Bool :=
  (s.tm.fresh && s.qual != 3 && decide (s.get TM_STEPTHR.T < e.natAbs) && !s.flag TM_CTL.NOSTEP) ||
    (s.qual == 0 && givesDay k)

/-- R324: the lock condition's count. -/
def State.countLock (s : State) (k : Nat) (e : Int) : State :=
  let good := decide (e.natAbs ≤ s.get (TM_SRCCFG.LOCKTHR k)) && !s.flag TM_STATUS.DISAGREE && !s.flag TM_STATUS.OSCFAIL
  let n := if good then s.tm.locked + 1 else 0
  let s := { s with tm := { s.tm with locked := min n 8 } }
  if 8 ≤ n ∧ (s.qual = 1 ∨ s.qual = 2) then s.setQuality 3 else s

/-- R324: the growth of the bound in a second without a measurement. -/
def State.growBound (s : State) : State :=
  let u :=
    if s.flag TM_STATUS.XTAL then s.get TM_XTAL.XTU
    else if s.flag TM_STATUS.LEARNED then s.get TM_HOLDU.LRN
    else s.get TM_HOLDU.UNL
  s.setBound (s.tm.boundNs + u)

/-- R324: the quality 0b10 falls where TM_ERRBOUND exceeds TM_HOLDLIM. -/
def State.limitHold (s : State) : State :=
  if s.qual = 2 ∧ s.get TM_HOLDLIM.T < s.get TM_ERRBOUND.T then s.setQuality 1 else s

/-- R321, R322, R324: the second of a selected source that measured `e`. -/
def State.useMeasure (s : State) (k : Nat) (e : Int) : State :=
  let s := s.setS TM_PHERR.T (clampInt (-0x800000) 0x7FFFFF e)
  let carried := if k = 4 then s.tm.linkBound else 0
  let s := s.setBound (10 * (s.get (TM_SRCCFG.SRCERR k) + e.natAbs + carried))
  let steps := s.stepDue k e
  let s := { s with tm := { s.tm with fresh := false } }
  let s :=
    if steps then
      let s := s.stepTime e 2
      if s.qual = 0 ∧ givesDay k = true then s.setQuality 1 else s
    else s.addMeasure e
  let s := s.when (s.flag TM_CTL.LOOP) (·.loopOutput (s.servoDemand (if steps then 0 else e)))
  (s.countLock k e).limitHold

/-- R321, R324: a second without a measurement of the selected source leaves the output as it is; with none
selected the enabled loop's demand is the holdover frequency. -/
def State.useNone (s : State) (k : Nat) : State :=
  let s := s.growBound
  (s.when (k == 0 && s.flag TM_CTL.LOOP) (·.loopOutput s.holdover)).limitHold

/-- R326: the crystal's offset is learned while locked on the TCXO. -/
def State.learnCrystal (s : State) (crystal : Option Int) : State :=
  match crystal with
  | some f => if s.qual = 3 ∧ s.flag TM_STATUS.XTAL = false then s.setS TM_XTOFS.F f else s
  | none => s

def State.dropUtc (s : State) : State := { s with tm := { s.tm with utcNext := none } }

/-- R444: a UTC offset that a beacon gave is taken. -/
def State.takeUtc (s : State) : State :=
  match s.tm.utcNext with
  | some new =>
      let old := s.get TM_UTCOFS.S
      ((s.set TM_UTCOFS.S new).raiseLater 0x509 new old 0).dropUtc
  | none => s

/-- R443: a qualification for one second ends with it. -/
def State.endOnce (s : State) : State :=
  if s.tm.linkOnce then ({ s with tm := { s.tm with linkOnce := false } } : State).qualify 4 false else s

/-- R327: PPS_OUT and IRIGB_OUT are driven while the IO 3.3 V rail is up. -/
def State.outputsDriven (s : State) : Bool := s.ioUp

/-- R327: PPS_OUT gives its pulse: from TM_PPSOUT.ADV before each second boundary, for TM_PPSWID. -/
def State.ppsPulse (s : State) : Bool :=
  s.ppsGate s.qual && decide ((10 * s.now + s.get TM_PPSOUT.ADV) % 1000000000 < 1000 * s.get TM_PPSWID.US)

/-- R327: the level of PPS_OUT, none while it is undriven. The pulse is at the level POL (assumption log 113). -/
def State.ppsOutLevel (s : State) : Option Bool :=
  if s.outputsDriven then some (s.ppsPulse == s.flag TM_PPSOUT.POL) else none

/-- R327: PPS_OUT's leading edge before a second boundary is captured (R330). -/
def State.ppsOutEdge (s : State) : State :=
  if s.outputsDriven && s.ppsGate s.qual then s.takeCaptures 3 (s.now - s.get TM_PPSOUT.ADV / 10) else s

/-- R314: a second boundary that is still to be judged: while ticks run, one that Wellhead time has passed. -/
def State.boundaryDue (s : State) : Bool := s.running && (!s.coreUp || s.seconds != s.tm.second)

/-- R314 to R326: what a second boundary brings. -/
def State.judgeSecond (s : State) (crystal : Option Int) : State :=
  let s := { s with tm := { s.tm with second := s.seconds } }
  let s := (s.ppsOutEdge.ageSources.showLearned.correctClock.takeUtc).learnCrystal crystal
  let s := (s.selectSource s.bestSource).judgeSources
  let k := s.source
  let s := match s.errorOf k with
    | some e => s.useMeasure k e
    | none => s.useNone k
  let s := s.endOnce
  let out := s.getS TM_FREQNOW.F
  { s with tm := { s.tm with
    e := [none, none, none, none],
    history := if s.source = 0 then s.tm.history else (out :: s.tm.history).take 60,
    qual3 := if s.qual = 3 then s.tm.qual3 + 1 else 0 } }

/-- R314 to R326: a second boundary of Wellhead time; `crystal` is the crystal's offset as measured
against the TCXO. While no tick runs it moves Wellhead time to the boundary. The boundary is one cycle (R331). -/
def secondBoundary (crystal : Option Int) (s : State) : State :=
  if s.boundaryDue then
    let s := if s.coreUp then s else s.advanceTo ((s.seconds + 1) * oneSecond)
    s.oneCycle (·.judgeSecond crystal)
  else s

/-! ## The oscillators (R312) -/

/-- R312: the TCXO stops, or deviates. -/
def oscFault (deviated : Bool) (s : State) : State :=
  if s.running && !s.flag TM_STATUS.OSCFAIL then
    let s := (s.setFlag TM_STATUS.OSCFAIL true).showXtal
    let s := { s with tm := { s.tm with oscFrom := s.clock } }
    s.oneCycle fun s =>
      let s := s.raiseFault 0x50D (if deviated then 2 else 1) (s.get TM_FREQNOW.F) 0
      if 2 ≤ s.qual then s.setQuality 1 else s
  else s

/-- R312: the TCXO has agreed with the crystal for 60 s. -/
def oscOk (s : State) : State :=
  if s.flag TM_STATUS.OSCFAIL then
    s.onTime (s.tm.oscFrom + 60 * oneSecond) fun s =>
      (s.setFlag TM_STATUS.OSCFAIL false).showXtal.raise 0x50E 0 0 0
  else s

/-- R313, R326: the conversion of every 60 s in SAVED or LATCHED, which the frequency model follows and which
delays a scan that runs (R275), and the minute it ends. -/
def savedTemperature (codes : List Int) (s : State) : State :=
  if s.powerIn [saved, latched] && s.oneReading codes then
    s.onTime (s.tm.minuteFrom + 60 * oneSecond) fun s =>
      let s := ({ s with tm := { s.tm with minuteFrom := s.clock } } : State)
      let s := (s.delayScan.reading 22 codes).showLearned.correctClock
      if s.flag TM_STATUS.XTAL then s.addHold TM_SAVXT.MIN 1 else s.addHold TM_SAVTCXO.MIN 1
  else s

/-! ## What IRIGB_OUT carries (R327) -/

/-- R327: the time quality code. -/
def State.irigQuality (s : State) : Nat :=
  if s.qual = 1 ∨ 10000000000 < s.tm.boundNs then 0xF
  else (((List.range 11).map (· + 1)).find? fun n => decide (10 * s.get TM_ERRBOUND.T ≤ 10 ^ (n - 1))).getD 0xF

/-- R327: the frame that begins now, as format TM_IRIGOUT.FMT carries it: seconds, minutes, hours and day of the
year, the year and the seconds of the day where the format has them, and with EXT the extension. During an inserted
second the seconds read 60. -/
def State.irigOutFrame (s : State) : IrigFrame :=
  let leaping := s.get TM_LEAP.PEND = 1 ∧ s.seconds + 1 = s.leapAt
  let utc := s.seconds - s.get TM_UTCOFS.S
  let local_ := ((utc : Int) + 1800 * s.getS TM_IRIGOFS.HH - (if leaping then 1 else 0)).toNat
  let day := local_ / 86400
  let year := yearOfDay day
  let (sec, min_, hour) := (if leaping then 60 else local_ % 60, local_ / 60 % 60, local_ / 3600 % 24)
  let fmt := s.get TM_IRIGOUT.FMT
  let ext := s.flag TM_IRIGOUT.EXT
  { markers := true, digits := true, second := sec, minute := min_, hour := hour, day := day - daysTo year 1 1 + 1,
    year := if irigYear fmt then year % 100 else 0
    sbs := if irigSbs fmt then 3600 * hour + 60 * min_ + sec else 0
    parity := ext, timeQuality := if ext then s.irigQuality else 0, offset := if ext then s.getS TM_IRIGOFS.HH else 0
    lsp := ext && s.get TM_LEAP.PEND != 0 && decide (s.leapAt ≤ s.seconds + 60)
    delete := ext && s.get TM_LEAP.PEND == 2, edge := 20 * s.now - 2 * s.get TM_IRIGOUT.ADV }

/-- R327: what IRIGB_OUT carries: none while it is undriven or its gate is closed. -/
def State.irigOutput (s : State) : Option IrigFrame :=
  if s.outputsDriven && s.irigGate s.qual then some s.irigOutFrame else none

end Sys2Proof.Machine
end

