-- ==== Sys2Proof/Machine/Link.lean ====
section
/-! DEFINITION. The Roltur link (R416 to R452). -/

namespace Sys2Proof.Machine

open Reg Host

def State.setLk (s : State) (x : Link) : State := { s with lk := x }

def State.lkAddr (s : State) : Nat := s.get LK_ADDR.ADDR
def State.joined (s : State) : Bool := s.flag LK_STATUS.JOINED
def State.joining (s : State) : Bool := s.flag LK_STATUS.JOINING
def State.isMaster (s : State) : Bool := s.flag LK_STATUS.MASTER
def State.lkClass (s : State) : Nat := s.get TM_CLASS.CLASS

/-- R418: the device's UID. -/
def State.uid (s : State) : Nat := s.get LK_UIDH.UID * 2 ^ 48 + s.get LK_UIDM.UID * 2 ^ 24 + s.get LK_UIDL.UID

/-! ## Rates and windows (R416, R423, R425, R428) -/

/-- R416: OS code and DIV of a RATE. -/
def linkRate (rate : Nat) : Nat × Nat :=
  match rate with
  | 0 => (0, 768) | 1 => (0, 384) | 2 => (1, 384) | 3 => (1, 256) | _ => (2, 341)

/-- R416: T(n) in units of 1/12,288 µs. -/
def State.lkT (s : State) (n : Nat) : Nat :=
  let r := linkRate (s.get LK_CFG.RATE)
  n * 10 * r.2 * oversampling r.1

/-- T(n) in the clock's units. -/
def State.lkDur (s : State) (n : Nat) : Nat := ceilDiv (s.lkT n * 100) 12288

/-- TURN in the clock's units. -/
def State.lkTurn (s : State) : Nat := 100 * s.get LK_CFG.TURN

/-- The time clock at the last tick edge. -/
def State.edgeClock (s : State) : Nat := (s.clockAt s.tick.lastEdge).toNat

/-- R423: the cycle duration in µs. -/
def State.cycleUs (s : State) : Nat := s.get LK_CFG.C * 1000000 / s.get TK_RATE.RATE

/-- R423: the cycle duration in units of 1/12,288 µs. -/
def State.cycleT (s : State) : Nat := s.get LK_CFG.C * 1000000 * 12288 / s.get TK_RATE.RATE

/-- `n` cycles in the clock's units. -/
def State.lkCycles (s : State) (n : Nat) : Nat := n * s.get LK_CFG.C * 100000000 / s.get TK_RATE.RATE

/-- R423: whether LK_CFG gives a cycle the rule allows. -/
def State.cycleOk (s : State) : Bool :=
  let c := s.get LK_CFG.C
  c != 0 && s.get TK_RATE.RATE % c == 0 && decide (100 ≤ s.cycleUs) && decide (s.cycleUs ≤ 4000)

/-- R425: BEND in µs. -/
def State.bend (s : State) : Nat := s.get LK_CFG.TURN + ceilDiv (s.lkT 51) 12288

/-- R425: the contention window: its start in µs, and its end in units of 1/12,288 µs. -/
def State.contention (s : State) : Nat × Nat :=
  (match s.lk.table with
   | some t => t.cwstart
   | none => s.bend,
   s.cycleT - s.get LK_CFG.TURN * 12288)

/-- R428: T(L + 14) + A in units of 1/12,288 µs. -/
def State.exchangeTime (s : State) (len : Nat) (unicast : Bool) : Nat :=
  s.lkT (len + 14) + if unicast then s.lkT 12 + (s.get LK_CFG.TURN + 4) * 12288 else 0

/-- R425: OWNER, START, LEN, P and PHASE of an entry. -/
def entryOwner (e : Nat × Nat × Nat) : Nat := e.1 % 65536
def entryStart (e : Nat × Nat × Nat) : Nat := e.2.1 / 4096
def entryLen (e : Nat × Nat × Nat) : Nat := e.2.1 % 4096
def entryP (e : Nat × Nat × Nat) : Nat := bitsOf e.2.2 8 4
def entryPhase (e : Nat × Nat × Nat) : Nat := e.2.2 % 256

def State.entries (s : State) : List (Nat × Nat × Nat) :=
  match s.lk.table with
  | some t => t.entries
  | none => []

/-- R425: the active entries that hold time `t` of cycle `n`. -/
def State.entriesAt (s : State) (n t : Nat) : List (Nat × Nat × Nat) :=
  s.entries.filter fun e =>
    n % 2 ^ entryP e == entryPhase e && decide (entryStart e ≤ t) && decide (t < entryStart e + entryLen e)

/-- R427, R428: where a transmission of that length may start at `t`: in an own slot (false) or in the
contention window (true). -/
def State.lkWindow (s : State) (t len : Nat) (unicast : Bool) (mode : Nat) : Option Bool :=
  let need := t * 12288 + s.exchangeTime len unicast
  let slot := (s.entriesAt (s.get LK_CYCLE.N) t).any fun e =>
    entryOwner e == s.lkAddr && decide (need ≤ (entryStart e + entryLen e) * 12288)
  let w := s.contention
  if mode ≠ 2 ∧ slot = true ∧ s.flag LK_STATUS.TABLEMIS = false then some false
  else if mode ≠ 1 ∧ w.1 ≤ t ∧ need ≤ w.2 then some true
  else none

/-- R428: whether a send fits some window its MODE allows. -/
def State.lkFits (s : State) (len : Nat) (unicast : Bool) (mode : Nat) : Bool :=
  let need := s.exchangeTime len unicast
  let w := s.contention
  (mode != 2 && s.entries.any fun e => entryOwner e == s.lkAddr && decide (need ≤ entryLen e * 12288)) ||
    (mode != 1 && decide (w.1 * 12288 + need ≤ w.2))

/-! ## Frames (R418 to R421) -/

/-- Whether the link listens: its ports run until the IO rails stop (R408, R445). -/
def State.lkListens (s : State) : Bool := s.coreUp && (s.joined || s.joining) && s.flag (UA_STAT.ENABLED 0)

/-- R418: a frame's bytes. -/
def linkBytes (flags dst src seq : Nat) (payload : List Nat) : List Nat :=
  let body := flags :: toLittleEndian 2 dst ++ toLittleEndian 2 src ++ [seq % 256, payload.length] ++ payload
  [0x55, 0xC3, 0x3C] ++ body ++ toLittleEndian 4 (crc32 body)

/-- R420: an ACK's bytes. -/
def ackBytes (dst seq result : Nat) : List Nat :=
  let body := 0x21 :: toLittleEndian 2 dst ++ [seq % 256, result]
  [0x55, 0xC3, 0x3C] ++ body ++ toLittleEndian 4 (crc32 body)

/-- R418: Flags of TYPE `type`. -/
def linkFlags (type : Nat) (bcast retry newseq : Bool) : Nat :=
  type * 32 + boolNat bcast * 16 + boolNat retry * 8 + boolNat newseq * 4 + 1

/-- The bytes leave on both lines from `from_` (R417, R433). -/
def State.lkEmitAt (s : State) (from_ : Nat) (bytes : List Nat) : State :=
  let end_ := from_ + s.lkDur bytes.length
  let s := (s.uaQueue 0 from_ bytes.length).uaQueue 1 from_ bytes.length
  (s.add LK_TXFRAMES.COUNT 1).setLk { s.lk with
    sent := bytes, clear := end_ + s.lkTurn, flightEnd := if s.lk.flight.isNone then end_ else s.lk.flightEnd }

/-- A frame of the device's own leaves from the present clock, once none is in flight. -/
def State.lkEmit (s : State) (bytes : List Nat) : State :=
  (s.setLk { s.lk with flight := none }).lkEmitAt s.clock bytes

/-- R418, R432: a broadcast of TYPE `type` leaves under the sender's broadcast count. -/
def State.lkBroadcast (s : State) (type : Nat) (payload : List Nat) : State :=
  let s := s.lkEmit (linkBytes (linkFlags type true false false) 0 s.lkAddr s.lk.bcasts payload)
  s.setLk { s.lk with bcasts := (s.lk.bcasts + 1) % 256 }

/-- R419: TYPE and payload of a special frame. -/
def State.specialFrame (s : State) (x : LkSpecial) : Nat × List Nat :=
  let uid := toLittleEndian 8 s.uid
  match x with
  | .join => (3, uid ++ [s.lkClass] ++ toLittleEndian 3 (s.get LK_TABLEID.ID))
  | .conflict u => (4, uid ++ toLittleEndian 8 u ++ toLittleEndian 9 (stampValue s.lk.joinStamp.1 s.lk.joinStamp.2))
  | .leave => (5, uid)
  | .notice sub => (6, [sub] ++ uid ++ [s.lkClass])

/-- R421: the payload of a beacon whose reference edge falls at Wellhead time `edge`. -/
def State.beacon (s : State) (edge : Nat) (successor : Option Nat) : List Nat :=
  toLittleEndian 8 s.uid ++
    [s.lkClass * 32 + s.get TM_STATUS.QUAL * 8 + boolNat successor.isSome * 4 + s.get TM_LEAP.PEND] ++
    toLittleEndian 3 (s.get LK_CYCLE.N) ++ toLittleEndian 9 (stampValue edge (s.get TM_STATUS.QUAL)) ++
    toLittleEndian 3 (s.get TM_ERRBOUND.T) ++ [s.get TM_UTCOFS.S] ++ toLittleEndian 5 s.leapAt ++
    toLittleEndian 3 (s.get LK_TABLEID.ID) ++ toLittleEndian 2 s.cycleUs ++
    toLittleEndian 2 (successor.getD 0)

/-! ## Strangers (R437) -/

/-- R437: a stranger of class `cls`, the first of its class in a second being logged. -/
def State.lkStranger (s : State) (cls src : Nat) : State :=
  let s := match cls with
    | 1 => s.add LK_NOISE.COUNT 1
    | 2 => s.add LK_FOREIGN.COUNT 1
    | 3 => s.add LK_UNKNOWN.COUNT 1
    | _ => s.add LK_INTRUDERS.COUNT 1
  if s.lk.strangers.getD (cls - 1) none = some s.seconds then s
  else
    (s.setLk { s.lk with strangers := s.lk.strangers.set (cls - 1) (some s.seconds) }).raise 0x70D cls 1 src

/-- R437: whether the source is known. -/
def State.lkKnown (s : State) (src : Nat) : Bool :=
  (s.lk.uidOf.isSome && s.get LK_MASTER.ADDR == src) || s.entries.any (entryOwner · == src) ||
    s.lk.known.contains src

/-- R437: whether a frame falls in another owner's active slot. -/
def State.lkIntrudes (s : State) (f : LinkFrame) : Bool :=
  !s.flag LK_STATUS.TABLEMIS &&
    (s.entriesAt (s.get LK_CYCLE.N) f.place).any fun e => entryOwner e != f.src

/-! ## Back-off (R430) -/

/-- R430: W. -/
def State.lkW (s : State) : Nat := if s.flag LK_CTL.BOLOOP then s.get LK_BONOW.CYC else s.get LK_BOMAN.CYC

/-- R430: one update of the back-off loop. -/
def State.backoff (s : State) (demand : Nat) : State :=
  if s.flag LK_CTL.BOLOOP then
    let lo := s.get LK_BOMIN.CYC
    let step := loopUpdate lo (s.get LK_BOMAX.CYC) demand (s.flag LK_STATUS.BOPINNED) s.lk.calm
    let s := (s.set LK_BONOW.CYC step.out.toNat).setFlag LK_STATUS.BOPINNED step.pinned
    let s := s.setLk { s.lk with calm := step.calm }
    s.when step.event (·.raise 0x708 (if demand < lo then 0 else 1) demand step.out.toNat)
  else s

/-- R430: the wait before a contention retry: r cycles, drawn from 0 to W − 1. -/
def State.backoffWait (s : State) : State :=
  let (r, s) := s.draw
  s.setLk { s.lk with wait := r % max s.lkW 1 }

/-- R430: after a collision on both lines, or a contention attempt whose ACK is missing. -/
def State.backoffFail (s : State) : State := (s.backoff (2 * s.lkW)).backoffWait

/-! ## Leaving and joining (R438 to R441) -/

/-- R441: LK_CFG as the record keeps it. -/
def State.lkCfgWord (s : State) : Nat :=
  s.get LK_CFG.RATE * 2 ^ 21 + s.get LK_CFG.AUTO * 2 ^ 20 + s.get LK_CFG.MASTEROK * 2 ^ 19 +
    s.get LK_CFG.DROPUNK * 2 ^ 18 + s.get LK_CFG.C * 2 ^ 8 + s.get LK_CFG.TURN

/-- R441, R447: the link record is written. -/
def State.writeLinkRecord (s : State) : State :=
  (s.set LK_STATUS.AUTOREC 1).setLk { s.lk with record := some ⟨s.lkAddr, s.lkCfgWord, s.lk.table⟩ }

/-- R449: the result of an LKSEND. -/
def LkSend.result (x : LkSend) : Nat := min x.attempts 8 * 256 + x.last

/-- R449: the result of an LKRECV. -/
def LkRecv.result (x : LkRecv) : Nat := x.stored * 65536 + x.used

/-- R440: every queued LKSEND and LKRECV completes with `status`, those not started with `waiting`. -/
def State.lkStopQueues (s : State) (status waiting : Nat) : State :=
  let sends := s.lk.sends
  let recvs := s.lk.recvs
  let pendings := s.lk.pendings
  let s := s.setLk { s.lk with sends := [], recvs := [], flight := none }
  let received := match recvs with
    | [] => []
    | x :: rest => (x.ref, status, x.result) :: rest.map fun y => (y.ref, waiting, y.result)
  let tables := if status = waiting then [] else pendings.map fun p => (p.ref, status, p.table.entries.length)
  let s := s.when (status != waiting) fun s => s.setLk { s.lk with pendings := [] }
  s.postAll ((sends.map fun x => (x.ref, if x.attempts = 0 then waiting else status, x.result)) ++ received ++ tables)

/-- The ports go back to the host, and the link stands as before a join. -/
def State.lkReturnPorts (s : State) : State :=
  let s := (((s.set LK_STATUS.JOINED 0).set LK_STATUS.JOINING 0).set LK_STATUS.MASTER 0).set LK_STATUS.LEAVING 0
  let s := ((s.set LK_STATUS.TABLEMIS 0).set LK_STATUS.ADOWN 0).set LK_STATUS.BDOWN 0
  let s := (s.uaReturn 0).uaReturn 1
  (s.qualify 4 false).setLk { s.lk with
    join := none, joinStep := 0, heard := [], uidOf := none, missed := 0, handover := none, claims := [],
    claimed := none, extras := [], flight := none, leaving := 0, leave := [], aMiss := 0, bMiss := 0,
    both := 0, known := [], boundary := none, silent := 0, skip := 0 }

/-- R440: the device has left, with `cause`; `left`: the LEAVE frame left. -/
def State.lkGone (s : State) (cause : Nat) (left : Bool) : State :=
  let refs := s.lk.leave
  let join := s.lk.join
  let s := s.lkStopQueues 0x88 0x88
  let s := s.postOpt join 0x88 0
  let s := (s.set LK_STATUS.AUTOREC 0).setLk { s.lk with record := none }
  let s := s.lkReturnPorts
  let s := s.raise 0x702 cause s.lkAddr 0
  s.postAll (refs.map fun r => (r, 0x01, boolNat left))

/-- R438, R441: a join fails with `status`. -/
def State.lkJoinFails (s : State) (status : Nat) : State :=
  let join := s.lk.join
  let s := s.lkReturnPorts
  let s := s.when join.isNone (·.raise 0x702 4 s.lkAddr 0)
  s.postOpt join status 0

/-- R438: JOINED sets. `master`: the device became master first. -/
def State.lkJoinedNow (s : State) (master : Bool) : State :=
  let join := s.lk.join
  let s := (s.set LK_STATUS.JOINING 0).set LK_STATUS.JOINED 1
  let s := s.setLk { s.lk with join := none, joinStep := 0, known := [], joinStamp := (s.now, s.get TM_STATUS.QUAL) }
  let s := s.writeLinkRecord
  let addr := s.get LK_MASTER.ADDR
  let s := s.raise 0x701 s.lkAddr addr ((if master then 2 else 1) + if join.isNone then 4 else 0)
  s.postOpt join (if master then 0x02 else 0x01) (boolNat master * 2 ^ 23 + addr)

/-- R416, R438: the device takes U0 and U1 and listens, for `wait` × 10 ms. -/
def State.lkListen (s : State) (addr wait : Nat) : State :=
  let r := linkRate (s.get LK_CFG.RATE)
  let take := fun (s : State) (p : Nat) => s.uaTake p r.2 (r.1 * 2 ^ 22) (4 * 2 ^ 16 + 4 * 2 ^ 8) 0
  let s := ((take (take s 0) 1).set LK_STATUS.JOINING 1).set LK_ADDR.ADDR addr
  s.setLk { s.lk with
    slack := none, lineA := .idle, lineB := .idle,
    joinStep := 2, heard := [], seqs := [], cache := [], uidOf := none, missed := 0, known := [],
    extras := [], flight := none, wait := 0, boundary := some s.clock, clear := s.clock,
    waitEnd := s.clock + 1000000 * wait, silent := 0, skip := 0 }

/-- R451: the registers show a table. -/
def State.showTable (s : State) (t : LkTable) : State :=
  let s := s.set LK_TABLEID.ID t.id
  (List.range 64).foldl (fun s k =>
    let e := t.entries.getD k (0, 0, 0)
    ((s.set (LK_SLOT.ENTRY k 0) e.1).set (LK_SLOT.ENTRY k 1) e.2.1).set (LK_SLOT.ENTRY k 2) e.2.2) s

/-- R441, R586: step 1 of a core start loads the link record. -/
def State.lkLoadRecord (s : State) : State :=
  match s.lk.record with
  | some r =>
      let s := s.set LK_STATUS.AUTOREC 1
      if bitOf r.cfg 20 then
        let s := (((s.set LK_CFG.RATE (r.cfg / 2 ^ 21)).set LK_CFG.AUTO 1).set LK_CFG.MASTEROK (r.cfg / 2 ^ 19)).set
          LK_CFG.DROPUNK (r.cfg / 2 ^ 18)
        let s := ((s.set LK_CFG.C (r.cfg / 2 ^ 8)).set LK_CFG.TURN r.cfg).set LK_ADDR.ADDR r.addr
        let s := s.setLk { s.lk with table := r.table }
        match r.table with
        | some t => s.showTable t
        | none => s
      else s
  | none => s

/-- R441, R587: the automatic join when the flash store has opened. -/
def State.lkAutoJoin (s : State) : State :=
  match s.lk.record with
  | some r => s.when (bitOf r.cfg 20 && !s.joined && !s.joining) (·.lkListen r.addr 511)
  | none => s

/-! ## Slot tables (R425 to R427) -/

/-- R425: two entries that overlap in time are never active in the same cycle. -/
def entriesAgree (a b : Nat × Nat × Nat) : Bool :=
  let apart := decide (entryStart a + entryLen a ≤ entryStart b) || decide (entryStart b + entryLen b ≤ entryStart a)
  let m := 2 ^ min (entryP a) (entryP b)
  apart || entryPhase a % m != entryPhase b % m

def pairwiseOk {α : Type} (f : α → α → Bool) : List α → Bool
  | [] => true
  | a :: rest => rest.all (f a) && pairwiseOk f rest

/-- R425: whether an entry stands by itself. -/
def State.entryOk (s : State) (cwstart : Nat) (e : Nat × Nat × Nat) : Bool :=
  decide (e.1 < 65536) && decide (e.2.2 < 4096) && entryLen e != 0 && decide (entryP e ≤ 8) &&
    decide (entryPhase e < 2 ^ entryP e) && decide (s.bend ≤ entryStart e) &&
    decide (entryStart e + entryLen e ≤ cwstart)

/-- R425: the table of `words`, none where it is not valid. -/
def State.readTable (s : State) (words : List Nat) : Option LkTable :=
  let id := words.getD 0 0
  let n := words.getD 1 0 / 65536
  let cw := words.getD 1 0 % 4096
  let entries := (List.range n).map fun k =>
    (words.getD (2 + 3 * k) 0, words.getD (3 + 3 * k) 0, words.getD (4 + 3 * k) 0)
  if id ≠ 0 ∧ n ≤ 64 ∧ bitsOf (words.getD 1 0) 12 4 = 0 ∧ 2 + 3 * n ≤ words.length ∧
      cw + s.get LK_CFG.TURN ≤ s.cycleUs ∧ entries.all (s.entryOk cw) = true ∧
      pairwiseOk entriesAgree entries = true then some ⟨id, cw, entries⟩
  else none

/-- R426, R441: the table takes effect, and the record takes it: the whole record while joined, the table alone of
a record that is present otherwise (R447: only a join makes one; assumption log 102). -/
def State.applyTable (s : State) (t : LkTable) : State :=
  let s := s.showTable t
  let s := s.setLk { s.lk with table := some t, record := s.lk.record.map fun r => { r with table := some t } }
  let s := s.when s.joined (·.writeLinkRecord)
  s.raise 0x70C t.id t.entries.length (s.get LK_CYCLE.N)

/-! ## Sending (R428 to R432) -/

/-- R428: a head that fits no window any more completes with status 0x87. -/
def State.lkHeadCheck : Nat → State → State
  | 0, s => s
  | fuel + 1, s =>
      match s.lk.sends with
      | [] => s
      | x :: rest =>
          if s.lk.flight.isNone && !s.lkFits x.len x.dst.isSome x.mode then
            State.lkHeadCheck fuel ((s.setLk { s.lk with sends := rest }).post x.ref 0x87 x.result)
          else s

/-- The oldest LKSEND completes. -/
def State.lkSendEnd (s : State) (status : Nat) : State :=
  match s.lk.sends with
  | [] => s
  | x :: rest =>
      State.lkHeadCheck 16 ((s.setLk { s.lk with sends := rest, flight := none }).post x.ref status x.result)

def State.setHead (s : State) (f : LkSend → LkSend) : State :=
  match s.lk.sends with
  | [] => s
  | x :: rest => s.setLk { s.lk with sends := f x :: rest }

/-- R431: an attempt has failed with ACK result `last` (3 none). -/
def State.lkFail (s : State) (last : Nat) : State :=
  let s := s.setHead fun x => { x with last := last }
  match s.lk.sends with
  | [] => s
  | x :: _ =>
      if 8 ≤ x.attempts then s.lkSendEnd (if last = 2 then 0x82 else 0x81)
      else (s.add LK_RETRIES.COUNT 1).setLk { s.lk with flight := none }

/-- An entry moved to the front of a table of 256, the least recently used dropped (R432). -/
def lruPut (k v : Nat) (l : List (Nat × Nat)) : List (Nat × Nat) :=
  ((k, v) :: l.filter (·.1 != k)).take 256

def lruFind (k : Nat) (l : List (Nat × Nat)) : Option Nat := (l.find? (·.1 == k)).map (·.2)

/-- R432: the sequence and NEWSEQ of a new frame to `dst`. -/
def State.lkSequence (s : State) (dst : Nat) : Nat × Bool × State :=
  match lruFind dst s.lk.seqs with
  | some q =>
      let seq := (q + 1) % 256
      (seq, false, s.setLk { s.lk with seqs := lruPut dst seq s.lk.seqs })
  | none =>
      let seq := s.lk.bcasts
      (seq, true, s.setLk { s.lk with seqs := lruPut dst seq s.lk.seqs })

/-- R428, R432: the oldest LKSEND's frame leaves. -/
def State.lkStart (s : State) (x : LkSend) (contention : Bool) : State :=
  let payload := (s.stream uaStaging (x.off + x.len)).drop x.off
  match x.dst with
  | none =>
      let s := s.lkBroadcast 0 payload
      let s := s.setHead fun x => { x with attempts := x.attempts + 1 }
      s.setLk { s.lk with flight := some (.send contention) }
  | some dst =>
      let (seq, newseq, s) := match x.seq with
        | some (q, n) => (q, n, s)
        | none => s.lkSequence dst
      let s := s.lkEmit (linkBytes (linkFlags 0 false (x.attempts != 0) newseq) dst s.lkAddr seq payload)
      let s := s.setHead fun x => { x with attempts := x.attempts + 1, seq := some (seq, newseq) }
      s.setLk { s.lk with flight := some (.send contention) }

/-- R428: how a special frame may go: its MODE. -/
def specialMode (x : LkSpecial) : Nat :=
  match x with
  | .join => 2
  | .notice 3 => 2
  | _ => 3

/-- R440: the LEAVE of a device that leaves has left or collided. -/
def State.lkLeaveSent (s : State) (left : Bool) : State :=
  if s.lk.leaving = 0 then s else s.lkGone s.lk.leaving left

/-- The frame in flight has left on at least one line. -/
def State.lkLeft (s : State) : State :=
  match s.lk.flight with
  | none => s
  | some .beacon => s.setLk { s.lk with flight := none }
  | some (.send c) =>
      match s.lk.sends with
      | [] => s
      | x :: _ =>
          if x.dst.isSome then s
          else
            let s := s.when c (·.backoff 1)
            s.lkSendEnd 0x01
  | some (.extra c) =>
      match s.lk.extras with
      | [] => s.setLk { s.lk with flight := none }
      | e :: rest =>
          let s := (s.setLk { s.lk with extras := rest, flight := none }).when c (·.backoff 1)
          match e.what with
          | .join => s.setLk { s.lk with joinStep := 4, joinAt := s.lk.flightEnd }
          | .leave => s.lkLeaveSent true
          | .notice 1 => { s with sv := { s.sv with noticed := true } }
          | _ => s

/-- The frame in flight has left once its last stop bit has passed. -/
def State.lkSettle (s : State) : State :=
  s.when (!s.running || decide (s.lk.flightEnd ≤ s.clock)) (·.lkLeft)

/-- Bring the first special frame that may go at `t` to the front, with its window. -/
def State.pickExtra (s : State) (t : Nat) : List LkExtra → Option (LkExtra × Bool × List LkExtra)
  | [] => none
  | e :: rest =>
      let len := (s.specialFrame e.what).2.length
      match if e.delay = 0 ∧ (e.bounded = true → s.clock + s.lkDur (len + 14) ≤ e.until_) then s.lkWindow t len false (specialMode e.what) else none with
      | some c => some (e, c, rest)
      | none => (s.pickExtra t rest).map fun (x, c, l) => (x, c, e :: l)

/-- R424: whether the device may not send: 7 extrapolated cycles have passed. -/
def State.lkMuted (s : State) : Bool := !s.isMaster && decide (8 ≤ s.lk.missed)

/-- Whether the frame in flight still waits for its ACK. -/
def State.awaitsAck (s : State) : Bool :=
  match s.lk.flight, s.lk.sends with
  | some (.send _), x :: _ => x.dst.isSome
  | _, _ => false

/-- R429: before a contention attempt both lines have been idle for TURN + k character times: k, drawn from 0 to 15 once
for each attempt. -/
def State.lkSlack (s : State) : Nat × State :=
  match s.lk.slack with
  | some k => (k, s)
  | none =>
      let (v, s) := s.draw
      (v % 16, s.setLk { s.lk with slack := some (v % 16) })

/-- R429: `f`, in an own slot at once and in the contention window after the idle time. -/
def State.lkAttempt (s : State) (contention : Bool) (f : State → State) : State :=
  if contention then
    let (k, s) := s.lkSlack
    if s.lk.clear + s.lkDur k ≤ s.clock then f (s.setLk { s.lk with slack := none }) else s
  else f s

/-- R428: what goes at `t` µs after the boundary. -/
def State.lkTransmit (t : Nat) (s : State) : State :=
  if s.lkListens && !s.lkMuted && !s.awaitsAck then
    let s := s.lkLeft
    match s.pickExtra t s.lk.extras with
    | some (e, c, rest) =>
        s.lkAttempt c fun s =>
          let f := s.specialFrame e.what
          let s := (s.setLk { s.lk with extras := e :: rest }).lkBroadcast f.1 f.2
          s.setLk { s.lk with flight := some (.extra c) }
    | none =>
        match s.lk.sends with
        | [] => s
        | x :: _ =>
            match s.lkWindow t x.len x.dst.isSome x.mode with
            | some false => s.lkStart x false
            | some true => if s.lk.wait = 0 then s.lkAttempt true (·.lkStart x true) else s
            | none => s
  else s

/-- R417, R428: a transmission opportunity `t` µs after the boundary: none in the past, nor within TURN of the last frame
on the lines. -/
def linkTransmit (t : Nat) (s : State) : State :=
  match s.lk.boundary with
  | some b =>
      if s.clock ≤ b + 100 * t ∧ s.lk.clear ≤ b + 100 * t then s.onTime (b + 100 * t) (State.lkTransmit t) else s
  | none => s

/-- R429, R430: a collision on both lines. R442: a master whose beacon collides waits r cycles, r from 0 to 3. -/
def State.lkCollide (s : State) : State :=
  match s.lk.flight with
  | none => s
  | some .beacon =>
      let (r, s) := s.draw
      (s.add LK_COLLISIONS.COUNT 1).setLk { s.lk with flight := none, skip := r % 4 }
  | some (.send c) =>
      let s := s.add LK_COLLISIONS.COUNT 1
      let s := s.when c State.backoffFail
      if s.awaitsAck then s.lkFail 3 else s.setLk { s.lk with flight := none }
  | some (.extra c) =>
      let s := (s.add LK_COLLISIONS.COUNT 1).setLk { s.lk with flight := none }
      match s.lk.extras with
      | [] => s
      | e :: rest =>
          if e.bounded then
            if 1 ≤ e.tries then
              ((s.setLk { s.lk with extras := rest }).add LK_NOTICELOST.COUNT 1)
            else s.setLk { s.lk with extras := { e with tries := e.tries + 1 } :: rest }
          else
            match e.what with
            | .leave => (s.setLk { s.lk with extras := rest }).lkLeaveSent false
            | .conflict _ => s
            | _ =>
                let s := s.when c State.backoffFail
                s.setLk { s.lk with extras := { e with delay := s.lk.wait } :: rest }

/-- R429: a collision on both lines, before the frame in flight has ended. -/
def linkCollision (s : State) : State :=
  if s.lk.flightEnd < s.clock then s else s.lkCollide

/-- A special frame joins those that wait, once; R445 bounds a notice to 2 cycles. -/
def State.lkQueue (s : State) (what : LkSpecial) (delay : Nat) (bounded : Bool) : State :=
  if s.lk.extras.any (·.what == what) then s
  else s.setLk { s.lk with extras := s.lk.extras ++ [⟨what, delay, bounded, 0, s.clock + s.lkCycles 2⟩] }

/-- R445: a power-fail, withdrawn or leave frame is to be sent. -/
def State.lkNotice (s : State) (what : LkSpecial) : State := if s.joined then s.lkQueue what 0 true else s

/-- R431: by when the reference edge of the ACK must have come. -/
def State.ackBy (s : State) : Nat := s.lk.flightEnd + s.lkTurn + s.lkDur 1 + 400

/-- R431: the unicast frame in flight waits for an ACK that does not come in time. -/
def ackTimeout (s : State) : State :=
  if s.awaitsAck then
    s.onTime s.ackBy fun s =>
      let s := match s.lk.flight with
        | some (.send true) => s.backoffFail
        | _ => s
      s.lkFail 3
  else s

/-- R437: an ACK that the device does not accept is an intruder in an active slot whose owner it does not answer. Its
reference edge lies 11 characters before its end. -/
def State.ackIntrudes (s : State) (dst : Nat) : State :=
  match s.lk.boundary with
  | some b =>
      let place := (s.clock - s.lkDur 11 - b) / 100
      let intrudes := s.lkListens && !s.flag LK_STATUS.TABLEMIS &&
        (s.entriesAt (s.get LK_CYCLE.N) place).any fun e => entryOwner e != dst
      s.when intrudes (·.lkStranger 4 0)
  | none => s

/-- R431: a good ACK, whose last byte ends 11 characters after its reference edge. -/
def ackReceived (dst seq result : Nat) (s : State) : State :=
  match s.lk.sends with
  | [] => s.ackIntrudes dst
  | x :: _ =>
      if s.awaitsAck && dst == s.lkAddr && x.seq.map (·.1) == some seq && decide (s.clock ≤ s.ackBy + s.lkDur 11) &&
          s.due s.lk.flightEnd then
        let s := s.add LK_RXFRAMES.COUNT 1
        let s := s.setLk { s.lk with clear := s.lk.flightEnd + s.lkTurn + s.lkDur 12 + s.lkTurn }
        let c := match s.lk.flight with
          | some (.send true) => true
          | _ => false
        if result = 2 then (s.when c (·.backoffWait)).lkFail 2
        else
          let s := s.when c (·.backoff 1)
          let s := s.setHead fun x => { x with last := result }
          s.lkSendEnd (if result = 0 then 0x01 else 0x02)
      else s.ackIntrudes dst

/-! ## Receiving (R431 to R437) -/

/-- R436: the words a delivered frame takes. -/
def LkRx.words (f : LkRx) : List Nat :=
  [f.flags * 65536 + f.payload.length * 256 + f.seq,
    boolNat f.pdup * 2 ^ 23 + boolNat f.unknown * 2 ^ 22 + boolNat f.lineA * 2 ^ 20 +
      boolNat f.lineB * 2 ^ 19 + f.src, f.dst] ++
  stampWords f.time f.qual ++ packBytes f.payload

/-- The oldest LKRECV completes. -/
def State.lkRecvEnd (s : State) : State :=
  match s.lk.recvs with
  | [] => s
  | x :: rest => (s.setLk { s.lk with recvs := rest }).post x.ref 0x01 x.result

/-- R436: frames move from the queue into the oldest LKRECV. -/
def State.lkDeliver : Nat → State → State
  | 0, s => s
  | fuel + 1, s =>
      match s.lk.rx, s.lk.recvs with
      | f :: frames, x :: rest =>
          let words := f.words
          if x.len < x.used + words.length then State.lkDeliver fuel s.lkRecvEnd
          else
            let s := s.setSlots (uaStaging + 4 * (x.off + x.used)) words
            let x := { x with stored := x.stored + 1, used := x.used + words.length }
            let s := s.setLk { s.lk with rx := frames, recvs := x :: rest, recvAt := s.clock }
            State.lkDeliver fuel (if x.stored = x.maxf then s.lkRecvEnd else s)
      | _, _ => s

/-- R422: the clock at the last stop bit of a frame, whose reference edge is its second character's start. -/
def State.frameEnd (s : State) (f : LinkFrame) : Nat := (s.clockAt f.time).toNat + s.lkDur (f.payload.length + 13)

/-- R433: a good frame is counted, and the line that lost it. It holds off the device's next frame (R417). -/
def State.lkCount (s : State) (f : LinkFrame) : State :=
  let s := s.add LK_RXFRAMES.COUNT 1
  let s := s.setLk { s.lk with clear := max s.lk.clear (s.frameEnd f + s.lkTurn) }
  let s := s.when (!f.lineA) (·.add LK_ALOSS.COUNT 1)
  s.when (!f.lineB) (·.add LK_BLOSS.COUNT 1)

/-- R433, R438, R439: what every good frame does: its lines, its source. -/
def State.lkHear (s : State) (f : LinkFrame) : State :=
  let s := s.lkCount f
  if f.src = s.lkAddr then
    if s.joining then s.lkJoinFails 0x84 else if s.joined then s.lkQueue (.conflict 0) 0 false else s
  else s

/-- R419: whether a frame taken for one of TYPE `type` is foreign: its version, its type, its BCAST, or its
destination. -/
def LinkFrame.foreign (f : LinkFrame) (type : Nat) : Bool :=
  let bcast := bitOf f.flags 4
  f.flags % 4 != 1 || f.flags / 32 != type || (decide (2 ≤ type) && !bcast) || (type == 0 && bcast && f.dst != 0)

/-- R437: `f` for a good frame of TYPE `type`, heard and discarded where it is foreign. -/
def State.lkGood (s : State) (type : Nat) (f : LinkFrame) (k : State → State) : State :=
  if s.lkListens then (if f.foreign type then (s.lkHear f).lkStranger 2 f.src else k s) else s

/-- R417, R431: an ACK on both lines, TURN after the frame's last stop bit. -/
def State.lkAck (s : State) (f : LinkFrame) (result : Nat) : State :=
  s.lkEmitAt (s.frameEnd f + s.lkTurn) (ackBytes f.src f.seq result)

/-- R432, R436: a frame joins the queue. -/
def State.lkAccept (s : State) (f : LinkFrame) (pdup unknown : Bool) : State :=
  let x : LkRx := ⟨f.flags, f.seq, f.src, if bitOf f.flags 4 then 0 else f.dst, pdup, unknown, f.lineA, f.lineB,
    f.time, s.get TM_STATUS.QUAL, f.payload⟩
  State.lkDeliver 40 (s.setLk { s.lk with rx := s.lk.rx ++ [x] })

/-- R432: a unicast DATA frame addressed to the device. -/
def State.lkUnicast (s : State) (f : LinkFrame) (unknown : Bool) : State :=
  let retry := bitOf f.flags 3
  let newseq := bitOf f.flags 2
  let deliver := fun (s : State) (pdup : Bool) =>
    if 32 ≤ s.lk.rx.length then s.lkAck f 2
    else
      let s := s.when pdup (·.add LK_PDUPS.COUNT 1)
      let s := s.setLk { s.lk with cache := lruPut f.src f.seq s.lk.cache }
      (s.lkAccept f pdup unknown).lkAck f 0
  match lruFind f.src s.lk.cache with
  | some q =>
      if q ≠ f.seq ∨ (newseq = true ∧ retry = false) then deliver s false
      else
        let s := s.setLk { s.lk with cache := lruPut f.src q s.lk.cache }
        (s.add LK_DUPS.COUNT 1).lkAck f 1
  | none => deliver s retry

/-- R431, R432, R436, R437: a good DATA frame. -/
def dataFrame (f : LinkFrame) (s : State) : State :=
  s.lkGood 0 f fun s =>
    let s := s.lkHear f
    let bcast := bitOf f.flags 4
    if s.lkIntrudes f then s.lkStranger 4 f.src
    else if !s.joined then s
    else
      let unknown := !s.lkKnown f.src
      let s := s.when unknown (·.lkStranger 3 f.src)
      if unknown && s.flag LK_CFG.DROPUNK then s
      else if bcast then
        if 32 ≤ s.lk.rx.length then s.add LK_RXDROP.COUNT 1 else s.lkAccept f false unknown
      else if f.dst = s.lkAddr then s.lkUnicast f unknown
      else s

/-- R436: LK_RXTO cycles pass after a stored frame. -/
def lkrecvTimeout (s : State) : State :=
  match s.lk.recvs with
  | x :: _ =>
      if x.stored ≠ 0 then s.onTime (s.lk.recvAt + s.lkCycles (s.get LK_RXTO.CYC)) fun s => State.lkDeliver 40 s.lkRecvEnd
      else s
  | [] => s

def State.lkLearn (s : State) (src : Nat) : State :=
  if s.lk.known.contains src then s else s.setLk { s.lk with known := s.lk.known ++ [src] }

/-- R439: a JOIN. -/
def joinReceived (f : LinkFrame) (s : State) : State :=
  s.lkGood 3 f fun s =>
    let own := f.src = s.lkAddr ∧ s.joined = true
    let s := if own then s.lkCount f else s.lkHear f
    if own then s.lkQueue (.conflict (littleEndian (f.payload.take 8))) 0 false
    else if s.lkIntrudes f then s.lkStranger 4 f.src
    else s.lkLearn f.src

/-- R440: the device begins to leave, with `cause`; a leave in progress keeps its own, and takes the LKLEAVE in. -/
def State.lkBeginLeave (s : State) (cause : Nat) (ref : Option OpRef) : State :=
  ((s.set LK_STATUS.LEAVING 1).setLk { s.lk with
    leaving := if s.lk.leaving = 0 then cause else s.lk.leaving,
      leave := s.lk.leave ++ ref.toList }).lkQueue .leave 0 false

/-- R438, R439: a CONFLICT. -/
def conflictReceived (f : LinkFrame) (s : State) : State :=
  s.lkGood 4 f fun s =>
    let other := littleEndian (f.payload.take 8)
    let answered := littleEndian (f.payload.drop 8 |>.take 8)
    let stamp := littleEndian (f.payload.drop 16 |>.take 9)
    if s.joining then
      let s := s.lkCount f
      if answered = s.uid ∧ 3 ≤ s.lk.joinStep then s.lkJoinFails 0x84
      else if f.src = s.lkAddr then s.lkJoinFails 0x84
      else s.lkLearn f.src
    else if f.src = s.lkAddr then
      let s := s.lkCount f
      let mine := stampValue s.lk.joinStamp.1 s.lk.joinStamp.2
      let lost := stampBefore stamp mine || (stamp / 4 == mine / 4 && decide (other < s.uid))
      let s := s.raise 0x705 s.lkAddr other (boolNat (!lost))
      if lost then
        let s := (s.set LK_STATUS.AUTOREC 0).setLk { s.lk with record := none }
        s.lkBeginLeave 2 none
      else s.lkQueue (.conflict 0) 0 false
    else
      let s := s.lkHear f
      if s.lkIntrudes f then s.lkStranger 4 f.src else s.lkLearn f.src

/-- R419, R437: a LEAVE. -/
def leaveReceived (f : LinkFrame) (s : State) : State :=
  s.lkGood 5 f fun s =>
    let s := s.lkHear f
    if s.lkIntrudes f then s.lkStranger 4 f.src
    else if s.joined ∧ s.lkKnown f.src = false then s.lkStranger 3 f.src
    else s

/-- R442: whether key (class, UID) `a` is better than `b`. -/
def betterKey (a b : Nat × Nat) : Bool := decide (b.1 < a.1) || (a.1 == b.1 && decide (a.2 < b.2))

/-- R442: claims heard in the last 64 cycles. -/
def State.recentClaims (s : State) : List LkClaim :=
  s.lk.claims.filter fun c => decide ((s.get LK_CYCLE.N + 2 ^ 24 - c.cycle) % 2 ^ 24 ≤ 64)

/-- R442: the best claimant of a list. -/
def bestClaim : List LkClaim → Option LkClaim
  | [] => none
  | c :: rest => some (rest.foldl (fun a b => if betterKey (b.cls, b.uid) (a.cls, a.uid) then b else a) c)

/-- R442, R445: a NOTICE. -/
def noticeReceived (f : LinkFrame) (s : State) : State :=
  s.lkGood 6 f fun s =>
    let s := s.lkHear f
    if s.lkIntrudes f then s.lkStranger 4 f.src
    else
      let unknown := s.joined && !s.lkKnown f.src
      let s := s.when unknown (·.lkStranger 3 f.src)
      let sub := f.payload.getD 0 0
      if unknown && s.flag LK_CFG.DROPUNK then s
      else if sub = 1 ∨ sub = 2 then s.raise 0x709 f.src sub (s.get LK_CYCLE.N)
      else
        let claim : LkClaim := ⟨f.payload.getD 9 0 % 8, littleEndian (f.payload.drop 1 |>.take 8), f.src,
          s.get LK_CYCLE.N⟩
        let s := s.setLk { s.lk with claims := s.recentClaims ++ [claim] }
        if s.isMaster ∧ s.lkClass < claim.cls then
          s.setLk { s.lk with handover := (bestClaim (s.recentClaims.filter fun c => decide (s.lkClass < c.cls))).map (·.addr) }
        else s

/-! ## Cycles and the master (R423, R424, R434, R442 to R444) -/

/-- R426, R430, R445: what every boundary does, with the cycle's number. -/
def State.lkBoundary (s : State) (n : Nat) : State :=
  let s := s.set LK_CYCLE.N n
  let due := fun (p : LkPending) =>
    match p.at_ with
    | none => true
    | some a => decide ((n + 2 ^ 24 - a) % 2 ^ 24 < 2 ^ 23)
  let ready := s.lk.pendings.filter due
  let s := s.setLk { s.lk with pendings := s.lk.pendings.filter fun p => !due p, wait := s.lk.wait - 1 }
  let s := ready.foldl (fun s p => s.applyTable p.table) s
  let s := s.postAll (ready.map fun p => (p.ref, p.status, p.table.entries.length))
  let extras := s.lk.extras.map fun e => { e with delay := e.delay - 1 }
  let late := fun (e : LkExtra) => e.bounded && decide (e.until_ ≤ s.clock)
  let s := (s.add LK_NOTICELOST.COUNT (extras.filter late).length).setLk
    { s.lk with extras := extras.filter fun e => !late e }
  State.lkHeadCheck 16 s

/-- R442: the device becomes master. -/
def State.lkBecome (s : State) (cause : Nat) : State :=
  s.oneCycle fun s =>
    let s := ((s.set LK_STATUS.MASTER 1).set LK_STATUS.TABLEMIS 0).set LK_MASTER.CLASS s.lkClass
    let s := (s.set LK_MASTER.ADDR s.lkAddr).qualify 4 false
    let s := s.setLk { s.lk with
        uidOf := some s.uid, missed := 0, silent := 0, skip := 0, handover := none, claimed := none }
    let s := (s.raise 0x703 1 cause s.lkClass).add LK_ELECTIONS.COUNT 1
    s.when s.joining (·.lkJoinedNow true)

/-- R442: the device ceases to be master. -/
def State.lkCease (s : State) (cause : Nat) : State :=
  let s := (s.set LK_STATUS.MASTER 0).raise 0x703 0 cause s.lkClass
  s.setLk { s.lk with uidOf := none, missed := 0 }

/-- R421, R423: the master's beacon, from the last edge, or TURN after what it still has on the line there. -/
def State.lkBeacon (s : State) : State :=
  let from_ := if s.edgeClock < s.lk.flightEnd then s.lk.clear else s.edgeClock
  let edge := (s.timeAt from_).toNat + s.lkDur 1
  let s := s.lkBroadcast 2 (s.beacon edge s.lk.handover)
  let end_ := from_ + s.lkDur 51
  let s := s.setLk { s.lk with flight := some .beacon, flightEnd := end_, clear := end_ + s.lkTurn }
  match s.lk.handover with
  | some _ => (s.lkCease 2).add LK_ELECTIONS.COUNT 1
  | none => s

/-- R423: a boundary of the master, at most one for each tick edge. -/
def linkCycleBoundary (s : State) : State :=
  if s.lkListens && s.isMaster && decide (s.get TK_INDEX.INDEX % max (s.get LK_CFG.C) 1 = 0) &&
      (!s.running || decide (s.lk.boundary ≠ some s.edgeClock)) then
    let s := s.lkLeft
    let c := max (s.get LK_CFG.C) 1
    let s := s.setLk { s.lk with boundary := some s.edgeClock }
    let s := s.lkBoundary ((s.seconds * s.get TK_RATE.RATE / c + s.get TK_INDEX.INDEX / c) % 2 ^ 24)
    let s := s.setLk { s.lk with claims := s.recentClaims }
    if s.lk.skip = 0 then s.lkBeacon else s.setLk { s.lk with skip := s.lk.skip - 1 }
  else s

/-- R443: a reference stamp in nanoseconds. -/
def stampNs (v : Nat) : Nat := v / 2 ^ 32 * 1000000000 + bitsOf v 2 30

/-- R443: source 4's measurement. -/
def State.lkMeasure (s : State) (f : LinkFrame) (changed : Bool) : State :=
  let p := f.payload
  let n := littleEndian (p.drop 9 |>.take 3)
  let per := s.get TK_RATE.RATE / max (s.get LK_CFG.C) 1
  let s := s.when changed fun s => { s.qualify 4 false with tm := { s.tm with linkRun := 0 } }
  if n % max per 1 ≠ 0 then s
  else
    let ref := littleEndian (p.drop 12 |>.take 9)
    let quality := ref % 4
    let delay := if f.firstB then s.get LK_DELAYB.NS else s.get LK_DELAYA.NS
    let e := Int.tdiv ((stampNs ref : Int) + delay - 10 * f.time) 10 + s.getS TM_TRIM.T
    let bound := littleEndian (p.drop 21 |>.take 3)
    let s := s.measure 4 e
    let s := { s with tm := { s.tm with linkSilent := 0, linkBound := bound } }
    if quality = 3 then
      let run := s.tm.linkRun + 1
      let s := { s with tm := { s.tm with linkRun := min run 4 } }
      if 4 ≤ run then s.qualify 4 true else s
    else
      let s : State := { s.qualify 4 false with tm := { s.tm with linkRun := 0 } }
      if s.qual = 0 ∧ quality ≠ 0 then
        { s.qualify 4 true with tm := { s.tm with linkOnce := true } }
      else s

/-- R444: leaps and the UTC offset of the master followed. -/
def State.lkLeap (s : State) (p : List Nat) : State :=
  let pend := p.getD 8 0 % 4
  let s := s.when (pend != 0) (·.sourceLeap pend (littleEndian (p.drop 25 |>.take 5)) 3)
  if s.source = 4 ∧ s.get TM_LEAP.PEND = 0 ∧ pend = 0 ∧ p.getD 24 0 ≠ s.get TM_UTCOFS.S then
    { s with tm := { s.tm with utcNext := some (p.getD 24 0) } }
  else s

/-- R427: the table check of a followed beacon. -/
def State.lkTableCheck (s : State) (id : Nat) : State :=
  let own := s.get LK_TABLEID.ID
  if id ≠ own then
    if s.flag LK_STATUS.TABLEMIS then s else (s.set LK_STATUS.TABLEMIS 1).raise 0x70A own id 0
  else if s.flag LK_STATUS.TABLEMIS then (s.set LK_STATUS.TABLEMIS 0).raise 0x70B own id 0
  else s

/-- R434: the lines after a followed beacon. -/
def State.lkLines (s : State) (a b : Bool) : State :=
  let am := if a then 0 else s.lk.aMiss + 1
  let bm := if b then 0 else s.lk.bMiss + 1
  let both := if a && b then min (s.lk.both + 1) 16 else 0
  let s := s.setLk { s.lk with aMiss := min am 16, bMiss := min bm 16, both := both }
  let s := if 16 ≤ am ∧ s.flag LK_STATUS.ADOWN = false then (s.set LK_STATUS.ADOWN 1).raise 0x706 0 0 0 else s
  let s := if 16 ≤ bm ∧ s.flag LK_STATUS.BDOWN = false then (s.set LK_STATUS.BDOWN 1).raise 0x706 1 0 0 else s
  let s := if both = 16 ∧ s.flag LK_STATUS.ADOWN = true then (s.set LK_STATUS.ADOWN 0).raise 0x707 0 0 0 else s
  if both = 16 ∧ s.flag LK_STATUS.BDOWN = true then (s.set LK_STATUS.BDOWN 0).raise 0x707 1 0 0 else s

/-- R442: whether a claim is allowed. -/
def State.claimAllowed (s : State) : Bool :=
  s.joined && !s.isMaster && s.flag LK_CFG.MASTEROK && s.lk.uidOf.isSome &&
    decide (s.get LK_MASTER.CLASS < s.lkClass)

def State.lkClaimNow (s : State) : State :=
  (s.setLk { s.lk with claimed := some (s.get LK_CYCLE.N) }).lkQueue (.notice 3) 0 false

/-- R438: the beacons of a joining device: three of the same master within 8 cycles. -/
def State.lkJoinBeacon (s : State) (src n : Nat) : State :=
  if s.joining ∧ s.lk.joinStep = 2 then
    let heard := (s.lk.heard.filter fun h => h.1 == src && decide ((n + 2 ^ 24 - h.2) % 2 ^ 24 < 8)) ++ [(src, n)]
    if 3 ≤ heard.length then
      let (r, s) := s.draw
      (s.setLk { s.lk with heard := heard, joinStep := 3 }).lkQueue .join (r % 8 + 1) false
    else s.setLk { s.lk with heard := heard }
  else s

/-- R424, R426, R427, R434, R442 to R444: a followed beacon. -/
def State.lkFollow (s : State) (f : LinkFrame) : State :=
  s.oneCycle fun s =>
    let p := f.payload
    let uid := littleEndian (p.take 8)
    let cls := p.getD 8 0 / 32
    let n := littleEndian (p.drop 9 |>.take 3)
    let changed := s.lk.uidOf != some uid || s.get LK_MASTER.ADDR != f.src
    let s := (s.set LK_MASTER.CLASS cls).set LK_MASTER.ADDR f.src
    let delay := if f.firstB then s.get LK_DELAYB.NS else s.get LK_DELAYA.NS
    let boundary := s.clockAt f.time - s.lkDur 1 - delay / 10
    let s := s.setLk { s.lk with uidOf := some uid, missed := 0, handover := none, boundary := some boundary.toNat }
    let s := s.when changed fun s => (s.raise 0x704 f.src cls n).add LK_ELECTIONS.COUNT 1
    let s := s.lkBoundary n
    let s := (s.lkLines f.lineA f.lineB).lkTableCheck (littleEndian (p.drop 30 |>.take 3))
    let s := (s.when s.joined (·.lkMeasure f changed)).lkLeap p
    let s := s.lkJoinBeacon f.src n
    let s := if s.claimAllowed then (if s.lk.claimed.isNone then s.lkClaimNow else s)
      else s.setLk { s.lk with claimed := none }
    if bitOf (p.getD 8 0) 2 then
      let successor := littleEndian (p.drop 35 |>.take 2)
      if successor = s.lkAddr ∧ s.joined = true then s.lkBecome 2
      else s.setLk { s.lk with handover := some successor }
    else s

/-- R424, R437, R442: a good beacon. -/
def beaconReceived (f : LinkFrame) (s : State) : State :=
  s.lkGood 2 f fun s =>
    let s := s.lkHear f
    if !(s.joined || s.joining) then s
    else
      let p := f.payload
      let key := (p.getD 8 0 / 32, littleEndian (p.take 8))
      if littleEndian (p.drop 33 |>.take 2) ≠ s.cycleUs then s.lkStranger 2 f.src
      else
      let s := s.setLk { s.lk with silent := 0 }
      if s.isMaster then
        if betterKey key (s.lkClass, s.uid) then s.oneCycle fun s => (s.lkCease 3).lkFollow f else s.lkStranger 4 f.src
      else
        let follows :=
          match s.lk.uidOf with
          | none => true
          | some u =>
              u == key.2 || s.lk.handover == some f.src || decide (8 ≤ s.lk.missed) ||
                betterKey key (s.get LK_MASTER.CLASS, u)
        if follows then s.lkSettle.lkFollow f else s.lkStranger 4 f.src

/-- R424: a boundary is extrapolated. -/
def beaconMissing (s : State) : State :=
  if s.lkListens && !s.isMaster then
    match s.lk.boundary with
    | some b =>
        s.onTime (b + s.lkCycles 1) fun s =>
          let s := s.lkSettle
          (s.setLk { s.lk with missed := s.lk.missed + 1, silent := s.lk.silent + 1, aMiss := 0, bMiss := 0, both := 0,
                               boundary := some (b + s.lkCycles 1) }).lkBoundary (s.get LK_CYCLE.N + 1)
    | none => s
  else s

/-- R442: the cycles without a good beacon after which a node begins beaconing. -/
def State.silenceCount (s : State) : Nat := 8 + 4 * (4 - s.lkClass) + s.uid % 8

/-- R442: the silence count has passed. -/
def silenceTimeout (s : State) : State :=
  if s.lkListens && !s.isMaster && s.flag LK_CFG.MASTEROK &&
    decide (s.silenceCount ≤ s.lk.silent) then s.lkBecome 1 else s

/-- R442: 64 cycles after the last, the claim is repeated. -/
def claimRepeat (s : State) : State :=
  if s.lkListens && s.claimAllowed &&
      s.lk.claimed.all (fun c => decide (64 ≤ (s.get LK_CYCLE.N + 2 ^ 24 - c) % 2 ^ 24)) then s.lkClaimNow
  else s

/-- R438: four cycles without a CONFLICT after the JOIN. -/
def joinConfirmed (s : State) : State :=
  let s := if s.joining ∧ s.lk.joinStep = 3 then s.lkSettle else s
  if s.joining ∧ s.lk.joinStep = 4 then s.onTime (s.lk.joinAt + s.lkCycles 4) (·.lkJoinedNow false) else s

/-- R438: WAIT passes before step 2 is reached. -/
def joinWaitTimeout (s : State) : State :=
  if s.joining ∧ s.lk.joinStep = 2 then s.onTime s.lk.waitEnd (·.lkJoinFails 0x85) else s

/-- R437: noise (1), foreign traffic (2), or a length fault (0). -/
def strangerHeard (cls src : Nat) (s : State) : State :=
  if s.lkListens then
    if cls = 0 then s.add LK_LENFAULTS.COUNT 1 else if cls ≤ 4 then s.lkStranger cls src else s
  else s

/-! ## The lines (R422, R437) -/

/-- R422: what a character makes of a line's receiver. -/
inductive LkHeard where
  | nothing
  | noise
  | foreign
  | lengthFault
  deriving DecidableEq, Repr

/-- R418, R420, R422: the bytes a frame still has, of those from its flags on; none once the length is a fault. -/
def frameNeeds (bytes : List Nat) : Option Nat :=
  if bytes.getD 0 0 / 32 = 1 then some 9
  else if bytes.length < 7 then some 7
  else if 240 < bytes.getD 6 0 then none
  else some (11 + bytes.getD 6 0)

/-- R418, R422: whether a whole frame's CRC-32 is right. -/
def frameCrcOk (bytes : List Nat) : Bool :=
  let n := bytes.length - 4
  littleEndian (bytes.drop n) == crc32 (bytes.take n)

/-- R422: a byte inside a frame. -/
def LkLine.take (x : LkLine) (v : Nat) : LkLine × LkHeard :=
  let bytes := x.bytes ++ [v]
  match frameNeeds bytes with
  | none => ({ x with phase := .dead }, .lengthFault)
  | some n =>
      if bytes.length < n then ({ x with bytes := bytes }, .nothing)
      else if frameCrcOk bytes then ({ x with phase := .hunt }, .nothing)
      else ({ x with phase := .dead }, .noise)

/-- R422, R437: a character while hunting, or after a preamble: a preamble, the sync's first, or a foreign one. -/
def LkLine.hunt (x : LkLine) (v : Nat) : LkLine × LkHeard :=
  if v = 0x55 then ({ x with phase := .preamble }, .nothing)
  else if v = 0xC3 then ({ x with phase := .sync }, .nothing)
  else ({ x with phase := .hunt, run := true }, if x.run then .nothing else .foreign)

/-- R422: a character `v` on a line, `bad` with a framing error. `rest`: since the last one the line was idle for 2
character times, which ends a foreign run and a wait; `gap`: for longer, which makes a frame noise. -/
def LkLine.hear (x : LkLine) (v : Nat) (bad rest gap : Bool) : LkLine × LkHeard :=
  let x := if rest then { x with run := false, phase := if x.phase = .dead then .hunt else x.phase } else x
  match x.phase with
  | .dead => (x, .nothing)
  | .hunt => x.hunt v
  | .preamble => x.hunt v
  | .sync =>
      if gap then ((x.hunt v).1, .noise)
      else if bad || v != 0x3C then ({ x with phase := .dead }, .noise)
      else ({ x with phase := .frame, bytes := [] }, .nothing)
  | .frame =>
      if gap then ((x.hunt v).1, .noise) else if bad then ({ x with phase := .dead }, .noise) else x.take v

/-- R433: the twin interval, T(14) + 10 µs. -/
def State.twinTime (s : State) : Nat := s.lkDur 14 + 1000

/-- R437: a stranger of class `cls` (0 a length fault) on a line, counted once where the other line `other` had it within
the twin interval. -/
def State.lkLineStranger (s : State) (other : LkLine) (cls : Nat) : State :=
  let twin := other.strange.any fun o => o.1 == cls && decide (s.clock ≤ o.2 + s.twinTime)
  if twin then s else if cls = 0 then s.add LK_LENFAULTS.COUNT 1 else s.lkStranger cls 0

/-- R422: line A (port 0) or B (port 1) hears character `v`. -/
def State.lkHunt (s : State) (p v : Nat) (bad : Bool) : State :=
  let x := if p = 0 then s.lk.lineA else s.lk.lineB
  let other := if p = 0 then s.lk.lineB else s.lk.lineA
  let idle := s.clock - x.last
  let (x, heard) := x.hear v bad (decide (s.lkDur 3 ≤ idle)) (decide (s.lkDur 3 < idle))
  let cls := match heard with
    | .nothing => none
    | .noise => some 1
    | .foreign => some 2
    | .lengthFault => some 0
  let s := match cls with
    | some c => s.lkLineStranger other c
    | none => s
  let x := { x with last := s.clock, strange := if cls.isSome then cls.map fun c => (c, s.clock) else x.strange }
  s.setLk (if p = 0 then { s.lk with lineA := x } else { s.lk with lineB := x })

/-- R395, R397, R422: a character completes at port `p`; the link unit's receiver takes those of its own ports. -/
def uartCharacter (p : Nat) (c : UartChar) (s : State) : State :=
  let cfg := s.get (UA_CFGB.CFG p)
  let takes := s.lkListens && decide (p < 2) && !c.bit cfg 0
  (s.uaCharacter p c).when takes (·.lkHunt p (c.data cfg) (!c.stop cfg (s.uaBits p)))

/-! ## Instructions (R448, R449) -/

def lkjoin (op : Op) (s : State) : State :=
  s.issue op 0x2A (unitCost 0x2A) fun s ref =>
    let legal := s.powerIn [standby, active, quiet, maint] && !s.joined && !s.joining
    let fields := op.dst == 0 && op.src == 0 && decide (op.word 1 < 65536)
    s.judge ref (op.ext.length == 1) fields true legal (op.imm9 != 0 && s.cycleOk) 0x80 fun s =>
      (s.setLk { s.lk with join := some ref }).lkListen (op.word 1) op.imm9

def lksend (op : Op) (s : State) : State :=
  s.issue op 0x2B (unitCost 0x2B) fun s ref =>
    let bcast := bitOf op.src 2
    let len := op.word 1 / 65536
    let dst := op.word 1 % 65536
    let off := op.word 2
    let fields := op.src % 4 == 0 && op.imm9 == 0 && decide (off < 2 ^ 15)
    let range := decide (1 ≤ op.dst) && decide (op.dst ≤ 3) && decide (len ≤ 240) && (!bcast || dst == 0)
    s.judge ref (op.ext.length == 2) fields (rangeInside off len 24576) s.joined range 0x80 fun s =>
      if 16 ≤ s.lk.sends.length then s.post ref 0x83 0
      else if !s.lkFits len (!bcast) op.dst then s.post ref 0x87 3
      else
        let x : LkSend := ⟨ref, op.dst, if bcast then none else some dst, len, off, none, 0, 3⟩
        s.setLk { s.lk with sends := s.lk.sends ++ [x] }

def lkrecv (op : Op) (s : State) : State :=
  s.issue op 0x2C (unitCost 0x2C) fun s ref =>
    let off := op.word 1
    let maxf := op.word 2 / 65536
    let len := op.word 2 % 2 ^ 14
    let fields := op.dst == 0 && op.src == 0 && op.imm9 == 0 && decide (off < 2 ^ 13) && bitsOf (op.word 2) 14 2 == 0
    let range := maxf != 0 && decide (6 ≤ len) && decide (len ≤ 8192)
    s.judge ref (op.ext.length == 2) fields (rangeInside off len 8192) s.joined range 0x80 fun s =>
      if 4 ≤ s.lk.recvs.length then s.post ref 0x83 0
      else State.lkDeliver 40 (s.setLk { s.lk with recvs := s.lk.recvs ++ [⟨ref, off, len, maxf, 0, 0⟩] })

def lkslot (op : Op) (s : State) : State :=
  s.issue op 0x2D (unitCost 0x2D) fun s ref =>
    let off := op.word 1
    let at_ := op.word 2
    let now := bitOf op.imm9 0
    let fields := op.dst == 0 && op.src == 0 && decide (op.imm9 < 2) && decide (off < 2 ^ 13)
    s.judge ref (op.ext.length == 2) fields (rangeInside off 2 8192) (!s.flag LK_STATUS.LEAVING) true 0x80 fun s =>
      let words := (List.range (min 194 (8192 - off))).map fun i => s.slot (uaStaging + 4 * (off + i))
      match s.readTable words with
      | none => s.post ref 0x86 0
      | some t =>
          if !s.joined then (s.applyTable t).post ref 0x01 t.entries.length
          else
            let ahead := (at_ + 2 ^ 24 - s.get LK_CYCLE.N) % 2 ^ 24
            let timed := !now && decide (1 ≤ ahead) && decide (ahead < 2 ^ 23)
            let p : LkPending := ⟨ref, if timed then some at_ else none, if timed || now then 0x01 else 0x02, t⟩
            s.setLk { s.lk with pendings := s.lk.pendings ++ [p] }

def lkleave (op : Op) (s : State) : State :=
  s.issue op 0x2E (unitCost 0x2E) fun s ref =>
    s.judge ref op.ext.isEmpty (op.dst == 0 && op.src == 0 && op.imm9 == 0) true (s.joined || s.joining) true 0x80
      fun s => s.lkBeginLeave 1 (some ref)

/-- R449: the result of LKTIME. -/
def State.lktimeResult (s : State) : Nat :=
  s.get LK_STATUS.MASTER * 2 ^ 23 + s.get LK_MASTER.CLASS * 2 ^ 20 + s.get LK_MASTER.ADDR

def lktime (op : Op) (s : State) : State :=
  s.issue op 0x2F (unitCost 0x2F) fun s ref =>
    s.judge ref op.ext.isEmpty (op.src == 0 && op.imm9 == 0) true (!(op.dst == 2 || op.dst == 3) || s.joined)
      (decide (1 ≤ op.dst) && decide (op.dst ≤ 3)) 0x80 fun s =>
      if op.dst = 1 then s.post ref 0x01 s.lktimeResult
      else if op.dst = 2 then
        if s.claimAllowed then
          let s := s.lkClaimNow
          s.post ref 0x01 s.lktimeResult
        else s.post ref 0x02 s.lktimeResult
      else
        let s := s.set LK_CFG.MASTEROK 0
        let s :=
          if s.isMaster then
            match bestClaim s.recentClaims with
            | some c => s.setLk { s.lk with handover := some c.addr }
            | none => (s.lkCease 4).add LK_ELECTIONS.COUNT 1
          else s
        s.post ref 0x01 s.lktimeResult

/-- R408, R449: the Pavane freeze. -/
def State.lkFreeze (s : State) : State :=
  let join := s.lk.join
  let s := s.lkStopQueues 0x88 0x03
  if join.isSome then (s.setLk { s.lk with join := none }).lkReturnPorts.postOpt join 0x88 0 else s

/-- R435: whether the device owns byte `b` of the link window. -/
def State.lkOwnsByte (s : State) (b : Nat) : Bool :=
  (s.lk.sends.any fun x => decide (x.off ≤ b) && decide (b < x.off + x.len)) ||
    s.lk.recvs.any fun x => decide (3 * x.off ≤ b) && decide (b < 3 * (x.off + x.len))

/-- R448: a write of value `v` to the link's slot at block offset `o`. -/
def lkWrite (w : Writer) (o v m : Nat) (s : State) : Option State :=
  let off := 0xE000 + o
  if o = 0x004 then
    s.writeWhere (fun f => !s.joined && !s.joining && (f.key != LK_CFG.RATE.key || f.within v 0 4) &&
      (f.key != LK_CFG.C.key || f.within v 2 200) && (f.key != LK_CFG.TURN.key || f.within v 2 20)) w off v m
  else if o = 0x028 then
    s.writeIf (LK_BOMIN.CYC.within v 1 1024 && decide (LK_BOMIN.CYC.of v ≤ s.get LK_BOMAX.CYC)) w off v m
  else if o = 0x02C then
    s.writeIf (LK_BOMAX.CYC.within v 1 1024 && decide (s.get LK_BOMIN.CYC ≤ LK_BOMAX.CYC.of v)) w off v m
  else if o = 0x030 then
    (s.writeIf (LK_BOMAN.CYC.within v 1 1024) w off v m).map fun s =>
      if s.flag LK_CTL.BOLOOP then s else s.set LK_BONOW.CYC (s.get LK_BOMAN.CYC)
  else if o = 0x038 then
    (s.plainWrite w off v m).map fun t =>
      if t.get LK_CTL.BOLOOP = s.get LK_CTL.BOLOOP then t
      else if t.flag LK_CTL.BOLOOP then
        (t.set LK_BONOW.CYC (clampNat (t.get LK_BOMIN.CYC) (t.get LK_BOMAX.CYC) (t.get LK_BOMAN.CYC))).setLk
          { t.lk with calm := 0 }
      else (t.set LK_BONOW.CYC (t.get LK_BOMAN.CYC)).set LK_STATUS.BOPINNED 0
  else if o = 0x03C then s.writeIf (LK_RXTO.CYC.within v 1 255) w off v m
  else s.plainWrite w off v m

/-- R451: LK_QUEUE. -/
def State.lkQueueWord (s : State) : Nat := s.lk.rx.length * 256 + s.lk.sends.length

def execUartCharacterReceived (p : Nat) (c : UartChar) (s : State) : Outcome State Fault Refusal :=
  .next (uartCharacter p c s)
def execLkjoin (op : Op) (s : State) : Outcome State Fault Refusal := .next (lkjoin op s)
def execJoinConfirmed (s : State) : Outcome State Fault Refusal := .next (joinConfirmed s)
def execJoinWaitTimeout (s : State) : Outcome State Fault Refusal := .next (joinWaitTimeout s)
def execLksend (op : Op) (s : State) : Outcome State Fault Refusal := .next (lksend op s)
def execLkrecv (op : Op) (s : State) : Outcome State Fault Refusal := .next (lkrecv op s)
def execLkrecvTimeout (s : State) : Outcome State Fault Refusal := .next (lkrecvTimeout s)
def execLkslot (op : Op) (s : State) : Outcome State Fault Refusal := .next (lkslot op s)
def execLkleave (op : Op) (s : State) : Outcome State Fault Refusal := .next (lkleave op s)
def execLktimeStatus (op : Op) (s : State) : Outcome State Fault Refusal := .next (lktime { op with dst := 1 } s)
def execLktimeClaim (op : Op) (s : State) : Outcome State Fault Refusal := .next (lktime { op with dst := 2 } s)
def execLktimeYield (op : Op) (s : State) : Outcome State Fault Refusal := .next (lktime { op with dst := 3 } s)
def execLinkCycleBoundary (s : State) : Outcome State Fault Refusal := .next (linkCycleBoundary s)
def execLinkTransmit (t : Nat) (s : State) : Outcome State Fault Refusal := .next (linkTransmit t s)
def execLinkCollision (s : State) : Outcome State Fault Refusal := .next (linkCollision s)
def execAckTimeout (s : State) : Outcome State Fault Refusal := .next (ackTimeout s)
def execBeaconReceived (f : LinkFrame) (s : State) : Outcome State Fault Refusal := .next (beaconReceived f s)
def execBeaconMissing (s : State) : Outcome State Fault Refusal := .next (beaconMissing s)
def execSilenceTimeout (s : State) : Outcome State Fault Refusal := .next (silenceTimeout s)
def execDataFrameReceived (f : LinkFrame) (s : State) : Outcome State Fault Refusal := .next (dataFrame f s)
def execAckReceived (dst seq result : Nat) (s : State) : Outcome State Fault Refusal :=
  .next (ackReceived dst seq result s)
def execJoinReceived (f : LinkFrame) (s : State) : Outcome State Fault Refusal := .next (joinReceived f s)
def execConflictReceived (f : LinkFrame) (s : State) : Outcome State Fault Refusal := .next (conflictReceived f s)
def execLeaveReceived (f : LinkFrame) (s : State) : Outcome State Fault Refusal := .next (leaveReceived f s)
def execNoticeReceived (f : LinkFrame) (s : State) : Outcome State Fault Refusal := .next (noticeReceived f s)
def execLkStranger (cls src : Nat) (s : State) : Outcome State Fault Refusal := .next (strangerHeard cls src s)
def execClaimRepeat (s : State) : Outcome State Fault Refusal := .next (claimRepeat s)

end Sys2Proof.Machine
end

