-- ==== Sys2Proof/Machine/Staging.lean ====
section
/-! DEFINITION. The general and the package staging areas as instructions use them: their bytes, and
the ranges that belong to the device (R28, R402). -/

namespace Sys2Proof.Machine

open Reg

def areaBase (package : Bool) : Nat := if package then pkgStaging else genStaging

def areaBytes (package : Bool) : Nat := if package then pkgStagingBytes else genStagingBytes

/-- `n` bytes of an area from byte `off`. -/
def State.areaStream (s : State) (package : Bool) (off n : Nat) : List Nat :=
  (List.range n).map fun i => s.streamByte (areaBase package) (off + i)

/-- The bytes of a range. -/
def State.rangeBytes (s : State) (r : StageRange) : List Nat := s.areaStream r.package r.first r.len

def StageRange.inside (r : StageRange) : Bool := decide (r.first + r.len ≤ areaBytes r.package)

def StageRange.meets (a b : StageRange) : Bool :=
  a.package == b.package && a.len != 0 && b.len != 0 && decide (a.first < b.first + b.len) &&
    decide (b.first < a.first + a.len)

/-- R465: the words of general staging a job reads. -/
def AeJob.range (j : AeJob) : List StageRange :=
  match j.window with
  | some _ => []
  | none => if j.work = AeWork.commit then [] else [⟨false, 3 * j.soff, 3 * j.words⟩]

/-- R402: the ranges of the general and package areas that belong to the device. -/
def State.ownedRanges (s : State) : List StageRange :=
  (s.cp.flatMap fun j => [j.src, j.dst]) ++ s.se.queue.flatMap (·.ranges) ++ s.ae.jobs.flatMap (·.range)

/-- Whether a byte of `r` belongs to the device. -/
def State.rangeOwned (s : State) (r : StageRange) : Bool := s.ownedRanges.any r.meets

/-- Whether a byte of an area belongs to the device. -/
def State.areaOwned (s : State) (package : Bool) (b : Nat) : Bool := s.rangeOwned ⟨package, b, 1⟩

/-- R27: the stream `bytes` is written from byte `off` of an area. The lanes of its last slot that another
instruction's range holds keep their bytes (R402). -/
def State.putArea (s : State) (package : Bool) (off : Nat) (bytes : List Nat) : State :=
  if bytes.isEmpty then s
  else
    (s.putStreamFrom (areaBase package) off bytes).padStream (areaBase package) (off + bytes.length)
      (s.areaOwned package)

end Sys2Proof.Machine
end

