-- ==== Sys2Proof/Machine/Packages.lean ====
section
/-! DEFINITION. Keys and packages: who may sign what, the checks in their order, and the packages the
device makes (R522 to R534, R539). -/

namespace Sys2Proof.Machine

open Reg

/-! ## OTP slots (R522, R523) -/

/-- R523: the state of OTP slot `n`: 0 EMPTY, 1 SET, 2 REVOKED, 3 TORN. -/
def State.otpState (s : State) (n : Nat) : Nat := bitsOf (s.get (SE_SLOTST.ST (n / 12))) (2 * (n % 12)) 2

def State.setOtpState (s : State) (n v : Nat) : State :=
  let f := SE_SLOTST.ST (n / 12)
  let lo := 2 * (n % 12)
  s.set f (s.get f - bitsOf (s.get f) lo 2 * 2 ^ lo + v % 4 * 2 ^ lo)

/-- R27: the first `n` bytes of a byte string held in a row of registers. -/
def State.fieldBytes (s : State) (f : Nat → Field) (n : Nat) : List Nat :=
  (List.range n).map fun b => bitsOf (s.get (f (b / 3))) (8 * (b % 3)) 8

/-- R524: the identity public key. -/
def State.identityKey (s : State) : List Nat := s.fieldBytes SE_IDPUB.KEY 64

def State.vendorHash (s : State) : List Nat := s.fieldBytes SE_VROOT.HASH 32

def State.ownerHash (s : State) (k : Nat) : List Nat := s.fieldBytes (SE_OWN.HASH k) 32

/-- R522: whether owner slot `k` is SET. -/
def State.ownerSet (s : State) (k : Nat) : Bool := s.otpState (3 + k) == 1

/-- R525: the public key of a SET owner, where it agrees with the slot's hash. -/
def State.ownerKey (s : State) (k : Nat) : Option (List Nat) :=
  match sparseFind k s.se.owners with
  | some key => if s.ownerSet k && sha256 key == s.ownerHash k then some key else none
  | none => none

/-! ## The header (R528, R529) -/

def slice (bytes : List Nat) (off n : Nat) : List Nat := (bytes.drop off).take n

def leAt (bytes : List Nat) (off n : Nat) : Nat := littleEndian (slice bytes off n)

def packKind (p : List Nat) : Nat := p.getD 3 0
def packMode (p : List Nat) : Nat := p.getD 4 0
def packSigner (p : List Nat) : Nat := p.getD 5 0
def packLen (p : List Nat) : Nat := leAt p 8 4
def packId (p : List Nat) : Nat := leAt p 12 3
def packSeq (p : List Nat) : Nat := leAt p 24 6
def packChunks (p : List Nat) : Nat := ceilDiv (packLen p) 4096
/-- R528: the package length. -/
def packBytesLen (p : List Nat) : Nat := packLen p + 4 * packChunks p + 400
/-- R528: the bytes before the ciphertext. -/
def packFront (p : List Nat) : Nat := 320 + 4 * packChunks p
def packSignerKey (p : List Nat) : List Nat := slice p 220 64
def packCipher (p : List Nat) : List Nat := slice p (packFront p) (packLen p)

def allZero (l : List Nat) : Bool := l.all (· == 0)

/-- R532, step 1: the form of a header. -/
def headerOk (p : List Nat) : Bool :=
  let kind := packKind p
  let mode := packMode p
  decide (320 ≤ p.length) && leAt p 0 2 == 0xC1C5 && p.getD 2 0 == 1 && decide (1 ≤ kind) && decide (kind ≤ 6) &&
    decide (mode ≤ 3) && decide (packSigner p ≤ 5) && allZero (slice p 6 2) &&
    decide (1 ≤ packLen p) && decide (packLen p ≤ 4194304) && p.getD 15 0 == 0 && allZero (slice p 39 25) &&
    (mode != 0 || (allZero (slice p 64 32) && allZero (slice p 208 12))) &&
    (mode == 1 || mode == 2 || allZero (slice p 96 112)) && allZero (slice p 284 36)

/-- R532, step 2. -/
def State.addressed (s : State) (p : List Nat) : Bool :=
  let target := leAt p 16 8
  let mode := packMode p
  (target == 0 || target == s.uid) && mode != 2 &&
    (mode == 0 || slice p 64 32 == sha256 s.identityKey)

/-- R531: whether this signer may sign this kind in this mode. -/
def kindAllows (p : List Nat) : Bool :=
  let signer := packSigner p
  let mode := packMode p
  match packKind p with
  | 1 => if signer = 5 then mode == 3 else mode == 1
  | 2 => if signer = 5 then mode == 3 else decide (1 ≤ signer) && mode == 1
  | 3 | 5 => decide (1 ≤ signer) && decide (signer ≤ 4) && mode == 1
  | 4 => decide (signer ≤ 4) && mode == 1
  | _ => false

/-- R531: whether the signer's key is the one the device holds a hash of. -/
def State.signerHeld (s : State) (p : List Nat) : Bool :=
  let key := packSignerKey p
  match packSigner p with
  | 0 => s.otpState 2 == 1 && sha256 key == s.vendorHash
  | 5 => key == s.identityKey
  | k => s.ownerSet (k - 1) && sha256 key == s.ownerHash (k - 1)

/-- R532, step 3, for a package of one of `kinds`. -/
def State.signerOk (s : State) (kinds : List Nat) (p : List Nat) : Bool :=
  kinds.contains (packKind p) && kindAllows p && s.signerHeld p

/-! ## Sequence floors (R534) -/

def floorKey (kind signer : Nat) : Nat := 8 * signer + kind

def State.floor (s : State) (kind signer : Nat) : Nat := (sparseFind (floorKey kind signer) s.se.floors).getD 0

/-- R532, step 4. -/
def State.seqOk (s : State) (p : List Nat) : Bool :=
  packSigner p == 5 || decide (s.floor (packKind p) (packSigner p) ≤ packSeq p)

/-- R534: the package is acted on. -/
def State.raiseFloor (s : State) (p : List Nat) : State :=
  if packSigner p = 5 then s
  else
    let key := floorKey (packKind p) (packSigner p)
    let high := max (s.floor (packKind p) (packSigner p)) (packSeq p)
    { s with se := { s.se with floors := sparseStore 0 key high s.se.floors } }

/-! ## Derived keys (R527) -/

def State.sealingKey (s : State) : List Nat := hkdf s.se.root [] (ascii "CL24 seal")
def State.selfKey (s : State) (nonce : List Nat) : List Nat := hkdf s.se.root nonce (ascii "CL24 self")
def wrapKey (shared eph recipient : List Nat) : List Nat := hkdf shared eph (ascii "CL24 wrap" ++ recipient)
def rpmbKey (seed cid : List Nat) : List Nat := hkdf seed cid (ascii "CL24 rpmb")

/-- R530, R532 step 5: the content key. -/
def State.contentKey (s : State) (p : List Nat) : Option (List Nat) :=
  if packMode p = 3 then some (s.selfKey (slice p 208 12))
  else
    match ecdh s.se.identity (slice p 96 64) with
    | none => none
    | some shared =>
        let key := wrapKey shared (slice p 96 64) (slice p 64 32)
        if gcmTag key (zeros 12) (p.take 96) (slice p 160 32) = slice p 192 16 then
          some (gcmCrypt key (zeros 12) (slice p 160 32))
        else none

/-! ## The checks in order (R532, R533) -/

/-- The outcome of the checks: the first failing step's status and result, or the payload. -/
inductive Verdict where
  | refused (status result : Nat)
  | passed (payload : List Nat)
  deriving DecidableEq, Repr

/-- R532, steps 1 to 5, once the header and the CRC table are there; `sized` that the package's length
is as it must be. The status of the first check that fails, if any. -/
def State.packEarly (s : State) (kinds : List Nat) (floors sized : Bool) (p : List Nat) : Option Nat :=
  if !(headerOk p && sized) then some 0xB1
  else if !s.addressed p then some 0xB2
  else if !s.signerOk kinds p then some 0xB3
  else if floors && !s.seqOk p then some 0xB8
  else if (s.contentKey p).isNone then some 0xB5
  else none

/-- R532, step 6: the first of the `n` first chunks whose CRC-32 is not that of the table. -/
def packBadChunk (p : List Nat) (n : Nat) : Option Nat :=
  (List.range n).find? fun k =>
    crc32 (slice p (packFront p + 4096 * k) (min 4096 (packLen p - 4096 * k))) != leAt p (320 + 4 * k) 4

/-- R532, steps 7 and 8. -/
def State.packLate (s : State) (kinds : List Nat) (p : List Nat) : Verdict :=
  let cipher := packCipher p
  let nonce := slice p 208 12
  match s.contentKey p with
  | none => .refused 0xB5 0
  | some key =>
      if gcmTag key nonce (p.take 320) cipher ≠ slice p (packFront p + packLen p) 16 then .refused 0xB6 0
      else if !s.signerOk kinds p then .refused 0xB3 0
      else if !ecdsaVerify (packSignerKey p) (p.take (packBytesLen p - 64)) (slice p (packBytesLen p - 64) 64) then
        .refused 0xB7 0
      else .passed (gcmCrypt key nonce cipher)

/-- R532, steps 1 to 8 on a whole package. -/
def State.verifyPack (s : State) (kinds : List Nat) (floors sized : Bool) (p : List Nat) : Verdict :=
  match s.packEarly kinds floors sized p with
  | some status => .refused status 0
  | none =>
      match packBadChunk p (packChunks p) with
      | some k => .refused 0xB4 k
      | none => s.packLate kinds p

/-! ## Device-made packages (R539, R540) -/

/-- A random scalar. -/
def State.drawScalar (s : State) : Nat × State :=
  let (v, s) := s.draw
  (v % (p256n - 1) + 1, s)

/-- What a device-made package is to be: KIND, ID, SEQ, STAMP, TARGET, and its MODE with the
recipient's public key for MODE 2. -/
structure PackPlan where
  kind : Nat
  id : Nat
  seq : Nat
  stamp : Nat
  target : Nat
  mode : Nat
  recipient : List Nat
  deriving DecidableEq, Repr

/-- R529: a device-made header. -/
def PackPlan.header (q : PackPlan) (len : Nat) (recipient eph wrapped tag nonce key : List Nat) : List Nat :=
  [0xC5, 0xC1, 1, q.kind, q.mode, 5, 0, 0] ++ toLittleEndian 4 len ++ toLittleEndian 3 q.id ++ [0] ++
    toLittleEndian 8 q.target ++ toLittleEndian 6 q.seq ++ toLittleEndian 9 q.stamp ++ zeros 25 ++
    recipient ++ eph ++ wrapped ++ tag ++ nonce ++ key ++ zeros 36

/-- R493: the CRC table of a ciphertext. -/
def crcTable (cipher : List Nat) : List Nat :=
  (pieces 4096 (cipher.length / 4096 + 1) cipher).flatMap fun c => toLittleEndian 4 (crc32 c)

/-- R530, R539: the package of a payload. Its random values are open. -/
def State.makePack (s : State) (q : PackPlan) (payload : List Nat) : List Nat × State :=
  let own := s.identityKey
  let (nonce, s) := if q.mode = 0 then (zeros 12, s) else State.drawBytes 12 s
  let (scalar, s) := s.drawScalar
  let (fresh, s) := State.drawBytes 32 s
  let recipient :=
    if q.mode = 0 then zeros 32 else if q.mode = 3 then sha256 own else sha256 q.recipient
  let eph := if q.mode = 2 then publicKey scalar else zeros 64
  let content := if q.mode = 3 then s.selfKey nonce else fresh
  let wrap := wrapKey ((ecdh scalar q.recipient).getD []) eph recipient
  let wrapped := if q.mode = 2 then gcmCrypt wrap (zeros 12) content else zeros 32
  let front := (q.header payload.length recipient eph wrapped (zeros 16) nonce own).take 96
  let tag := if q.mode = 2 then gcmTag wrap (zeros 12) front wrapped else zeros 16
  let header := q.header payload.length recipient eph wrapped tag nonce own
  let cipher := if q.mode = 0 then payload else gcmCrypt content nonce payload
  let last := if q.mode = 0 then zeros 16 else gcmTag content nonce header cipher
  let body := header ++ crcTable cipher ++ cipher ++ last
  let (k, s) := s.drawScalar
  (body ++ ecdsaSign s.se.identity k body, s)

/-- R528: the length of the package of a payload of `n` bytes. -/
def packLengthOf (n : Nat) : Nat := n + 4 * ceilDiv n 4096 + 400

end Sys2Proof.Machine
end

