-- ==== Sys2Proof/Machine/Params.lean ====
section
/-! DEFINITION. The parameter image: which registers it may name and the ranges their fields have
(R536, R584 to R586). -/

namespace Sys2Proof.Machine

open Reg

/-- R536: the ranges their chapters state for fields with Reset P, where narrower than the field. -/
def paramRanges0 : List (Field × Nat × Nat) :=
  [(TK_RATE.RATE, 1000, 40000), (SH_BWREQ.MBS, 16, 1200), (SH_BWMIN.MBS, 16, 1200),
   (SH_BWMAX.MBS, 16, 1200), (SH_FOLDAT.PERMIL, 1, 1000), (SV_ARMCFG.HYST, 1, 10),
   (SV_ARMCFG.GRACE, 0, 50), (SV_WARN.WARN, 900, 1150), (SV_WINMAX.MS, 1, 1000),
   (FL_BGSHARE.PCT, 0, 50), (FL_PATROL.HOURS, 1, 720), (FL_WEAKPCT.PCT, 25, 90),
   (FL_RETSTALE.DAYS, 1, 365), (FL_ERESV.STRIPES, 1, 31), (FL_LIFEWARN.DAYS, 1, 65535),
   (FL_GEOM0.PLANES, 0, 2), (FL_GEOM0.PAGESZ, 0, 2), (FL_GEOM0.PARITY, 0, 2), (FL_GEOM1.PAGES, 64, 1536),
   (FL_GEOM2.BLOCKS, 256, 8192)]

def paramRanges1 : List (Field × Nat × Nat) :=
  [(PW_WAKE.STATE, 3, 4), (PW_TFAULT.MS, 0, 100), (MN_SCAN.AVG, 0, 4), (MN_SCAN.TICKS, 1, 65535),
   (MN_AUDTOL.TOL, 1, 31), (BT_ICHG.MA, 50, 1000), (BT_VCHG.MV, 3450, 3600), (BT_ITERM.MA, 10, 200),
   (BT_VFLOAT.MV, 3200, 3450), (BT_TCOMP.TC, 0, 50), (BT_VFMIN.MV, 3200, 3450),
   (BT_VFMAX.MV, 3200, 3450), (BT_VFMAN.MV, 3200, 3450), (BT_RNGRET.MA, 10, 290),
   (BT_RNGHYS.N, 1, 255), (BT_BAL.ON, 2, 100)]

def paramRanges2 : List (Field × Nat × Nat) :=
  [(BT_BAL.OFF, 1, 50), (BT_DTOL.PCT, 10, 500), (BT_KEEP.Q, 0, 100000), (BT_VSAVE.MV, 5000, 7200),
   (BT_EFF.PCT, 50, 100), (BT_RCELL.MOHM, 1, 500), (BT_VCUT.MV, 2600, 3000), (BT_VEXH.MV, 2500, 2800),
   (BT_CTIMEOUT.MIN, 30, 1440), (TM_SERVOTC.S, 1, 1024), (TM_TCXOMAX.H, 0, 8760),
   (TM_PPSWID.US, 1, 500000), (SC_CFG.IFSD, 32, 254), (SC_CLKCFG.RUNDIV, 20, 400),
   (SC_CLKCFG.ACTDIV, 80, 400), (SC_XFRTO.S, 1, 600), (SC_DETDB.MS, 10, 500)]

def paramRanges3 : List (Field × Nat × Nat) :=
  [(MC_CFG.RCA, 1, 65535), (MC_CLKCFG.IDDIV, 4000, 16000), (MC_DETDB.MS, 10, 500),
   (MC_XFRTO.MS, 10, 60000), (MC_BUSYTO.MS, 1, 1000), (UA_ABMIN.BPS, 300, 921600),
   (UA_ABMAX.BPS, 300, 921600), (LK_CFG.RATE, 0, 4), (LK_CFG.C, 2, 200), (LK_CFG.TURN, 2, 20),
   (LK_BOMIN.CYC, 1, 1024), (LK_BOMAX.CYC, 1, 1024), (LK_BOMAN.CYC, 1, 1024), (LK_RXTO.CYC, 1, 255),
   (AE_DUTY.PCT, 10, 95), (AE_CLAMP.Q, 1, 2047), (AE_OVLMAX.BYTES, 1024, 524288)]

def paramRanges4 : List (Field × Nat × Nat) :=
  [(FP_TOUCHTHR.CNT, 10, 2000), (FP_ANTITHR.CNT, 10, 2000), (FP_KEYTIME.TOUCHMIN, 60, 1000),
   (FP_KEYTIME.HOLDMAX, 1, 600), (SB_HBCFG.PERIOD, 1, 10000), (SB_HBBOOT.S, 0, 600)] ++
  (List.range 4).map (fun m => (QU_CQIRQ.COUNT m, 0, 1024)) ++
  (List.range 12).map (fun k => (PW_RAIL_B.OFFPCT k, 1, 63)) ++
  (List.range 12).map (fun k => (PW_RAIL_B.OFFTO k, 1, 255)) ++
  (List.range 12).map (fun k => (PW_RAIL_B.TSTART k, 1, 255)) ++
  (List.range 11).map (fun k => (PW_RAIL_A.ISOLATE k, 0, 0)) ++
  (List.range 32).map (fun n => (MN_CH_A.MODE n, 0, 4))

def paramRanges : List (Field × Nat × Nat) :=
  paramRanges0 ++ paramRanges1 ++ paramRanges2 ++ paramRanges3 ++ paramRanges4

/-- R267: LPMODE is S, U or off. -/
def lpmodeOk (f : Field) (v : Nat) : Bool :=
  [0, 3, 4].contains v || !(List.range 32).any fun n => (MN_CH_A.LPMODE n).key == f.key

/-- R536: whether a value lies within field `f`'s range. -/
def paramInRange (f : Field) (v : Nat) : Bool :=
  lpmodeOk f v && match paramRanges.find? fun r => r.1.key == f.key with
  | some (_, lo, hi) => decide (lo ≤ v) && decide (v ≤ hi)
  | none => true

/-- R586: the registers a parameter image may not name. -/
def notInImage (off : Nat) : Bool :=
  off == PW_LATCH.CAUSE.off || off == BT_CAP.Q.off || off == TM_XTOFS.F.off ||
    (decide (0xA400 ≤ off) && decide (off < 0xA600)) || off == LK_ADDR.ADDR.off ||
    (decide ((LK_SLOT.ENTRY 0 0).off ≤ off) && decide (off < 0xEF00)) ||
    [SE_FLOORH.SEQ.off, SE_FLOORL.SEQ.off, SE_SEALSEQH.SEQ.off, SE_SEALSEQL.SEQ.off, SE_CARDST.ENT.off].contains off

/-- R536: whether a record of a parameter image may stand. -/
def paramRecordOk (r : Nat × Nat) : Bool :=
  let off := 4 * r.1
  let fields := (slotFields off).filter (·.param)
  decide (r.1 < 2 ^ 18) && !fields.isEmpty && !notInImage off &&
    (List.range 24).all (fun i =>
      !bitOf r.2 i || fields.any fun fa => decide (fa.field.lo ≤ i) && decide (i < fa.field.lo + fa.field.width)) &&
    fields.all fun fa => paramInRange fa.field (bitsOf r.2 fa.field.lo fa.field.width)

/-- R536: the records of a payload; none where it breaks a rule. -/
def paramRecords (payload : List Nat) : Option (List (Nat × Nat)) :=
  let n := payload.length / 6
  let word := fun (i : Nat) => payload.getD i 0 + payload.getD (i + 1) 0 * 2 ^ 8 + payload.getD (i + 2) 0 * 2 ^ 16
  let records := (List.range n).map fun k => (word (6 * k), word (6 * k + 3))
  if payload.length = 6 * n ∧ n ≤ 8192 ∧ records.all paramRecordOk then some records else none

/-- R268: the fixed settings of VM12 and VM13, which no image changes. -/
def fixedSetting (f : Field) : Bool :=
  [(MN_CH_A.HYS 12).off, (MN_CH_A.HYS 13).off, (MN_CH_B.LO 13).off].contains f.off || f.key == (MN_CH_B.LO 12).key

/-- R585: the records take effect: each P field they name, on the slots `inDomain` admits, in order. -/
def State.applyRecords (s : State) (inDomain : Nat → Bool) : List (Nat × Nat) → State
  | [] => s
  | (i, v) :: rest =>
      let s :=
        if inDomain (4 * i) then
          ((slotFields (4 * i)).filter fun fa => fa.param && !fixedSetting fa.field).foldl
            (fun (s : State) fa => s.set fa.field (bitsOf v fa.field.lo fa.field.width)) s
        else s
      s.applyRecords inDomain rest

end Sys2Proof.Machine
end

