-- ==== Sys2Proof/Machine/Programs.lean ====
section
/-! DEFINITION. The resident program store (R110 to R117): decoding an instruction word, the load
checks, the static worst case, loading and freeing. -/

namespace Sys2Proof.Machine

open Reg Host

/-- R89: the words of the instruction `opcode` with the fields of `op`. -/
def encodeOp (opcode : Nat) (op : Op) : List Nat :=
  (opcode * 2 ^ 18 + op.ext.length * 2 ^ 15 + op.dst * 2 ^ 12 + op.src * 2 ^ 9 + op.imm9) :: op.ext.map (·.toNat)

/-- An instruction of a program: its address, the address after it, its cost and completions, and
what R111 and R112 need of a branch (its target, and whether it is always taken) or a LOOP (its body
start, counter and count). -/
structure ProgInstr where
  addr : Nat
  next : Nat
  cost : Nat
  posts : Nat
  branch : Option (Nat × Bool)
  loop : Option (Int × Nat × Nat)
  deriving DecidableEq, Repr

/-- R115: whether an instruction is legal in a resident program, but for its targets. -/
def residentForm (opcode : Nat) (op : Op) : Bool :=
  if opcode = 0x3F ∨ opcode = 0x0A ∨ opcode = 0x0B ∨ opcode = 0x0D then false
  else if opcode = 0x08 then op.coreForm 0x08 && decide (1 ≤ op.imm9) && decide (op.imm9 ≤ 255)
  else if opcode < 0x10 then op.coreForm opcode
  else true

/-- R94, R104: the worst-case cost of an instruction of a resident program. -/
def progCost (opcode : Nat) (op : Op) : Nat :=
  if opcode < 0x10 then coreCost opcode op.ext.length true else unitCost opcode

/-- R106: whether an instruction posts a completion. -/
def postsCompletion (opcode : Nat) : Bool := decide (0x10 ≤ opcode) || opcode == 0x0C || opcode == 0x0D

def progInstr (addr w : Nat) (ext : List Nat) : ProgInstr :=
  let op := decodeOp 0 w ext
  let c := opcodeOf w
  { addr := addr, next := addr + 1 + ext.length, cost := progCost c op,
    posts := boolNat (postsCompletion c),
    branch := if c = 0x08 then some (addr + op.imm9, op.dst == 0) else none,
    loop := if c = 0x09 then some ((addr : Int) + imm9Signed op.imm9, op.dst, op.word 1) else none }

/-- R111: the instructions of a program decoded from `addr`, none where one does not lie wholly
inside it or is not legal in a resident program. -/
def decodeProgram : Nat → Nat → List Nat → Option (List ProgInstr)
  | _, _, [] => some []
  | 0, _, _ => none
  | fuel + 1, addr, w :: rest =>
      let n := extOf w
      if rest.length < n then none
      else
        let ext := rest.take n
        if residentForm (opcodeOf w) (decodeOp 0 w ext) then
          (decodeProgram fuel (addr + 1 + n) (rest.drop n)).map (progInstr addr w ext :: ·)
        else none

/-- R111: a construct: its body start, its LOOP's address and its counter. -/
def constructs (p : List ProgInstr) : List (Int × Nat × Nat) :=
  p.filterMap fun i => i.loop.map fun (s, k, _) => (s, i.addr, k)

/-- R111: two constructs are disjoint, or nested with different counters. -/
def constructsAgree (a b : Int × Nat × Nat) : Bool :=
  let (s1, p1, k1) := a
  let (s2, p2, k2) := b
  p1 == p2 || decide ((p1 : Int) < s2) || decide ((p2 : Int) < s1) ||
    (decide (s1 ≤ s2) && decide (p2 < p1) && k1 != k2) ||
    (decide (s2 ≤ s1) && decide (p1 < p2) && k1 != k2)

/-- R111: a branch at `b` to `t` against one construct. -/
def branchAgrees (b t : Nat) (c : Int × Nat × Nat) : Bool :=
  let (s, p, _) := c
  if decide (s ≤ (b : Int)) && decide (b ≤ p) then decide (t ≤ p)
  else !(decide (s < (t : Int)) && decide (t ≤ p))

/-- R111, check 2. -/
def structureOk (addr last : Nat) (p : List ProgInstr) : Bool :=
  let starts := p.map (·.addr)
  let cs := constructs p
  p.all (fun i =>
    (match i.branch with
     | some (t, _) => (starts.contains t || t == last) && cs.all (branchAgrees i.addr t)
     | none => true) &&
    (match i.loop with
     | some (s, _, _) => decide ((addr : Int) ≤ s) && starts.any (fun a => decide ((a : Int) = s))
     | none => true)) &&
  cs.all (fun a => cs.all (constructsAgree a))

/-- R112: the largest cost from word `a` until control first reaches word `e`, with `is` the
instructions still to be taken, last first, and `w` the costs found. -/
def worstFrom (cost : ProgInstr → Nat) (p : List ProgInstr) :
    Nat → Nat → Nat → List ProgInstr → Sparse Nat → Nat
  | 0, _, _, _, _ => 0
  | _ + 1, a, _, [], w => (sparseFind a w).getD 0 % 2 ^ 32
  | fuel + 1, a, e, i :: rest, w =>
      if e ≤ i.addr then worstFrom cost p fuel a e rest w
      else if i.addr < a then (sparseFind a w).getD 0 % 2 ^ 32
      else
        let after := (sparseFind i.next w).getD 0
        match i.loop with
        | some (s, _, count) =>
            let body := s.toNat
            let inner := worstFrom cost p fuel body i.addr p [(i.addr, 0)]
            worstFrom cost p fuel a e (rest.dropWhile fun j => decide (body ≤ j.addr))
              (sparsePut body (count * (inner + cost i) + after) w)
        | none =>
            match i.branch with
            | some (t, always) =>
                let far := (sparseFind t w).getD 0
                worstFrom cost p fuel a e rest
                  (sparsePut i.addr (cost i + if always then far else max after far) w)
            | none => worstFrom cost p fuel a e rest (sparsePut i.addr (cost i + after) w)

/-- R112: the static worst case of a program at `addr` of `len` words. -/
def staticWorst (addr len : Nat) (p : List ProgInstr) : Nat :=
  worstFrom (·.cost) p.reverse (5 * (p.length + 2)) addr (addr + len) p.reverse [(addr + len, 0)]

/-- R112: the maximum number of completions of one run. -/
def staticPosts (addr len : Nat) (p : List ProgInstr) : Nat :=
  worstFrom (·.posts) p.reverse (5 * (p.length + 2)) addr (addr + len) p.reverse [(addr + len, 0)]

/-- R110: the lowest free descriptor. -/
def State.freeDescriptor (s : State) : Option Nat :=
  (List.range 32).find? fun k => !s.flag (SY_PG_A.VALID k)

/-- R111, check 1. -/
def State.placementOk (s : State) (w0 w1 : Nat) : Bool :=
  let addr := w0 % 2 ^ 14
  let len := w1 % 2 ^ 15
  decide (1 ≤ len) && decide (len ≤ 16384) && decide (addr + len ≤ 16384) &&
    decide (w0 / 2 ^ 18 = 0) && decide (w1 / 2 ^ 15 = 0) && s.freeDescriptor.isSome &&
    (List.range 32).all fun k =>
      !(s.flag (SY_PG_A.VALID k) &&
        spansMeet addr len (s.get (SY_PG_A.ADDR k)) (s.get (SY_PG_B.LEN k)))

/-- R111: the share a load is checked against. -/
def State.loadShare (s : State) (r : Nat) : Nat := min (s.ring r).share (s.shareCycles r)

/-- R111: the words of a loaded program in the store. -/
def storeWords (addr : Nat) : List Nat → Sparse Nat → Sparse Nat
  | [], m => m
  | w :: ws, m => storeWords (addr + 1) ws (sparseStore 0 addr (w % 2 ^ 24) m)

/-- R111, R117: a refused load. Word 7 of PROG_REFUSED keeps the low 24 bits of a worst case beyond 24 bits, where
R117 gives neither a hold nor a wrap (assumption log 109). -/
def State.refuseProgram (s : State) (status addr wcost : Nat) : State × Nat :=
  ((s.set SY_PGLAST.STATUS status).raise 0x003 status addr wcost, status)

/-- R111: a command-program payload (its two header words, then the program) is checked and placed.
Answers the state and the status: 0x01, or 0x14 to 0x17. -/
def loadProgram (payload : List Nat) (s : State) : State × Nat :=
  let w0 := payload.getD 0 0
  let w1 := payload.getD 1 0
  let ring := bitsOf w0 14 4
  let addr := w0 % 2 ^ 14
  let len := w1 % 2 ^ 15
  let words := (payload.drop 2).take len
  if !s.placementOk w0 w1 then s.refuseProgram 0x14 addr 0
  else
    match decodeProgram len addr words with
    | none => s.refuseProgram 0x15 addr 0
    | some p =>
        if !structureOk addr (addr + len) p then s.refuseProgram 0x15 addr 0
        else
          let wcost := staticWorst addr len p
          let posts := staticPosts addr len p
          if s.loadShare ring < wcost then s.refuseProgram 0x16 addr wcost
          else if 256 < posts then s.refuseProgram 0x17 addr wcost
          else
            match s.freeDescriptor with
            | none => s.refuseProgram 0x14 addr 0
            | some k =>
                let s := { s with store := storeWords addr words s.store }
                let s := ((s.set (SY_PG_A.VALID k) 1).set (SY_PG_A.BOUND k) 0).set (SY_PG_A.RING k) ring
                let s := (s.set (SY_PG_A.ADDR k) addr).set (SY_PG_B.LEN k) len
                let s := (s.set (SY_PG_C.WCOST k) wcost).set (SY_PG_D.POSTS k) posts
                let s := s.set SY_PGSPACE.FREE (s.get SY_PGSPACE.FREE - len)
                let s := (s.set SY_PGLAST.STATUS 0x01).set SY_PGLAST.PROG k
                (s.raise 0x001 k addr wcost, 0x01)

/-- R114: a write of SY_PGFREE; none where it is ignored under R7. -/
def pgfreeWrite (w : Writer) (k : Nat) (s : State) : Option State :=
  if w = Writer.host ∧ k < 32 ∧ s.flag (SY_PG_A.VALID k) = true ∧ s.flag (SY_PG_A.BOUND k) = false then
    let addr := s.get (SY_PG_A.ADDR k)
    let len := s.get (SY_PG_B.LEN k)
    let s := { s with store := s.store.filter fun e => !(decide (addr ≤ e.1) && decide (e.1 < addr + len)) }
    let s := ((s.set (SY_PG_A.VALID k) 0).set (SY_PG_A.RING k) 0).set (SY_PG_A.ADDR k) 0
    let s := ((s.set (SY_PG_B.LEN k) 0).set (SY_PG_C.WCOST k) 0).set (SY_PG_D.POSTS k) 0
    let s := s.set SY_PGSPACE.FREE (s.get SY_PGSPACE.FREE + len)
    some (s.raise 0x002 k addr len)
  else none

/-- R10: a write of SY_VIOLCLR; none where the writer may not. -/
def violclrWrite (w : Writer) (v : Nat) (s : State) : Option State :=
  match w with
  | .ring _ => none
  | _ =>
      if v % 2 = 1 then some ((s.set SY_VIOLATIONS.COUNT 0).set SY_LASTVIOL.LAST 0) else some s

/-- A write of value `v` to the system unit's slot at offset `o`. -/
def syWrite (w : Writer) (o v m : Nat) (s : State) : Option State :=
  if o = 0x028 then violclrWrite w v s
  else if o = 0x040 then pgfreeWrite w (v % 32) s
  else s.plainWrite w o v m

def execProgramFree (w : Writer) (prog : Nat) (s : State) : Outcome State Fault Refusal :=
  .next (s.rowWrite w 0x40 (pgfreeWrite w prog s))

/-- R10: a write of 1 to SY_VIOLCLR.CLEAR. -/
def execViolationClear (w : Writer) (s : State) : Outcome State Fault Refusal :=
  .next (s.rowWrite w 0x28 (violclrWrite w 1 s))

end Sys2Proof.Machine
end

