-- ==== Sys2Proof/Machine/Security.lean ====
section
/-! DEFINITION. The security instructions (R525, R526, R535 to R547). -/

namespace Sys2Proof.Machine

open Reg Host

def State.setSe (s : State) (x : Security) : State := { s with se := x }

/-- R535, R547: a refusal by the checks. KIND is 0 where the header was refused. -/
def State.seRefused (s : State) (opcode status kind : Nat) : State :=
  let kind := if status = 0xB1 then 0 else kind
  let s := ((s.set SE_LASTFAIL.STATUS status).set SE_LASTFAIL.OPCODE opcode).set SE_LASTFAIL.KIND kind
  (s.add SE_FAILS.COUNT 1).raise 0x882 status kind opcode

/-- A refusal that an instruction of the security unit completes with. -/
def State.seFail (s : State) (ref : OpRef) (status result : Nat) (p : List Nat) : State :=
  (s.seRefused ref.opcode status (packKind p)).post ref status result

/-! ## Admission (R541, R543, R544) -/

/-- R541: a security instruction is queued. -/
def State.seQueue (s : State) (ref : OpRef) (work : SeWork) (ranges : List StageRange) : State :=
  if 4 ≤ s.se.queue.length then s.post ref 0xBF 0
  else s.setSe { s.se with queue := s.se.queue ++ [⟨ref, work, ranges⟩] }

/-- The bytes of the package at byte `off` of package staging, as far as its header says. -/
def State.stagedPack (s : State) (off : Nat) : List Nat :=
  let room := pkgStagingBytes - off
  let front := s.areaStream true off (min 320 room)
  if headerOk front then s.areaStream true off (min room (packBytesLen front)) else front

/-- R532, step 1: the package lies wholly inside its staging area. -/
def packInside (off : Nat) (p : List Nat) : Bool := decide (off + packBytesLen p ≤ pkgStagingBytes)

def sePackage (opcode : Nat) (work : Nat → SeWork) (op : Op) (s : State) : State :=
  s.issue op opcode (unitCost opcode) fun s ref =>
    let off := op.word 1
    s.judge ref (op.ext.length == 1) (op.dst == 0 && op.src == 0 && op.imm9 == 0 && off / 2 ^ 17 == 0)
      (decide (off < pkgStagingBytes)) (s.powerIn [standby, active, quiet, maint]) true 0xB0 fun s =>
        s.seQueue ref (work off) [⟨true, off, (s.stagedPack off).length⟩]

def severify (op : Op) (s : State) : State := sePackage 0x38 .verify op s
def seopen (op : Op) (s : State) : State := sePackage 0x39 .openPack op s

def seseal (op : Op) (s : State) : State :=
  s.issue op 0x3A (unitCost 0x3A) fun s ref =>
    let soff := op.word 2
    let len := op.word 3
    let doff := op.word 4
    let owner := op.src % 4
    s.judge ref (op.ext.length == 4)
      (op.src / 4 == 0 && (op.dst == 2 || owner == 0) && op.imm9 == 0 && soff / 2 ^ 16 == 0 &&
        len / 2 ^ 16 == 0 && doff / 2 ^ 17 == 0)
      (decide (soff < genStagingBytes) && decide (doff < pkgStagingBytes) &&
        (decide (36864 < len) || decide (soff + len ≤ genStagingBytes)))
      (s.powerIn [standby, active, quiet, maint])
      ((op.dst == 0 || op.dst == 2) && decide (1 ≤ len) && decide (len ≤ 36864)) 0xB0 fun s =>
        s.seQueue ref (.sealed op.dst owner (op.word 1) soff len doff s.now (s.get TM_STATUS.QUAL))
          [⟨false, soff, len⟩, ⟨true, doff, min (packLengthOf len) (pkgStagingBytes - doff)⟩]

/-- R543: the legality of SEKEY by ACTION; an ACTION outside its list has no condition of its own
(R655). -/
def State.sekeyLegal (s : State) (action entry : Nat) : Bool :=
  match action with
  | 1 => s.mcState == mcIdle && bitOf (s.get SE_CARDST.ENT) entry
  | 3 | 4 => s.power == maint
  | _ => true

def sekey (op : Op) (s : State) : State :=
  s.issue op 0x3B (unitCost 0x3B) fun s ref =>
    let action := op.dst
    let owner := action == 3 || action == 4
    let entry := op.imm9 % 8
    let off := op.word 1
    let listed := decide (1 ≤ action) && decide (action ≤ 4)
    s.judge ref (op.ext.length == boolNat owner || (!listed && op.ext.length == 1))
      (op.src == 0 && op.imm9 / 8 == 0 && (action == 1 || !listed || op.imm9 == 0) && (!owner || off / 2 ^ 17 == 0))
      (!owner || decide (off + 224 ≤ pkgStagingBytes)) (s.sekeyLegal action entry)
      (decide (1 ≤ action) && decide (action ≤ 4)) 0xB0 fun s =>
        if action = 1 then s.seQueue ref (.rpmb entry) []
        else if action = 2 then s.seQueue ref .rpmbClear []
        else s.seQueue ref (.owner (action - 2) off) [⟨true, off, 224⟩]

/-! ## Opening (R535 to R537) -/

/-- R584: the older copy is written, with a sequence number above the newer one's. -/
def State.writeParams (s : State) (records : List (Nat × Nat)) : State :=
  let seqOf := fun (c : Option ParamCopy) => (c.map (·.seq + 1)).getD 0
  let a := seqOf (s.se.copies.getD 0 none)
  let b := seqOf (s.se.copies.getD 1 none)
  let fresh : Option ParamCopy := some ⟨max a b, records, true⟩
  let copies := if a ≤ b then [fresh, s.se.copies.getD 1 none] else [s.se.copies.getD 0 none, fresh]
  s.setSe { s.se with copies := copies }

/-- R534, R535: a package has been acted on. -/
def State.seOpened (s : State) (p : List Nat) : State :=
  ((s.raiseFloor p).add SE_OPENS.COUNT 1).raise 0x881 (packKind p) (packId p) (packSeq p)

/-- R537: whether a card key payload has its form. -/
def cardKeyOk (payload : List Nat) : Bool :=
  payload.length == 48 && decide (payload.getD 0 0 < 8) && allZero (slice payload 1 7)

/-- R535: the action for a package that has passed its checks. -/
def State.actOn (s : State) (ref : OpRef) (p payload : List Nat) : State :=
  match packKind p with
  | 3 =>
      let words := (pieces 3 (payload.length / 3 + 1) payload).map littleEndian
      if payload.length = 3 * (2 + words.getD 1 0 % 2 ^ 15) then
        let (s, status) := loadProgram words s
        if status = 0x01 then (s.seOpened p).post ref 0x01 (s.get SY_PGLAST.PROG)
        else s.seFail ref status 0 p
      else s.seFail ref 0xB9 0 p
  | 4 =>
      match paramRecords payload with
      | some records => ((s.writeParams records).seOpened p).post ref 0x01 records.length
      | none => s.seFail ref 0xB9 0 p
  | _ =>
      if cardKeyOk payload then
        let entry := payload.getD 0 0
        let s := s.setSe { s.se with cards := sparsePut entry (payload.drop 8) s.se.cards }
        let s := s.setMaskBit SE_CARDST.ENT entry true
        ((s.seOpened p).raise 0x885 entry 0 0).post ref 0x01 entry
      else s.seFail ref 0xB9 0 p

def allKinds : List Nat := [1, 2, 3, 4, 5]

def seVerifyDone (ref : OpRef) (off : Nat) (s : State) : State :=
  let p := s.stagedPack off
  match s.verifyPack allKinds true (packInside off p) p with
  | .refused status result => s.seFail ref status result p
  | .passed _ => s.post ref 0x01 (packKind p * 2 ^ 21 + packBytesLen p)

def seOpenDone (ref : OpRef) (off : Nat) (s : State) : State :=
  let p := s.stagedPack off
  let sized := packInside off p
  if headerOk p && sized && packKind p == 4 && s.power != maint then
    (s.violate (instrViolation ref.ring ref.opcode)).post ref 0x00 0
  else if headerOk p && sized && s.addressed p && s.signerOk allKinds p && decide (packKind p ≤ 2) then
    s.seFail ref 0xBA 0 p
  else
    match s.verifyPack allKinds true sized p with
    | .refused status result => s.seFail ref status result p
    | .passed payload => s.actOn ref p payload

/-! ## Sealed records (R540) -/

/-- R529: TARGET, and where no rule gives it the STAMP, of a device-made package: either of the forms the
header allows (assumption log 28). -/
def State.drawTarget (s : State) : Nat × State :=
  let (v, s) := s.draw
  (if v % 2 = 0 then 0 else s.uid, s)

def seSealDone (ref : OpRef) (mode owner id soff len doff time qual : Nat) (s : State) : State :=
  let key := if mode = 2 then s.ownerKey owner else some []
  match key with
  | none => s.post ref 0xB3 0
  | some key =>
      let total := packLengthOf len
      if pkgStagingBytes < doff + total then s.post ref 0xBD 0
      else
        let seq := s.getPair SE_SEALSEQH.SEQ SE_SEALSEQL.SEQ
        let (target, s) := s.drawTarget
        let plan : PackPlan := ⟨6, id, seq, stampValue time qual, target, mode, key⟩
        let (pack, s) := s.makePack plan (s.areaStream false soff len)
        let s := (s.putArea true doff pack).setPair SE_SEALSEQH.SEQ SE_SEALSEQL.SEQ (seq + 1)
        (s.raise 0x886 6 total seq).post ref 0x01 total

/-! ## Card keys (R538) -/

def seRpmbDone (ref : OpRef) (entry : Nat) (s : State) : State :=
  let seed := ((sparseFind entry s.se.cards).getD []).drop 8
  let s :=
    if s.mcState = mcInactive ∨ s.mcState = mcDeactivating then s
    else
      let s := s.setMc { s.mc with key := some (rpmbKey seed s.mc.cid) }
      (s.set SE_RPMBST.LOADED 1).set SE_RPMBST.ENTRY entry
  s.post ref 0x01 0

def seRpmbClearDone (ref : OpRef) (s : State) : State :=
  let s := s.setMc { s.mc with key := none }
  ((s.set SE_RPMBST.LOADED 0).set SE_RPMBST.ENTRY 0).post ref 0x01 0

/-! ## Owners (R525, R526) -/

/-- R525: the form a statement of either action has. -/
def State.statementForm (s : State) (action : Nat) (t : List Nat) : Bool :=
  leAt t 0 2 == 0xC1C9 && t.getD 2 0 == action && decide (t.getD 3 0 ≤ 3) && allZero (slice t 5 3) &&
    bigEndian (slice t 8 8) == s.uid && allZero (slice t 16 16)

/-- R525: the authorising owner's slot is SET, its key is the one given, and its signature verifies. -/
def State.authorised (s : State) (t : List Nat) : Bool :=
  let auth := t.getD 4 0
  let key := slice t 96 64
  decide (auth ≤ 3) && s.ownerSet auth && sha256 key == s.ownerHash auth &&
    ecdsaVerify key (t.take 160) (slice t 160 64)

/-- R525, R526: whether a statement is accepted. -/
def State.statementOk (s : State) (action : Nat) (t : List Nat) : Bool :=
  let slot := t.getD 3 0
  let auth := t.getD 4 0
  s.statementForm action t &&
    (if action = 1 then
      s.otpState (3 + slot) == 0 &&
        (((List.range 4).all (fun k => s.otpState (3 + k) == 0) && auth == 0xFF && allZero (slice t 96 128)) ||
          s.authorised t)
    else
      auth != slot && s.authorised t && s.ownerSet slot && allZero (slice t 32 64))

/-- R525: owner slot `slot` is burnt with the hash of `key`. -/
def State.burnOwner (s : State) (slot : Nat) (key : List Nat) : State :=
  let words := packBytes (sha256 key)
  let s := (List.range 11).foldl (fun (s : State) i => s.set (SE_OWN.HASH slot i) (words.getD i 0)) s
  (s.setOtpState (3 + slot) 1).setSe { s.se with owners := sparsePut slot key s.se.owners }

/-- R526, R539: owner slot `slot` is revoked. -/
def State.burnRevoke (s : State) (slot : Nat) : State :=
  let s := (s.setOtpState (3 + slot) 2).setOtpState 7 1
  s.when (s.get SE_EXPCFG.OWNER == slot) (·.set SE_EXPCFG.VALID 0)

def seOwnerDone (ref : OpRef) (action off : Nat) (s : State) : State :=
  let t := s.areaStream true off 224
  let slot := t.getD 3 0
  if s.statementOk action t then
    if action = 1 then
      ((s.burnOwner slot (slice t 32 64)).raise 0x883 slot (t.getD 4 0) 0).post ref 0x01 slot
    else ((s.burnRevoke slot).raise 0x884 slot (t.getD 4 0) 0).post ref 0x01 slot
  else s.post ref 0xBB 0

/-! ## Service and freeze (R541, R542) -/

/-- The running instruction does its work and completes. -/
def SeJob.finish (j : SeJob) (s : State) : State :=
  match j.work with
  | .verify off => seVerifyDone j.ref off s
  | .openPack off => seOpenDone j.ref off s
  | .sealed mode owner id soff len doff time qual => seSealDone j.ref mode owner id soff len doff time qual s
  | .rpmb entry => seRpmbDone j.ref entry s
  | .rpmbClear => seRpmbClearDone j.ref s
  | .owner action off => seOwnerDone j.ref action off s

/-- R541: the running instruction completes. -/
def seDone (s : State) : State :=
  match s.se.queue with
  | [] => s
  | j :: rest => j.finish (s.setSe { s.se with queue := rest })

/-- R542: whether the running instruction is one whose burn is accepted. Whether that burn has begun is
open (assumption log 29). -/
def State.seBurns (s : State) (j : SeJob) : Bool :=
  match j.work with
  | .owner action off => s.statementOk action (s.areaStream true off 224)
  | _ => false

/-- R542: the Pavane freeze. A burn that has begun runs to its end. -/
def State.seFreeze (s : State) : State :=
  match s.se.queue with
  | [] => s
  | j :: rest =>
      let (v, s) := if s.seBurns j then s.draw else (0, s)
      let begun := v % 2 == 1
      let s := s.setSe { s.se with queue := if begun then [j] else [] }
      s.postAll ((if begun then [] else [(j.ref, 0xBE, 0)]) ++ rest.map fun k => (k.ref, 0x03, 0))

/-- R542: VDD_AON is lost: a burn that has begun leaves its slot TORN. -/
def State.seTear (s : State) : State :=
  match s.se.queue with
  | [] => s
  | j :: _ =>
      let (v, s) := if s.seBurns j then s.draw else (0, s)
      match j.work with
      | .owner 1 off =>
          let slot := 3 + s.streamByte pkgStaging (off + 3)
          if v % 2 = 1 then (s.setOtpState slot 3).setSe { s.se with torn := s.se.torn ++ [slot] } else s
      | _ => s

/-! ## Registers -/

/-- R546: SE_STATUS as it reads. -/
def State.seStatus (s : State) : Nat := boolNat (!s.se.queue.isEmpty) * 8 + s.se.queue.length

/-- R546: the floor SE_FLSEL names. -/
def State.selectedFloor (s : State) : Nat :=
  let kind := s.get SE_FLSEL.KIND
  let signer := s.get SE_FLSEL.SIGNER
  if 1 ≤ kind ∧ kind ≤ 5 ∧ signer ≤ 4 then s.floor kind signer else 0

/-- R539, R543: a write of SE_EXPCFG; none where it is ignored under R7. -/
def expcfgWrite (w : Writer) (owner : Nat) (s : State) : Option State :=
  if w = Writer.host ∧ s.ownerSet (owner % 4) = true then
    some ((s.set SE_EXPCFG.OWNER owner).set SE_EXPCFG.VALID 1)
  else none

/-- A write of value `v` to the security block's slot at block offset `o`. -/
def seWrite (w : Writer) (o v m : Nat) (s : State) : Option State :=
  if o = 0x010 then expcfgWrite w (v % 4) s else s.plainWrite w (0x11000 + o) v m

def execSeverify (op : Op) (s : State) : Outcome State Fault Refusal := .next (severify op s)
def execSeopen (op : Op) (s : State) : Outcome State Fault Refusal := .next (seopen op s)
def execSeseal (op : Op) (s : State) : Outcome State Fault Refusal := .next (seseal op s)
def execSekeyRpmb (op : Op) (s : State) : Outcome State Fault Refusal := .next (sekey { op with dst := 1 } s)
def execSekeyRpmbclear (op : Op) (s : State) : Outcome State Fault Refusal := .next (sekey { op with dst := 2 } s)
def execSekeyOwnerset (op : Op) (s : State) : Outcome State Fault Refusal := .next (sekey { op with dst := 3 } s)
def execSekeyOwnerrevoke (op : Op) (s : State) : Outcome State Fault Refusal := .next (sekey { op with dst := 4 } s)
def execExportOwnerWrite (w : Writer) (owner : Nat) (s : State) : Outcome State Fault Refusal :=
  .next (s.rowWrite w 0x11010 (expcfgWrite w owner s))

end Sys2Proof.Machine
end

