-- ==== Sys2Proof/Machine/Analytics.lean ====
section
/-! DEFINITION. The analytics engine: loads, ingest windows, jobs and adaptation (R453 to R478, R506 to
R521). -/

namespace Sys2Proof.Machine

open Reg Host

def State.setAe (s : State) (x : Analytics) : State := { s with ae := x }

/-- R477: LOADING, RUNNING, PLANNING and AE_JOBQ. -/
def State.aeShow (s : State) : State :=
  let head := s.ae.jobs.head?
  let planned := (head.map fun j => j.plan.isSome).getD false
  let s := s.setFlag AE_STATUS.LOADING s.ae.load.isSome
  let s := (s.setFlag AE_STATUS.RUNNING planned).setFlag AE_STATUS.PLANNING (head.isSome && !planned)
  s.set AE_JOBQ.N s.ae.jobs.length

def State.setJobs (s : State) (jobs : List AeJob) : State := (s.setAe { s.ae with jobs := jobs }).aeShow

def State.setLoad (s : State) (l : Option AeLoad) : State := (s.setAe { s.ae with load := l }).aeShow

/-- R468: PAUSED as it reads. -/
def State.aePaused (s : State) : Bool := s.flag AE_STATUS.RUNNING && !s.powerIn [active, maint]

/-- R468: AE_SLICECYC as it reads. -/
def State.sliceCycles (s : State) : Nat := s.get TK_CYCLES.CYCLES * s.get AE_DUTY.PCT / 100

/-- The base's layers. -/
def State.layers (s : State) : List Layer := layersOf s.ae.base

def State.layer0 (s : State) : Layer := layerAt s.ae.base 0

/-- R506: the adapted layer. -/
def State.lastIndex (s : State) : Nat := imageLayers s.ae.base - 1
def State.lastLayer (s : State) : Layer := layerAt s.ae.base s.lastIndex

def State.aeOpen (s : State) : Bool := s.ae.load.isSome

/-! ## Loading (R460, R461, R494) -/

/-- R460: Tarn, or the overlay area, becomes invalid. -/
def State.dropOverlay (s : State) : State :=
  let s := s.setAe { s.ae with overlay := [], overlayPack := [], made := false }
  ((s.set AE_STATUS.OVERLAY 0).set AE_OVLID.ID 0).set AE_OVLUSED.BYTES 0

def State.dropModel (s : State) : State :=
  let s := s.dropOverlay
  let s := s.setAe { s.ae with base := [], basePack := [] }
  (((s.set AE_STATUS.MODEL 0).set AE_MODELID.ID 0).set AE_TARNUSED.BYTES 0).set AE_SCRNEED.BYTES 0

/-- R460: the memory a load of `kind` fills becomes invalid. -/
def State.dropKind (s : State) (kind : Nat) : State := if kind = 1 then s.dropModel else s.dropOverlay

/-- R460: a load closes with the memory invalid; `status` is what AE_LOADFAIL names. -/
def State.closeLoad (s : State) (status : Nat) : State :=
  match s.ae.load with
  | none => s
  | some l => (((s.dropKind l.kind).setLoad none).set AE_LOADBYTES.BYTES 0).raise 0x782 l.kind status l.bytes.length

/-- R460: the security unit refuses the load. -/
def State.loadRefused (s : State) (ref : OpRef) (status : Nat) (p : List Nat) : State :=
  (s.oneCycle fun s => (s.seRefused ref.opcode status (packKind p)).closeLoad 0x9B).post ref 0x9B status

def State.loadBegin (s : State) (ref : OpRef) (kind total : Nat) : State :=
  (((s.dropKind kind).setLoad (some ⟨kind, total, [], false, none⟩)).set AE_LOADBYTES.BYTES 0).post ref 0x01 0

/-- R533: the checks that the bytes taken so far allow. -/
def State.loadChecks (s : State) (l : AeLoad) : Option Nat :=
  let p := l.bytes
  let front := decide (320 ≤ p.length) && decide (packFront p ≤ p.length)
  if !front && p.length != l.total then none
  else
    let early := if l.checked then none else s.packEarly [l.kind] true (packBytesLen p == l.total) p
    match early with
    | some status => some status
    | none =>
        let have_ := p.length - packFront p
        let n := if packLen p ≤ have_ then packChunks p else have_ / 4096
        (packBadChunk p n).map fun _ => 0xB4

def State.loadChunk (s : State) (ref : OpRef) (l : AeLoad) (off len : Nat) : State :=
  let l := { l with bytes := l.bytes ++ s.areaStream true off len }
  let s := (s.setLoad (some l)).set AE_LOADBYTES.BYTES l.bytes.length
  match s.loadChecks l with
  | some status => s.loadRefused ref status l.bytes
  | none =>
      let front := decide (320 ≤ l.bytes.length) && decide (packFront l.bytes ≤ l.bytes.length)
      (s.setLoad (some { l with checked := l.checked || front })).post ref 0x01 l.bytes.length

/-- R458, R459, R489: the status an image of `kind` fails with. -/
def State.imageStatus (s : State) (kind : Nat) (img : List Nat) : Option Nat :=
  if kind = 1 then
    if !imageFormOk img then some 0x91
    else if !imageSizeOk img ||
        decide (1048576 < scratchNeed (layersOf img) + s.get AE_SCRFRAMES.BYTES) then some 0x92
    else none
  else if le img 0 2 ≠ 0xC1B3 then some 0x91
  else if 524288 < img.length then some 0x92
  else if overlayBase img ≠ s.get AE_MODELID.ID then some 0x93
  else if !overlayFormOk s.layers img then some 0x91
  else none

def State.loadEnd (s : State) (ref : OpRef) (l : AeLoad) : State :=
  match s.packLate [l.kind] l.bytes with
  | .refused status _ => s.loadRefused ref status l.bytes
  | .passed img =>
      match s.imageStatus l.kind img with
      | some status => (s.closeLoad status).post ref status 0
      | none =>
          let ae := if l.kind = 1 then { s.ae with base := img } else { s.ae with overlay := img }
          (s.setAe ae).setLoad (some { l with ending := some ref })

/-- A base image in Tarn is in force. -/
def State.showModel (s : State) : State :=
  let s := ((s.set AE_STATUS.MODEL 1).set AE_MODELID.ID (imageId s.ae.base)).set AE_TARNUSED.BYTES s.ae.base.length
  s.set AE_SCRNEED.BYTES (scratchNeed s.layers)

/-- An overlay image is in force. -/
def State.showOverlay (s : State) : State :=
  ((s.set AE_STATUS.OVERLAY 1).set AE_OVLID.ID (overlayId s.ae.overlay)).set AE_OVLUSED.BYTES s.ae.overlay.length

/-- R216, R461: copy `i` of the model set, where it can be read; its logical pages count from `i` times 2^20 (assumption
log 99). -/
def State.modelCopy (s : State) (i : Nat) : Option ModelCopy :=
  if s.fl.lost.any fun e => e.1 == 8 && e.2 / 2 ^ 20 == i then none else s.fl.models.getD i none

/-- R216: copy `i` of the model set is read: each of its codewords known to be uncorrectable is so again, after three
retry reads. What a read meets for the first time the flash commands report (assumption log 99). -/
def State.readModels (s : State) (i : Nat) : State :=
  let lost := s.fl.lost.filter fun e => e.1 == 8 && e.2 / 2 ^ 20 == i
  lost.foldl (fun (s : State) e => s.codewordRead 3 ⟨0, 8, e.2, 0, 3, false⟩) s

/-- R461: the place in the order of a copy, 0 where there is none. -/
def State.copyOrder (s : State) (i : Nat) : Nat :=
  match s.fl.models.getD i none with
  | some c => c.order
  | none => 0

/-- R461: the copy that holds the newest set, where any does. -/
def State.newestCopy (s : State) : Option Nat :=
  if s.copyOrder 0 = 0 ∧ s.copyOrder 1 = 0 then none
  else if s.copyOrder 1 < s.copyOrder 0 then some 0 else some 1

/-- R219, R461: the model set is written to free stripes, over the copy that does not hold the newest one; none where
the store has too few. -/
def State.writeCopy (s : State) : Option State :=
  let i := if s.newestCopy = some 0 then 1 else 0
  let fresh : ModelCopy := ⟨max (s.copyOrder 0) (s.copyOrder 1) + 1, s.ae.basePack, s.ae.overlayPack⟩
  let bytes := s.ae.basePack ++ s.ae.overlayPack
  let n := ceilDiv bytes.length 4096
  if s.flag FL_STATUS.READY then
    ((s.dropUse (.model i)).takeStripes (.model i) (s.stripesFor n)).map fun t =>
      let t := t.setFl { t.fl with
        models := t.fl.models.set i (some fresh)
        lost := t.fl.lost.filter fun e => e.1 != 8 || e.2 / 2 ^ 20 != i
        codewords := t.fl.codewords.filter fun c => c.area != 8 || c.page / 2 ^ 20 != i }
      (t.programBytes 8 0 (i * 2 ^ 20) bytes).keepErased
  else none

/-- R226, R460, R461: the write to the flash model area ends, `taken` or not, and END completes. -/
def modelFlashWriteDone (taken : Bool) (work : FlashWork) (s : State) : State :=
  match s.ae.load with
  | none => s
  | some l =>
      match l.ending with
      | none => s
      | some ref =>
          let s := (s.flashWork 3 false work).setLoad none
          let s := if l.kind = 1 then (s.setAe { s.ae with basePack := l.bytes }).showModel
            else (s.setAe { s.ae with overlayPack := l.bytes, made := packSigner l.bytes == 5 }).showOverlay
          let copy := if taken then s.writeCopy else none
          let (s, taken) := (copy.getD s, copy.isSome)
          let id := if l.kind = 1 then s.get AE_MODELID.ID else s.get AE_OVLID.ID
          let s := (s.raise 0x781 l.kind id l.total).seOpened l.bytes
          (s.set AE_LOADBYTES.BYTES 0).post ref (if taken then 0x01 else 0x02) id

/-- R461: copy `i` where its images pass their checks, as (base image, overlay image), or the status of
the first check that refuses it. -/
def State.readCopy (s : State) (i : Nat) : Except Nat (List Nat × List Nat) :=
  match s.modelCopy i with
  | none => .error 0
  | some c =>
      match s.verifyPack [1] true (packBytesLen c.base == c.base.length) c.base with
      | .refused status _ => .error status
      | .passed img =>
          if (s.imageStatus 1 img).isSome then .error 0
          else if c.overlay = [] then .ok (img, [])
          else
            match s.verifyPack [2] true (packBytesLen c.overlay == c.overlay.length) c.overlay with
            | .refused status _ => .error status
            | .passed ovl =>
                if overlayBase ovl == imageId img && overlayFormOk (layersOf img) ovl then .ok (img, ovl)
                else .error 0

/-- R461: copy `i` is loaded. -/
def State.takeCopy (s : State) (i : Nat) (img ovl : List Nat) : State :=
  let c := (s.fl.models.getD i none).getD ⟨0, [], []⟩
  let s := s.dropModel
  let s := (s.setAe { s.ae with base := img, basePack := c.base }).showModel
  let s := if ovl = [] then s else
    (s.setAe { s.ae with overlay := ovl, overlayPack := c.overlay, made := packSigner c.overlay == 5 }).showOverlay
  s.raise 0x783 (s.get AE_MODELID.ID) (s.get AE_OVLID.ID) i

/-- R461: RELOAD: the newest copy that passes, or the status that refused the newest. -/
def State.reload (s : State) : State × Option Nat :=
  let newest := s.newestCopy.getD 0
  if !s.flag FL_STATUS.READY then (s, some 0)
  else
    let s := s.readModels newest
    match s.readCopy newest with
    | .ok (img, ovl) => (s.takeCopy newest img ovl, none)
    | .error status =>
        let s := (s.when (status != 0) (·.seRefused 0x30 status 0)).readModels (1 - newest)
        match s.readCopy (1 - newest) with
        | .ok (img, ovl) => (s.takeCopy (1 - newest) img ovl, none)
        | .error other => (s.when (other != 0) (·.seRefused 0x30 other 0), some status)

/-- R473: the legality of AELOAD by ACTION; an ACTION outside its list meets no condition that all rows share (R655). -/
def State.aeloadLegal (s : State) (action : Nat) : Bool :=
  let waits := (s.ae.load.bind (·.ending)).isSome
  let left := (s.ae.load.map fun l => l.total - l.bytes.length).getD 0
  match action with
  | 1 | 5 =>
      s.powerIn [active, quiet, maint] && !s.aeOpen && s.ae.jobs.isEmpty && !s.flag AE_STATUS.ADAPTING
  | 2 => s.aeOpen && !waits && left != 0
  | 3 => s.aeOpen && !waits && left == 0
  | 4 => s.aeOpen && !waits
  | _ => true

/-- R474: the ranges of AELOAD's fields. -/
def State.aeloadRange (s : State) (op : Op) : Bool :=
  let left := (s.ae.load.map fun l => l.total - l.bytes.length).getD 0
  let len := op.word 2
  match op.dst with
  | 1 =>
      (op.src == 1 && within 1 4194304 (op.word 1)) || (op.src == 2 && within 1 524288 (op.word 1))
  | 2 => within 1 98304 len && decide (len ≤ left) && (len % 4096 == 0 || len == left)
  | 3 | 4 | 5 => true
  | _ => false

def aeload (op : Op) (s : State) : State :=
  s.issue op 0x30 (unitCost 0x30) fun s ref =>
    let chunk := op.dst == 2
    let off := op.word 1
    let len := op.word 2
    let ext :=
      match op.dst with
      | 1 => op.ext.length == 1
      | 2 => op.ext.length == 2
      | 3 | 4 | 5 => op.ext.length == 0
      | _ => decide (op.ext.length ≤ 2)
    s.judge ref ext
      (((op.dst == 1 || !within 1 5 op.dst) || op.src == 0) && op.imm9 == 0 && (!chunk ||
        (off / 2 ^ 17 == 0 && len / 2 ^ 17 == 0)))
      (!chunk || decide (98304 < len) || decide (off + len ≤ pkgStagingBytes))
      (s.aeloadLegal op.dst && !(chunk && s.rangeOwned ⟨true, off, len⟩)) (s.aeloadRange op) 0x90 fun s =>
        match op.dst, s.ae.load with
        | 1, _ => s.loadBegin ref op.src (op.word 1)
        | 2, some l => s.loadChunk ref l off len
        | 3, some l => s.loadEnd ref l
        | 4, _ => (s.closeLoad 0x01).post ref 0x01 0
        | _, _ =>
            match s.reload with
            | (s, none) => s.post ref 0x01 (s.get AE_MODELID.ID)
            | (s, some status) => s.post ref 0x9B status

/-! ## Ingest windows (R462 to R464) -/

def AeWindow.idle : AeWindow := ⟨[], 0, [], [], none⟩

def State.aeWindow (s : State) (k : Nat) : AeWindow := (sparseFind k s.ae.windows).getD AeWindow.idle

/-- R477: AE_WINk_F. -/
def State.setWindow (s : State) (k : Nat) (x : AeWindow) : State :=
  let s := s.setAe { s.ae with windows := sparseStore AeWindow.idle k x s.ae.windows }
  let s := s.set (AE_WIN_F.FIFO k) x.fifo.length
  s.set (AE_WIN_F.READY k) (x.ready.filter fun f => !f.held).length

def State.winBytes (s : State) (k : Nat) : Nat := if s.flag (AE_WIN_A.FMT k) then 4 else 2

/-- R462: the values of a frame. -/
def State.winValues (s : State) (k : Nat) : Nat := (s.get (AE_WIN_A.CH k) + 1) * (s.get (AE_WIN_D.FLEN k) + 1)

/-- R462: the bytes of a frame. -/
def State.winFrame (s : State) (k : Nat) : Nat := s.winValues k * s.winBytes k

/-- R464: the scratch of window `k`'s two buffers. -/
def State.winScratch (s : State) (k : Nat) : Nat := 2 * beaBytes (s.winValues k)

/-- R464: AE_SCRFRAMES. -/
def State.showFrames (s : State) : State :=
  s.set AE_SCRFRAMES.BYTES
    (((List.range 8).filter fun k => s.flag (AE_WIN_A.EN k)).map s.winScratch).sum

/-- R462: the module addresses of a window, as first byte and length. -/
def State.winSpan (s : State) (k : Nat) : Nat × Nat :=
  (s.get (AE_WIN_B.START k) * 4096, s.get (AE_WIN_C.PAGES k) * 4096)

/-- R462, R473, R517: whether window `k`, as its registers stand, may be enabled. -/
def State.winMayEnable (s : State) (k : Nat) : Bool :=
  let (a, n) := s.winSpan k
  let frames := (((List.range 8).filter fun i => i == k || s.flag (AE_WIN_A.EN i)).map s.winScratch).sum
  decide (s.get (AE_WIN_A.ISHIFT k) ≤ 8) && n != 0 && s.winFrame k % 64 == 0 && decide (a + n ≤ s.dramBytes) &&
    (List.range 8).all (fun i =>
      i == k || !s.flag (AE_WIN_A.EN i) || !spansMeet a n (s.winSpan i).1 (s.winSpan i).2) &&
    !(s.flag QU_APCTL.EN && spansMeet a n (s.get QU_APCTL.BASE * 2 ^ 20) (2 ^ 20)) &&
    decide (s.get AE_SCRNEED.BYTES + frames + s.get AE_ADNEED.BYTES ≤ 1048576)

/-- R473: a write of AE_WINk_A; none where it is ignored under R7. While EN is 1 only EN is written;
disabling empties the window but for a frame a job holds. -/
def winAWrite (w : Writer) (k v : Nat) (s : State) : Option State :=
  let off := 0xF100 + 32 * k
  if !s.mayRwm w off then none
  else if s.flag (AE_WIN_A.EN k) then
    if bitOf v 23 then some s
    else
      let s := s.set (AE_WIN_A.EN k) 0
      let x := s.aeWindow k
      some (s.setWindow k { x with fifo := [], part := [], ready := x.ready.filter (·.held) }).showFrames
  else
    let t := (s.set (AE_WIN_A.FMT k) ((AE_WIN_A.FMT k).of v)).set (AE_WIN_A.ISHIFT k) ((AE_WIN_A.ISHIFT k).of v)
    let t := t.set (AE_WIN_A.CH k) ((AE_WIN_A.CH k).of v)
    if !bitOf v 23 then some t
    else if t.winMayEnable k then
      some ((t.set (AE_WIN_A.EN k) 1).setWindow k { t.aeWindow k with
        fifo := [], part := [], drained := t.clock }).showFrames
    else none

/-- R462: the activations of a frame's bytes. -/
def State.frameData (s : State) (k : Nat) (bytes : List Nat) : List Int :=
  let wide := s.flag (AE_WIN_A.FMT k)
  let shift := s.get (AE_WIN_A.ISHIFT k)
  (inChunks (s.winBytes k) bytes).map fun b =>
    let v := if wide then toSigned 24 (littleEndian (b.take 3)) else toSigned 16 (littleEndian b)
    toSigned 24 (ofSigned 24 (v * (2 ^ shift : Nat)))

/-- R464: a frame buffer is freed for a new frame: with both in use the older ready frame no job holds
is overwritten. -/
def State.frameRoom (s : State) (k : Nat) : State :=
  let x := s.aeWindow k
  if x.ready.length < 2 then s
  else
    match x.ready.find? fun f => !f.held with
    | none => s
    | some old =>
        let s := s.setWindow k { x with ready := x.ready.filter fun f => f.held || f.fseq != old.fseq }
        (s.add (AE_FRAMELOST.COUNT k) 1).raise 0x785 k old.fseq 0

/-- R463, R464: the oldest line of window `k`'s FIFO joins its frame. -/
def State.joinLine (s : State) (k : Nat) : State :=
  match (s.aeWindow k).fifo with
  | [] => s
  | (bytes, time, qual) :: rest =>
      let s := s.setWindow k { s.aeWindow k with fifo := rest }
      let s := if (s.aeWindow k).part = [] then s.frameRoom k else s
      let x := s.aeWindow k
      let part := x.part ++ bytes
      if part.length < s.winFrame k then s.setWindow k { x with part := part }
      else
        let s := s.add (AE_WIN_E.FSEQ k) 1
        let f : AeFrame := ⟨s.get (AE_WIN_E.FSEQ k), time, qual, beaThrough (s.frameData k part), false⟩
        s.setWindow k { x with part := [], ready := x.ready ++ [f] }

def State.joinLines (k : Nat) : Nat → State → State
  | 0, s => s
  | n + 1, s => State.joinLines k n (s.joinLine k)

/-- R463: the FIFOs drain at one line per 400 MHz cycle, four to 10 ns. -/
def State.drainWindows (s : State) : State :=
  (List.range 8).foldl (fun (s : State) k =>
    let x := s.aeWindow k
    if x.fifo = [] then s
    else
      let n := min x.fifo.length (4 * (s.clock - x.drained))
      State.joinLines k n (s.setWindow k { x with drained := s.clock })) s

/-- R463: a captured line of the module address `addr`, its mask full or not, in the order of
captures. -/
def State.ingest (s : State) (addr : Nat) (bytes : List Nat) (full : Bool) : State :=
  match (List.range 8).find? fun k =>
      s.flag (AE_WIN_A.EN k) && decide ((s.winSpan k).1 ≤ addr) &&
        decide (addr < (s.winSpan k).1 + (s.winSpan k).2) with
  | none => s
  | some k =>
      if !full then s.add (AE_WIN_H.PARTDROP k) 1
      else
        let s := s.drainWindows
        let x := s.aeWindow k
        if x.fifo.length < 256 then
          s.setWindow k { x with
            fifo := x.fifo ++ [(bytes, s.now, s.get TM_STATUS.QUAL)],
              drained := if x.fifo = [] then s.clock else x.drained }
        else
          let s := s.add (AE_WIN_G.FULLDROP k) 1
          if x.overSecond = some s.seconds then s
          else (s.setWindow k { x with overSecond := some s.seconds }).raise 0x784 k 1 256

/-! ## Jobs (R465, R475, R508, R510) -/

/-- R473: whether window `k` gives layer 0 its input. -/
def State.winFits (s : State) (k : Nat) : Bool :=
  s.flag (AE_WIN_A.EN k) && s.get (AE_WIN_A.CH k) + 1 == s.layer0.cin && s.get (AE_WIN_D.FLEN k) + 1 == s.layer0.len

/-- R465: a job joins the queue. -/
def State.queueJob (s : State) (ref : OpRef) (work : AeWork) (window : Option Nat) (soff wait : Nat) : State :=
  if 4 ≤ s.ae.jobs.length then s.post ref 0x9A 0
  else
    let words := s.layer0.cin * s.layer0.len
    s.setJobs (s.ae.jobs ++
      [⟨ref, work, window, soff, words, wait, none, none, [], [], 0, 0, 0, [], 0, [], false⟩])

def aerun (op : Op) (s : State) : State :=
  s.issue op 0x31 (unitCost 0x31) fun s ref =>
    let staging := decide (4 ≤ op.dst)
    let win := op.dst % 4 * 2 + op.src / 4
    let w1 := op.word 1
    let w2 := op.word 2
    let model := s.flag AE_STATUS.MODEL
    s.judge ref (op.ext.length == 2)
      (op.src % 4 == 0 && !bitOf w1 15 && w2 / 2 ^ 14 == 0 && (if staging then win == 0 else w2 == 0))
      (!(staging && model) || decide (w2 + s.layer0.cin * s.layer0.len ≤ genStagingWords))
      (s.powerIn [active, quiet, maint] && model && !s.aeOpen && (staging || s.winFits win)) true 0x90 fun s =>
        s.queueJob ref (.run (w1 / 2 ^ 16) (w1 % 2 ^ 15)) (if staging then none else some win) w2 op.imm9

/-! ## Planning (R466 to R468) -/

/-- R467, R508, R510: the units of a job, in order. -/
def State.jobUnits (s : State) (j : AeJob) : List AeUnit :=
  let tiles := s.lastLayer.tiles
  let forward := s.layers.zipIdx.flatMap fun (y, l) =>
    if y.tiled then (List.range y.tiles).map (AeUnit.tile l) else [AeUnit.whole l]
  match j.work with
  | .run _ _ => forward
  | .event _ => forward ++ [.error, .update]
  | .commit => List.replicate tiles .first ++ [.table] ++ List.replicate tiles .second ++ [.publish]

/-- R467: what follows a unit in its slice. -/
def State.unitCost' (s : State) (o : Option Overlay) (u : AeUnit) (q : Pace) : Pace :=
  let y := s.lastLayer
  let plus := fun (n : Nat) => { q with t := q.t + n }
  match u with
  | .tile l i => Pace.tile s.layers o l i q
  | .whole l => plus ((s.layers[l]?.map (·.wholeCost)).getD 0)
  | .error => plus (16 + y.cout)
  | .update => plus (32 + 68 * y.tiles)
  | .first | .second => plus 2048
  | .table => plus 4096
  | .publish => plus 64

/-- R466, R468: the slices of the units, none where a unit costs more than a slice. `now` is the slice
being filled, newest unit first, with its pace. -/
def State.slices (s : State) (o : Option Overlay) (limit : Nat) :
    List AeUnit → List AeUnit × Pace → Option (List (List AeUnit × Nat))
  | [], (now, q) => some (if now = [] then [] else [(now.reverse, q.t)])
  | u :: rest, (now, q) =>
      let alone := s.unitCost' o u Pace.start
      let with_ := s.unitCost' o u q
      if limit < alone.t then none
      else if with_.t ≤ limit then s.slices o limit rest (u :: now, with_)
      else (s.slices o limit rest ([u], alone)).map ((now.reverse, q.t) :: ·)

/-- R470: the length of a job's results. -/
def State.resultCount (s : State) : Nat := s.lastLayer.size

/-- R465: the frame the job at the head holds is freed. -/
def State.freeFrame (s : State) (j : AeJob) : State :=
  match j.window with
  | some k =>
      if j.plan.isSome then
        let x := s.aeWindow k
        s.setWindow k { x with ready := x.ready.filter fun f => !(f.held && f.fseq == j.fseq) }
      else s
  | none => s

/-- R470: a stopped job's results are undefined. -/
def State.openResults (s : State) (j : AeJob) : State :=
  match j.work, j.plan with
  | .run _ dest, some _ =>
      let n := min (8 + s.resultCount) (aeStagingWords - dest)
      let (bytes, s) := State.drawBytes (3 * n) s
      s.putStreamFrom aeStaging (3 * dest) bytes
  | _, _ => s

/-- R477: AE_JOBPOS. -/
def State.jobPos (s : State) (tag layer left : Nat) : State :=
  ((s.set AE_JOBPOS.TAG tag).set AE_JOBPOS.LAYER layer).set AE_JOBPOS.SLICES (min left 255)

/-- The job at the head leaves the queue and completes. -/
def State.endJob (s : State) (j : AeJob) (status result : Nat) : State :=
  (((s.freeFrame j).setJobs (s.ae.jobs.drop 1)).jobPos 0 0 0).post j.ref status result

/-- A job is stopped. -/
def State.stopJob (s : State) (j : AeJob) (status : Nat) : State :=
  ((s.openResults j).add AE_JOBSFAIL.COUNT 1).endJob j status 0

def State.jobDone (s : State) (j : AeJob) (result : Nat) : State :=
  (s.add AE_JOBSDONE.COUNT 1).endJob j 0x01 result

/-- R466: the plan of a job whose input is at hand. -/
def State.planWith (s : State) (j : AeJob) : State :=
  let o := if s.flag AE_STATUS.OVERLAY then overlayOf s.ae.overlay else none
  let beyond := (o.map fun o => o.body.index.any fun i => decide (o.body.stream.length < i)).getD false
  let misfit := match j.work with
    | .run _ dest => decide (aeStagingWords < dest + 8 + s.resultCount)
    | _ => false
  let stop := fun (status : Nat) => (s.freeFrame j).stopJob { j with plan := none } status
  if beyond && j.work != AeWork.commit then stop 0x95
  else
    match s.slices o s.sliceCycles (s.jobUnits j) ([], Pace.start) with
    | none => stop 0x94
    | some plan =>
        if misfit then stop 0x98
        else
          let tag := match j.work with
            | .run tag _ => tag
            | _ => 0
          let j := { j with plan := some plan, overlay := if o.isSome then s.ae.overlay else [] }
          (s.setJobs (j :: s.ae.jobs.drop 1)).jobPos tag 0 plan.length

/-- R465: no frame is ready within WAIT. -/
def State.frameTimeout (s : State) (j : AeJob) : State := s.endJob j 0x97 0

/-- R465, R466: the planning pass of the job at the head. -/
def State.planJob (s : State) (j : AeJob) : State :=
  match j.work, j.window with
  | .commit, _ => s.planWith j
  | _, none =>
      let words := (List.range j.words).map fun i => toSigned 24 (s.slot (genStaging + 4 * (j.soff + i)))
      s.planWith { j with input := beaThrough words }
  | _, some k =>
      let x := s.aeWindow k
      match x.ready.find? fun f => !f.held with
      | some f =>
          let s := s.setWindow k { x with ready := x.ready.map fun g => if g.fseq = f.fseq then { g with held := true } else g }
          s.planWith { j with input := f.data, fseq := f.fseq, time := f.time, qual := f.qual, plan := some [] }
      | none =>
          let since := j.since.getD s.tickCount
          if j.wait ≤ tickDiff since s.tickCount then s.frameTimeout j
          else s.setJobs ({ j with since := some since } :: s.ae.jobs.drop 1)

/-! ## Running (R468 to R470) -/

/-- The output of a layer's source. -/
def AeJob.source (j : AeJob) (src : Nat) : List Int :=
  if src = 0xFF then j.input else (sparseFind src j.outputs).getD []

/-- The blocks a layer is fed, as far as they pass. -/
def fedBlocks (img : List Nat) (ys : List Layer) (o : Option Overlay) (l : Nat) (y : Layer) : List (List Nat) :=
  (List.range (8 * y.tiles)).map fun b =>
    match fedBlock img ys o l b with
    | .ok ws => ws
    | .error _ => []

/-- R453: layer `l` gives its output. What a later layer reads goes through scratch. -/
def State.runLayer (s : State) (j : AeJob) (l : Nat) : AeJob :=
  let ys := s.layers
  match ys[l]? with
  | none => j
  | some y =>
      let fed := fedBlocks s.ae.base ys (overlayOf j.overlay) l y
      let bias := (List.range y.biasBlocks).map fun q => bewDecode (imageBlock s.ae.base (y.first + 8 * y.tiles + q))
      let (out, n) := y.run (j.source y.srcA) (j.source y.srcB) fed bias
      let out := if l + 1 = ys.length then out else beaThrough out
      { j with outputs := sparsePut l out j.outputs, sats := j.sats + n }

/-- R469: the first block of a tile that fails, as (status, block in Tarn). The bias blocks are fed with
the layer's first tile. -/
def State.tileFault (s : State) (o : Option Overlay) (l i : Nat) : Option (Nat × Nat) :=
  let y := layerAt s.ae.base l
  let weights := (List.range 8).map (8 * i + ·)
  let bias := if i = 0 then (List.range y.biasBlocks).map (8 * y.tiles + ·) else []
  (weights ++ bias).findSome? fun b =>
    let block := y.first + b
    if 8 * y.tiles ≤ b then
      if bewValid (imageBlock s.ae.base block) then none else some (0x96, block)
    else
      match fedBlock s.ae.base s.layers o l b with
      | .ok _ => none
      | .error status => some (status, block)

/-- The index of the largest value, the first on ties. -/
def argMax (l : List Int) : Nat :=
  (l.zipIdx.foldl (fun (best : Nat × Int) x => if best.2 < x.1 then (x.2, x.1) else best) (0, l.headD 0)).1

/-- R470: an AERUN completes. -/
def State.runDone (s : State) (j : AeJob) (tag dest : Nat) : State :=
  let out := (sparseFind s.lastIndex j.outputs).getD []
  let best := argMax out
  let top := out.getD best 0
  let words := [tag * 2 ^ 16 + out.length, s.get AE_MODELID.ID, s.get AE_OVLID.ID, j.fseq] ++
    (if j.window.isSome then stampWords j.time j.qual else [0, 0, 0]) ++ [min j.sats 0xFFFFFF] ++
    out.map (ofSigned 24)
  let s := s.setSlots (aeStaging + 4 * dest) words
  let s := s.jobDone j (boolNat (j.sats != 0) * 2 ^ 23 + best % 2 ^ 16)
  if s.flag AE_CTL.SCOREEV ∧ s.getS AE_THRESH.T ≤ top then s.raise 0x787 tag best (ofSigned 24 top) else s

/-! ### Adaptation jobs (R508 to R511) -/

/-- R508: the learning rate. -/
def State.learningRate (s : State) : Nat :=
  max (s.get AE_LRMIN.LR) (s.get AE_LRMAX.LR * 64 / (64 + s.get AE_NEVENTS.N))

/-- R508: the errors. -/
def State.labelErrors (s : State) (out : List Int) (label : Nat) : List Int :=
  out.zipIdx.map fun (y, j) =>
    (saturate 24 (y - if j = label then s.getS AE_TPOS.T else s.getS AE_TNEG.T)).1

/-- R509: the values of the table held within the envelope: the values, how many were held, and whether
any was held at either bound. -/
def holdTable (clamp : Nat) (l : List Int) : List Int × Nat × Bool × Bool :=
  let hi : Int := (clamp * 256 : Nat)
  (l.map (clampInt (-hi) hi), (l.filter fun d => decide (d < -hi) || decide (hi < d)).length,
    l.any (decide <| · < -hi), l.any (decide <| hi < ·))

/-- R508, R509: the update of an EVENT; the bound of AE_PINNED is open where both hold values
(assumption log 31). -/
def State.trainUpdate (s : State) (xs es : List Int) : State :=
  let lr := s.learningRate
  let n := es.length
  let demand := s.ae.table.zipIdx.map fun (d, i) =>
    d - roundAway (es.getD (i % n) 0 * xs.getD (i / n) 0 * (lr : Int)) (2 ^ 32 : Nat)
  let (table, held, low, high) := holdTable (s.get AE_CLAMP.Q) demand
  let step := loopUpdate 0 0 (if held = 0 then 0 else 1) (s.flag AE_STATUS.PINNED) s.ae.calm
  let s := s.setAe { s.ae with table := table, calm := step.calm }
  let s := ((s.setFlag AE_STATUS.PINNED step.pinned).set AE_HELD.N (min held 0xFFFF)).set AE_LRNOW.LR lr
  let s := s.add AE_NEVENTS.N 1
  if step.event then
    let (v, s) := if low && high then s.draw else (boolNat high, s)
    s.raise 0x788 (v % 2) (s.get AE_HELD.N) (s.get AE_NEVENTS.N)
  else s

/-- R508: an EVENT completes. -/
def State.eventDone (s : State) (j : AeJob) (label : Nat) : State :=
  let out := (sparseFind s.lastIndex j.outputs).getD []
  let result := boolNat (argMax out == label) * 2 ^ 23 + s.get AE_STATUS.PINNED * 2 ^ 22 + s.get AE_HELD.N
  s.jobDone j result

/-- R483, R510: the symbols of the adapted layer's weight blocks. -/
def State.commitBlocks (s : State) : List (List Int) :=
  let y := s.lastLayer
  (List.range (8 * y.tiles)).map fun b =>
    (List.range 128).map fun e =>
      let tile := b / 8
      let i := tile % y.inTiles * 32 + 4 * (b % 8) + e / 32
      let o := tile / y.inTiles * 32 + e % 32
      if i < y.ni ∧ o < y.cout then (s.ae.table.getD (i * y.cout + o) 0 + 128) / 256 else 0

/-- R510: the OVLID of the next overlay. -/
def State.nextOverlay (s : State) : Nat :=
  if !s.flag AE_STATUS.OVERLAY then 1
  else if s.get AE_OVLID.ID = 0xFFFFFF then 1 else s.get AE_OVLID.ID + 1

/-- R510: the overlay image a commit builds. -/
def State.commitImage (s : State) : List Nat :=
  let l := s.lastIndex
  let steps := (List.range 64).flatMap fun i => toLittleEndian 2 (if i = l then s.get AE_STEP.STEP else 0)
  [0xB3, 0xC1] ++ toLittleEndian 3 s.nextOverlay ++ toLittleEndian 3 (s.get AE_MODELID.ID) ++
    toLittleEndian 8 (2 ^ l) ++ zeros 16 ++ steps ++ vdsBuild s.commitBlocks

/-- R511: the table unit of a COMMIT. -/
def State.commitTable (s : State) (j : AeJob) : State :=
  let img := s.commitImage
  if s.get AE_OVLMAX.BYTES < img.length then s.endJob j 0x9D img.length
  else s.setJobs ({ j with built := img } :: s.ae.jobs.drop 1)

/-- R510: the publish unit. -/
def State.publish (s : State) (j : AeJob) : State :=
  let s := (s.setAe { s.ae with overlay := j.built, made := true }).showOverlay
  (s.add AE_COMMITS.COUNT 1).setJobs ({ j with published := true } :: s.ae.jobs.drop 1)

/-- One unit of the job at the head runs. -/
def State.runUnit (s : State) (j : AeJob) (u : AeUnit) : State :=
  let keep := fun (k : AeJob) => s.setJobs (k :: s.ae.jobs.drop 1)
  match u with
  | .tile l i =>
      match s.tileFault (overlayOf j.overlay) l i with
      | some (status, block) => (s.raise 0x786 status l block).stopJob j status
      | none => if i + 1 = (layerAt s.ae.base l).tiles then keep (s.runLayer j l) else s
  | .whole l => keep (s.runLayer j l)
  | .update =>
      let y := s.lastLayer
      let out := (sparseFind s.lastIndex j.outputs).getD []
      let label := match j.work with
        | .event label => label
        | _ => 0
      s.trainUpdate (j.source y.srcA) (s.labelErrors out label)
  | .table => s.commitTable j
  | .publish => s.publish j
  | .error | .first | .second => s

/-- The units of a slice, while the job at the head is the one they are of. -/
def State.runUnits (ref : OpRef) : List AeUnit → State → State
  | [], s => s
  | u :: us, s =>
      match s.ae.jobs.head? with
      | some j => if j.ref = ref then State.runUnits ref us (s.runUnit j u) else s
      | none => s

/-- The layer of a slice's last unit. -/
def sliceLayer (s : State) (us : List AeUnit) : Nat :=
  match us.getLast? with
  | some (.tile l _) => l
  | some (.whole l) => l
  | _ => s.lastIndex

/-- A job whose slices have all run. A COMMIT waits for its flash write. -/
def State.jobRan (s : State) (j : AeJob) : State :=
  match j.work with
  | .run tag dest => s.runDone j tag dest
  | .event label => s.eventDone j label
  | .commit => s

/-- R468: the job at the head plans, or runs one slice. -/
def State.runSlice (s : State) : State :=
  let s := (s.setAe { s.ae with sliceTick := some s.tickCount }).drainWindows
  match s.ae.jobs with
  | [] => s
  | j :: rest =>
      if s.coreUp && s.powerIn [active, maint] then
        match j.plan with
        | none => s.planJob j
        | some [] => s
        | some ((us, cost) :: more) =>
            let k := { j with plan := some more }
            let tag := match j.work with
              | .run tag _ => tag
              | _ => 0
            let s := ((s.setJobs (k :: rest)).set AE_LASTCYC.CYC cost).jobPos tag (sliceLayer s us) more.length
            let s := State.runUnits j.ref us s
            match s.ae.jobs.head? with
            | some k => if k.ref = j.ref ∧ more = [] then s.jobRan k else s
            | none => s
      else s

/-- R468: at a tick edge in ACTIVE or MAINT the job at the head plans, or runs one slice: one for each edge. -/
def jobSlice (s : State) : State := if s.ae.sliceTick = some s.tickCount then s.drainWindows else s.runSlice

/-- R465: WAIT ticks have passed since the job began to wait, and no frame is ready. -/
def frameWaitTimeout (s : State) : State :=
  match s.ae.jobs with
  | [] => s
  | j :: _ =>
      match j.window, j.plan, j.since with
      | some k, none, some since =>
          if s.coreUp = true ∧ j.wait ≤ tickDiff since s.tickCount ∧ ((s.aeWindow k).ready.all (·.held)) = true then
            s.frameTimeout j
          else s
      | _, _, _ => s

/-- R510: the committed overlay's flash write ends, `taken` or not. The package is the device's own
(R539). -/
def commitFlashDone (taken : Bool) (work : FlashWork) (s : State) : State :=
  match s.ae.jobs with
  | [] => s
  | j :: _ =>
      if j.published then
        let s := s.flashWork 3 false work
        let id := s.get AE_OVLID.ID
        let (target, s) := s.drawTarget
        let (pack, s) := s.makePack ⟨2, id, id, 0, target, 3, []⟩ s.ae.overlay
        let s := s.setAe { s.ae with overlayPack := pack }
        let copy := if taken then s.writeCopy else none
        let (s, taken) := (copy.getD s, copy.isSome)
        let status := if taken then 0x01 else 0x02
        let len := le (s.ae.overlay.drop 160) 20 3
        let s := s.raise 0x78A id len status
        if taken then s.jobDone j len else s.endJob j 0x02 len
      else s

/-! ## Adaptation (R506, R507, R515, R517, R518) -/

/-- R506: whether the last layer of a base may adapt. -/
def adaptable (ys : List Layer) : Bool :=
  match ys.getLast? with
  | some y => y.kind == 1 && y.act == 0 && decide (y.ni ≤ 256) && decide (y.cout ≤ 64)
  | none => false

/-- R506: whether an overlay in force covers the last layer alone. -/
def State.overlayLast (s : State) : Bool :=
  !s.flag AE_STATUS.OVERLAY || overlayMask s.ae.overlay == 2 ^ s.lastIndex

/-- R507: the symbols at the adapted layer's positions, by input then output; a block that is not
consistent leaves its symbols open (assumption log 32). -/
def State.symbolTable (s : State) (y : Layer) (o : Overlay) : List Int × State :=
  let blocks := (List.range (8 * y.tiles)).map o.body.block
  let (bytes, s) := if blocks.any (·.isNone) then State.drawBytes (2 * y.ni * y.cout) s else ([], s)
  let table := (List.range (y.ni * y.cout)).map fun n =>
    let (b, e) := y.place (n / y.cout) (n % y.cout)
    match blocks.getD b none with
    | some qs => qs.getD e 0
    | none => toSigned 12 (littleEndian ((bytes.drop (2 * n)).take 2))
  (table, s)

/-- R507: an adaptation starts with the table `table`. -/
def State.startAdapt (s : State) (table : List Int) : State :=
  let s := (s.setAe { s.ae with table := table }).set AE_STATUS.ADAPTING 1
  let s := (s.set AE_NEVENTS.N 0).set AE_ADNEED.BYTES (3 * table.length)
  s.raise 0x789 1 table.length 0

def State.adaptStart (s : State) (ref : OpRef) (zero : Bool) : State :=
  let y := s.lastLayer
  let n := y.ni * y.cout
  if !(adaptable s.layers && s.overlayLast) then s.post ref 0x9C 0
  else
    let o := if s.flag AE_STATUS.OVERLAY && !zero then overlayOf s.ae.overlay else none
    match o with
    | none => (s.startAdapt (List.replicate n 0)).post ref 0x01 n
    | some o =>
        let (table, s) := s.symbolTable y o
        let s := s.set AE_STEP.STEP (o.steps.getD s.lastIndex 0)
        (s.startAdapt (table.map (· * 256))).post ref 0x01 n

/-- R507: END. -/
def State.adaptEnd (s : State) (ref : OpRef) : State :=
  let n := s.ae.table.length
  let s := (s.setAe { s.ae with table := [] }).set AE_STATUS.ADAPTING 0
  ((s.set AE_ADNEED.BYTES 0).raise 0x789 0 n (s.get AE_NEVENTS.N)).post ref 0x01 (s.get AE_NEVENTS.N)

/-- R515: the images of the copy that is not the newest, checked but for step 4. -/
def State.olderCopy (s : State) : Option (List Nat × List Nat) :=
  match s.newestCopy with
  | none => none
  | some i =>
      match s.modelCopy (1 - i) with
      | none => none
      | some c =>
          match s.verifyPack [1] false (packBytesLen c.base == c.base.length) c.base,
            s.verifyPack [2] false (packBytesLen c.overlay == c.overlay.length) c.overlay with
          | .passed img, .passed ovl =>
              if imageFormOk img && imageSizeOk img && overlayFormOk (layersOf img) ovl then some (img, ovl) else none
          | _, _ => none

/-- R515: whether old images are a source for the present base. -/
def State.rebaseOk (s : State) (img ovl : List Nat) : Bool :=
  let l := imageLayers img - 1
  let y := layerAt img l
  imageId img != s.get AE_MODELID.ID && overlayMask ovl == 2 ^ l && y.ni == s.lastLayer.ni &&
    y.cout == s.lastLayer.cout

/-- R515: the demand of each table value. -/
def State.rebaseTable (s : State) (img ovl : List Nat) (qs : List Int) : List Int :=
  let lo := imageLayers img - 1
  let yo := layerAt img lo
  let yn := s.lastLayer
  let old := (List.range (8 * yo.tiles)).map fun b => bewDecode (imageBlock img (yo.first + b))
  let new := (List.range (8 * yn.tiles)).map fun b => bewDecode (imageBlock s.ae.base (yn.first + b))
  qs.zipIdx.map fun (q, n) =>
    let abs := bfAdd (yo.weight old (n / yo.cout) (n % yo.cout)) q (overlayStep ovl lo)
    let w := yn.weight new (n / yn.cout) (n % yn.cout)
    roundAway ((bfInt abs - bfInt w) * 256) (bfInt (s.get AE_STEP.STEP))

def State.adaptRebase (s : State) (ref : OpRef) : State :=
  if !(adaptable s.layers && s.overlayLast) then s.post ref 0x9C 0
  else
    let s := s.when s.newestCopy.isSome fun s => s.readModels (1 - s.newestCopy.getD 0)
    match s.olderCopy with
    | none => s.post ref 0x9F 0
    | some (img, ovl) =>
        match overlayOf ovl with
        | none => s.post ref 0x9F 0
        | some o =>
            if !s.rebaseOk img ovl then s.post ref 0x9F 0
            else
              let (qs, s) := s.symbolTable (layerAt img (imageLayers img - 1)) o
              let (table, held, _, _) := holdTable (s.get AE_CLAMP.Q) (s.rebaseTable img ovl qs)
              let s := (s.set AE_HELD.N (min held 0xFFFF)).startAdapt table
              let s := s.raise 0x78D (imageId img) (s.get AE_MODELID.ID) (s.get AE_HELD.N)
              s.post ref 0x01 (s.get AE_HELD.N)

/-- Whether an EVENT or a COMMIT is queued or running. -/
def State.adaptJobs (s : State) : Bool :=
  s.ae.jobs.any fun j => match j.work with
    | .run _ _ => false
    | _ => true

def State.commitQueued (s : State) : Bool := s.ae.jobs.any fun j => j.work == AeWork.commit

/-- R517: the legality of AEADAPT by ACTION. -/
def State.aeadaptLegal (s : State) (op : Op) : Bool :=
  let y := s.lastLayer
  let adapting := s.flag AE_STATUS.ADAPTING
  let frozen := s.flag AE_STATUS.FROZEN
  let win := op.src % 4 * 2 + op.imm9 / 256
  match op.dst with
  | 1 | 5 =>
      s.powerIn [active, quiet, maint] && s.flag AE_STATUS.MODEL && !adapting && !frozen && !s.aeOpen &&
        decide (s.get AE_SCRNEED.BYTES + s.get AE_SCRFRAMES.BYTES + 3 * (y.ni * y.cout) ≤ 1048576)
  | 2 => adapting && !frozen && (decide (4 ≤ op.src) || s.winFits win)
  | 3 => adapting && !frozen
  | 4 => adapting && !s.adaptJobs
  | _ => true

/-- R518: the fields of AEADAPT that must be zero. -/
def aeadaptReserved (op : Op) : Bool :=
  let w1 := op.word 1
  let w2 := op.word 2
  if op.dst = 2 then
    op.imm9 % 256 == 0 && w1 / 2 ^ 22 == 0 && bitsOf w1 9 7 == 0 && w2 / 2 ^ 14 == 0 &&
      (if 4 ≤ op.src then op.src % 4 == 0 && op.imm9 == 0 else w2 == 0)
  else if op.dst = 1 then op.src == 0 && op.imm9 / 2 == 0
  else if within 1 5 op.dst then op.src == 0 && op.imm9 == 0
  else op.imm9 % 256 / 2 == 0

def aeadapt (op : Op) (s : State) : State :=
  s.issue op 0x32 (unitCost 0x32) fun s ref =>
    let w1 := op.word 1
    let w2 := op.word 2
    let event := op.dst == 2
    let staging := decide (4 ≤ op.src)
    let label := w1 / 2 ^ 16
    s.judge ref (op.ext.length == (if event then 2 else 0) ||
      (!within 1 5 op.dst && op.ext.length == 2)) (aeadaptReserved op)
      (!(event && staging && s.flag AE_STATUS.MODEL) ||
        decide (w2 + s.layer0.cin * s.layer0.len ≤ genStagingWords))
      (s.aeadaptLegal op)
      (within 1 5 op.dst && (!event || decide (label < s.lastLayer.cout))) 0x90 fun s =>
        match op.dst with
        | 1 => s.adaptStart ref (op.imm9 == 1)
        | 2 =>
            let win := op.src % 4 * 2 + op.imm9 / 256
            s.queueJob ref (.event label) (if staging then none else some win) w2 (w1 % 2 ^ 9)
        | 3 => s.queueJob ref .commit none 0 0
        | 4 => s.adaptEnd ref
        | _ => s.adaptRebase ref

/-! ## Freeze and export (R512, R513) -/

/-- R512: whether a freeze cancels a job. -/
def AeJob.cancelled (j : AeJob) : Bool :=
  match j.work with
  | .run _ _ => false
  | _ => !j.published

/-- R15, R509, R512: learning freezes, which disables the clamp loop and clears its pinning. Between two commands
the engine is at a slice boundary. -/
def State.aeStopLearning (s : State) (ref : OpRef) : State :=
  let gone := s.ae.jobs.filter (·.cancelled)
  let s := gone.foldl (fun (s : State) j => s.freeFrame j) s
  let s := (s.setJobs (s.ae.jobs.filter fun j => !j.cancelled)).set AE_STATUS.FROZEN 1
  let s := (s.setFlag AE_STATUS.PINNED false).setAe { s.ae with calm := 0 }
  let s := s.postAll (gone.map fun j => (j.ref, 0x03, 0))
  (s.raise 0x78B 1 gone.length (s.get AE_NEVENTS.N)).post ref 0x01 0

def aefreeze (op : Op) (s : State) : State :=
  s.issue op 0x34 (unitCost 0x34) fun s ref =>
    let frozen := s.flag AE_STATUS.FROZEN
    s.judge ref (op.ext.length == 0) (op.src == 0 && op.imm9 == 0) true
      (if op.dst = 1 then !frozen else if op.dst = 2 then frozen else true)
      (op.dst == 1 || op.dst == 2) 0x90 fun s =>
        if op.dst = 1 then s.aeStopLearning ref
        else ((s.set AE_STATUS.FROZEN 0).raise 0x78B 0 0 (s.get AE_NEVENTS.N)).post ref 0x01 0

/-- R513, R539: the export package. Its STAMP is one of the forms the header allows (assumption
log 28). -/
def State.export (s : State) (ref : OpRef) (doff : Nat) : State :=
  match s.ownerKey (s.get SE_EXPCFG.OWNER) with
  | none => s.post ref 0x9B 0xB3
  | some key =>
      let total := packLengthOf s.ae.overlay.length
      if pkgStagingBytes < doff + total then s.post ref 0x9E 0
      else
        let id := s.get AE_OVLID.ID
        let (v, s) := s.draw
        let stamp := if v % 2 = 0 then 0 else stampValue s.now (s.get TM_STATUS.QUAL)
        let (target, s) := s.drawTarget
        let (pack, s) := s.makePack ⟨2, id, id, stamp, target, 2, key⟩ s.ae.overlay
        ((s.putArea true doff pack).raise 0x78C id total 0).post ref 0x01 total

def aeexport (op : Op) (s : State) : State :=
  s.issue op 0x33 (unitCost 0x33) fun s ref =>
    let doff := op.word 1
    s.judge ref (op.ext.length == 1) (op.dst == 0 && op.src == 0 && op.imm9 == 0 && doff / 2 ^ 17 == 0)
      (decide (doff < pkgStagingBytes))
      (s.flag AE_STATUS.OVERLAY && s.ae.made && !s.aeOpen && !s.commitQueued && s.flag SE_EXPCFG.VALID)
      true 0x90 fun s => s.export ref doff

/-! ## Pavane, registers (R472, R473, R517) -/

/-- R472: the Pavane freeze. -/
def State.aeFreeze (s : State) : State :=
  let jobs := s.ae.jobs
  let s := match s.ae.load with
    | none => s
    | some l => (((s.dropKind l.kind).setLoad none).set AE_LOADBYTES.BYTES 0).postOpt l.ending 0x99 0
  match jobs with
  | [] => s
  | j :: rest =>
      let started := j.plan.isSome || j.since.isSome
      let s := if started then s.stopJob j 0x99 else s.endJob j 0x03 0
      let s := s.postAll (rest.map fun k => (k.ref, 0x03, 0))
      s.setJobs []

/-- R470: whether word `w` of the results area belongs to the device. -/
def State.ownsResult (s : State) (w : Nat) : Bool :=
  match s.ae.jobs.head? with
  | some j =>
      match j.work, j.plan with
      | .run _ dest, some _ => decide (dest ≤ w) && decide (w < dest + 8 + s.resultCount)
      | _, _ => false
  | none => false

/-- R473, R517, R520: a write of value `v` to the engine's slot at block offset `o`. -/
def aeWrite (w : Writer) (o v m : Nat) (s : State) : Option State :=
  let off := 0xF000 + o
  if 0x100 ≤ o ∧ o < 0x200 then
    let k := (o - 0x100) / 0x20
    if (o - 0x100) % 0x20 = 0 then winAWrite w k v s else s.writeIf (!s.flag (AE_WIN_A.EN k)) w off v m
  else if o = 0x008 then s.writeIf (AE_DUTY.PCT.within v 10 95) w off v m
  else if o = 0x044 then
    s.writeIf (!s.flag AE_STATUS.ADAPTING && within 1 254 (bfExp (AE_STEP.STEP.of v))) w off v m
  else if o = 0x048 then s.writeIf (AE_CLAMP.Q.within v 1 2047) w off v m
  else if o = 0x04C then s.writeIf (decide (s.get AE_LRMIN.LR ≤ AE_LRMAX.LR.of v)) w off v m
  else if o = 0x050 then s.writeIf (decide (AE_LRMIN.LR.of v ≤ s.get AE_LRMAX.LR)) w off v m
  else if o = 0x060 then s.writeIf (AE_OVLMAX.BYTES.within v 1024 524288) w off v m
  else s.plainWrite w off v m

def execAeloadBegin (op : Op) (s : State) : Outcome State Fault Refusal := .next (aeload { op with dst := 1 } s)
def execAeloadChunk (op : Op) (s : State) : Outcome State Fault Refusal := .next (aeload { op with dst := 2 } s)
def execAeloadEnd (op : Op) (s : State) : Outcome State Fault Refusal := .next (aeload { op with dst := 3 } s)
def execAeloadAbort (op : Op) (s : State) : Outcome State Fault Refusal := .next (aeload { op with dst := 4 } s)
def execAeloadReload (op : Op) (s : State) : Outcome State Fault Refusal := .next (aeload { op with dst := 5 } s)
def execModelFlashWriteDone (taken : Bool) (work : FlashWork) (s : State) : Outcome State Fault Refusal :=
  .next (modelFlashWriteDone taken work s)
def execAerun (op : Op) (s : State) : Outcome State Fault Refusal := .next (aerun op s)
def execJobSlice (s : State) : Outcome State Fault Refusal := .next (jobSlice s)
def execFrameWaitTimeout (s : State) : Outcome State Fault Refusal := .next (frameWaitTimeout s)
/-- R473: a write of AE_WINk_A. -/
def execIngestWindowEnable (w : Writer) (k v : Nat) (s : State) : Outcome State Fault Refusal :=
  .next (s.rowWrite w (0xF100 + 32 * (k % 8)) (winAWrite w (k % 8) v s))
def execAeadaptStart (op : Op) (s : State) : Outcome State Fault Refusal := .next (aeadapt { op with dst := 1 } s)
def execAeadaptEvent (op : Op) (s : State) : Outcome State Fault Refusal := .next (aeadapt { op with dst := 2 } s)
def execAeadaptCommit (op : Op) (s : State) : Outcome State Fault Refusal := .next (aeadapt { op with dst := 3 } s)
def execCommitFlashDone (taken : Bool) (work : FlashWork) (s : State) : Outcome State Fault Refusal :=
  .next (commitFlashDone taken work s)
def execAeadaptEnd (op : Op) (s : State) : Outcome State Fault Refusal := .next (aeadapt { op with dst := 4 } s)
def execAeadaptRebase (op : Op) (s : State) : Outcome State Fault Refusal := .next (aeadapt { op with dst := 5 } s)
def execAeexport (op : Op) (s : State) : Outcome State Fault Refusal := .next (aeexport op s)
def execAefreezeFreeze (op : Op) (s : State) : Outcome State Fault Refusal := .next (aefreeze { op with dst := 1 } s)
def execAefreezeThaw (op : Op) (s : State) : Outcome State Fault Refusal := .next (aefreeze { op with dst := 2 } s)

end Sys2Proof.Machine
end

