-- ==== Sys2Proof/Machine/TimeInstr.lean ====
section
/-! DEFINITION. The time unit's instructions, the event log's registers and the block's writes
(R323, R329 to R338). -/

namespace Sys2Proof.Machine

open Reg Host

/-! ## TSET and TSLEW (R323, R336) -/

/-- R29, R31: the Wellhead time of a stamp operand, none where its nanoseconds are invalid. -/
def stampTime (w0 w1 w2 : Nat) : Option Nat :=
  let sec := w0 * 2 ^ 16 + w1 / 2 ^ 8
  let ns := w1 % 2 ^ 8 * 2 ^ 22 + w2 / 4
  if ns < 1000000000 then some (sec * oneSecond + ns / 10) else none

/-- R335, R336: TSET, at issue or at the next PPS_IN edge. -/
def tset (op : Op) (s : State) : State :=
  let time := stampTime (op.word 1) (op.word 2) (op.word 3)
  s.issue op 0x10 (unitCost 0x10) fun s ref =>
    s.judge ref (op.ext.length == 3) (op.dst == 0 && op.src == 0 && decide (op.imm9 < 2)) true
      (s.qual != 3 && s.tm.tset.isNone) time.isSome 0x20
      fun s =>
        let t := time.getD 0
        if op.imm9 = 1 then { s with tm := { s.tm with tset := some (ref, t, s.clock) } }
        else (s.timeSet ((t : Int) - s.now)).post ref 0x01 0

/-- R337: no PPS_IN edge came within 2 s. -/
def tsetSyncTimeout (s : State) : State :=
  match s.tm.tset with
  | none => s
  | some (ref, _, from_) =>
      s.onTime (from_ + 2 * oneSecond) fun s => ({ s with tm := { s.tm with tset := none } } : State).post ref 0x22 0

/-- R323: what a slew has not yet applied. -/
def Slew.rest (k : Slew) (clock : Nat) : Int :=
  k.amount - Int.tdiv (k.applied + k.part * ((clock - k.since : Nat) : Int)) 1000000000

/-- R323: the clock at which what is left will have been applied; none while nothing of it is being applied. -/
def Slew.doneAt (k : Slew) : Option Nat :=
  let left := k.amount * 1000000000 - k.applied
  if left = 0 then some k.since
  else if (0 < left ∧ 0 < k.part) ∨ (left < 0 ∧ k.part < 0) then some (k.since + ceilDiv left.natAbs k.part.natAbs)
  else none

/-- R323: TSLEW, on top of what an earlier slew left. -/
def tslew (op : Op) (s : State) : State :=
  s.issue op 0x11 (unitCost 0x11) fun s ref =>
    s.judge ref (op.ext.length == 1) (op.dst == 0 && op.src == 0 && op.imm9 == 0) true true true 0x20
      fun s =>
        let (s, left) : State × Int := match s.tm.slew with
          | some k => (s.postOpt k.ref 0x23 (ofSigned 24 (k.rest s.clock)), k.rest s.clock)
          | none => (s, 0)
        let d := toSigned 24 (op.word 1) + left
        if d = 0 then
          ((({ s with tm := { s.tm with slew := none } } : State).setFlag TM_STATUS.SLEWING false).showOutput).post
            ref 0x01 0
        else
          (({ s with tm := { s.tm with slew := some ⟨some ref, d, 0, s.clock, 0⟩ } } : State).setFlag
            TM_STATUS.SLEWING true).showOutput

/-- R323: slew `k` ends. -/
def State.endSlew (s : State) (k : Slew) : State :=
  let s := ({ s with tm := { s.tm with slew := none } } : State).setFlag TM_STATUS.SLEWING false
  let s := s.when (s.source != 0) fun s => s.setS TM_TRIM.T (s.getS TM_TRIM.T + k.amount)
  s.showOutput.postOpt k.ref 0x01 0

/-- R323: D has been applied. -/
def slewDone (s : State) : State :=
  match s.tm.slew with
  | none => s
  | some k =>
      match k.doneAt with
      | some t => s.onTime t (·.endSlew k)
      | none => s

/-! ## TMARK and TCAP (R329, R330) -/

/-- R333: the source field of a TMARK of ring `r`. -/
def markSource (r tag : Nat) : Nat := 2 ^ 10 + r * 2 ^ 6 + tag

/-- Whether the event numbered `seq` with `code` was written last. -/
def State.lastWritten (s : State) (code seq : Nat) : Bool :=
  match s.log.getLast? with
  | some e => e.code == code && e.seq == seq
  | none => false

def tmark (op : Op) (s : State) : State :=
  s.issue op 0x12 (unitCost 0x12) fun s ref =>
    s.judge ref (op.ext.length == 0) (decide (op.imm9 < 64)) true true true 0x20
      fun s =>
        let seq := s.get TM_EVSEQ.SEQ
        let s := s.raiseFrom (markSource op.ring op.imm9) 0x50A (s.greg op.ring op.dst) (s.greg op.ring op.src) 0
        s.post ref (if s.lastWritten 0x50A seq then 0x01 else 0x24) seq

/-- R330: TCAP at issue, or at the next edge of kind 1 PPS_IN, 2 IRIG-B, 3 PPS_OUT. -/
def tcap (op : Op) (s : State) : State :=
  s.issue op 0x13 (unitCost 0x13) fun s ref =>
    s.judge ref (op.ext.length == 0) (decide (op.dst < 4) && decide (op.src < 4) && op.imm9 == 0) true
      (s.get (TM_CAP_S.ST op.dst) != 1) true 0x20
      fun s =>
        if op.src = 0 then s.giveCapture s.now (ref, op.dst, 0, 0)
        else
          ({ s with tm := { s.tm with caps := s.tm.caps ++ [(ref, op.dst, op.src, s.clock)] } } : State).set
            (TM_CAP_S.ST op.dst) 1

/-- R330: slot `k` is empty. -/
def State.emptyCapture (s : State) (k : Nat) : State :=
  let s := ((s.set (TM_CAP.STAMP k 0) 0).set (TM_CAP.STAMP k 1) 0).set (TM_CAP.STAMP k 2) 0
  s.set (TM_CAP_S.ST k) 0

/-- R330: 2 s have passed since the issue of the TCAP that waits in slot `k`. -/
def tcapTimeout (k : Nat) (s : State) : State :=
  match s.tm.caps.find? fun c => c.2.1 == k with
  | none => s
  | some c =>
      s.onTime (c.2.2.2 + 2 * oneSecond) fun s =>
        let s := { s with tm := { s.tm with caps := s.tm.caps.filter fun c => c.2.1 != k } }
        (s.emptyCapture k).post c.1 0x21 0

/-- R330, R336: at the freeze the waiting captures and a waiting TSET complete with 0x03. -/
def State.freezeTime (s : State) : State :=
  let refs := (match s.tm.tset with
    | some (ref, _) => [ref]
    | none => []) ++ s.tm.caps.map (·.1)
  let s := s.tm.caps.foldl (fun (s : State) c => s.emptyCapture c.2.1) s
  ({ s with tm := { s.tm with tset := none, caps := [] } } : State).postAll (refs.map fun r => (r, 0x03, 0))

/-- R330: SNAP, by the side-band. -/
def snapWrite (w : Writer) (s : State) : Option State :=
  if w = Writer.sideBand then
    some (((s.set (TM_SNAP.STAMP 0) (stampWord0 s.now)).set (TM_SNAP.STAMP 1) (stampWord1 s.now)).set
      (TM_SNAP.STAMP 2) (stampWord2 s.now s.qual))
  else none

/-! ## The event log (R332 to R334) -/

/-- R333: the eight words of an entry. -/
def LogEntry.words (e : LogEntry) : List Nat :=
  [e.code * 2 ^ 12 + boolNat e.saved * 2 ^ 11 + e.source % 2 ^ 11] ++ stampWords e.time e.qual ++ [e.seq, e.w5, e.w6,
    e.w7]

/-- R332: every entry up to and including the first unreleased one numbered `n` is released. -/
def releaseTo (n : Nat) (l : List LogEntry) : List LogEntry :=
  match l.findIdx? fun e => e.seq == n && !e.released with
  | none => l
  | some i => (l.take (i + 1)).map (fun e => { e with released := true }) ++ l.drop (i + 1)

/-- R332, R335: a write of TM_LOGREL. -/
def logrelWrite (_w : Writer) (n : Nat) (s : State) : Option State :=
  if s.flag TM_LOGCFG.STOP then
    let s := (({ s with log := releaseTo n s.log } : State).set TM_LOGREL.SEQ n)
    some (s.when (s.logWritable != 0) (·.setFlag TM_STATUS.LOGSTOP false))
  else none

/-- R332: a write of TM_LOGCFG.STOP. -/
def logPolicyWrite (w : Writer) (stop : Bool) (s : State) : Option State :=
  if s.mayWrite w 0xA200 .rwm then
    some ((s.setFlag TM_LOGCFG.STOP stop).when (!stop) (·.setFlag TM_STATUS.LOGSTOP false))
  else none

/-- R334: the entries a LOGRD copies from, and its status: from the oldest, from the first numbered
`start`, or from the oldest when `start` lies before it. -/
def logFrom (log : List LogEntry) (oldest : Bool) (start : Nat) : List LogEntry × Nat :=
  if oldest then (log, 0x01)
  else
    match log.findIdx? fun e => e.seq == start with
    | some i => (log.drop i, 0x01)
    | none =>
        match log with
        | [] => ([], 0x01)
        | e :: _ => if (e.seq + 2 ^ 24 - start) % 2 ^ 24 ≤ 2 ^ 23 then (log, 0x02) else ([], 0x01)

/-- R334, R335: LOGRD. The entries are taken as the log stands at issue; the unit's completion brings them to the
staging area. -/
def logrd (op : Op) (s : State) : State :=
  let dest := bitsOf (op.word 2) 11 11
  let count := op.word 2 % 2 ^ 11
  s.issue op 0x3E (unitCost 0x3E) fun s ref =>
    s.judge ref (op.ext.length == 2)
      (op.dst == 0 && op.src == 0 && decide (op.imm9 < 128) && decide (op.word 2 < 2 ^ 22)) true
      s.tm.logRead.isNone
      (decide (1 ≤ count) && decide (dest + count ≤ 1536)) 0x20
      fun s =>
        let (from_, status) := logFrom s.log (bitOf op.imm9 6) (op.word 1)
        let kept := if bitOf op.imm9 5 then from_.filter fun e => e.code / 128 == op.imm9 % 32 else from_
        let copied := kept.take count
        { s with tm := { s.tm with
          logRead := some ⟨ref, genStaging + 32 * dest, copied.flatMap (·.words), status, copied.length⟩ } }

/-- R107, R334: the LOGRD in progress completes. -/
def State.logReadDone (s : State) : State :=
  match s.tm.logRead with
  | none => s
  | some l => (({ s with tm := { s.tm with logRead := none } } : State).setSlots l.dest l.words).post l.ref l.status l.count

/-- R334: word `w` of the slot `i` of the window page. -/
def State.logWindow (s : State) (i w : Nat) : Nat :=
  let slot := 1536 * s.get TM_LOGPAGE.PAGE + i
  if logCapacity ≤ slot then 0
  else
    match s.log[(slot + logCapacity - s.get TM_LOGOLD.SLOT) % logCapacity]? with
    | some e => e.words.getD w 0
    | none => 0

/-! ## Writes (R13, R15, R26, R335, R338) -/

/-- R15, R321: after a write of TM_CTL or TM_FREQMAN; `was` is what LOOP read before. -/
def State.timeManual (s : State) (was : Bool) : State :=
  if s.flag TM_CTL.LOOP then
    if was then s
    else
      let b := clampInt (s.getS TM_SLEWMIN.F) (s.getS TM_SLEWMAX.F) (s.getS TM_FREQMAN.F)
      ({ s with tm := { s.tm with base := b } } : State).showOutput
  else
    (({ s with tm := { s.tm with base := s.getS TM_FREQMAN.F, calm := 0 } } : State).setFlag
      TM_STATUS.PINNED false).showOutput

/-- R335: a bound of the slew envelope may take `v`. -/
def State.slewBoundOk (s : State) (low : Bool) (v : Nat) : Bool :=
  let i := toSigned 24 v
  decide (-500000 ≤ i) && decide (i ≤ 500000) &&
    (if low then decide (i ≤ s.getS TM_SLEWMAX.F) else decide (s.getS TM_SLEWMIN.F ≤ i))

/-- A write of value `v` to the time block's slot at block offset `o`. -/
def tmWrite (w : Writer) (o v m : Nat) (s : State) : Option State :=
  let off := 0xA000 + o
  if o = 0x004 then
    if s.mayWrite w off .rwm then
      (s.plainWrite w off v m).map fun t =>
        (t.timeManual (s.flag TM_CTL.LOOP)).when (bitOf (v &&& m) 3) (·.forgetBins)
    else none
  else if o = 0x008 then
    s.writeIf (([9, 6, 3, 0].map fun lo => bitsOf v lo 3).all (decide <| · ≤ 4)) w off v m
  else if o = 0x028 then s.writeIf (s.slewBoundOk true v) w off v m
  else if o = 0x02C then s.writeIf (s.slewBoundOk false v) w off v m
  else if o = 0x030 then (s.plainWrite w off v m).map (·.timeManual (s.flag TM_CTL.LOOP))
  else if o = 0x034 then s.writeIf (TM_SERVOTC.S.within v 1 1024) w off v m
  else if o = 0x064 then s.writeIf (TM_TCXOMAX.H.within v 0 8760) w off v m
  else if o = 0x068 then
    s.writeIf (s.get TM_LEAP.PEND == 0 && !(s.qual == 3 && (s.source == 1 || s.source == 3))) w off v m
  else if o = 0x06C then leapWrite w (TM_LEAP.PEND.of v) s.leapAt s
  else if o = 0x070 then
    if s.mayWrite w off .rwm then some { s with tm := { s.tm with leapHigh := v % 2 ^ 16 } } else none
  else if o = 0x074 then
    if s.mayWrite w off .rwm && decide (s.now + 2 * oneSecond ≤ (s.tm.leapHigh * 2 ^ 24 + v) * oneSecond) then
      some ((s.set TM_LEAPATH.AT s.tm.leapHigh).set TM_LEAPATL.AT v)
    else none
  else if o = 0x080 then s.writeIf (TM_PPSWID.US.within v 1 500000) w off v m
  else if o = 0x0B0 then if w = Writer.sideBand ∧ bitOf v 0 = false then some s else snapWrite w s
  else if o = 0x200 then logPolicyWrite w (bitOf v 0) s
  else if o = 0x204 then s.writeIf (TM_LOGPAGE.PAGE.within v 0 10) w off v m
  else if o = 0x214 then logrelWrite w v s
  else s.plainWrite w off v m

def execTset (op : Op) (s : State) : Outcome State Fault Refusal := .next (tset { op with imm9 := op.imm9 / 2 * 2 } s)
def execTsetSync (op : Op) (s : State) : Outcome State Fault Refusal :=
  .next (tset { op with imm9 := op.imm9 / 2 * 2 + 1 } s)
def execTsetSyncTimeout (s : State) : Outcome State Fault Refusal := .next (tsetSyncTimeout s)
def execTslew (op : Op) (s : State) : Outcome State Fault Refusal := .next (tslew op s)
def execSlewDone (s : State) : Outcome State Fault Refusal := .next (slewDone s)
def execTmark (op : Op) (s : State) : Outcome State Fault Refusal := .next (tmark op s)
def execTcapNow (op : Op) (s : State) : Outcome State Fault Refusal := .next (tcap { op with src := op.src / 4 * 4 } s)
def execTcapPpsIn (op : Op) (s : State) : Outcome State Fault Refusal :=
  .next (tcap { op with src := op.src / 4 * 4 + 1 } s)
def execTcapIrigb (op : Op) (s : State) : Outcome State Fault Refusal :=
  .next (tcap { op with src := op.src / 4 * 4 + 2 } s)
def execTcapPpsOut (op : Op) (s : State) : Outcome State Fault Refusal :=
  .next (tcap { op with src := op.src / 4 * 4 + 3 } s)
def execTcapTimeout (k : Nat) (s : State) : Outcome State Fault Refusal := .next (tcapTimeout k s)
def execTimeSnapshot (w : Writer) (s : State) : Outcome State Fault Refusal :=
  .next (s.rowWrite w 0xA0B0 (snapWrite w s))
def execLogrd (op : Op) (s : State) : Outcome State Fault Refusal := .next (logrd op s)
def execLogRelease (w : Writer) (seq : Nat) (s : State) : Outcome State Fault Refusal :=
  .next (s.rowWrite w 0xA214 (logrelWrite w seq s))
def execLogPolicyWrite (w : Writer) (stop : Bool) (s : State) : Outcome State Fault Refusal :=
  .next (s.rowWrite w 0xA200 (logPolicyWrite w stop s))
def execHoldoverForget (w : Writer) (s : State) : Outcome State Fault Refusal :=
  .next (s.rowWrite w 0xA004 (forgetWrite w s))
def execLeapWrite (w : Writer) (pend at_ : Nat) (s : State) : Outcome State Fault Refusal :=
  .next (s.rowWrite w 0xA06C (leapWrite w pend at_ s))
def execSecondBoundary (crystal : Option Int) (s : State) : Outcome State Fault Refusal :=
  .next (secondBoundary crystal s)
def execPpsEdge (t : Nat) (s : State) : Outcome State Fault Refusal := .next (ppsEdge t s)
def execNmeaSentence (arrival : Nat) (s : State) : Outcome State Fault Refusal := .next (nmeaSentence arrival s)
def execIrigbFrame (f : IrigFrame) (s : State) : Outcome State Fault Refusal := .next (irigFrame f s)
def execHoldoverSample (mean : Int) (span : Nat) (s : State) : Outcome State Fault Refusal :=
  .next (holdoverSample mean span s)
def execOscFault (deviated : Bool) (s : State) : Outcome State Fault Refusal := .next (oscFault deviated s)
def execOscOk (s : State) : Outcome State Fault Refusal := .next (oscOk s)
def execSavedTemperatureCheck (codes : List Int) (s : State) : Outcome State Fault Refusal :=
  .next (savedTemperature codes s)
def execLeapApplied (s : State) : Outcome State Fault Refusal := .next (leapApplied s)

end Sys2Proof.Machine
end

