-- ==== Sys2Proof/Machine/Battery.lean ====
section
/-! DEFINITION. Battery, charger and gauge (R285 to R310). -/

namespace Sys2Proof.Machine

open Reg Host

/-! ## Readings and limits -/

def PackReading.lower (r : PackReading) : Nat := min r.cell1 r.cell2
def PackReading.higher (r : PackReading) : Nat := max r.cell1 r.cell2

/-- R309: the latest readings. -/
def State.readPack (s : State) (r : PackReading) : State :=
  (((s.set BT_VCELL1.MV r.cell1).set BT_VCELL2.MV r.cell2).set BT_VPACK.MV r.pack).setS BT_TEMP.DC r.temp

/-- R301: BT_QREM stays within BT_CAP. -/
def State.holdCount (s : State) : State :=
  if s.get BT_CAP.Q < s.get BT_QREM.Q then
    ({ s with bt := { s.bt with remFrac := 0 } } : State).set BT_QREM.Q (s.get BT_CAP.Q)
  else s

/-- R302: BT_CAP changes to `new`, by at most 10 % and within 50 % to 110 % of BT_CAPNOM. -/
def State.setCap (s : State) (new : Int) : State :=
  let cap : Int := s.get BT_CAP.Q
  let nom : Int := s.get BT_CAPNOM.Q
  let v := clampInt (nom / 2) (nom * 11 / 10) (clampInt (cap - cap / 10) (cap + cap / 10) new)
  (({ s with bt := { s.bt with capRecord := some v.toNat } } : State).set BT_CAP.Q v.toNat).holdCount

/-- R264, R286: the code of a node at `mv` mV behind the attenuator 1/2^`att`. -/
def nodeCode (mv att : Nat) : Nat := roundDiv (mv * 1024) (1250 * 2 ^ att)

/-- R286: the battery unit sets VM17 to VM21: their modes and deglitching, and their thresholds: the pack and the
cells from BT_VEXH up to 7.30 V and 3.65 V, the thermistor up to code 1,000, and the coarse current to ±30 A in the
shunt of 5 mΩ about 625 mV (R285). -/
def State.packThresholds (s : State) : State :=
  let v := s.get BT_VEXH.MV
  [(17, nodeCode (2 * v) 3, nodeCode 7300 3), (18, nodeCode v 2, nodeCode 3650 2), (19, nodeCode v 2, nodeCode 3650 2),
    (20, 0, 1000), (21, nodeCode 475 0, nodeCode 775 0)].foldl (fun (s : State) c =>
      let s := ((s.set (MN_CH_A.MODE c.1) 3).set (MN_CH_A.LPMODE c.1) (lpmodeFactory c.1)).set (MN_CH_A.DGL c.1)
        (dglFactory c.1)
      ((s.set (MN_CH_B.LO c.1) c.2.1).set (MN_CH_B.HI c.1) c.2.2).retune c.1) s

/-! ## Power path (R287, R288) -/

/-- R288: whether the pack feeds VSYS while VIN is not qualified. -/
def State.packWanted (s : State) : Bool :=
  !s.flag BT_STATUS.PACK_ABSENT && (s.runningSet || (s.power == saved && s.maskBit PW_ON.EN 10))

/-- R288: PP_BAT follows the power state. -/
def State.followPath (s : State) : State :=
  if s.flag BT_STATUS.VINOK then s
  else { s with bt := { s.bt with ppBat := s.packWanted && !s.bt.ppVin } }

/-- VIN in units of 10 mV (R211, R310): VM12 reads its node, which stands behind the divider of 1/16 (R264). -/
def State.vin10 (s : State) : Nat := ofSigned 24 (Int.tdiv (16 * s.getS (MN_VAL.VAL 12)) 10)

/-- R287: VIN becomes qualified: the path returns to VIN. -/
def State.pathToVin (s : State) : State :=
  let was := s.flag BT_STATUS.PATH
  let s := (s.setFlag BT_STATUS.VINOK true).setFlag BT_STATUS.PATH false
  let s := { s with bt := { s.bt with ppBat := false, ppVin := true } }
  s.when was (·.raise 0x48B 0 s.vin10 (s.get BT_VPACK.MV))

/-- R287: the reference edge of the switch-over has come: VM13's LOW flag, or VM12's where VM13 does not run. -/
def State.switchDue (s : State) : Bool :=
  s.power != 0 && s.channelFlag (if s.runningSet then 13 else 12) == 1

/-- R264, R288: whether VIN is below the critical threshold, code 435: VM13 says so where it runs, and elsewhere VIN_SNS
itself, at `node` (in units of 1.25 V / 32,768). -/
def State.vinCritical (s : State) (node : Int) : Bool :=
  if s.runningSet then s.channelFlag 13 == 1 else decide (node < 32 * 435)

/-- R287, R288: the path goes to the pack, where it is not there yet. Without a pack the switch-over is not run: PP_VIN
stays on until VIN is below the critical threshold. -/
def switchOver (node : Int) (s : State) : State :=
  if s.switchDue && !s.flag BT_STATUS.PATH then
    let s := s.setFlag BT_STATUS.VINOK false
    if s.flag BT_STATUS.PACK_ABSENT then
      s.when (s.vinCritical node) fun s => { s with bt := { s.bt with ppVin := false, ppBat := false } }
    else
      let s := { s with bt := { s.bt with ppVin := false, ppBat := s.packWanted } }
      (s.setFlag BT_STATUS.PATH true).raise 0x48B 1 s.vin10 (s.get BT_VPACK.MV)
  else s

/-! ## Charger (R290 to R293) -/

def phaseOff : Nat := 0
def phaseHold : Nat := 1
def phasePre : Nat := 2
def phaseCc : Nat := 3
def phaseCv : Nat := 4
def phaseFloat : Nat := 5
def phaseFault : Nat := 6

def State.chargePhase (s : State) : Nat := s.get BT_PHASE.PHASE

/-- R290: the run conditions. -/
def State.chargeRuns (s : State) : Bool :=
  s.flag BT_CTL.CHGEN && s.flag BT_STATUS.VINOK && !s.flag BT_STATUS.PACK_ABSENT && s.power != 0

/-- R291: what the charger regulates: a current in mA, the higher cell at a voltage in mV, or each cell at no more than
one. -/
inductive ChargeTarget where
  | current (ma : Nat)
  | higherCell (mv : Nat)
  | eachCell (mv : Nat)
  deriving DecidableEq, Repr

/-- R291: the soft start of CC, 5 ms, in units of 10 ns. -/
def softStart : Nat := 500000

/-- R290, R291: what the charger regulates, while its gates are driven. -/
def State.chargeTarget (s : State) : Option ChargeTarget :=
  if !s.chargeRuns then none
  else if s.chargePhase = phasePre then some (.current 50)
  else if s.chargePhase = phaseCc then
    some (.current (s.get BT_ICHG.MA * min softStart (s.clock - s.bt.phaseFrom) / softStart))
  else if s.chargePhase = phaseCv then some (.higherCell (s.get BT_VCHG.MV))
  else if s.chargePhase = phaseFloat then some (.eachCell (s.get BT_VFNOW.MV))
  else none

/-- The charge timer stops, or runs on. -/
def State.stopTimer (s : State) : State :=
  match s.bt.timerFrom with
  | none => s
  | some t => { s with bt := { s.bt with timer := s.bt.timer + (s.clock - t), timerFrom := none } }

def State.startTimer (s : State) : State :=
  match s.bt.timerFrom with
  | none => { s with bt := { s.bt with timerFrom := some s.clock } }
  | some _ => s

/-- R293: bleeding stops, or cell `c` bleeds. -/
def State.bleedCell (s : State) (c : Nat) : State :=
  ({ s with bt := { s.bt with bleed := c } } : State).setFlag BT_STATUS.BALANCING (c != 0)

/-- R290, R292, R293: BT_PHASE changes. The balancing cycles go on from CV to FLOAT. -/
def State.setPhase (s : State) (p : Nat) : State :=
  let old := s.chargePhase
  if p = old then s
  else
    let s := if p = phasePre ∨ p = phaseCc ∨ p = phaseCv then s.startTimer else s.stopTimer
    let s := if p = phaseCv ∨ p = phaseFloat then s else s.bleedCell 0
    let cycle := if p = phaseFloat ∧ old = phaseCv then s.bt.balanceAt else s.clock
    let s := { s with bt := { s.bt with
      phaseFrom := s.clock, floatAt := s.clock, balanceAt := cycle, termFrom := none } }
    (s.set BT_PHASE.PHASE p).raise 0x483 old p (s.get BT_IPACK.MA)

def tempInRange (t : Int) : Bool := decide (30 ≤ t) && decide (t ≤ 420)

/-- R290: where a run begins. -/
def State.runPhase (s : State) (r : PackReading) : Nat :=
  if tempInRange r.temp then (if r.lower < s.get BT_VCUT.MV then phasePre else phaseCc) else phaseHold

def chargerRunStart (r : PackReading) (s : State) : State :=
  if s.chargePhase == phaseOff && s.chargeRuns then
    let s := s.readPack r
    let s := { s with bt := { s.bt with timer := 0, timerFrom := none } }
    s.setPhase (s.runPhase r)
  else s

def chargerRunStop (s : State) : State := if s.chargePhase != phaseOff && !s.chargeRuns then s.setPhase phaseOff else s

def chargerTempHold (r : PackReading) (s : State) : State :=
  if s.chargeRuns = true ∧ s.chargePhase ∈ [phasePre, phaseCc, phaseCv, phaseFloat] ∧ (r.temp < 0 ∨ 450 < r.temp) then
    (s.readPack r).setPhase phaseHold
  else s

def chargerTempResume (r : PackReading) (s : State) : State :=
  if s.chargePhase == phaseHold && tempInRange r.temp && s.chargeRuns then
    let s := s.readPack r
    s.setPhase (s.runPhase r)
  else s

def prechargeDone (r : PackReading) (s : State) : State :=
  if s.chargeRuns && s.chargePhase == phasePre && decide (s.get BT_VCUT.MV ≤ r.lower) then
    s.onTime (s.bt.phaseFrom + 100000000) fun s => (s.readPack r).setPhase phaseCc
  else s

def constantVoltage (r : PackReading) (s : State) : State :=
  if s.chargeRuns && s.chargePhase == phaseCc && decide (s.get BT_VCHG.MV ≤ r.higher) then
    (s.readPack r).setPhase phaseCv
  else s

/-- R290, R302: a full charge. -/
def State.fullCharge (s : State) : State :=
  let s := s.setPhase phaseFloat
  let excess := s.get BT_QOVER.Q
  let s := if excess = 0 then s else s.setCap ((s.get BT_CAP.Q : Int) + excess)
  let s := (s.set BT_QOVER.Q 0).set BT_QREM.Q (s.get BT_CAP.Q)
  let s := { s with bt := { s.bt with remFrac := 0, overFrac := 0 } }
  let s := ((s.setFlag BT_STATUS.UNCERT false).setFlag BT_STATUS.CUTOFF false).add BT_FULLS.COUNT 1
  s.raise 0x484 (s.get BT_CAP.Q) excess (s.get BT_FULLS.COUNT)

/-- R290: CV ends in FLOAT once the current, as the counter's samples show it, has been below BT_ITERM for 60 s. In
DORMANT, where the counter is stopped and no time is measured, the sender vouches for it. -/
def chargeFull (s : State) : State :=
  if s.chargeRuns && s.chargePhase == phaseCv then
    match s.bt.termFrom with
    | some t => s.onTime (t + 6000000000) (·.fullCharge)
    | none => if s.running then s else s.fullCharge
  else s

/-- R290: the charge timer reaches BT_CTIMEOUT. -/
def chargeFault (s : State) : State :=
  match s.bt.timerFrom with
  | some t =>
      let p := s.chargePhase
      if s.chargeRuns = true ∧ p ∈ [phasePre, phaseCc, phaseCv] then
        s.onTime (t + (s.get BT_CTIMEOUT.MIN * 6000000000 - s.bt.timer)) fun s =>
          (s.setPhase phaseFault).raise 0x48D p (s.get BT_CTIMEOUT.MIN) (s.get BT_VCELL1.MV)
      else s
  | none => s

/-- R292: the float demand in mV. -/
def State.floatDemand (s : State) : Int :=
  (s.get BT_VFLOAT.MV : Int) - (s.get BT_TCOMP.TC : Int) * (s.getS BT_TEMP.DC - 250) / 100

/-- R14, R292: one update of the float loop. -/
def State.floatUpdate (s : State) : State :=
  let d := s.floatDemand
  let r := loopUpdate (s.get BT_VFMIN.MV) (s.get BT_VFMAX.MV) d (s.flag BT_STATUS.FPINNED) s.bt.floatCalm
  let s := (s.set BT_VFNOW.MV r.out.toNat).setFlag BT_STATUS.FPINNED r.pinned
  let s := { s with bt := { s.bt with floatCalm := r.calm, floatAt := s.clock } }
  s.when r.event (·.raise 0x486 (boolNat (decide ((s.get BT_VFMIN.MV : Int) ≤ d))) (ofSigned 24 d) r.out.toNat)

/-- R292: once a second in FLOAT. -/
def floatLoop (s : State) : State :=
  if s.chargeRuns && s.chargePhase == phaseFloat && s.flag BT_CTL.FLOOP then
    s.onTime (s.bt.floatAt + 100000000) (·.floatUpdate)
  else s

/-- R293: the cell that bleeds after a pause that read `r`. -/
def State.balance (s : State) (r : PackReading) : State :=
  let s := s.readPack r
  let diff := r.higher - r.lower
  let s := { s with bt := { s.bt with balanceAt := s.clock } }
  if s.get BT_BAL.ON < diff then s.bleedCell (if r.cell2 < r.cell1 then 1 else 2)
  else if diff < s.get BT_BAL.OFF then s.bleedCell 0
  else s

/-- R293: the end of a balancing cycle's pause, 1 s after the one before it. -/
def balanceCycle (r : PackReading) (s : State) : State :=
  if s.flag BT_CTL.BALEN && (s.chargePhase == phaseCv || s.chargePhase == phaseFloat) then
    s.onTime (s.bt.balanceAt + 100000000) (·.balance r)
  else s.bleedCell 0

/-- R293: a cell bleeds: in the first 900 ms of a cycle. -/
def State.bleeding (s : State) : Bool := s.flag BT_STATUS.BALANCING && decide (s.clock < s.bt.balanceAt + 90000000)

/-! ## The gauge (R301 to R306) -/

/-- R303: the voltage-implied range, in 0.1 %, of a compensated cell voltage in mV. -/
def voltageRange (mv : Int) : Nat × Nat :=
  if mv < 2800 then (0, 0)
  else if mv < 3000 then (0, 50)
  else if mv < 3200 then (50, 150)
  else if mv < 3340 then (150, 950)
  else (950, 1000)

/-- R303: BT_VRANGE of a reading. -/
def State.showRange (s : State) (r : PackReading) : State :=
  let v := (1000 * (r.lower : Int) - s.getS BT_IPACK.MA * s.get BT_RCELL.MOHM) / 1000
  let (lo, hi) := if s.chargePhase = phaseCv ∨ s.chargePhase = phaseFloat then (0, 1000) else voltageRange v
  (s.set BT_VRANGE.VLO lo).set BT_VRANGE.VHI hi

/-- R303: at cold start, DORMANT exit and re-insertion the gauge restarts from the voltage. -/
def State.restartGauge (s : State) (r : PackReading) : State :=
  let s := (s.readPack r).showRange r
  let s := { s with bt := { s.bt with remFrac := 0 } }
  (s.set BT_QREM.Q (s.get BT_VRANGE.VLO * s.get BT_CAP.Q / 1000)).setFlag BT_STATUS.UNCERT true

/-- R306: the cold derating. -/
def coldDerating (t : Int) : Nat :=
  if 100 ≤ t then 1000
  else if 0 ≤ t then 900
  else if -100 ≤ t then 750
  else if -200 ≤ t then 550
  else 350

/-- R306: E_avail. -/
def State.eAvail (s : State) : Nat :=
  let q := min (s.get BT_QREM.Q) (s.get BT_VRANGE.VHI * s.get BT_CAP.Q / 1000)
  let use := q * coldDerating (s.getS BT_TEMP.DC) / 1000 - s.get BT_KEEP.Q
  let v := min (s.get BT_VSAVE.MV) (s.get BT_VPACK.MV)
  if s.flag BT_STATUS.PACK_ABSENT then 0
  else min 0xFFFFFF (use * 36 * v * s.get BT_EFF.PCT / 100000)

/-- R301: SoC_cc in 0.1 %. -/
def State.socCount (s : State) : Nat := if s.get BT_CAP.Q = 0 then 0 else 1000 * s.get BT_QREM.Q / s.get BT_CAP.Q

/-- R304: the events still owed are logged once the core rail is up. The GAUGE_AGREE of a logged episode stays owed
through later ones that nothing logged. -/
def State.owedGauge (s : State) : State :=
  if s.coreUp then
    if s.flag BT_STATUS.DISAGREE then
      if s.bt.disagreeLogged then s
      else
        ({ s with bt := { s.bt with disagreeLogged := true, agreeOwed := none } } : State).raise 0x488 (s.get BT_SOCCC.PCT)
          (s.get BT_VRANGE.VLO) (s.get BT_VRANGE.VHI)
    else
      match s.bt.agreeOwed with
      | some n =>
          ({ s with bt := { s.bt with agreeOwed := none } } : State).raise 0x489 (s.get BT_SOC.PCT) (min n 0xFFFFFF) 0
      | none => s
  else s

/-- R304: the disagreement episode. -/
def State.judgeGauge (s : State) : State :=
  let soc := s.get BT_SOCCC.PCT
  let tol := s.get BT_DTOL.PCT
  let out := decide (soc + tol < s.get BT_VRANGE.VLO) || decide (s.get BT_VRANGE.VHI + tol < soc)
  let on := s.flag BT_STATUS.DISAGREE
  if out then
    if on then { s with bt := { s.bt with agreeRun := 0, disagreeLen := s.bt.disagreeLen + 1 } }
    else
      ({ s with bt := { s.bt with
        agreeRun := 0, disagreeLen := 1, disagreeLogged := false } } : State).setFlag BT_STATUS.DISAGREE true
  else if on then
    let s := { s with bt := { s.bt with agreeRun := s.bt.agreeRun + 1, disagreeLen := s.bt.disagreeLen + 1 } }
    if 16 ≤ s.bt.agreeRun then
      let owed := if s.bt.disagreeLogged then some s.bt.disagreeLen else s.bt.agreeOwed
      ({ s with bt := { s.bt with agreeRun := 0, agreeOwed := owed } } : State).setFlag BT_STATUS.DISAGREE false
    else s
  else s

/-- R296: whether the re-insertion conditions hold. -/
def State.insertable (s : State) (r : PackReading) : Bool :=
  s.flag BT_STATUS.PACK_ABSENT && s.channelFlag 20 == 0 &&
    decide (2000 ≤ r.lower) && decide (r.higher ≤ 3650) && decide (4000 ≤ r.pack) && decide (r.pack ≤ 7300)

/-- R305: voltage prevails over the count: a cell is below BT_VCUT while the pack discharges and the count is not 0. -/
def State.cutting (s : State) (r : PackReading) : Bool :=
  decide (r.lower < s.get BT_VCUT.MV) && decide (s.getS BT_IPACK.MA < -10) && s.get BT_QREM.Q != 0

/-- Since when a condition holds, given since when it held before. -/
def State.heldFrom (s : State) (b : Bool) (from_ : Option Nat) : Option Nat := if b then some (from_.getD s.clock) else none

/-- R296, R305: since when a re-insertion and a cut-off are under way, by the reading `r`. -/
def State.timePack (s : State) (r : PackReading) : State :=
  let ins := s.insertable r
  ({ s with bt := { s.bt with
    insertFrom := s.heldFrom ins s.bt.insertFrom, lowFrom := s.heldFrom (s.cutting r) s.bt.lowFrom } } : State).setFlag
    BT_STATUS.INSERTING ins

/-- R275: inputs 17 to 20, converted for the gauge, delay the scan that runs. -/
def State.gaugeConversions (s : State) : State := s.delayScan.delayScan.delayScan.delayScan

/-- R304, R306: the figures of one gauge update. -/
def State.gaugeFigures (s : State) (r : PackReading) : State :=
  let s := ((s.gaugeConversions.readPack r).showRange r).timePack r
  let soc := s.socCount
  let s := s.set BT_SOCCC.PCT soc
  let s := s.set BT_SOC.PCT (clampNat (s.get BT_VRANGE.VLO) (s.get BT_VRANGE.VHI) soc)
  let s := s.set BT_SOCD.PCT (min soc (s.get BT_VRANGE.VHI))
  let s := s.judgeGauge.owedGauge
  s.set BT_EAVAIL.E s.eAvail

/-- R304: at a tick edge with TK_COUNT a multiple of 20, or at any sample edge without ticks. -/
def gaugeUpdate (r : PackReading) (s : State) : State :=
  let mark := fun (s : State) => { s with bt := { s.bt with gaugeTick := some s.tickCount, gaugedAt := s.clock } }
  if s.coreUp then
    if s.tickCount % 20 = 0 ∧ s.bt.gaugeTick ≠ some s.tickCount then (mark s).gaugeFigures r else s
  else if s.powerIn [saved, latched] then
    s.onTime (s.bt.gaugedAt + 100000000) fun s => (mark s).gaugeFigures r
  else s

/-- R305: the count is written off. The manual does not say which cell's voltage GAUGE_CUTOFF shows; the model shows the
lower one (assumption log 112). -/
def State.cutOff (s : State) (r : PackReading) : State :=
  let off := s.get BT_QREM.Q
  let s := (s.readPack r).setCap ((s.get BT_CAP.Q : Int) - off)
  let s := { s with bt := { s.bt with remFrac := 0, lowFrom := none } }
  let s := (s.set BT_QREM.Q 0).setFlag BT_STATUS.CUTOFF true
  s.raise 0x48A off (s.get BT_CAP.Q) r.lower

/-- R305: voltage prevails: the gauge has found it so for 1 s. -/
def gaugeCutoff (r : PackReading) (s : State) : State :=
  if s.cutting r then
    match s.bt.lowFrom with
    | some t => s.onTime (t + 100000000) (·.cutOff r)
    | none => s
  else s

/-! ## The coulomb counter (R297 to R301) -/

/-- R300: the accumulator, in µC. -/
def State.qacc (s : State) : Int := toSigned 48 (s.getPair BT_QACCH.QACC BT_QACCL.QACC)

/-- R301: the count moves by `d` µC. A unit leaves BT_QREM when all of it has been drawn, as the manual's winter
example counts them (5.07 C from 9,600 units leave 9,586). DEDUCED (assumption log 91), safe. -/
def State.moveCount (s : State) (d : Int) : State :=
  let c : Int := (s.get BT_QREM.Q * 360000 : Nat) - s.bt.remFrac + d
  let top : Int := (s.get BT_CAP.Q * 360000 : Nat)
  let excess := s.get BT_QOVER.Q * 360000 + s.bt.overFrac + (if c < 0 then c.natAbs else 0)
  let c := (clampInt 0 top c).toNat
  let units := (c + 359999) / 360000
  let s := (s.set BT_QREM.Q units).set BT_QOVER.Q (min (excess / 360000) 0xFFFFFF)
  { s with bt := { s.bt with remFrac := units * 360000 - c, overFrac := excess % 360000 } }

/-- R300: `q` nC are added to the accumulator. -/
def State.addCharge (s : State) (q : Int) : State :=
  let total := s.qacc * 1000 + s.bt.nano + q
  let new := total / 1000
  let d := new - s.qacc
  let code := ofSigned 48 new
  let s := s.setPair BT_QACCH.QACC BT_QACCL.QACC code
  ({ s with bt := { s.bt with nano := total % 1000 } } : State).moveCount d

/-- R298: the coarse path is powered down in SAVED and LATCHED. -/
def State.coarseDown (s : State) : Bool := s.powerIn [saved, latched] && !s.coreUp

/-- R298, R299: i_coarse of a sample: a path that stayed powered down shows no current. -/
def State.coarseMean (s : State) (q : ChargeSample) : Int :=
  if s.coarseDown && !q.saturated then 0 else q.coarseMa

/-- R299: the range demand of a sample. -/
def State.rangeDemand (s : State) (q : ChargeSample) : Nat × Nat :=
  if q.saturated then (1, 0)
  else if s.bt.demand = 1 then
    let calm := if (s.coarseMean q).natAbs < s.get BT_RNGRET.MA then s.bt.demandCalm + 1 else 0
    if s.get BT_RNGHYS.N ≤ calm then (0, calm) else (1, calm)
  else (0, s.bt.demandCalm)

/-- R299: the range of a sample, by the loop of R13 to R15. -/
def State.chooseRange (s : State) (q : ChargeSample) : State :=
  let (d, calm) := s.rangeDemand q
  let s := { s with bt := { s.bt with demand := d, demandCalm := calm } }
  if s.flag BT_CTL.RNGLOOP then
    let r := loopUpdate (s.get BT_RNG.MIN) (s.get BT_RNG.MAX) d (s.flag BT_STATUS.RPINNED) s.bt.rangeCalm
    let s := (s.set BT_STATUS.RANGE r.out.toNat).setFlag BT_STATUS.RPINNED r.pinned
    let s := { s with bt := { s.bt with rangeCalm := r.calm } }
    s.when r.event (·.raise 0x487 (boolNat (decide (s.get BT_RNG.MIN ≤ d))) d r.out.toNat)
  else s.set BT_STATUS.RANGE (s.get BT_RNG.MAN)

/-- R297: the overcurrent episode. -/
def State.judgeClip (s : State) (clipped : Bool) : State :=
  if clipped then
    let was := s.flag BT_STATUS.OVERI
    let s := ({ s with bt := { s.bt with clipRun := 0 } } : State).setFlag BT_STATUS.OVERI true
    s.when (!was) (·.raise 0x48C (s.get BT_IPACK.MA) 0 0)
  else if s.flag BT_STATUS.OVERI then
    let n := s.bt.clipRun + 1
    ({ s with bt := { s.bt with clipRun := n } } : State).setFlag BT_STATUS.OVERI (decide (n < 16))
  else s

/-- R285, R298: the charge of a start-up of the coarse path, in nC: at the fine full scale of 300 mA when charging,
at the coarse one of 30 A when discharging. -/
def ChargeSample.startCharge (q : ChargeSample) : Int := if q.inward then 3 * q.start else -(300 * q.start : Nat)

/-- R298: the coarse integral of a sample: a path that was powered down counts from its start-up on. -/
def State.coarseCharge (s : State) (q : ChargeSample) : Int :=
  if s.coarseDown then (if q.saturated then q.coarse + q.startCharge else 0) else q.coarse

/-- R290: since when a CV phase's current, `ma` by the last sample, lies below BT_ITERM. -/
def State.timeTerm (s : State) (ma : Int) : State :=
  let low := s.chargePhase == phaseCv && decide (ma < (s.get BT_ITERM.MA : Nat))
  { s with bt := { s.bt with termFrom := if low then some (s.bt.termFrom.getD s.clock) else none } }

/-- R297 to R301: the charge of one interval is counted. -/
def State.countSample (s : State) (q : ChargeSample) : State :=
  let charge := s.coarseCharge q
  let s := (((s.chooseRange q).setS BT_IPACK.MA q.packMa).timeTerm q.packMa).judgeClip q.clipped
  let coarse := s.get BT_STATUS.RANGE = 1
  let s := s.when (q.saturated && !decide coarse) (·.setFlag BT_STATUS.UNCERT true)
  s.addCharge (if coarse then charge else q.fine)

/-- R297: a sample edge: a tick edge while ticks run, every second in SAVED and LATCHED. -/
def coulombSample (q : ChargeSample) (s : State) : State :=
  let mark := fun (s : State) => { s with bt := { s.bt with sampleTick := some s.tickCount, sampledAt := s.clock } }
  if s.coreUp then if s.bt.sampleTick = some s.tickCount then s else (mark s).countSample q
  else if s.powerIn [saved, latched] then
    s.onTime (s.bt.sampledAt + 100000000) fun s => (mark s).countSample q
  else s

/-! ## Removal and re-insertion (R294 to R296) -/

/-- R294: whether a sign of removal stands. -/
def State.removalSign (s : State) (sign : Nat) : Bool :=
  match sign with
  | 1 => s.channelFlag 20 == 2
  | 2 => s.channelFlag 18 == 2 || s.channelFlag 19 == 2
  | 3 => s.chargePhase == phaseCc && s.due (s.bt.phaseFrom + softStart)
  | _ => false

/-- R294, R296: a sign of removal: the pack is taken as removed, or the count of a re-insertion restarts. -/
def packRemoved (sign : Nat) (s : State) : State :=
  if s.removalSign sign then
    let absent := s.flag BT_STATUS.PACK_ABSENT
    let s := ({ s with bt := { s.bt with insertFrom := none } } : State).setFlag BT_STATUS.INSERTING false
    if absent then s
    else
      let p := s.chargePhase
      let s := (s.setFlag BT_STATUS.PACK_ABSENT true).add BT_REMOVALS.COUNT 1
      let s := { s with bt := { s.bt with ppBat := false } }
      (s.raise 0x481 sign (s.get BT_VPACK.MV) p).setPhase phaseOff
  else s

/-- R296: the pack is taken as re-inserted. -/
def State.insertPack (s : State) (r : PackReading) : State :=
  let s := (s.setFlag BT_STATUS.PACK_ABSENT false).setFlag BT_STATUS.INSERTING false
  let s := (({ s with bt := { s.bt with insertFrom := none } } : State).restartGauge r).followPath
  let s := s.raise 0x482 (s.get BT_VPACK.MV) (s.get BT_TEMP.DC) (s.get BT_QREM.Q)
  if s.chargePhase = phaseFault then s.setPhase phaseOff else s

/-- R296: the conditions have held for 2 s, as the gauge found them. In DORMANT and OFF, where no time is measured, the
sender vouches for it. -/
def packInserted (r : PackReading) (s : State) : State :=
  if s.insertable r then
    match s.bt.insertFrom with
    | some t => s.onTime (t + 200000000) (·.insertPack r)
    | none => if s.running then s else s.insertPack r
  else s

/-! ## Writes (R308) -/

/-- R15, R290, R293: after a write of BT_CTL, BT_VFMAN or BT_RNG; `f` and `r` are what FLOOP and RNGLOOP read
before. -/
def State.batteryManual (s : State) (f r : Bool) : State :=
  let s :=
    if s.flag BT_CTL.FLOOP then
      if f then s
      else s.set BT_VFNOW.MV (clampNat (s.get BT_VFMIN.MV) (s.get BT_VFMAX.MV) (s.get BT_VFMAN.MV))
    else
      ({ s with bt := { s.bt with floatCalm := 0 } } : State).set BT_VFNOW.MV (s.get BT_VFMAN.MV) |>.setFlag
        BT_STATUS.FPINNED false
  let s :=
    if s.flag BT_CTL.RNGLOOP then
      if r then s
      else s.set BT_STATUS.RANGE (clampNat (s.get BT_RNG.MIN) (s.get BT_RNG.MAX) (s.get BT_RNG.MAN))
    else
      ({ s with bt := { s.bt with rangeCalm := 0 } } : State).set BT_STATUS.RANGE (s.get BT_RNG.MAN) |>.setFlag
        BT_STATUS.RPINNED false
  let s := s.when (!s.flag BT_CTL.BALEN) (·.bleedCell 0)
  if s.chargePhase = phaseFault ∧ s.flag BT_CTL.CHGEN = false then s.setPhase phaseOff else s

/-- R308: BT_CAPNOM takes `v`. -/
def capnomWrite (w : Writer) (v : Nat) (s : State) : Option State :=
  if s.mayWrite w 0x9050 .rwm && decide (1000 ≤ v) && decide (v ≤ 100000) then
    let s := (({ s with bt := { s.bt with capRecord := some v } } : State).set BT_CAPNOM.Q v).set BT_CAP.Q v
    some (s.holdCount.setFlag BT_STATUS.UNCERT true)
  else none

/-- A write of value `v` to the battery block's slot at block offset `o`. -/
def btWrite (w : Writer) (o v m : Nat) (s : State) : Option State :=
  let off := 0x9000 + o
  let manual := fun (t : State) => t.batteryManual (s.flag BT_CTL.FLOOP) (s.flag BT_CTL.RNGLOOP)
  if o = 0x004 then (s.plainWrite w off v m).map manual
  else if o = 0x00C then s.writeIf (BT_ICHG.MA.within v 50 1000) w off v m
  else if o = 0x010 then s.writeIf (BT_VCHG.MV.within v 3450 3600) w off v m
  else if o = 0x014 then s.writeIf (BT_ITERM.MA.within v 10 200) w off v m
  else if o = 0x018 then s.writeIf (BT_VFLOAT.MV.within v 3200 3450) w off v m
  else if o = 0x01C then s.writeIf (BT_TCOMP.TC.within v 0 50) w off v m
  else if o = 0x020 then s.writeIf (BT_VFMIN.MV.within v 3200 (min 3450 (s.get BT_VFMAX.MV))) w off v m
  else if o = 0x024 then s.writeIf (BT_VFMAX.MV.within v (max 3200 (s.get BT_VFMIN.MV)) 3450) w off v m
  else if o = 0x028 then (s.writeIf (BT_VFMAN.MV.within v 3200 3450) w off v m).map manual
  else if o = 0x030 then
    (s.writeIf (decide (BT_RNG.MIN.of v ≤ BT_RNG.MAX.of v)) w off v m).map manual
  else if o = 0x034 then s.writeIf (BT_RNGRET.MA.within v 10 290) w off v m
  else if o = 0x038 then s.writeIf (BT_RNGHYS.N.within v 1 255) w off v m
  else if o = 0x03C then
    s.writeIf (BT_BAL.OFF.within v 1 50 && BT_BAL.ON.within v (BT_BAL.OFF.of v + 1) 100) w off v m
  else if o = 0x050 then capnomWrite w v s
  else if o = 0x064 then s.writeIf (BT_DTOL.PCT.within v 10 500) w off v m
  else if o = 0x06C then s.writeIf (BT_KEEP.Q.within v 0 100000) w off v m
  else if o = 0x070 then s.writeIf (BT_VSAVE.MV.within v 5000 7200) w off v m
  else if o = 0x074 then s.writeIf (BT_EFF.PCT.within v 50 100) w off v m
  else if o = 0x078 then s.writeIf (BT_RCELL.MOHM.within v 1 500) w off v m
  else if o = 0x094 then
    s.writeIf (BT_VCUT.MV.within v (max 2600 (s.get BT_VEXH.MV + 1)) 3000) w off v m
  else if o = 0x098 then
    (s.writeIf (BT_VEXH.MV.within v 2500 (min 2800 (s.get BT_VCUT.MV - 1))) w off v m).map (·.packThresholds)
  else if o = 0x09C then s.writeIf (BT_CTIMEOUT.MIN.within v 30 1440) w off v m
  else s.plainWrite w off v m

def execPowerPathSwitchover (node : Int) (s : State) : Outcome State Fault Refusal := .next (switchOver node s)
def execChargerRunStart (r : PackReading) (s : State) : Outcome State Fault Refusal := .next (chargerRunStart r s)
def execChargerRunStop (s : State) : Outcome State Fault Refusal := .next (chargerRunStop s)
def execChargerTempHold (r : PackReading) (s : State) : Outcome State Fault Refusal := .next (chargerTempHold r s)
def execChargerTempResume (r : PackReading) (s : State) : Outcome State Fault Refusal := .next (chargerTempResume r s)
def execPrechargeDone (r : PackReading) (s : State) : Outcome State Fault Refusal := .next (prechargeDone r s)
def execConstantVoltageReached (r : PackReading) (s : State) : Outcome State Fault Refusal :=
  .next (constantVoltage r s)
def execChargeFull (s : State) : Outcome State Fault Refusal := .next (chargeFull s)
def execChargeFault (s : State) : Outcome State Fault Refusal := .next (chargeFault s)
def execFloatLoopUpdate (s : State) : Outcome State Fault Refusal := .next (floatLoop s)
def execBalanceCycle (r : PackReading) (s : State) : Outcome State Fault Refusal := .next (balanceCycle r s)
def execPackRemoved (sign : Nat) (s : State) : Outcome State Fault Refusal := .next (packRemoved sign s)
def execPackInserted (r : PackReading) (s : State) : Outcome State Fault Refusal := .next (packInserted r s)
def execCoulombSample (q : ChargeSample) (s : State) : Outcome State Fault Refusal := .next (coulombSample q s)
def execGaugeUpdate (r : PackReading) (s : State) : Outcome State Fault Refusal := .next (gaugeUpdate r s)
def execGaugeCutoff (r : PackReading) (s : State) : Outcome State Fault Refusal := .next (gaugeCutoff r s)
def execBtCapnomWrite (w : Writer) (v : Nat) (s : State) : Outcome State Fault Refusal :=
  .next (s.rowWrite w 0x9050 (capnomWrite w v s))

end Sys2Proof.Machine
end

