-- ==== Sys2Proof/Machine/Compression.lean ====
section
/-! DEFINITION. The compression unit (R496 to R505). -/

namespace Sys2Proof.Machine

open Reg Host

/-! ## Ranges (R497 to R499, R502) -/

/-- R498: the values a VDS body in these bytes holds, in bytes; 0 where it is not well formed. -/
def vdsValueBytes (bytes : List Nat) : Nat :=
  match vdsParse bytes with
  | some b => 256 * b.index.length
  | none => 0

/-- R497: the bytes of the decoded form of `n` blocks. -/
def decodedBytes (fmt n : Nat) : Nat := if fmt = 2 then 48 * n else 256 * n

/-- R497: the bytes of the coded form of `n` blocks. -/
def codedBytes (fmt n : Nat) : Nat := if fmt = 2 then 33 * n else 178 * n

/-- R497: the first byte an offset names; that of BEA-16's words counts slots. -/
def offsetBytes (words : Bool) (off : Nat) : Nat := if words then 3 * off else off

/-- R497 to R499: the source range. -/
def cpSource (kind fmt count : Nat) (package : Bool) (off : Nat) : StageRange :=
  if kind = 1 then ⟨package, offsetBytes (fmt == 2) off, decodedBytes fmt count⟩
  else if fmt = 3 ∨ fmt = 4 then ⟨package, off, count⟩
  else ⟨package, off, codedBytes fmt count⟩

/-- R497 to R499: the destination range, `src` being the source's bytes. A VDS body may reach the end
of its area (assumption log 26). -/
def cpDestination (kind fmt count : Nat) (package : Bool) (off : Nat) (src : List Nat) : StageRange :=
  if kind = 1 then
    if fmt = 3 then ⟨package, off, areaBytes package - off⟩ else ⟨package, off, codedBytes fmt count⟩
  else if kind = 2 then
    if fmt = 3 then ⟨package, off, vdsValueBytes src⟩
    else ⟨package, offsetBytes (fmt == 2) off, decodedBytes fmt count⟩
  else if fmt = 4 then ⟨package, off, 4 * ceilDiv count 4096⟩
  else ⟨package, off, 0⟩

/-! ## Admission -/

/-- R496: COUNT 0 completes at once. -/
def State.cpCount (s : State) (kind : Nat) : State :=
  if kind = 1 then s.add CP_PACKS.COUNT 1 else if kind = 2 then s.add CP_UNPACKS.COUNT 1 else s

/-- R501, R502: an instruction of the unit; `kind` is 1 CPPACK, 2 CPUNPACK, 3 CPCHECK. -/
def cpIssue (kind opcode : Nat) (op : Op) (s : State) : State :=
  s.issue op opcode (unitCost opcode) fun s ref =>
    let w1 := op.word 1
    let w2 := op.word 2
    let count := op.word 3
    let fmt := op.dst
    let src := cpSource kind fmt count (bitOf w1 23) (w1 % 2 ^ 17)
    let dst := cpDestination kind fmt count (bitOf w2 23) (w2 % 2 ^ 17)
      (if src.inside then s.rangeBytes src else [])
    let fmtOk := decide (1 ≤ fmt) && decide (fmt ≤ if kind = 3 then 4 else 3)
    let noDst := kind == 3 && decide (1 ≤ fmt) && decide (fmt ≤ 3)
    s.judge ref (op.ext.length == 3)
      (op.src == 0 && op.imm9 == 0 && bitsOf w1 17 6 == 0 && bitsOf w2 17 6 == 0 && !(noDst && w2 != 0))
      (!fmtOk || (src.inside && dst.inside))
      (s.powerIn [standby, active, quiet, maint] && (!fmtOk || !(s.rangeOwned src || s.rangeOwned dst)))
      (fmtOk && !src.meets dst) 0xA0 fun s =>
        if 4 ≤ s.cp.length then s.post ref 0xA9 0
        else if count = 0 then
          (s.cpCount kind |>.when (kind == 1) (·.set CP_OUTLEN.BYTES 0)).post ref 0x01 0
        else { s with cp := s.cp ++ [⟨ref, kind, fmt, count, src, dst⟩] }

/-! ## Completion (R497 to R499) -/

/-- R499: a failure of CPUNPACK or CPCHECK. -/
def State.cpFail (s : State) (j : CpJob) (status block : Nat) : State :=
  let s := (s.set CP_LASTFAIL.STATUS status).set CP_LASTFAIL.BLOCK block
  ((s.add CP_FAILS.COUNT 1).raise 0x801 status block j.fmt).post j.ref status block

/-- R497: the destination bytes `out` of a pack, with `lost` flushes or saturations. -/
def State.cpPacked (s : State) (j : CpJob) (out : List Nat) (lost : Nat) : State :=
  let s := s.putArea j.dst.package j.dst.first out
  let s := (s.set CP_OUTLEN.BYTES out.length).add CP_PACKS.COUNT 1
  if lost = 0 then s.post j.ref 0x01 out.length else s.post j.ref 0x02 (min lost 0xFFFFFF)

/-- The little-endian words of `k` bytes of some bytes. -/
def leWords (k : Nat) (bytes : List Nat) : List Nat := (inChunks k bytes).map littleEndian

def cpPack (j : CpJob) (s : State) : State :=
  let src := s.rangeBytes j.src
  if j.fmt = 1 then
    let blocks := inChunks 128 (leWords 2 src)
    if blocks.any (·.any fun w => bfExp w == 255) then s.post j.ref 0xA1 0
    else s.cpPacked j (blocks.flatMap bewEncode) ((blocks.map bewFlushes).sum)
  else if j.fmt = 2 then
    let blocks := inChunks 16 ((leWords 3 src).map (toSigned 24))
    s.cpPacked j (blocks.flatMap beaEncode) ((blocks.map beaSaturations).sum)
  else
    let values := (leWords 2 src).map (toSigned 16)
    if values.any fun q => decide (q < -2048) || decide (2047 < q) then s.post j.ref 0xA1 0
    else
      let body := vdsBuild (inChunks 128 values)
      if j.dst.len < body.length then s.post j.ref 0xA2 0 else s.cpPacked j body 0

/-- R498: the blocks of a source before the first that fails, and the failing block's index. -/
def goodBlocks {α β : Type} (read : α → Option β) : Nat → List α → List β × Option Nat
  | _, [] => ([], none)
  | i, b :: rest =>
      match read b with
      | none => ([], some i)
      | some x =>
          let (l, f) := goodBlocks read (i + 1) rest
          (x :: l, f)

/-- R498: the decoded bytes of a source's good blocks, the failing block, and the status it fails with;
a VDS body that is not well formed has neither. -/
def cpDecode (fmt : Nat) (src : List Nat) : Option (List (List Nat) × Option Nat × Nat) :=
  if fmt = 1 then
    let (l, f) := goodBlocks (fun b => if bewValid b then some (bewDecode b) else none) 0 (inChunks 178 src)
    some (l.map fun b => b.flatMap (toLittleEndian 2), f, 0xA3)
  else if fmt = 2 then
    let (l, f) := goodBlocks (fun b => if b.getD 0 0 ≤ 8 then some (beaDecode b) else none) 0 (inChunks 33 src)
    some (l.map fun b => b.flatMap fun a => toLittleEndian 3 (ofSigned 24 a), f, 0xA6)
  else
    (vdsParse src).map fun body =>
      let (l, f) := goodBlocks body.block 0 (List.range body.index.length)
      (l.map fun b => b.flatMap fun q => toLittleEndian 2 (ofSigned 16 q), f, 0xA5)

def cpUnpack (j : CpJob) (s : State) : State :=
  match cpDecode j.fmt (s.rangeBytes j.src) with
  | none => s.cpFail j 0xA4 0
  | some (blocks, bad, status) =>
      let out := blocks.flatten
      let s := s.putArea j.dst.package j.dst.first out
      match bad with
      | some i => s.cpFail j status i
      | none =>
          (s.add CP_UNPACKS.COUNT 1).post j.ref 0x01 (if j.fmt = 2 then out.length / 3 else out.length)

/-- R499: the index of the first chunk whose CRC-32 is not that of the table. -/
def badChunk (table : List Nat) : Nat → List (List Nat) → Option Nat
  | _, [] => none
  | k, c :: rest =>
      if crc32 c = littleEndian ((table.drop (4 * k)).take 4) then badChunk table (k + 1) rest else some k

def cpCheck (j : CpJob) (s : State) : State :=
  let src := s.rangeBytes j.src
  if j.fmt = 4 then
    match badChunk (s.rangeBytes j.dst) 0 (inChunks 4096 src) with
    | some k => s.cpFail j 0xA7 k
    | none => s.post j.ref 0x01 (ceilDiv src.length 4096)
  else
    match cpDecode j.fmt src with
    | none => s.cpFail j 0xA4 0
    | some (_, some i, status) => s.cpFail j status i
    | some (blocks, none, _) => s.post j.ref 0x01 blocks.length

/-- R496: the instruction in progress completes. -/
def cpDone (s : State) : State :=
  match s.cp with
  | [] => s
  | j :: rest =>
      let s : State := { s with cp := rest }
      if j.kind = 1 then cpPack j s else if j.kind = 2 then cpUnpack j s else cpCheck j s

/-- R500: the Pavane freeze. The destination of the instruction in progress is open. -/
def State.cpFreeze (s : State) : State :=
  match s.cp with
  | [] => s
  | j :: rest =>
      let s : State := { s with cp := [] }
      let s := if j.kind = 3 then s else
        let (bytes, s) := State.drawBytes j.dst.len s
        s.putArea j.dst.package j.dst.first bytes
      s.postAll ((j.ref, 0xA8, 0) :: rest.map fun k => (k.ref, 0x03, 0))

/-- R504: CP_STATUS as it reads. -/
def State.cpStatus (s : State) : Nat := boolNat (!s.cp.isEmpty) * 8 + s.cp.length

def cppack (op : Op) (s : State) : State := cpIssue 1 0x35 op s
def cpunpack (op : Op) (s : State) : State := cpIssue 2 0x36 op s
def cpcheck (op : Op) (s : State) : State := cpIssue 3 0x37 op s

def execCppackBew128 (op : Op) (s : State) : Outcome State Fault Refusal := .next (cppack { op with dst := 1 } s)
def execCppackBea16 (op : Op) (s : State) : Outcome State Fault Refusal := .next (cppack { op with dst := 2 } s)
def execCppackVds (op : Op) (s : State) : Outcome State Fault Refusal := .next (cppack { op with dst := 3 } s)
def execCpunpackBew128 (op : Op) (s : State) : Outcome State Fault Refusal := .next (cpunpack { op with dst := 1 } s)
def execCpunpackBea16 (op : Op) (s : State) : Outcome State Fault Refusal := .next (cpunpack { op with dst := 2 } s)
def execCpunpackVds (op : Op) (s : State) : Outcome State Fault Refusal := .next (cpunpack { op with dst := 3 } s)
def execCpcheckBew128 (op : Op) (s : State) : Outcome State Fault Refusal := .next (cpcheck { op with dst := 1 } s)
def execCpcheckVds (op : Op) (s : State) : Outcome State Fault Refusal := .next (cpcheck { op with dst := 3 } s)
def execCpcheckChunkCrc (op : Op) (s : State) : Outcome State Fault Refusal := .next (cpcheck { op with dst := 4 } s)

end Sys2Proof.Machine
end

