-- ==== Sys2Proof/Machine/Flags.lean ====
section
/-! DEFINITION. The flags of the sequencer's arithmetic (R91, R92). -/

namespace Sys2Proof.Machine

open Reg

/-- The flags an arithmetic or logical instruction sets (R92). T is WAITE's alone. -/
structure Nzcv where
  z : Bool
  n : Bool
  c : Bool
  v : Bool
  deriving DecidableEq, Repr

/-- R92: the sum modulo 2²⁴. -/
def add24 (a b : Nat) : Nat := (a + b) % 2 ^ 24

/-- R92: the difference modulo 2²⁴. -/
def sub24 (a b : Nat) : Nat := (a % 2 ^ 24 + 2 ^ 24 - b % 2 ^ 24) % 2 ^ 24

def zeroFlag (r : Nat) : Bool := decide (r % 2 ^ 24 = 0)

def signFlag (r : Nat) : Bool := decide (2 ^ 23 ≤ r % 2 ^ 24)

/-- R92: a signed value that 24 bits do not hold. -/
def overflows (i : Int) : Bool := decide (i < -(2 ^ 23)) || decide (2 ^ 23 ≤ i)

/-- R92, ADD. -/
def addFlags (a b : Nat) : Nzcv :=
  ⟨zeroFlag (add24 a b), signFlag (add24 a b), decide (2 ^ 24 ≤ a % 2 ^ 24 + b % 2 ^ 24),
    overflows (toSigned 24 a + toSigned 24 b)⟩

/-- R92, SUB and CMP. -/
def subFlags (a b : Nat) : Nzcv :=
  ⟨zeroFlag (sub24 a b), signFlag (sub24 a b), decide (a % 2 ^ 24 < b % 2 ^ 24),
    overflows (toSigned 24 a - toSigned 24 b)⟩

/-- R92, AND, OR and RDREG. -/
def logicFlags (r : Nat) : Nzcv := ⟨zeroFlag r, signFlag r, false, false⟩

/-- The flags of ring `r` take `f`; T is unchanged. -/
def State.setFlags (s : State) (r : Nat) (f : Nzcv) : State :=
  ((((s.setFlag (SY_FLAGS.Z r) f.z).setFlag (SY_FLAGS.N r) f.n).setFlag (SY_FLAGS.C r) f.c).setFlag
    (SY_FLAGS.V r) f.v)

/-- R96: whether condition code `dst` holds for ring `r`. -/
def State.condition (s : State) (r dst : Nat) : Bool :=
  match dst with
  | 0 => true
  | 1 => s.flag (SY_FLAGS.Z r)
  | 2 => !s.flag (SY_FLAGS.Z r)
  | 3 => s.flag (SY_FLAGS.C r)
  | 4 => !s.flag (SY_FLAGS.C r)
  | 5 => s.flag (SY_FLAGS.N r) != s.flag (SY_FLAGS.V r)
  | 6 => s.flag (SY_FLAGS.N r) == s.flag (SY_FLAGS.V r)
  | _ => s.flag (SY_FLAGS.T r)

end Sys2Proof.Machine
end

