-- ==== Sys2Proof/Machine/CoreInstr.lean ====
section
/-! DEFINITION. The core instructions that touch only their ring (R94 to R101), the waits' ends, and
the reserved opcode (R8). -/

namespace Sys2Proof.Machine

open Reg Host

/-- R7, R95: an illegal core instruction retires as NOP, having taken its words. -/
def State.retire (s : State) (ring opcode : Nat) : State :=
  (s.violate (instrViolation ring opcode)).uses 4

/-- R71, R89, R95: a core instruction that posts nothing. -/
def State.coreIssue (s : State) (op : Op) (opcode : Nat) (legal : Bool) (body : State → State) : State :=
  if s.ringReady op.ring then
    let s := s.moveOn op.ring (1 + op.ext.length)
    if op.coreForm opcode && legal then body (s.uses (coreCost opcode op.ext.length true))
    else s.retire op.ring opcode
  else s

/-- R82, R106: a core instruction that posts: the entry is reserved, and released when the
instruction retires as NOP. -/
def State.corePost (s : State) (op : Op) (opcode : Nat) (legal : Bool) (body : State → OpRef → State) : State :=
  if s.ringReady op.ring then
    if s.canReserve op.ring then
      let ref := s.opRef op.ring opcode
      let running := (s.ring op.ring).run.isSome
      let s := s.reserve op.ring
      let s := s.moveOn op.ring (1 + op.ext.length)
      if op.coreForm opcode && legal then body (s.uses (coreCost opcode op.ext.length true)) ref
      else
        let s := s.retire op.ring opcode
        if running then s.setRing op.ring { s.ring op.ring with pool := (s.ring op.ring).pool + 1 }
        else s.cqRelease ref.q 1
    else s.cqHold op.ring (s.cqOf op.ring)
  else s

def nop (op : Op) (s : State) : State := s.coreIssue op 0x00 true id

def ldi (op : Op) (s : State) : State :=
  s.coreIssue op 0x01 true fun s =>
    s.set (SY_CTX.G op.ring op.dst)
      (match op.ext with
       | [] => ofSigned 24 (imm9Signed op.imm9)
       | w :: _ => w.toNat)

def mov (op : Op) (s : State) : State :=
  s.coreIssue op 0x02 true fun s => s.set (SY_CTX.G op.ring op.dst) (s.operandB op)

def add (op : Op) (s : State) : State :=
  s.coreIssue op 0x03 true fun s =>
    let a := s.greg op.ring op.dst
    let b := s.operandB op
    (s.set (SY_CTX.G op.ring op.dst) (add24 a b)).setFlags op.ring (addFlags a b)

def sub (op : Op) (s : State) : State :=
  s.coreIssue op 0x04 true fun s =>
    let a := s.greg op.ring op.dst
    let b := s.operandB op
    (s.set (SY_CTX.G op.ring op.dst) (sub24 a b)).setFlags op.ring (subFlags a b)

def andInstr (op : Op) (s : State) : State :=
  s.coreIssue op 0x05 true fun s =>
    let r := s.greg op.ring op.dst &&& s.operandB op
    (s.set (SY_CTX.G op.ring op.dst) r).setFlags op.ring (logicFlags r)

def orInstr (op : Op) (s : State) : State :=
  s.coreIssue op 0x06 true fun s =>
    let r := s.greg op.ring op.dst ||| s.operandB op
    (s.set (SY_CTX.G op.ring op.dst) r).setFlags op.ring (logicFlags r)

def cmp (op : Op) (s : State) : State :=
  s.coreIssue op 0x07 true fun s =>
    s.setFlags op.ring (subFlags (s.greg op.ring op.dst) (s.operandB op))

/-- R49, R96: the words of ring `r` from its head to the tail of the snapshot. -/
def State.snapLeft (s : State) (r : Nat) : Nat :=
  ((s.ring r).snap + 2 ^ 24 - s.get (QU_HEAD.HEAD r)) % 2 ^ 24

/-- R96, R115: whether the branch may be executed: an offset from 1 to 255, and in queue mode a
taken target not beyond the snapshot tail. -/
def State.branchLegal (s : State) (op : Op) : Bool :=
  decide (1 ≤ op.imm9) && decide (op.imm9 ≤ 255) &&
    (!s.condition op.ring op.dst || s.resident op.ring || decide (op.imm9 ≤ s.snapLeft op.ring))

def br (op : Op) (s : State) : State :=
  let taken := s.condition op.ring op.dst
  s.coreIssue op 0x08 (s.branchLegal op) fun s =>
    s.when taken (·.moveOn op.ring (op.imm9 - 1))

/-- The counter LC`k` of ring `r`, 0 when idle. -/
def State.loopCount (s : State) (r k : Nat) : Nat := (s.ring r).lc.getD k 0

/-- LC`k` of ring `r` takes `n`, and SY_FLAGSr.LC shows whether it is active (R116). -/
def State.setLoopCount (s : State) (r k n : Nat) : State :=
  (s.setRing r { s.ring r with lc := (s.ring r).lc.set k n }).setMaskBit (SY_FLAGS.LC r) k (n != 0)

/-- R97: LOOP, legal only in a resident program (R115). -/
def loop (op : Op) (s : State) : State :=
  let p := (s.ring op.ring).pc
  s.coreIssue op 0x09 (s.resident op.ring) fun s =>
    let n := s.loopCount op.ring op.dst
    let n := (if n = 0 then op.word 1 else n) - 1
    let s := s.setLoopCount op.ring op.dst n
    if n = 0 then s
    else s.setRing op.ring { s.ring op.ring with pc := ofSigned 14 ((p : Int) + imm9Signed op.imm9) }

/-- R98: WAITT, legal in queue mode (R115). -/
def waitt (op : Op) (s : State) : State :=
  s.coreIssue op 0x0A (!s.resident op.ring) fun s =>
    let n := match op.ext with
      | [] => op.imm9
      | w :: _ => w.toNat
    s.setRing op.ring { s.ring op.ring with wait := .ticks ((s.tickCount + max n 1) % 2 ^ 32) }

/-- R99: WAITE, legal in queue mode (R115). -/
def waite (op : Op) (s : State) : State :=
  s.coreIssue op 0x0B (!s.resident op.ring) fun s =>
    let target := if op.imm9 = 0 then none else some ((s.tickCount + op.imm9) % 2 ^ 32)
    s.setRing op.ring { s.ring op.ring with wait := .event (op.word 1) (s.get TM_EVSEQ.SEQ) target op.dst }

/-- R100: SIGNAL posts status 0x01 and result B at issue. -/
def signal (op : Op) (s : State) : State :=
  let b := s.operandB op
  s.corePost op 0x0C true fun s ref => (s.add (QU_OUT.OUT op.ring) 1).post ref 0x01 b

/-- R101: FENCE, legal in queue mode (R115). -/
def fence (op : Op) (s : State) : State :=
  s.corePost op 0x0D (!s.resident op.ring) fun s ref =>
    let n := s.get (QU_OUT.OUT op.ring)
    let s := s.add (QU_OUT.OUT op.ring) 1
    if n = 0 then s.post ref 0x01 0
    else s.setRing op.ring { s.ring op.ring with wait := .fence ref n }

/-- R8: opcode 0x3F completes with status 0x00 and counts as a violation. -/
def reservedOpcode (op : Op) (s : State) : State :=
  s.issue op 0x3F 20 fun s ref => s.illegal ref

/-- R98: the target edge of a WAITT: the ring resumes. A frozen ring waits on (R109). -/
def waittExpiry (r : Nat) (s : State) : State :=
  match (s.ring r).wait with
  | .ticks t => if t = s.tickCount ∧ ¬ s.frozen then s.setRing r { s.ring r with wait := .none } else s
  | _ => s

/-- R99: the timeout edge of a WAITE without a match: T sets and the ring resumes. A frozen ring waits on
(R109), and so does a WAITE without a timeout. -/
def waiteTimeout (r : Nat) (s : State) : State :=
  match (s.ring r).wait with
  | .event _ _ (some t) _ =>
      if t = s.tickCount ∧ ¬ s.frozen then (s.set (SY_FLAGS.T r) 1).setRing r { s.ring r with wait := .none } else s
  | _ => s

/-- R99: whether the log shows an event of sequence number `seq` that ends a WAITE for `want`, raised after the
issue, at which the next event was to be number `since`. -/
def State.raisedFor (s : State) (want since seq : Nat) : Bool :=
  decide ((seq + 2 ^ 24 - since) % 2 ^ 24 < 2 ^ 23) && s.log.any fun e => e.seq == seq && eventMatches want e.code

/-- R99: a match, with the event's sequence number. An event's own raising brings the match (`State.raiseFrom`), so only
an event that the log shows, and that has matched nothing, has anything left to end. A frozen ring waits on (R109). -/
def waiteMatchEvent (r seq : Nat) (s : State) : State :=
  match (s.ring r).wait with
  | .event want since _ dst => if s.raisedFor want since seq && !s.frozen then s.waiteMatch r seq dst else s
  | _ => s

def execNop (op : Op) (s : State) : Outcome State Fault Refusal := .next (nop op s)
def execLdi (op : Op) (s : State) : Outcome State Fault Refusal := .next (ldi op s)
def execMov (op : Op) (s : State) : Outcome State Fault Refusal := .next (mov op s)
def execAdd (op : Op) (s : State) : Outcome State Fault Refusal := .next (add op s)
def execSub (op : Op) (s : State) : Outcome State Fault Refusal := .next (sub op s)
def execAnd (op : Op) (s : State) : Outcome State Fault Refusal := .next (andInstr op s)
def execOr (op : Op) (s : State) : Outcome State Fault Refusal := .next (orInstr op s)
def execCmp (op : Op) (s : State) : Outcome State Fault Refusal := .next (cmp op s)
def execBr (op : Op) (s : State) : Outcome State Fault Refusal := .next (br op s)
def execLoop (op : Op) (s : State) : Outcome State Fault Refusal := .next (loop op s)
def execWaitt (op : Op) (s : State) : Outcome State Fault Refusal := .next (waitt op s)
def execWaite (op : Op) (s : State) : Outcome State Fault Refusal := .next (waite op s)
def execSignal (op : Op) (s : State) : Outcome State Fault Refusal := .next (signal op s)
def execFence (op : Op) (s : State) : Outcome State Fault Refusal := .next (fence op s)
def execReservedOpcode (op : Op) (s : State) : Outcome State Fault Refusal := .next (reservedOpcode op s)
def execWaittExpiry (ring : Nat) (s : State) : Outcome State Fault Refusal := .next (waittExpiry ring s)
def execWaiteMatch (ring seq : Nat) (s : State) : Outcome State Fault Refusal := .next (waiteMatchEvent ring seq s)
def execWaiteTimeout (ring : Nat) (s : State) : Outcome State Fault Refusal := .next (waiteTimeout ring s)

/-- R101: the last outstanding earlier completion has posted. -/
def execFenceRelease (ring : Nat) (s : State) : Outcome State Fault Refusal := .next (s.fenceRelease ring)

end Sys2Proof.Machine
end

