-- ==== Sys2Proof/Machine/SmartCard.lean ====
section
/-! DEFINITION. The smart-card port (R340 to R365). -/

namespace Sys2Proof.Machine

open Reg Host

def scInactive : Nat := 0
def scActivating : Nat := 1
def scIdle : Nat := 2
def scExchange : Nat := 3
def scDeactivating : Nat := 4

def State.scState (s : State) : Nat := s.get SC_STATUS.STATE

def State.setSc (s : State) (x : SmartCard) : State := { s with sc := x }

/-- R348: `n` cycles of SC_CLK, 400 MHz over the divider in force, in units of 10 ns. -/
def State.scCycles (s : State) (n : Nat) : Nat := n * s.sc.divider / 4

/-- What the port waits for is awaited from now on. -/
def State.scAwait (s : State) : State := s.setSc { s.sc with since := s.clock }

/-! ## ISO/IEC 7816-3 (R345 to R348) -/

/-- Fi and fmax (in units of 100 kHz) of index FI, none where ISO/IEC 7816-3 reserves it
(PRESUMED: the standard's table, assumption log 20). -/
def clockRate (fi : Nat) : Option (Nat × Nat) :=
  match fi with
  | 0 => some (372, 40) | 1 => some (372, 50) | 2 => some (558, 60) | 3 => some (744, 80)
  | 4 => some (1116, 120) | 5 => some (1488, 160) | 6 => some (1860, 200) | 9 => some (512, 50)
  | 10 => some (768, 75) | 11 => some (1024, 100) | 12 => some (1536, 150) | 13 => some (2048, 200)
  | _ => none

/-- Di of index DI (PRESUMED: the standard's table, assumption log 20). -/
def bitRate (di : Nat) : Option Nat :=
  match di with
  | 1 => some 1 | 2 => some 2 | 3 => some 4 | 4 => some 8 | 5 => some 16 | 6 => some 32
  | 7 => some 64 | 8 => some 12 | 9 => some 20
  | _ => none

/-- R346: whether TA1 may be proposed or applied. -/
def ta1Usable (ta1 : Nat) : Bool :=
  match clockRate (ta1 / 16), bitRate (ta1 % 16) with
  | some (f, _), some d => decide (8 * d ≤ f)
  | _, _ => false

/-- R348: the least divider of 400 MHz that keeps within fmax. -/
def leastDivider (fd : Nat) : Nat :=
  match clockRate (fd / 16) with
  | some (_, fmax) => ceilDiv 4000 fmax
  | none => ceilDiv 4000 50

/-- One group of interface bytes: its number, the protocol the TD before it names, and TA, TB, TC. -/
structure AtrGroup where
  num : Nat
  proto : Option Nat
  ta : Option Nat
  tb : Option Nat
  tc : Option Nat
  deriving DecidableEq, Repr

/-- The byte an indicator bit promises, and the bytes after it; none where it is missing. -/
def takeIf (b : Bool) (l : List Nat) : Option (Option Nat × List Nat) :=
  if b then
    match l with
    | [] => none
    | v :: rest => some (some v, rest)
  else some (none, l)

/-- R345: the groups of interface bytes from group `num`, whose indicator is `y`, and the bytes after
them. -/
def atrGroups : Nat → Nat → Nat → Option Nat → List Nat → Option (List AtrGroup × List Nat)
  | 0, _, _, _, _ => none
  | fuel + 1, num, y, proto, l =>
      match takeIf (bitOf y 0) l with
      | none => none
      | some (ta, l) =>
        match takeIf (bitOf y 1) l with
        | none => none
        | some (tb, l) =>
          match takeIf (bitOf y 2) l with
          | none => none
          | some (tc, l) =>
            let g : AtrGroup := ⟨num, proto, ta, tb, tc⟩
            match takeIf (bitOf y 3) l with
            | none => none
            | some (none, l) => some ([g], l)
            | some (some td, l) =>
                (atrGroups fuel (num + 1) (td / 16) (some (td % 16)) l).map fun r => (g :: r.1, r.2)

def xorBytes (l : List Nat) : Nat := l.foldl (· ^^^ ·) 0

/-- What a valid ATR gives. -/
structure Atr where
  groups : List AtrGroup
  len : Nat
  inverse : Bool
  deriving DecidableEq, Repr

def Atr.protocols (a : Atr) : List Nat := a.groups.filterMap (·.proto)

/-- R345: the ATR, none where it is not valid. -/
def parseAtr (bytes : List Nat) : Option Atr :=
  match bytes with
  | ts :: t0 :: rest =>
      match atrGroups 33 1 (t0 / 16) none rest with
      | none => none
      | some (groups, tail) =>
          let a : Atr := ⟨groups, bytes.length, ts == 0x3F⟩
          let tck := a.protocols.any (· != 0)
          if (ts = 0x3B ∨ ts = 0x3F) ∧ bytes.length ≤ 33 ∧ tail.length = t0 % 16 + boolNat tck ∧
              (tck = false ∨ xorBytes (t0 :: rest) = 0) then some a
          else none
  | _ => none

def Atr.group (a : Atr) (n : Nat) : Option AtrGroup := a.groups.find? (·.num == n)

def Atr.ta1 (a : Atr) : Option Nat := (a.group 1).bind (·.ta)
def Atr.ta2 (a : Atr) : Option Nat := (a.group 2).bind (·.ta)

/-- R345: the byte of the class indicator and the clock stop indicator. -/
def Atr.classByte (a : Atr) : Option Nat :=
  (a.groups.filter (·.proto == some 15)).findSome? (·.ta)

/-- R345: the classes the card allows, as a mask with A at bit 0. -/
def Atr.classMask (a : Atr) : Nat := (a.classByte.getD 7) % 8

/-- The groups for T=1: after a TD naming T=1, from the third on. -/
def Atr.t1Groups (a : Atr) : List AtrGroup := a.groups.filter fun g => g.proto == some 1 && decide (3 ≤ g.num)

/-- R346: the protocol chosen: 1 T=1, 0 raw mode; none makes the ATR invalid. -/
def Atr.protocol (a : Atr) (raw : Bool) : Option Nat :=
  if raw then some 0
  else
    match a.ta2 with
    | some t => if t % 16 ≤ 1 then some (t % 16) else none
    | none => some (boolNat (a.protocols.contains 1))

/-- R346: the parameters: FI and DI to apply at once, IMPL, and the TA1 to propose by PPS. -/
def Atr.parameters (a : Atr) (raw nopps : Bool) : Nat × Bool × Option Nat :=
  match a.ta2 with
  | some t =>
      if bitOf t 4 then (0x11, true, none)
      else
        match a.ta1 with
        | some v => if ta1Usable v then (v, false, none) else (0x11, true, none)
        | none => (0x11, false, none)
  | none =>
      match a.ta1 with
      | some v =>
          if !ta1Usable v then (0x11, true, none)
          else if raw || nopps || v == 0x11 then (0x11, false, none)
          else (0x11, false, some v)
      | none => (0x11, false, none)

/-! ## Deactivation (R357 to R360) -/

/-- R341: the code on SC_VSEL1 and SC_VSEL0 for a class. -/
def classVsel (cls : Nat) : Nat := 3 - cls

/-- R341: the current limit of a class, in mA. -/
def classLimit (cls : Nat) : Nat := if cls = 1 then 60 else if cls = 2 then 50 else 30

/-- R341: the window of a class at SC_VCC, in VM8's codes (10.24 codes per 100 mV). -/
def classWindow (cls : Nat) : Nat × Nat :=
  match cls with
  | 1 => (roundDiv (450 * 1024) 1000, roundDiv (550 * 1024) 1000)
  | 2 => (roundDiv (270 * 1024) 1000, roundDiv (330 * 1024) 1000)
  | _ => (roundDiv (162 * 1024) 1000, roundDiv (198 * 1024) 1000)

/-- R344: the port holds SC_VCC low between two attempts of a SCACT. -/
def State.scHolds (s : State) : Bool := s.scState == scInactive && s.sc.wait == .retry

/-- R344: the deactivation under way is that of a failed attempt, with an allowed class left. -/
def State.scRetries (s : State) : Bool := s.sc.status == 0x54 && s.sc.cold && s.sc.classes != 0 && s.sc.op.isSome

/-- R357, R359: a deactivation starts with `cause`, and `status` for the instruction in progress. One that comes between two
attempts of a SCACT ends it: no further class is tried (assumption log 46). -/
def State.scDeactivate (s : State) (cause status : Nat) : State :=
  if s.scState = scActivating ∨ s.scState = scIdle ∨ s.scState = scExchange then
    ((s.set SC_STATUS.STATE scDeactivating).set SC_STATUS.CLKSTOP 0).setSc
      { s.sc with cause := cause, status := status, wait := .none }
  else if s.scState = scDeactivating then s.setSc { s.sc with classes := 0 }
  else if s.scHolds then (s.setSc { s.sc with op := none, wait := .none, classes := 0 }).postOpt s.sc.op status 0
  else s

/-- R358: the result of the instruction in progress. -/
def State.scResult (s : State) : Nat :=
  match s.sc.op with
  | some ref => if ref.opcode = 0x22 then s.get SC_RXCOUNT.N else 0
  | none => 0

/-- R357 step 5, R358, R360: SC_VCC is below 0.4 V. After a failed attempt with a class left the SCACT goes on, and SC_VCC
stays there for 10 ms (R344). -/
def scDeactivationDone (s : State) : State :=
  if s.scState = scDeactivating ∧ s.scRetries = true then
    let s := (s.set SC_STATUS.STATE scInactive).setSc { s.sc with wait := .retry, since := s.clock }
    ((s.wantRail 8 false).forceChannel 8 none).raise 0x584 s.sc.cause (s.get SC_STATUS.CLASS) 0
  else if s.scState = scDeactivating then
    let sc := s.sc
    let result := s.scResult
    let s := (s.set SC_STATUS.STATE scInactive).setSc { sc with op := none, deacts := [] }
    let s := (s.wantRail 8 false).forceChannel 8 none
    let posted := if sc.op.isSome then sc.status else 0
    let s := s.raise 0x584 sc.cause (s.get SC_STATUS.CLASS) posted
    let s := s.postAll ((sc.op.toList.map fun r => (r, sc.status, result)) ++ sc.deacts.map fun r => (r, 0x01, 0))
    if s.flag SC_STATUS.RELREQ then
      if sc.cause = 2 ∨ sc.cause = 3 then s.releaseEnd 4
      else if sc.cause = 4 then s
      else (s.raise 0x587 0 0 0).releaseSafe 1
    else s
  else s

/-- R360: a raised request deactivates the idle port. -/
def State.scReleaseIdle (s : State) : State :=
  if s.flag SC_STATUS.RELREQ ∧ s.scState = scIdle then s.scDeactivate 5 0x53 else s

/-- R360: a request is raised for this port. -/
def State.scReleaseRaise (s : State) : State :=
  let s := s.set SC_STATUS.RELREQ 1
  if s.scState = scInactive ∧ s.scHolds = false then (s.raise 0x587 0 0 0).releaseSafe 1 else s.scReleaseIdle

/-! ## Activation (R344 to R348) -/

/-- R344: the first class to try of a mask, in the order C, B, A. -/
def nextClass (mask : Nat) : Option Nat :=
  if bitOf mask 2 then some 3 else if bitOf mask 1 then some 2 else if bitOf mask 0 then some 1 else none

/-- R344, steps 1 to 4: an attempt with class `cls`, at the initial etu. -/
def State.scAttempt (s : State) (cls : Nat) : State :=
  let s := (((s.set SC_STATUS.STATE scActivating).set SC_STATUS.CLASS cls).set SC_FD.FD 0x11).wantRail 8 true
  let s := s.forceChannel 8 (some (classWindow cls))
  s.scAwait.setSc { s.scAwait.sc with
    wait := .atr, classes := clearBit s.sc.classes (cls - 1), tried := setBit s.sc.tried (cls - 1),
    divider := s.get SC_CLKCFG.ACTDIV, vsel := classVsel cls }

/-- R344, R357: an attempt fails. -/
def State.scAttemptFails (s : State) : State := s.scDeactivate 6 0x54

/-- R362: the result word of SCACT. -/
def State.scactResult (s : State) : Nat :=
  boolNat s.sc.ifsdFail * 2 ^ 21 + boolNat s.sc.impl * 2 ^ 20 + boolNat (s.sc.x != 0) * 2 ^ 19 +
    boolNat s.sc.ppsDone * 2 ^ 18 + s.get SC_STATUS.CLASS * 2 ^ 16 + s.get SC_STATUS.INV * 2 ^ 15 +
    s.get SC_STATUS.T1 * 2 ^ 14 + s.get SC_ATRLEN.LEN * 2 ^ 8 + s.get SC_FD.FD

/-- R340, R344 step 9: IDLE, and SCACT completes. -/
def State.scActivated (s : State) : State :=
  let op := s.sc.op
  let r := s.scactResult
  let s := (s.set SC_STATUS.STATE scIdle).setSc { s.sc with op := none, wait := .none }
  let s := s.raise 0x583 r s.sc.tried (s.get SC_ATRLEN.LEN)
  (s.postOpt op (if s.sc.impl || s.sc.ifsdFail then 0x02 else 0x01) r).scReleaseIdle

/-- One bit of the CRC below. -/
def blockCrcShift : Nat → Nat → Nat
  | 0, c => c
  | n + 1, c => blockCrcShift n (if c % 2 = 1 then (c / 2) ^^^ 0x8408 else c / 2)

/-- R347: the CRC of ISO/IEC 7816-3, which is the 16-bit one of ISO/IEC 13239 (PRESUMED: the standards' text, assumption
log 51). -/
def blockCrc (bytes : List Nat) : Nat :=
  (bytes.foldl (fun c b => blockCrcShift 8 (c ^^^ b % 256)) 0xFFFF) ^^^ 0xFFFF

/-- R347: the error detection code in force over a block's bytes. -/
def State.blockEdc (s : State) (bytes : List Nat) : List Nat :=
  if s.flag SC_STATUS.CRC then [blockCrc bytes % 256, blockCrc bytes / 256] else [xorBytes bytes]

/-- R349: a block is sent. -/
def State.sendBlock (s : State) (pcb : Nat) (inf : List Nat) : State :=
  let body := [s.get SC_CFG.NAD, pcb, inf.length] ++ inf
  s.setSc { s.sc with sent := body ++ s.blockEdc body, since := s.clock }

/-- R344 step 8: the clock moves to the run rate, and the IFSD is negotiated. -/
def State.scRunRate (s : State) : State :=
  let s := s.setSc { s.sc with divider := max s.sc.rundiv (leastDivider (s.get SC_FD.FD)) }
  if s.flag SC_STATUS.T1 ∧ s.get SC_CFG.IFSD ≠ 32 then
    (s.sendBlock 0xC1 [s.get SC_CFG.IFSD]).setSc
      { (s.sendBlock 0xC1 [s.get SC_CFG.IFSD]).sc with wait := .ifs, attempts := 0 }
  else s.scActivated

/-- R347: the parameters of the chosen protocol are shown. -/
def State.scProtocol (s : State) (a : Atr) (proto : Nat) : State :=
  let g := a.t1Groups
  let n := ((a.group 1).bind (·.tc)).getD 0
  let tb := ((g.findSome? (·.tb)).getD 0x4D)
  let s := s.set SC_STATUS.T1 proto
  let s := s.setFlag SC_STATUS.CRC (proto == 1 && bitOf ((g.findSome? (·.tc)).getD 0) 0)
  let s := (s.set SC_T1.IFSC (if proto = 1 then (g.findSome? (·.ta)).getD 32 else 0)).set SC_T1.N n
  let s := (s.set SC_T1.CWI (if proto = 1 then tb % 16 else 0)).set SC_T1.BWI (if proto = 1 then tb / 16 else 0)
  ((s.set SC_SEQ.DEV 0).set SC_SEQ.CARD 0).setSc
    { s.sc with wi := ((a.group 2).bind (·.tc)).getD 10 }

/-- R345: a valid ATR is copied. -/
def State.scCopyAtr (s : State) (bytes : List Nat) (a : Atr) : State :=
  let s := (List.range 11).foldl (fun s i => s.set (SC_ATR.ATR i) ((packBytes bytes).getD i 0)) s
  (s.set SC_ATRLEN.LEN bytes.length).setFlag SC_STATUS.INV a.inverse

/-- R346: what a valid ATR sets. -/
def State.scTakeAtr (s : State) (a : Atr) (proto : Nat) : State :=
  let (fd, impl, propose) := a.parameters s.sc.raw s.sc.nopps
  let s := (s.scProtocol a proto).set SC_FD.FD fd
  let s := s.setSc { s.sc with
    impl := impl, ifsdFail := false, ppsDone := false, x := (a.classByte.getD 0) / 64 % 4 }
  match propose with
  | some ta1 =>
      let body := [0xFF, 0x10 + proto, ta1]
      s.setSc { s.sc with wait := .pps, proposed := ta1, sent := body ++ [xorBytes body], since := s.clock }
  | none => s.scRunRate

/-- R344: the supply that the present attempt needs: EN8 is good; a warm reset keeps it. -/
def State.scSupplied (s : State) : Bool := !s.sc.cold || s.portPowered 8

/-- R344, R345: an answer to reset. `clean`: every character has correct parity and the leading edges
are at most 9,600 etu apart. -/
def scAtr (bytes : List Nat) (clean : Bool) (s : State) : State :=
  if s.scState = scActivating ∧ s.sc.wait = .atr ∧ s.scSupplied = true then
    match parseAtr bytes with
    | none => s.scAttemptFails
    | some a =>
        match a.protocol s.sc.raw with
        | none => s.scAttemptFails
        | some proto =>
            if !clean then s.scAttemptFails
            else
              let s := s.scCopyAtr bytes a
              if bitOf a.classMask (s.get SC_STATUS.CLASS - 1) then s.scTakeAtr a proto
              else (s.setSc { s.sc with classes := s.sc.classes &&& a.classMask }).scAttemptFails
  else s

/-- R344: an attempt fails where SC_VCC is not in its window 500 µs after EN8 is good, or TS does not come 40,000 cycles
after SC_RST, which itself waits for 40,000: a cold attempt no sooner than the first, a warm reset the second. -/
def scAtrTimeout (s : State) : State :=
  if s.scState = scActivating ∧ s.sc.wait = .atr ∧ s.scSupplied = true then
    s.onTime (s.sc.since + if s.sc.cold then 50000 else s.scCycles 80000) (·.scAttemptFails)
  else s

/-- R344: SC_VCC was below 0.4 V for 10 ms: the next allowed class. -/
def scClassRetry (s : State) : State :=
  if s.scHolds then
    s.onTime (s.sc.since + 1000000) fun s =>
      match nextClass s.sc.classes with
      | some cls => s.scAttempt cls
      | none => s
  else s

/-- R346: the card's PPS response. -/
def scPpsResponse (bytes : List Nat) (s : State) : State :=
  if s.scState = scActivating ∧ s.sc.wait = .pps then
    let proto := s.get SC_STATUS.T1
    let bare := [0xFF, proto]
    if bytes = s.sc.sent then
      ((s.set SC_FD.FD s.sc.proposed).setSc { s.sc with ppsDone := true }).scRunRate
    else if bytes = bare ++ [xorBytes bare] then
      ((s.set SC_FD.FD 0x11).setSc { s.sc with ppsDone := true }).scRunRate
    else s.scDeactivate 6 0x5D
  else s

/-- R346: no response within 9,600 etu, of 372 cycles. -/
def scPpsTimeout (s : State) : State :=
  if s.scState = scActivating ∧ s.sc.wait = .pps then
    s.onTime (s.sc.since + s.scCycles (9600 * 372)) (·.scDeactivate 6 0x5D)
  else s

/-- R344, R361, R362: SCACT. -/
def scact (op : Op) (s : State) : State :=
  s.issue op 0x20 (unitCost 0x20) fun s ref =>
    let cold := bitOf op.src 0
    let legal :=
      if cold then
        s.powerIn [standby, active, quiet, maint] && s.scState == scInactive && !s.scHolds && s.flag SC_STATUS.PRESENT &&
          !s.flag SC_STATUS.RELREQ
      else s.scState == scIdle && !s.flag SC_STATUS.RELREQ
    s.judge ref op.ext.isEmpty (op.imm9 == 0) true legal (!cold || op.dst != 0) 0x50 fun s =>
      let s := s.set SC_STATUS.STATE scActivating
      let s := s.setSc { s.sc with
        op := some ref, cold := cold, raw := bitOf op.src 2, nopps := bitOf op.src 1, impl := false,
        ifsdFail := false, ppsDone := false, rundiv := if cold then s.get SC_CLKCFG.RUNDIV else s.sc.rundiv,
        classes := if cold then op.dst else 0, tried := if cold then 0 else s.sc.tried }
      if cold then
        match nextClass op.dst with
        | some cls => s.scAttempt cls
        | none => s
      else
        ((s.set SC_STATUS.CLKSTOP 0).set SC_FD.FD 0x11).setSc
          { s.sc with wait := .atr, divider := s.get SC_CLKCFG.ACTDIV, since := s.clock }

/-! ## Exchange (R349 to R356) -/

/-- R340: the exchange ends without deactivation. -/
def State.scDone (s : State) (status : Nat) : State :=
  let op := s.sc.op
  let s := (s.set SC_STATUS.STATE scIdle).setSc { s.sc with op := none, wait := .none }
  (s.postOpt op status (s.get SC_RXCOUNT.N)).scReleaseIdle

/-- R349: the I-block from the first unacknowledged command byte. -/
def State.sendI (s : State) : State :=
  let n := min (s.get SC_T1.IFSC) (s.sc.len - s.sc.acked)
  let more := decide (s.sc.acked + n < s.sc.len)
  let inf := (s.stream cmdBuffer s.sc.len).drop s.sc.acked |>.take n
  let s := s.sendBlock (s.get SC_SEQ.DEV * 0x40 + boolNat more * 0x20) inf
  s.setSc { s.sc with lastLen := n, lastMore := more, lastAcked := false, lastI := s.sc.sent }

/-- R350: the last I-block, sent again. -/
def State.resendI (s : State) : State := s.setSc { s.sc with sent := s.sc.lastI, since := s.clock }

/-- R350: N(S) of the device's last I-block: SC_SEQ's, until that block is acknowledged. -/
def State.lastNs (s : State) : Nat := if s.sc.lastAcked then 1 - s.get SC_SEQ.DEV else s.get SC_SEQ.DEV

/-- An R-block with the expected N(S) and `code`. -/
def State.sendR (s : State) (code : Nat) : State :=
  let pcb := 0x80 + s.get SC_SEQ.CARD * 0x10 + code
  let s := s.sendBlock pcb []
  s.setSc { s.sc with lastR := some pcb }

/-- R350: one more failure on the block now awaited. -/
def State.scFails (s : State) : State := s.setSc { s.sc with attempts := s.sc.attempts + 1 }

/-- R351: the next S(RESYNCH request), or after three the deactivation. -/
def State.scResynch (s : State) : State :=
  if s.sc.resynch < 3 then
    let s := s.sendBlock 0xC0 []
    s.setSc { s.sc with resynch := s.sc.resynch + 1, wtx := 1 }
  else
    let s := (s.add SC_RESYNCHS.COUNT 1).raise 0x586 s.sc.resynch 0 0
    s.scDeactivate 7 0x56

/-- R351: S(RESYNCH response). -/
def State.scResynched (s : State) : State :=
  let s := (s.add SC_RESYNCHS.COUNT 1).raise 0x586 s.sc.resynch 1 0
  let s := (s.set SC_SEQ.DEV 0).set SC_SEQ.CARD 0
  s.scDone (if s.sc.aborting then 0x5B else 0x55)

/-- R350: an invalid block or a BWT expiry. -/
def State.scInvalid (s : State) (code : Nat) : State :=
  if s.sc.resynch ≠ 0 then s.scResynch
  else if s.sc.attempts < 3 then (s.scFails.add SC_RBLK.COUNT 1).sendR code
  else s.scResynch

/-- R350: an acknowledgement or a request to retransmit, with N(R) `nr`. -/
def State.scRBlock (s : State) (nr : Nat) : State :=
  if s.sc.aborting then
    (s.scFails.add SC_RETX.COUNT 1).sendBlock 0xC2 []
  else if nr = s.lastNs then (s.scFails.add SC_RETX.COUNT 1).resendI
  else if s.sc.lastMore ∧ s.sc.lastAcked = false then
    let s := s.set SC_SEQ.DEV (1 - s.get SC_SEQ.DEV)
    (s.setSc { s.sc with acked := s.sc.acked + s.sc.lastLen, lastAcked := true, attempts := 0 }).sendI
  else s.scInvalid 2

/-- R350: the card's I-block acknowledges the device's last one. -/
def State.scAckI (s : State) : State :=
  if s.sc.lastAcked then s
  else
    (s.set SC_SEQ.DEV (1 - s.get SC_SEQ.DEV)).setSc
      { s.sc with acked := s.sc.acked + s.sc.lastLen, lastAcked := true }

/-- R350, R355: a card I-block. -/
def State.scIBlock (s : State) (ns : Nat) (more : Bool) (inf : List Nat) : State :=
  if s.sc.aborting ∨ (s.sc.lastAcked = false ∧ s.sc.lastMore = true) then s.scInvalid 2
  else if ns = s.get SC_SEQ.CARD then
    let s := s.scAckI
    let n := s.get SC_RXCOUNT.N
    let s := s.putStreamFrom rspBuffer n (inf.take (8192 - n))
    let s := s.padStream rspBuffer (min (n + inf.length) 8192) fun _ => false
    let s := (s.set SC_RXCOUNT.N (min (n + inf.length) 8192)).set SC_SEQ.CARD (1 - s.get SC_SEQ.CARD)
    let s := s.setSc { s.sc with attempts := 0 }
    if 8192 < n + inf.length then
      (s.setSc { s.sc with aborting := true }).sendBlock 0xC2 []
    else if more then s.sendR 0
    else s.scDone 0x01
  else
    let s := (s.scFails.add SC_DUPS.COUNT 1).add SC_RETX.COUNT 1
    match s.sc.lastR with
    | some pcb => s.sendBlock pcb []
    | none => s.sendR 0

/-- R350: a valid block with `pcb` and `inf`. -/
def State.scBlock (s : State) (pcb : Nat) (inf : List Nat) : State :=
  if s.sc.resynch ≠ 0 then
    if pcb = 0xE0 ∧ inf = [] then s.scResynched else s.scResynch
  else if pcb < 0x80 ∧ pcb % 0x20 = 0 then s.scIBlock (pcb / 0x40) (bitOf pcb 5) inf
  else if (pcb / 0x20 = 4 ∧ pcb % 0x10 ≤ 2) ∧ inf = [] then s.scRBlock (pcb / 0x10 % 2)
  else
    match pcb, inf with
    | 0xC3, [n] => (s.sendBlock 0xE3 [n]).setSc { (s.sendBlock 0xE3 [n]).sc with wtx := max n 1 }
    | 0xC1, [n] =>
        if 0x10 ≤ n ∧ n ≤ 0xFE then (s.set SC_T1.IFSC n).sendBlock 0xE1 [n] else s.scInvalid 2
    | 0xC2, [] => (s.sendBlock 0xE2 []).scDone 0x58
    | 0xE2, [] => if s.sc.aborting then s.scDone 0x5B else s.scInvalid 2
    | _, _ => s.scInvalid 2

/-- The IFSD in force: SC_CFG's once it is negotiated. -/
def State.ifsd (s : State) : Nat :=
  if s.sc.ifsdFail || s.scState == scActivating then 32 else s.get SC_CFG.IFSD

/-- R350: the PCB and INF of a received block, or the error code of an R-block: 1 parity or EDC, 2
another error. -/
def State.readBlock (s : State) (bytes : List Nat) (parity gap : Bool) : Except Nat (Nat × List Nat) :=
  let n := bytes.length - (if s.flag SC_STATUS.CRC then 2 else 1)
  let body := bytes.take n
  let len := body.getD 2 0
  if parity || decide (n < 3) || bytes.drop n != s.blockEdc body then .error 1
  else if gap || len == 255 || decide (s.ifsd < len) || body.length != 3 + len then .error 2
  else .ok (body.getD 1 0, body.drop 3)

/-- R344 step 8: the S(IFS request) fails once more; after three tries IFSD 32 is used. -/
def State.scIfsFails (s : State) : State :=
  if s.sc.attempts < 3 then (s.scFails.add SC_RETX.COUNT 1).sendBlock 0xC1 [s.get SC_CFG.IFSD]
  else (s.setSc { s.sc with ifsdFail := true }).scActivated

/-- R350, R351: a block from the card. -/
def scBlockReceived (bytes : List Nat) (parity gap : Bool) (s : State) : State :=
  if s.scState = scExchange ∧ s.sc.wait = .data ∧ s.flag SC_STATUS.T1 = true then
    let s := s.setSc { s.sc with wtx := 1 }
    match s.readBlock bytes parity gap with
    | .ok (pcb, inf) => s.scBlock pcb inf
    | .error code => s.scInvalid code
  else if s.scState = scActivating ∧ s.sc.wait = .ifs then
    match s.readBlock bytes parity gap with
    | .ok (pcb, inf) =>
        if pcb = 0xE1 ∧ inf = [s.get SC_CFG.IFSD] then s.scActivated
        else if pcb = 0xC3 then s.sendBlock 0xE3 inf
        else s.scIfsFails
    | .error _ => s.scIfsFails
  else s

/-- Fi and Di in force. -/
def State.scRates (s : State) : Nat × Nat :=
  (((clockRate (s.get SC_FD.FD / 16)).getD (372, 50)).1, (bitRate (s.get SC_FD.FD % 16)).getD 1)

/-- R347, R350: the end of the BWT from the block last sent, with its WTX factor. -/
def State.bwtEnd (s : State) : Nat :=
  let (f, d) := s.scRates
  s.sc.since + s.sc.wtx * s.scCycles (11 * f / d + 2 ^ s.get SC_T1.BWI * 960 * 372)

/-- R350: the BWT passes without a block. -/
def scBwtExpiry (s : State) : State :=
  if s.scState = scExchange ∧ s.sc.wait = .data ∧ s.flag SC_STATUS.T1 = true then
    s.onTime s.bwtEnd fun s => (s.setSc { s.sc with wtx := 1 }).scInvalid 2
  else if s.scState = scActivating ∧ s.sc.wait = .ifs then s.onTime s.bwtEnd (·.scIfsFails)
  else s

/-- R353: every command byte has been sent. -/
def State.rawSent (s : State) : Bool := s.sc.len == s.sc.sentRaw

/-- R353, R354: a raw character: one received (`sent` false) with value `v`, or a sent one; `ok`: no
parity error and no error signal. All command bytes are sent before the first is received. -/
def scRawCharacter (sent ok : Bool) (v : Nat) (s : State) : State :=
  if s.scState = scExchange ∧ s.flag SC_STATUS.T1 = false ∧ s.rawSent ≠ sent then
    let s := s.scAwait
    if !ok then
      if s.sc.tries + 1 < 5 then s.setSc { s.sc with tries := s.sc.tries + 1 }
      else (s.add SC_PARERR.COUNT 1).scDone 0x59
    else
      let s := s.setSc { s.sc with tries := 0 }
      if sent then s.setSc { s.sc with sentRaw := s.sc.sentRaw + 1 }
      else if s.sc.rxMax = 0 then s
      else
        let n := s.get SC_RXCOUNT.N
        let s := (s.putStreamByte rspBuffer n v).padStream rspBuffer (n + 1) fun _ => false
        let s := s.set SC_RXCOUNT.N (n + 1)
        if n + 1 = s.sc.rxMax then s.scDone 0x01 else s
  else s

/-- R353: WT passes with no character. -/
def scWtExpiry (s : State) : State :=
  if s.scState = scExchange ∧ s.flag SC_STATUS.T1 = false ∧ s.sc.rxMax ≠ 0 ∧ s.rawSent = true then
    s.onTime (s.sc.since + s.scCycles (960 * s.sc.wi * s.scRates.1)) (·.scDone 0x01)
  else s

/-- R353: with RXMAX 0 the last character has been sent. -/
def State.scRawSent (s : State) : State :=
  if s.scState = scExchange ∧ s.flag SC_STATUS.T1 = false ∧ s.sc.rxMax = 0 ∧ s.rawSent = true then s.scDone 0x01 else s

/-- R352: SC_XFRTO passes from the issue. -/
def scXfrTimeout (s : State) : State :=
  if s.scState = scExchange then s.onTime (s.sc.began + s.get SC_XFRTO.S * 100000000) (·.scDeactivate 7 0x57) else s

/-- R349, R353, R355, R361, R362: SCXFR. -/
def scxfr (op : Op) (s : State) : State :=
  s.issue op 0x22 (unitCost 0x22) fun s ref =>
    let len := op.word 1
    let rxMax := op.word 2
    let t1 := s.flag SC_STATUS.T1
    let fields := op.dst == 0 && op.src == 0 && op.imm9 == 0 && decide (len < 2 ^ 14) && decide (rxMax < 2 ^ 14)
    let legal := s.scState == scIdle && !s.flag SC_STATUS.RELREQ
    s.judge ref (op.ext.length == 2) fields true legal (if t1 then rxMax == 0 else decide (rxMax ≤ 8192)) 0x50 fun s =>
      if 8192 < len then s.post ref 0x5A 0
      else
        let s := (s.set SC_STATUS.CLKSTOP 0).set SC_RXCOUNT.N 0
        if len = 0 ∧ rxMax = 0 then s.post ref 0x01 0
        else
          let s := (s.set SC_STATUS.STATE scExchange).setSc { s.sc with
            op := some ref, wait := .data, len := len, rxMax := rxMax, acked := 0, lastLen := 0,
            lastMore := false, lastAcked := false, lastR := none, attempts := 0, resynch := 0,
            aborting := false, wtx := 1, tries := 0, sentRaw := 0, began := s.clock, since := s.clock }
          if t1 then s.sendI else s.setSc { s.sc with sent := s.stream cmdBuffer len }

/-! ## Clock, deactivation by command, removal and faults -/

/-- R348: the level at which SCCLK STOP stops SC_CLK. -/
def State.clockStopHigh (s : State) : Bool :=
  match s.sc.x with
  | 1 => false
  | 2 => true
  | _ => s.flag SC_CFG.STOPLVL

/-- R348, R361, R362: SCCLK. -/
def scclk (op : Op) (s : State) : State :=
  s.issue op 0x23 (unitCost 0x23) fun s ref =>
    let range :=
      if op.dst = 3 then
        decide (20 ≤ op.imm9) && decide (op.imm9 ≤ 400) && decide (leastDivider (s.get SC_FD.FD) ≤ op.imm9)
      else (op.dst == 1 || op.dst == 2) && op.imm9 == 0
    s.judge ref op.ext.isEmpty (op.src == 0) true (s.scState == scIdle) range 0x50 fun s =>
      if op.dst = 1 then
        if s.sc.x = 0 then s.post ref 0x5C 0
        else ((s.set SC_STATUS.CLKSTOP 1).setSc { s.sc with clkHigh := s.clockStopHigh }).post ref 0x01 0
      else if op.dst = 2 then (s.set SC_STATUS.CLKSTOP 0).post ref 0x01 0
      else (s.setSc { s.sc with divider := op.imm9, rundiv := op.imm9 }).post ref 0x01 0

/-- R357, R358, R361, R362: SCDEACT. -/
def scdeact (op : Op) (s : State) : State :=
  s.issue op 0x21 (unitCost 0x21) fun s ref =>
    s.judge ref op.ext.isEmpty (op.dst == 0 && op.src == 0 && op.imm9 == 0) true true true 0x50 fun s =>
      if s.scState = scInactive then s.post ref 0x01 0
      else (s.setSc { s.sc with deacts := s.sc.deacts ++ [ref] }).scDeactivate 1 0x53

/-- R343: the present level has held for SC_DETDB. -/
def scCardInserted (s : State) : State :=
  if s.coreUp = true ∧ s.flag SC_STATUS.PRESENT = false then
    ((s.set SC_STATUS.PRESENT 1).add SC_INSERTS.COUNT 1).raise 0x581 1 0 0
  else s

/-- R343: a removal edge. -/
def scCardRemoved (s : State) : State :=
  if s.coreUp = true ∧ s.flag SC_STATUS.PRESENT = true then
    let s := (s.set SC_STATUS.PRESENT 0).add SC_REMOVALS.COUNT 1
    let s := s.raise 0x582 s.scState (s.get SC_RXCOUNT.N) 0
    (s.scDeactivate 2 0x52).releaseRemoved 1
  else s

/-- R341, R358: a supply fault: 1 low, 2 high, 3 current, with SC_VCC in units of 10 mV and the
current in mA. -/
def State.scVccFault (s : State) (kind vcc ma : Nat) : State :=
  if s.scState = scActivating ∨ s.scState = scIdle ∨ s.scState = scExchange then
    (s.raise 0x585 kind vcc ma).scDeactivate 3 0x51
  else s

/-- R269, R341: a fault that VM8's flag or the current limit reports while the switch is closed. -/
def scSupplyFault (kind vcc ma : Nat) (s : State) : State :=
  let limited := kind = 3 ∧ classLimit (s.get SC_STATUS.CLASS) ≤ ma
  if s.portPowered 8 = true ∧ (limited ∨ (kind ≠ 3 ∧ s.channelFlag 8 = kind)) then s.scVccFault kind vcc ma else s

/-- R361: a write of value `v` to the port's slot at block offset `o`. -/
def scWrite (w : Writer) (o v m : Nat) (s : State) : Option State :=
  let off := 0xB000 + o
  let idle := s.scState == scInactive
  if o = 0x004 then 
    s.writeWhere (fun f => idle && (f.key != SC_CFG.IFSD.key || f.within v 32 254)) w off v m
  else if o = 0x008 then
    s.writeWhere (fun f => idle && f.within v (if f.key = SC_CLKCFG.RUNDIV.key then 20 else 80) 400) w off v m
  else if o = 0x018 then s.writeIf (idle && SC_XFRTO.S.within v 1 600) w off v m
  else if o = 0x01C then s.writeIf (idle && SC_DETDB.MS.within v 10 500) w off v m
  else s.plainWrite w off v m

/-- R356: whether a keyed write to the command window is ignored. -/
def State.scCommandBusy (s : State) : Bool :=
  match s.sc.op with
  | some ref => ref.opcode == 0x22
  | none => false

def execScCardInserted (s : State) : Outcome State Fault Refusal := .next (scCardInserted s)
def execScCardRemoved (s : State) : Outcome State Fault Refusal := .next (scCardRemoved s)
def execScactCold (op : Op) (s : State) : Outcome State Fault Refusal :=
  .next (scact { op with src := setBit op.src 0 } s)
def execScactWarm (op : Op) (s : State) : Outcome State Fault Refusal :=
  .next (scact { op with src := clearBit op.src 0 } s)
def execScAtr (bytes : List Nat) (clean : Bool) (s : State) : Outcome State Fault Refusal := .next (scAtr bytes clean s)
def execScAtrTimeout (s : State) : Outcome State Fault Refusal := .next (scAtrTimeout s)
def execScClassRetry (s : State) : Outcome State Fault Refusal := .next (scClassRetry s)
def execScPpsResponse (bytes : List Nat) (s : State) : Outcome State Fault Refusal := .next (scPpsResponse bytes s)
def execScPpsTimeout (s : State) : Outcome State Fault Refusal := .next (scPpsTimeout s)
def execScdeact (op : Op) (s : State) : Outcome State Fault Refusal := .next (scdeact op s)
def execScxfr (op : Op) (s : State) : Outcome State Fault Refusal := .next (scxfr op s)
def execScBlockReceived (bytes : List Nat) (parity gap : Bool) (s : State) : Outcome State Fault Refusal :=
  .next (scBlockReceived bytes parity gap s)
def execScBwtExpiry (s : State) : Outcome State Fault Refusal := .next (scBwtExpiry s)
def execScRawCharacter (sent ok : Bool) (v : Nat) (s : State) : Outcome State Fault Refusal :=
  .next (scRawCharacter sent ok v s)
def execScWtExpiry (s : State) : Outcome State Fault Refusal := .next (scWtExpiry s)
def execScXfrTimeout (s : State) : Outcome State Fault Refusal := .next (scXfrTimeout s)
def execScclkStop (op : Op) (s : State) : Outcome State Fault Refusal := .next (scclk { op with dst := 1 } s)
def execScclkStart (op : Op) (s : State) : Outcome State Fault Refusal := .next (scclk { op with dst := 2 } s)
def execScclkRate (op : Op) (s : State) : Outcome State Fault Refusal := .next (scclk { op with dst := 3 } s)
def execScSupplyFault (kind vcc ma : Nat) (s : State) : Outcome State Fault Refusal :=
  .next (scSupplyFault kind vcc ma s)
def execScDeactivationDone (s : State) : Outcome State Fault Refusal := .next (scDeactivationDone s)

end Sys2Proof.Machine
end

