-- ==== Sys2Proof/Machine/Faceplate.lean ====
section
/-! DEFINITION. The faceplate: indicators, their diagnosis, the release key, and release requests
(R548 to R564). -/

namespace Sys2Proof.Machine

open Reg Host

def State.setFp (s : State) (x : Faceplate) : State := { s with fp := x }

/-! ## Indicators (R548 to R554) -/

/-- R548: the indicators run, while the IO 3.3 V rail is up. -/
def State.lampsRun (s : State) : Bool := s.powerIn [standby, active, quiet, maint, restoring, saving] && s.ioUp

def State.lamp (s : State) (k : Nat) : Lamp := (sparseFind k s.fp.lamps).getD Lamp.idle

def State.setLamp (s : State) (k : Nat) (x : Lamp) : State :=
  s.setFp { s.fp with lamps := sparseStore Lamp.idle k x s.fp.lamps }

/-- R549: the setting in force on channel `k`: the one before the last write up to the next tick edge. -/
def State.lampSet (s : State) (k : Nat) : Nat :=
  if (s.lamp k).setTick = some s.tick.edges then (s.lamp k).prev else s.get (FP_IND_A.SET k)

/-- R549: FP_INDk_A is about to be written. -/
def State.noteSet (s : State) (k : Nat) : State :=
  s.setLamp k { s.lamp k with prev := s.lampSet k, setTick := some s.tick.edges }

/-- R563: the MA of channel `k`. -/
def State.lampMa (s : State) (k : Nat) : Nat := bitsOf (s.lampSet k) 16 5

/-- R549, R554: the DUTY in force on channel `k`. -/
def State.lampDuty (s : State) (k : Nat) : Nat :=
  if s.fp.saving ∧ s.flag (FP_IND_B.SAVEEN k) = true then s.get (FP_IND_B.SAVEDUTY k)
  else bitsOf (s.lampSet k) 0 11

/-- R549, R554: whether channel `k` is lit during its on periods. -/
def State.lampLit (s : State) (k : Nat) : Bool := s.lampMa k != 0 && s.lampDuty k != 0

/-- R549, R554, R560: the BLINK in force on channel `k`: steady while saving, and the channel FBIND shows a
release request at 4 Hz and its safe end steadily. -/
def State.lampBlink (s : State) (k : Nat) : Nat :=
  if s.fp.saving ∧ s.flag (FP_IND_B.SAVEEN k) = true then 0
  else if s.flag FP_KEYCFG.FBEN = true ∧ s.get FP_KEYCFG.FBIND = k ∧ s.flag FP_STATUS.RELREQ = true then 4
  else if s.flag FP_KEYCFG.FBEN = true ∧ s.get FP_KEYCFG.FBIND = k ∧ s.fp.steady.isSome = true then 0
  else bitsOf (s.lampSet k) 21 3

/-- R549: whether the blink of channel `k` is in an on phase, the first one beginning with its setting (assumption
log 103). -/
def State.lampPhase (s : State) (k : Nat) : Bool :=
  let b := s.lampBlink k
  let from_ := ((s.lamp k).setTick.map (· + 1)).getD 0
  b == 0 || (s.tick.edges - from_) / max (s.get TK_RATE.RATE / 2 ^ (b - 1)) 1 % 2 == 0

/-- Whether `n` × 10 ns have passed since `since`. -/
def State.lampDue (s : State) (since : Option Nat) (n : Nat) : Bool := since.all fun t => s.due (t + n)

def lampGood : Nat := 1
def lampOpen : Nat := 2
def lampShort : Nat := 3

/-- R551: a SHORT episode of a channel takes its MA to 0. -/
def State.shortOff (s : State) (k : Nat) : State :=
  let v := s.get (FP_IND_A.SET k)
  s.set (FP_IND_A.SET k) (v - bitsOf v 16 5 * 2 ^ 16)

/-- R551: a result of channel `k`, with the pin voltage in units of 10 mV. -/
def State.lampResult (s : State) (k result pinv : Nat) : State :=
  let x := s.lamp k
  let s := (s.set (FP_IND_C.LAST k) result).set (FP_IND_C.PINV k) pinv
  if result = lampGood then
    let s := s.setLamp k { x with measured := some s.clock, bad := 0, good := x.good + 1, result := result }
    match x.fault with
    | some t =>
        if 3 ≤ x.good + 1 then
          let s := (s.setMaskBit FP_STATUS.FAULT k false).setLamp k { s.lamp k with fault := none }
          s.raise 0x902 k (min ((s.clock - t) / 100000000) 0xFFFFFF) 0
        else s
    | none => s
  else
    let s := s.setLamp k { x with measured := some s.clock, bad := x.bad + 1, good := 0, result := result }
    if x.fault.isNone ∧ 3 ≤ x.bad + 1 then
      let s := (s.setMaskBit FP_STATUS.FAULT k true).setLamp k { s.lamp k with fault := some s.clock }
      let s := s.raise 0x901 k result pinv
      s.when (decide (result = lampShort) && s.flag FP_CTL.SHORTOFF) (·.shortOff k)
    else s

/-- R550: the result of a measurement of `current` µA. -/
def State.onResult (s : State) (k current pinv : Nat) : Nat :=
  if 2 * current < 1000 * s.lampMa k then lampOpen
  else if s.get FP_DIAGV.SHORTV < pinv then lampShort
  else lampGood

/-- R550: a period of channel `k`, each of 1 ms, with at least 12 µs of on-time. -/
def indicatorMeasurement (k current pinv : Nat) (s : State) : State :=
  if s.lampsRun = true ∧ k < 8 ∧ s.lampLit k = true ∧ 13 ≤ s.lampDuty k ∧ s.lampPhase k = true ∧
      s.lampDue (s.lamp k).pulseAt 100000 = true then
    (s.setLamp k { s.lamp k with pulseAt := some s.clock }).lampResult k (s.onResult k current pinv) pinv
  else s

/-- R552: a stretched pulse of channel `k`, once every PERIOD. -/
def provingPulse (k current pinv : Nat) (s : State) : State :=
  if s.lampsRun = true ∧ k < 8 ∧ s.flag (FP_IND_B.PROVE k) = true ∧ s.lampLit k = true ∧ s.lampDuty k ≤ 12 ∧
    s.lampPhase k = true ∧
      s.lampDue (s.lamp k).provedAt (100000000 * s.get (FP_IND_B.PERIOD k)) = true then
    (s.setLamp k { s.lamp k with provedAt := some s.clock }).lampResult k (s.onResult k current pinv) pinv
  else s

/-- R553: a probe of channel `k`, once every PERIOD, which needs 220 µs of off-time. -/
def offStateProbe (k pinv : Nat) (s : State) : State :=
  if s.lampsRun = true ∧ k < 8 ∧ s.flag (FP_IND_B.PROBE k) = true ∧
    (s.lampLit k = false ∨ s.lampPhase k = false ∨ s.lampDuty k ≤ 798) ∧
      s.lampDue (s.lamp k).probedAt (100000000 * s.get (FP_IND_B.PERIOD k)) = true then
    let result :=
      if pinv < 30 then lampOpen else if s.get FP_DIAGV.SHORTV < pinv then lampShort else lampGood
    (s.setLamp k { s.lamp k with probedAt := some s.clock }).lampResult k result pinv
  else s

/-- R551: how long a result of channel `k` is read, in units of 10 ns. -/
def State.lampValid (s : State) (k : Nat) : Nat :=
  if s.flag (FP_IND_B.PROVE k) || s.flag (FP_IND_B.PROBE k) then
    100000000 * max 2 (s.get (FP_IND_B.PERIOD k) + 1)
  else 200000000

/-- R551, R563: what FP_DIAG reads for channel `k`. -/
def State.lampDiag (s : State) (k : Nat) : Nat :=
  match (s.lamp k).measured with
  | some t => if s.clock - t < s.lampValid k then s.get (FP_IND_C.LAST k) else 0
  | none => 0

def State.diag (s : State) : Nat := ((List.range 8).map fun k => s.lampDiag k * 4 ^ k).sum

/-- R563: the age of channel `k`'s result, in units of 10 ms, held. -/
def State.lampAge (s : State) (k : Nat) : Nat :=
  match (s.lamp k).measured with
  | some t => min ((s.clock - t) / 1000000) 1023
  | none => 0

/-- R549, R562: the channels of `mask` take the setting `v`. -/
def State.setLamps (s : State) (mask v : Nat) : State :=
  (List.range 8).foldl (fun (s : State) k => s.when (bitOf mask k) fun s => (s.noteSet k).set (FP_IND_A.SET k) v) s

/-- R549, R563: whether a setting lies within its ranges. -/
def lampSetOk (v : Nat) : Bool :=
  decide (bitsOf v 21 3 ≤ 4) && decide (bitsOf v 16 5 ≤ 20) && decide (bitsOf v 0 11 ≤ 1024)

/-- R561: the states in which FPIND SET is legal. -/
def State.lampsSettable (s : State) : Bool := s.powerIn [standby, active, quiet, maint, restoring]

/-- R561, R562: FPIND. -/
def fpind (op : Op) (s : State) : State :=
  s.issue op 0x3C (unitCost 0x3C) fun s ref =>
    let set := op.dst == 1
    let v := op.word 1
    s.judge ref (op.ext.length == boolNat set || (op.dst != 2 && op.ext.length == 1))
      (op.src == 0 && op.imm9 / 256 == 0 && (op.dst != 2 || op.imm9 == 0) && (!set || bitsOf v 11 5 == 0)) true
      (!set || s.lampsSettable)
      ((set || op.dst == 2) && (!set || (op.imm9 % 256 != 0 && lampSetOk v))) 0xC0 fun s =>
        if set then
          let s := s.setLamps op.imm9 v
          s.setFp { s.fp with sets := s.fp.sets ++ [(ref, s.tick.edges)] }
        else s.post ref 0x01 s.diag

/-- R549, R562: the settings of the oldest FPIND SET are in effect; none before the edge after it. -/
def fpindDone (s : State) : State :=
  match s.fp.sets with
  | (ref, t) :: rest => if t = s.tick.edges then s else (s.setFp { s.fp with sets := rest }).post ref 0x01 0
  | [] => s

/-! ## Release requests (R558, R559) -/

/-- The ports of `target` in state INACTIVE. -/
def State.portsInactive (s : State) : Nat :=
  boolNat (s.scState == scInactive && !s.scHolds) + 2 * boolNat (s.mcState == mcInactive)

/-- R558: a request is raised, by a touch (1) or FPKEY (2). -/
def State.raiseRequest (s : State) (how : Nat) : State :=
  s.oneCycle fun s =>
    let t := s.get FP_KEYCFG.TARGET
    let s := s.set FP_STATUS.RELREQ 1
    let s := (s.when (bitOf t 0) (·.set SC_STATUS.RELREQ 1)).when (bitOf t 1) (·.set MC_STATUS.RELREQ 1)
    let s := s.setFp { s.fp with
      target := t, safe := 0, resting := s.portsInactive &&& t, raisedAt := s.clock, steady := none }
    let s := s.raise 0x904 t how 0
    (s.when (bitOf t 0) (·.scReleaseRaise)).when (bitOf t 1) (·.mcReleaseRaise)

/-- R558: whether a named port has begun deactivation since the request was raised. -/
def State.releaseBegun (s : State) : Bool :=
  let off := s.portsInactive + boolNat (s.scState == scDeactivating) + 2 * boolNat (s.mcState == mcDeactivating)
  off &&& s.fp.target &&& (3 - s.fp.resting) != 0

/-! ## The release key (R555 to R557) -/

/-- R548, R554: the key is sampled. -/
def State.keyRuns (s : State) : Bool := s.powerIn [standby, active, quiet, maint, restoring] && s.ioUp

def State.keyDelta (s : State) : Int := s.getS FP_DELTA.CNT

/-- R555: FP_DELTA follows; a sample below TOUCHTHR ends the run of a touch (R557). -/
def State.showDelta (s : State) : State :=
  let s := s.setS FP_DELTA.CNT ((s.get FP_SAMPLE.CNT : Int) - s.get FP_BASE.CNT)
  s.when (decide (s.keyDelta < s.get FP_TOUCHTHR.CNT)) fun s => s.setFp { s.fp with lowAt := s.clock }

/-- R555: a sample. -/
def State.takeSample (s : State) (sample : Nat) : State := (s.set FP_SAMPLE.CNT (min sample 4095)).showDelta

/-- R556: an update of the baseline loop with demand `d`. -/
def State.baselineLoop (s : State) (d : Int) : State :=
  if s.flag FP_CTL.BLLOOP then
    let lo := s.get FP_BLMIN.CNT
    let r := loopUpdate lo (s.get FP_BLMAX.CNT) d (s.flag FP_STATUS.BLPINNED) s.fp.calm
    let s := ((s.setS FP_BASE.CNT r.out).setFlag FP_STATUS.BLPINNED r.pinned).setFp { s.fp with calm := r.calm }
    s.showDelta.when r.event (·.raise 0x908 (boolNat (decide ((lo : Int) ≤ d))) d.toNat r.out.toNat)
  else s

/-- R556: a rebaseline. -/
def State.rebaseline (s : State) : State := s.baselineLoop (s.get FP_SAMPLE.CNT)

/-- R555: the first baseline. -/
def State.firstBaseline (s : State) (samples : List Nat) : State :=
  let mean := (samples.take 8).sum / 8
  let s := s.setFp { s.fp with based := true, updateAt := s.clock }
  let s := s.set FP_BASE.CNT (if s.flag FP_CTL.BLLOOP then mean else s.get FP_BLMAN.CNT)
  s.showDelta

/-- R556: the demand of a loop update. -/
def State.baselineDemand (s : State) : Int :=
  let base : Int := s.get FP_BASE.CNT
  if s.flag FP_STATUS.TOUCHED = false ∧ 2 * s.keyDelta.natAbs < s.get FP_TOUCHTHR.CNT then
    if 0 < s.keyDelta then base + 1 else if s.keyDelta < 0 then base - 1 else base
  else base

/-- R555, R556: `samples` since the last update: the first eight, from 10 ms after the start, make the first
baseline; after that an update follows the last of each 64, which take 320 ms. -/
def baselineUpdate (samples : List Nat) (s : State) : State :=
  match samples.getLast? with
  | none => s
  | some last =>
      if !s.keyRuns then s
      else if s.fp.based then
        if samples.length = 64 then
          s.onTime (s.fp.updateAt + 32000000) fun s =>
            let s := (s.setFp { s.fp with updateAt := s.clock }).takeSample last
            s.baselineLoop s.baselineDemand
        else s
      else if 8 ≤ samples.length then
        s.onTime (s.fp.updateAt + 4500000) fun s => (s.takeSample last).firstBaseline samples
      else s

/-- R557, R558: a touch qualifies: no sample has stood below TOUCHTHR for TOUCHMIN. -/
def keyTouch (sample : Nat) (s : State) : State :=
  if s.keyRuns = true ∧ s.fp.based = true ∧ s.due (s.fp.lowAt + 100000 * s.get FP_KEYTIME.TOUCHMIN) = true then
    let s := (s.passTo (s.fp.lowAt + 100000 * s.get FP_KEYTIME.TOUCHMIN)).takeSample sample
    if (s.get FP_TOUCHTHR.CNT : Int) ≤ s.keyDelta ∧ s.flag FP_STATUS.TOUCHED = false ∧
      s.flag FP_STATUS.STUCK = false then
      let raised := s.flag FP_STATUS.RELREQ
      let raises := !raised && s.get FP_KEYCFG.TARGET != 0
      let withdraws := raised && !s.releaseBegun
      let s := ((s.set FP_STATUS.TOUCHED 1).add FP_TOUCHES.COUNT 1).setFp { s.fp with touchedAt := s.clock }
      s.oneCycle fun s =>
        let s := if raises then s.raiseRequest 1 else if withdraws then s.releaseEnd 2 else s
        s.raise 0x903 (ofSigned 24 s.keyDelta) (s.get FP_STATUS.RELREQ) 0
    else s
  else s

/-- R557: the end of a touch. -/
def keyTouchRelease (sample : Nat) (s : State) : State :=
  if s.keyRuns = true ∧ s.fp.based = true then
    let s := s.takeSample sample
    let thr := s.get FP_TOUCHTHR.CNT
    s.when (decide (s.keyDelta < (thr - thr / 8 : Nat))) (·.set FP_STATUS.TOUCHED 0)
  else s

/-- R557: the second of two samples at or below −ANTITHR. -/
def keyAntiTouch (sample : Nat) (s : State) : State :=
  if s.keyRuns = true ∧ s.fp.based = true then
    let s := s.takeSample sample
    if s.keyDelta ≤ -(s.get FP_ANTITHR.CNT : Int) then
      let delta := s.keyDelta
      let old := s.get FP_BASE.CNT
      s.oneCycle fun s =>
        let s := ((s.set FP_STATUS.TOUCHED 0).set FP_STATUS.STUCK 0).rebaseline
        s.raise 0x907 (ofSigned 24 delta) old (s.get FP_BASE.CNT)
    else s
  else s

/-- R557: a touch still held HOLDMAX seconds after it qualified. -/
def keyHeldStuck (sample : Nat) (s : State) : State :=
  let by_ := s.fp.touchedAt + 100000000 * s.get FP_KEYTIME.HOLDMAX
  if s.keyRuns = true ∧ s.flag FP_STATUS.TOUCHED = true ∧ s.due by_ = true then
    let s := (s.passTo by_).takeSample sample
    let delta := s.keyDelta
    let old := s.get FP_BASE.CNT
    s.oneCycle fun s =>
      let s := (((s.set FP_STATUS.STUCK 1).set FP_STATUS.TOUCHED 0).add FP_STUCKS.COUNT 1).rebaseline
      s.raise 0x906 (ofSigned 24 delta) old 0
  else s

/-- R560: 60 s of the steady indication have passed. -/
def feedbackSteadyTimeout (s : State) : State :=
  match s.fp.steady with
  | some (_, t) => s.onTime (t + 6000000000) fun s => s.setFp { s.fp with steady := none }
  | none => s

/-! ## FPKEY (R561, R562) -/

/-- R561: an ACTION outside its list has no condition of its own (R655). -/
def State.fpkeyLegal (s : State) (action : Nat) : Bool :=
  match action with
  | 1 => s.get FP_KEYCFG.TARGET != 0 && !s.flag FP_STATUS.RELREQ
  | 2 => s.flag FP_STATUS.RELREQ && !s.releaseBegun
  | 3 => s.flag FP_CTL.BLLOOP
  | _ => true

/-- R563: FP_STATUS. -/
def State.fpStatus (s : State) : Nat :=
  s.get FP_STATUS.BLPINNED * 2 ^ 11 + s.get FP_STATUS.STUCK * 2 ^ 10 + s.get FP_STATUS.TOUCHED * 2 ^ 9 +
    s.get FP_STATUS.RELREQ * 2 ^ 8 + s.get FP_STATUS.FAULT

def fpkey (op : Op) (s : State) : State :=
  s.issue op 0x3D (unitCost 0x3D) fun s ref =>
    s.judge ref op.ext.isEmpty (op.src == 0 && op.imm9 == 0) true (s.fpkeyLegal op.dst)
      (decide (1 ≤ op.dst) && decide (op.dst ≤ 4)) 0xC0 fun s =>
        if op.dst = 1 then (s.raiseRequest 2).post ref 0x01 0
        else if op.dst = 2 then (s.releaseEnd 3).post ref 0x01 0
        else if op.dst = 3 then s.rebaseline.post ref 0x01 0
        else s.post ref 0x01 s.fpStatus

/-! ## Writes (R15, R561) -/

/-- R15, R556: FP_CTL and FP_BLMAN. -/
def State.baselineManual (s : State) (was : Bool) : State :=
  if s.flag FP_CTL.BLLOOP then
    if was then s
    else (s.set FP_BASE.CNT (clampNat (s.get FP_BLMIN.CNT) (s.get FP_BLMAX.CNT) (s.get FP_BLMAN.CNT))).showDelta
  else
    let s := s.setFp { s.fp with calm := 0 }
    ((s.set FP_BASE.CNT (s.get FP_BLMAN.CNT)).setFlag FP_STATUS.BLPINNED false).showDelta

/-- R561: a write of value `v` to the faceplate's slot at block offset `o`. -/
def fpWrite (w : Writer) (o v m : Nat) (s : State) : Option State :=
  let off := 0x12000 + o
  if 0x100 ≤ o ∧ o < 0x180 then
    if o % 16 = 0 then (s.noteSet ((o - 0x100) / 16)).writeIf (lampSetOk v && bitsOf v 11 5 == 0) w off v m
    else if o % 16 = 4 then
      s.writeIf ((FP_IND_B.PERIOD 0).within v 1 60 && decide ((FP_IND_B.SAVEDUTY 0).of v ≤ 1024)) w off v m
    else s.plainWrite w off v m
  else if o = 0x008 ∨ o = 0x024 then (s.plainWrite w off v m).map (·.baselineManual (s.flag FP_CTL.BLLOOP))
  else if o = 0x00C then s.writeIf (!s.flag FP_STATUS.RELREQ) w off v m
  else if o = 0x010 then s.writeIf (FP_TOUCHTHR.CNT.within v 10 2000) w off v m
  else if o = 0x014 then s.writeIf (FP_ANTITHR.CNT.within v 10 2000) w off v m
  else if o = 0x018 then
    s.writeIf (FP_KEYTIME.TOUCHMIN.within v 60 1000 && FP_KEYTIME.HOLDMAX.within v 1 600) w off v m
  else if o = 0x01C then s.writeIf (decide (FP_BLMIN.CNT.of v ≤ s.get FP_BLMAX.CNT)) w off v m
  else if o = 0x020 then s.writeIf (decide (s.get FP_BLMIN.CNT ≤ FP_BLMAX.CNT.of v)) w off v m
  else s.plainWrite w off v m

/-- R554, R559: step 1 of Pavane. -/
def State.fpFreeze (s : State) : State := s.setFp { s.fp with saving := true }

def execFpindSet (op : Op) (s : State) : Outcome State Fault Refusal := .next (fpind { op with dst := 1 } s)
def execFpindStatus (op : Op) (s : State) : Outcome State Fault Refusal := .next (fpind { op with dst := 2 } s)
def execIndicatorMeasurement (k current pinv : Nat) (s : State) : Outcome State Fault Refusal :=
  .next (indicatorMeasurement k current pinv s)
def execProvingPulse (k current pinv : Nat) (s : State) : Outcome State Fault Refusal :=
  .next (provingPulse k current pinv s)
def execOffStateProbe (k pinv : Nat) (s : State) : Outcome State Fault Refusal := .next (offStateProbe k pinv s)
def execFpkeyRaise (op : Op) (s : State) : Outcome State Fault Refusal := .next (fpkey { op with dst := 1 } s)
def execFpkeyCancel (op : Op) (s : State) : Outcome State Fault Refusal := .next (fpkey { op with dst := 2 } s)
def execFpkeyRebase (op : Op) (s : State) : Outcome State Fault Refusal := .next (fpkey { op with dst := 3 } s)
def execFpkeyStatus (op : Op) (s : State) : Outcome State Fault Refusal := .next (fpkey { op with dst := 4 } s)
def execKeyTouch (sample : Nat) (s : State) : Outcome State Fault Refusal := .next (keyTouch sample s)
def execKeyTouchRelease (sample : Nat) (s : State) : Outcome State Fault Refusal := .next (keyTouchRelease sample s)
def execKeyAntiTouch (sample : Nat) (s : State) : Outcome State Fault Refusal := .next (keyAntiTouch sample s)
def execKeyHeldStuck (sample : Nat) (s : State) : Outcome State Fault Refusal := .next (keyHeldStuck sample s)
def execBaselineUpdate (samples : List Nat) (s : State) : Outcome State Fault Refusal :=
  .next (baselineUpdate samples s)
def execFeedbackSteadyTimeout (s : State) : Outcome State Fault Refusal := .next (feedbackSteadyTimeout s)

end Sys2Proof.Machine
end

