-- ==== Sys2Proof/Machine/SideBand.lean ====
section
/-! DEFINITION. The heartbeat, stewardship and the registers of the side-band block (R573 to R580). -/

namespace Sys2Proof.Machine

open Reg Host

def State.setSb (s : State) (x : SideBand) : State := { s with sb := x }

/-! ## The heartbeat (R574) -/

def hbUnarmed : Nat := 0
def hbAlive : Nat := 1
def hbLapsed : Nat := 2
def hbOff : Nat := 3

def State.heartbeat (s : State) : Nat := s.get SB_STATUS.HB

/-- R574: what SB_HBAGE reads, in ms, held. -/
def State.hbAge (s : State) : Nat :=
  min (s.get SB_HBAGE.MS + (s.clock - s.sb.ageFrom) / 100000) 0xFFFFFF

/-- SB_HBAGE takes `ms`. -/
def State.setAge (s : State) (ms : Nat) : State :=
  (s.set SB_HBAGE.MS (min ms 0xFFFFFF)).setSb { s.sb with ageFrom := s.clock }

/-- R574: a beat. -/
def State.beat (s : State) : State :=
  let age := s.hbAge
  let hb := s.heartbeat
  let s := s.setAge 0
  if hb = hbUnarmed then s.set SB_STATUS.HB hbAlive
  else if hb = hbLapsed then (s.set SB_STATUS.HB hbAlive).raise 0x982 age (s.get SB_STATUS.STEWARD) 0
  else s

/-- R574, R578: SB_HBEAT is the main host's alone. -/
def beatWrite (w : Writer) (s : State) : Option State := if w = Writer.host then some s.beat else none

/-- R574: by the time clock, when HB lapses: SB_HBAGE at 2 × PERIOD, or the end of the boot interval. -/
def State.lapseAt (s : State) : Nat :=
  if s.heartbeat = hbAlive then s.sb.ageFrom + 100000 * (2 * s.get SB_HBCFG.PERIOD - s.get SB_HBAGE.MS)
  else s.sb.bootFrom + 100000000 * s.get SB_HBBOOT.S

/-- R574: SB_HBAGE has reached 2 × PERIOD, or, in UNARMED, the boot interval has run out. -/
def heartbeatLapse (s : State) : State :=
  let hb := s.heartbeat
  if (hb = hbAlive ∨ (hb = hbUnarmed ∧ s.get SB_HBBOOT.S ≠ 0)) ∧ s.due s.lapseAt = true then
    let s := s.passTo s.lapseAt
    let least := if hb = hbAlive then 2 * s.get SB_HBCFG.PERIOD else 0
    let s := ((s.setAge (max s.hbAge least)).set SB_STATUS.HB hbLapsed).add SB_LAPSES.COUNT 1
    s.raise 0x981 hb (s.get SB_HBAGE.MS) (s.get SB_LAPSES.COUNT)
  else s

/-- R574: HB follows a write of SB_HBCFG.EN. -/
def State.hbEnable (s : State) (en : Bool) : State :=
  if en then
    if s.heartbeat = hbOff then (s.set SB_STATUS.HB hbUnarmed).setSb { s.sb with bootFrom := s.clock } else s
  else s.set SB_STATUS.HB hbOff

/-- R9, R578: a write of SB_HBCFG by the main host. A PERIOD outside 1 to 10,000 is ignored. -/
def hbcfgWrite (w : Writer) (v m : Nat) (s : State) : Option State :=
  (s.writeWhere (fun f => decide (w = Writer.host) && (f.key != SB_HBCFG.PERIOD.key || f.within v 1 10000)) w
    0x13010 v m).map (·.hbEnable (bitOf v 23))

/-- R574, R577: the core rail starts. -/
def State.hbCoreStart (s : State) : State :=
  let s := (s.set SB_STATUS.HB (if s.flag SB_HBCFG.EN then hbUnarmed else hbOff)).setSb { s.sb with bootFrom := s.clock }
  ((s.setAge 0).set SB_STATUS.STEWARD 0).set SB_STATUS.CAUSE 0

/-- R577: the core rail stops. -/
def State.stewardAlone (s : State) : State := s.when s.steward (·.set SB_STATUS.CAUSE 2)

/-! ## Stewardship (R575 to R577) -/

/-- R575, R76: TAKE; ring 15 passes at the next tick edge unless the side-band owns it already. -/
def takeWrite (w : Writer) (s : State) : Option State :=
  if w = Writer.sideBand ∧ s.heartbeat = hbLapsed ∧ s.steward = false then
    let s := (s.set SB_STATUS.STEWARD 1).set SB_STATUS.CAUSE 1
    let s := s.raise 0x983 1 1 (s.get (QU_HEAD.HEAD 15))
    some { s with ring15 := { s.ring15 with seize := s.coreUp && !s.sideBandOwns15 } }
  else none

/-- R577: RELEASE. -/
def releaseWrite (w : Writer) (s : State) : Option State :=
  if w = Writer.sideBand ∧ s.steward = true ∧ s.flag QU_R15CTL.SEIZED = false then
    let s := (s.set SB_STATUS.STEWARD 0).set SB_STATUS.CAUSE 0
    some (s.raise 0x983 0 0 (s.get (QU_HEAD.HEAD 15)))
  else none

/-- R9, R578: a write of SB_STEWCTL: a violation where neither field is writable by `w` now. -/
def stewctlWrite (w : Writer) (v : Nat) (s : State) : Option State :=
  match takeWrite w s, releaseWrite w s with
  | none, none => none
  | some t, _ => some (if SB_STEWCTL.TAKE.of v = 1 then t else s)
  | _, some t => some (if SB_STEWCTL.RELEASE.of v = 1 then t else s)

/-- R578: a write of value `v` to the side-band block's slot at block offset `o`. -/
def sbWrite (w : Writer) (o v m : Nat) (s : State) : Option State :=
  let off := 0x13000 + o
  if o = 0x008 then stewctlWrite w (v &&& m) s
  else if o = 0x00C then
    if w = Writer.host then if bitOf (v &&& m) 0 then beatWrite w s else some s else none
  else if o = 0x010 then hbcfgWrite w v m s
  else if o = 0x014 then s.writeIf (decide (w = Writer.host) && SB_HBBOOT.S.within v 0 600) w off v m
  else s.plainWrite w off v m

def execHeartbeatBeat (w : Writer) (s : State) : Outcome State Fault Refusal :=
  .next (s.rowWrite w 0x1300C (beatWrite w s))
def execHeartbeatLapse (s : State) : Outcome State Fault Refusal := .next (heartbeatLapse s)
def execHeartbeatEnableWrite (w : Writer) (en : Bool) (s : State) : Outcome State Fault Refusal :=
  .next (s.rowWrite w 0x13010 (hbcfgWrite w (boolNat en * 2 ^ 23 + s.get SB_HBCFG.PERIOD) (2 ^ 24 - 1) s))
def execStewardTake (w : Writer) (s : State) : Outcome State Fault Refusal :=
  .next (s.rowWrite w 0x13008 (stewctlWrite w 1 s))
def execStewardRelease (w : Writer) (s : State) : Outcome State Fault Refusal :=
  .next (s.rowWrite w 0x13008 (stewctlWrite w 2 s))

end Sys2Proof.Machine
end

