-- ==== Sys2Proof/Machine/TickUnit.lean ====
section
/-! DEFINITION. The tick unit's arithmetic and registers (R39, R40, R46 to R48, R57 to R59). -/

namespace Sys2Proof.Machine

open Reg Host

/-- R40: TK_CYCLES at `tps` ticks per second. -/
def tickCycles (tps : Nat) : Nat := 4 * (100000000 / tps)

/-- R40: TK_BUDGET of a tick of `cycles`. -/
def tickBudget (cycles : Nat) : Nat := 9 * cycles / 10

/-- R42: the states in which ticks run are those with the core rail up. -/
def State.ticking (s : State) : Bool := s.coreUp

/-- R58: whether no ring is in resident mode. -/
def State.noneResident (s : State) : Bool := (List.range 16).all fun r => !s.resident r

/-- R58: the conditions a tick-rate change needs, at the write and at the boundary. A job that is queued and
has not begun counts as in progress (assumption log 94). -/
def State.rateMayChange (s : State) : Bool :=
  s.noneResident && !s.flag LK_STATUS.JOINED && decide (s.get AE_JOBQ.N = 0)

/-- R57, R58: a write of TK_RATE; none where it is ignored under R7. -/
def rateWrite (w : Writer) (rate : Nat) (s : State) : Option State :=
  let may := match w with
    | .sideBand => s.mayRwm w 0x1000
    | _ => true
  if may && decide (1000 ≤ rate) && decide (rate ≤ 40000) && s.rateMayChange then
    let v := match w with
      | .ring r => (3, 0, r * 2 ^ 16 + 0x0F)
      | _ => (writerKind w, 1, 0x1000)
    let s := { s with tick := { s.tick with rateWriter := v } }
    some ((s.set TK_PENDRATE.RATE rate).setFlag TK_STATUS.RATE_PEND (rate != s.get TK_RATE.RATE))
  else none

/-- R46: the sum of the sixteen shares. -/
def State.shareSum (s : State) : Nat := ((List.range 16).map fun r => s.get (TK_SHARE.SHARE r)).sum

/-- R47: every bound program still fits its ring's committed share. -/
def State.boundFit (s : State) (r : Nat) : Bool :=
  !s.resident r || decide (s.get (SY_PG_C.WCOST (s.ring r).prog) ≤ s.shareCycles r)

/-- R46, R47: the share writes of one burst, as (ring, share): the state, and the rings whose write is
ignored. A write below its ring's bound program falls alone; the others are judged as a set. -/
def sharesApply (w : Writer) (shares : List (Nat × Nat)) (s : State) : State × List Nat :=
  let may := match w with
    | .sideBand => s.mayRwm w 0x1040
    | _ => true
  let fits := shares.filter fun (r, v) => (s.set (TK_SHARE.SHARE r) v).boundFit r
  let t := fits.foldl (fun s (r, v) => s.set (TK_SHARE.SHARE r) v) s
  if may && decide (t.shareSum ≤ 900) then
    (t, (shares.filter fun (r, v) => !(s.set (TK_SHARE.SHARE r) v).boundFit r).map (·.1))
  else (s, shares.map (·.1))

/-- R46, R47: one share write; none where it is ignored under R7. -/
def shareWrite (w : Writer) (r v : Nat) (s : State) : Option State :=
  let (t, bad) := sharesApply w [(r, v)] s
  if bad.isEmpty then some t else none

/-- R59: a write of TK_STARVE; 0 clears every TK_STARVED bit without events. -/
def starveWrite (w : Writer) (ticks : Nat) (s : State) : Option State :=
  let may := match w with
    | .sideBand => s.mayRwm w 0x102C
    | _ => true
  if may then
    let s := s.set TK_STARVE.TICKS ticks
    some (s.when (ticks % 256 = 0) (·.set TK_STARVED.RING 0))
  else none

/-- R58: a write of value `v` to the tick unit's slot at block offset `o`. -/
def tkWrite (w : Writer) (o v m : Nat) (s : State) : Option State :=
  if o = 0x000 then rateWrite w (v % 65536) s
  else if o = 0x02C then starveWrite w v s
  else if 0x040 ≤ o ∧ o < 0x080 then shareWrite w ((o - 0x40) / 4) (v % 1024) s
  else s.plainWrite w (0x1000 + o) v m

def execTkRateWrite (w : Writer) (rate : Nat) (s : State) : Outcome State Fault Refusal :=
  .next (s.rowWrite w 0x1000 (rateWrite w rate s))

/-- R46, R571: the share writes of one burst, one violation for each slot ignored. -/
def execTkShareWrite (w : Writer) (shares : List (Nat × Nat)) (s : State) : Outcome State Fault Refusal :=
  let (t, bad) := if s.coreUp then sharesApply w shares s else (s, shares.map (·.1))
  .next (t.violations (bad.map fun r => writerViolation w (0x1040 + 4 * r)))

def execTkStarveWrite (w : Writer) (ticks : Nat) (s : State) : Outcome State Fault Refusal :=
  .next (s.rowWrite w 0x102C (starveWrite w ticks s))

end Sys2Proof.Machine
end

