-- ==== Sys2Proof/Machine/Domain.lean ====
section
/-! DEFINITION. The core domain stops and starts (R585 to R587, R593). -/

namespace Sys2Proof.Machine

open Reg

/-! ## Core stop (R593) -/

/-- R593: whether the slot at `off` keeps its registers while the core rail is down: the always-on
domain, and the registers that show a record of MRAM, OTP or NAND. -/
def outlastsCore (off : Nat) : Bool :=
  alwaysOn off || off == TM_EVSEQ.SEQ.off || (decide (0x11004 ≤ off) && decide (off < 0x11010)) ||
    [SE_SEALSEQH.SEQ.off, SE_SEALSEQL.SEQ.off, SE_CARDST.ENT.off].contains off

/-- The key of a field tells its slot. -/
def keyOutlasts (k : Nat) : Bool := outlastsCore (k / 32) || k == AE_STATUS.FROZEN.key

/-- R542: the OTP programmer lies in the always-on domain: a burn that has begun ends. Whether one has,
outside the freeze, is open (assumption log 29). -/
def State.endBurn (s : State) : State :=
  match s.se.queue with
  | [] => s
  | j :: _ =>
      let (v, s) := if s.seBurns j && s.sv.pavane.isNone then s.draw else (boolNat (s.seBurns j), s)
      if v % 2 = 1 then j.finish s else s

/-- R593: what the core domain holds is lost, HP_ECCCTL.LOCK with it (assumption log 97). -/
def State.dropCore (s : State) : State :=
  { s with
    regs := s.regs.filter fun e => keyOutlasts e.1
    slots := [], rings := [], queues := [], ring15 := ⟨false, false, false⟩
    tick := .reset
    log := [], store := []
    mn := { s.mn with portForce := [], scanTick := none }
    bt := { s.bt with sampleTick := none, gaugeTick := none }
    hp := { HostPath.reset with generation := s.hp.generation }
    sh := .reset
    sv := { SaveUnit.reset with
      pavane := s.sv.pavane, record := s.sv.record, oldRecord := s.sv.oldRecord, recordAt := s.sv.recordAt }
    pw := { s.pw with pstate := [], railOns := [], railOffs := [], margins := [] }
    tm := { s.tm with tset := none, caps := [], line := [], logRead := none, slew := s.tm.slew.map fun k => { k with ref := none } }
    fp := .reset, sc := .reset, mc := .reset, ua := []
    lk := { Link.reset with record := s.lk.record }
    ae := .reset, cp := []
    se := { s.se with queue := [] }
    cycles := 0 }

/-- R593, R577: the core rail stops. The card ports give their channels and rails back (R237, R269). -/
def State.coreStop (s : State) : State :=
  if s.coreUp then
    let s := (({ s.stopLife with coreUp := false } : State).endBurn).dropCore.stewardAlone
    (((s.retune 8).retune 9).wantRail 8 false).wantRail 9 false
  else s

/-! ## Core start (R587) -/

/-- R585: the core-domain fields of the image in force, and the registers that follow from them. -/
def State.loadCore (s : State) : State :=
  let s := s.applyRecords (fun off => !alwaysOn off) s.se.inForce
  let cycles := tickCycles (s.get TK_RATE.RATE)
  let s := ((s.set TK_CYCLES.CYCLES cycles).set TK_BUDGET.BUDGET (tickBudget cycles)).set TK_PENDRATE.RATE
    (s.get TK_RATE.RATE)
  let s := (s.shadowManual false).setFlag TM_STATUS.LOGSTOP false
  let s := s.when (!s.flag LK_CTL.BOLOOP) fun s => s.set LK_BONOW.CYC (s.get LK_BOMAN.CYC)
  let s := s.when (!s.flag FP_CTL.BLLOOP) (·.baselineManual false)
  let s := [0, 1, 2, 3].foldl (fun (s : State) p =>
    if s.get (UA_CFGA.DIV p) = 0 then s
    else
      s.uaConfigure p (s.get (UA_CFGA.DIV p)) (s.get (UA_CFGB.CFG p))
        (s.get (UA_CFGC.LEAD p) * 2 ^ 16 + s.get (UA_CFGC.TAIL p) * 2 ^ 8)
        (s.get (UA_CFGD.TXTRIG p) * 2 ^ 7 + s.get (UA_CFGD.RXTRIG p))) s
  s.lkLoadRecord

/-- R587: the events deferred to the core start, in ascending code. -/
def State.raiseDeferred (s : State) (from_ : Nat) : State :=
  let (s, torn) := s.countTorn
  let resumed :=
    if from_ = saved ∨ from_ = latched then
      [(0x50C, s.get TM_SAVTCXO.MIN, s.get TM_SAVXT.MIN, s.get TM_ERRBOUND.T)]
    else []
  let slots := s.se.torn.map fun k => (0x887, k, 0, 0)
  let events := s.tm.deferred ++ torn ++ resumed ++ slots
  let s := ({ s with tm := { s.tm with deferred := [] } } : State).setSe { s.se with torn := [] }
  s.raiseAll events

/-- R311: Wellhead, stopped in DORMANT and OFF, begins at time 0. -/
def State.startTime (s : State) : State :=
  if s.running then s
  else
    let s := { s with now := 0, frac := 0, running := true, tm := { s.tm with second := 0 } }
    (((s.set TM_STATUS.QUAL 0).set TM_CLASS.CLASS 0).set TM_EVSEQ.SEQ 0).showXtal

/-- R595: SY_STARTINFO.KIND of a core start from power state `from_`; it reads 0 from the cold start to the
first core start. -/
def State.startKind (s : State) (from_ : Nat) : Nat :=
  if s.get SY_STARTINFO.KIND = 0 then 1
  else if from_ = saved then 3
  else if from_ = latched then 4
  else 2

/-- R587, steps 1 and 2: EN0 is good in a wake. -/
def State.coreStart (s : State) : State :=
  if s.coreUp then s
  else
    let from_ := s.power
    let kind := s.startKind from_
    let s := { s with coreUp := true, mn := { s.mn with readAt := [] }, fp := { s.fp with updateAt := s.clock } }
    let s := s.loadCore.startTime
    let s := (s.add SY_CORESTARTS.COUNT 1).set SY_STARTINFO.KIND kind
    let s := (s.set SV_LASTSAVE.STATE s.sv.record.saveState).hbCoreStart
    (s.raise 0x004 kind from_ (s.get SY_STARTINFO.PSRC)).raiseDeferred from_

end Sys2Proof.Machine
end

