-- ==== Sys2Proof/Machine/Stop.lean ====
section
/-! DEFINITION. Power states entered, rails released, and stop sequences (R237, R242, R249). -/

namespace Sys2Proof.Machine

open Reg Host

/-! ## States and the shared fault line (R20, R249, R252) -/

/-- R248, R249: whether the device asserts FAULT_n, and the level of the line. -/
def State.showFaultLine (s : State) : State :=
  let episode := s.flag PW_STATUS.FAULTEP &&
    (List.range 12).any fun k => bitOf s.pw.faulted k && s.flag (PW_RAIL_A.FAULTN k)
  let held := (s.power == latched && s.flag PW_STATUS.LATCHED) || (s.power == saved && s.flag PW_STATUS.HOLDWAKE)
  let out := episode || (s.flag PW_FAULTCFG.FLATCH && held)
  (s.setFlag PW_STATUS.FAULTOUT out).setFlag PW_STATUS.FLINE (out || s.pw.lineLow)

/-- R248: FAULT_SEEN: the line is low and the device does not assert it, or a line seen low is high again. -/
def State.watchLine (s : State) : State :=
  if s.pw.lineSeen then
    if s.flag PW_STATUS.FLINE then s
    else ({ s with pw := { s.pw with lineSeen := false } } : State).raise 0x38A 0 0 0
  else if s.pw.lineLow && !s.flag PW_STATUS.FAULTOUT then
    ({ s with pw := { s.pw with lineSeen := true } } : State).raise 0x38A 1 0 0
  else s

/-- R250, R251: MG`m` goes to nominal; the window of its rail, moved by `step`, stays until that has settled. -/
def State.marginBack (s : State) (m step : Nat) : State :=
  let k := s.get (PW_MG.RAIL m)
  let s := s.setRail k { s.rail k with inFor := 0 }
  ({ s with pw := { s.pw with returning := sparsePut k (step, s.pw.evals) s.pw.returning } } : State).set
    (PW_MG.STEP m) 0

/-- R251, R605: every margin output returns to nominal and a waiting MARGIN ends with 0x31. -/
def State.marginsNominal (s : State) : State :=
  let waiting := s.pw.margins
  let s := { s with pw := { s.pw with margins := [] } }
  let s := (List.range 4).foldl (fun (s : State) m =>
    if s.get (PW_MG.STEP m) = 0 then s else s.marginBack m (s.get (PW_MG.STEP m))) s
  s.postAll (waiting.map fun w => (w.ref, 0x31, s.railResult (s.get (PW_MG.RAIL w.channel))))

/-- R251, R252, R267, R288: the power state changes. -/
def State.enterState (s : State) (new cause : Nat) : State :=
  let old := s.power
  let s := s.when (old == maint && new != maint) (·.marginsNominal)
  let s := (s.set PW_STATE.PREV old).set PW_STATE.STATE new
  (s.raise 0x388 old new cause).dropFlags.followPath.showFaultLine

/-! ## One rail -/

def railOff : Nat := 0
def railWaiting : Nat := 1
def railStarting : Nat := 2
def railGood : Nat := 3
def railFaulty : Nat := 4
def railStopping : Nat := 5
def railStuck : Nat := 6
def railIsolated : Nat := 7

/-- R257: the state code of rail `k`. -/
def State.railState (s : State) (k : Nat) : Nat := s.get (PW_RAIL_C.STATE k)

def State.setRailState (s : State) (k st : Nat) : State := s.set (PW_RAIL_C.STATE k) st

/-- Whether EN`k` is asserted. -/
def State.railOn (s : State) (k : Nat) : Bool := s.maskBit PW_ON.EN k

/-- R242, step 1: rail `k` is released. EN0 takes the core domain with it, EN2 the time sources, EN10 the
TCXO. -/
def State.releaseRail (s : State) (k : Nat) : State :=
  let s := (s.setMaskBit PW_ON.EN k false).setRailState k railStopping
  let s := s.setRail k { s.rail k with
    dis := s.flag (PW_RAIL_A.DISEN k), target := false, offto := s.get (PW_RAIL_B.OFFTO k),
    offpct := s.get (PW_RAIL_B.OFFPCT k), offAt := s.pw.evals }
  let s := s.retune k
  let s := s.when (k == 2) fun s => s.dropSources.uaStopAll
  let s := s.when (k == 10) (·.showXtal)
  s.when (k == 0) (·.coreStop)

/-- R242, step 2: rail `k` is below its off-threshold. An isolated EN11 stays so (R245). -/
def State.railFallen (s : State) (k : Nat) : State :=
  let s := s.setRailState k (if k = 11 ∧ s.pw.isolated = true then railIsolated else railOff)
  let s := s.setMaskBit PW_GOOD.RAIL k false
  let s := s.setRail k { s.rail k with dis := false, goodFor := 0, inFor := 0 }
  (s.retune k).dropFlag k

/-- R257: the RAIL OFFs that wait for EN11's stop complete. -/
def State.endRailOffs (s : State) (k status result : Nat) : State :=
  if k = 11 then
    let refs := s.pw.railOffs
    ({ s with pw := { s.pw with railOffs := [] } } : State).postAll (refs.map fun r => (r, status, result))
  else s

/-! ## Stop sequences (R242) -/

/-- Rails in descending start rank. -/
def State.insertByRank (s : State) (k : Nat) : List Nat → List Nat
  | [] => [k]
  | j :: rest => if (s.rail j).rank < (s.rail k).rank then k :: j :: rest else j :: s.insertByRank k rest

/-- R242: the rails with EN asserted among `among`, in descending start rank. -/
def State.stopOrder (s : State) (among : Nat → Bool) : List Nat :=
  ((List.range 12).filter fun k => s.railOn k && among k).foldl (fun l k => s.insertByRank k l) []

/-- R246: the latch record is written. -/
def State.writeLatch (s : State) : State :=
  match s.pw.latching with
  | some (cause, rail) =>
      let s := ((s.set PW_LATCH.CAUSE cause).set PW_LATCH.RAIL rail).setFlag PW_STATUS.LATCHED true
      { s with pw := { s.pw with latching := none } }
  | none => s

/-- R244: the fault episode is over. -/
def State.endEpisode (s : State) : State :=
  ({ s with pw := { s.pw with faulted := 0 } } : State).setFlag PW_STATUS.FAULTEP false

/-- R252: what the end of a stop sequence brings. For a save, Pavane's step 9 does. -/
def State.endStop (s : State) (goal : StopTo) : State :=
  match goal with
  | .saved => { s with pw := { s.pw with stop := some ⟨[], none, [], .saved⟩ } }
  | .dormant => ({ s with running := false, pw := { s.pw with stop := none } } : State).enterState dormant 1
  | .latched =>
      let s := { s with pw := { s.pw with stop := none }, sv := { s.sv with pavane := none } }
      let s := s.writeLatch.endEpisode.enterState latched 4
      let s := (s.set TM_SAVTCXO.MIN 0).set TM_SAVXT.MIN 0
      { s with tm := { s.tm with minuteFrom := s.clock } }
  | .off =>
      let s := { s with
        running := false, pw := { s.pw with stop := none }, sv := { s.sv with pavane := none }
        bt := { s.bt with hold := false } }
      s.writeLatch.endEpisode.enterState 0 5
  | .abort => { s with pw := { s.pw with stop := none } }

/-- R357, R381: whether the card port of rail `k` is still active. -/
def State.portHolds (s : State) (k : Nat) : Bool :=
  s.coreUp && ((k == 8 && s.scState != scInactive) || (k == 9 && s.mcState != mcInactive))

/-- A rail that still stops, released before the sequence began. -/
def State.stillStopping (s : State) : Option Nat := (List.range 12).find? fun k => s.railState k == railStopping

/-- R242: the next rail is released; one that has collapsed falls at once. A stop for DORMANT waits for a
card port (R357). The sequence ends after the last rail has stopped, whatever released it (R289). -/
def stopNext (goal : StopTo) (collapsed : List Nat) : List Nat → State → State
  | [], s =>
      match s.stillStopping with
      | some k => { s with pw := { s.pw with stop := some ⟨[], some k, collapsed, goal⟩ } }
      | none => s.endStop goal
  | k :: rest, s =>
      if goal = StopTo.dormant ∧ s.portHolds k = true then
        { s with pw := { s.pw with stop := some ⟨k :: rest, none, collapsed, goal⟩ } }
      else
        let s := s.releaseRail k
        if collapsed.contains k then stopNext goal collapsed rest (s.railFallen k)
        else { s with pw := { s.pw with stop := some ⟨rest, some k, collapsed, goal⟩ } }

/-- R242: the sequence goes on after rail `k`. -/
def State.stopAfter (s : State) (k : Nat) : State :=
  match s.pw.stop with
  | some st => if st.rail = some k then stopNext st.goal st.collapsed st.rails s else s
  | none => s

/-- R242: a stop that waited for a card port goes on. -/
def State.stopRetry (s : State) : State :=
  match s.pw.stop with
  | some st => if st.rail.isNone && !st.rails.isEmpty then stopNext st.goal st.collapsed st.rails s else s
  | none => s

/-- R20, R242: the running stop takes in every rail still on. -/
def State.stopAll (s : State) : State :=
  match s.pw.stop with
  | some st => ({ s with pw := { s.pw with stop := some { st with rails := s.stopOrder fun _ => true } } } : State).stopRetry
  | none => s

/-- R241, R589: the running start sequence ends: no further rail starts. -/
def State.endSequence (s : State) : State :=
  let s := (List.range 12).foldl (fun (s : State) k =>
    if s.railState k = railWaiting then (s.setRailState k railOff).wantRail k false else s) s
  ({ s with pw := { s.pw with seq := 0, wake := false } } : State).setFlag PW_STATUS.SEQ false

/-- R242: a stop sequence of the rails of `among` begins. -/
def State.beginStop (s : State) (goal : StopTo) (among : Nat → Bool) : State :=
  let s := s.endSequence.when (s.power == maint) (·.marginsNominal)
  stopNext goal [] (s.stopOrder among) s

/-- R242: a released rail is below its off-threshold, or one not yet released has collapsed, with the
reading in units of 10 mV. -/
def railOffReached (k reading : Nat) (s : State) : State :=
  if s.railState k = railStopping then ((s.railFallen k).endRailOffs k 0x01 0).stopAfter k
  else if s.railState k = railStuck then s.railFallen k
  else
    match s.pw.stop with
    | some st =>
        if st.rails.contains k && !st.collapsed.contains k then
          let s := { s with pw := { s.pw with stop := some { st with collapsed := st.collapsed ++ [k] } } }
          s.raiseFault 0x385 k (s.rail k).rank reading
        else s
    | none => s

/-- R242, step 3: the OFFTO that rail `k`'s stop began with passes, with the reading in units of 10 mV. -/
def railStuckAt (k reading : Nat) (s : State) : State :=
  if s.railState k = railStopping ∧ (s.rail k).offAt + 100 * (s.rail k).offto ≤ s.pw.evals + 1 then
    let s := (s.setRailState k railStuck).setMaskBit PW_STUCK.RAIL k true
    let s := ((s.setRail k { s.rail k with dis := true, offAt := s.pw.evals }).retune k).dropFlag k
    let s := s.raiseFault 0x384 k reading (s.rail k).offto
    (s.endRailOffs k 0x02 1).stopAfter k
  else s

/-- R242, step 3: DIS of a stuck rail ends after 100 ms. -/
def State.endDischarge (s : State) (k : Nat) : State :=
  if s.railState k = railStuck ∧ (s.rail k).dis = true ∧ (s.rail k).offAt + 10000 ≤ s.pw.evals then
    s.setRail k { s.rail k with dis := false }
  else s

def execRailOffReached (rail reading : Nat) (s : State) : Outcome State Fault Refusal :=
  .next (railOffReached rail reading s)
def execRailStuck (rail reading : Nat) (s : State) : Outcome State Fault Refusal := .next (railStuckAt rail reading s)

end Sys2Proof.Machine
end

