-- ==== Sys2Proof/Machine/Save.lean ====
section
/-! DEFINITION. Arming, the warning and Pavane (R178 to R196, R206 to R211, R589). -/

namespace Sys2Proof.Machine

open Reg Host

def svDisarmed : Nat := 0
def svArmed : Nat := 1
def svWarning : Nat := 2
def svSaving : Nat := 3
def svRestoring : Nat := 4

def State.svState (s : State) : Nat := s.get SV_STATUS.STATE

/-- R180, R185: PFW_n is asserted: a warning stands, and its rail is up. -/
def State.pfw (s : State) : Bool := s.sv.warning && s.ioUp

/-- R210: SV_STATUS as it reads. -/
def State.svStatus (s : State) : Nat :=
  s.get SV_STATUS.WIN * 2 ^ 9 + s.get SV_STATUS.STAGED * 2 ^ 8 + boolNat s.pfw * 2 ^ 7 +
    s.get SV_STATUS.IMAGE * 2 ^ 4 + s.get SV_STATUS.ARMED * 2 ^ 3 + s.svState

/-! ## Arming (R178, R206, R207) -/

/-- R178, R186: the save is armed with the operands of word 1 and GRACE. -/
def State.armSave (s : State) (ref : OpRef) (w grace : Nat) : State :=
  let s := (s.set SV_WARN.WARN w).set SV_ARMCFG.HYST (w / 2 ^ 16)
  let s := ((s.set SV_ARMCFG.LKPF (w / 2 ^ 15)).set SV_ARMCFG.GRACE grace).set SV_STATUS.ARMED 1
  let s := (s.when (s.svState == svDisarmed) (·.set SV_STATUS.STATE svArmed)).retuneVin
  let s := s.raise 0x281 1 (s.get SV_WARN.WARN) (s.get SV_ARMCFG.GRACE)
  s.post ref 0x01 s.svStatus

def State.disarmSave (s : State) (ref : OpRef) : State :=
  let s := s.set SV_STATUS.ARMED 0
  let s := s.when (s.svState == svArmed) (·.set SV_STATUS.STATE svDisarmed)
  let s := s.raise 0x281 0 (s.get SV_WARN.WARN) (s.get SV_ARMCFG.GRACE)
  s.post ref 0x01 s.svStatus

/-- R206: the legality of ARM, by action. -/
def State.armLegal (s : State) (action : Nat) : Bool :=
  s.powerIn [standby, active, quiet, maint, restoring] && s.svState != svWarning && s.sv.preSave.isNone &&
    (action != 2 || s.flag SV_STATUS.ARMED)

/-- R207: ARM's ranges. -/
def armRange (op : Op) : Bool :=
  match op.dst with
  | 1 =>
      decide (900 ≤ op.word 1 % 2 ^ 11) && decide (op.word 1 % 2 ^ 11 ≤ 1150) &&
        decide (1 ≤ bitsOf (op.word 1) 16 4) && decide (bitsOf (op.word 1) 16 4 ≤ 10) && decide (op.imm9 ≤ 50)
  | 2 => true
  | _ => false

def armReserved (op : Op) : Bool :=
  op.src == 0 && op.word 1 / 2 ^ 20 == 0 && bitsOf (op.word 1) 11 4 == 0 &&
    (op.dst != 2 || (op.word 1 == 0 && op.imm9 == 0))

/-- R207: ARM. -/
def arm (op : Op) (s : State) : State :=
  s.issue op 0x17 (unitCost 0x17) fun s ref =>
    s.judge ref (op.ext.length == 1) (armReserved op) true (s.armLegal op.dst) (armRange op) 0x45 fun s =>
      if op.dst = 1 then s.armSave ref (op.word 1) op.imm9 else s.disarmSave ref

/-! ## Pavane (R182, R187 to R193) -/

/-- R603: Galliard ends without an image; RESTORE completes with 0x47. -/
def State.stopGalliard (s : State) : State :=
  match s.sv.galliard with
  | none => s
  | some g =>
      let s := { s with sv := { s.sv with galliard := none } }
      let s := ((s.set SV_STATUS.WIN 0).set SV_STATUS.STAGED 0).set SV_STAGECTL.HOSTWIN 0
      s.post g.ref 0x47 0

/-- R101, R109: the FENCEs that wait complete with 0x03. -/
def State.freezeFences (s : State) : State :=
  (List.range 16).foldl (fun (s : State) r =>
    match (s.ring r).wait with
    | .fence ref _ => (s.setRing r { s.ring r with wait := .resume }).post ref 0x03 0
    | _ => s) s

/-- R163, R166: the barriers that wait for an earlier reference take their numbers, and the DURABLE PFENCEs that wait
complete with 0x02. -/
def State.freezeBarriers (s : State) : State :=
  let waiting := s.sh.waiting
  let s := ({ s with sh := { s.sh with waiting := [] } } : State).numberFences waiting
  let fences := s.sh.fences
  ({ s with sh := { s.sh with fences := [] } } : State).postAll (fences.map fun f => (f.1, 0x02, f.2))

/-- R131, R251, R252: ACTIVE, QUIET or MAINT is entered. HELD becomes HOST as STANDBY is left. -/
def State.enterTarget (s : State) (target : Nat) : State :=
  let s := s.when (s.power == standby && s.own == 3) (·.ownChange 0 false 8)
  s.enterState target 1

/-- R19, R254: a PSTATE that waits for self-refresh has not started and ends with 0x03; one that waits for
EN11 completes. They complete in one cycle. -/
def State.freezePstates (s : State) : State :=
  let waiting := s.pw.pstate
  let s := { s with pw := { s.pw with pstate := [] } }
  let s := (waiting.filter fun w => w.target != standby).foldl (fun (s : State) w => s.enterTarget w.target) s
  s.postAll (waiting.map fun w => if w.target = standby then (w.ref, 0x03, 0) else (w.ref, 0x01, w.target))

/-- R187, step 1: the freeze. -/
def State.freezeAll (s : State) : State :=
  let s := s.freezeFences.freezePstates.stopGalliard.freezeBarriers
  let s := (s.abandonFold 2 0x03).freezeHostPath.freezeTime
  s.uaFreeze.lkFreeze.aeFreeze.cpFreeze.seFreeze.marginsNominal.fpFreeze

/-- R445: the frame of step 4. -/
def State.pavaneNotice (s : State) (cause : Nat) (warned : Bool) : State :=
  if cause = 4 ∧ warned = false then s.lkNotice .leave
  else if s.sv.noticed then s
  else s.lkNotice (.notice 1)

/-- R187, step 8: once both ports are inactive the rails come down; EN10 stays for the TCXO period. -/
def State.pavaneDown (s : State) : State :=
  match s.sv.pavane with
  | none => s
  | some p =>
      if p.step = PavaneStep.down ∧ s.scState = scInactive ∧ s.mcState = mcInactive ∧ s.pw.stop.isNone = true then
        let off := p.packAbsent || !p.energy
        s.beginStop .saved fun k => k != 10 || off || s.get TM_TCXOMAX.H == 0
      else s

/-- R187: the step Pavane has reached. -/
def State.pavaneTo (s : State) (p : Pavane) : State := ({ s with sv := { s.sv with pavane := some p } } : State).pavaneDown

/-- R192, R193: Pavane runs on the module's remaining hold-up. A planned save with VIN present runs on VIN without a
pack too, and ends in a barrier-only commit (R606). -/
def State.withoutPack (s : State) (cause : Nat) : Bool :=
  s.flag BT_STATUS.PACK_ABSENT && !(cause == 4 && s.flag BT_STATUS.VINOK)

/-- R182, R187, R190, R192: Pavane starts with `cause`; `save` is the SAVE instruction of cause 4. From its first
cycle on the rings are frozen (R109). On the hold-up alone step 4 is not run. -/
def State.pavaneStart (s : State) (cause : Nat) (save : Option OpRef) : State :=
  let warned := s.svState == svWarning || s.sv.preSave.isSome
  let u := ceilDiv s.unshadowed (2 ^ 20)
  let packAbsent := s.withoutPack cause
  let skips := !s.flag HP_STATUS.BASE || s.get SV_STATUS.IMAGE != 0
  let p : Pavane := ⟨cause, .flush, s.now, s.get TM_STATUS.QUAL, skips, packAbsent, false, true⟩
  let s := { s with sv := { s.sv with pavane := some p } }
  let s := s.raise 0x284 cause (s.get SH_UNSHAD.MIB) (s.get SH_MARGIN.E)
  let s := s.freezeAll
  let s := (s.set SV_STATUS.STATE svSaving).enterState saving 3
  let s := s.postOpt save 0x01 (min u 0xFFFFFF)
  let s := ((s.scDeactivate 4 0x53).mcPavane).releaseEnd 5
  let s := s.blockHost.when (!packAbsent) (·.pavaneNotice cause warned)
  let s := { s with sv := { s.sv with preSave := none, lifted := true } }
  let s := s.when (skips && packAbsent) (·.queueFault 0x284 cause (s.get SH_UNSHAD.MIB) (s.get SH_MARGIN.E))
  s.pavaneTo { p with step := if skips then .down else .flush }

/-- R206, R193: SAVE. While a stop sequence runs, which a transition of the device's own or a PSTATE DORMANT began, it
is refused (R19; assumption log 100). -/
def save (op : Op) (s : State) : State :=
  s.issue op 0x1B (unitCost 0x1B) fun s ref =>
    s.judge ref (op.ext.length == 0) (op.dst == 0 && op.src == 0 && op.imm9 == 0) true
      (s.powerIn [standby, active, quiet, maint] && s.svState != svSaving && s.pw.stop.isNone) true 0
      fun s => s.pavaneStart 4 (some ref)

/-- R18, R182: whether a start cause of R182 other than SAVE starts Pavane: the save is armed, and no stop sequence for
another state runs. -/
def State.savesItself (s : State) : Bool :=
  s.coreUp && s.flag SV_STATUS.ARMED && s.sv.pavane.isNone && !s.pw.wake && s.pw.stop.isNone

/-- R180, R182, cause 1: VM13's LOW flag. -/
def criticalCondition (s : State) : State :=
  if s.savesItself && s.channelFlag 13 == 1 then s.pavaneStart 1 none else s

/-- R182, cause 2: no effect outside WARNING and a pre-save during Galliard. -/
def saveNLow (s : State) : State :=
  if s.savesItself && (s.svState == svWarning || (s.svState == svRestoring && s.sv.preSave.isSome)) then
    s.pavaneStart 2 none
  else s

/-- R182, cause 3. -/
def graceExpiry (s : State) : State :=
  match s.sv.preSave with
  | some t =>
      s.when s.savesItself fun s => s.onTime (t + 100000 * s.get SV_ARMCFG.GRACE) (·.pavaneStart 3 none)
  | none => s

/-! ## Pre-save (R181, R183, R184, R227) -/

/-- R219, R221: the codewords of a save set of `pages`, its index, the event log and both commit copies. -/
def State.saveCodewords (s : State) (pages : List Nat) : Nat :=
  (pages.filter fun p => !s.hp.dram.zeroPage p).length + ceilDiv (4 * pages.length) 4096 +
    ceilDiv (32 * s.log.length) 4096 + 2

/-- R227: the stripes that hold the present save set, its index, the event log and both commit copies. -/
def State.saveStripesNeeded (s : State) : Nat :=
  s.stripesFor (s.saveCodewords s.savePages)

/-- R181, R227: step 3: further free stripes are erased for the save. -/
def State.preErase (s : State) : State :=
  let t := (s.eraseFree (s.saveStripesNeeded - s.fl.erased.length)).showErased
  { t with sv := { t.sv with erased := (t.fl.erased.length - s.fl.erased.length) * s.stripeBlocks } }

/-- R589: a wake is cut short. -/
def State.abortWake (s : State) : State :=
  let rails := s.pw.seq
  let from_ := s.pw.seqFrom
  let s := s.queueFault 0x006 (s.get PW_GOOD.RAIL) s.vin10 s.power
  s.beginStop .abort fun k => bitOf rails k && decide (from_ ≤ (s.rail k).t0)

/-- R180, R181, R184, R287, R589: the warning condition, which VM12's LOW flag is. -/
def warningCondition (s : State) : State :=
  if s.channelFlag 12 ≠ 1 then s else
  let s := s.setFlag BT_STATUS.VINOK false
  if s.pw.wake then s.abortWake
  else if s.coreUp && !s.sv.warning && s.sv.pavane.isNone then
    let armed := s.flag SV_STATUS.ARMED
    let s := { s with sv := { s.sv with warning := true, warnFrom := s.clock, noticed := false, erased := 0 } }
    let s := s.raise 0x282 s.vin10 (s.get SH_UNSHAD.MIB) (boolNat armed)
    if armed then
      let s := s.when (s.svState == svArmed) (·.set SV_STATUS.STATE svWarning)
      let s := { s with sv := { s.sv with preSave := some s.clock, lifted := true } }
      let s := s.preErase
      if s.get SV_ARMCFG.GRACE = 0 && s.savesItself then s.pavaneStart 3 none
      else s.when (s.flag SV_ARMCFG.LKPF) (·.lkNotice (.notice 1))
    else s
  else s

/-- R183, R184: the warning is withdrawn. The stripes that pre-save erased are free ones still. -/
def State.withdrawWarning (s : State) : State :=
  let sent := s.sv.noticed
  let s := ({ s with sv := { s.sv with warning := false } } : State).add SV_WITHDRAWALS.COUNT 1
  let s := s.raise 0x283 (min ((s.clock - s.sv.warnFrom) / 100) 0xFFFFFF) s.sv.erased (boolNat sent)
  let s := s.when (s.svState == svWarning) (·.set SV_STATUS.STATE svArmed)
  let s := { s with sv := { s.sv with preSave := none, lifted := false, noticed := false, erased := 0 } }
  let s := s.setLk { s.lk with extras := s.lk.extras.filter fun e => e.what != .notice 1 }
  s.when sent (·.lkNotice (.notice 2))

/-- Since when channel `n` has been LOW, or not LOW. -/
def State.flagSince (s : State) (n : Nat) : Nat := (sparseFind n s.mn.since).getD 0

/-- R183: the grace window ends no later than `t`. -/
def State.graceBy (s : State) (t : Nat) : Bool := s.sv.preSave.any fun p => decide (p + 100000 * s.get SV_ARMCFG.GRACE ≤ t)

/-- R183: VM12's LOW flag has been clear for 2 ms. With the grace window ending in that cycle Pavane starts instead. -/
def warningWithdrawal (s : State) : State :=
  if s.sv.warning && s.sv.pavane.isNone && s.channelFlag 12 != 1 && !s.graceBy (s.flagSince 12 + 200000) then
    s.onTime (s.flagSince 12 + 200000) (·.withdrawWarning)
  else s

/-! ## The save set and the commit record (R187 steps 5 to 7, R188, R189, R195) -/

/-- Regions by PRIO, then by number. -/
def insertRegion (r : Region) : List Region → List Region
  | [] => [r]
  | q :: rest =>
      if r.prio < q.prio ∨ (r.prio = q.prio ∧ r.num < q.num) then r :: q :: rest else q :: insertRegion r rest

/-- R188: regions in the order in which they are written. -/
def saveOrder (table : List Region) : List Region := table.foldl (fun l r => insertRegion r l) []

/-- R65, R188: the pages of the save set, in its order; none beneath the open aperture. -/
def State.saveSet (s : State) : List Nat :=
  (saveOrder (s.regionTable.filter fun r => r.kind == 1 || r.kind == 2)).flatMap fun r =>
    (s.dirtyIn r.num).filter fun p => !s.beneathAperture p

/-- R221: the index entry of page `p`. -/
def indexEntry (p : Nat) (zero : Bool) : Nat := p % 2 ^ 24 + 2 ^ 24 * boolNat zero

/-- R188, R221: the index of a save set of `pages`. -/
def State.saveIndexOf (s : State) (pages : List Nat) : List Nat :=
  pages.map fun p => indexEntry p (s.hp.dram.zeroPage p)

/-- R195: a region table's 64 entries of 6 bytes. -/
def tableBytes (table : List Region) : List Nat :=
  (List.range 64).flatMap fun k =>
    match table.find? fun r => r.num == k with
    | some r => toLittleEndian 6 (r.start % 2 ^ 20 + r.count % 2 ^ 21 * 2 ^ 20 + r.kind % 4 * 2 ^ 41 + r.prio % 8 * 2 ^ 43)
    | none => zeros 6

/-- R195: bytes 0 to 479 of a commit record. -/
def Commit.body (c : Commit) : List Nat :=
  toLittleEndian 2 0xC1A9 ++ [if c.full then 1 else 2, boolNat c.pdirty + 2 * boolNat c.planned] ++
    toLittleEndian 6 c.saveSeq ++ toLittleEndian 3 c.epoch ++ toLittleEndian 3 c.gen ++ toLittleEndian 6 c.jseq ++
    toLittleEndian 6 c.bar ++ toLittleEndian 6 c.recBar ++ stampBytes c.startTime c.startQual ++
    stampBytes c.time c.qual ++ toLittleEndian 4 c.pages ++ toLittleEndian 2 c.log.length ++ zeros 6 ++
    tableBytes c.table ++ c.digest

/-- R195: the 512 bytes of a commit record. -/
def Commit.bytes (c : Commit) : List Nat := c.body ++ c.mac

/-- R195: SHA-256 over an index and a saved event log, whose entries' eight words take four bytes each (assumption log
100). -/
def saveDigest (index : List Nat) (log : List LogEntry) : List Nat :=
  sha256 (index.flatMap (toLittleEndian 4) ++ log.flatMap fun e => e.words.flatMap (toLittleEndian 4))

/-- R191: step 6 of save `p` is abandoned. `energy`: energy remains; `mram`: MRAM can still be written. -/
def State.abandonSave (s : State) (p : Pavane) (energy mram : Bool) : State :=
  let s := s.when mram fun s => s.setRecord { s.sv.record with saveState := 3 }
  (s.queueFault 0x284 p.cause (s.get SH_UNSHAD.MIB) (s.get SH_MARGIN.E)).pavaneTo
    { p with step := .down, energy := energy }

def pavaneAbandon (energy mram : Bool) (s : State) : State :=
  match s.sv.pavane with
  | some p => if p.step = PavaneStep.set then s.abandonSave p energy mram else s
  | none => s

/-- R191: the save rails. -/
def saveRails : Nat := 0x4FB

/-- R191: a save rail is out of its window. -/
def State.saveRailOut (s : State) : Bool :=
  (List.range 12).any fun k => bitOf saveRails k && s.railState k == railFaulty && (s.rail k).inFor == 0

/-- R187, R189, R191, R192: step 5 ends, the decision is taken and step 6 begins; with a save rail out of its
window it is abandoned at once. -/
def pavaneFlushDone (work : FlashWork) (s : State) : State :=
  match s.sv.pavane with
  | some p =>
      if p.step = PavaneStep.flush then
        let s := (s.flashWork 3 false work).flushAll
        if p.packAbsent then
          (s.queueFault 0x284 p.cause (s.get SH_UNSHAD.MIB) (s.get SH_MARGIN.E)).pavaneTo { p with step := .down }
        else
          let s := s.accountHoldup
          let s := s.setRecord { s.sv.record with saveSeq := s.sv.record.saveSeq + 1, saveState := 1 }
          let s := s.pavaneTo { p with step := .set, full := decide (s.eReq ≤ s.get BT_EAVAIL.E) }
          s.when s.saveRailOut (pavaneAbandon true true)
      else s
  | none => s

/-- R195: the commit record of save `p` with index `index`, sealed. -/
def State.commitRecord (s : State) (p : Pavane) (index : List Nat) : Commit :=
  let log := s.log.map fun e => { e with saved := false }
  let c : Commit :=
    { full := p.full, pdirty := s.flag SH_STATUS.PDIRTY, planned := p.cause == 4, saveSeq := s.sv.record.saveSeq
      epoch := s.get SH_EPOCH.EPOCH, gen := s.get SH_BASEGEN.GEN, jseq := s.jseq, bar := s.bar, recBar := s.recBar
      startTime := p.time, startQual := p.qual, time := s.now, qual := s.get TM_STATUS.QUAL, pages := index.length
      table := s.regionTable, digest := saveDigest index log, mac := [], log := log }
  { c with mac := hmacSha256 s.sealingKey c.body }

/-- R219: the channels of the two commit copies: two where two are in use, the lowest (assumption log 111). -/
def State.commitChannels (s : State) : List Nat :=
  match s.channelsInUse with
  | a :: b :: _ => [a, b]
  | [a] => [a, a]
  | [] => [0, 0]

/-- R188, R215, R219: the codewords of the save set of `pages`, its index, the log and both copies of commit record
`c`. -/
def State.programSave (s : State) (pages index : List Nat) (c : Commit) : State :=
  let full := pages.filter fun p => !s.hp.dram.zeroPage p
  let s := s.programAll 4 c.saveSeq (full.map fun p => (p, some (s.hp.dram.read (4096 * p) 4096)))
  let s := s.programBytes 5 c.saveSeq 0 (index.flatMap (toLittleEndian 4))
  let s := s.programBytes 6 c.saveSeq 0 (c.log.flatMap fun e => e.words.flatMap (toLittleEndian 4))
  let page := c.bytes ++ zeros (4096 - 512)
  s.programAll 7 c.saveSeq [(0, some page), (1, some page)]

/-- R187, R191, R219, R220: steps 6 and 7 end: the save set, its index, the event log and both commit copies stand in
stripes of the free pool; the save is abandoned where too few are free. -/
def saveSetWritten (work : FlashWork) (s : State) : State :=
  match s.sv.pavane with
  | some p =>
      if p.step = PavaneStep.set then
        let s := (s.flashWork 3 false work).dropSave
        let pages := if p.full then s.saveSet else []
        let n := s.saveCodewords pages
        match s.takeStripes .save (s.stripesFor n) with
        | none => s.abandonSave p true true
        | some t =>
            let index := t.saveIndexOf pages
            let c := t.commitRecord p index
            let t := (t.programSave pages index c).showErased
            let t := t.setFl { t.fl with
              saveIndex := index, saveCells := t.hp.dram.pageCells pages, commits := [some c, some c]
              commitAt := t.commitChannels }
            (t.setRecord { t.sv.record with saveState := 2 }).pavaneTo { p with step := .down }
      else s
  | none => s

/-- R187 step 9, R191, R192, R244, R246: the rails are down: SAVED, or OFF. -/
def pavaneShutdownDone (s : State) : State :=
  match s.sv.pavane, s.pw.stop with
  | some p, some st =>
      if st.goal = StopTo.saved ∧ st.rails.isEmpty = true ∧ st.rail.isNone = true then
        let s := ({ s with sv := { s.sv with pavane := none }, pw := { s.pw with stop := none } } : State).endEpisode
        if p.packAbsent || !p.energy then
          ({ s with running := false, bt := { s.bt with hold := false } } : State).enterState 0 3
        else
          let s := s.when (p.cause == 5) fun s =>
            ((s.setFlag PW_STATUS.HOLDWAKE true).set PW_LATCH.CAUSE 3).set PW_LATCH.RAIL s.pw.firstFault
          let s := (s.set TM_SAVTCXO.MIN 0).set TM_SAVXT.MIN 0
          ({ s with tm := { s.tm with savedFrom := s.clock, minuteFrom := s.clock } } : State).enterState saved 3
      else s
  | _, _ => s

def execArm (op : Op) (s : State) : Outcome State Fault Refusal := .next (arm { op with dst := 1 } s)
def execDisarm (op : Op) (s : State) : Outcome State Fault Refusal := .next (arm { op with dst := 2 } s)
def execWarningCondition (s : State) : Outcome State Fault Refusal := .next (warningCondition s)
def execWarningWithdrawal (s : State) : Outcome State Fault Refusal := .next (warningWithdrawal s)
def execGraceExpiry (s : State) : Outcome State Fault Refusal := .next (graceExpiry s)
def execCriticalCondition (s : State) : Outcome State Fault Refusal := .next (criticalCondition s)
def execSaveNLow (s : State) : Outcome State Fault Refusal := .next (saveNLow s)
def execSave (op : Op) (s : State) : Outcome State Fault Refusal := .next (save op s)
def execPavaneFlushDone (work : FlashWork) (s : State) : Outcome State Fault Refusal := .next (pavaneFlushDone work s)
def execSaveSetWritten (work : FlashWork) (s : State) : Outcome State Fault Refusal := .next (saveSetWritten work s)
def execPavaneAbandon (energy mram : Bool) (s : State) : Outcome State Fault Refusal :=
  .next (pavaneAbandon energy mram s)
def execPavaneShutdownDone (s : State) : Outcome State Fault Refusal := .next (pavaneShutdownDone s)

end Sys2Proof.Machine
end

