-- ==== Sys2Proof/Machine/Restore.lean ====
section
/-! DEFINITION. Galliard (R197 to R208): the image chosen, the regions restored, host windows. -/

namespace Sys2Proof.Machine

open Reg Host

/-! ## The image (R196, R198) -/

/-- R196: copy `k` of the commit record: it can be read, its seal is valid, and it belongs to the save record. That on a
channel out of use cannot be read. -/
def State.commitCopy (s : State) (k : Nat) : Option Commit :=
  (s.fl.commits.getD k none).filter fun c =>
    s.maskBit FL_CHUSE.CH (s.fl.commitAt.getD k 0) && !s.isLost 7 k && c.mac == hmacSha256 s.sealingKey c.body &&
      c.saveSeq == s.sv.record.saveSeq &&
      c.epoch == s.sv.record.epoch

/-- R196, R219: the commit record found, in either copy. -/
def State.commitFound (s : State) : Option Commit := (s.commitCopy 0).or (s.commitCopy 1)

/-- R196: SV_STATUS.IMAGE. -/
def State.detectImage (s : State) : State :=
  s.set SV_STATUS.IMAGE
    (if s.commitFound.isSome then 1
     else if s.sv.record.table.any fun r => r.kind == 1 || r.kind == 2 then 2
     else 0)

/-- R198, R201: the base generation can be read: its map, and the journal pages it still needs. -/
def State.baseReadable (s : State) : Bool :=
  s.fl.base.isSome && !(s.fl.lost.any fun e => e.1 == 2) && s.fl.spent.all s.pageValid

/-- R167, R222: the journal's cut: the JSEQ of the first page after the base. -/
def State.journalCut (s : State) : Nat := (s.fl.root.map (·.cut)).getD 0

/-- R198: the pages of `ps` in JSEQ order from `n` on, up to the first that is missing, invalid or not of `epoch`. -/
def State.contiguous (s : State) (epoch : Nat) : Nat → List JPage → List JPage
  | _, [] => []
  | n, p :: rest =>
      if p.jseq = n ∧ p.epoch = epoch ∧ s.pageValid p = true then p :: s.contiguous epoch (n + 1) rest else []

/-- R198: every journal page from the cut through `jseq` is present, valid and of `epoch`. -/
def State.journalWhole (s : State) (jseq epoch : Nat) : Bool :=
  let pages := s.contiguous epoch s.journalCut (s.fl.journal.filter fun p => decide (p.jseq ≤ jseq))
  decide (pages.length = jseq + 1 - s.journalCut)

/-- R198: the index and the saved log of `c` can be read, and its hash matches them. -/
def State.hashMatches (s : State) (c : Commit) : Bool :=
  !(s.fl.lost.any fun e => e.1 == 5 || e.1 == 6) && c.digest == saveDigest s.fl.saveIndex c.log

/-- R198: the commit record of an EXACT restore. -/
def State.exactCommit (s : State) : Option Commit :=
  match (if s.get SV_STATUS.IMAGE = 1 then s.commitFound else none) with
  | some c =>
      if c.full && s.hashMatches c && c.gen == s.get SH_BASEGEN.GEN && s.journalWhole c.jseq c.epoch &&
          s.baseReadable then some c
      else none
  | none => none

/-- R198: the journal pages that a replay reads. -/
def State.replayed (s : State) : List JPage := s.contiguous s.sv.record.epoch s.journalCut s.fl.journal

/-- The barrier records of a list of pages, with their stamps. -/
def barriersOf (ps : List JPage) : List (Nat × Nat × Nat) :=
  ps.flatMap fun p => p.items.filterMap fun i =>
    match i with
    | .barrier n t q _ _ _ _ => some (n, t, q)
    | .line _ _ _ => none

/-- R198: the commit record of the image, if it is a barrier-only one. -/
def State.barrierCommit (s : State) : Option Commit :=
  (if s.get SV_STATUS.IMAGE = 1 then s.commitFound else none).filter (!·.full)

/-- R198: the recovery barrier of a BARRIER restore, with its stamp. Where a barrier-only commit names one whose
record is not in the journal that is replayed, no record holds its reference stamp and OPENSTAMP is shown
(assumption log 110). -/
def State.recovery (s : State) : Nat × Nat × Nat :=
  let r := s.sv.record
  let ok := fun (n : Nat) => !r.frozen || decide (n ≤ r.frozenAt)
  let found := (barriersOf s.replayed).filter fun b => ok b.1
  match s.barrierCommit.filter fun c => ok c.recBar with
  | some c => (found.find? fun b => b.1 == c.recBar).getD (c.recBar, r.openTime, r.openQual)
  | none => found.getLast?.getD (r.openBar, r.openTime, r.openQual)

/-- R198: the pages of `ps` whose records lie up to the record of barrier `n`, wherever that lies. -/
def pagesThrough (n : Nat) : List JPage → List JPage
  | [] => []
  | p :: rest =>
      match pageBarrier p.items with
      | some (b, _) => if b < n then p :: pagesThrough n rest else if b = n then [p] else []
      | none => p :: pagesThrough n rest

/-- R198: the replayed pages that apply under recovery barrier `n`: none where the base already holds all it covers. -/
def State.recoveredPages (s : State) (n : Nat) : List JPage :=
  if n ≤ max s.fl.baseCut s.sv.record.openBar then [] else pagesThrough n s.replayed

/-- Whether page `p` lies in a region of `table` whose kind is in `kinds`. -/
def pageIn (table : List Region) (kinds : List Nat) (p : Nat) : Bool :=
  table.any fun r => kinds.contains r.kind && decide (16 * r.start ≤ p) && decide (p < 16 * (r.start + r.count))

/-- The cells of an image that lie in regions of `kinds`. -/
def Image.within (m : Image) (table : List Region) (kinds : List Nat) : Image :=
  ⟨m.cells.filter fun c => pageIn table kinds (c.1 / 4096), [], []⟩

/-- R199, R221: the index lists page `p`. -/
def State.inSaveSet (s : State) (p : Nat) : Bool := s.fl.saveIndex.any fun e => e % 2 ^ 24 == p

/-- R199: the base with its journal, and the pages of the save set over it. -/
def State.exactImage (s : State) (c : Commit) : Image :=
  let m := applyPages (s.fl.base.getD ⟨[], [], []⟩) (s.fl.journal.filter fun p => decide (p.jseq ≤ c.jseq))
  let kept := m.cells.filter fun x => !s.inSaveSet (x.1 / 4096)
  let m : Image := ⟨s.fl.saveCells.foldl (fun l x => sparsePut x.1 x.2 l) kept, [], []⟩
  m.within c.table [1, 2]

/-- R198, R199: the base with the journal pages up to the recovery barrier. -/
def State.barrierImage (s : State) (pages : List JPage) : Image :=
  (applyPages (s.fl.base.getD ⟨[], [], []⟩) pages).within s.sv.record.table [1]

/-- What Galliard has chosen. -/
structure Choice where
  kind : Nat
  bar : Nat
  time : Nat
  qual : Nat
  table : List Region
  image : Image
  pages : List JPage
  log : List LogEntry
  deriving DecidableEq, Repr

/-- R197, R198, R200: 1 EXACT, 2 BARRIER, 3 EMPTY. Of a barrier-only commit the saved log is taken where its hash
matches. -/
def State.chooseImage (s : State) : Choice :=
  match s.exactCommit with
  | some c => ⟨1, c.bar, c.time, c.qual, c.table, s.exactImage c,
    s.fl.journal.filter fun p => decide (p.jseq ≤ c.jseq), c.log⟩
  | none =>
      if s.baseReadable then
        let (n, t, q) := s.recovery
        let pages := s.recoveredPages n
        let log := match s.barrierCommit.filter s.hashMatches with
          | some c => c.log
          | none => []
        ⟨2, n, t, q, s.sv.record.table, s.barrierImage pages, pages, log⟩
      else ⟨3, 0, 0, 0, [], ⟨[], [], []⟩, [], []⟩

/-! ## RESTORE (R197, R200, R206, R208) -/

/-- R200: every entry shows unreleased again. -/
def unreleased (e : LogEntry) : LogEntry := { e with released := false }

/-- R200: the log is laid out again behind the saved entries; those that an earlier RESTORE of this core start placed
are not among the present ones. -/
def State.layLog (s : State) (old : List LogEntry) : State :=
  let present := s.log.filter fun e => !e.saved
  let excess := old.length + present.length - logCapacity
  let s := s.add TM_LOGLOST.COUNT excess
  let old := old.map fun e => { e with saved := true }
  let s := { s with log := (old.drop excess ++ present).map unreleased }
  s.set TM_LOGOLD.SLOT 0

/-- R199: the regions of the chosen image stand in the shadow unit. -/
def State.reinstate (s : State) (table : List Region) : State :=
  let s := (List.range 64).foldl (fun (s : State) k => s.dropRegion k) s
  (table.foldl (fun (s : State) r => s.putRegion r) s).checkCapacity

/-- R206: RESTORE's legality. -/
def State.restoreLegal (s : State) (staged : Bool) : Bool :=
  s.powerIn [active, quiet, maint] && s.pw.stop.isNone && s.svState != svWarning && s.get SV_STATUS.IMAGE != 0 &&
    s.deviceOwns &&
    s.flag HP_STATUS.DTI && !s.flag HP_STATUS.SCRUBBING && s.flag HP_ECCCTL.LOCK && s.hp.lend.isNone &&
    (!staged || (s.flag HP_STATUS.HTRAIN && s.flag HP_STATUS.DTH))

/-- R197, steps 1 to 3. -/
def State.beginGalliard (s : State) (ref : OpRef) (staged : Bool) : State :=
  let from_ := s.power
  let s := s.raise 0x286 (s.get SV_STATUS.IMAGE) (boolNat staged) (s.sv.record.saveSeq % 2 ^ 24)
  let s := ((s.set SV_STATUS.STATE svRestoring).setFlag SV_STATUS.STAGED staged).enterState restoring 3
  let c := s.chooseImage
  let s := s.layLog c.log
  let s := s.when (c.kind != 3) (·.reinstate c.table)
  let s := ((s.set (SV_READY.RGN 0) 0).set (SV_READY.RGN 1) 0).set (SV_READY.RGN 2) 0
  let g : Galliard := ⟨ref, staged, s.clock, c.kind, c.bar, c.time, c.qual, saveOrder c.table, c.table, c.image,
    c.pages,
    [], from_⟩
  { s with sv := { s.sv with galliard := some g } }

/-- R208: RESTORE. -/
def restore (op : Op) (s : State) : State :=
  s.issue op 0x1C (unitCost 0x1C) fun s ref =>
    s.judge ref (op.ext.length == 0) (op.dst == 0 && op.src == 0 && decide (op.imm9 < 2)) true
      (s.restoreLegal (op.imm9 == 1)) true 0 fun s => s.beginGalliard ref (op.imm9 == 1)

/-! ## Regions (R188, R199, R202) -/

/-- The beats of a rising list of byte cells. -/
def beatsOf (cells : Sparse Byte) : List Nat := cells.foldl (fun l c => insertNat (c.1 / 8) l) []

/-- R125, R199: `units` of 64 KiB from `start` hold the cells of `cells`, with their check bytes, and
zero lines. -/
def State.restoreUnits (s : State) (start units : Nat) (cells : Sparse Byte) : State :=
  let s := s.zeroUnits start units
  let dram := s.hp.dram.writes (cells.map fun c => (c.1, c.2.toNat))
  let dram := (beatsOf cells).foldl (fun (m : Image) b => m.writeCheck b (s.checkOf (m.read (8 * b) 8))) dram
  { s with hp := { s.hp with dram := dram } }

/-- R202: a region's bit of SV_READY. -/
def readyBit (k : Nat) : Field × Nat := (SV_READY.RGN (2 - k / 24), k % 24)

def State.regionReady (s : State) (k : Nat) : Bool := s.maskBit (readyBit k).1 (readyBit k).2

/-- R199: a page that could not be read, as (page, source). -/
def State.damagedPage (s : State) (g : Galliard) (d : Nat × Nat) (k : Nat) : State :=
  s.when (decide (g.damaged.length + k < 64)) (·.raise 0x289 d.1 d.2 0)

/-- The pages that the records of some journal pages write. -/
def journalTouches (ps : List JPage) : List Nat :=
  ps.flatMap fun p => p.items.filterMap fun i =>
    match i with
    | .line a _ _ => some (a / 64)
    | .barrier _ _ _ _ _ _ _ => none

/-- R199, R211: the pages that Galliard cannot read, with their source: 3 in the save set, 1 in the base, 2 in the
journal pages it replays. A page listed in the index comes from the save set alone. -/
def State.unreadable (s : State) (g : Galliard) : List (Nat × Nat) :=
  let listed := fun p => g.kind == 1 && s.inSaveSet p
  let lost := s.fl.lost.filterMap fun e =>
    if e.1 = 4 ∧ (listed e.2 = true ∨ s.stripesOf .carried ≠ []) then some (e.2, 3)
    else if e.1 = 1 ∧ listed e.2 = false then some (e.2, 1)
    else none
  let touched := (journalTouches (g.pages.filter fun p => !s.pageValid p)).filter fun p => !listed p
  lost ++ touched.map fun p => (p, 2)

/-- Damage of one page is told once. -/
def onePerPage : List (Nat × Nat) → List (Nat × Nat)
  | [] => []
  | d :: rest => d :: (onePerPage rest).filter fun e => e.1 != d.1

/-- R197 step 4, R199, R202: the next region is finished. -/
def regionRestored (work : FlashWork) (s : State) : State :=
  match s.sv.galliard with
  | none => s
  | some g =>
      match g.regions with
      | [] => s
      | r :: rest =>
          if s.flag SV_STATUS.WIN then s
          else
            let s := s.flashWork 3 true work
            let kept := g.kind == 1 && (r.kind == 1 || r.kind == 2) || g.kind == 2 && r.kind == 1
            let bad := if kept then onePerPage ((s.unreadable g).filter fun d => pageIn [r] [r.kind] d.1) else []
            let image : Image := ⟨g.image.cells.filter fun c => !(bad.any fun d => d.1 == c.1 / 4096), [], []⟩
            let s := (bad.zip (List.range bad.length)).foldl (fun (s : State) d => s.damagedPage g d.1 d.2) s
            let s := s.restoreUnits r.start r.count (image.cells.filter fun c => pageIn [r] [r.kind] (c.1 / 4096))
            let g := { g with regions := rest, image := image, damaged := g.damaged ++ bad.map (·.1) }
            let s := { s with sv := { s.sv with galliard := some g } }
            s.when g.staged fun s =>
              (s.setMaskBit (readyBit r.num).1 (readyBit r.num).2 true).raise 0x287 r.num r.prio
                (min ((s.clock - g.began) / 100000) 0xFFFFFF)

/-! ## The end (R156, R201, R205, R208) -/

/-- R197 step 5: memory in no region is zero-filled. -/
def State.zeroOutside (s : State) (table : List Region) : State :=
  let units := (List.range (s.dramBytes / 65536)).filter fun u =>
    !(table.any fun r => decide (r.start ≤ u) && decide (u < r.start + r.count))
  units.foldl (fun (s : State) u => s.zeroUnits u 1) s

/-- R156: the pages that a restore of `kind` leaves dirty: those it zero-filled. -/
def State.dirtyAfter (s : State) (g : Galliard) : List Nat :=
  if g.kind = 3 then []
  else
    let kinds := if g.kind = 1 then [1, 2] else [1]
    (List.range (s.dramBytes / 4096)).filter fun p => !pageIn g.table kinds p || g.damaged.contains p

/-- R186, R197: Galliard is over, and the power state returns. -/
def State.leaveGalliard (s : State) (from_ : Nat) : State :=
  let s := { s with sv := { s.sv with galliard := none } }
  let s := (((s.set SV_STATUS.WIN 0).set SV_STATUS.STAGED 0).set SV_STAGECTL.HOSTWIN 0).set SV_STATUS.STATE
    (s.get SV_STATUS.ARMED)
  s.enterState from_ 3

/-- R136, R201: renewal; the deferred scrub has no more to do. -/
def galliardEnd (work : FlashWork) (s : State) : State :=
  match s.sv.galliard with
  | none => s
  | some g =>
      if g.regions.isEmpty && !s.flag SV_STATUS.WIN then
        let n := g.damaged.length
        let s := s.flashWork 3 true work
        let s := (s.zeroOutside g.table).setFlag HP_STATUS.DEFERRED false
        let s := (s.setPair SH_BARH.BAR SH_BARL.BAR g.bar).renewRestored g.image (s.dirtyAfter g) g.pages (g.kind == 1)
          (g.kind == 3)
        let s := s.setFl { s.fl with commits := [none, none] }
        let s := (s.set SV_STATUS.IMAGE 0).setRecord { s.sv.record with saveState := 0 }
        let s := (s.set SV_RESULT.KIND g.kind).set SV_RESULT.DAMAGED (min n 0x3FFFFF)
        let s := s.setPair SV_RBARH.BAR SV_RBARL.BAR g.bar
        let s := s.when (g.kind != 3) fun s =>
          ((s.set (SV_RSTAMP.STAMP 0) (stampWord0 g.time)).set (SV_RSTAMP.STAMP 1) (stampWord1 g.time)).set
            (SV_RSTAMP.STAMP 2) (stampWord2 g.time g.qual)
        let s := s.raise 0x288 g.kind (g.bar % 2 ^ 24) (min n 0xFFFFFF)
        let s := s.leaveGalliard g.fromState
        s.post g.ref (if g.kind = 3 then 0x46 else if n = 0 then 0x01 else 0x02)
          (g.kind * 2 ^ 22 + (if g.kind = 3 then 0 else g.bar % 2 ^ 22))
      else s

/-- R205: a rail or DRAM-training failure during Galliard. -/
def galliardStop (s : State) : State :=
  match s.sv.galliard with
  | none => s
  | some g => s.stopGalliard.leaveGalliard g.fromState

/-! ## Host windows (R203, R204, R206) -/

/-- R211: the number of ready regions. -/
def State.readyCount (s : State) : Nat := ((List.range 64).filter s.regionReady).length

/-- R203: a window closes. -/
def State.closeWindow (s : State) (cause : Nat) : State :=
  let us := min ((s.clock - s.sv.winFrom) / 100) 0xFFFFFF
  ((s.set SV_STATUS.WIN 0).set SV_STAGECTL.HOSTWIN 0).raise 0x28B cause us 0

/-- R203, R206: a write of SV_STAGECTL.HOSTWIN, legal while a region is still to be done (step 4); none where it is
ignored under R7. -/
def hostwinWrite (w : Writer) (v : Bool) (s : State) : Option State :=
  match s.sv.galliard with
  | none => none
  | some g =>
      if w = Writer.host ∧ g.staged = true ∧ g.regions ≠ [] ∧ s.flag SV_STATUS.WIN = !v then
        if v then
          let s := { s with sv := { s.sv with winFrom := s.clock } }
          some (((s.set SV_STATUS.WIN 1).set SV_STAGECTL.HOSTWIN 1).raise 0x28A s.readyCount
            (min ((s.clock - g.began) / 100000) 0xFFFFFF) 0)
        else some (s.closeWindow 1)
      else none

/-- R203: SV_WINMAX has passed. -/
def hostwinTimeout (s : State) : State :=
  if s.flag SV_STATUS.WIN then s.onTime (s.sv.winFrom + 100000 * s.get SV_WINMAX.MS) (·.closeWindow 2) else s

/-- R206: a write of value `v` to the save block's slot at block offset `o`. -/
def svWrite (w : Writer) (o v m : Nat) (s : State) : Option State :=
  let off := 0x5000 + o
  if o = 0x03C then hostwinWrite w (bitOf v 0) s
  else if o = 0x040 then
    s.writeIf (decide (w = Writer.host) && !s.flag SV_STATUS.WIN && SV_WINMAX.MS.within v 1 1000) w off v m
  else s.plainWrite w off v m

def execRestore (op : Op) (s : State) : Outcome State Fault Refusal :=
  .next (restore { op with imm9 := op.imm9 / 2 * 2 } s)
def execRestoreStaged (op : Op) (s : State) : Outcome State Fault Refusal :=
  .next (restore { op with imm9 := op.imm9 / 2 * 2 + 1 } s)
def execRegionRestored (work : FlashWork) (s : State) : Outcome State Fault Refusal := .next (regionRestored work s)
def execGalliardEnd (work : FlashWork) (s : State) : Outcome State Fault Refusal := .next (galliardEnd work s)
def execGalliardStop (s : State) : Outcome State Fault Refusal := .next (galliardStop s)
def execHostwinOpen (w : Writer) (s : State) : Outcome State Fault Refusal :=
  .next (s.rowWrite w 0x503C (hostwinWrite w true s))
def execHostwinClose (w : Writer) (s : State) : Outcome State Fault Refusal :=
  .next (s.rowWrite w 0x503C (hostwinWrite w false s))
def execHostwinTimeout (s : State) : Outcome State Fault Refusal := .next (hostwinTimeout s)

end Sys2Proof.Machine
end

