-- ==== Sys2Proof/Machine/Power.lean ====
section
/-! DEFINITION. The power sequencer: starts, start failures, rail faults, wakes, and the instructions of
the power unit (R237 to R261, R287, R307, R313). -/

namespace Sys2Proof.Machine

open Reg Host

/-! ## Start sequences (R238 to R241) -/

/-- R240: the rank of the next rail to start. -/
def State.nextRank (s : State) : Nat :=
  (List.range 12).foldl (fun m k => if s.railOn k then max m ((s.rail k).rank + 1) else m) 0

/-- R240, R255: rail `k` has been good for the SETTLE that it was started with, of 100 µs, ten evaluations, each. -/
def State.settled (s : State) (k : Nat) : Bool :=
  s.railState k == railGood && decide (10 * (s.rail k).settle ≤ (s.rail k).goodFor)

/-- R237, R239: whether rail `k` is of a target set: a card rail by its port, another by the sequence. -/
def State.wanted (s : State) (k : Nat) : Bool :=
  if k = 8 ∨ k = 9 then (s.rail k).target else bitOf s.pw.seq k

/-- R260: PW_STATUS.SEQ shows a start sequence that runs; whether it shows a stop sequence too the spec does not say
(assumption log 108). -/
def State.showSeq (s : State) : State :=
  s.setFlag PW_STATUS.SEQ (s.pw.seq != 0 || [8, 9].any fun k => s.wanted k && !s.settled k)

/-- R239: `rails` join the target set; the sequence begins where none ran. -/
def State.startRails (s : State) (rails : Nat) : State :=
  let from_ := if s.pw.seq = 0 then s.pw.evals else s.pw.seqFrom
  ({ s with pw := { s.pw with seq := s.pw.seq ||| rails, seqFrom := from_ } } : State).showSeq

/-- A wanted rail that is off, or was stuck, waits; a card rail no longer wanted is released. -/
def State.queueRail (s : State) (k : Nat) : State :=
  let st := s.railState k
  if s.wanted k then if st = railOff ∨ st = railStuck ∨ st = railIsolated then s.setRailState k railWaiting else s
  else if st = railWaiting then s.setRailState k railOff
  else if (k = 8 ∨ k = 9) ∧ s.railOn k = true then s.releaseRail k
  else s

/-- R240, R255: EN`k` is asserted. -/
def State.startRail (s : State) (k : Nat) : State :=
  let n := s.nextRank
  let s := (s.setMaskBit PW_ON.EN k true).setRailState k railStarting
  let s := s.set (PW_RAIL_C.RANK k) n
  let s := s.setRail k { s.rail k with
    rank := n, t0 := s.pw.evals, goodFor := 0, inFor := 0, dis := false, settle := s.get (PW_RAIL_A.SETTLE k),
    tstart := s.get (PW_RAIL_B.TSTART k) }
  s.retune k

/-- R240: every rail that rail `k` depends on has settled. -/
def State.depsMet (s : State) (k : Nat) : Bool :=
  (List.range 12).all fun j => !s.maskBit (PW_RAIL_A.DEP k) j || s.settled j

/-- R131, R555, R587: what rail `k` brings when it is good; key sampling counts from the IO 3.3 V rail. -/
def State.railUp (s : State) (k : Nat) : State :=
  match k with
  | 0 => if s.coreUp then s else s.coreStart.when (s.railState 3 == railGood) (·.dramRailStart)
  | 2 => { s with fp := { s.fp with updateAt := s.clock } }
  | 3 => s.when s.coreUp (·.dramRailStart)
  | _ => s

/-- R257: the RAIL ONs that wait complete. -/
def State.endRailOns (s : State) (status : Nat) : State :=
  let refs := s.pw.railOns
  ({ s with pw := { s.pw with railOns := [] } } : State).postAll (refs.map fun r => (r, status, 0))

/-- R240: rail `k` is in its window: GOOD. -/
def State.goodRail (s : State) (k : Nat) : State :=
  let s := (s.setRailState k railGood).setRail k { s.rail k with goodFor := 0 }
  (s.railUp k).when (k == 11) (·.endRailOns 0x01)

/-! ## Power states commanded (R251 to R254) -/

/-- R238: EN11 is wanted and not on. -/
def State.auxOwed (s : State) : Bool := s.pw.aux && s.railState 11 != railGood

/-- R238, R252, R253: STANDBY is entered. -/
def State.enterStandby (s : State) (cause : Nat) : State :=
  let s := s.when (s.own == 0) (·.ownChange 3 false 4)
  let s := s.enterState standby cause
  s.when (!s.flag PW_CTL.AUXSTBY && s.railOn 11) (·.releaseRail 11)

/-- R254: the PSTATEs that wait for EN11 complete with `status`. -/
def State.endPstates (s : State) (status : Nat) : State :=
  let waiting := s.pw.pstate.filter fun w => w.target != standby
  let s := { s with pw := { s.pw with pstate := s.pw.pstate.filter fun w => w.target == standby } }
  let s := waiting.foldl (fun (s : State) w => s.enterTarget w.target) s
  s.postAll (waiting.map fun w => (w.ref, status, w.target))

/-- R19, R253: the PSTATE STANDBYs that wait for self-refresh enter STANDBY, and complete in one cycle. While a stop
sequence runs, its transition comes first. -/
def State.endStandbys (s : State) : State :=
  let waiting := s.pw.pstate.filter fun w => w.target == standby
  if waiting.isEmpty || s.pw.stop.isSome then s else
  let s := { s with pw := { s.pw with pstate := s.pw.pstate.filter fun w => w.target != standby } }
  (s.enterStandby 1).postAll (waiting.map fun w => (w.ref, 0x01, standby))

/-! ## Start failures (R241) -/

/-- R241, R245: EN11 alone stops. -/
def State.isolate (s : State) (cause : Nat) : State :=
  let s := s.raise 0x38B 11 cause 0
  let s := { s with pw := { s.pw with isolated := true, aux := false, seq := clearBit s.pw.seq 11 } }
  s.releaseRail 11

/-- R241, R244: LATCHED follows: the record is to take `cause` and `rail`, and every rail stops. A start failure in
SAVING ends Pavane there (R252): its step 6 is abandoned, as the save rails go (R191). -/
def State.latch (s : State) (cause rail : Nat) : State :=
  let s := (s.raiseFault 0x386 cause rail 0).stopGalliard
  let s := ({ s with pw := { s.pw with latching := some (cause, rail) } } : State).beginStop .latched fun _ => true
  pavaneAbandon true true s

/-- R241, R261: the evaluation at which the start that rail `k` belongs to began: a card rail has its own. -/
def State.startFrom (s : State) (k : Nat) : Nat := if k = 8 ∨ k = 9 then (s.rail k).asked else s.pw.seqFrom

/-- R241: a start failure of rail `k`. The PSTATEs that wait for EN11 caused the sequence. -/
def State.startFailure (s : State) (k cause : Nat) : State :=
  if k = 11 ∧ s.flag (PW_RAIL_A.ISOLATE 11) = true then ((s.isolate 1).endRailOns 0x34).endPstates 0x34 |>.showSeq
  else
    let s := s.raiseFault 0x383 k cause ((s.pw.evals - s.startFrom k) / 100)
    let waiting := s.pw.pstate.filter fun w => w.target != standby
    let s := { s with pw := { s.pw with pstate := s.pw.pstate.filter fun w => w.target == standby } }
    let s := s.postAll (waiting.map fun w => (w.ref, 0x33, 0))
    s.latch 1 k

/-- R241: rail `k` was started in the running sequence; that of a card rail runs until it has settled. -/
def State.ofSequence (s : State) (k : Nat) : Bool :=
  if k = 8 ∨ k = 9 then (s.rail k).target && s.railOn k && !s.settled k
  else bitOf s.pw.seq k && s.railOn k && decide (s.pw.seqFrom ≤ (s.rail k).t0)

/-- Rail `k` waits for a rail that is neither on nor of a target set, and so can never start. -/
def State.neverStarts (s : State) (k : Nat) : Bool :=
  s.railState k == railWaiting &&
    (List.range 12).any fun j => s.maskBit (PW_RAIL_A.DEP k) j && !s.wanted j && !s.railOn j

/-- R240, R241: at evaluation `at_` rail `k` has missed its window for TSTART. That of a rail that cannot start runs
from the start of its sequence (assumption log 101). -/
def State.startLate (s : State) (k at_ : Nat) : Bool :=
  (s.railState k == railStarting && decide ((s.rail k).t0 + 100 * (s.rail k).tstart ≤ at_)) ||
    (s.neverStarts k && decide (s.startFrom k + 100 * s.get (PW_RAIL_B.TSTART k) ≤ at_))

/-- R241: a rail misses its window within TSTART. -/
def startTimeout (k : Nat) (s : State) : State :=
  if k < 12 ∧ s.pw.stop.isNone = true ∧ s.startLate k (s.pw.evals + 1) = true then s.startFailure k 1 else s

/-! ## One evaluation (R240, R251, R252) -/

/-- R252: the sequence is complete. -/
def State.sequenceDone (s : State) : State :=
  if s.pw.seq ≠ 0 ∧ ((List.range 12).all fun k => !bitOf s.pw.seq k || s.settled k) = true then
    let wake := s.pw.wake
    let s := ({ s with pw := { s.pw with seq := 0, wake := false } } : State).showSeq
    if wake then
      if s.get PW_WAKE.STATE = standby then s.enterStandby 2 else s.enterState (s.get PW_WAKE.STATE) 2
    else s.endPstates 0x01
  else s

/-- R251: 10 ms after a return to nominal the window is the nominal one. -/
def State.endReturns (s : State) : State :=
  let due := s.pw.returning.filter fun e => decide (e.2.2 + 1000 ≤ s.pw.evals)
  due.foldl (fun (s : State) e =>
    ({ s with pw := { s.pw with returning := sparseDrop e.1 s.pw.returning } } : State).retune e.1) s

/-- R240: one pass of the sequencer over the rails, those of `mask` being in their windows. -/
def State.sequence (s : State) (mask : Nat) : State :=
  let rails := List.range 12
  let s := rails.foldl State.queueRail s
  let start := rails.filter fun k => s.wanted k && s.railState k == railWaiting && s.depsMet k
  let s := start.foldl State.startRail s
  let s := (rails.filter fun k => s.railState k == railStarting && bitOf mask k).foldl State.goodRail s
  match rails.find? fun k => s.startLate k s.pw.evals with
  | some k => s.startFailure k 1
  | none =>
      match rails.find? fun k => s.ofSequence k && s.railState k == railGood && !bitOf mask k with
      | some k => s.startFailure k 2
      | none => s.sequenceDone.showSeq

/-- R240, R244, R250: one evaluation more that rail `k` has been good, and in its window. -/
def State.countGood (mask : Nat) (s : State) (k : Nat) : State :=
  let x := s.rail k
  let st := s.railState k
  if st = railGood ∨ st = railFaulty then
    s.setRail k { x with
      goodFor := if st = railGood then x.goodFor + 1 else x.goodFor
      inFor := if bitOf mask k then x.inFor + 1 else 0 }
  else s

/-- R240: an evaluation, every 10 µs. -/
def sequencerEvaluation (mask : Nat) (s : State) : State :=
  if s.power = 0 then s
  else
    let s := (({ s with pw := { s.pw with evals := s.pw.evals + 1 } } : State).set PW_GOOD.RAIL mask).showXtal
    let s := (List.range 12).foldl (State.countGood mask) s
    let s := (List.range 12).foldl State.endDischarge s.endReturns.watchLine
    if s.pw.stop.isNone then (s.sequence mask).pavaneDown.noteVcc else s.stopRetry

/-! ## Rail faults (R243 to R245) -/

/-- R250: rail `k` is settling after a margin step. -/
def State.railSettling (s : State) (k : Nat) : Bool :=
  (sparseFind k s.pw.returning).isSome || s.pw.margins.any fun m => s.get (PW_MG.RAIL m.channel) == k

/-- R244: T_FAULT has elapsed. -/
def tFaultExpiry (s : State) : State :=
  if s.flag PW_STATUS.FAULTEP && s.runningSet && s.sv.pavane.isNone && s.pw.stop.isNone then
    s.onTime (s.pw.faultFrom + 100000 * s.get PW_TFAULT.MS) fun s =>
      if s.flag SV_STATUS.ARMED && s.pw.faulted &&& saveRails == 0 then s.pavaneStart 5 none
      else s.latch 2 s.pw.firstFault
  else s

/-- R243, R311: rail `k` faults, which takes the TCXO with EN10: the episode opens, or takes it in. -/
def State.openFault (s : State) (k : Nat) (high : Bool) (reading : Nat) : State :=
  let first := !s.flag PW_STATUS.FAULTEP
  let s := s.raise 0x381 k (1 + boolNat high) reading
  let s := (s.setRailState k railFaulty).add PW_FAULTS.COUNT 1
  let s := s.when (k == 10) fun s => (s.setMaskBit PW_GOOD.RAIL 10 false).showXtal
  let s := s.setRail k { s.rail k with inFor := 0 }
  let s := { s with pw := { s.pw with faulted := setBit s.pw.faulted k } }
  let s := if first then { s with pw := { s.pw with firstFault := k, faultFrom := s.clock } } else s
  let s := (s.setFlag PW_STATUS.FAULTEP true).showFaultLine
  let s := s.when (s.sv.pavane.isSome && bitOf saveRails k) (pavaneAbandon true true)
  s.when (first && s.get PW_TFAULT.MS == 0) tFaultExpiry

/-- R237, R241, R243, R245: rail `k` leaves its window, as its monitor's flag says, with the reading in units of 10 mV
and, for a card rail, its current in mA. -/
def railFault (k : Nat) (high : Bool) (reading ma : Nat) (s : State) : State :=
  if k < 12 ∧ s.railState k = railGood ∧ s.channelFlag k = 1 + boolNat high ∧ s.runningSet = true ∧
      s.pw.stop.isNone = true ∧ s.railSettling k = false then
    if s.ofSequence k then s.startFailure k 2
    else if k = 8 then s.scVccFault (1 + boolNat high) reading ma
    else if k = 9 then s.mcVccFault (1 + boolNat high) reading ma
    else if k = 11 ∧ s.flag (PW_RAIL_A.ISOLATE 11) = true then s.isolate 2
    else s.openFault k high reading
  else s

/-- R244: every rail of the episode has been back in its window for 1 ms, and T_FAULT has not elapsed. -/
def State.withdrawn (s : State) : Bool :=
  decide (s.clock < s.pw.faultFrom + 100000 * s.get PW_TFAULT.MS) &&
    (List.range 12).all fun k => !bitOf s.pw.faulted k ||
      ((s.railState k == railFaulty || s.railState k == railGood) && decide (100 ≤ (s.rail k).inFor))

/-- R244: a rail of the episode is GOOD again. -/
def State.healRail (s : State) (k : Nat) : State :=
  if bitOf s.pw.faulted k ∧ s.railState k = railFaulty then
    (s.setRailState k railGood).setRail k { s.rail k with goodFor := 0 }
  else s

/-- R244, R257: withdrawal. A RAIL ON that waits for EN11 completes with it. -/
def faultWithdrawal (s : State) : State :=
  if s.flag PW_STATUS.FAULTEP && s.pw.stop.isNone && s.withdrawn then
    let s := s.raise 0x382 s.pw.faulted (min ((s.clock - s.pw.faultFrom) / 100) 0xFFFFFF) 0
    let s := (List.range 12).foldl State.healRail s
    (s.when (s.railState 11 == railGood) (·.endRailOns 0x01)).endEpisode.showFaultLine
  else s

/-! ## Wakes (R238, R239, R247, R252, R303) -/

/-- R237, R239, R245: the running set starts; an isolated EN11 stays off. -/
def State.startWake (s : State) : State :=
  let aux := s.flag PW_CTL.AUXWAKE && !s.pw.isolated
  let s := { s with pw := { s.pw with wake := true, aux := aux } }
  s.startRails (0x4FF + (if aux then 2 ^ 11 else 0))

/-- The last readings of the pack. -/
def State.lastPack (s : State) : PackReading :=
  ⟨s.get BT_VCELL1.MV, s.get BT_VCELL2.MV, s.get BT_VPACK.MV, s.getS BT_TEMP.DC⟩

/-- R252: whether a wake may begin without UNLATCH. -/
def State.wakeable (s : State) : Bool :=
  (s.power == dormant || (s.power == saved && !s.flag PW_STATUS.HOLDWAKE) ||
      (s.power == latched && !s.flag PW_STATUS.LATCHED)) &&
    s.pw.stop.isNone && !s.pw.wake && s.flag BT_STATUS.VINOK

/-- R303: leaving DORMANT restarts the gauge. -/
def State.wake (s : State) (r : PackReading) : State := (s.when (s.power == dormant) (·.restartGauge r)).startWake

/-- R255: PW_CTL.WAKE, legal in DORMANT, and in SAVED with HOLDWAKE 0. -/
def wakeAction (w : Writer) (s : State) : Option State :=
  if w = Writer.sideBand ∧ s.power ≠ latched ∧ s.wakeable = true then some (s.wake s.lastPack) else none

/-- R246, R247: PW_CTL.UNLATCH. -/
def unlatchAction (w : Writer) (s : State) : Option State :=
  let who := match w with
    | .host => 1
    | .sideBand => 2
    | .ring _ => 0
  if who ≠ 0 ∧ (s.power = latched ∨ (s.power = saved ∧ s.flag PW_STATUS.HOLDWAKE = true)) ∧
      s.flag BT_STATUS.VINOK = true ∧ s.pw.stop.isNone = true ∧ s.pw.wake = false then
    let e := (0x387, s.get PW_LATCH.CAUSE, s.get PW_LATCH.RAIL, who)
    let s := (s.set PW_LATCH.CAUSE 0).set PW_LATCH.RAIL 0
    let s := ((s.setFlag PW_STATUS.LATCHED false).setFlag PW_STATUS.HOLDWAKE false).showFaultLine
    some ({ s with tm := { s.tm with deferred := s.tm.deferred ++ [e] } } : State).startWake
  else none

/-- R252, R287: VIN is qualified: VM12 has not been LOW for 100 ms. -/
def vinQualified (r : PackReading) (s : State) : State :=
  if s.power = 0 ∨ s.channelFlag 12 = 1 then s
  else
    s.onTime (s.flagSince 12 + 10000000) fun s =>
      let s := s.pathToVin
      if s.wakeable then s.wake r else s

/-! ## Exhaustion and the TCXO period (R307, R313) -/

/-- R252: the device goes to OFF, whatever sequence runs: every rail stops. -/
def State.goOff (s : State) : State :=
  match s.pw.stop with
  | some st =>
      let rails := s.stopOrder fun _ => true
      if st.rail.isSome then { s with pw := { s.pw with stop := some { st with rails := rails, goal := .off } } }
      else stopNext .off st.collapsed rails s
  | none => s.beginStop .off fun _ => true

/-- R191, R307: exhaustion in SAVING is the energy running out. Step 6 is abandoned, and the record marked, since
MRAM is still supplied; before and after it a fault-log entry is attempted. A stop for another state becomes one
for OFF. -/
def State.energyOut (s : State) (p : Pavane) : State :=
  if p.step = PavaneStep.set ∧ s.pw.stop.isNone = true then s.abandonSave p false true
  else
    let s := s.queueFault 0x284 p.cause (s.get SH_UNSHAD.MIB) (s.get SH_MARGIN.E)
    if s.pw.stop.any fun st => st.goal != .saved then s.goOff
    else (s.pavaneTo { p with step := .down, energy := false }).stopAll

/-- R286, R307: VM18 or VM19 has been LOW, a cell below BT_VEXH, for 100 ms. -/
def State.cellExhausted (s : State) : Bool :=
  [18, 19].any fun n => s.channelFlag n == 1 && s.due (s.flagSince n + 10000000)

/-- R307: exhaustion is declared. -/
def exhaustion (r : PackReading) (s : State) : State :=
  if s.flag BT_STATUS.VINOK || s.power == 0 || !s.cellExhausted then s
  else
    let s := s.readPack r
    let s := { s with bt := { s.bt with capRecord := some (s.get BT_CAP.Q) } }
    match s.sv.pavane with
    | some p => s.energyOut p
    | none => ((s.raiseFault 0x48E r.cell1 r.cell2 (s.get BT_SOCD.PCT)).stopGalliard).goOff

/-- R288, R313: TM_TCXOMAX hours have passed in SAVED. -/
def tcxoPeriodEnd (s : State) : State :=
  if s.power = saved ∧ s.railOn 10 = true ∧ s.pw.wake = false then
    s.onTime (s.tm.savedFrom + s.get TM_TCXOMAX.H * 3600 * 100000000) fun s => (s.releaseRail 10).followPath
  else s

/-! ## The shared line (R248) -/

/-- R248: another module holds FAULT_n low, or releases it. -/
def faultLine (low : Bool) (s : State) : State :=
  if s.pw.lineLow = low then s
  else ({ s with pw := { s.pw with lineLow := low } } : State).showFaultLine.watchLine

/-! ## PSTATE (R253 to R256) -/

/-- R19, R255: the conditions every PSTATE shares. While a stop sequence runs none is admitted: the transition that the
device began comes first (assumption log 100). -/
def State.pstateLegal (s : State) (target : Nat) : Bool :=
  s.powerIn [standby, active, quiet, maint] && s.pw.stop.isNone && !s.flag PW_STATUS.SEQ && !s.flag PW_STATUS.FAULTEP &&
    s.svState != svWarning && (target != standby || s.hp.lend.isNone) &&
    (target != dormant || (s.svState == svDisarmed && s.hp.lend.isNone))

/-- R251, R252, R357, R381: DORMANT: the margin outputs return, the PSTATE completes, both ports deactivate and
every rail stops. -/
def State.goDormant (s : State) (ref : OpRef) : State :=
  let s := (s.when (s.power == maint) (·.marginsNominal)).post ref 0x01 dormant
  let s := (s.scDeactivate 1 0x53).mcDeactivate 1 0x6F
  s.beginStop .dormant fun _ => true

/-- R252 to R254: PSTATE takes effect. -/
def State.pstateTo (s : State) (ref : OpRef) (target wait : Nat) : State :=
  if s.power = target then s.post ref 0x01 target
  else if target = dormant then s.goDormant ref
  else if target = standby then
    if s.own = 0 ∧ s.allRefreshing = false then
      { s with pw := { s.pw with pstate := s.pw.pstate ++ [⟨ref, standby, s.clock + 100000 * wait⟩] } }
    else (s.enterStandby 1).post ref 0x01 standby
  else if s.power = standby ∧ s.auxOwed = true then
    ({ s with pw := { s.pw with pstate := s.pw.pstate ++ [⟨ref, target, 0⟩] } } : State).startRails (2 ^ 11)
  else (s.enterTarget target).post ref 0x01 target

/-- R256: PSTATE. -/
def pstate (op : Op) (s : State) : State :=
  s.issue op 0x14 (unitCost 0x14) fun s ref =>
    s.judge ref (op.ext.length == 0) (op.src == 0) true (s.pstateLegal op.dst)
      ([dormant, standby, active, quiet, maint].contains op.dst) 0x30 fun s => s.pstateTo ref op.dst op.imm9

/-- R253: WAIT runs out. -/
def standbyWaitTimeout (s : State) : State :=
  match s.pw.pstate.find? fun w => w.target == standby with
  | some w =>
      s.onTime w.until_ fun s =>
        ({ s with pw := { s.pw with pstate := s.pw.pstate.erase w } } : State).post w.ref 0x32 s.power
  | none => s

/-! ## RAIL (R238, R257) -/

/-- R257: the result of RAIL STATUS. -/
def State.railStatus (s : State) (k : Nat) : Nat :=
  s.railState k + 2 ^ 3 * s.get (PW_RAIL_C.RANK k) + 2 ^ 7 * boolNat (s.railOn k) + 2 ^ 8 * boolNat (s.rail k).dis +
    2 ^ 12 * s.railReading k

/-- R238: RAIL ON. -/
def State.switchAux (s : State) (ref : OpRef) : State :=
  let s := { s with pw := { s.pw with aux := true, isolated := false } }
  if s.railState 11 = railGood then s.post ref 0x01 0
  else
    let s := { s with pw := { s.pw with railOns := s.pw.railOns ++ [ref] } }
    if s.power = standby ∧ s.flag PW_CTL.AUXSTBY = false then s else s.startRails (2 ^ 11)

/-- R238, R242: RAIL OFF. -/
def State.dropAux (s : State) (ref : OpRef) : State :=
  let s := { s with pw := { s.pw with aux := false } }
  if s.railOn 11 then ({ s with pw := { s.pw with railOffs := s.pw.railOffs ++ [ref] } } : State).releaseRail 11
  else if s.railState 11 = railStopping then { s with pw := { s.pw with railOffs := s.pw.railOffs ++ [ref] } }
  else if s.railState 11 = railStuck then s.post ref 0x02 1
  else s.post ref 0x01 0

/-- R257: RAIL. ON and OFF are refused while a stop sequence runs (assumption log 100). -/
def rail (op : Op) (s : State) : State :=
  let k := op.imm9 % 16
  s.issue op 0x15 (unitCost 0x15) fun s ref =>
    s.judge ref (op.ext.length == 0) (op.src == 0 && decide (op.imm9 < 16)) true
      (!(op.dst == 1 || op.dst == 2) ||
        (s.powerIn [standby, active, quiet, maint] && s.pw.stop.isNone && !s.flag PW_STATUS.SEQ))
      (decide (1 ≤ op.dst) && decide (op.dst ≤ 3) && decide (k < 12) && (op.dst == 3 || k == 11)) 0x30 fun s =>
      match op.dst with
      | 1 => s.switchAux ref
      | 2 => s.dropAux ref
      | _ => s.post ref 0x01 (s.railStatus k)

/-! ## MARGIN (R250, R258) -/

/-- R255: MARGIN is legal, or its channel has no rail (R258). In a stop sequence MAINT is being left (assumption log
100). -/
def State.marginLegal (s : State) (m : Nat) : Bool :=
  let k := s.get (PW_MG.RAIL m)
  s.power == maint && s.pw.stop.isNone && (decide (k < 8) || k == 10 || k == 11 || k == 15)

/-- R250: a step is set on channel `m`. -/
def State.setMargin (s : State) (ref : OpRef) (m step : Nat) : State :=
  let k := s.get (PW_MG.RAIL m)
  let s := (s.set (PW_MG.STEP m) step).raise 0x389 m step k
  let s := { s with pw := { s.pw with
    margins := s.pw.margins ++ [(⟨m, ref, s.pw.evals⟩ : MarginWait)], returning := sparseDrop k s.pw.returning } }
  (s.setRail k { s.rail k with inFor := 0 }).retune k

/-- R258: MARGIN. -/
def margin (op : Op) (s : State) : State :=
  let m := op.dst % 4
  s.issue op 0x16 (unitCost 0x16) fun s ref =>
    s.judge ref (op.ext.length == 0) (decide (op.dst < 4) && op.src == 0 && decide (op.imm9 < 8)) true
      (s.marginLegal m) (decide (op.imm9 ≤ 4) && s.get (PW_MG.RAIL m) != 15) 0x30 fun s => s.setMargin ref m op.imm9

/-- The MARGINs of channel `m` that wait complete. -/
def State.endMargins (s : State) (m status : Nat) : State :=
  let waiting := s.pw.margins.filter fun w => w.channel == m
  let s := { s with pw := { s.pw with margins := s.pw.margins.filter fun w => w.channel != m } }
  s.postAll (waiting.map fun w => (w.ref, status, s.railResult (s.get (PW_MG.RAIL m))))

/-- R250, R251: the rail of channel `m` has been in its window for SETTLE. -/
def marginSettled (m : Nat) (s : State) : State :=
  if m < 4 ∧ 10 * (s.rail (s.get (PW_MG.RAIL m))).settle ≤ (s.rail (s.get (PW_MG.RAIL m))).inFor + 1 then
    let k := s.get (PW_MG.RAIL m)
    let s := ({ s with pw := { s.pw with returning := sparseDrop k s.pw.returning } } : State).when (k < 12) (·.retune k)
    s.endMargins m 0x01
  else s

/-- R250: 10 ms have passed: back to nominal. -/
def marginTimeout (m : Nat) (s : State) : State :=
  if m < 4 ∧ (s.pw.margins.any fun w => w.channel == m && decide (w.issued + 1000 ≤ s.pw.evals + 1)) = true then
    ((s.marginBack m 0).retune (s.get (PW_MG.RAIL m))).endMargins m 0x31
  else s

/-! ## Writes (R255) -/

/-- R255: the dependency masks are free of cycles: in as many rounds as rails, every rail can start. -/
def depsRound (deps : List Nat) (started : Nat) : Nat :=
  (List.range 12).foldl (fun m k => if (deps.getD k 0) &&& (4095 - started) = 0 then setBit m k else m) started

def acyclic (deps : List Nat) : Bool :=
  (List.range 12).foldl (fun m _ => depsRound deps m) 0 == 4095

/-- R255: whether the masks stay free of cycles when rail `k` takes `dep`. -/
def State.depOk (s : State) (k dep : Nat) : Bool :=
  acyclic ((List.range 12).map fun j => if j = k then dep else s.get (PW_RAIL_A.DEP j))

/-- R238: a write of PW_CTL.AUXSTBY in STANDBY: EN11 stops where it no longer keeps it on, and starts where it now does
and EN11 is wanted. A PSTATE that leaves STANDBY and waits for EN11 keeps it (R254). -/
def State.followAux (s : State) (was : Bool) : State :=
  let on := s.flag PW_CTL.AUXSTBY
  if s.power = standby ∧ s.pw.stop.isNone = true ∧ on ≠ was then
    if on then s.when s.auxOwed (·.startRails (2 ^ 11))
    else if s.pw.pstate.any fun w => w.target != standby then s
    else
      let s := { s with pw := { s.pw with seq := clearBit s.pw.seq 11 } }
      (s.when (s.railOn 11) (·.releaseRail 11)).showSeq
  else s

/-- R9, R247, R255: PW_CTL: a violation where none of the fields among `m` is writable by `w` now. The AUX
bits are written first, and of two legal actions UNLATCH is taken (assumption log 92). -/
def pwctlWrite (w : Writer) (v m : Nat) (s : State) : Option State :=
  let aux := (bitOf m 4 || bitOf m 5) && s.mayWrite w 0x7004 .rwm
  let was := s.flag PW_CTL.AUXSTBY
  let s := s.when aux fun s => ((s.set PW_CTL.AUXSTBY (v / 2 ^ 4)).set PW_CTL.AUXWAKE (v / 2 ^ 5)).followAux was
  match if bitOf m 0 then unlatchAction w s else none, if bitOf m 1 then wakeAction w s else none with
  | none, none => if aux then some s else none
  | some t, none => some (if bitOf v 0 then t else s)
  | none, some t => some (if bitOf v 1 then t else s)
  | some t, some u => some (if bitOf v 0 then t else if bitOf v 1 then u else s)

/-- R247, R255: a write of PW_CTL with `act` and the AUX bits as they stand. -/
def State.pwctlAct (s : State) (w : Writer) (act : Nat) : Option State :=
  pwctlWrite w (act + 2 ^ 4 * s.get PW_CTL.AUXSTBY + 2 ^ 5 * s.get PW_CTL.AUXWAKE) 0x33 s

/-- R255: a write of value `v` to the power block's slot at block offset `o`. -/
def pwWrite (w : Writer) (o v m : Nat) (s : State) : Option State :=
  let off := 0x7000 + o
  if o = 0x004 then pwctlWrite w v m s
  else if o = 0x008 then s.writeIf (PW_WAKE.STATE.within v 3 4) w off v m
  else if o = 0x00C then s.writeIf (PW_TFAULT.MS.within v 0 100) w off v m
  else if o = 0x028 then (s.plainWrite w off v m).map (·.showFaultLine)
  else if 0x040 ≤ o ∧ o < 0x050 then s.writeIf (s.power != maint) w off v m
  else if 0x100 ≤ o ∧ o < 0x1C0 then
    let k := (o - 0x100) / 16
    if o % 16 = 0 then
      Option.map (·.showFaultLine) <| s.writeWhere (fun f =>
        (f.key != (PW_RAIL_A.DEP k).key || s.depOk k (f.of v)) &&
          (f.key != (PW_RAIL_A.ISOLATE k).key || decide (k = 11) || f.of v == 0)) w off v m
    else if o % 16 = 4 then s.writeWhere (fun f => f.of v != 0) w off v m
    else s.plainWrite w off v m
  else s.plainWrite w off v m

def execSequencerEvaluation (mask : Nat) (s : State) : Outcome State Fault Refusal := .next (sequencerEvaluation mask s)
def execStartTimeout (rail : Nat) (s : State) : Outcome State Fault Refusal := .next (startTimeout rail s)
def execRailFault (rail : Nat) (high : Bool) (reading ma : Nat) (s : State) : Outcome State Fault Refusal :=
  .next (railFault rail high reading ma s)
def execFaultWithdrawal (s : State) : Outcome State Fault Refusal := .next (faultWithdrawal s)
def execTFaultExpiry (s : State) : Outcome State Fault Refusal := .next (tFaultExpiry s)
def execUnlatch (w : Writer) (s : State) : Outcome State Fault Refusal :=
  .next (s.rowWrite w 0x7004 (s.pwctlAct w 1))
def execWake (w : Writer) (s : State) : Outcome State Fault Refusal := .next (s.rowWrite w 0x7004 (s.pwctlAct w 2))
def execVinQualified (r : PackReading) (s : State) : Outcome State Fault Refusal := .next (vinQualified r s)
def execPstateActive (op : Op) (s : State) : Outcome State Fault Refusal := .next (pstate { op with dst := active } s)
def execPstateQuiet (op : Op) (s : State) : Outcome State Fault Refusal := .next (pstate { op with dst := quiet } s)
def execPstateMaint (op : Op) (s : State) : Outcome State Fault Refusal := .next (pstate { op with dst := maint } s)
def execPstateStandby (op : Op) (s : State) : Outcome State Fault Refusal := .next (pstate { op with dst := standby } s)
def execPstateDormant (op : Op) (s : State) : Outcome State Fault Refusal := .next (pstate { op with dst := dormant } s)
def execStandbyWaitTimeout (s : State) : Outcome State Fault Refusal := .next (standbyWaitTimeout s)
def execRailOn (op : Op) (s : State) : Outcome State Fault Refusal := .next (rail { op with dst := 1 } s)
def execRailOff (op : Op) (s : State) : Outcome State Fault Refusal := .next (rail { op with dst := 2 } s)
def execRailStatus (op : Op) (s : State) : Outcome State Fault Refusal := .next (rail { op with dst := 3 } s)
def execMargin (op : Op) (s : State) : Outcome State Fault Refusal := .next (margin op s)
def execMarginSettled (m : Nat) (s : State) : Outcome State Fault Refusal := .next (marginSettled m s)
def execMarginTimeout (m : Nat) (s : State) : Outcome State Fault Refusal := .next (marginTimeout m s)
def execFaultLineLow (s : State) : Outcome State Fault Refusal := .next (faultLine true s)
def execFaultLineRelease (s : State) : Outcome State Fault Refusal := .next (faultLine false s)
def execExhaustion (r : PackReading) (s : State) : Outcome State Fault Refusal := .next (exhaustion r s)
def execTcxoPeriodEnd (s : State) : Outcome State Fault Refusal := .next (tcxoPeriodEnd s)

end Sys2Proof.Machine
end

