-- ==== Sys2Proof/Machine/StartUp.lean ====
section
/-! DEFINITION. Cold start, the loss of VDD_AON, and steps 4 and 5 of a core start (R581 to R590, R593). -/

namespace Sys2Proof.Machine

open Reg Host

/-! ## The always-on domain (R583, R586, R593) -/

/-- R586, R593: the registers that show a record of MRAM, OTP or NAND, and the count of cold starts. -/
def recordKept (off : Nat) : Bool :=
  off == PW_LATCH.CAUSE.off || off == TM_XTOFS.F.off || (decide (0xA400 ≤ off) && decide (off < 0xA600)) ||
    (decide (0x11004 ≤ off) && decide (off < 0x11010)) || (decide (0x11040 ≤ off) && decide (off < 0x11230)) ||
    [SY_COLDSTARTS.COUNT.off, MN_FLNEWEST.SLOT.off, MN_FLCOUNT.COUNT.off, SE_SEALSEQH.SEQ.off,
      SE_SEALSEQL.SEQ.off, SE_CARDST.ENT.off].contains off

def keyKept (k : Nat) : Bool := recordKept (k / 32) || k == AE_STATUS.FROZEN.key || k == PW_STATUS.HOLDWAKE.key

/-- R583, R593: what VDD_AON alone held is lost; MRAM, OTP and NAND stay. -/
def State.dropAll (s : State) : State :=
  let t := ({ s.stopLife with coreUp := false, sv := { s.sv with pavane := none } } : State).dropCore
  { t with
    regs := s.regs.filter fun e => keyKept e.1
    running := false
    mn := { Monitors.reset with slots := s.mn.slots, fseq := s.mn.fseq, newest := s.mn.newest }
    pw := .reset
    tm := .reset
    bt := { Battery.reset with hold := false, capRecord := s.bt.capRecord }
    sb := ⟨s.clock, 0, [], s.clock⟩
    se := { t.se with inForce := [] } }

/-- R194: the write of the save record that VDD_AON's loss cut short leaves a torn copy: the other one stands. -/
def State.tearRecord (s : State) : State :=
  match s.sv.oldRecord with
  | some r => if s.sv.recordAt = s.clock then { s with sv := { s.sv with record := r, oldRecord := none } } else s
  | none => s

/-- R223: as much for the MRAM copies of the root record: the store is what the other copy names. Without one the NAND
copies, written first, name the new one. -/
def State.tearRoot (s : State) : State :=
  if s.fl.rootAt = s.clock then
    match s.fl.oldRoot, s.fl.oldStore with
    | some r, some v => s.setFl { s.fl.withView v with root := some r, oldRoot := none, oldStore := none }
    | _, _ => s.setFl { s.fl with root := none }
  else s

/-- R583, R542: VDD_AON is lost: OFF. `saveTorn` and `rootTorn` say that the loss cut short the write of that record,
which it can do only to one of this moment. -/
def vddAonLoss (saveTorn rootTorn : Bool) (s : State) : State :=
  let s := (s.when saveTorn (·.tearRecord)).when rootTorn (·.tearRoot)
  (s.tearFault.seTear).dropAll.set PW_STATE.STATE 0

/-! ## The image in force (R584, R585) -/

/-- R584: the copies that are written and whose HMAC verifies. -/
def goodCopy (c : Option ParamCopy) (valid : Bool) : Option ParamCopy :=
  match c with
  | some c => if c.good && valid then some c else none
  | none => none

/-- R584: the image in force: its source and its copy. -/
def chooseParams (a b : Option ParamCopy) (validA validB : Bool) : Nat × Option ParamCopy :=
  let aNew := match a, b with
    | some x, some y => decide (y.seq < x.seq)
    | some _, none => true
    | none, _ => false
  let (new, old) := if aNew then (goodCopy a validA, goodCopy b validB) else (goodCopy b validB, goodCopy a validA)
  match new, old with
  | some c, _ => (1, some c)
  | none, some c => (2, some c)
  | none, none => if a.isNone && b.isNone then (0, none) else (3, none)

/-- R584: the image in force is chosen, shown, and applied to the always-on domain. -/
def State.loadParams (s : State) (validA validB : Bool) : State :=
  let (src, copy) := chooseParams (s.se.copies.getD 0 none) (s.se.copies.getD 1 none) validA validB
  let records := (copy.map (·.records)).getD []
  let s := s.setSe { s.se with inForce := records }
  let s := ((s.set SY_STARTINFO.PSRC src).set SY_PARAMSEQ.SEQ ((copy.map (·.seq)).getD 0)).set SY_PARAMRECS.N
    records.length
  let s := s.applyRecords alwaysOn records
  let s :=
    if src = 2 ∨ src = 3 then
      { s with tm := { s.tm with deferred := s.tm.deferred ++ [(0x005, src - 1, s.get SY_PARAMRECS.N, 0)] } }
    else s
  s.when (src == 3) (·.queueFault 0x005 2 (s.get SY_PARAMRECS.N) 0)

/-- R15, R268, R270, R286: the registers that follow from the always-on settings. -/
def State.loadDerived (s : State) : State :=
  let s := (List.range 32).foldl (fun (s : State) n => s.retune n) s
  ((s.retuneVin.packThresholds).batteryManual true true).timeManual true

/-! ## Cold start (R581, R582) -/

/-- R302: BT_CAP from its record, or BT_CAPNOM. -/
def State.loadCap (s : State) : State := s.set BT_CAP.Q (s.bt.capRecord.getD (s.get BT_CAPNOM.Q))

/-- R246, R311, R582: LATCHED where the latch record is set, with Wellhead on the crystal; DORMANT otherwise. -/
def State.settle (s : State) : State :=
  let held := s.get PW_LATCH.CAUSE != 0
  let s := (s.setFlag PW_STATUS.LATCHED held).set PW_STATE.STATE (if held then latched else dormant)
  let s := s.followPath.showFaultLine
  s.when held (·.startTime)

/-- R278: a pin is released. -/
def unpinned (e : Nat × FaultSlot) : Nat × FaultSlot := (e.1, { e.2 with pinned := false })

/-- R581: a cold start, with the address pins, whether the copies' HMACs verify, and the pack's readings. -/
def coldStart (sa : Nat) (validA validB : Bool) (r : PackReading) (s : State) : State :=
  if s.power = 0 then
    let s := s.dropAll
    let s := { s with bt := { s.bt with hold := true } }
    let s := (s.set SB_ADDR.ADDR (0x58 + sa % 8)).addHold SY_COLDSTARTS.COUNT 1
    let s := { s with mn := { s.mn with pins := 64, slots := s.mn.slots.map unpinned } }
    let s := ((s.loadParams validA validB).loadDerived).loadCap
    (s.restartGauge r).settle
  else s

/-! ## Steps 4 and 5 of a core start (R587, R588) -/

/-- R224, R587: the store opens and step 5 follows. -/
def flashStoreOpen (targets : List FoundTarget) (bad : List (Nat × Nat)) (work : FlashWork) (s : State) : State :=
  if s.coreUp && !s.flag FL_STATUS.READY then
    let s := flashOpen targets bad work s
    if s.flag FL_STATUS.READY then
      let s := s.detectImage
      let s := s.when (s.flag AE_CTL.AUTOLOAD) (·.reload.1)
      s.lkAutoJoin
    else s
  else s

/-- R136, R588: the cold-start scrub starts, or is deferred for the image that waits. HP_SCRUBCFG.EN was read at
the rail start (R144). With EN 0 there is no scrub to defer: R588 reads as if DEFERRED set all the same, and the
model leaves it 0 (assumption log 109). -/
def scrubStart (s : State) : State :=
  if s.coreUp && s.hp.railScrub && s.flag HP_STATUS.DTI && s.flag FL_STATUS.READY then
    let s := { s with hp := { s.hp with railScrub := false } }
    if s.get SV_STATUS.IMAGE = 0 then s.beginScrub else s.setFlag HP_STATUS.DEFERRED true
  else s

def execColdStart (sa : Nat) (validA validB : Bool) (r : PackReading) (s : State) : Outcome State Fault Refusal :=
  .next (coldStart sa validA validB r s)
def execVddAonLoss (saveTorn rootTorn : Bool) (s : State) : Outcome State Fault Refusal :=
  .next (vddAonLoss saveTorn rootTorn s)
def execFlashOpen (targets : List FoundTarget) (bad : List (Nat × Nat)) (work : FlashWork) (s : State) :
    Outcome State Fault Refusal :=
  .next (flashStoreOpen targets bad work s)
def execScrubStart (s : State) : Outcome State Fault Refusal := .next (scrubStart s)

end Sys2Proof.Machine
end

