-- ==== Sys2Proof/Machine/Slots.lean ====
section
/-! DEFINITION. The aperture's slots: what a read returns and what a keyed write does, wherever it comes
from (R5, R7, R9, R23, R28, R34, R35), and RDREG, WRREG and register writes (R102, R103). -/

namespace Sys2Proof.Machine

open Reg Host

/-! ## Reads (R23, R35, R571) -/

/-- What a field shows that the register file does not hold. -/
def State.shownField (s : State) (f : Field) : Nat :=
  let i := (f.off % 0x1000 - 0x10) / 4
  let p := (f.off - 0xD100) / 0x80
  if f.key = SY_BOOT.FLAGS.key then
    if s.coreUp then
      boolNat (s.own == 0) * 64 + s.get HP_STATUS.BASE * 32 + s.get HP_STATUS.DEFERRED * 16 +
        boolNat (s.get SV_STATUS.IMAGE != 0) * 8 + s.get FL_STATUS.READY * 4 + s.get HP_STATUS.DTI * 2 + 1
    else 0
  else if f.key = SH_CAPFILL.ENTRIES.key then s.capFill
  else if f.key = SV_SAVESH.SEQ.key then s.sv.record.saveSeq / 2 ^ 24
  else if f.key = SV_SAVESL.SEQ.key then s.sv.record.saveSeq
  else if f.key = MN_FLSTAT.VALID.key then boolNat (s.faultEntry (s.get MN_FLSEL.SLOT)).isSome
  else if f.key = MN_FLSTAT.PINNED.key then
    boolNat (((s.faultEntry (s.get MN_FLSEL.SLOT)).map (·.pinned)).getD false)
  else if (MN_FLWIN.WORD 0).off ≤ f.off ∧ f.off ≤ (MN_FLWIN.WORD 63).off then
    match s.faultEntry (s.get MN_FLSEL.SLOT) with
    | some e => e.word ((f.off - (MN_FLWIN.WORD 0).off) / 4)
    | none => 0
  else if (TM_NOW.STAMP 0).off ≤ f.off ∧ f.off ≤ (TM_NOW.STAMP 2).off then
    (stampWords s.now (s.get TM_STATUS.QUAL)).getD i 0
  else if f.key = TM_LOGCOUNT.N.key then s.log.length
  else if f.key = SV_STATUS.PFW.key then boolNat s.pfw
  else if f.key = BT_STATUS.BALANCING.key then boolNat s.bleeding
  else if f.key = FL_PATROLAGE.HOURS.key then s.patrolAge
  else if f.key = FL_JSTRIPES.STRIPES.key then s.journalStripes
  else if f.key = MC_STATUS.CLKRUN.key then boolNat s.mcClkRun
  else if p < 4 ∧ f.key = (UA_LEVEL.TX p).key then s.uaLevel p / 256
  else if p < 4 ∧ f.key = (UA_LEVEL.RX p).key then s.uaLevel p
  else if p < 4 ∧ f.key = (UA_STAT.DE p).key then boolNat (s.uaDe p)
  else if p < 4 ∧ f.key = (UA_STAT.TXBUSY p).key then boolNat (s.uaSending p)
  else if p < 4 ∧ f.key = (UA_STAT.RXBUSY p).key then boolNat (s.uaReceiving p)
  else if p < 4 ∧ f.key = (UA_TXBYTES.COUNT p).key then s.uaTxBytes p
  else if p < 4 ∧ f.key = (UA_PEND.SENDS p).key then s.uaPend p / 8
  else if p < 4 ∧ f.key = (UA_PEND.RECVS p).key then s.uaPend p
  else if f.key = LK_QUEUE.FRAMES.key then s.lkQueueWord / 256
  else if f.key = LK_QUEUE.SENDS.key then s.lkQueueWord
  else if f.key = AE_STATUS.PAUSED.key then boolNat s.aePaused
  else if f.key = AE_SLICECYC.CYC.key then s.sliceCycles
  else if f.key = CP_STATUS.BUSY.key then s.cpStatus / 8
  else if f.key = CP_STATUS.QUEUED.key then s.cpStatus
  else if f.key = SE_STATUS.BUSY.key then s.seStatus / 8
  else if f.key = SE_STATUS.QUEUED.key then s.seStatus
  else if f.key = SE_FLOORH.SEQ.key then s.selectedFloor / 2 ^ 24
  else if f.key = SE_FLOORL.SEQ.key then s.selectedFloor
  else if f.key = FP_DIAG.DIAG.key then s.diag
  else if (FP_IND_C.AGE 0).off ≤ f.off ∧ f.off ≤ (FP_IND_C.AGE 7).off ∧ f.off % 16 = 8 ∧ f.lo = 12 then
    s.lampAge ((f.off - (FP_IND_C.AGE 0).off) / 16)
  else if f.key = SB_HBAGE.MS.key then s.hbAge
  else s.get f

/-- R35: what field `fa` reads. -/
def State.readField (s : State) (fa : FieldAcc) : Nat :=
  match fa.acc with
  | .wo => 0
  | _ => s.shownField fa.field % 2 ^ fa.field.width * 2 ^ fa.field.lo

/-- What a register slot reads; a slot of no register reads zero (R5). -/
def State.readRegister (s : State) (off : Nat) : Nat := ((slotFields off).map s.readField).sum

/-- R28: the slot of a smart-card buffer that slot `i` of its window shows on page `page`; none beyond it. -/
def cardSlot (buffer page i : Nat) : Option Nat :=
  if page = 0 then some (buffer + 4 * i) else if i < 683 then some (buffer + 4 * (2048 + i)) else none

/-- R28: the buffer slot behind the aperture offset `off` of a smart-card window. -/
def State.windowSlot (s : State) (off : Nat) : Option Nat :=
  if off < 0x92000 then cardSlot cmdBuffer (s.get SC_PAGE.CMDPG) ((off - 0x90000) / 4)
  else cardSlot rspBuffer (s.get SC_PAGE.RSPPG) ((off - 0x92000) / 4)

/-- R7, R34: what a read of the slot at `off` returns. A slot of a domain that is down reads zero. -/
def State.readSlot (s : State) (off : Nat) : Nat :=
  if !s.coreUp && !alwaysOn off then 0
  else if off < 0x14000 then s.readRegister off
  else if off < 0x20000 then s.logWindow ((off - 0x14000) / 32) ((off - 0x14000) % 32 / 4)
  else if off < 0x40000 then 0
  else if 0x90000 ≤ off ∧ off < 0x94000 then
    match s.windowSlot off with
    | some b => s.slot b
    | none => 0
  else if off < 0x100000 then s.slot off
  else 0

/-! ## Writes (R7, R9, R25, R34, R103) -/

/-- A write of value `v` under mask `m` to a register slot, by the unit's chapter. -/
def State.unitWrite (s : State) (w : Writer) (off v m : Nat) : Option State :=
  let o := off % 0x1000
  match off / 0x1000 with
  | 0 => syWrite w o v m s
  | 1 => tkWrite w o v m s
  | 2 => quWrite w o v m s
  | 3 => hpWrite w o v m s
  | 4 => shWrite w o v m s
  | 5 => svWrite w o v m s
  | 6 => flWrite w o v m s
  | 7 => pwWrite w o v m s
  | 8 => mnWrite w o v m s
  | 9 => btWrite w o v m s
  | 10 => tmWrite w o v m s
  | 11 => scWrite w o v m s
  | 12 => mcWrite w o v m s
  | 13 => uaWrite w o v m s
  | 14 => lkWrite w o v m s
  | 15 => aeWrite w o v m s
  | 17 => seWrite w o v m s
  | 18 => fpWrite w o v m s
  | 19 => sbWrite w o v m s
  | _ => s.plainWrite w off v m

/-- `v` in the bits of `m`, the old word elsewhere (R103). -/
def mergeWord (old v m : Nat) : Nat := (old &&& (2 ^ 24 - 1 - m % 2 ^ 24)) ||| (v &&& m)

/-- R5, R9, R571: a write to a register slot. With no field among the written bits nothing happens; a register
whose domain is down is not written. -/
def State.registerWrite (s : State) (w : Writer) (off v m : Nat) : Option State :=
  if off / 0x1000 = 2 ∧ writerKind w = 3 then none
  else if ((slotFields off).filter fun fa => fa.field.mask m != 0).isEmpty then some s
  else if !s.domainUp off then none
  else s.unitWrite w off (mergeWord (s.readRegister off) v m) m

/-- R67, R69, R76: a write to a submission area: by the ring's owner, outside what the device holds. -/
def State.submissionWrite (s : State) (w : Writer) (off v : Nat) : Option State :=
  let r := (off - 0x40000) / 0x4000
  let p := (off - 0x40000) % 0x4000 / 4
  let ahead := (p + 4096 - s.get (QU_HEAD.HEAD r) % 4096) % 4096
  if s.ownsRing w r && decide (s.occupancy r ≤ ahead) then some (s.setSlot off v) else none

/-- R375, R402: a write to a byte stream, of the lanes the device does not own. -/
def State.laneWrite (s : State) (off v m : Nat) (owned : Nat → Bool) : Option State :=
  let lanes := [0, 1, 2].filter fun j => bitsOf m (8 * j) 8 != 0
  let free := lanes.filter fun j => !owned j
  if lanes.isEmpty then some s
  else if free.isEmpty then none
  else
    let m' := m &&& (free.map fun j => 0xFF * 2 ^ (8 * j)).sum
    some (s.setSlot off (mergeWord (s.slot off) v m'))

/-- R28, R356, R375, R402, R470: a write to staging. One beyond the 683rd slot of page 1 of the command window
is ignored and not counted (assumption log 93), and a zero mask changes nothing (R103). -/
def State.stagingWrite (s : State) (off v m : Nat) : Option State :=
  if m = 0 then some s
  else if off < 0x92000 then
    if s.scCommandBusy then none
    else
      match s.windowSlot off with
      | some b => some (s.setSlot b (mergeWord (s.slot b) v m))
      | none => some s
  else if off < mcStaging then none
  else if off < uaStaging then
    s.laneWrite off v m fun j => s.mcOwnsBlock ((3 * ((off - mcStaging) / 4) + j) / 512)
  else if off < aeStaging then
    let i := (off - uaStaging) / 4
    s.laneWrite off v m fun j =>
      s.uaOwnsByte (i / 4096) (3 * (i % 4096) + j) || (decide (i < 8192) && s.lkOwnsByte (3 * i + j))
  else if off < pkgStaging then
    if s.ownsResult ((off - aeStaging) / 4) then none else some (s.setSlot off (mergeWord (s.slot off) v m))
  else if off < genStaging then s.laneWrite off v m fun j => s.areaOwned true (3 * ((off - pkgStaging) / 4) + j)
  else s.laneWrite off v m fun j => s.areaOwned false (3 * ((off - genStaging) / 4) + j)

/-- R9, R34, R103: a keyed write of `v` under mask `m` by `w` to the slot at `off`; none where it is ignored
under R7. -/
def State.writeSlot (s : State) (w : Writer) (off v m : Nat) : Option State :=
  if off < 0x14000 then s.registerWrite w off v m
  else if off < 0x20000 then none
  else if off < 0x40000 then if writerKind w = 3 then none else some s
  else if !s.coreUp then none
  else if off < 0x80000 then s.submissionWrite w off v
  else if off < 0x90000 then none
  else if off < 0x100000 then s.stagingWrite off v m
  else some s

def wordMask : Nat := 2 ^ 24 - 1

/-- R9: a keyed register write. -/
def registerWriteBy (w : Writer) (off v : Nat) (s : State) : State :=
  let off := off % 0x100000 / 4 * 4
  s.orViolate w off (s.writeSlot w off (v % 2 ^ 24) wordMask)

/-! ## RDREG and WRREG (R102, R103) -/

def rdreg (op : Op) (s : State) : State :=
  let off := 4 * s.rdIndex op
  s.coreIssue op 0x0E true fun s =>
    let s := s.drainWindows
    let r := s.readSlot off
    (s.set (SY_CTX.G op.ring op.dst) r).setFlags op.ring (logicFlags r)

def wrreg (op : Op) (s : State) : State :=
  let off := 4 * s.wrIndex op
  s.coreIssue op 0x0F true fun s =>
    match s.writeSlot (.ring op.ring) off (s.greg op.ring op.src) op.wrMask with
    | some t => t
    | none => s.retire op.ring 0x0F

def execRdreg (op : Op) (s : State) : Outcome State Fault Refusal := .next (rdreg op s)
def execWrreg (op : Op) (s : State) : Outcome State Fault Refusal := .next (wrreg op s)
def execRegisterWrite (w : Writer) (off : Nat) (v : Word) (s : State) : Outcome State Fault Refusal :=
  .next (registerWriteBy w off v.toNat s)

end Sys2Proof.Machine
end

