-- ==== Sys2Proof/Machine/HostBus.lean ====
section
/-! DEFINITION. Host READs and WRITEs, and self-refresh entry (R22 to R25, R118, R120, R123 to R132, R139,
R204, R253, R463). -/

namespace Sys2Proof.Machine

open Reg Host

/-! ## Addresses (R118, R123) -/

/-- R118: the module address bits below the rank. -/
def State.rankBits (s : State) : Nat := 17 + s.rowBits

/-- R123: the module address of the first byte of a line. -/
def State.lineAddress (s : State) (rank row bank col : Nat) : Nat :=
  rank * 2 ^ s.rankBits + row % 2 ^ s.rowBits * 2 ^ 17 + bank % 16 * 2 ^ 13 + col % 128 * 2 ^ 6

/-- R123, R124: the first beat a burst carries: all eight, or the four of a BC4. -/
def burstFirst (first beats : Nat) : Nat := if beats < 8 then first % 8 / 4 * 4 else 0

def burstBeats (beats : Nat) : Nat := if beats < 8 then 4 else 8

/-- Where an access finds the block: the device's aperture, the DRAM, a bank seen as precharged (R124); absorbed
and read as zero; or absorbed where no rule says what a READ returns, the host being bound to issue none: in LENT
and HELD (R132) and within 4 µs of a reclaiming SRX (R141). -/
inductive HostTarget where
  | aperture
  | dram
  | precharged
  | absorbed
  | refreshing
  deriving DecidableEq, Repr

/-- R63, R124: whether module address `a` lies in the open aperture. -/
def State.inAperture (s : State) (a : Nat) : Bool :=
  s.flag QU_APCTL.EN && decide (a / 2 ^ 20 = s.get QU_APCTL.BASE)

/-- R204: what a host window lets through: READs of ready regions, WRITEs of ready volatile ones. -/
def State.windowPasses (s : State) (a : Nat) (write : Bool) : Bool :=
  s.flag SV_STATUS.WIN &&
    match s.regionAt a with
    | some k => s.regionReady k && (!write || s.get (SH_RG_A.KIND k) == 3)
    | none => false

/-- R132: what becomes of an access to `a`, in a bank that is open or precharged. -/
def State.hostTarget (s : State) (a : Nat) (opened write : Bool) : HostTarget :=
  if s.clock < s.hp.deafUntil then .refreshing
  else if s.own = 0 then
    if !opened then .precharged else if s.inAperture a then .aperture else .dram
  else if s.own = 1 then
    if s.flag HP_OWN.BLOCK then .absorbed
    else if opened && s.inAperture a then .aperture
    else if opened && s.windowPasses a write then .dram
    else .absorbed
  else .refreshing

/-! ## READ -/

/-- R22: the four bytes of an aperture slot. -/
def slotBytes (w : Nat) : List Nat := [w % 256, w / 2 ^ 8 % 256, w / 2 ^ 16 % 256, 0]

/-- R125: the check bytes of a list of bytes the device supplies, a beat at a time. -/
def State.checksOf (s : State) (bytes : List Nat) : List Nat :=
  (List.range (bytes.length / 8)).map fun i => s.checkOf ((bytes.drop (8 * i)).take 8)

/-- What the READ returned. -/
def State.answers (s : State) (bytes checks : List Nat) : State :=
  { s with hp := { s.hp with answer := bytes, answerCheck := checks } }

/-- R24, R132: the bytes of `n` aperture slots from offset `off`. -/
def State.apertureBytes (s : State) (off n : Nat) : List Nat :=
  (List.range n).flatMap fun i => slotBytes (s.readSlot (off + 4 * i))

/-- R132: a READ of rank `rank`, bank `bank`, column [9:3] `col`, from beat `first`. -/
def hostRead (rank bank col first beats : Nat) (s : State) : Outcome State Fault Refusal :=
  let row := sparseFind (bankKey rank bank) s.hp.rows
  let n := 8 * burstBeats beats
  let a := s.lineAddress rank (row.getD 0) bank col + 8 * burstFirst first beats
  match s.hostTarget a row.isSome false with
  | .aperture =>
      let s := s.drainWindows
      let bytes := s.apertureBytes (a % 2 ^ 20) (n / 4)
      .next (s.answers bytes (s.checksOf bytes))
  | .dram =>
      if a < s.dramBytes then
        .next (s.answers (s.hp.dram.read a n) ((List.range (n / 8)).map fun i => s.hp.dram.check (a / 8 + i)))
      else .fault (.noMemory a)
  | .absorbed => .next ((s.add HP_ABSORBED.COUNT 1).answers (zeros n) (s.checksOf (zeros n)))
  | other =>
      let s := s.when (other == .refreshing) (·.add HP_ABSORBED.COUNT 1)
      let (bytes, s) := State.drawBytes n s
      let (checks, s) := State.drawBytes (n / 8) s
      .next (s.answers bytes checks)

/-! ## WRITE -/

/-- A write burst: its line's module address, its first byte in the line, its bytes, which of them are
enabled, and the check byte of each of its beats. -/
structure Burst where
  line : Nat
  first : Nat
  data : List Nat
  mask : Nat
  check : List Nat
  deriving DecidableEq, Repr

/-- The enabled bytes of a burst, by their place in the line. -/
def Burst.bytes (b : Burst) : List (Nat × Nat) :=
  ((List.range b.data.length).filter fun i => bitOf b.mask i).map fun i => (b.first + i, b.data.getD i 0 % 256)

/-- R463: whether the burst writes every byte of its line. -/
def Burst.full (b : Burst) : Bool := b.first == 0 && b.data.length == 64 && (List.range 64).all fun i => bitOf b.mask i

/-- R22, R24: the keyed slots of a burst, as (byte in the line, word). -/
def Burst.slots (b : Burst) : List (Nat × Nat) :=
  let on := fun i => bitOf b.mask i
  let byte := fun i => b.data.getD i 0 % 256
  ((List.range (b.data.length / 4)).filter fun j =>
    on (4 * j) && on (4 * j + 1) && on (4 * j + 2) && on (4 * j + 3) && byte (4 * j + 3) == 0x5A).map fun j =>
    (b.first + 4 * j, byte (4 * j) + 2 ^ 8 * byte (4 * j + 1) + 2 ^ 16 * byte (4 * j + 2))

/-- Whether a slot holds a share, whose writes in one burst are judged together (R46). -/
def isShare (off : Nat) : Bool := decide (0x1040 ≤ off) && decide (off < 0x1080)

/-- R9, R12, R24: the slots of one burst, all in one cycle: the state, and the violations. The spec gives one
cycle and no order: the slots are judged in ascending offset, each against the state that those before it
left (assumption log 93). -/
def writeSlots : List (Nat × Nat) → State → List Violation → State × List Violation
  | [], s, vs => (s, vs)
  | (off, w) :: rest, s, vs =>
      match s.writeSlot .host off w wordMask with
      | some t => writeSlots rest t vs
      | none => writeSlots rest s (writerViolation .host off :: vs)

/-- R24, R46: a burst into the aperture from offset `base`. -/
def State.apertureWrite (s : State) (base : Nat) (b : Burst) : State :=
  let slots := b.slots.map fun e => (base + e.1, e.2)
  let shares := (slots.filter fun e => isShare e.1).map fun e => ((e.1 - 0x1040) / 4, e.2 % 1024)
  let (s, bad) := sharesApply .host shares s
  let (s, vs) := writeSlots (slots.filter fun e => !isShare e.1) s []
  s.violations ((bad.map fun r => writerViolation .host (0x1040 + 4 * r)) ++ vs)

/-- R119: the burst reaches the DRAM, with the host's check bytes. -/
def State.dramWrite (s : State) (b : Burst) : State :=
  let dram := s.hp.dram.writes (b.bytes.map fun e => (b.line + e.1, e.2))
  let beats := (List.range (b.data.length / 8)).filter fun j => (List.range 8).any fun i => bitOf b.mask (8 * j + i)
  let dram := beats.foldl (fun (m : Image) j => m.writeCheck ((b.line + b.first) / 8 + j) (b.check.getD j 0)) dram
  { s with hp := { s.hp with dram := dram } }

/-- R128: the beats of a captured write whose check bytes do not match. -/
def State.mismatches (s : State) (b : Burst) : Nat :=
  ((List.range (b.data.length / 8)).filter fun j =>
    ((List.range 8).all fun i => bitOf b.mask (8 * j + i)) &&
      s.checkOf ((b.data.drop (8 * j)).take 8) != b.check.getD j 0 % 256).length

/-- R128: the check of a captured write. CHECK_MISMATCH at the first mismatch of a second counts the whole burst, whose
beats the device checks together (assumption log 96). -/
def State.checkWrite (s : State) (b : Burst) : State :=
  let n := if s.get HP_ECCCTL.MODE = 1 then s.mismatches b else 0
  if n = 0 then s
  else
    let first := s.hp.mismatchSecond != some s.seconds
    let s := s.add HP_CHKMISM.COUNT n
    let s := { s with hp := { s.hp with mismatchSecond := some s.seconds } }
    s.when first (·.raise 0x184 (b.line / 2 ^ 12) n 0)

/-- R129, R150, R463: what the device does with a captured write. -/
def State.captured (s : State) (b : Burst) : State :=
  let s := s.checkWrite b
  let s := s.capture (b.line / 64) (b.bytes.foldl (fun m e => sparsePut e.1 e.2 m) [])
  s.ingest b.line b.data b.full

/-- R120: the bytes of a WRITE that are enabled: all of them on a module of x4 devices. -/
def State.writeMask (s : State) (mask : Nat) : Nat := if s.get HP_CONFIG.WIDTH = 1 then 2 ^ 64 - 1 else mask

/-- R132: a WRITE. With the host's write CRC recorded every burst is absorbed (R120). -/
def hostWrite (rank bank col first beats : Nat) (data : List Nat) (mask : Nat) (check : List Nat) (s : State) :
    Outcome State Fault Refusal :=
  let row := sparseFind (bankKey rank bank) s.hp.rows
  let line := s.lineAddress rank (row.getD 0) bank col
  let b : Burst := ⟨line, 8 * burstFirst first beats, data.take (8 * burstBeats beats), s.writeMask mask, check⟩
  if s.crcEnabled rank then .next (s.add HP_ABSORBED.COUNT 1)
  else
    match s.hostTarget line row.isSome true with
    | .aperture => .next (s.apertureWrite (line % 2 ^ 20) b)
    | .dram =>
        if line < s.dramBytes then
          if s.own = 0 then .next ((s.dramWrite b).captured b) else .next (s.dramWrite b)
        else .fault (.noMemory line)
    | .precharged => .next s
    | _ => .next (s.add HP_ABSORBED.COUNT 1)

/-! ## Self-refresh entry (R138, R139, R253) -/

/-- R139, R253: rank `rank` enters self-refresh while the host drives the DRAM. -/
def hostSelfRefreshEntry (rank : Nat) (s : State) : State :=
  if s.own = 0 ∧ s.hp.deafUntil ≤ s.clock then
    let s := { s with hp := { s.hp with selfRefresh := setBit s.hp.selfRefresh rank } }
    if s.allRefreshing then s.openLend.when (s.own == 0) (·.endStandbys) else s
  else s

def execHostRead (rank bank col first beats : Nat) (s : State) : Outcome State Fault Refusal :=
  if s.coreUp then hostRead rank bank col first beats s else .next s
def execHostWrite (rank bank col first beats : Nat) (data : List Nat) (mask : Nat) (check : List Nat) (s : State) :
    Outcome State Fault Refusal :=
  if s.coreUp then hostWrite rank bank col first beats data mask check s else .next s
def execHostSelfRefreshEntry (rank : Nat) (s : State) : Outcome State Fault Refusal :=
  .next (s.when s.coreUp (hostSelfRefreshEntry rank))

end Sys2Proof.Machine
end

