-- ==== Sys2Proof/Machine/Smbus.lean ====
section
/-! DEFINITION. The side-band port's transactions (R565 to R571). -/

namespace Sys2Proof.Machine

open Reg Host

/-- R566: the port is engaged. -/
def State.busEngaged (s : State) : Bool := s.power != 0 && s.flag SB_STATUS.BUSPWR

/-- R569: the PEC. -/
def pec (bytes : List Nat) : Nat := crc8 bytes

/-- R565: the address byte, with the R/W bit. -/
def State.addressByte (s : State) (read : Bool) : Nat := 2 * s.get SB_ADDR.ADDR + boolNat read

/-- R33: the slot that SB_PAGE and a command code name. -/
def State.pageSlot (s : State) (command : Nat) : Nat := 4 * (s.get SB_PAGE.PAGE * 256 + command % 256)

/-- R569: a write without its PEC. -/
def State.pecError (s : State) (off : Nat) : State :=
  (s.add SB_PECERR.COUNT 1).violate (writerViolation .sideBand off)

/-- R570. -/
def State.formError (s : State) : State := s.add SB_FORMERR.COUNT 1

/-- R568: a register write of `data` to the command code's slot. -/
def State.smbusRegister (s : State) (command : Nat) (data : List Nat) (pecByte : Nat) : State :=
  let off := s.pageSlot command
  let good := pec (s.addressByte false :: command :: data) == pecByte % 256
  if good then
    let v := data.getD 0 0 % 256 + data.getD 1 0 % 256 * 2 ^ 8 + data.getD 2 0 % 256 * 2 ^ 16
    let s := s.setSb { s.sb with command := command }
    s.orViolate .sideBand off (s.writeSlot .sideBand off v wordMask)
  else s.pecError off

/-- R568: a page select. -/
def State.smbusPage (s : State) (lo hi pecByte : Nat) : State :=
  if hi % 256 / 4 ≠ 0 then s.formError
  else if pec [s.addressByte false, 0xFF, lo, hi] == pecByte % 256 then s.set SB_PAGE.PAGE (lo % 256 + hi % 4 * 256)
  else s.pecError SB_PAGE.PAGE.off

/-- R568, R569, R570: a write transaction of `bytes` from the command code on, told by their number. -/
def smbusWrite (bytes : List Nat) (s : State) : State :=
  if s.busEngaged then
    match bytes with
    | [c, d0, d1, d2, p] => s.smbusRegister c [d0, d1, d2] p
    | [c, d0, d1, d2] => if c = 0xFF then s.smbusPage d0 d1 d2 else s.pecError (s.pageSlot c)
    | _ => s.formError
  else s

/-- R568, R571: a read transaction of `count` bytes; without a command code it returns the last index. -/
def smbusRead (command : Option Nat) (count : Nat) (s : State) : State :=
  if s.busEngaged then
    let s := s.drainWindows
    let c := command.getD s.sb.command
    let word := s.readSlot (s.pageSlot c)
    let data := [word % 256, word / 2 ^ 8 % 256, word / 2 ^ 16 % 256]
    let sent := match command with
      | some c => [s.addressByte false, c, s.addressByte true]
      | none => [s.addressByte true]
    let answer := (data ++ [pec (sent ++ data)] ++ List.replicate (count - 4) 0xFF).take count
    if 4 < count then (s.setSb { s.sb with answer := answer }).formError
    else s.setSb { s.sb with command := c, answer := answer }
  else s

/-- R566: the bus supply rises or falls. -/
def busEngage (up : Bool) (s : State) : State := if s.power = 0 then s else s.setFlag SB_STATUS.BUSPWR up

/-- R567: H_SCL was held low; only with TOUTEN at 1 does the transaction end. -/
def smbusTimeout (s : State) : State := s.when (s.busEngaged && s.flag SB_CFG.TOUTEN) (·.add SB_TIMEOUTS.COUNT 1)

def execSmbusBusEngage (up : Bool) (s : State) : Outcome State Fault Refusal := .next (busEngage up s)
def execSmbusRegisterWrite (bytes : List Nat) (s : State) : Outcome State Fault Refusal := .next (smbusWrite bytes s)
def execSmbusPageSelect (bytes : List Nat) (s : State) : Outcome State Fault Refusal := .next (smbusWrite bytes s)
def execSmbusRegisterRead (command : Option Nat) (count : Nat) (s : State) : Outcome State Fault Refusal :=
  .next (smbusRead command count s)
def execSmbusFormError (s : State) : Outcome State Fault Refusal := .next (s.when s.busEngaged (·.formError))
def execSmbusTimeout (s : State) : Outcome State Fault Refusal := .next (smbusTimeout s)

end Sys2Proof.Machine
end

