-- ==== Sys2Proof/Machine/Issue.lean ====
section
/-! DEFINITION. The sequencer's decoding of an instruction word to its meaning (R89, R90, R104), and the
posted ends of unit work that no other event names (R107). -/

namespace Sys2Proof.Machine

open Reg Host

/-- R90, R104: what each opcode does, from 0x00 on. -/
def coreTable : List (Op → State → State) :=
  [nop, ldi, mov, add, sub, andInstr, orInstr, cmp, br, loop, waitt, waite, signal, fence, rdreg, wrreg]

def timeTable : List (Op → State → State) :=
  [tset, tslew, tmark, tcap, pstate, rail, margin, arm, region, pfence, lend, save, restore, foldInstr,
   scrub, flinfo]

def portTable : List (Op → State → State) :=
  [scact, scdeact, scxfr, scclk, mcinit, mcrw, mcrpmb, mcwp, uacfg, uaxfr, lkjoin, lksend, lkrecv,
   lkslot, lkleave, lktime]

def engineTable : List (Op → State → State) :=
  [aeload, aerun, aeadapt, aeexport, aefreeze, cppack, cpunpack, cpcheck, severify, seopen, seseal, sekey,
   fpind, fpkey, logrd, reservedOpcode]

def opcodeTable : List (Op → State → State) := coreTable ++ timeTable ++ portTable ++ engineTable

/-- The instruction of `opcode` and its fields. -/
def runOpcode (opcode : Nat) (op : Op) (s : State) : State := (opcodeTable.getD opcode reservedOpcode) op s

/-- R105: the worst-case cost of an instruction. -/
def wcost (opcode : Nat) (op : Op) : Nat :=
  if opcode < 0x10 then coreCost opcode op.ext.length (op.coreForm opcode) else unitCost opcode

/-- R82, R599: whether ring `op.ring` is held at this instruction. -/
def State.heldAt (s : State) (opcode : Nat) (op : Op) : Bool :=
  (postsCompletion opcode && !s.canReserve op.ring) || (opcode == 0x19 && decide (64 ≤ s.barriersWaiting))

/-- R82, R83: the hold of a ring for want of a free entry. -/
def State.holdAt (s : State) (opcode : Nat) (op : Op) : State :=
  s.when (postsCompletion opcode && !s.canReserve op.ring) (·.cqHold op.ring (s.cqOf op.ring))

/-- R51: an instruction whose cost exceeds the budget. -/
def exceedsBudget (opcode : Nat) (op : Op) (s : State) : State :=
  s.issue op opcode 0 fun s ref => s.post ref 0x18 0

/-- R110: the instruction at store address `a`. -/
def State.stored (s : State) (a : Nat) : Nat × List Nat :=
  let at_ (i : Nat) : Nat := (sparseFind (a + i) s.store).getD 0
  let w := at_ 0
  (w, (List.range (extOf w)).map fun i => at_ (i + 1))

/-- R107: the unit's work in progress ends. Units whose work ends with an event of its own have that
event's meaning. -/
def unitCompletion (unit : Nat) (s : State) : State :=
  match unit with
  | 10 => s.logReadDone
  | 11 => s.scRawSent
  | 14 => s.lkLeft
  | 16 => cpDone s
  | 17 => seDone s
  | 18 => fpindDone s
  | _ => s

def execUnitCompletion (unit : Nat) (s : State) : Outcome State Fault Refusal := .next (unitCompletion unit s)

end Sys2Proof.Machine
end

