-- ==== Sys2Proof/Machine/Tick.lean ====
section
/-! DEFINITION. The tick edge (R39 to R60, R72 to R74, R113). -/

namespace Sys2Proof.Machine

open Reg Host

/-! ## The edge -/

/-- R57, R58: the pending rate at a second boundary. -/
def State.boundaryRate (s : State) : State :=
  if s.flag TK_STATUS.RATE_PEND then
    let new := s.get TK_PENDRATE.RATE
    let s := s.setFlag TK_STATUS.RATE_PEND false
    if s.rateMayChange then
      let s := (s.set TK_RATE.RATE new).set TK_CYCLES.CYCLES (tickCycles new)
      s.set TK_BUDGET.BUDGET (tickBudget (tickCycles new))
    else s.set TK_PENDRATE.RATE (s.get TK_RATE.RATE)
  else s

/-- R58: the violation of a pending rate that the coming edge, a second boundary, drops. -/
def State.rateRefusal (s : State) : List Violation :=
  if s.edgeAhead.2 == 0 && s.flag TK_STATUS.RATE_PEND && !s.rateMayChange then
    let (k, d, l) := s.tick.rateWriter
    [⟨k, d, l⟩]
  else []

/-- R55: the absolute number expected of the edge after the last one, at the new rate `tps` where it
changed from `old`. -/
def State.expectedAbs (s : State) (old tps : Nat) : Nat :=
  if old = tps then s.tick.lastAbs + 1 else (s.tick.lastAbs / old + 1) * tps

/-- R55: the new absolute number against the expected one. -/
def State.judgeStep (s : State) (before after : Nat) (d : Int) : State :=
  if d = 0 then s
  else
    let s := if 0 < d then s.add TK_SKIPPED.COUNT d.toNat else s.add TK_REPEATED.COUNT (-d).toNat
    (s.setFlag TK_STATUS.STEPPED true).raise 0x081 before after (ofSigned 24 (clampInt (-0x7FFFFF) 0x7FFFFF d))

/-- R98, R99, R101: ring `r`'s wait at the edge. A frozen ring waits on (R109). -/
def State.edgeWait (s : State) (r : Nat) : State :=
  match (s.ring r).wait with
  | .ticks _ => waittExpiry r s
  | .event _ _ _ _ => waiteTimeout r s
  | .resume => if s.frozen then s else s.setRing r { s.ring r with wait := .none }
  | _ => s

/-- R43, R44, R54, R55, R57: time reaches the edge, and the counters follow. The waits that the edge ends have
ended before an event of its cycle is raised (R99). -/
def State.reachEdge (s : State) : State :=
  let (sec, n) := s.edgeAhead
  let old := s.get TK_RATE.RATE
  let at_ := sec * 100000000 + edgePlace old n
  let before := s.get TK_INDEX.INDEX
  let first := !s.tick.started
  let s := (s.advanceTo at_).set TK_INDEX.INDEX n
  let s := s.setTickCount (if first then 0 else s.tickCount + 1)
  let s := (List.range 16).foldl State.edgeWait s
  let changes := n == 0 && s.flag TK_STATUS.RATE_PEND && s.rateMayChange
  let s := s.when (n == 0) (·.boundaryRate)
  let tps := s.get TK_RATE.RATE
  let abs := sec * tps + n
  let expected := s.expectedAbs old tps
  let logged := s.tick.overrunLogged && s.tick.lastAbs / old == sec
  let s := { s with tick := { s.tick with
    started := true, lastEdge := at_, lastAbs := abs, overrunLogged := logged, edges := s.tick.edges + 1 } }
  let s := if first then s else s.judgeStep before n ((abs : Int) - expected)
  s.when changes (·.raise 0x082 old tps (s.get TK_BUDGET.BUDGET))

/-- R61: the figures of the tick that has ended. -/
def State.closeTick (s : State) : State :=
  let s := (List.range 16).foldl (fun (s : State) r => s.set (TK_USED.CYCLES r) (s.ring r).used) s
  s.set TK_SPILLEND.CYCLES s.tick.spill

/-- R49: ring `r`'s credit and the snapshot of its tail. -/
def State.loadRing (s : State) (r : Nat) : State :=
  let c := s.shareCycles r
  s.setRing r { s.ring r with share := c, credit := c, used := 0, snap := s.get (QU_TAIL.TAIL r) }

def State.setSpill (s : State) (n : Nat) : State := { s with tick := { s.tick with spill := n } }

/-- R49: the initial spill. -/
def State.loadSpill (s : State) : State :=
  s.setSpill (s.get TK_BUDGET.BUDGET - ((List.range 16).map fun r => (s.ring r).share).sum)

/-- R60: `extra` cycles of ring `r`'s work beyond the edge. -/
def State.overrun (s : State) (r extra : Nat) : State :=
  let credit := (s.ring r).credit
  let s := s.setRing r { s.ring r with credit := credit - extra }
  let s := s.setSpill (s.tick.spill - (extra - credit))
  let s := (s.add TK_OVERRUNS.COUNT 1).setFlag TK_STATUS.OVERRUN true
  if s.tick.overrunLogged then s
  else
    ({ s with tick := { s.tick with overrunLogged := true } } : State).raise 0x085
      (s.get TK_OVERRUNS.COUNT) r extra

/-! ## Starvation (R59) -/

/-- R59: ring `r` admits an instruction. -/
def State.admits (s : State) (r : Nat) : State :=
  let ticks := tickDiff (s.ring r).starveFrom s.tickCount
  let s := s.setRing r { s.ring r with starveRun := 0 }
  if s.maskBit TK_STARVED.RING r then
    (s.setMaskBit TK_STARVED.RING r false).raise 0x084 r (min ticks 0xFFFFFF) 0
  else s

/-- R59: a tick in which ring `r`'s head, of cost `c`, was refused and nothing admitted. -/
def State.starves (s : State) (r c : Nat) : State :=
  let n := (s.ring r).starveRun + 1
  let starved := s.maskBit TK_STARVED.RING r
  let from_ := if n = 1 ∧ ¬ starved then s.tickCount else (s.ring r).starveFrom
  let s := s.setRing r { s.ring r with starveRun := n, starveFrom := from_ }
  let limit := s.get TK_STARVE.TICKS
  if limit != 0 && decide (limit ≤ n) && !starved then
    (s.setMaskBit TK_STARVED.RING r true).raise 0x083 r c (s.ring r).share
  else s

/-! ## Ring service (R50, R51) -/

/-- R50: the charge of cost `c` to ring `r`'s credit and the spill; none where it does not fit. -/
def State.charge (s : State) (r c : Nat) : Option State :=
  let credit := (s.ring r).credit
  if c ≤ credit then some (s.setRing r { s.ring r with credit := credit - c })
  else if c ≤ credit + s.tick.spill then
    some ((s.setSpill (s.tick.spill - (c - credit))).setRing r { s.ring r with credit := 0 })
  else none

/-- R50: the refund of what a charge of `c` leaves beyond the `a` cycles used. -/
def State.refund (s : State) (r c a : Nat) : State :=
  s.setRing r { s.ring r with credit := (s.ring r).credit + (c - a), used := (s.ring r).used + a }

/-- R49: whether the whole instruction at the head of queue-mode ring `r` lies before the snapshot. -/
def State.headReady (s : State) (r : Nat) : Bool :=
  s.snapLeft r != 0 && decide ((s.queued r (s.get (QU_HEAD.HEAD r))).2.length < s.snapLeft r)

/-- R50: the service of queue-mode ring `r`, with whether it has admitted an instruction in this tick. -/
def serveQueue (r : Nat) : Nat → Bool → State → State
  | 0, _, s => s
  | fuel + 1, admitted, s =>
      if s.headReady r && s.ringReady r then
        let (w, ext) := s.queued r (s.get (QU_HEAD.HEAD r))
        let op := decodeOp r w ext
        let c := opcodeOf w
        let cost := wcost c op
        if s.heldAt c op then s.holdAt c op
        else if s.get TK_BUDGET.BUDGET < cost then serveQueue r fuel admitted (exceedsBudget c op s)
        else
          match s.charge r cost with
          | none => s.when (!admitted) (·.starves r cost)
          | some s =>
              let s := runOpcode c op (s.admits r)
              serveQueue r fuel true (s.refund r cost s.cycles)
      else s

/-- R73: whether ring `r`'s program is due in this tick, or its run still in progress. -/
def State.programDue (s : State) (r : Nat) : Bool :=
  (s.ring r).run.isSome ||
    tickDiff (s.ring r).bindTick s.tickCount % s.get (QU_PER.PERIOD r) == 0

/-- R113: the run of ring `r`'s program up to `last`, with the cycles used; it stops where the rings
freeze (R187) and is held as R599 says. -/
def runProgram (r last : Nat) : Nat → Nat → State → State × Nat
  | 0, used, s => (s, used)
  | fuel + 1, used, s =>
      let pc := (s.ring r).pc
      let (w, ext) := s.stored pc
      let op := decodeOp r w ext
      let c := opcodeOf w
      if pc < last && s.ringReady r && !s.heldAt c op then
        let s := runOpcode c op s
        runProgram r last fuel (used + s.cycles) s
      else (s, used)

/-- R74, R113: a run that has passed the last word ends; its unused reservations are released. -/
def State.endRun (s : State) (r last : Nat) : State :=
  let x := s.ring r
  if last ≤ x.pc then
    let q := x.run.getD (s.cqOf r)
    let s := (s.setRing r { x with run := none, pool := 0 }).cqRelease q x.pool
    s.when x.leaving (·.unbind r)
  else s

/-- R74: the reservations of a due run; none where they are not free. -/
def State.beginRun (s : State) (r : Nat) : Option State :=
  let x := s.ring r
  if x.run.isSome then some s
  else
    let posts := s.get (SY_PG_D.POSTS x.prog)
    let q := s.cqOf r
    if posts ≤ s.cqFree q then
      let s := (s.cqReserve q posts).when (posts != 0) (·.cqUnhold r)
      some (s.setRing r { x with run := some q, pool := posts, pc := s.get (QU_MODE.ENTRY r) })
    else none

/-- R73, R74, R113: the service of resident ring `r`. A due run counts as one instruction. -/
def serveResident (r : Nat) (s : State) : State :=
  if s.programDue r && s.ringReady r then
    let s := s.setRing r { s.ring r with
      bindTick := if (s.ring r).run.isSome then (s.ring r).bindTick else s.tickCount }
    let k := (s.ring r).prog
    let cost := s.get (SY_PG_C.WCOST k)
    let last := s.get (QU_MODE.ENTRY r) + s.get (SY_PG_B.LEN k)
    match s.beginRun r with
    | none => s.add (QU_STAT.SKIPS r) 1
    | some t =>
        match t.charge r cost with
        | none => s.starves r cost
        | some t =>
            let (t, used) := runProgram r last (cost + 1) 0 (t.admits r)
            (t.refund r cost used).endRun r last
  else s

/-- R59: a tick without ready work ends a run of refusals. -/
def State.calmRing (s : State) (r : Nat) : State := s.setRing r { s.ring r with starveRun := 0 }

/-- R50: ring `r` is served, and what is left of its credit spills down. -/
def serveRing (s : State) (r : Nat) : State :=
  let s :=
    if s.resident r then if s.programDue r then serveResident r s else s.calmRing r
    else if s.headReady r then serveQueue r 4097 false s
    else s.calmRing r
  let credit := (s.ring r).credit
  (s.setSpill (s.tick.spill + credit)).setRing r { s.ring r with credit := 0 }

/-! ## TICK_EDGE -/

/-- R43 to R60: what the edge's own cycle brings. -/
def State.atEdge (s : State) (excess : Option (Nat × Nat)) : State :=
  let late := s.rateRefusal
  let s := s.reachEdge.openLend.drainWindows.lkSettle.closeTick.judgeTick late
  let s := ((List.range 16).foldl State.loadRing s).loadSpill
  let s := match excess with
    | some (r, extra) => s.overrun (r % 16) extra
    | none => s
  (List.range 4).foldl State.cqEvaluate s

/-- R49, R50, R60: a tick edge; a LEND issued with every rank in self-refresh opens its window (R138), and PFENCEs
that no earlier reference keeps back take their numbers (R163). `excess` is the ring whose work ran beyond it and
by how many cycles. The time the edge falls at is the machine's own (R39, R54). -/
def tickEdge (excess : Option (Nat × Nat)) (s : State) : State :=
  if s.ticking then
    ((List.range 16).foldl serveRing (s.oneCycle (·.atEdge excess))).settleFences
  else s

def execTickEdge (excess : Option (Nat × Nat)) (s : State) : Outcome State Fault Refusal := .next (tickEdge excess s)

end Sys2Proof.Machine
end

