-- ==== Sys2Proof/Machine/Dispatch.lean ====
section
/-! DEFINITION. One arm per command: a direct call of its meaning, or a rejection by name. -/

namespace Sys2Proof.Machine

open Host

def exec (i : Instr) (s : State) : Host.Outcome State Fault Refusal :=
  match i with
  | .tickEdge excess => Sys2Proof.Machine.execTickEdge excess s
  | .nop op => Sys2Proof.Machine.execNop op s
  | .ldi op => Sys2Proof.Machine.execLdi op s
  | .mov op => Sys2Proof.Machine.execMov op s
  | .add op => Sys2Proof.Machine.execAdd op s
  | .sub op => Sys2Proof.Machine.execSub op s
  | .and op => Sys2Proof.Machine.execAnd op s
  | .or op => Sys2Proof.Machine.execOr op s
  | .cmp op => Sys2Proof.Machine.execCmp op s
  | .br op => Sys2Proof.Machine.execBr op s
  | .loop op => Sys2Proof.Machine.execLoop op s
  | .waitt op => Sys2Proof.Machine.execWaitt op s
  | .waittExpiry ring => Sys2Proof.Machine.execWaittExpiry ring s
  | .waite op => Sys2Proof.Machine.execWaite op s
  | .waiteMatch ring seq => Sys2Proof.Machine.execWaiteMatch ring seq s
  | .waiteTimeout ring => Sys2Proof.Machine.execWaiteTimeout ring s
  | .signal op => Sys2Proof.Machine.execSignal op s
  | .fence op => Sys2Proof.Machine.execFence op s
  | .fenceRelease ring => Sys2Proof.Machine.execFenceRelease ring s
  | .rdreg op => Sys2Proof.Machine.execRdreg op s
  | .wrreg op => Sys2Proof.Machine.execWrreg op s
  | .reservedOpcode op => Sys2Proof.Machine.execReservedOpcode op s
  | .unitCompletion unit => Sys2Proof.Machine.execUnitCompletion unit s
  | .registerWrite w off v => Sys2Proof.Machine.execRegisterWrite w off v s
  | .violationClear w => Sys2Proof.Machine.execViolationClear w s
  | .programFree w prog => Sys2Proof.Machine.execProgramFree w prog s
  | .tkRateWrite w rate => Sys2Proof.Machine.execTkRateWrite w rate s
  | .tkShareWrite w shares => Sys2Proof.Machine.execTkShareWrite w shares s
  | .tkStarveWrite w ticks => Sys2Proof.Machine.execTkStarveWrite w ticks s
  | .apertureBaseWrite w part v => Sys2Proof.Machine.execApertureBaseWrite w part v s
  | .apertureEnableWrite w en => Sys2Proof.Machine.execApertureEnableWrite w en s
  | .doorbell w ring tail => Sys2Proof.Machine.execDoorbell w ring tail s
  | .residentBind w ring entry => Sys2Proof.Machine.execResidentBind w ring entry s
  | .residentUnbind w ring entry => Sys2Proof.Machine.execResidentUnbind w ring entry s
  | .cqHeadWrite w m head => Sys2Proof.Machine.execCqHeadWrite w m head s
  | .cqMapWrite w high map => Sys2Proof.Machine.execCqMapWrite w high map s
  | .ring15Give w => Sys2Proof.Machine.execRing15Give w s
  | .ring15Return w => Sys2Proof.Machine.execRing15Return w s
  | .evpendClear w bits => Sys2Proof.Machine.execEvpendClear w bits s
  | .hostRead rank bank col first beats => Sys2Proof.Machine.execHostRead rank bank col first beats s
  | .hostWrite rank bank col first beats data mask check => Sys2Proof.Machine.execHostWrite rank bank col first beats data mask check s
  | .hostActPre rank bank row => Sys2Proof.Machine.execHostActPre rank bank row s
  | .hostMrs rank mr value device => Sys2Proof.Machine.execHostMrs rank mr value device s
  | .hostRefreshOrZq => Sys2Proof.Machine.execHostRefreshOrZq s
  | .hostSelfRefreshEntry rank => Sys2Proof.Machine.execHostSelfRefreshEntry rank s
  | .hostSrx rank units => Sys2Proof.Machine.execHostSrx rank units s
  | .caParityError rank => Sys2Proof.Machine.execCaParityError rank s
  | .operatingSpeedWord mts => Sys2Proof.Machine.execOperatingSpeedWord mts s
  | .hostTrainingEnd => Sys2Proof.Machine.execHostTrainingEnd s
  | .resetNAssert => Sys2Proof.Machine.execResetNAssert s
  | .dramTrainingPassStart pass => Sys2Proof.Machine.execDramTrainingPassStart pass s
  | .dramTrainingDone failure => Sys2Proof.Machine.execDramTrainingDone failure s
  | .claim w => Sys2Proof.Machine.execClaim w s
  | .retrain w => Sys2Proof.Machine.execRetrain w s
  | .eccLockWrite w => Sys2Proof.Machine.execEccLockWrite w s
  | .scrubStart => Sys2Proof.Machine.execScrubStart s
  | .scrubEnd work => Sys2Proof.Machine.execScrubEnd work s
  | .lendSnapshot op => Sys2Proof.Machine.execLendSnapshot op s
  | .lendScrub op => Sys2Proof.Machine.execLendScrub op s
  | .lendRetrain op => Sys2Proof.Machine.execLendRetrain op s
  | .lendWaitTimeout => Sys2Proof.Machine.execLendWaitTimeout s
  | .lendPurposeDone work => Sys2Proof.Machine.execLendPurposeDone work s
  | .lendMaxdurExpiry units => Sys2Proof.Machine.execLendMaxdurExpiry units s
  | .scrub op => Sys2Proof.Machine.execScrub op s
  | .regionDefine op => Sys2Proof.Machine.execRegionDefine op s
  | .regionRetire op => Sys2Proof.Machine.execRegionRetire op s
  | .regionReprioritise op => Sys2Proof.Machine.execRegionReprioritise op s
  | .pfence op => Sys2Proof.Machine.execPfence op s
  | .pfenceDurableDone => Sys2Proof.Machine.execPfenceDurableDone s
  | .foldStart op => Sys2Proof.Machine.execFoldStart op s
  | .foldHold op => Sys2Proof.Machine.execFoldHold op s
  | .foldRelease op => Sys2Proof.Machine.execFoldRelease op s
  | .foldAutoStart => Sys2Proof.Machine.execFoldAutoStart s
  | .foldCommit work => Sys2Proof.Machine.execFoldCommit work s
  | .foldAbandoned work => Sys2Proof.Machine.execFoldAbandoned work s
  | .journalPageTimeout => Sys2Proof.Machine.execJournalPageTimeout s
  | .journalPageWritten work => Sys2Proof.Machine.execJournalPageWritten work s
  | .shadowLoopUpdate => Sys2Proof.Machine.execShadowLoopUpdate s
  | .holdupAccounting => Sys2Proof.Machine.execHoldupAccounting s
  | .arm op => Sys2Proof.Machine.execArm op s
  | .disarm op => Sys2Proof.Machine.execDisarm op s
  | .warningCondition => Sys2Proof.Machine.execWarningCondition s
  | .warningWithdrawal => Sys2Proof.Machine.execWarningWithdrawal s
  | .graceExpiry => Sys2Proof.Machine.execGraceExpiry s
  | .criticalCondition => Sys2Proof.Machine.execCriticalCondition s
  | .saveNLow => Sys2Proof.Machine.execSaveNLow s
  | .save op => Sys2Proof.Machine.execSave op s
  | .pavaneFlushDone work => Sys2Proof.Machine.execPavaneFlushDone work s
  | .saveSetWritten work => Sys2Proof.Machine.execSaveSetWritten work s
  | .pavaneAbandon energy mram => Sys2Proof.Machine.execPavaneAbandon energy mram s
  | .pavaneShutdownDone => Sys2Proof.Machine.execPavaneShutdownDone s
  | .restore op => Sys2Proof.Machine.execRestore op s
  | .restoreStaged op => Sys2Proof.Machine.execRestoreStaged op s
  | .regionRestored work => Sys2Proof.Machine.execRegionRestored work s
  | .galliardEnd work => Sys2Proof.Machine.execGalliardEnd work s
  | .galliardStop => Sys2Proof.Machine.execGalliardStop s
  | .hostwinOpen w => Sys2Proof.Machine.execHostwinOpen w s
  | .hostwinClose w => Sys2Proof.Machine.execHostwinClose w s
  | .hostwinTimeout => Sys2Proof.Machine.execHostwinTimeout s
  | .flinfo op => Sys2Proof.Machine.execFlinfo op s
  | .flashOpen targets bad work => Sys2Proof.Machine.execFlashOpen targets bad work s
  | .blockRetired plane block cause work => Sys2Proof.Machine.execBlockRetired plane block cause work s
  | .patrolDone codewords work => Sys2Proof.Machine.execPatrolDone codewords work s
  | .stripeRefresh patrol work => Sys2Proof.Machine.execStripeRefresh patrol work s
  | .wearLevelMove work => Sys2Proof.Machine.execWearLevelMove work s
  | .lifeRecompute => Sys2Proof.Machine.execLifeRecompute s
  | .sequencerEvaluation mask => Sys2Proof.Machine.execSequencerEvaluation mask s
  | .startTimeout rail => Sys2Proof.Machine.execStartTimeout rail s
  | .railOffReached rail reading => Sys2Proof.Machine.execRailOffReached rail reading s
  | .railStuck rail reading => Sys2Proof.Machine.execRailStuck rail reading s
  | .railFault rail high reading ma => Sys2Proof.Machine.execRailFault rail high reading ma s
  | .faultWithdrawal => Sys2Proof.Machine.execFaultWithdrawal s
  | .tFaultExpiry => Sys2Proof.Machine.execTFaultExpiry s
  | .unlatch w => Sys2Proof.Machine.execUnlatch w s
  | .wake w => Sys2Proof.Machine.execWake w s
  | .vinQualified r => Sys2Proof.Machine.execVinQualified r s
  | .pstateActive op => Sys2Proof.Machine.execPstateActive op s
  | .pstateQuiet op => Sys2Proof.Machine.execPstateQuiet op s
  | .pstateMaint op => Sys2Proof.Machine.execPstateMaint op s
  | .pstateStandby op => Sys2Proof.Machine.execPstateStandby op s
  | .standbyWaitTimeout => Sys2Proof.Machine.execStandbyWaitTimeout s
  | .pstateDormant op => Sys2Proof.Machine.execPstateDormant op s
  | .railOn op => Sys2Proof.Machine.execRailOn op s
  | .railOff op => Sys2Proof.Machine.execRailOff op s
  | .railStatus op => Sys2Proof.Machine.execRailStatus op s
  | .margin op => Sys2Proof.Machine.execMargin op s
  | .marginSettled m => Sys2Proof.Machine.execMarginSettled m s
  | .marginTimeout m => Sys2Proof.Machine.execMarginTimeout m s
  | .faultLineLow => Sys2Proof.Machine.execFaultLineLow s
  | .faultLineRelease => Sys2Proof.Machine.execFaultLineRelease s
  | .monitorFlagChange ch node samples codes => Sys2Proof.Machine.execMonitorFlagChange ch node samples codes s
  | .monitorScan codes audit reference short => Sys2Proof.Machine.execMonitorScan codes audit reference short s
  | .monitorConfigWrite w off v => Sys2Proof.Machine.execMonitorConfigWrite w off v s
  | .faultLogEntryWrite fresh => Sys2Proof.Machine.execFaultLogEntryWrite fresh s
  | .powerPathSwitchover node => Sys2Proof.Machine.execPowerPathSwitchover node s
  | .chargerRunStart r => Sys2Proof.Machine.execChargerRunStart r s
  | .chargerRunStop => Sys2Proof.Machine.execChargerRunStop s
  | .chargerTempHold r => Sys2Proof.Machine.execChargerTempHold r s
  | .chargerTempResume r => Sys2Proof.Machine.execChargerTempResume r s
  | .prechargeDone r => Sys2Proof.Machine.execPrechargeDone r s
  | .constantVoltageReached r => Sys2Proof.Machine.execConstantVoltageReached r s
  | .chargeFull => Sys2Proof.Machine.execChargeFull s
  | .chargeFault => Sys2Proof.Machine.execChargeFault s
  | .floatLoopUpdate => Sys2Proof.Machine.execFloatLoopUpdate s
  | .balanceCycle r => Sys2Proof.Machine.execBalanceCycle r s
  | .packRemoved sign => Sys2Proof.Machine.execPackRemoved sign s
  | .packInserted r => Sys2Proof.Machine.execPackInserted r s
  | .coulombSample q => Sys2Proof.Machine.execCoulombSample q s
  | .gaugeUpdate r => Sys2Proof.Machine.execGaugeUpdate r s
  | .gaugeCutoff r => Sys2Proof.Machine.execGaugeCutoff r s
  | .exhaustion r => Sys2Proof.Machine.execExhaustion r s
  | .btCapnomWrite w v => Sys2Proof.Machine.execBtCapnomWrite w v s
  | .tset op => Sys2Proof.Machine.execTset op s
  | .tsetSync op => Sys2Proof.Machine.execTsetSync op s
  | .tsetSyncTimeout => Sys2Proof.Machine.execTsetSyncTimeout s
  | .tslew op => Sys2Proof.Machine.execTslew op s
  | .slewDone => Sys2Proof.Machine.execSlewDone s
  | .tmark op => Sys2Proof.Machine.execTmark op s
  | .tcapNow op => Sys2Proof.Machine.execTcapNow op s
  | .tcapPpsIn op => Sys2Proof.Machine.execTcapPpsIn op s
  | .tcapIrigb op => Sys2Proof.Machine.execTcapIrigb op s
  | .tcapPpsOut op => Sys2Proof.Machine.execTcapPpsOut op s
  | .tcapTimeout k => Sys2Proof.Machine.execTcapTimeout k s
  | .timeSnapshot w => Sys2Proof.Machine.execTimeSnapshot w s
  | .logrd op => Sys2Proof.Machine.execLogrd op s
  | .logRelease w seq => Sys2Proof.Machine.execLogRelease w seq s
  | .logPolicyWrite w stop => Sys2Proof.Machine.execLogPolicyWrite w stop s
  | .holdoverForget w => Sys2Proof.Machine.execHoldoverForget w s
  | .leapWrite w pend at_ => Sys2Proof.Machine.execLeapWrite w pend at_ s
  | .secondBoundary crystal => Sys2Proof.Machine.execSecondBoundary crystal s
  | .ppsEdge t => Sys2Proof.Machine.execPpsEdge t s
  | .nmeaSentence arrival => Sys2Proof.Machine.execNmeaSentence arrival s
  | .irigbFrame f => Sys2Proof.Machine.execIrigbFrame f s
  | .holdoverSample mean span => Sys2Proof.Machine.execHoldoverSample mean span s
  | .oscFault deviated => Sys2Proof.Machine.execOscFault deviated s
  | .oscOk => Sys2Proof.Machine.execOscOk s
  | .tcxoPeriodEnd => Sys2Proof.Machine.execTcxoPeriodEnd s
  | .savedTemperatureCheck codes => Sys2Proof.Machine.execSavedTemperatureCheck codes s
  | .leapApplied => Sys2Proof.Machine.execLeapApplied s
  | .scCardInserted => Sys2Proof.Machine.execScCardInserted s
  | .scCardRemoved => Sys2Proof.Machine.execScCardRemoved s
  | .scactCold op => Sys2Proof.Machine.execScactCold op s
  | .scactWarm op => Sys2Proof.Machine.execScactWarm op s
  | .scAtr bytes clean => Sys2Proof.Machine.execScAtr bytes clean s
  | .scAtrTimeout => Sys2Proof.Machine.execScAtrTimeout s
  | .scClassRetry => Sys2Proof.Machine.execScClassRetry s
  | .scPpsResponse bytes => Sys2Proof.Machine.execScPpsResponse bytes s
  | .scdeact op => Sys2Proof.Machine.execScdeact op s
  | .scxfr op => Sys2Proof.Machine.execScxfr op s
  | .scBlockReceived bytes parity gap => Sys2Proof.Machine.execScBlockReceived bytes parity gap s
  | .scBwtExpiry => Sys2Proof.Machine.execScBwtExpiry s
  | .scRawCharacter sent ok v => Sys2Proof.Machine.execScRawCharacter sent ok v s
  | .scWtExpiry => Sys2Proof.Machine.execScWtExpiry s
  | .scXfrTimeout => Sys2Proof.Machine.execScXfrTimeout s
  | .scclkStop op => Sys2Proof.Machine.execScclkStop op s
  | .scclkStart op => Sys2Proof.Machine.execScclkStart op s
  | .scclkRate op => Sys2Proof.Machine.execScclkRate op s
  | .scSupplyFault kind vcc ma => Sys2Proof.Machine.execScSupplyFault kind vcc ma s
  | .scDeactivationDone => Sys2Proof.Machine.execScDeactivationDone s
  | .mcCardInserted => Sys2Proof.Machine.execMcCardInserted s
  | .mcCardRemoved => Sys2Proof.Machine.execMcCardRemoved s
  | .mcinitOn op => Sys2Proof.Machine.execMcinitOn op s
  | .mcinitOff op => Sys2Proof.Machine.execMcinitOff op s
  | .mcinitRetune op => Sys2Proof.Machine.execMcinitRetune op s
  | .mcResponse crc value => Sys2Proof.Machine.execMcResponse crc value s
  | .mcResponseTimeout => Sys2Proof.Machine.execMcResponseTimeout s
  | .mcrwRead op => Sys2Proof.Machine.execMcrwRead op s
  | .mcrwWrite op => Sys2Proof.Machine.execMcrwWrite op s
  | .mcHostcntWrite w v => Sys2Proof.Machine.execMcHostcntWrite w v s
  | .mcReadBlock crc bytes => Sys2Proof.Machine.execMcReadBlock crc bytes s
  | .mcBusyRelease ok => Sys2Proof.Machine.execMcBusyRelease ok s
  | .mcBusyTimeout => Sys2Proof.Machine.execMcBusyTimeout s
  | .mcStarved => Sys2Proof.Machine.execMcStarved s
  | .mcHostWaitTimeout => Sys2Proof.Machine.execMcHostWaitTimeout s
  | .mcrpmbCounter op => Sys2Proof.Machine.execMcrpmbCounter op s
  | .mcrpmbWrite op => Sys2Proof.Machine.execMcrpmbWrite op s
  | .mcrpmbRead op => Sys2Proof.Machine.execMcrpmbRead op s
  | .mcrpmbProgkey op => Sys2Proof.Machine.execMcrpmbProgkey op s
  | .mcwpTmpset op => Sys2Proof.Machine.execMcwpTmpset op s
  | .mcwpTmpclr op => Sys2Proof.Machine.execMcwpTmpclr op s
  | .mcwpPermset op => Sys2Proof.Machine.execMcwpPermset op s
  | .mcwpStatus op => Sys2Proof.Machine.execMcwpStatus op s
  | .mcSupplyFault kind vcc ma => Sys2Proof.Machine.execMcSupplyFault kind vcc ma s
  | .mcDeactivationDone => Sys2Proof.Machine.execMcDeactivationDone s
  | .uacfgEnable op => Sys2Proof.Machine.execUacfgEnable op s
  | .uacfgDisable op => Sys2Proof.Machine.execUacfgDisable op s
  | .uacfgFlush op => Sys2Proof.Machine.execUacfgFlush op s
  | .uaxfrSend op => Sys2Proof.Machine.execUaxfrSend op s
  | .uaxfrRecv op => Sys2Proof.Machine.execUaxfrRecv op s
  | .uartCharacterReceived p c => Sys2Proof.Machine.execUartCharacterReceived p c s
  | .uartRxIdleTimeout p => Sys2Proof.Machine.execUartRxIdleTimeout p s
  | .uartSendDone p => Sys2Proof.Machine.execUartSendDone p s
  | .uartSleepEntry p => Sys2Proof.Machine.execUartSleepEntry p s
  | .uartWake p => Sys2Proof.Machine.execUartWake p s
  | .lkjoin op => Sys2Proof.Machine.execLkjoin op s
  | .joinConfirmed => Sys2Proof.Machine.execJoinConfirmed s
  | .joinWaitTimeout => Sys2Proof.Machine.execJoinWaitTimeout s
  | .lksend op => Sys2Proof.Machine.execLksend op s
  | .lkrecv op => Sys2Proof.Machine.execLkrecv op s
  | .lkrecvTimeout => Sys2Proof.Machine.execLkrecvTimeout s
  | .lkslot op => Sys2Proof.Machine.execLkslot op s
  | .lkleave op => Sys2Proof.Machine.execLkleave op s
  | .lktimeStatus op => Sys2Proof.Machine.execLktimeStatus op s
  | .lktimeClaim op => Sys2Proof.Machine.execLktimeClaim op s
  | .lktimeYield op => Sys2Proof.Machine.execLktimeYield op s
  | .linkCycleBoundary => Sys2Proof.Machine.execLinkCycleBoundary s
  | .linkTransmit t => Sys2Proof.Machine.execLinkTransmit t s
  | .linkCollision => Sys2Proof.Machine.execLinkCollision s
  | .ackTimeout => Sys2Proof.Machine.execAckTimeout s
  | .beaconReceived f => Sys2Proof.Machine.execBeaconReceived f s
  | .beaconMissing => Sys2Proof.Machine.execBeaconMissing s
  | .silenceTimeout => Sys2Proof.Machine.execSilenceTimeout s
  | .dataFrameReceived f => Sys2Proof.Machine.execDataFrameReceived f s
  | .ackReceived dst seq result => Sys2Proof.Machine.execAckReceived dst seq result s
  | .joinReceived f => Sys2Proof.Machine.execJoinReceived f s
  | .conflictReceived f => Sys2Proof.Machine.execConflictReceived f s
  | .leaveReceived f => Sys2Proof.Machine.execLeaveReceived f s
  | .noticeReceived f => Sys2Proof.Machine.execNoticeReceived f s
  | .lkStranger cls src => Sys2Proof.Machine.execLkStranger cls src s
  | .claimRepeat => Sys2Proof.Machine.execClaimRepeat s
  | .aeloadBegin op => Sys2Proof.Machine.execAeloadBegin op s
  | .aeloadChunk op => Sys2Proof.Machine.execAeloadChunk op s
  | .aeloadEnd op => Sys2Proof.Machine.execAeloadEnd op s
  | .aeloadAbort op => Sys2Proof.Machine.execAeloadAbort op s
  | .aeloadReload op => Sys2Proof.Machine.execAeloadReload op s
  | .modelFlashWriteDone taken work => Sys2Proof.Machine.execModelFlashWriteDone taken work s
  | .aerun op => Sys2Proof.Machine.execAerun op s
  | .jobSlice => Sys2Proof.Machine.execJobSlice s
  | .frameWaitTimeout => Sys2Proof.Machine.execFrameWaitTimeout s
  | .ingestWindowEnable w k v => Sys2Proof.Machine.execIngestWindowEnable w k v s
  | .aeadaptStart op => Sys2Proof.Machine.execAeadaptStart op s
  | .aeadaptEvent op => Sys2Proof.Machine.execAeadaptEvent op s
  | .aeadaptCommit op => Sys2Proof.Machine.execAeadaptCommit op s
  | .commitFlashDone taken work => Sys2Proof.Machine.execCommitFlashDone taken work s
  | .aeadaptEnd op => Sys2Proof.Machine.execAeadaptEnd op s
  | .aeadaptRebase op => Sys2Proof.Machine.execAeadaptRebase op s
  | .aeexport op => Sys2Proof.Machine.execAeexport op s
  | .aefreezeFreeze op => Sys2Proof.Machine.execAefreezeFreeze op s
  | .aefreezeThaw op => Sys2Proof.Machine.execAefreezeThaw op s
  | .cppackBew128 op => Sys2Proof.Machine.execCppackBew128 op s
  | .cppackBea16 op => Sys2Proof.Machine.execCppackBea16 op s
  | .cppackVds op => Sys2Proof.Machine.execCppackVds op s
  | .cpunpackBew128 op => Sys2Proof.Machine.execCpunpackBew128 op s
  | .cpunpackBea16 op => Sys2Proof.Machine.execCpunpackBea16 op s
  | .cpunpackVds op => Sys2Proof.Machine.execCpunpackVds op s
  | .cpcheckBew128 op => Sys2Proof.Machine.execCpcheckBew128 op s
  | .cpcheckVds op => Sys2Proof.Machine.execCpcheckVds op s
  | .cpcheckChunkCrc op => Sys2Proof.Machine.execCpcheckChunkCrc op s
  | .severify op => Sys2Proof.Machine.execSeverify op s
  | .seopen op => Sys2Proof.Machine.execSeopen op s
  | .seseal op => Sys2Proof.Machine.execSeseal op s
  | .sekeyRpmb op => Sys2Proof.Machine.execSekeyRpmb op s
  | .sekeyRpmbclear op => Sys2Proof.Machine.execSekeyRpmbclear op s
  | .sekeyOwnerset op => Sys2Proof.Machine.execSekeyOwnerset op s
  | .sekeyOwnerrevoke op => Sys2Proof.Machine.execSekeyOwnerrevoke op s
  | .exportOwnerWrite w owner => Sys2Proof.Machine.execExportOwnerWrite w owner s
  | .fpindSet op => Sys2Proof.Machine.execFpindSet op s
  | .fpindStatus op => Sys2Proof.Machine.execFpindStatus op s
  | .indicatorMeasurement k current pinv => Sys2Proof.Machine.execIndicatorMeasurement k current pinv s
  | .provingPulse k current pinv => Sys2Proof.Machine.execProvingPulse k current pinv s
  | .offStateProbe k pinv => Sys2Proof.Machine.execOffStateProbe k pinv s
  | .fpkeyRaise op => Sys2Proof.Machine.execFpkeyRaise op s
  | .fpkeyCancel op => Sys2Proof.Machine.execFpkeyCancel op s
  | .fpkeyRebase op => Sys2Proof.Machine.execFpkeyRebase op s
  | .fpkeyStatus op => Sys2Proof.Machine.execFpkeyStatus op s
  | .keyTouch sample => Sys2Proof.Machine.execKeyTouch sample s
  | .keyTouchRelease sample => Sys2Proof.Machine.execKeyTouchRelease sample s
  | .keyAntiTouch sample => Sys2Proof.Machine.execKeyAntiTouch sample s
  | .keyHeldStuck sample => Sys2Proof.Machine.execKeyHeldStuck sample s
  | .baselineUpdate samples => Sys2Proof.Machine.execBaselineUpdate samples s
  | .feedbackSteadyTimeout => Sys2Proof.Machine.execFeedbackSteadyTimeout s
  | .smbusBusEngage up => Sys2Proof.Machine.execSmbusBusEngage up s
  | .smbusRegisterWrite bytes => Sys2Proof.Machine.execSmbusRegisterWrite bytes s
  | .smbusPageSelect bytes => Sys2Proof.Machine.execSmbusPageSelect bytes s
  | .smbusRegisterRead command count => Sys2Proof.Machine.execSmbusRegisterRead command count s
  | .smbusFormError => Sys2Proof.Machine.execSmbusFormError s
  | .smbusTimeout => Sys2Proof.Machine.execSmbusTimeout s
  | .heartbeatBeat w => Sys2Proof.Machine.execHeartbeatBeat w s
  | .heartbeatLapse => Sys2Proof.Machine.execHeartbeatLapse s
  | .heartbeatEnableWrite w en => Sys2Proof.Machine.execHeartbeatEnableWrite w en s
  | .stewardTake w => Sys2Proof.Machine.execStewardTake w s
  | .stewardRelease w => Sys2Proof.Machine.execStewardRelease w s
  | .coldStart sa validA validB r => Sys2Proof.Machine.execColdStart sa validA validB r s
  | .vddAonLoss saveTorn rootTorn => Sys2Proof.Machine.execVddAonLoss saveTorn rootTorn s
  | .scPpsTimeout => Sys2Proof.Machine.execScPpsTimeout s
  | .mcIdentTimeout => Sys2Proof.Machine.execMcIdentTimeout s
  | .mcSaveWaitExpiry => Sys2Proof.Machine.execMcSaveWaitExpiry s

end Sys2Proof.Machine
end

