-- ==== Sys2Proof/Machine/Pins.lean ====
section
/-! DEFINITION. What the pins of each group do in each power state (R641). -/

namespace Sys2Proof.Machine

open Reg

/-- R641: the groups of pins. -/
inductive PinGroup where
  | host | hostAlert | dram | nand | enables | margins | windowOuts | faultLine | interrupts | straps | smbus
  | senses | tcxo | crystal | timeIn | timeOut | uartOut (p : Nat) | uartIn | cardSelect | smartCard | memoryCard
  | cardDetect | faceplate
  deriving DecidableEq, Repr

/-- R641: what the pins of a group do. -/
inductive PinMode where
  /-- The behaviour its unit's chapter defines. -/
  | function
  /-- Not driven. -/
  | hiZ
  | released
  | unpowered
  /-- The DRAM in self-refresh: CKE low, RESET_n high, clocks stopped. -/
  | selfRefresh
  /-- Low through the pin's pull-down. -/
  | low
  | nominal
  | noLoad
  | noBias
  /-- Monitored at LPMODE. -/
  | lowPower
  /-- Monitored at MODE. -/
  | monitored
  | unused
  | used
  | stopped
  | oscillating
  | sampled
  | unsampled
  /-- A disabled port: TX high, DE inactive. -/
  | idle
  /-- An inactive card port: switch open, signals low. -/
  | switchOpen
  deriving DecidableEq, Repr

/-- R641: the columns of its table. -/
inductive PinColumn where
  | off | asleep | saved | standby | running
  deriving DecidableEq, Repr

/-- R641: the column of a power state; asleep is DORMANT and LATCHED. -/
def State.powerColumn (s : State) : PinColumn :=
  if s.power = 0 then .off
  else if s.powerIn [dormant, latched] then .asleep
  else if s.power = saved then .saved
  else if s.power = standby then .standby
  else .running

/-- R641: the rail a group's pins are supplied from, where a sequence switches it. H_ pins answer with the core. -/
def PinGroup.rail : PinGroup → Option Nat
  | .host | .hostAlert => some 0
  | .dram => some 3
  | .nand => some 1
  | .interrupts | .timeIn | .timeOut | .uartOut _ | .uartIn | .cardSelect | .smartCard | .memoryCard | .cardDetect
  | .faceplate => some 2
  | .tcxo => some 10
  | .enables | .margins | .windowOuts | .faultLine | .straps | .smbus | .senses | .crystal => none

/-- R641: a pin whose own rail still starts, or still stops, within a sequence is in the column it is leaving. -/
def State.pinColumn (s : State) (g : PinGroup) : PinColumn :=
  match g.rail with
  | none => s.powerColumn
  | some k =>
      let live := s.railState k == railGood || s.railState k == railFaulty || s.railState k == railStopping
      match s.powerColumn with
      | .standby => if live then .standby else .saved
      | .running => if live then .running else .saved
      | c => if live && k != 10 then .running else c

/-- R641, R548, R643: what the pins of a group do. -/
def State.pinMode (s : State) (g : PinGroup) : PinMode :=
  let c := s.pinColumn g
  let up := c == .standby || c == .running
  match g with
  | .host => if up then .function else .hiZ
  | .hostAlert => if up then .function else .released
  | .dram => if c = .running then .function else if c = .standby then .selfRefresh else .unpowered
  | .nand => if up then .function else .unpowered
  | .enables => if c = .off then .low else .function
  | .margins => if !up then .hiZ else if s.powerIn [maint] then .function else .nominal
  | .windowOuts => if c = .off then .hiZ else .function
  | .faultLine => if c = .off then .released else .function
  | .interrupts => if up then .function else .released
  | .straps => if c = .off then .unsampled else .sampled
  | .smbus => if c = .off then .noLoad else .function
  | .senses => if c = .off then .noBias else if up then .monitored else .lowPower
  | .tcxo =>
      if c = .off then .unsampled else if up then .used
      else if c = .saved ∧ s.railOn 10 = true then .used else .unused
  | .crystal => if c = .off then .stopped else .oscillating
  | .timeIn | .timeOut | .uartIn | .faceplate => if up then .function else .hiZ
  | .uartOut p =>
      if !up then .hiZ
      else if s.flag (UA_STAT.ENABLED p) = true then .function
      else .idle
  | .cardSelect => if !up then .hiZ else if s.railOn 8 then .function else .low
  | .smartCard => if !up then .hiZ else if s.scState = scInactive then .switchOpen else .function
  | .memoryCard => if !up then .hiZ else if s.mcState = mcInactive then .switchOpen else .function
  | .cardDetect => if up then .sampled else .low

end Sys2Proof.Machine
end

