-- ==== Sys2Proof/WellFormed.lean ====
section
/-! DEFINITION. What a well-formed command is: every operand in the range its field, pin or bus can give. -/

namespace Sys2Proof.Machine

/-- R89: the fields of an instruction word and the count of its extension words. -/
def Op.wf (op : Op) : Bool :=
  decide (op.ring < 16) && decide (op.dst < 8) && decide (op.src < 8) && decide (op.imm9 < 512) &&
    decide (op.ext.length < 8)

/-- R67: a WRREG comes from one of the sixteen rings. -/
def Writer.wf : Writer → Bool
  | .host => true
  | .sideBand => true
  | .ring r => decide (r < 16)

end Sys2Proof.Machine

namespace Sys2Proof

/-- R21: a word value. -/
def word (v : Nat) : Bool := decide (v < 2 ^ 24)

/-- R22, R34: the offset of a slot of the aperture. -/
def slotOffset (off : Nat) : Bool := decide (off < 2 ^ 20) && decide (off % 4 = 0)

/-- A list of byte values. -/
def bytes (l : List Nat) : Bool := l.all fun b => decide (b < 256)

/-- R215, R216: the AREA codes; at most three retry reads, all of them taken before a codeword is lost. -/
def Machine.CodewordRead.wf (c : Machine.CodewordRead) : Bool :=
  decide (1 ≤ c.area) && decide (c.area ≤ 10) && word c.page && decide (c.retries ≤ 3) &&
    (c.correct || c.retries == 3)

/-- R226, R236: the LUNs of the module. -/
def Machine.FlashWork.wf (k : Machine.FlashWork) : Bool :=
  k.reads.all (·.wf) && k.programs.all fun p => decide (p.1 < 64) && decide (1 ≤ p.2)

/-- R213: the channels and the targets of a channel. -/
def Machine.FoundTarget.wf (f : Machine.FoundTarget) : Bool :=
  decide (f.channel < 4) && decide (f.target < 4) && bytes f.uid

/-- R394, R406: a character brings its start bit's samples at least. -/
def Machine.UartChar.wf (c : Machine.UartChar) : Bool := !c.bits.isEmpty && decide (1 ≤ c.width)

/-- R417, R419: the fields of a frame as it goes on the line. -/
def Machine.LinkFrame.wf (f : Machine.LinkFrame) : Bool :=
  decide (f.flags < 256) && decide (f.dst < 2 ^ 16) && decide (f.src < 2 ^ 16) && decide (f.seq < 256) && bytes f.payload

/-- A command whose every operand its field, pin or bus can give. An operand without a check is a
measurement or a time, any value of which may be observed. -/
def Instr.wf : Instr → Bool
  | .tickEdge _ => true
  | .nop op => op.wf
  | .ldi op => op.wf
  | .mov op => op.wf
  | .add op => op.wf
  | .sub op => op.wf
  | .and op => op.wf
  | .or op => op.wf
  | .cmp op => op.wf
  | .br op => op.wf
  | .loop op => op.wf
  | .waitt op => op.wf
  | .waittExpiry ring => decide (ring < 16)
  | .waite op => op.wf
  | .waiteMatch ring seq => decide (ring < 16) && word seq
  | .waiteTimeout ring => decide (ring < 16)
  | .signal op => op.wf
  | .fence op => op.wf
  | .fenceRelease ring => decide (ring < 16)
  | .rdreg op => op.wf
  | .wrreg op => op.wf
  | .reservedOpcode op => op.wf
  | .unitCompletion unit => decide (unit < 20)
  | .registerWrite w off _ => w.wf && slotOffset off
  | .violationClear w => w.wf
  | .programFree w prog => w.wf && decide (prog < 32)
  | .tkRateWrite w rate => w.wf && decide (rate < 2 ^ 16)
  | .tkShareWrite w shares => w.wf && shares.all (fun p => decide (p.1 < 16) && decide (p.2 < 1024))
  | .tkStarveWrite w ticks => w.wf && decide (ticks < 256)
  | .apertureBaseWrite w part v => w.wf && decide (part < 3) && decide (v < 2 ^ 16)
  | .apertureEnableWrite w _ => w.wf
  | .doorbell w ring tail => w.wf && decide (ring < 16) && word tail
  | .residentBind w ring entry => w.wf && decide (ring < 16) && decide (entry < 2 ^ 14)
  | .residentUnbind w ring entry => w.wf && decide (ring < 16) && decide (entry < 2 ^ 14)
  | .cqHeadWrite w m head => w.wf && decide (m < 4) && word head
  | .cqMapWrite w _ map => w.wf && word map
  | .ring15Give w => w.wf
  | .ring15Return w => w.wf
  | .evpendClear w bits => w.wf && word bits
  | .hostRead rank bank col first beats => decide (rank < 4) && decide (bank < 16) && decide (col < 1024) && decide (first < 8) && (beats == 4 || beats == 8)
  | .hostWrite rank bank col first beats data mask check => decide (rank < 4) && decide (bank < 16) && decide (col < 1024) && decide (first < 8) && (beats == 4 || beats == 8) && bytes data && decide (data.length = 8 * beats) && decide (mask < 2 ^ 64) && bytes check && decide (check.length = beats)
  | .hostActPre rank bank row => decide (rank < 4) && bank.all (fun b => decide (b < 16)) && row.all (fun r => decide (r < 2 ^ 18))
  | .hostMrs rank mr value device => decide (rank < 4) && decide (mr < 8) && decide (value < 2 ^ 18) && device.all (fun d => decide (d < 18))
  | .hostRefreshOrZq => true
  | .hostSelfRefreshEntry rank => decide (rank < 4)
  | .hostSrx rank _ => decide (rank < 4)
  | .caParityError rank => decide (rank < 4)
  | .operatingSpeedWord mts => [1600, 1866, 2133, 2400, 2666, 2933, 3200].contains mts
  | .hostTrainingEnd => true
  | .resetNAssert => true
  | .dramTrainingPassStart _ => true
  | .dramTrainingDone _ => true
  | .claim w => w.wf
  | .retrain w => w.wf
  | .eccLockWrite w => w.wf
  | .scrubStart => true
  | .scrubEnd work => work.wf
  | .lendSnapshot op => op.wf
  | .lendScrub op => op.wf
  | .lendRetrain op => op.wf
  | .lendWaitTimeout => true
  | .lendPurposeDone work => work.wf
  | .lendMaxdurExpiry _ => true
  | .scrub op => op.wf
  | .regionDefine op => op.wf
  | .regionRetire op => op.wf
  | .regionReprioritise op => op.wf
  | .pfence op => op.wf
  | .pfenceDurableDone => true
  | .foldStart op => op.wf
  | .foldHold op => op.wf
  | .foldRelease op => op.wf
  | .foldAutoStart => true
  | .foldCommit work => work.wf
  | .foldAbandoned work => work.wf
  | .journalPageTimeout => true
  | .journalPageWritten work => work.wf
  | .shadowLoopUpdate => true
  | .holdupAccounting => true
  | .arm op => op.wf
  | .disarm op => op.wf
  | .warningCondition => true
  | .warningWithdrawal => true
  | .graceExpiry => true
  | .criticalCondition => true
  | .saveNLow => true
  | .save op => op.wf
  | .pavaneFlushDone work => work.wf
  | .saveSetWritten work => work.wf
  | .pavaneAbandon _ _ => true
  | .pavaneShutdownDone => true
  | .restore op => op.wf
  | .restoreStaged op => op.wf
  | .regionRestored work => work.wf
  | .galliardEnd work => work.wf
  | .galliardStop => true
  | .hostwinOpen w => w.wf
  | .hostwinClose w => w.wf
  | .hostwinTimeout => true
  | .flinfo op => op.wf
  | .flashOpen targets _ work => targets.all (·.wf) && work.wf
  | .blockRetired _ _ _ work => work.wf
  | .patrolDone _ work => work.wf
  | .stripeRefresh patrol work => patrol.wf && work.wf
  | .wearLevelMove work => work.wf
  | .lifeRecompute => true
  | .sequencerEvaluation mask => decide (mask < 2 ^ 12)
  | .startTimeout rail => decide (rail < 12)
  | .railOffReached rail _ => decide (rail < 12)
  | .railStuck rail _ => decide (rail < 12)
  | .railFault rail _ _ _ => decide (rail < 12)
  | .faultWithdrawal => true
  | .tFaultExpiry => true
  | .unlatch w => w.wf
  | .wake w => w.wf
  | .vinQualified _ => true
  | .pstateActive op => op.wf
  | .pstateQuiet op => op.wf
  | .pstateMaint op => op.wf
  | .pstateStandby op => op.wf
  | .standbyWaitTimeout => true
  | .pstateDormant op => op.wf
  | .railOn op => op.wf
  | .railOff op => op.wf
  | .railStatus op => op.wf
  | .margin op => op.wf
  | .marginSettled m => decide (m < 4)
  | .marginTimeout m => decide (m < 4)
  | .faultLineLow => true
  | .faultLineRelease => true
  | .monitorFlagChange ch _ _ _ => decide (ch < 32)
  | .monitorScan _ _ _ _ => true
  | .monitorConfigWrite w off v => w.wf && slotOffset off && word v
  | .faultLogEntryWrite _ => true
  | .powerPathSwitchover _ => true
  | .chargerRunStart _ => true
  | .chargerRunStop => true
  | .chargerTempHold _ => true
  | .chargerTempResume _ => true
  | .prechargeDone _ => true
  | .constantVoltageReached _ => true
  | .chargeFull => true
  | .chargeFault => true
  | .floatLoopUpdate => true
  | .balanceCycle _ => true
  | .packRemoved sign => decide (1 ≤ sign) && decide (sign ≤ 3)
  | .packInserted _ => true
  | .coulombSample q => decide (q.start ≤ 1000)
  | .gaugeUpdate _ => true
  | .gaugeCutoff _ => true
  | .exhaustion _ => true
  | .btCapnomWrite w v => w.wf && word v
  | .tset op => op.wf
  | .tsetSync op => op.wf
  | .tsetSyncTimeout => true
  | .tslew op => op.wf
  | .slewDone => true
  | .tmark op => op.wf
  | .tcapNow op => op.wf
  | .tcapPpsIn op => op.wf
  | .tcapIrigb op => op.wf
  | .tcapPpsOut op => op.wf
  | .tcapTimeout _ => true
  | .timeSnapshot w => w.wf
  | .logrd op => op.wf
  | .logRelease w seq => w.wf && word seq
  | .logPolicyWrite w _ => w.wf
  | .holdoverForget w => w.wf
  | .leapWrite w pend _ => w.wf && decide (pend < 4)
  | .secondBoundary _ => true
  | .ppsEdge _ => true
  | .nmeaSentence _ => true
  | .irigbFrame _ => true
  | .holdoverSample _ _ => true
  | .oscFault _ => true
  | .oscOk => true
  | .tcxoPeriodEnd => true
  | .savedTemperatureCheck _ => true
  | .leapApplied => true
  | .scCardInserted => true
  | .scCardRemoved => true
  | .scactCold op => op.wf
  | .scactWarm op => op.wf
  | .scAtr bytes_ _ => bytes bytes_
  | .scAtrTimeout => true
  | .scClassRetry => true
  | .scPpsResponse bytes_ => bytes bytes_
  | .scdeact op => op.wf
  | .scxfr op => op.wf
  | .scBlockReceived bytes_ _ _ => bytes bytes_
  | .scBwtExpiry => true
  | .scRawCharacter _ _ v => decide (v < 256)
  | .scWtExpiry => true
  | .scXfrTimeout => true
  | .scclkStop op => op.wf
  | .scclkStart op => op.wf
  | .scclkRate op => op.wf
  | .scSupplyFault kind _ _ => decide (1 ≤ kind) && decide (kind ≤ 3)
  | .scDeactivationDone => true
  | .mcCardInserted => true
  | .mcCardRemoved => true
  | .mcinitOn op => op.wf
  | .mcinitOff op => op.wf
  | .mcinitRetune op => op.wf
  | .mcResponse _ _ => true
  | .mcResponseTimeout => true
  | .mcrwRead op => op.wf
  | .mcrwWrite op => op.wf
  | .mcHostcntWrite w v => w.wf && word v
  | .mcReadBlock _ bytes_ => bytes bytes_
  | .mcBusyRelease _ => true
  | .mcBusyTimeout => true
  | .mcStarved => true
  | .mcHostWaitTimeout => true
  | .mcrpmbCounter op => op.wf
  | .mcrpmbWrite op => op.wf
  | .mcrpmbRead op => op.wf
  | .mcrpmbProgkey op => op.wf
  | .mcwpTmpset op => op.wf
  | .mcwpTmpclr op => op.wf
  | .mcwpPermset op => op.wf
  | .mcwpStatus op => op.wf
  | .mcSupplyFault kind _ _ => decide (1 ≤ kind) && decide (kind ≤ 3)
  | .mcDeactivationDone => true
  | .uacfgEnable op => op.wf
  | .uacfgDisable op => op.wf
  | .uacfgFlush op => op.wf
  | .uaxfrSend op => op.wf
  | .uaxfrRecv op => op.wf
  | .uartCharacterReceived p c => decide (p < 4) && c.wf
  | .uartRxIdleTimeout p => decide (p < 4)
  | .uartSendDone p => decide (p < 4)
  | .uartSleepEntry p => decide (p < 4)
  | .uartWake p => decide (p < 4)
  | .lkjoin op => op.wf
  | .joinConfirmed => true
  | .joinWaitTimeout => true
  | .lksend op => op.wf
  | .lkrecv op => op.wf
  | .lkrecvTimeout => true
  | .lkslot op => op.wf
  | .lkleave op => op.wf
  | .lktimeStatus op => op.wf
  | .lktimeClaim op => op.wf
  | .lktimeYield op => op.wf
  | .linkCycleBoundary => true
  | .linkTransmit _ => true
  | .linkCollision => true
  | .ackTimeout => true
  | .beaconReceived f => f.wf
  | .beaconMissing => true
  | .silenceTimeout => true
  | .dataFrameReceived f => f.wf
  | .ackReceived _ seq _ => decide (seq < 256)
  | .joinReceived f => f.wf
  | .conflictReceived f => f.wf
  | .leaveReceived f => f.wf
  | .noticeReceived f => f.wf
  | .lkStranger _ _ => true
  | .claimRepeat => true
  | .aeloadBegin op => op.wf
  | .aeloadChunk op => op.wf
  | .aeloadEnd op => op.wf
  | .aeloadAbort op => op.wf
  | .aeloadReload op => op.wf
  | .modelFlashWriteDone _ work => work.wf
  | .aerun op => op.wf
  | .jobSlice => true
  | .frameWaitTimeout => true
  | .ingestWindowEnable w k v => w.wf && decide (k < 8) && word v
  | .aeadaptStart op => op.wf
  | .aeadaptEvent op => op.wf
  | .aeadaptCommit op => op.wf
  | .commitFlashDone _ work => work.wf
  | .aeadaptEnd op => op.wf
  | .aeadaptRebase op => op.wf
  | .aeexport op => op.wf
  | .aefreezeFreeze op => op.wf
  | .aefreezeThaw op => op.wf
  | .cppackBew128 op => op.wf
  | .cppackBea16 op => op.wf
  | .cppackVds op => op.wf
  | .cpunpackBew128 op => op.wf
  | .cpunpackBea16 op => op.wf
  | .cpunpackVds op => op.wf
  | .cpcheckBew128 op => op.wf
  | .cpcheckVds op => op.wf
  | .cpcheckChunkCrc op => op.wf
  | .severify op => op.wf
  | .seopen op => op.wf
  | .seseal op => op.wf
  | .sekeyRpmb op => op.wf
  | .sekeyRpmbclear op => op.wf
  | .sekeyOwnerset op => op.wf
  | .sekeyOwnerrevoke op => op.wf
  | .exportOwnerWrite w owner => w.wf && decide (owner < 32)
  | .fpindSet op => op.wf
  | .fpindStatus op => op.wf
  | .indicatorMeasurement k _ _ => decide (k < 8)
  | .provingPulse k _ _ => decide (k < 8)
  | .offStateProbe k _ => decide (k < 8)
  | .fpkeyRaise op => op.wf
  | .fpkeyCancel op => op.wf
  | .fpkeyRebase op => op.wf
  | .fpkeyStatus op => op.wf
  | .keyTouch _ => true
  | .keyTouchRelease _ => true
  | .keyAntiTouch _ => true
  | .keyHeldStuck _ => true
  | .baselineUpdate _ => true
  | .feedbackSteadyTimeout => true
  | .smbusBusEngage _ => true
  | .smbusRegisterWrite bytes_ => bytes bytes_
  | .smbusPageSelect bytes_ => bytes bytes_
  | .smbusRegisterRead command _ => command.all (fun c => decide (c < 256))
  | .smbusFormError => true
  | .smbusTimeout => true
  | .heartbeatBeat w => w.wf
  | .heartbeatLapse => true
  | .heartbeatEnableWrite w _ => w.wf
  | .stewardTake w => w.wf
  | .stewardRelease w => w.wf
  | .coldStart sa _ _ _ => decide (sa < 8)
  | .vddAonLoss _ _ => true
  | .scPpsTimeout => true
  | .mcIdentTimeout => true
  | .mcSaveWaitExpiry => true

end Sys2Proof
end

