-- ==== Sys2Proof/Safety.lean ====
section
/-! DEFINITION. The terms the statements use: a command that completes, what a command leaves alone, the
canonical form of every memory, and a ring that may issue. -/

namespace Sys2Proof.Machine

open Reg

/-- The command completes: `exec` answers a next state, of which `Q` holds. -/
def Completes (c : Instr) (s : State) (Q : State → Prop) : Prop := ∃ t, exec c s = .next t ∧ Q t

/-- Whenever the command answers a next state, `Q` holds of it. -/
def Whenever (c : Instr) (s : State) (Q : State → Prop) : Prop := ∀ t, exec c s = .next t → Q t

/-! ## Frames -/

/-- Every register field but those with a key in `keys` is unchanged. -/
def KeepsFields (keys : List Nat) (s t : State) : Prop := ∀ g : Field, g.key ∉ keys → t.get g = s.get g

/-- Every register field outside the blocks `blocks` of the register map is unchanged. -/
def KeepsBlocks (blocks : List Nat) (s t : State) : Prop :=
  ∀ g : Field, g.lo < 32 → g.off / 0x1000 ∉ blocks → t.get g = s.get g

/-- Every memory of the block is unchanged: the aperture's, the program store and the DRAM. -/
def KeepsMemory (s t : State) : Prop :=
  (∀ off, t.slot off = s.slot off) ∧ t.store = s.store ∧ ∀ a, t.hp.dram.byte a = s.hp.dram.byte a

/-- Everything but the registers and what the rings hold is unchanged. -/
def KeepsUnits (s t : State) : Prop := { t with regs := s.regs, rings := s.rings, cycles := s.cycles } = s

/-! ## Memory -/

/-- The canonical form of every memory the block holds: the aperture's slots, the program store, the
DRAM and its check bytes. -/
def Memory.wf (s : State) : Bool :=
  sparseWf (fun _ => 0) s.slots && sparseWf (fun _ => 0) s.store && s.hp.dram.wf

/-! ## Rings -/

/-- R71, R82: a queue-mode ring that may issue its next instruction now, and whose queue has a free
entry. -/
def RingOpen (s : State) (r : Nat) : Prop :=
  s.ringReady r = true ∧ s.resident r = false ∧ (s.ring r).run = none ∧ 0 < s.cqFree (s.cqOf r)

/-- R71, R113: ring `r` has moved on by `n` words, in its submission area or in its program. -/
def MovedOn (r n : Nat) (s t : State) : Prop :=
  if s.resident r then (t.ring r).pc = (s.ring r).pc + n
  else t.get (QU_HEAD.HEAD r) = (s.get (QU_HEAD.HEAD r) + n) % 2 ^ 24

/-- R79, R80: the one new entry of ring `r`'s queue is that of the instruction at its head, with opcode
`opcode`, status `status` and result `result`. -/
def Posted (r opcode status result : Nat) (s t : State) : Prop :=
  let m := s.cqOf r
  t.get (QU_CQTAIL.TAIL m) = (s.get (QU_CQTAIL.TAIL m) + 1) % 2 ^ 24 ∧
    t.slot (s.entryBase m) = (⟨r, s.get (QU_HEAD.HEAD r), false, opcode, m⟩ : OpRef).word0 status % 2 ^ 24 ∧
    t.slot (s.entryBase m + 4) = s.get (QU_HEAD.HEAD r) % 2 ^ 24 ∧
    t.slot (s.entryBase m + 8) = result % 2 ^ 24

/-- R79, R80: the completion that `ref` awaits is the next entry of its queue, with `status` and `result`. -/
def Done (ref : OpRef) (status result : Nat) (s t : State) : Prop :=
  t.slot (s.entryBase ref.q) = ref.word0 status % 2 ^ 24 ∧ t.slot (s.entryBase ref.q + 4) = ref.word1 % 2 ^ 24 ∧
    t.slot (s.entryBase ref.q + 8) = result % 2 ^ 24

/-- R67: words into ring `r`'s submission area from position `p` on. -/
def State.submit (s : State) (r p : Nat) : List Nat → State
  | [] => s
  | w :: ws => (s.setSlot (0x40000 + r * 0x4000 + 4 * (p % 4096)) w).submit r (p + 1) ws

end Sys2Proof.Machine
end

