-- ==== Sys2Proof/Certificates/Slice0/Obligations.lean ====
section
/-! DEFINITION. The statements about the model, for the provers: by family of commands, what each does,
where it completes, and what it leaves alone. That a command stands for the next instruction of its ring, or for
an event that the environment sends, is the model's reading of the table (assumption log 2 and 3). -/

section Statements

open Sys2Proof Sys2Proof.Machine Sys2Proof.Machine.Reg

/-! ## The machine -/

/-- A step takes the command at the front of the queue and runs it with the queue's rest. -/
def Obligations.StepRunsFront : Prop :=
  ∀ (s : State) (c : Instr) (rest : List Instr), s.pending = c :: rest →
    step s = exec c { s with pending := rest }

/-- After reset: R2's identity, R10's counters, R116's store and R246's state without rails; nothing is
queued and every memory is empty and canonical.
Model's choices it rests on: assumption log 5, 6, 7, 9. -/
def Obligations.ResetState : Prop :=
  State.reset.get SY_DEVID.PART = 0x2416 ∧ State.reset.get SY_VIOLATIONS.COUNT = 0 ∧
    State.reset.get SY_PGSPACE.FREE = 16384 ∧ State.reset.get TK_RATE.RATE = 20000 ∧
    State.reset.coreUp = false ∧ State.reset.pending = [] ∧ State.reset.slots = [] ∧
    State.reset.store = [] ∧ Memory.wf State.reset = true

/-- Every step keeps the canonical form of every memory.
Model's choices it rests on: assumption log 7, 8. -/
def Obligations.MemoryStaysCanonical : Prop :=
  ∀ s t : State, Memory.wf s = true → step s = .next t → Memory.wf t = true

/-! ## Instruction words (R67, R89) -/

/-- The words of any instruction, placed in a submission area from any position, are fetched and
decoded back to it. -/
def Obligations.InstructionWordsDecode : Prop :=
  ∀ (s : State) (p opcode : Nat) (op : Op), opcode < 64 → op.wf = true →
    let f := (s.submit op.ring p (encodeOp opcode op)).queued op.ring p
    opcodeOf f.1 = opcode ∧ extOf f.1 = op.ext.length ∧ decodeOp op.ring f.1 f.2 = op

/-- Words of the watch program of chapter 5, each with the instruction it stands for. -/
def Obligations.ExampleWords : Prop :=
  opcodeOf 0x38B000 = 0x0E ∧ decodeOp 6 0x38B000 [0x000008] = ⟨6, 3, 0, 0, [0x000008#24]⟩ ∧
  opcodeOf 0x1C3E00 = 0x07 ∧ decodeOp 6 0x1C3E00 [] = ⟨6, 3, 7, 0, []⟩ ∧
  opcodeOf 0x201003 = 0x08 ∧ decodeOp 6 0x201003 [] = ⟨6, 1, 0, 3, []⟩ ∧
  opcodeOf 0x0C1104 = 0x03 ∧ decodeOp 6 0x0C1104 [] = ⟨6, 1, 0, 0x104, []⟩ ∧
  opcodeOf 0x2481F8 = 0x09 ∧ extOf 0x2481F8 = 1 ∧ imm9Signed (decodeOp 6 0x2481F8 [4]).imm9 = -8 ∧
  encodeOp 0x0F ⟨6, 0, 2, 0, [0x03D001#24]⟩ = [0x3C8400, 0x03D001]

/-! ## The core instructions (R91 to R103) -/

/-- R93, R94: LDI loads its immediate or its extension word, and MOV its operand B. -/
def Obligations.LoadResults : Prop :=
  ∀ (s : State) (op : Op), op.wf = true → s.ringReady op.ring = true →
    (op.coreForm 0x01 = true → Completes (.ldi op) s fun t =>
      MovedOn op.ring (1 + op.ext.length) s t ∧ t.greg op.ring op.dst =
        match op.ext with
        | [] => ofSigned 24 (imm9Signed op.imm9)
        | w :: _ => w.toNat) ∧
    (op.coreForm 0x02 = true → Completes (.mov op) s fun t =>
      MovedOn op.ring (1 + op.ext.length) s t ∧ t.greg op.ring op.dst = s.operandB op % 2 ^ 24)

/-- R92: ADD and SUB write the sum and the difference modulo 2²⁴ and set Z, N, C and V from the exact results; C of
SUB is the borrow. R92: AND and OR write the bitwise result, set Z and N from it and clear C and V; CMP sets the
flags of SUB and writes no register. -/
def Obligations.ArithmeticResults : Prop :=
  (∀ (s : State) (op : Op), op.wf = true → s.ringReady op.ring = true →
     let a := s.greg op.ring op.dst % 2 ^ 24
     let b := s.operandB op % 2 ^ 24
     (op.coreForm 0x03 = true → Completes (.add op) s fun t =>
       let r := (a + b) % 2 ^ 24
       MovedOn op.ring (1 + op.ext.length) s t ∧ t.greg op.ring op.dst = r ∧
         t.flag (SY_FLAGS.Z op.ring) = decide (r = 0) ∧ t.flag (SY_FLAGS.N op.ring) = bitOf r 23 ∧
         t.flag (SY_FLAGS.C op.ring) = decide (2 ^ 24 ≤ a + b) ∧
         t.flag (SY_FLAGS.V op.ring) = decide (toSigned 24 r ≠ toSigned 24 a + toSigned 24 b)) ∧
     (op.coreForm 0x04 = true → Completes (.sub op) s fun t =>
       let r := (a + 2 ^ 24 - b) % 2 ^ 24
       MovedOn op.ring (1 + op.ext.length) s t ∧ t.greg op.ring op.dst = r ∧
         t.flag (SY_FLAGS.Z op.ring) = decide (r = 0) ∧ t.flag (SY_FLAGS.N op.ring) = bitOf r 23 ∧
         t.flag (SY_FLAGS.C op.ring) = decide (a < b) ∧
         t.flag (SY_FLAGS.V op.ring) = decide (toSigned 24 r ≠ toSigned 24 a - toSigned 24 b))) ∧
  (∀ (s : State) (op : Op), op.wf = true → s.ringReady op.ring = true →
     let a := s.greg op.ring op.dst % 2 ^ 24
     let b := s.operandB op % 2 ^ 24
     (op.coreForm 0x05 = true → Completes (.and op) s fun t =>
       t.greg op.ring op.dst = a &&& b ∧ t.flag (SY_FLAGS.Z op.ring) = decide (a &&& b = 0) ∧
         t.flag (SY_FLAGS.N op.ring) = bitOf (a &&& b) 23 ∧ t.flag (SY_FLAGS.C op.ring) = false ∧
         t.flag (SY_FLAGS.V op.ring) = false) ∧
     (op.coreForm 0x06 = true → Completes (.or op) s fun t =>
       t.greg op.ring op.dst = a ||| b ∧ t.flag (SY_FLAGS.Z op.ring) = decide (a ||| b = 0) ∧
         t.flag (SY_FLAGS.N op.ring) = bitOf (a ||| b) 23 ∧ t.flag (SY_FLAGS.C op.ring) = false ∧
         t.flag (SY_FLAGS.V op.ring) = false) ∧
     (op.coreForm 0x07 = true → Completes (.cmp op) s fun t =>
       t.greg op.ring op.dst = s.greg op.ring op.dst ∧ t.flag (SY_FLAGS.Z op.ring) = decide (a = b) ∧
         t.flag (SY_FLAGS.N op.ring) = bitOf ((a + 2 ^ 24 - b) % 2 ^ 24) 23 ∧
         t.flag (SY_FLAGS.C op.ring) = decide (a < b) ∧
         t.flag (SY_FLAGS.V op.ring) =
           decide (toSigned 24 ((a + 2 ^ 24 - b) % 2 ^ 24) ≠ toSigned 24 a - toSigned 24 b)))

/-- R94, R96, R97: NOP only moves on; BR moves to its target when the condition of its DST holds and to the next
word when it does not, and retires as NOP when IMM9 is not from 1 to 255 or a taken target lies beyond the
snapshot tail; LOOP goes back to its body while its counter is not spent. -/
def Obligations.FlowResults : Prop :=
  ∀ (s : State) (op : Op), op.wf = true → s.ringReady op.ring = true →
    (op.coreForm 0x00 = true → Completes (.nop op) s (MovedOn op.ring 1 s)) ∧
    (let z := s.flag (SY_FLAGS.Z op.ring)
     let n := s.flag (SY_FLAGS.N op.ring)
     let c := s.flag (SY_FLAGS.C op.ring)
     let v := s.flag (SY_FLAGS.V op.ring)
     let taken := [true, z, !z, c, !c, n != v, n == v, s.flag (SY_FLAGS.T op.ring)].getD op.dst true
     let beyond : Prop := taken = true ∧ s.resident op.ring = false ∧ s.snapLeft op.ring < op.imm9
     op.coreForm 0x08 = true →
      (1 ≤ op.imm9 → op.imm9 ≤ 255 → ¬ beyond →
        Completes (.br op) s (MovedOn op.ring (if taken then op.imm9 else 1) s)) ∧
      (op.imm9 < 1 ∨ 255 < op.imm9 ∨ beyond → s.get SY_VIOLATIONS.COUNT < 2 ^ 24 - 1 → Completes (.br op) s fun t =>
        MovedOn op.ring 1 s t ∧ t.get SY_VIOLATIONS.COUNT = s.get SY_VIOLATIONS.COUNT + 1)) ∧
    (op.coreForm 0x09 = true → s.resident op.ring = true → (s.ring op.ring).lc.length = 4 →
      let left := s.loopCount op.ring op.dst
      let n := (if left = 0 then op.word 1 else left) - 1
      Completes (.loop op) s fun t =>
        t.loopCount op.ring op.dst = n ∧
          (t.ring op.ring).pc =
            if n = 0 then (s.ring op.ring).pc + 2
            else ofSigned 14 (((s.ring op.ring).pc : Int) + imm9Signed op.imm9))

/-- R98, R99, R109: WAITT and WAITE hold their ring; the target edge, the timeout edge and a match end the wait, and
neither count ends it before. Every event of the awaited code that is raised is a match: it writes its number and clears
T; a number that the log does not show for such an event after the issue ends nothing. A timeout sets T. A ring that
Pavane has frozen waits on.
Model's choices it rests on: assumption log 2. -/
def Obligations.WaitResults : Prop :=
  ∀ (s : State) (op : Op), op.wf = true → s.ringReady op.ring = true → s.resident op.ring = false →
    (op.coreForm 0x0A = true → Completes (.waitt op) s fun t =>
      (t.ring op.ring).wait = .ticks ((s.tickCount + max (if op.ext = [] then op.imm9 else op.word 1) 1) % 2 ^ 32) ∧
        t.ringReady op.ring = false) ∧
    (op.coreForm 0x0B = true → Completes (.waite op) s fun t =>
      (t.ring op.ring).wait = .event (op.word 1) (s.get TM_EVSEQ.SEQ)
        (if op.imm9 = 0 then none else some ((s.tickCount + op.imm9) % 2 ^ 32)) op.dst) ∧
    ∀ (u : State) (code since target seq : Nat) (limit : Option Nat),
      (u.sv.pavane = none → (u.ring op.ring).wait = .ticks u.tickCount → Completes (.waittExpiry op.ring) u fun t =>
        (t.ring op.ring).wait = .none) ∧
      ((u.ring op.ring).wait = .ticks target → target ≠ u.tickCount ∨ u.sv.pavane.isSome = true →
        Completes (.waittExpiry op.ring) u fun t => t = u) ∧
      (u.sv.pavane = none → (u.ring op.ring).wait = .event code since (some u.tickCount) op.dst →
        Completes (.waiteTimeout op.ring) u fun t =>
          (t.ring op.ring).wait = .none ∧ t.flag (SY_FLAGS.T op.ring) = true) ∧
      ((u.ring op.ring).wait = .event code since limit op.dst → limit ≠ some u.tickCount ∨ u.sv.pavane.isSome = true →
        Completes (.waiteTimeout op.ring) u fun t => t = u) ∧
      (u.sv.pavane = none → (u.ring op.ring).wait = .event code since limit op.dst →
        (u.raisedFor code since seq = true → Completes (.waiteMatch op.ring seq) u fun t =>
          (t.ring op.ring).wait = .resume ∧ t.flag (SY_FLAGS.T op.ring) = false ∧
            t.greg op.ring op.dst = seq % 2 ^ 24) ∧
        (u.raisedFor code since seq = false → Completes (.waiteMatch op.ring seq) u fun t => t = u) ∧
        ∀ raised w5 w6 w7, u.coreUp = true → u.batch = none → eventMatches code raised = true →
          let t := u.raise raised w5 w6 w7
          (t.ring op.ring).wait = .resume ∧ t.flag (SY_FLAGS.T op.ring) = false ∧
            t.greg op.ring op.dst = u.get TM_EVSEQ.SEQ % 2 ^ 24)

/-- R100, R101: SIGNAL, in a queue or in a resident program, posts status 0x01 with operand B; FENCE posts 0 at
once when nothing is outstanding and waits otherwise; the last earlier completion lets it post how many were
outstanding. -/
def Obligations.PostingResults : Prop :=
  ∀ (s : State) (op : Op), op.wf = true →
   (s.ringReady op.ring = true → s.canReserve op.ring = true → op.coreForm 0x0C = true →
    Completes (.signal op) s fun t =>
      let ref := s.opRef op.ring 0x0C
      MovedOn op.ring (1 + op.ext.length) s t ∧ Done ref 0x01 (s.operandB op) s t ∧
        t.get (QU_CQTAIL.TAIL ref.q) = (s.get (QU_CQTAIL.TAIL ref.q) + 1) % 2 ^ 24) ∧
   (RingOpen s op.ring →
    (op.coreForm 0x0D = true → s.get (QU_OUT.OUT op.ring) = 0 →
      Completes (.fence op) s (Posted op.ring 0x0D 0x01 0 s)) ∧
    (op.coreForm 0x0D = true → s.get (QU_OUT.OUT op.ring) ≠ 0 → Completes (.fence op) s fun t =>
      (t.ring op.ring).wait =
        .fence ⟨op.ring, s.get (QU_HEAD.HEAD op.ring), false, 0x0D, s.cqOf op.ring⟩ (s.get (QU_OUT.OUT op.ring))) ∧
    ∀ (u : State) (ref : OpRef) (n : Nat),
      (u.ring op.ring).wait = .fence ref n → u.get (QU_OUT.OUT op.ring) ≤ 1 →
      Completes (.fenceRelease op.ring) u fun t =>
        Done ref 0x01 n u t ∧ (t.ring op.ring).wait = .resume)

/-- R8: the reserved opcode posts status 0x00 and counts as a violation; R7: an illegal form of a core
instruction retires as NOP with one violation. -/
def Obligations.ReservedAndIllegal : Prop :=
  ∀ (s : State) (op : Op), op.wf = true → s.get SY_VIOLATIONS.COUNT < 2 ^ 24 - 1 →
    (RingOpen s op.ring → Completes (.reservedOpcode op) s fun t =>
      Posted op.ring 0x3F 0x00 0 s t ∧ t.get SY_VIOLATIONS.COUNT = s.get SY_VIOLATIONS.COUNT + 1) ∧
    (s.ringReady op.ring = true → op.coreForm 0x03 = false →
      Completes (.add op) s fun t =>
        MovedOn op.ring (1 + op.ext.length) s t ∧ t.get SY_VIOLATIONS.COUNT = s.get SY_VIOLATIONS.COUNT + 1 ∧
          t.greg op.ring op.dst = s.greg op.ring op.dst)

/-- R102, R103: RDREG loads the word that a read of the slot returns and sets Z and N from it; WRREG writes a
general-staging slot that no unit holds, under its mask; a zero mask changes no slot of staging, whoever holds it, and is
no violation.
Model's choices it rests on: assumption log 15. -/
def Obligations.SlotInstructionResults : Prop :=
  ∀ (s : State) (op : Op), op.wf = true → s.ringReady op.ring = true →
    (op.coreForm 0x0E = true → 0x40000 ≤ 4 * s.rdIndex op → 4 * s.rdIndex op < 0x90000 →
      Completes (.rdreg op) s fun t =>
        let v := s.slot (4 * s.rdIndex op) % 2 ^ 24
        t.greg op.ring op.dst = v ∧ t.flag (SY_FLAGS.Z op.ring) = decide (v = 0) ∧
          t.flag (SY_FLAGS.N op.ring) = bitOf v 23) ∧
    (op.coreForm 0x0F = true → genStaging ≤ 4 * s.wrIndex op → s.ownedRanges = [] → op.wrMask ≠ 0 →
      Completes (.wrreg op) s fun t =>
        t.slot (4 * s.wrIndex op) =
          mergeWord (s.slot (4 * s.wrIndex op)) (s.greg op.ring op.src) op.wrMask % 2 ^ 24) ∧
    (op.coreForm 0x0F = true → 0x90000 ≤ 4 * s.wrIndex op → op.wrMask = 0 →
      Completes (.wrreg op) s fun t =>
        t.slot (4 * s.wrIndex op) = s.slot (4 * s.wrIndex op) ∧
          t.get SY_VIOLATIONS.COUNT = s.get SY_VIOLATIONS.COUNT)

/-- What the register-only core instructions leave alone: every memory, every unit, every other ring, and
every register but the destination, the flags R92 names, the ring's head and loop bits and, for an
instruction that retires as NOP, the two violation registers. -/
def Obligations.CoreInstructionFrames : Prop :=
  ∀ (s : State) (op : Op), op.wf = true →
    let r := op.ring
    let own := [(QU_HEAD.HEAD r).key, SY_VIOLATIONS.COUNT.key, SY_LASTVIOL.LAST.key]
    let dst := [(SY_CTX.G r op.dst).key]
    let flags := [(SY_FLAGS.Z r).key, (SY_FLAGS.N r).key, (SY_FLAGS.C r).key, (SY_FLAGS.V r).key]
    let same (keys : List Nat) (t : State) : Prop :=
      KeepsFields (own ++ keys) s t ∧ KeepsMemory s t ∧ KeepsUnits s t ∧ ∀ r' ≠ r, t.ring r' = s.ring r'
    Whenever (.nop op) s (same []) ∧ Whenever (.br op) s (same []) ∧
      Whenever (.waitt op) s (same []) ∧ Whenever (.waite op) s (same []) ∧
      Whenever (.ldi op) s (same dst) ∧ Whenever (.mov op) s (same dst) ∧
      Whenever (.add op) s (same (dst ++ flags)) ∧ Whenever (.sub op) s (same (dst ++ flags)) ∧
      Whenever (.and op) s (same (dst ++ flags)) ∧ Whenever (.or op) s (same (dst ++ flags)) ∧
      Whenever (.cmp op) s (same flags) ∧ Whenever (.loop op) s (same [(SY_FLAGS.LC r).key])

/-! ## The tick (R39 to R60) -/

/-- R46, R57, R58, R59: accepted writes of the tick unit: the pending rate, the starvation threshold, and a burst of
shares that keeps the sum at or below 900 and every bound program within its share. R47: a share below the
static worst case of the ring's bound program is ignored and counts. R46: a burst of share writes that would
make the sum exceed 900 changes no share, and every write of it counts as a violation. -/
def Obligations.TickWriteResults : Prop :=
  (∀ (s : State) (w : Writer), s.coreUp = true →
     (∀ rate, 1000 ≤ rate → rate ≤ 40000 → s.mayRwm w 0x1000 = true → s.rateMayChange = true →
       Completes (.tkRateWrite w rate) s fun t =>
         t.get TK_PENDRATE.RATE = rate ∧ t.flag TK_STATUS.RATE_PEND = decide (rate ≠ s.get TK_RATE.RATE) ∧
           t.get TK_RATE.RATE = s.get TK_RATE.RATE) ∧
     (∀ ticks, ticks < 256 → s.mayRwm w 0x102C = true → Completes (.tkStarveWrite w ticks) s fun t =>
       t.get TK_STARVE.TICKS = ticks ∧
         t.get TK_STARVED.RING = if ticks = 0 then 0 else s.get TK_STARVED.RING) ∧
     (∀ shares : List (Nat × Nat), (shares.map (·.1)).Nodup → s.mayRwm w 0x1040 = true →
       (∀ p ∈ shares, p.1 < 16 ∧ p.2 < 1024 ∧ (s.set (TK_SHARE.SHARE p.1) p.2).boundFit p.1 = true) →
       ((List.range 16).map fun r => (sparseFind r shares).getD (s.get (TK_SHARE.SHARE r))).sum ≤ 900 →
       Completes (.tkShareWrite w shares) s fun t =>
         ∀ r < 16, t.get (TK_SHARE.SHARE r) = (sparseFind r shares).getD (s.get (TK_SHARE.SHARE r))) ∧
     (∀ r v, r < 16 → s.resident r = true →
       (s.get TK_CYCLES.CYCLES * (v % 2 ^ 10) / 1000 < s.get (SY_PG_C.WCOST (s.ring r).prog)) →
       s.get SY_VIOLATIONS.COUNT < 2 ^ 24 - 1 → Completes (.tkShareWrite w [(r, v)]) s fun t =>
         t.get (TK_SHARE.SHARE r) = s.get (TK_SHARE.SHARE r) ∧
           t.get SY_VIOLATIONS.COUNT = s.get SY_VIOLATIONS.COUNT + 1)) ∧
  (∀ (s : State) (w : Writer) (shares : List (Nat × Nat)), shares ≠ [] → (shares.map (·.1)).Nodup →
     (∀ p ∈ shares, p.1 < 16 ∧ p.2 < 1024 ∧ (s.set (TK_SHARE.SHARE p.1) p.2).boundFit p.1 = true) →
     900 < ((List.range 16).map fun r => (sparseFind r shares).getD (s.get (TK_SHARE.SHARE r))).sum →
     s.get SY_VIOLATIONS.COUNT + shares.length < 2 ^ 24 →
     Completes (.tkShareWrite w shares) s fun t =>
       (∀ r < 16, t.get (TK_SHARE.SHARE r) = s.get (TK_SHARE.SHARE r)) ∧
         t.get SY_VIOLATIONS.COUNT = s.get SY_VIOLATIONS.COUNT + shares.length)

/-- R43, R44, R49, R50: at an edge at which no ring has work and nothing is pending, TK_COUNT advances by one,
or starts at zero, TK_INDEX takes the edge's index, time reaches the edge, and every credit has spilled down.
Model's choices it rests on: assumption log 11, 82. -/
def Obligations.TickEdgeCounts : Prop :=
  ∀ s : State, s.coreUp = true → s.flag TK_STATUS.RATE_PEND = false → s.ring15 = ⟨false, false, false⟩ →
    (∀ r < 16, s.resident r = false ∧ (s.ring r).pend = none ∧ (s.ring r).wait = .none ∧
      s.get (QU_HEAD.HEAD r) = s.get (QU_TAIL.TAIL r)) →
    ((List.range 16).map s.shareCycles).sum ≤ s.get TK_BUDGET.BUDGET →
    s.now ≤ s.edgeAhead.1 * 100000000 + edgePlace (s.get TK_RATE.RATE) s.edgeAhead.2 →
    Completes (.tickEdge none) s fun t =>
      t.tickCount = (if s.tick.started then (s.tickCount + 1) % 2 ^ 32 else 0) ∧
        t.get TK_INDEX.INDEX = s.edgeAhead.2 % 2 ^ 16 ∧
        t.now = s.edgeAhead.1 * 100000000 + edgePlace (s.get TK_RATE.RATE) s.edgeAhead.2 ∧
        t.tick.spill = s.get TK_BUDGET.BUDGET

/-- R50, R71: a ring whose one ready instruction is a NOP executes it at the edge when its credit or the
spill covers it.
Model's choices it rests on: assumption log 11. -/
def Obligations.TickEdgeServes : Prop :=
  ∀ (s : State) (r : Nat), r < 16 → s.coreUp = true → s.sv.pavane = none →
    s.flag TK_STATUS.RATE_PEND = false → s.ring15 = ⟨false, false, false⟩ →
    (∀ r' < 16, s.resident r' = false ∧ (s.ring r').pend = none ∧ (s.ring r').wait = .none ∧
      (r' ≠ r → s.get (QU_HEAD.HEAD r') = s.get (QU_TAIL.TAIL r'))) →
    s.get (QU_TAIL.TAIL r) = (s.get (QU_HEAD.HEAD r) + 1) % 2 ^ 24 → s.get (QU_HEAD.HEAD r) < 2 ^ 24 →
    s.slot (0x40000 + r * 0x4000 + 4 * (s.get (QU_HEAD.HEAD r) % 4096)) = 0 →
    4 ≤ s.get TK_BUDGET.BUDGET → ((List.range 16).map s.shareCycles).sum + 4 ≤ s.get TK_BUDGET.BUDGET →
    Completes (.tickEdge none) s fun t =>
      t.get (QU_HEAD.HEAD r) = s.get (QU_TAIL.TAIL r) ∧ (t.ring r).used = 4

/-! ## Rings and queues (R63 to R86) -/

/-- R68, R72, R73, R76, R81, R84: accepted writes of the ring unit. A write of the present tail has no effect. R68,
R72, R81, R571: a tail beyond 4,096 words or behind the present one, any tail of a resident ring, a head outside
the posted entries, a write by one who owns neither ring nor queue, and any write while the core domain is down
change nothing but the violation registers. -/
def Obligations.RingWriteResults : Prop :=
  (∀ (s : State) (w : Writer), s.coreUp = true →
     (∀ r tail, r < 16 → s.ownsRing w r = true → s.resident r = false →
       let new := (tail % 2 ^ 24 + 2 ^ 24 - s.get (QU_HEAD.HEAD r)) % 2 ^ 24
       (s.occupancy r < new → new ≤ 4096 →
         Completes (.doorbell w r tail) s fun t => t.get (QU_TAIL.TAIL r) = tail % 2 ^ 24) ∧
       (s.occupancy r = new → new ≤ 4096 → Completes (.doorbell w r tail) s fun t => t = s)) ∧
     (∀ r entry, r < 16 → entry < 2 ^ 14 → s.ownsRing w r = true → (s.ring r).leaving = false →
       Completes (.residentBind w r entry) s fun t =>
         (t.ring r).pend = (if s.resident r then none else some (true, writerKind w)) ∧
           (s.resident r = false → t.get (QU_MODE.ENTRY r) = entry)) ∧
     (∀ r entry, r < 16 → s.ownsRing w r = true → (s.ring r).leaving = false →
       Completes (.residentUnbind w r entry) s fun t =>
         (t.ring r).pend = if s.resident r then some (false, writerKind w) else none) ∧
     (∀ r entry, r < 16 → s.ownsRing w r = true → (s.ring r).leaving = true →
       Completes (.residentBind w r entry) s (fun t => (t.ring r).pend = none) ∧
       Completes (.residentUnbind w r entry) s (fun t => (t.ring r).pend = none)) ∧
     (∀ m head, m < 4 → s.ownsQueue w m = true →
       (head % 2 ^ 24 + 2 ^ 24 - s.get (QU_CQHEAD.HEAD m)) % 2 ^ 24 ≤ s.cqUsed m →
       Completes (.cqHeadWrite w m head) s fun t => t.get (QU_CQHEAD.HEAD m) = head % 2 ^ 24) ∧
     (∀ high map,
       let f := if high then QU_CQMAPH.MAP else QU_CQMAPL.MAP
       (s.sideBandOwns15 && newlyMaps3 (if high then 7 else 8) (s.get f) map) = false →
       Completes (.cqMapWrite .host high map) s fun t => t.get f = map % 2 ^ f.width) ∧
     (s.giveHolds = true → s.ring15.seize = false → Completes (.ring15Give .host) s fun t => t.ring15.give = true) ∧
     (s.returnHolds = true → Completes (.ring15Return .sideBand) s fun t => t.ring15.giveBack = true) ∧
     (∀ bits, w = .host ∨ w = .sideBand → Completes (.evpendClear w bits) s fun t =>
       ∀ i < 20, t.maskBit QU_EVPEND.UNIT i = (s.maskBit QU_EVPEND.UNIT i && !bitOf bits i))) ∧
  (∀ (s : State) (w : Writer), s.get SY_VIOLATIONS.COUNT < 2 ^ 24 - 1 →
     let refused (t : State) : Prop :=
       t.get SY_VIOLATIONS.COUNT = s.get SY_VIOLATIONS.COUNT + 1 ∧
         KeepsFields [SY_VIOLATIONS.COUNT.key, SY_LASTVIOL.LAST.key] s t ∧ { t with regs := s.regs } = s
     (∀ r tail,
       let new := (tail % 2 ^ 24 + 2 ^ 24 - s.get (QU_HEAD.HEAD r)) % 2 ^ 24
       (s.ownsRing w r = false ∨ s.resident r = true ∨ new < s.occupancy r ∨ 4096 < new) →
       Completes (.doorbell w r tail) s refused) ∧
     (∀ r entry, s.ownsRing w r = false →
       Completes (.residentBind w r entry) s refused ∧ Completes (.residentUnbind w r entry) s refused) ∧
     (∀ m head, s.ownsQueue w m = false ∨ s.cqUsed m < (head % 2 ^ 24 + 2 ^ 24 - s.get (QU_CQHEAD.HEAD m)) % 2 ^ 24 →
       Completes (.cqHeadWrite w m head) s refused) ∧
     (s.coreUp = false → ∀ n v,
       Completes (.doorbell w n v) s refused ∧ Completes (.cqHeadWrite w n v) s refused ∧
         Completes (.tkRateWrite w v) s refused ∧ Completes (.tkStarveWrite w v) s refused ∧
         Completes (.apertureBaseWrite w n v) s refused))

/-- R63, R64: with the aperture closed its base is written whole or by bytes; it opens where the MiB at BASE
lies inside the capacity and clear of every kept region, and it closes at any time.
Model's choices it rests on: assumption log 19. -/
def Obligations.ApertureResults : Prop :=
  ∀ (s : State) (w : Writer), s.coreUp = true → w = .host ∨ w = .sideBand →
    (∀ v, s.flag QU_APCTL.EN = false →
      Completes (.apertureBaseWrite w 2 v) s (fun t => t.get QU_APCTL.BASE = v % 65536) ∧
      Completes (.apertureBaseWrite w 1 v) s (fun t =>
        t.get QU_APCTL.BASE = v % 256 * 256 + s.get QU_APCTL.BASE % 256) ∧
      Completes (.apertureBaseWrite w 0 v) s (fun t =>
        t.get QU_APCTL.BASE = (s.get QU_APCTL.BASE / 256 * 256 + v % 256) % 65536)) ∧
    (s.apertureFits (s.get QU_APCTL.BASE) = true →
      Completes (.apertureEnableWrite w true) s fun t => t.flag QU_APCTL.EN = true) ∧
    Completes (.apertureEnableWrite w false) s fun t => t.flag QU_APCTL.EN = false

/-- What the writes of the tick unit and the ring unit leave alone: every memory, and every register outside
their own blocks, the violation registers and, for a head write, those an event changes. -/
def Obligations.TickAndRingWriteFrames : Prop :=
  ∀ (s : State) (w : Writer),
    let tick (t : State) : Prop := KeepsBlocks [0, 1] s t ∧ KeepsMemory s t ∧ t.rings = s.rings
    let ring (t : State) : Prop := KeepsBlocks [0, 2] s t ∧ KeepsMemory s t ∧ t.tick = s.tick
    (∀ rate, Whenever (.tkRateWrite w rate) s tick) ∧ (∀ n, Whenever (.tkStarveWrite w n) s tick) ∧
      (∀ l, (∀ p ∈ l, p.1 < 16) → Whenever (.tkShareWrite w l) s tick) ∧
      (∀ r n, r < 16 → Whenever (.doorbell w r n) s ring ∧ Whenever (.residentBind w r n) s ring ∧
        Whenever (.residentUnbind w r n) s ring) ∧
      (∀ high map, Whenever (.cqMapWrite w high map) s ring) ∧ Whenever (.ring15Give w) s ring ∧
      Whenever (.ring15Return w) s ring ∧ (∀ bits, Whenever (.evpendClear w bits) s ring) ∧
      (∀ part v, Whenever (.apertureBaseWrite w part v) s ring) ∧
      (∀ en, Whenever (.apertureEnableWrite w en) s ring) ∧
      (∀ m head, m < 4 → Whenever (.cqHeadWrite w m head) s fun t => KeepsBlocks [0, 2, 0xA] s t ∧ KeepsMemory s t)

/-- R7, R9, R10, R114: a W1C write of TK_STATUS clears what it names; a write of a read-only register is
ignored and counted; the violation registers clear; a program no ring is bound to leaves the store.
Model's choices it rests on: assumption log 14. -/
def Obligations.SystemWriteResults : Prop :=
  ∀ (s : State) (w : Writer),
    (s.coreUp = true → Completes (.registerWrite .host 0x101C 6) s fun t =>
      t.flag TK_STATUS.OVERRUN = false ∧ t.flag TK_STATUS.STEPPED = false) ∧
    (∀ v : Word, s.get SY_VIOLATIONS.COUNT < 2 ^ 24 - 1 → Completes (.registerWrite .host 0x1004 v) s fun t =>
      t.get TK_CYCLES.CYCLES = s.get TK_CYCLES.CYCLES ∧ t.get SY_VIOLATIONS.COUNT = s.get SY_VIOLATIONS.COUNT + 1 ∧
        t.get SY_LASTVIOL.LAST = 1 * 2 ^ 22 + 1 * 2 ^ 21 + 0x1004) ∧
    (w = .host ∨ w = .sideBand → Completes (.violationClear w) s fun t =>
      t.get SY_VIOLATIONS.COUNT = 0 ∧ t.get SY_LASTVIOL.LAST = 0) ∧
    (∀ k < 32, s.coreUp = true → s.flag (SY_PG_A.VALID k) = true → s.flag (SY_PG_A.BOUND k) = false →
      Completes (.programFree .host k) s fun t =>
        t.flag (SY_PG_A.VALID k) = false ∧
          t.get SY_PGSPACE.FREE = (s.get SY_PGSPACE.FREE + s.get (SY_PG_B.LEN k)) % 2 ^ 15 ∧
          ∀ a, s.get (SY_PG_A.ADDR k) ≤ a → a < s.get (SY_PG_A.ADDR k) + s.get (SY_PG_B.LEN k) →
            (sparseFind a t.store).getD 0 = 0)

/-! ## The host memory path (R118 to R149) -/

/-- R119, R120, R123, R132: a WRITE of an open bank of the DRAM that the host owns stores exactly its enabled bytes,
all of them on a module of x4 devices, at the burst's address; every other byte of memory reads as before. R132:
a READ of an open bank returns the bytes of memory at the burst's address and changes no memory and no register;
what the device absorbs reads as zeros and is counted; an absorbed WRITE, in DEVICE with BLOCK, in LENT, in
HELD, or within 4 µs of a reclaiming SRX (R141), stores nothing and is counted.
Model's choices it rests on: assumption log 16, 17. -/
def Obligations.HostAccessResults : Prop :=
  (∀ (s : State) (rank bank col first beats mask : Nat) (data check : List Nat),
     s.coreUp = true → s.own = 0 → s.hp.deafUntil ≤ s.clock → s.crcEnabled rank = false →
     data.length = 8 * burstBeats beats →
     ∀ row, sparseFind (bankKey rank bank) s.hp.rows = some row →
     let line := s.lineAddress rank row bank col
     let base := line + 8 * burstFirst first beats
     s.inAperture line = false → line < s.dramBytes →
     Completes (.hostWrite rank bank col first beats data mask check) s fun t =>
       ∀ a, t.hp.dram.byte a =
         if base ≤ a ∧ a < base + data.length ∧ (s.get HP_CONFIG.WIDTH = 1 ∨ bitOf mask (a - base) = true) then data.getD (a - base) 0 % 256
         else s.hp.dram.byte a) ∧
  (∀ (s : State) (rank bank col first beats mask : Nat) (data check : List Nat), s.coreUp = true →
     let row := sparseFind (bankKey rank bank) s.hp.rows
     let absorbed (t : State) : Prop :=
       t.hp.dram = s.hp.dram ∧ t.slots = s.slots ∧
         t.get HP_ABSORBED.COUNT = (s.get HP_ABSORBED.COUNT + 1) % 2 ^ HP_ABSORBED.COUNT.width
     let line := s.lineAddress rank (row.getD 0) bank col
     let n := 8 * burstBeats beats
     (s.own = 0 → s.hp.deafUntil ≤ s.clock → row.isSome = true →
       s.inAperture (line + 8 * burstFirst first beats) = false →
       line + 8 * burstFirst first beats < s.dramBytes →
       Completes (.hostRead rank bank col first beats) s fun t =>
         t.hp.answer = s.hp.dram.read (line + 8 * burstFirst first beats) n ∧
           { t with hp := s.hp } = s ∧ t.hp.dram = s.hp.dram) ∧
     (s.own = 1 → s.flag HP_OWN.BLOCK = true → s.hp.deafUntil ≤ s.clock →
       Completes (.hostRead rank bank col first beats) s (fun t =>
         t.hp.answer = List.replicate n 0 ∧ absorbed t) ∧
       Completes (.hostWrite rank bank col first beats data mask check) s absorbed) ∧
     (s.own = 2 ∨ s.own = 3 ∨ s.clock < s.hp.deafUntil →
       Completes (.hostRead rank bank col first beats) s absorbed ∧
       Completes (.hostWrite rank bank col first beats data mask check) s absorbed))

/-- R120, R121, R124, R133, R138, R139, R141: what the host's other commands record: the open row, a mode register
value of a rank or of one device, a control or buffer word in its function space, where F7RC0x and F7RC2x place and
close the aperture and F7RC3x to F7RCFx have no effect, a rank's self-refresh, the training's end, one of the
seven data rates; REF and ZQ change nothing; with the last rank a waiting LEND opens its window and the device takes
the DRAM; an SRX in a window ends it.
Model's choices it rests on: assumption log 96. -/
def Obligations.HostCommandResults : Prop :=
  ∀ (s : State) (rank : Nat), rank < 4 → s.coreUp = true →
    (∀ b row, b < 16 → Completes (.hostActPre rank (some b) (some row)) s fun t =>
      sparseFind (bankKey rank b) t.hp.rows = some row) ∧
    (∀ b, b < 16 → Completes (.hostActPre rank none none) s fun t =>
      sparseFind (bankKey rank b) t.hp.rows = none) ∧
    (∀ mr value, mr ≠ 7 → Completes (.hostMrs rank mr value none) s fun t =>
      sparseFind (rank * 8 + mr) t.hp.modes = some value) ∧
    (∀ mr value d, mr ≠ 7 → Completes (.hostMrs rank mr value (some d)) s fun t =>
      sparseFind ((rank * 8 + mr) * 32 + d) t.hp.deviceModes = some value ∧ t.hp.modes = s.hp.modes) ∧
    (∀ value device, s.hp.space ≠ 7 ∨ value % 8192 / 4096 = 1 → Completes (.hostMrs rank 7 value device) s fun t =>
      sparseFind (wordKey s.hp.space value) t.hp.words = some value ∧ t.hp.modes = s.hp.modes ∧
        t.hp.space = if value % 8192 / 256 = 0x17 then value % 8 else s.hp.space) ∧
    (∀ value device, s.hp.space = 7 → value % 8192 / 4096 = 0 →
      (3 ≤ value / 256 % 16 → Completes (.hostMrs rank 7 value device) s fun t => t = s) ∧
      (value / 256 % 16 = 2 → value % 2 = 0 → Completes (.hostMrs rank 7 value device) s fun t =>
        t.flag QU_APCTL.EN = false) ∧
      (value / 256 % 16 = 0 → s.flag QU_APCTL.EN = false → Completes (.hostMrs rank 7 value device) s fun t =>
        t.get QU_APCTL.BASE = (s.get QU_APCTL.BASE / 256 * 256 + value % 256) % 65536)) ∧
    Completes .hostRefreshOrZq s (fun t => t = s) ∧
    Completes .hostTrainingEnd s (fun t => t.flag HP_STATUS.HTRAIN = true) ∧
    (s.own = 0 → s.hp.deafUntil ≤ s.clock → s.hp.lend = none → s.pw.pstate = [] →
      Completes (.hostSelfRefreshEntry rank) s fun t =>
      bitOf t.hp.selfRefresh rank = true) ∧
    (∀ ref dur wait, s.own = 0 → s.hp.deafUntil ≤ s.clock → s.hp.lend = some ⟨ref, 1, dur, wait, none⟩ →
      (∀ r < s.get HP_CONFIG.RANKS, r ≠ rank → bitOf s.hp.selfRefresh r = true) →
      Completes (.hostSelfRefreshEntry rank) s fun t =>
        t.own = 2 ∧ t.hp.lend = some ⟨ref, 1, dur, wait, some s.clock⟩) ∧
    (∀ units, s.own = 0 → s.hp.deafUntil ≤ s.clock → s.lendPurpose = 0 → Completes (.hostSrx rank units) s fun t =>
      bitOf t.hp.selfRefresh rank = false) ∧
    (∀ units ref dur wait from_, s.hp.lend = some ⟨ref, 1, dur, wait, some from_⟩ → s.hp.resetInLend = false →
      Completes (.hostSrx rank units) s fun t =>
        t.own = 0 ∧ t.hp.lend = none ∧ t.hp.selfRefresh = s.hp.selfRefresh ∧ t.hp.deafUntil = s.clock + 400) ∧
    Completes (.caParityError rank) s (fun t =>
      t.get HP_PARERR.COUNT = (s.get HP_PARERR.COUNT + 1) % 2 ^ HP_PARERR.COUNT.width) ∧
    (∀ mts ∈ [1600, 1866, 2133, 2400, 2666, 2933, 3200], s.own = 1 → Completes (.operatingSpeedWord mts) s fun t =>
      t.get HP_RATE.MTS = mts ∧ (mts ≠ s.get HP_RATE.MTS → t.flag HP_STATUS.DTH = false)) ∧
    (s.own = 0 ∨ s.own = 3 → Completes .resetNAssert s fun t =>
      t.own = 1 ∧ t.get HP_RATE.MTS = 1600 ∧ t.flag HP_STATUS.HTRAIN = false ∧ t.flag QU_APCTL.EN = false)

/-- R122, R127, R131, R134, R136, R144: training passes, CLAIM, RETRAIN, the write-once LOCK, and the scrub, at
whose end every byte of the DRAM reads zero. -/
def Obligations.DeviceDramResults : Prop :=
  ∀ s : State,
    (∀ pass, s.coreUp = true → s.hp.passes.contains pass = true → s.hp.passing = none →
      (pass = 0 ∨ (s.hp.speedWritten = true ∧ s.hp.passes.contains 0 = false ∧ s.hp.railScrub = false ∧
        s.flag HP_STATUS.SCRUBBING = false ∧ s.sv.galliard = none ∧ s.hp.lend = none)) →
      Completes (.dramTrainingPassStart pass) s fun t => t.hp.passing = some pass) ∧
    (s.hp.passing = some 0 → s.organised = true → Completes (.dramTrainingDone none) s fun t =>
      t.flag HP_STATUS.DTI = true ∧ t.hp.passing = none) ∧
    (s.hp.passing = some 1 → s.organised = true → Completes (.dramTrainingDone none) s fun t =>
      t.flag HP_STATUS.DTH = true ∧ t.hp.passing = none) ∧
    (s.coreUp = true → s.claimLegal .host = true → s.flag HP_STATUS.DEFERRED = false →
      s.flag HP_STATUS.SCRUBBING = false → Completes (.claim .host) s fun t =>
        t.own = 0 ∧ t.flag HP_OWN.BLOCK = false ∧ t.hp.selfRefresh = 0) ∧
    (s.coreUp = true → s.claimLegal .host = true → s.flag HP_STATUS.DEFERRED = true →
      Completes (.claim .host) s fun t => t.flag HP_STATUS.SCRUBBING = true ∧ t.hp.claimWaits = true ∧ t.own = s.own) ∧
    (s.coreUp = true → s.retrainLegal = true → Completes (.retrain .host) s fun t =>
      t.flag HP_STATUS.DTI = false ∧ t.flag HP_STATUS.DTH = false ∧ t.hp.passes = [0, 1]) ∧
    (s.coreUp = true → s.flag HP_ECCCTL.LOCK = false → s.get HP_ECCCTL.MODE < 2 →
      Completes (.eccLockWrite .host) s fun t =>
      t.flag HP_ECCCTL.LOCK = true ∧ t.get HP_ECCCTL.MODE = s.get HP_ECCCTL.MODE) ∧
    (s.coreUp = true → s.hp.railScrub = true → s.flag HP_STATUS.DTI = true → s.flag FL_STATUS.READY = true →
      (s.get SV_STATUS.IMAGE = 0 → Completes .scrubStart s fun t => t.flag HP_STATUS.SCRUBBING = true) ∧
      (s.get SV_STATUS.IMAGE ≠ 0 → Completes .scrubStart s fun t => t.flag HP_STATUS.DEFERRED = true)) ∧
    (∀ work, s.flag HP_STATUS.SCRUBBING = true → Completes (.scrubEnd work) s fun t =>
      t.flag HP_STATUS.SCRUBBING = false ∧ ∀ a < s.dramBytes, t.hp.dram.byte a = 0)

/-- R138, R140, R142: LEND waits for self-refresh with its purpose, MAXDUR and the end of its WAIT; SCRUB waits for
a window; the wait's end, the purpose's end and MAXDUR close the window, and the host has the DRAM again. -/
def Obligations.LendResults : Prop :=
  ∀ (s : State) (op : Op), op.wf = true → RingOpen s op.ring → op.src = 0 →
    let ref (n : Nat) := s.opRef op.ring n
    (op.ext.length = 1 → op.word 1 < 2 ^ 16 → 1 ≤ op.word 1 → 1 ≤ op.imm9 →
      s.powerIn [active, quiet, maint] = true → s.own = 0 → s.hp.lend = none → s.flag HP_STATUS.DTH = true →
      s.pw.pstate = [] → ¬ (op.ring = 15 ∧ s.sideBandOwns15 = true) →
      let until_ := s.clock + 1000000 * op.imm9
      Completes (.lendSnapshot op) s (fun t => t.hp.lend = some ⟨ref 0x1A, 1, op.word 1, until_, none⟩) ∧
      Completes (.lendScrub op) s (fun t => t.hp.lend = some ⟨ref 0x1A, 2, op.word 1, until_, none⟩) ∧
      Completes (.lendRetrain op) s (fun t => t.hp.lend = some ⟨ref 0x1A, 3, op.word 1, until_, none⟩)) ∧
    (op.ext.length = 2 → op.dst = 0 → op.imm9 = 0 → op.word 1 < 2 ^ 20 → op.word 2 < 2 ^ 21 →
      s.powerIn [standby, active, quiet, maint] = true → 1 ≤ op.word 2 → op.word 2 ≤ 1048576 →
      s.unitsFit (op.word 1) (op.word 2) = true → s.meetsAperture (op.word 1) (op.word 2) = false →
      s.meetsRegion s.regionKept (op.word 1) (op.word 2) = false → s.hp.scrubs.length < 8 →
      Completes (.scrub op) s fun t => t.hp.scrubs = s.hp.scrubs ++ [⟨ref 0x1E, op.word 1, op.word 2, 0⟩]) ∧
    (∀ l, s.hp.lend = some l → l.opened = none → s.due l.waitEnd = true → Completes .lendWaitTimeout s fun t =>
      t.hp.lend = none ∧ Done l.ref 0x4C 0 s t) ∧
    (∀ l at_, s.hp.lend = some l → l.opened = some at_ → l.purpose = 1 → s.hp.resetInLend = false →
      (∀ work, Completes (.lendPurposeDone work) s fun t => t.hp.lend = none ∧ t.own = 0) ∧
      ∀ units, s.due (at_ + 100000 * l.maxdur) = true → Completes (.lendMaxdurExpiry units) s fun t => t.hp.lend = none ∧ t.own = 0)

/-- What the host path's commands leave alone: every memory, and every register outside the host path's own block,
the violation and event registers, QU_APCTL and the fault log's. What the fault line and a withdrawal that no
RAIL ON waits for leave alone. What the shadow unit's time-driven work leaves alone. -/
def Obligations.HostAndPowerFrames : Prop :=
  (∀ (s : State) (w : Writer) (rank : Nat),
     let same (t : State) : Prop := KeepsBlocks [0, 2, 3, 8, 0xA] s t ∧ KeepsMemory s t
     (∀ b row, Whenever (.hostActPre rank b row) s same) ∧
       (∀ mr v d, Whenever (.hostMrs rank mr v d) s same) ∧ Whenever .hostRefreshOrZq s same ∧
       Whenever .hostTrainingEnd s same ∧ Whenever (.caParityError rank) s same ∧
       (∀ mts, Whenever (.operatingSpeedWord mts) s same) ∧ Whenever .resetNAssert s same ∧
       (∀ p, Whenever (.dramTrainingPassStart p) s same) ∧ (∀ f, Whenever (.dramTrainingDone f) s same) ∧
       Whenever (.claim w) s same ∧ Whenever (.retrain w) s same ∧ Whenever (.eccLockWrite w) s same) ∧
  (∀ s : State,
     let same (t : State) : Prop := KeepsBlocks [0, 2, 7, 0xA] s t ∧ KeepsMemory s t ∧ t.sv = s.sv ∧ t.fl = s.fl
     Whenever .faultLineLow s same ∧ Whenever .faultLineRelease s same ∧
       (s.pw.railOns = [] → Whenever .faultWithdrawal s same)) ∧
  (∀ s : State,
     let same (t : State) : Prop :=
       KeepsBlocks [0, 2, 4, 6, 0xA] s t ∧ KeepsMemory s t ∧ t.hp = s.hp ∧ t.pw = s.pw ∧ t.bt = s.bt ∧ t.sv = s.sv
     Whenever .journalPageTimeout s same ∧ (∀ work, Whenever (.journalPageWritten work) s same) ∧
       Whenever .foldAutoStart s same ∧
       Whenever .shadowLoopUpdate s same ∧ Whenever .holdupAccounting s same)

/-! ## Rails and power states (R237 to R261) -/

/-- R251 to R256: a legal PSTATE to the present state completes with it; one to another state of the running set
enters it at once, but for EN11 still owed in STANDBY, which it starts and waits for; STANDBY waits for the host's
self-refresh; DORMANT stops every rail. Model's choices it rests on: assumption log 59, 60, 100. -/
def Obligations.PstateResults : Prop :=
  ∀ (s : State) (op : Op), op.wf = true → RingOpen s op.ring → op.ext = [] → op.src = 0 →
    let waits (target limit : Nat) (t : State) : Prop :=
      t.pw.pstate = s.pw.pstate ++ [⟨s.opRef op.ring 0x14, target, limit⟩] ∧ t.power = s.power ∧
        (target = standby ∨ bitOf t.pw.seq 11 = true)
    (s.pstateLegal active = true →
      (s.power = active → Completes (.pstateActive op) s (Posted op.ring 0x14 0x01 active s)) ∧
      (s.power ≠ active → s.power ≠ standby ∨ s.auxOwed = false →
        Completes (.pstateActive op) s fun t => t.power = active) ∧
      (s.power ≠ active → s.power = standby → s.auxOwed = true →
        Completes (.pstateActive op) s (waits active 0))) ∧
    (s.pstateLegal quiet = true →
      (s.power = quiet → Completes (.pstateQuiet op) s (Posted op.ring 0x14 0x01 quiet s)) ∧
      (s.power ≠ quiet → s.power ≠ standby ∨ s.auxOwed = false →
        Completes (.pstateQuiet op) s fun t => t.power = quiet) ∧
      (s.power ≠ quiet → s.power = standby → s.auxOwed = true →
        Completes (.pstateQuiet op) s (waits quiet 0))) ∧
    (s.pstateLegal maint = true →
      (s.power = maint → Completes (.pstateMaint op) s (Posted op.ring 0x14 0x01 maint s)) ∧
      (s.power ≠ maint → s.power ≠ standby ∨ s.auxOwed = false →
        Completes (.pstateMaint op) s fun t => t.power = maint) ∧
      (s.power ≠ maint → s.power = standby → s.auxOwed = true →
        Completes (.pstateMaint op) s (waits maint 0))) ∧
    (s.pstateLegal standby = true →
      (s.power = standby → Completes (.pstateStandby op) s (Posted op.ring 0x14 0x01 standby s)) ∧
      (s.power ≠ standby → s.own ≠ 0 ∨ s.allRefreshing = true →
        Completes (.pstateStandby op) s fun t => t.power = standby) ∧
      (s.power ≠ standby → s.own = 0 → s.allRefreshing = false →
        Completes (.pstateStandby op) s (waits standby (s.clock + 100000 * op.imm9)))) ∧
    (s.pstateLegal dormant = true → Completes (.pstateDormant op) s fun t =>
      t.pw.stop.isSome = true ∨ t.power = dormant)

/-- R238, R242, R250, R257, R258: RAIL STATUS reports; RAIL ON and OFF switch EN11 alone; MARGIN sets its step and
waits; a settled step, its timeout and the end of PSTATE STANDBY's wait complete what waits.
Model's choices it rests on: assumption log 60, 61, 95, 100. -/
def Obligations.RailInstructionResults : Prop :=
  ∀ (s : State) (op : Op), op.wf = true → RingOpen s op.ring → op.ext = [] → op.src = 0 →
    (op.imm9 < 12 → Completes (.railStatus op) s (Posted op.ring 0x15 0x01 (s.railStatus op.imm9) s)) ∧
    (op.imm9 = 11 → s.powerIn [standby, active, quiet, maint] = true → s.pw.stop = none → s.flag PW_STATUS.SEQ = false →
      (s.railState 11 = railGood → Completes (.railOn op) s fun t =>
        Posted op.ring 0x15 0x01 0 s t ∧ t.pw.aux = true) ∧
      (s.railState 11 ≠ railGood → s.power ≠ standby ∨ s.flag PW_CTL.AUXSTBY = true → Completes (.railOn op) s fun t =>
        t.pw.aux = true ∧ bitOf t.pw.seq 11 = true ∧ t.pw.railOns = s.pw.railOns ++ [s.opRef op.ring 0x15]) ∧
      (s.railOn 11 = true → Completes (.railOff op) s fun t =>
        t.railState 11 = railStopping ∧ t.railOn 11 = false ∧ t.pw.aux = false) ∧
      (s.railOn 11 = false → s.railState 11 = railOff → Completes (.railOff op) s fun t =>
        Posted op.ring 0x15 0x01 0 s t ∧ t.pw.aux = false) ∧
      (s.railOn 11 = false → s.railState 11 = railStuck → Completes (.railOff op) s fun t =>
        Posted op.ring 0x15 0x02 1 s t ∧ t.pw.aux = false)) ∧
    (op.dst < 4 → op.imm9 ≤ 4 → s.marginLegal op.dst = true → s.get (PW_MG.RAIL op.dst) ≠ 15 →
      Completes (.margin op) s fun t =>
        t.get (PW_MG.STEP op.dst) = op.imm9 ∧ t.pw.margins = s.pw.margins ++ [⟨op.dst, s.opRef op.ring 0x16, s.pw.evals⟩]) ∧
    (∀ m < 4, 10 * (s.rail (s.get (PW_MG.RAIL m))).settle ≤ (s.rail (s.get (PW_MG.RAIL m))).inFor + 1 →
      Completes (.marginSettled m) s fun t => (∀ w ∈ t.pw.margins, w.channel ≠ m) ∧
        ∀ ref at_, s.pw.margins = [⟨m, ref, at_⟩] → Done ref 0x01 (s.railResult (s.get (PW_MG.RAIL m))) s t) ∧
    (∀ m < 4, (∃ w ∈ s.pw.margins, w.channel = m ∧ w.issued + 1000 ≤ s.pw.evals + 1) →
      Completes (.marginTimeout m) s fun t =>
        t.get (PW_MG.STEP m) = 0 ∧ (∀ w ∈ t.pw.margins, w.channel ≠ m) ∧
          ∀ ref at_, s.pw.margins = [⟨m, ref, at_⟩] → Done ref 0x31 (s.railResult (s.get (PW_MG.RAIL m))) s t) ∧
    (∀ ref limit, s.pw.pstate = [⟨ref, standby, limit⟩] → s.due limit = true → Completes .standbyWaitTimeout s fun t =>
      t.pw.pstate = [] ∧ Done ref 0x32 s.power s t)

/-- R240 to R245: an evaluation counts itself and shows the rails in their windows; it asserts the enable of a waiting
rail whose dependencies have settled and counts a starting rail in its window as good; a rail that misses its window
stops every rail, or EN11 alone; a rail falls below its off-threshold or is stuck, and the stop goes on to its next
rail.
Model's choices it rests on: assumption log 60, 68, 95. -/
def Obligations.RailSequenceResults : Prop :=
  ∀ (s : State) (k mask : Nat), k < 12 →
    (s.power ≠ 0 → s.pw.stop = none → s.sv.pavane = none → s.pw.seq = 0 →
      (s.rail 8).target = false → (s.rail 9).target = false → s.railOn 8 = false → s.railOn 9 = false →
      (∀ j < 12, s.railState j ≠ railWaiting ∧ s.railState j ≠ railStarting) →
      Completes (.sequencerEvaluation mask) s fun t =>
        t.get PW_GOOD.RAIL = mask % 2 ^ 12 ∧ t.pw.evals = s.pw.evals + 1 ∧ t.power = s.power ∧
          ∀ j < 12, t.railState j = s.railState j ∧ t.railOn j = s.railOn j) ∧
    (∀ st j, s.power ≠ 0 → s.pw.stop = some st → st.rail = some j →
      Completes (.sequencerEvaluation mask) s fun t =>
        t.get PW_GOOD.RAIL = mask % 2 ^ 12 ∧ t.pw.stop = some st ∧ ∀ i < 12, t.railOn i = s.railOn i) ∧
    (k ≠ 8 → k ≠ 9 → s.power ≠ 0 → s.pw.stop = none → s.sv.pavane = none → s.pw.seq = 2 ^ k →
      s.railState k = railWaiting → 0 < s.get (PW_RAIL_B.TSTART k) → bitOf mask k = false →
      (∀ j < 12, s.maskBit (PW_RAIL_A.DEP k) j = true → j ≠ k ∧ s.settled j = true) →
      (s.rail 8).target = false → (s.rail 9).target = false → s.railOn 8 = false → s.railOn 9 = false →
      (∀ j < 12, j ≠ k → s.railState j ≠ railWaiting ∧ s.railState j ≠ railStarting) →
      Completes (.sequencerEvaluation mask) s fun t =>
        t.railOn k = true ∧ t.railState k = railStarting ∧ t.get PW_GOOD.RAIL = mask % 2 ^ 12) ∧
    (k ≠ 0 → k ≠ 8 → k ≠ 9 → s.power ≠ 0 → s.pw.stop = none → s.sv.pavane = none → s.pw.seq = 2 ^ k →
      s.railState k = railStarting → bitOf mask k = true → 0 < (s.rail k).settle →
      (s.rail 8).target = false → (s.rail 9).target = false → s.railOn 8 = false → s.railOn 9 = false →
      (∀ j < 12, j ≠ k → s.railState j ≠ railWaiting ∧ s.railState j ≠ railStarting) →
      Completes (.sequencerEvaluation mask) s fun t => t.railState k = railGood) ∧
    (s.pw.stop = none → s.railState k = railStarting → (s.rail k).t0 + 100 * (s.rail k).tstart ≤ s.pw.evals + 1 →
      (k = 11 → s.flag (PW_RAIL_A.ISOLATE 11) = false) → Completes (.startTimeout k) s fun t =>
        t.pw.seq = 0 ∧ (t.pw.stop.isSome = true ∨ t.power = latched)) ∧
    (s.pw.stop = none → s.railState 11 = railStarting → (s.rail 11).t0 + 100 * (s.rail 11).tstart ≤ s.pw.evals + 1 →
      s.flag (PW_RAIL_A.ISOLATE 11) = true → Completes (.startTimeout 11) s fun t =>
        t.railState 11 = railStopping ∧ t.railOn 11 = false ∧ t.pw.isolated = true ∧ t.pw.stop = none) ∧
    (∀ reading, s.railState k = railStopping → (∀ st, s.pw.stop = some st → st.rail ≠ some k) →
      (Completes (.railOffReached k reading) s fun t =>
        t.railState k = (if k = 11 ∧ s.pw.isolated = true then railIsolated else railOff) ∧
          t.maskBit PW_GOOD.RAIL k = false) ∧
      ((s.rail k).offAt + 100 * (s.rail k).offto ≤ s.pw.evals + 1 → Completes (.railStuck k reading) s fun t =>
        t.railState k = railStuck ∧ t.maskBit PW_STUCK.RAIL k = true ∧ (t.rail k).dis = true)) ∧
    (∀ reading j rest goal, j < 12 → j ≠ k → s.pw.stop = some ⟨j :: rest, some k, [], goal⟩ → goal ≠ .dormant →
      s.railState k = railStopping → Completes (.railOffReached k reading) s fun t =>
        t.railOn j = false ∧ t.railState j = railStopping ∧ t.pw.stop = some ⟨rest, some j, [], goal⟩)

/-- R243, R244, R245, R248: a rail of the running set that leaves its window, as its monitor's flag says, opens a fault
episode; EN11 alone stops where it is to be isolated, and one of the running start fails it; the episode ends with the
withdrawal, or T_FAULT latches the device when the save does not stand ready; FAULT_n is seen.
Model's choices it rests on: assumption log 76, 95. -/
def Obligations.RailFaultResults : Prop :=
  ∀ (s : State),
    (∀ k high reading ma, k < 12 → k ≠ 8 → k ≠ 9 → s.channelFlag k = 1 + boolNat high →
      s.railState k = railGood → s.runningSet = true → s.pw.stop = none → s.railSettling k = false →
      (s.ofSequence k = false → (k = 11 → s.flag (PW_RAIL_A.ISOLATE 11) = false) → s.get PW_TFAULT.MS ≠ 0 →
        s.sv.pavane = none → Completes (.railFault k high reading ma) s fun t =>
          t.flag PW_STATUS.FAULTEP = true ∧ t.railState k = railFaulty ∧ bitOf t.pw.faulted k = true ∧
            t.get PW_FAULTS.COUNT = (s.get PW_FAULTS.COUNT + 1) % 2 ^ PW_FAULTS.COUNT.width) ∧
      (s.ofSequence k = false → k = 11 → s.flag (PW_RAIL_A.ISOLATE 11) = true →
        Completes (.railFault k high reading ma) s fun t =>
          t.railState 11 = railStopping ∧ t.railOn 11 = false ∧ t.pw.isolated = true ∧
            t.flag PW_STATUS.FAULTEP = s.flag PW_STATUS.FAULTEP) ∧
      (s.ofSequence k = true → (k = 11 → s.flag (PW_RAIL_A.ISOLATE 11) = false) →
        Completes (.railFault k high reading ma) s fun t =>
          t.pw.seq = 0 ∧ (t.pw.stop.isSome = true ∨ t.power = latched))) ∧
    (s.flag PW_STATUS.FAULTEP = true → s.pw.stop = none → s.withdrawn = true →
      Completes .faultWithdrawal s fun t => t.flag PW_STATUS.FAULTEP = false ∧ t.pw.faulted = 0 ∧
        ∀ k < 12, bitOf s.pw.faulted k = true → s.railState k = railFaulty → t.railState k = railGood) ∧
    (s.flag PW_STATUS.FAULTEP = true → s.runningSet = true → s.sv.pavane = none → s.pw.stop = none →
      s.due (s.pw.faultFrom + 100000 * s.get PW_TFAULT.MS) = true →
      s.flag SV_STATUS.ARMED = false ∨ s.pw.faulted &&& saveRails ≠ 0 → Completes .tFaultExpiry s fun t =>
        t.pw.stop.isSome = true ∨ t.power = latched) ∧
    (s.pw.lineLow = false → Completes .faultLineLow s fun t =>
      t.pw.lineLow = true ∧ t.flag PW_STATUS.FLINE = true ∧
        (t.flag PW_STATUS.FAULTOUT = false → t.pw.lineSeen = true)) ∧
    (s.pw.lineLow = true → Completes .faultLineRelease s fun t =>
      t.pw.lineLow = false ∧ t.flag PW_STATUS.FLINE = t.flag PW_STATUS.FAULTOUT ∧
        (t.flag PW_STATUS.FAULTOUT = false → t.pw.lineSeen = false))

/-- R246, R247, R252, R307, R313, R641: UNLATCH clears the latch record and wakes; WAKE and a qualified VIN start the
running set; exhaustion without VIN goes to OFF, whatever stop sequence runs; the TCXO's period in SAVED ends.
Model's choices it rests on: assumption log 67, 71, 95. -/
def Obligations.WakeResults : Prop :=
  ∀ (s : State) (r : PackReading),
    (∀ w, w = .host ∨ w = .sideBand → s.power = latched ∨ (s.power = saved ∧ s.flag PW_STATUS.HOLDWAKE = true) →
      s.flag BT_STATUS.VINOK = true → s.pw.stop = none →
      s.pw.wake = false → Completes (.unlatch w) s fun t =>
        t.get PW_LATCH.CAUSE = 0 ∧ t.flag PW_STATUS.LATCHED = false ∧ t.flag PW_STATUS.HOLDWAKE = false ∧
          t.pw.wake = true ∧ bitOf t.pw.seq 0 = true) ∧
    (s.wakeable = true → s.power ≠ latched → Completes (.wake .sideBand) s fun t =>
      t.pw.wake = true ∧ bitOf t.pw.seq 0 = true) ∧
    (s.power = latched → Completes (.wake .sideBand) s (· = s.violate (writerViolation .sideBand 0x7004))) ∧
    (s.power = dormant → s.pw.stop = none → s.pw.wake = false → s.channelFlag 12 ≠ 1 →
      s.due (s.flagSince 12 + 10000000) = true → Completes (.vinQualified r) s fun t =>
      t.pw.wake = true ∧ bitOf t.pw.seq 0 = true) ∧
    (s.flag BT_STATUS.VINOK = false → s.power ≠ 0 → s.cellExhausted = true → s.sv.pavane = none →
      Completes (.exhaustion r) s fun t => (∃ st, t.pw.stop = some st ∧ st.goal = .off) ∨
        (t.power = 0 ∧ t.pinMode .enables = .low ∧ t.pinMode .crystal = .stopped)) ∧
    (s.power = saved → s.railOn 10 = true → s.pw.wake = false → s.running = true →
      s.due (s.tm.savedFrom + s.get TM_TCXOMAX.H * 3600 * 100000000) = true → Completes .tcxoPeriodEnd s fun t =>
      t.railOn 10 = false ∧ t.flag TM_STATUS.XTAL = true ∧ t.pinMode .tcxo = .unused)

/-! ## Window monitors and the fault log (R262 to R284) -/

/-- R264 to R266, R273, R275, R278 to R282: a flag takes the value its node gives it after DGL + 1 samples, with
its sticky bit, and keeps its value before; a scan that falls due takes the means of the conversions of the enabled
inputs, one that overlaps the last is counted as skipped; a legal threshold write takes effect and an illegal one
is refused; the oldest queued cause becomes an entry of the fault log. Model's choices it rests on: assumption log
90, 95. -/
def Obligations.MonitorResults : Prop :=
  ∀ s : State,
    (∀ ch node samples codes, ch < 32 → s.channelMode ch ≠ 0 → 0 < samples →
      let flag := s.judgeNode ch node
      (flag ≠ s.channelFlag ch → s.deglitch ch + 1 ≤ samples → (s.monEvents ch = true → s.oneReading codes = true) →
        Completes (.monitorFlagChange ch node samples codes) s fun t =>
          t.channelFlag ch = flag ∧ (flag = 1 → t.channelBit MN_STKLO0.CH MN_STKLO1.CH ch = true) ∧
            (flag = 2 → t.channelBit MN_STKHI0.CH MN_STKHI1.CH ch = true) ∧
            ∀ j < 32, j ≠ ch → t.channelFlag j = s.channelFlag j) ∧
      (flag = s.channelFlag ch ∨ samples < s.deglitch ch + 1 →
        Completes (.monitorFlagChange ch node samples codes) s fun t =>
          t.rawCondition ch = flag ∧ ∀ j < 32, t.channelFlag j = s.channelFlag j)) ∧
    (∀ codes audit reference short, codes.length = s.scanInputs.length →
      ((audit :: reference :: short :: codes).all s.oneReading) = true →
      let read (t : State) : Prop := ∀ c ∈ s.scanInputs.zip codes, c.1 < 32 →
        t.getS (MN_RAW.RAW c.1) = Int.tdiv (c.2.map (clampInt (-32768) 32767)).sum c.2.length
      (s.scanDue = true → s.mn.scanEnd ≤ s.clock → Completes (.monitorScan codes audit reference short) s read) ∧
      (s.scanDue = true → s.clock < s.mn.scanEnd → Completes (.monitorScan codes audit reference short) s fun t =>
        t.get MN_SCANSKIP.COUNT = (s.get MN_SCANSKIP.COUNT + 1) % 2 ^ 24) ∧
      (s.coreUp = false → s.power = latched → s.due (s.mn.scanAt + 10000000) = true →
        Completes (.monitorScan codes audit reference short) s read)) ∧
    (∀ w n v, w ≠ .sideBand → hostChannel n = true → sparseFind n s.mn.portForce = none →
      let lo := (MN_CH_B.LO n).of v
      let hi := (MN_CH_B.HI n).of v
      (lo < hi → Completes (.monitorConfigWrite w (0x8104 + 0x20 * n) v) s fun t =>
        t.get (MN_CH_B.LO n) = lo ∧ t.get (MN_CH_B.HI n) = hi) ∧
      (hi ≤ lo → Completes (.monitorConfigWrite w (0x8104 + 0x20 * n) v) s fun t =>
        t = s.violate (writerViolation w (0x8104 + 0x20 * n)))) ∧
    (∀ fresh c rest, s.mn.queue = c :: rest → (c.channel.isSome = true → s.oneReading fresh = true) →
      Completes (.faultLogEntryWrite fresh) s fun t =>
        t.mn.queue = rest ∧ t.mn.fseq = (s.mn.fseq + 1) % 2 ^ 24 ∧
          ∃ k f, t.mn.newest = some k ∧ sparseFind k t.mn.slots = some f ∧ f.torn = false ∧
            f.word 0 = c.code * 2 ^ 12 + s.power * 2 ^ 8 ∧ f.word 1 = (s.mn.fseq + 1) % 2 ^ 24 ∧
            f.word 10 = c.w5)

/-! ## Battery, charger and gauge (R285 to R310) -/

/-- R290 to R293, R302: the charger's phases: where a run begins, what ends it, what each end of a phase leads to;
the float loop's output; the cell that bleeds.
Model's choices it rests on: assumption log 43, 95. -/
def Obligations.ChargerResults : Prop :=
  ∀ (s : State) (r : PackReading),
    (s.chargePhase = phaseOff → s.chargeRuns = true → Completes (.chargerRunStart r) s fun t =>
      t.chargePhase = s.runPhase r ∧ t.get BT_VCELL1.MV = r.cell1 % 2 ^ 13) ∧
    (s.chargePhase ≠ phaseOff → s.chargeRuns = false → Completes .chargerRunStop s fun t =>
      t.chargePhase = phaseOff ∧ t.bt.bleed = 0) ∧
    (s.chargeRuns = true → s.chargePhase ∈ [phasePre, phaseCc, phaseCv, phaseFloat] → r.temp < 0 ∨ 450 < r.temp →
      Completes (.chargerTempHold r) s fun t => t.chargePhase = phaseHold ∧ t.bt.bleed = 0) ∧
    (s.chargePhase = phaseHold → 30 ≤ r.temp → r.temp ≤ 420 → s.chargeRuns = true →
      Completes (.chargerTempResume r) s fun t =>
        t.chargePhase = if r.lower < s.get BT_VCUT.MV then phasePre else phaseCc) ∧
    (s.chargeRuns = true → s.chargePhase = phasePre → s.get BT_VCUT.MV ≤ r.lower →
      s.due (s.bt.phaseFrom + 100000000) = true →
      Completes (.prechargeDone r) s fun t => t.chargePhase = phaseCc) ∧
    (s.chargeRuns = true → s.chargePhase = phaseCc → s.get BT_VCHG.MV ≤ r.higher →
      Completes (.constantVoltageReached r) s fun t => t.chargePhase = phaseCv) ∧
    (∀ from_, s.chargeRuns = true → s.chargePhase = phaseCv → s.bt.termFrom = some from_ →
      s.due (from_ + 6000000000) = true → Completes .chargeFull s fun t =>
      t.chargePhase = phaseFloat ∧ t.get BT_QREM.Q = t.get BT_CAP.Q % 2 ^ 24 ∧ t.get BT_QOVER.Q = 0 ∧
        t.flag BT_STATUS.UNCERT = false ∧ t.flag BT_STATUS.CUTOFF = false ∧
        t.get BT_FULLS.COUNT = (s.get BT_FULLS.COUNT + 1) % 2 ^ 24) ∧
    (s.chargeRuns = false → Completes .chargeFull s (· = s)) ∧
    (∀ from_, s.chargeRuns = true → s.chargePhase ∈ [phasePre, phaseCc, phaseCv] → s.bt.timerFrom = some from_ →
      s.due (from_ + (s.get BT_CTIMEOUT.MIN * 6000000000 - s.bt.timer)) = true →
      Completes .chargeFault s fun t => t.chargePhase = phaseFault ∧ t.bt.bleed = 0) ∧
    (s.chargeRuns = true → s.chargePhase = phaseFloat → s.flag BT_CTL.FLOOP = true →
      s.get BT_VFMIN.MV ≤ s.get BT_VFMAX.MV → s.get BT_VFMAX.MV < 2 ^ 12 →
      s.due (s.bt.floatAt + 100000000) = true → Completes .floatLoopUpdate s fun t =>
        (t.get BT_VFNOW.MV : Int) = clampInt (s.get BT_VFMIN.MV) (s.get BT_VFMAX.MV) s.floatDemand) ∧
    (s.flag BT_CTL.BALEN = true → s.chargePhase ∈ [phaseCv, phaseFloat] →
      s.due (s.bt.balanceAt + 100000000) = true → s.get BT_BAL.ON < r.higher - r.lower →
        Completes (.balanceCycle r) s fun t =>
        t.flag BT_STATUS.BALANCING = true ∧ t.bt.bleed = if r.cell2 < r.cell1 then 1 else 2) ∧
    (s.flag BT_CTL.BALEN = false → Completes (.balanceCycle r) s fun t =>
      t.flag BT_STATUS.BALANCING = false ∧ t.bt.bleed = 0)

/-- R287, R288, R294 to R296, R300, R301, R304 to R308: the power path goes to the pack at its
reference edge; removal and re-insertion; a
sample's charge enters the accumulator and the count, which stays between zero and BT_CAP; the gauge's
figures and its cutoff; BT_CAPNOM.
Model's choices it rests on: assumption log 43, 77, 95, 101. -/
def Obligations.GaugeResults : Prop :=
  ∀ (s : State) (r : PackReading),
    (∀ node, s.switchDue = true → s.flag BT_STATUS.PATH = false → Completes (.powerPathSwitchover node) s fun t =>
      t.flag BT_STATUS.VINOK = false ∧
        (s.flag BT_STATUS.PACK_ABSENT = false →
          t.flag BT_STATUS.PATH = true ∧ t.bt.ppVin = false ∧ t.bt.ppBat = s.packWanted) ∧
        (s.flag BT_STATUS.PACK_ABSENT = true → s.vinCritical node = true → t.bt.ppVin = false ∧ t.bt.ppBat = false) ∧
        (s.flag BT_STATUS.PACK_ABSENT = true → s.vinCritical node = false → t.bt = s.bt)) ∧
    (∀ sign, s.removalSign sign = true → s.flag BT_STATUS.PACK_ABSENT = false → Completes (.packRemoved sign) s fun t =>
      t.flag BT_STATUS.PACK_ABSENT = true ∧ t.chargePhase = phaseOff ∧ t.bt.ppBat = false ∧
        t.get BT_REMOVALS.COUNT = (s.get BT_REMOVALS.COUNT + 1) % 2 ^ 24) ∧
    (s.insertable r = true → (∃ from_, s.bt.insertFrom = some from_ ∧ s.due (from_ + 200000000) = true) ∨
        (s.bt.insertFrom = none ∧ s.running = false) → Completes (.packInserted r) s fun t =>
      t.flag BT_STATUS.PACK_ABSENT = false ∧ t.flag BT_STATUS.UNCERT = true ∧
        t.get BT_QREM.Q = t.get BT_VRANGE.VLO * s.get BT_CAP.Q / 1000 % 2 ^ 24) ∧
    (∀ q : ChargeSample, (s.coreUp = true ∧ s.bt.sampleTick ≠ some s.tickCount) ∨
        (s.coreUp = false ∧ (s.power = saved ∨ s.power = latched) ∧ s.due (s.bt.sampledAt + 100000000) = true) →
      s.get BT_CAP.Q < 2 ^ 24 →
      Completes (.coulombSample q) s fun t =>
        let total := s.qacc * 1000 + s.bt.nano + if t.get BT_STATUS.RANGE = 1 then s.coarseCharge q else q.fine
        t.qacc = toSigned 48 (ofSigned 48 (total / 1000)) ∧ t.bt.nano = total % 1000 ∧
          ((t.get BT_QREM.Q * 360000 : Nat) : Int) - t.bt.remFrac =
            clampInt 0 (s.get BT_CAP.Q * 360000 : Nat)
              ((s.get BT_QREM.Q * 360000 : Nat) - s.bt.remFrac + (total / 1000 - s.qacc))) ∧
    ((s.coreUp = true ∧ s.tickCount % 20 = 0 ∧ s.bt.gaugeTick ≠ some s.tickCount) ∨
        (s.coreUp = false ∧ (s.power = saved ∨ s.power = latched) ∧ s.due (s.bt.gaugedAt + 100000000) = true) →
      s.get BT_QREM.Q ≤ s.get BT_CAP.Q → Completes (.gaugeUpdate r) s fun t =>
        t.get BT_SOCCC.PCT = s.socCount ∧
          t.get BT_SOC.PCT = clampNat (t.get BT_VRANGE.VLO) (t.get BT_VRANGE.VHI) s.socCount ∧
          t.get BT_EAVAIL.E = t.eAvail) ∧
    (∀ from_, r.lower < s.get BT_VCUT.MV → s.getS BT_IPACK.MA < -10 → s.get BT_QREM.Q ≠ 0 → s.bt.lowFrom = some from_ →
      s.due (from_ + 100000000) = true → s.get BT_CAPNOM.Q ≤ 100000 →
      Completes (.gaugeCutoff r) s fun t =>
        let cap : Int := s.get BT_CAP.Q
        let nom : Int := s.get BT_CAPNOM.Q
        t.get BT_QREM.Q = 0 ∧ t.flag BT_STATUS.CUTOFF = true ∧
          (t.get BT_CAP.Q : Int) = clampInt (nom / 2) (nom * 11 / 10)
            (clampInt (cap - cap / 10) (cap + cap / 10) (cap - s.get BT_QREM.Q))) ∧
    (∀ w v, w ≠ .sideBand →
      (1000 ≤ v → v ≤ 100000 → Completes (.btCapnomWrite w v) s fun t =>
        t.get BT_CAPNOM.Q = v ∧ t.get BT_CAP.Q = v ∧ t.flag BT_STATUS.UNCERT = true) ∧
      (v < 1000 ∨ 100000 < v → Completes (.btCapnomWrite w v) s fun t =>
        t = s.violate (writerViolation w 0x9050)))

/-- What the charger, the gauge and the monitors leave alone: every register outside their own block and those an
event writes, every memory, and the other units. What the time unit's events leave alone. What the time-driven
events of the card ports, the serial ports and the link leave alone: the DRAM, the program store, and the
registers and state of the power, flash, save and monitor units. What the faceplate's and the side-band port's
events and writes leave alone: every register outside their own block and those an event writes, every memory,
and the other units. -/
def Obligations.UnitEventFrames : Prop :=
  (∀ (s : State) (r : PackReading),
     let same (b : Nat) (t : State) : Prop :=
       KeepsBlocks [0, 2, b, 0xA] s t ∧ KeepsMemory s t ∧ t.sv = s.sv ∧ t.pw = s.pw ∧ t.fl = s.fl ∧ t.queues = s.queues
     (∀ ch node samples codes, Whenever (.monitorFlagChange ch node samples codes) s (same 8)) ∧
     (∀ codes audit reference short, Whenever (.monitorScan codes audit reference short) s (same 8)) ∧
     Whenever (.chargerRunStart r) s (same 9) ∧ Whenever .chargerRunStop s (same 9) ∧
     Whenever (.chargerTempHold r) s (same 9) ∧ Whenever (.chargerTempResume r) s (same 9) ∧
     Whenever (.prechargeDone r) s (same 9) ∧ Whenever (.constantVoltageReached r) s (same 9) ∧
     Whenever .chargeFull s (same 9) ∧ Whenever .chargeFault s (same 9) ∧ Whenever .floatLoopUpdate s (same 9) ∧
     Whenever (.balanceCycle r) s (same 9) ∧ Whenever (.packInserted r) s (same 9) ∧
     (∀ sign, Whenever (.packRemoved sign) s (same 9)) ∧ (∀ q, Whenever (.coulombSample q) s (same 9)) ∧
     Whenever (.gaugeUpdate r) s (same 9) ∧ Whenever (.gaugeCutoff r) s (same 9) ∧
     ∀ w v, Whenever (.btCapnomWrite w v) s (same 9)) ∧
  (∀ (s : State) (w : Writer),
     let same (t : State) : Prop :=
       KeepsBlocks [0, 2, 8, 0xA] s t ∧ KeepsMemory s t ∧ t.sv = s.sv ∧ t.pw = s.pw ∧ t.fl = s.fl ∧ t.hp = s.hp
     (∀ arrival, Whenever (.nmeaSentence arrival) s same) ∧ (∀ mean span, Whenever (.holdoverSample mean span) s same) ∧
       (∀ d, Whenever (.oscFault d) s same) ∧ Whenever .oscOk s same ∧ Whenever .leapApplied s same ∧
       (∀ c, Whenever (.savedTemperatureCheck c) s same) ∧ Whenever (.timeSnapshot w) s same ∧
       (∀ n, Whenever (.logRelease w n) s same) ∧ (∀ b, Whenever (.logPolicyWrite w b) s same) ∧
       Whenever (.holdoverForget w) s same ∧ ∀ p a, Whenever (.leapWrite w p a) s same) ∧
  (∀ s : State,
     let same (t : State) : Prop :=
       t.hp = s.hp ∧ t.store = s.store ∧ t.fl = s.fl ∧ t.sh = s.sh ∧ t.bt = s.bt ∧
         (∀ off, 0x6000 ≤ off → off < 0x8000 → ∀ lo width reset, lo < 32 →
           t.get ⟨off, lo, width, reset⟩ = s.get ⟨off, lo, width, reset⟩)
     (∀ p c, p < 4 → Whenever (.uartCharacterReceived p c) s same) ∧
     (∀ p, p < 4 → Whenever (.uartRxIdleTimeout p) s same ∧ Whenever (.uartSendDone p) s same ∧
       Whenever (.uartSleepEntry p) s same ∧ Whenever (.uartWake p) s same) ∧
     Whenever .ackTimeout s same ∧ Whenever .linkCollision s same ∧ Whenever .lkrecvTimeout s same ∧
     (∀ cls src, Whenever (.lkStranger cls src) s same) ∧ (∀ f, Whenever (.joinReceived f) s same) ∧
     (∀ f, Whenever (.leaveReceived f) s same)) ∧
  (∀ (s : State) (w : Writer),
     let same (b : Nat) (t : State) : Prop :=
       KeepsBlocks [0, 2, b, 0xA] s t ∧ KeepsMemory s t ∧ t.sv = s.sv ∧ t.pw = s.pw ∧ t.fl = s.fl ∧ t.mn = s.mn
     (∀ k current pinv, Whenever (.indicatorMeasurement k current pinv) s (same 0x12) ∧
       Whenever (.provingPulse k current pinv) s (same 0x12) ∧ Whenever (.offStateProbe k pinv) s (same 0x12)) ∧
     (∀ n, Whenever (.keyTouchRelease n) s (same 0x12) ∧ Whenever (.keyAntiTouch n) s (same 0x12) ∧
       Whenever (.keyHeldStuck n) s (same 0x12)) ∧
     (∀ l, Whenever (.baselineUpdate l) s (same 0x12)) ∧ Whenever .feedbackSteadyTimeout s (same 0x12) ∧
     (∀ up, Whenever (.smbusBusEngage up) s (same 0x13)) ∧ (∀ l, Whenever (.smbusPageSelect l) s fun t =>
       l.length = 4 → l.head? = some 0xFF → same 0x13 t) ∧ Whenever .smbusFormError s (same 0x13) ∧
     Whenever .smbusTimeout s (same 0x13) ∧ Whenever (.heartbeatBeat w) s (same 0x13) ∧
     Whenever .heartbeatLapse s (same 0x13) ∧ (∀ en, Whenever (.heartbeatEnableWrite w en) s (same 0x13)) ∧
     Whenever (.stewardTake w) s (same 0x13) ∧ Whenever (.stewardRelease w) s (same 0x13))

/-! ## Regions, the journal, barriers and folding (R150 to R177) -/

/-- R152, R153, R163, R166, R168, R173, R599: REGION defines, retires and reprioritises; PFENCE makes the next
barrier once no earlier reference is still to come, and waits otherwise, DURABLE waits for it, and the 65th waiting
barrier is held; FOLD starts, holds and releases.
Model's choices it rests on: assumption log 12, 13, 104. -/
def Obligations.ShadowInstructionResults : Prop :=
  ∀ (s : State) (op : Op), op.wf = true → RingOpen s op.ring →
    (∀ a, a = regionArgs { op with dst := 1 } → op.ext.length = 2 → op.word 1 < 2 ^ 20 → op.word 2 < 2 ^ 21 →
      s.regionLegal a = true → s.regionRange a = true →
      s.meetsRegion (fun k => s.flag (SH_RG_A.VALID k)) a.start a.count = false →
      s.flag (SH_RG_A.VALID a.num) = false → Completes (.regionDefine op) s fun t =>
        t.flag (SH_RG_A.VALID a.num) = true ∧ t.get (SH_RG_A.KIND a.num) = op.src ∧
          t.regionSpan a.num = (op.word 1 * 65536, op.word 2 * 65536) ∧ t.get (SH_RG_B.PRIO a.num) = op.imm9 / 64 ∧
          Posted op.ring 0x18 (if op.src = 1 ∧ t.dirtyIn a.num ≠ [] then 0x02 else 0x01)
            (min (t.dirtyIn a.num).length 0xFFFFFF) s t) ∧
    (op.ext = [0, 0] → op.src = 0 → s.shadowLegal = true → s.windowOpen = false →
      s.flag (SH_RG_A.VALID (op.imm9 % 64)) = true →
      (op.imm9 < 64 → Completes (.regionRetire op) s fun t =>
        t.flag (SH_RG_A.VALID op.imm9) = false ∧ Posted op.ring 0x18 0x01 0 s t) ∧
      Completes (.regionReprioritise op) s (fun t =>
        t.get (SH_RG_B.PRIO (op.imm9 % 64)) = op.imm9 / 64 ∧ Posted op.ring 0x18 0x01 0 s t)) ∧
    (op.ext = [] → op.dst = 0 → op.src = 0 → s.shadowLegal = true → s.bar < 2 ^ 48 - 1 →
      s.barriersWaiting < 64 → s.sh.waiting = [] → op.imm9 < 2 →
      let ref := s.opRef op.ring 0x19
      let bell := (s.fenceBell op.ring ref.word1).1
      let earlier := (s.add (QU_HEAD.HEAD op.ring) 1).coveredFences.filter (· < bell.place)
      (earlier = [] → bell.dirty = true → Completes (.pfence op) s fun t =>
        t.bar = s.bar + 1 ∧ t.sh.fences = s.sh.fences ∧ Posted op.ring 0x19 0x43 (s.bar + 1) s t) ∧
      (earlier = [] → bell.dirty = false → op.imm9 = 0 → Completes (.pfence op) s fun t =>
        t.bar = s.bar + 1 ∧ Posted op.ring 0x19 0x01 (s.bar + 1) s t) ∧
      (earlier = [] → bell.dirty = false → op.imm9 = 1 → Completes (.pfence op) s fun t =>
        t.bar = s.bar + 1 ∧ t.sh.fences = s.sh.fences ++ [(ref, s.bar + 1)]) ∧
      (earlier ≠ [] → Completes (.pfence op) s fun t =>
        t.bar = s.bar ∧ t.sh.fences = s.sh.fences ∧ t.sh.waiting.map (·.ref) = [ref])) ∧
    (64 ≤ s.barriersWaiting → Completes (.pfence op) s fun t => t = s) ∧
    (op.ext = [] → op.src = 0 → op.imm9 = 0 → s.shadowLegal = true →
      (s.power ≠ quiet → s.flag SH_STATUS.FOLDING = false → s.flag SH_STATUS.FOLDHELD = false →
        (s.nothingToFold = true → Completes (.foldStart op) s (Posted op.ring 0x1D 0x01 0 s)) ∧
        (s.nothingToFold = false → Completes (.foldStart op) s fun t =>
          t.sh.fold = some ⟨some (s.opRef op.ring 0x1D), s.recBar, s.clock⟩ ∧ t.flag SH_STATUS.FOLDING = true)) ∧
      Completes (.foldHold op) s (fun t => t.flag SH_STATUS.FOLDHELD = true ∧ Posted op.ring 0x1D 0x01 0 s t) ∧
      Completes (.foldRelease op) s (fun t => t.flag SH_STATUS.FOLDHELD = false ∧ Posted op.ring 0x1D 0x01 0 s t))

/-- R158, R160, R165 to R168, R220: an open page closes after its time; a due page enters the journal with the next JSEQ
and its CRC-32 and moves the recovery barrier; a DURABLE barrier's PFENCE completes; AUTOFOLD starts a fold; a fold
applies the pages up to its cut to the base, or, with a codeword lost or no free stripe, is abandoned and changes
nothing that was written.
Model's choices it rests on: assumption log 37, 38, 95. -/
def Obligations.JournalResults : Prop :=
  ∀ s : State,
    (s.sh.page ≠ [] → s.due (s.sh.pageFrom + 200000) = true → Completes .journalPageTimeout s fun t =>
      t.sh = { s.sh with closed := true } ∧ t.regs = s.regs ∧ t.fl = s.fl) ∧
    (∀ work, s.pageDue = true → s.sv.lifted = true ∨ s.sh.pagesOut < s.pageAllowance → s.jseq < 2 ^ 48 - 1 →
      Completes (.journalPageWritten work) s fun t =>
        t.jseq = s.jseq + 1 ∧
          (∃ p : JPage, t.fl.journal = s.fl.journal ++ [p] ∧ p.jseq = s.jseq + 1 ∧ p.epoch = s.get SH_EPOCH.EPOCH ∧
            p.bar = s.sh.lastBar ∧ p.items = s.sh.page ∧ p.crc = p.checksum) ∧
          (pageBarrier s.sh.page = none → t.recBar = s.recBar) ∧
          ∀ b, b < 2 ^ 48 → pageBarrier s.sh.page = some (b, true) → t.recBar = b) ∧
    Completes .pfenceDurableDone s (fun t => ∀ f ∈ t.sh.fences, s.recBar < f.2) ∧
    (∀ ref n, s.sh.fences = [(ref, n)] → n ≤ s.recBar → Completes .pfenceDurableDone s fun t =>
      t.sh.fences = [] ∧ Done ref 0x01 n s t) ∧
    (s.coreUp = true → s.flag SH_CTL.AUTOFOLD = true → s.foldPaused = false → s.flag SH_STATUS.FOLDING = false →
      s.get SH_FOLDAT.PERMIL ≤ s.get SH_JFILL.PERMIL → s.nothingToFold = false →
      Completes .foldAutoStart s fun t =>
        t.sh.fold = some ⟨none, s.recBar, s.clock⟩ ∧ t.flag SH_STATUS.FOLDING = true) ∧
    (∀ f base work, s.sh.fold = some f → s.fl.base = some base →
      let abandoned (t : State) : Prop :=
        t.sh.fold = none ∧ t.flag SH_STATUS.FOLDING = false ∧ t.fl.base = some base ∧ t.fl.baseCut = s.fl.baseCut ∧
          t.fl.journal = s.fl.journal ∧ ∀ ref, f.ref = some ref → Done ref 0x44 0 s t
      let folded := pagesTo f.cut s.fl.journal
      let met := s.flashWork 2 true work
      (s.foldPaused = false → hasBarrier f.cut s.fl.journal = true →
        let next := met.writeGeneration (s.get SH_BASEGEN.GEN + 1) (applyPages base folded)
        (next.isSome = true → met.foldReads folded = true →
          Completes (.foldCommit work) s fun t =>
            t.fl.base = some (applyPages base folded) ∧ t.fl.baseCut = f.cut ∧
              t.fl.journal = s.fl.journal.drop folded.length ∧ t.sh.fold = none ∧
              t.get SH_BASEGEN.GEN = (s.get SH_BASEGEN.GEN + 1) % 2 ^ 24 ∧
              ∀ ref, f.ref = some ref → Done ref 0x01 (min (folded.length + s.fl.spent.length) 0xFFFFFF) s t) ∧
        (next.isSome = false ∨ met.foldReads folded = false →
          Completes (.foldCommit work) s abandoned)) ∧
      Completes (.foldAbandoned work) s abandoned)

/-- R162, R170 to R172: the shadow rate is the demand held in its envelope; E_req and the margin are shown, and
SHORT and LOW set while the margin lies below zero and below SH_WARN.
Model's choices it rests on: assumption log 98. -/
def Obligations.HoldupResults : Prop :=
  ∀ s : State, s.coreUp = true →
    (s.tickCount % 200 = 0 → s.sh.loopTick ≠ some s.tickCount → s.flag SH_CTL.LOOP = true →
      s.get SH_BWMIN.MBS ≤ s.get SH_BWMAX.MBS →
      s.get SH_BWMAX.MBS < 2 ^ 11 → Completes .shadowLoopUpdate s fun t =>
        t.get SH_BWNOW.MBS = clampNat (s.get SH_BWMIN.MBS) (s.get SH_BWMAX.MBS)
          (min (s.get SH_BWREQ.MBS) (s.get SH_FLASHRATE.MBS)) ∧ t.sh.pagesOut = 0) ∧
    (s.tickCount % 20 = 0 → s.sh.accountTick ≠ some s.tickCount → Completes .holdupAccounting s fun t =>
      t.get SH_EREQ.E = min s.eReq 0xFFFFFF ∧ t.getS SH_MARGIN.E = s.saveMargin ∧
        (s.saveMargin < 0 → t.flag SH_STATUS.SHORT = true) ∧
        (s.saveMargin < s.get SH_WARN.E → t.flag SH_STATUS.LOW = true) ∧
        t.get BT_EAVAIL.E = s.get BT_EAVAIL.E)

/-! ## Save and restore (R178 to R211) -/

/-- R178 to R184, R186, R206, R207: ARM arms the save with its operands and DISARM disarms it; the warning, which VM12's
LOW flag is, starts a pre-save of an armed device, is only told by a disarmed one, and cuts a wake short; its
withdrawal, 2 ms after the flag has cleared, ends it.
Model's choices it rests on: assumption log 69, 73, 95. -/
def Obligations.ArmingResults : Prop :=
  ∀ (s : State) (op : Op), op.wf = true →
    (RingOpen s op.ring → op.ext.length = 1 → armReserved { op with dst := 1 } = true →
      armRange { op with dst := 1 } = true → s.armLegal 1 = true → Completes (.arm op) s fun t =>
        t.flag SV_STATUS.ARMED = true ∧ t.get SV_WARN.WARN = op.word 1 % 2 ^ 11 ∧
          t.get SV_ARMCFG.HYST = bitsOf (op.word 1) 16 4 ∧ t.get SV_ARMCFG.GRACE = op.imm9 ∧
          (s.svState = svDisarmed → t.svState = svArmed) ∧ Posted op.ring 0x17 0x01 t.svStatus s t) ∧
    (RingOpen s op.ring → op.ext = [0] → op.src = 0 → op.imm9 = 0 → s.armLegal 2 = true →
      Completes (.disarm op) s fun t =>
        t.flag SV_STATUS.ARMED = false ∧ (s.svState = svArmed → t.svState = svDisarmed) ∧
          Posted op.ring 0x17 0x01 t.svStatus s t) ∧
    (s.channelFlag 12 = 1 → s.coreUp = true → s.sv.warning = false → s.sv.pavane = none → s.pw.wake = false →
      (s.flag SV_STATUS.ARMED = true → s.get SV_ARMCFG.GRACE ≠ 0 → Completes .warningCondition s fun t =>
        t.sv.warning = true ∧ t.pfw = s.ioUp ∧ t.flag BT_STATUS.VINOK = false ∧ t.sv.preSave = some s.clock ∧
          (s.svState = svArmed → t.svState = svWarning)) ∧
      (s.flag SV_STATUS.ARMED = false → Completes .warningCondition s fun t =>
        t.sv.warning = true ∧ t.pfw = s.ioUp ∧ t.flag BT_STATUS.VINOK = false ∧ t.sv.preSave = s.sv.preSave ∧
          t.svState = s.svState)) ∧
    (s.channelFlag 12 = 1 → s.pw.wake = true → Completes .warningCondition s fun t =>
      t.pw.wake = false ∧ t.pw.seq = 0 ∧ t.flag BT_STATUS.VINOK = false) ∧
    (s.sv.warning = true → s.sv.pavane = none → s.channelFlag 12 ≠ 1 →
      s.graceBy (s.flagSince 12 + 200000) = false → s.due (s.flagSince 12 + 200000) = true →
      Completes .warningWithdrawal s fun t =>
      t.sv.warning = false ∧ t.pfw = false ∧ t.sv.preSave = none ∧ (s.svState = svWarning → t.svState = svArmed) ∧
        t.get SV_WITHDRAWALS.COUNT = (s.get SV_WITHDRAWALS.COUNT + 1) % 2 ^ 24)

/-- R182, R187 to R192, R195: each start cause starts Pavane with its number; the flush ends in the decision of
R189; the save set is written with its two copies of the sealed commit record, or the save is abandoned where too few
stripes are free; an abandon writes none; the shutdown leaves SAVED, or OFF without a pack or energy.
Model's choices it rests on: assumption log 44, 63, 77, 95, 100. -/
def Obligations.PavaneResults : Prop :=
  ∀ s : State,
    let starts (cause time : Nat) (t : State) : Prop := ∃ p, t.sv.pavane = some p ∧ p.cause = cause ∧ p.time = time
    (s.savesItself = true → s.channelFlag 13 = 1 → Completes .criticalCondition s (starts 1 s.now)) ∧
    (s.savesItself = true → s.svState = svWarning ∨ (s.svState = svRestoring ∧ s.sv.preSave.isSome = true) →
      Completes .saveNLow s (starts 2 s.now)) ∧
    (∀ from_, s.savesItself = true → s.sv.preSave = some from_ →
      let ends := from_ + 100000 * s.get SV_ARMCFG.GRACE
      s.due ends = true → Completes .graceExpiry s (starts 3 (s.passTo ends).now)) ∧
    (s.savesItself = true → s.channelFlag 12 = 1 → s.sv.warning = false → s.get SV_ARMCFG.GRACE = 0 →
      Completes .warningCondition s (starts 3 s.now)) ∧
    (let ends := s.pw.faultFrom + 100000 * s.get PW_TFAULT.MS
     s.flag PW_STATUS.FAULTEP = true → s.runningSet = true → s.sv.pavane = none → s.pw.stop = none →
      s.due ends = true → s.flag SV_STATUS.ARMED = true → s.pw.faulted &&& saveRails = 0 →
      Completes .tFaultExpiry s (starts 5 (s.passTo ends).now)) ∧
    (∀ op : Op, op.wf = true → RingOpen s op.ring → op.ext = [] → op.dst = 0 → op.src = 0 → op.imm9 = 0 →
      s.powerIn [standby, active, quiet, maint] = true → s.svState ≠ svSaving → s.pw.stop = none →
      Completes (.save op) s (starts 4 s.now)) ∧
    (∀ p work, s.sv.pavane = some p → p.step = .flush →
      (p.packAbsent = false → s.saveRailOut = false → Completes (.pavaneFlushDone work) s fun t =>
        t.sv.pavane = some { p with step := .set, full := decide (t.eReq ≤ t.get BT_EAVAIL.E) } ∧
          t.sv.record.saveState = 1 ∧ t.sv.record.saveSeq = s.sv.record.saveSeq + 1) ∧
      (p.packAbsent = false → s.saveRailOut = true → Completes (.pavaneFlushDone work) s fun t =>
        (∃ full, t.sv.pavane = some { p with step := .down, energy := true, full := full }) ∧
          t.sv.record.saveState = 3 ∧ t.fl.commits = s.fl.commits) ∧
      (p.packAbsent = true → Completes (.pavaneFlushDone work) s fun t =>
        t.sv.pavane = some { p with step := .down } ∧ t.sv.record = s.sv.record)) ∧
    (∀ p work, s.sv.pavane = some p → p.step = .set →
      let set := if p.full then s.saveSet else []
      let met := (s.flashWork 3 false work).dropSave
      let room := (met.takeStripes .save (met.stripesFor (met.saveCodewords set))).isSome
      (room = true → Completes (.saveSetWritten work) s fun t =>
        t.fl.saveIndex = s.saveIndexOf set ∧ t.fl.saveCells = s.hp.dram.pageCells set ∧ t.sv.record.saveState = 2 ∧
          t.sv.pavane = some { p with step := .down } ∧
          ∃ c : Commit, t.fl.commits = [some c, some c] ∧ c.saveSeq = s.sv.record.saveSeq ∧ c.full = p.full ∧
            c.pages = set.length ∧ c.bar = s.bar ∧ c.mac = hmacSha256 s.sealingKey c.body) ∧
      (room = false → Completes (.saveSetWritten work) s fun t =>
        t.sv.pavane = some { p with step := .down, energy := true } ∧ t.fl.commits = s.fl.commits ∧
          t.sv.record.saveState = 3)) ∧
    (∀ p energy mram, s.sv.pavane = some p → p.step = .set → Completes (.pavaneAbandon energy mram) s fun t =>
      t.sv.pavane = some { p with step := .down, energy := energy } ∧ t.fl.commits = s.fl.commits ∧
        (mram = true → t.sv.record.saveState = 3)) ∧
    (∀ p c, s.sv.pavane = some p → s.pw.stop = some ⟨[], none, c, .saved⟩ → Completes .pavaneShutdownDone s fun t =>
      t.sv.pavane = none ∧ t.pw.stop = none ∧
        t.power = if p.packAbsent = true ∨ p.energy = false then 0 else saved)

/-- R197 to R199, R201, R203 to R205, R208: RESTORE begins Galliard with the image of R198; a restored region that
no codeword is lost for holds the image's bytes and zeros; the end shows the kind, the barrier and its status and
leaves RESTORING; a failure ends with 0x47; host windows open and close. Model's choices it rests on: assumption
log 64, 69, 70, 75, 95. -/
def Obligations.RestoreResults : Prop :=
  ∀ s : State,
    (∀ op : Op, op.wf = true → RingOpen s op.ring → op.ext = [] → op.dst = 0 → op.src = 0 → op.imm9 < 2 →
      (∀ r ∈ s.chooseImage.table, r.num < 64) →
      let begun (staged : Bool) (t : State) : Prop :=
        t.power = restoring ∧ t.svState = svRestoring ∧ t.flag SV_STATUS.STAGED = staged ∧
          ∃ g, t.sv.galliard = some g ∧ g.staged = staged ∧ g.kind = s.chooseImage.kind ∧ g.bar = s.chooseImage.bar ∧
            g.image = s.chooseImage.image ∧ g.regions = saveOrder s.chooseImage.table ∧ g.fromState = s.power
      (s.restoreLegal false = true → Completes (.restore op) s (begun false)) ∧
      (s.restoreLegal true = true → Completes (.restoreStaged op) s (begun true))) ∧
    (∀ g r rest work, s.sv.galliard = some g → g.regions = r :: rest → s.flag SV_STATUS.WIN = false →
      sparseWf (fun _ => (0 : Byte)) g.image.cells = true → (s.flashWork 3 true work).unreadable g = [] →
      Completes (.regionRestored work) s fun t =>
        (∃ g', t.sv.galliard = some g' ∧ g'.regions = rest) ∧
          (g.staged = true → r.num < 64 → t.regionReady r.num = true) ∧
          ∀ a, 65536 * r.start ≤ a → a < 65536 * (r.start + r.count) →
            t.hp.dram.byte a = ((sparseFind a g.image.cells).getD 0).toNat) ∧
    (∀ g work, s.sv.galliard = some g → s.power = restoring → g.regions = [] → s.flag SV_STATUS.WIN = false →
      s.sh.fences = [] → s.sh.fold = none → Completes (.galliardEnd work) s fun t =>
        t.sv.galliard = none ∧ t.get SV_STATUS.IMAGE = 0 ∧ t.get SV_RESULT.KIND = g.kind % 4 ∧
          t.bar = g.bar % 2 ^ 48 ∧ t.power = g.fromState % 16 ∧
          Done g.ref (if g.kind = 3 then 0x46 else if g.damaged = [] then 0x01 else 0x02)
            (g.kind * 2 ^ 22 + if g.kind = 3 then 0 else g.bar % 2 ^ 22) s t) ∧
    (∀ g, s.sv.galliard = some g → Completes .galliardStop s fun t =>
      t.sv.galliard = none ∧ t.power = g.fromState % 16 ∧ Done g.ref 0x47 0 s t) ∧
    (∀ g, s.coreUp = true → s.sv.galliard = some g → g.staged = true → g.regions ≠ [] →
      (s.flag SV_STATUS.WIN = false → Completes (.hostwinOpen .host) s fun t =>
        t.flag SV_STATUS.WIN = true ∧ t.get SV_STAGECTL.HOSTWIN = 1) ∧
      (s.flag SV_STATUS.WIN = true → Completes (.hostwinClose .host) s fun t =>
        t.flag SV_STATUS.WIN = false ∧ t.get SV_STAGECTL.HOSTWIN = 0)) ∧
    (s.flag SV_STATUS.WIN = true → s.due (s.sv.winFrom + 100000 * s.get SV_WINMAX.MS) = true →
      Completes .hostwinTimeout s fun t =>
      t.flag SV_STATUS.WIN = false ∧ t.get SV_STAGECTL.HOSTWIN = 0)

/-! ## The flash store (R212 to R236) -/

/-- R216, R218, R224, R228 to R231, R234: FLINFO posts the figure its DST names; the store opens with what the root and
the copies say, or is formatted; a failed block uses a spare or costs a stripe; a patrol pass ends; refresh and wear
levelling move a stripe, or nothing where no stripe is to be moved; life is projected from the measured rate.
Model's choices it rests on: assumption log 64, 66, 95, 99. -/
def Obligations.FlashResults : Prop :=
  ∀ s : State,
    (∀ op : Op, op.wf = true → RingOpen s op.ring → op.ext = [] → op.src = 0 → op.imm9 = 0 →
      Completes (.flinfo op) s fun t =>
        Posted op.ring 0x1F 0x01 (min (t.flashItem op.dst) 0xFFFFFF) s t ∧
          (op.dst ≠ 1 → op.dst ≠ 2 → t.flashItem op.dst = s.flashItem op.dst)) ∧
    (∀ targets bad work, s.coreUp = true → s.flag FL_STATUS.READY = false →
      let p := (s.probe targets).flashWork 3 false work
      let used := (s.lostChannels targets).foldl (fun m l => clearBit m l.1) (s.get FL_GEOM0.CHANNELS) % 2 ^ 4
      let copied (r : Root) : Prop :=
        r.identity = nandIdentity (s.uniqueIds targets) ∧ ∃ c ∈ p.nandCopies, c.seq = r.seq ∨ c.seq = r.seq + 1
      (s.flag FL_STATUS.FORMATTING = false →
        (p.foundRoot = none → Completes (.flashOpen targets bad work) s fun t =>
          t.get FL_CHUSE.CH = used ∧ t.flag FL_STATUS.FORMATTING = true ∧ t.flag FL_STATUS.READY = false) ∧
        ∀ r, p.foundRoot = some r →
          (copied r → Completes (.flashOpen targets bad work) s fun t =>
            t.get FL_CHUSE.CH = used ∧ t.flag FL_STATUS.READY = true ∧ t.get SH_BASEGEN.GEN = r.gen % 2 ^ 24 ∧
              t.get SH_EPOCH.EPOCH = r.epoch % 2 ^ 24 ∧ t.fl.base = s.fl.base ∧
              t.flag FL_STATUS.NOBASE = s.fl.base.isNone) ∧
          (¬ copied r → Completes (.flashOpen targets bad work) s fun t =>
            t.get FL_CHUSE.CH = used ∧ t.flag FL_STATUS.MISMATCH = true ∧ t.flag FL_STATUS.FORMATTING = true ∧
              t.flag FL_STATUS.READY = false)) ∧
      (s.flag FL_STATUS.FORMATTING = true → Completes (.flashOpen targets bad work) s fun t =>
        t.flag FL_STATUS.READY = true ∧ t.flag FL_STATUS.FORMATTING = false ∧ t.flag FL_STATUS.NOBASE = true ∧
          t.fl.base = none ∧ t.fl.bad = bad ∧ t.fl.retired = [] ∧
          t.fl.stripes = (s.setFl { s.fl with bad := bad }).formatStripes ∧
          ∃ r, t.fl.root = some r ∧ r.identity = nandIdentity (s.uniqueIds targets))) ∧
    (∀ plane block cause work, s.coreUp = true → s.flag FL_STATUS.READY = true →
      let fails (t : State) : Prop :=
        t.fl.bad = (plane, block) :: s.fl.bad ∧ t.get FL_GROWN.COUNT = min (s.get FL_GROWN.COUNT + 1) (2 ^ 24 - 1)
      ((s.sparesOf plane).contains block = true → Completes (.blockRetired plane block cause work) s fun t =>
        fails t ∧ t.fl.spares = sparsePut plane ((s.sparesOf plane).filter (· != block)) s.fl.spares ∧
          t.fl.retired = s.fl.retired) ∧
      ((s.sparesOf plane).contains block = false →
        (∀ pos, s.systemAt plane block = some pos →
          (s.sparesOf plane = [] → Completes (.blockRetired plane block cause work) s fun t =>
            fails t ∧ t.fl.spares = s.fl.spares ∧ t.fl.system = s.fl.system ∧ t.fl.retired = s.fl.retired) ∧
          ∀ spare rest, s.sparesOf plane = spare :: rest → Completes (.blockRetired plane block cause work) s fun t =>
            fails t ∧ t.fl.spares = sparsePut plane rest s.fl.spares ∧
              t.fl.system = sparsePut (positionKey plane pos) spare s.fl.system ∧ t.fl.retired = s.fl.retired) ∧
        (s.systemAt plane block = none → s.stripeOfBlock plane block = none → Completes (.blockRetired plane block cause work) s fun t =>
          fails t ∧ t.fl.spares = s.fl.spares ∧ t.fl.retired = s.fl.retired) ∧
        ∀ k, s.systemAt plane block = none → s.stripeOfBlock plane block = some k →
          (∀ spare rest, s.sparesOf plane = spare :: rest → Completes (.blockRetired plane block cause work) s fun t =>
            fails t ∧ t.fl.spares = sparsePut plane rest s.fl.spares ∧
              t.fl.moved = sparsePut (positionKey plane k) spare s.fl.moved ∧
              t.get FL_STRIPES.COUNT = s.get FL_STRIPES.COUNT) ∧
          let moves := sparseFind k s.fl.uses = none ∨ (s.moveStripe k).isSome = true
          (s.sparesOf plane = [] → ¬ moves → Completes (.blockRetired plane block cause work) s fun t =>
            fails t ∧ t.fl.retired = s.fl.retired) ∧
          (s.sparesOf plane = [] → moves → Completes (.blockRetired plane block cause work) s fun t =>
            fails t ∧ t.fl.retired = insertNat k s.fl.retired ∧ k ∉ t.fl.weak ∧
              t.get FL_STRIPES.COUNT = (s.fl.stripes - (insertNat k s.fl.retired).length) % 2 ^ 13))) ∧
    (∀ codewords work, s.backgroundRuns = true → s.flag FL_STATUS.PATROL = true → s.fl.patrolFrom ≤ s.clock →
      Completes (.patrolDone codewords work) s fun t =>
        t.fl.patrolEnd = some s.seconds ∧ t.flag FL_STATUS.RETSCAN = false ∧ t.fl.refreshed = 0 ∧
          t.fl.patrolFrom = max s.clock (s.fl.patrolFrom + s.get FL_PATROL.HOURS * hourTicks) ∧
          t.get FL_UNCORR.COUNT = (s.get FL_UNCORR.COUNT + (work.reads.filter (!·.correct)).length) % 2 ^ 24) ∧
    (∀ patrol work, s.backgroundRuns = true →
      let met := s.flashWork 1 true patrol
      (∀ k r, met.nextWeak = some k → (met.moveStripe k).isSome = true → s.fl.root = some r →
        Completes (.stripeRefresh patrol work) s fun t =>
          sparseFind k t.fl.uses = none ∧ k ∉ t.fl.weak ∧ t.fl.base = s.fl.base ∧
            t.fl.refreshed = s.fl.refreshed + 1 ∧ ∃ r', t.fl.root = some r' ∧ r'.seq = r.seq + 1) ∧
      (met.nextWeak = none → Completes (.stripeRefresh patrol work) s (· = met))) ∧
    (∀ work, s.backgroundRuns = true →
      (s.get FL_MEANPE.CYCLES + 500 < s.get FL_MAXPE.CYCLES →
        ∀ k copied, s.coldStripe = some k → s.takeStripe (.moved k) = some copied →
          Completes (.wearLevelMove work) s fun t =>
            t.fl.uses = copied.fl.uses ∧ t.fl.root = s.fl.root ∧ t.fl.base = s.fl.base) ∧
      (s.get FL_MAXPE.CYCLES ≤ s.get FL_MEANPE.CYCLES + 500 → Completes (.wearLevelMove work) s (· = s))) ∧
    (s.coreUp = true → s.due (s.fl.lifeFrom + (hourTicks - s.fl.lifePart)) = true → Completes .lifeRecompute s fun t =>
      let kept := s.fl.written.take 168
      t.fl.written = (0, 0) :: kept ∧ t.fl.lifeFrom = t.clock ∧ t.fl.lifePart = 0 ∧
        t.get FL_LIFEMEAS.DAYS = lifeDays (s.lifeBytes * (3600 * kept.length)) ((kept.map (·.1)).sum * 86400) ∧
        (t.get FL_LIFEMEAS.DAYS < s.get FL_LIFEWARN.DAYS → t.fl.lifeLow = true))

/-! ## Wellhead (R311 to R339) -/

/-- R322, R323, R329, R330, R334, R336, R337: TSET sets the time at once or at the next edge; TSLEW slews on top of
what is left; TMARK writes its event; TCAP stamps at once or waits; LOGRD copies entries; the waits' ends
complete with their statuses. -/
def Obligations.TimeInstructionResults : Prop :=
  ∀ (s : State) (op : Op), op.wf = true → RingOpen s op.ring →
    (∀ time, op.ext.length = 3 → op.dst = 0 → op.src = 0 → op.imm9 < 2 → s.qual ≠ 3 → s.tm.tset = none →
      stampTime (op.word 1) (op.word 2) (op.word 3) = some time →
      Completes (.tset op) s (fun t => t.now = time ∧ t.qual = 1 ∧ Posted op.ring 0x10 0x01 0 s t) ∧
      Completes (.tsetSync op) s (fun t => t.tm.tset = some (s.opRef op.ring 0x10, time, s.clock) ∧ t.now = s.now)) ∧
    (op.ext.length = 1 → op.dst = 0 → op.src = 0 → op.imm9 = 0 →
      (s.tm.slew = none → toSigned 24 (op.word 1) = 0 → Completes (.tslew op) s fun t =>
        t.tm.slew = none ∧ Posted op.ring 0x11 0x01 0 s t) ∧
      (s.tm.slew = none → toSigned 24 (op.word 1) ≠ 0 → Completes (.tslew op) s fun t =>
        t.flag TM_STATUS.SLEWING = true ∧ ∃ k, t.tm.slew = some k ∧ k.ref = some (s.opRef op.ring 0x11) ∧
          k.amount = toSigned 24 (op.word 1)) ∧
      ∀ k, s.tm.slew = some k → toSigned 24 (op.word 1) + k.rest s.clock ≠ 0 → Completes (.tslew op) s fun t =>
        ∃ k', t.tm.slew = some k' ∧ k'.amount = toSigned 24 (op.word 1) + k.rest s.clock) ∧
    (op.ext = [] → op.imm9 < 64 → s.get TM_LOGCFG.STOP = 0 → s.batch = none → Completes (.tmark op) s fun t =>
      Posted op.ring 0x12 0x01 (s.get TM_EVSEQ.SEQ) s t ∧ ∃ e, t.log.getLast? = some e ∧ e.code = 0x50A ∧
        e.source = markSource op.ring op.imm9 ∧ e.seq = s.get TM_EVSEQ.SEQ ∧ e.time = s.now ∧
        e.w5 = s.greg op.ring op.dst % 2 ^ 24 ∧ e.w6 = s.greg op.ring op.src % 2 ^ 24) ∧
    (op.ext = [] → op.dst < 4 → op.src < 4 → op.imm9 = 0 → s.get (TM_CAP_S.ST op.dst) ≠ 1 →
      let waits (kind : Nat) (t : State) : Prop :=
        t.tm.caps = s.tm.caps ++ [(s.opRef op.ring 0x13, op.dst, kind, s.clock)] ∧ t.get (TM_CAP_S.ST op.dst) = 1
      Completes (.tcapNow op) s (fun t =>
        t.get (TM_CAP.STAMP op.dst 0) = stampWord0 s.now ∧ t.get (TM_CAP.STAMP op.dst 1) = stampWord1 s.now % 2 ^ 24 ∧
          t.get (TM_CAP_S.ST op.dst) = 2 ∧ Posted op.ring 0x13 0x01 (stampWord2 s.now s.qual) s t) ∧
      Completes (.tcapPpsIn op) s (waits 1) ∧ Completes (.tcapIrigb op) s (waits 2) ∧
      Completes (.tcapPpsOut op) s (waits 3)) ∧
    (op.ext.length = 2 → op.dst = 0 → op.src = 0 → op.imm9 < 128 → op.word 2 < 2 ^ 22 → 1 ≤ op.word 2 % 2 ^ 11 →
      bitsOf (op.word 2) 11 11 + op.word 2 % 2 ^ 11 ≤ 1536 → s.tm.logRead = none →
      let found := logFrom s.log (bitOf op.imm9 6) (op.word 1)
      let kept := if bitOf op.imm9 5 then found.1.filter fun e => e.code / 128 == op.imm9 % 32 else found.1
      let copied := kept.take (op.word 2 % 2 ^ 11)
      Completes (.logrd op) s fun t =>
        t.tm.logRead = some ⟨s.opRef op.ring 0x3E, genStaging + 32 * bitsOf (op.word 2) 11 11,
          copied.flatMap (·.words), found.2, copied.length⟩ ∧ t.log = s.log) ∧
    (∀ l, s.tm.logRead = some l → Completes (.unitCompletion 10) s fun t =>
      t.tm.logRead = none ∧ Done l.ref l.status l.count s t ∧
        (l.ref.q < 4 → genStaging ≤ l.dest → ∀ i w, l.words[i]? = some w →
          t.slot (l.dest + 4 * i) = w % 2 ^ 24))

/-- R314, R316 to R318, R323 to R326, R328, R330, R332: what a second boundary, an edge, a sentence, a frame and
the waits' ends do, and the writes of the time block's commands.
Model's choices it rests on: assumption log 33, 34, 35, 39, 95. -/
def Obligations.TimeKeepingResults : Prop :=
  ∀ s : State,
    (∀ crystal, s.boundaryDue = true → Completes (.secondBoundary crystal) s fun t =>
      t.tm.e = [none, none, none, none] ∧ (s.get TM_SRCQ.Q = 0 → t.source = 0)) ∧
    (∀ x : Nat, s.coreUp = true → Completes (.ppsEdge x) s fun t =>
      let at_ := s.clockAt (x / 4 : Nat)
      (∀ c ∈ t.tm.caps, c.2.2.1 = 1 → at_ < c.2.2.2) ∧
        (∀ ref time from_, s.tm.tset = some (ref, time, from_) →
          t.tm.tset = if (from_ : Int) ≤ at_ then none else s.tm.tset) ∧
        ∀ ref k from_, k < 4 → s.tm.tset = none → s.tm.caps = [(ref, k, 1, from_)] → (from_ : Int) ≤ at_ →
          t.get (TM_CAP_S.ST k) = 2 ∧ t.get (TM_CAP.STAMP k 0) = stampWord0 (x / 4)) ∧
    (∀ arrival, parseNmea s.tm.line = none → Completes (.nmeaSentence arrival) s (· = s)) ∧
    (∀ m arrival, s.coreUp = true → parseNmea s.tm.line = some m →
      (m.valid = true → s.flag TM_GNSS.ASSOC = true → Completes (.nmeaSentence arrival) s fun t =>
        let year := if m.rmc = true ∧ m.year < 100 then 2000 + m.year else m.year
        t.tm.gnssPending = some (s.taiOf (utcSeconds (daysTo year m.month m.day) m.hour m.minute m.second))) ∧
      (m.valid = false → Completes (.nmeaSentence arrival) s fun t =>
        t.get TM_NMEABAD.COUNT = (s.get TM_NMEABAD.COUNT + 1) % 2 ^ 24)) ∧
    (∀ f : IrigFrame, s.coreUp = true →
      (s.irigValid f = true → Completes (.irigbFrame f) s fun t =>
        t.tm.irigLast = s.irigSecond f ∧ t.tm.irigSilent = 0) ∧
      (s.irigValid f = false → Completes (.irigbFrame f) s fun t =>
        t.get TM_IRIGBAD.COUNT = (s.get TM_IRIGBAD.COUNT + 1) % 2 ^ 24 ∧ t.tm.irigRun = 0)) ∧
    (∀ mean span k, s.flag TM_CTL.LEARN = true → s.qual = 3 → 300 ≤ s.tm.qual3 → span ≤ 10 →
      s.due (s.tm.sampledAt + 60 * oneSecond) = true → tempBin mean = some k →
        Completes (.holdoverSample mean span) s fun t =>
        t.get (TM_TBINN.N k) = min (s.get (TM_TBINN.N k) + 1) (2 ^ 16 - 1)) ∧
    (∀ d, s.running = true → s.flag TM_STATUS.OSCFAIL = false → Completes (.oscFault d) s fun t =>
      t.flag TM_STATUS.OSCFAIL = true ∧ t.flag TM_STATUS.XTAL = true ∧ (2 ≤ s.qual → t.qual = 1)) ∧
    (s.running = true → s.flag TM_STATUS.OSCFAIL = true → s.due (s.tm.oscFrom + 60 * oneSecond) = true →
      Completes .oscOk s fun t =>
        t.flag TM_STATUS.OSCFAIL = false ∧
          t.flag TM_STATUS.XTAL = !(s.maskBit PW_ON.EN 10 && s.maskBit PW_GOOD.RAIL 10)) ∧
    (∀ codes, s.powerIn [saved, latched] = true → s.oneReading codes = true →
      s.due (s.tm.minuteFrom + 60 * oneSecond) = true → Completes (.savedTemperatureCheck codes) s fun t =>
      (s.flag TM_STATUS.XTAL = true → t.get TM_SAVXT.MIN = min (s.get TM_SAVXT.MIN + 1) (2 ^ 24 - 1)) ∧
        (s.flag TM_STATUS.XTAL = false → t.get TM_SAVTCXO.MIN = min (s.get TM_SAVTCXO.MIN + 1) (2 ^ 24 - 1))) ∧
    (s.get TM_LEAP.PEND ≠ 0 → s.leapAt ≤ s.seconds → Completes .leapApplied s fun t =>
      t.get TM_LEAP.PEND = 0 ∧ t.get TM_UTCOFS.S =
        (if s.get TM_LEAP.PEND = 1 then s.get TM_UTCOFS.S + 1 else s.get TM_UTCOFS.S - 1) % 2 ^ 8) ∧
    (∀ k done, s.tm.slew = some k → k.doneAt = some done → s.due done = true → Completes .slewDone s fun t =>
      t.tm.slew = none ∧ t.flag TM_STATUS.SLEWING = false ∧ ∀ ref, k.ref = some ref → Done ref 0x01 0 s t) ∧
    (∀ ref time from_, s.tm.tset = some (ref, time, from_) → s.due (from_ + 2 * oneSecond) = true →
      Completes .tsetSyncTimeout s fun t =>
      t.tm.tset = none ∧ Done ref 0x22 0 s t) ∧
    (∀ ref k kind from_, k < 4 → s.tm.caps = [(ref, k, kind, from_)] → s.due (from_ + 2 * oneSecond) = true →
      Completes (.tcapTimeout k) s fun t =>
      t.tm.caps = [] ∧ t.get (TM_CAP_S.ST k) = 0 ∧ Done ref 0x21 0 s t)

/-- R325, R328, R330, R332, R335: SNAP is the side-band's; a release releases to the named entry while STOP is 1;
the policy, FORGET and a leap take a legal write, and each refuses an illegal one under R7. -/
def Obligations.TimeWriteResults : Prop :=
  ∀ (s : State) (w : Writer),
    Completes (.timeSnapshot .sideBand) s (fun t =>
      t.get (TM_SNAP.STAMP 0) = stampWord0 s.now ∧ t.get (TM_SNAP.STAMP 2) = stampWord2 s.now s.qual % 2 ^ 24) ∧
    (w ≠ .sideBand → Completes (.timeSnapshot w) s fun t => t = s.violate (writerViolation w 0xA0B0)) ∧
    (∀ seq, s.coreUp = true → s.flag TM_LOGCFG.STOP = true →
      Completes (.logRelease w seq) s fun t => t.log = releaseTo seq s.log) ∧
    (∀ seq, s.coreUp = false ∨ s.flag TM_LOGCFG.STOP = false → Completes (.logRelease w seq) s fun t =>
      t = s.violate (writerViolation w 0xA214)) ∧
    (w ≠ .sideBand →
      (∀ stop, s.coreUp = true → Completes (.logPolicyWrite w stop) s fun t =>
        t.flag TM_LOGCFG.STOP = stop ∧ (stop = false → t.flag TM_STATUS.LOGSTOP = false)) ∧
      Completes (.holdoverForget w) s (fun t =>
        ∀ k < 64, t.get (TM_TBIN.F k) = 0 ∧ t.get (TM_TBINN.N k) = 0) ∧
      (∀ at_, Completes (.leapWrite w 0 at_) s fun t => t.get TM_LEAP.PEND = 0) ∧
      (∀ pend at_, pend = 1 ∨ pend = 2 → s.now + 2 * oneSecond ≤ at_ * oneSecond →
        Completes (.leapWrite w pend at_) s fun t =>
          t.get TM_LEAP.PEND = pend ∧ t.leapAt = at_ % 2 ^ 40 ∧ t.get TM_LEAP.SETTER = 1) ∧
      (∀ pend at_, pend ≠ 0 → at_ * oneSecond < s.now + 2 * oneSecond →
        Completes (.leapWrite w pend at_) s fun t => t = s.violate (writerViolation w 0xA06C)))

/-! ## The smart-card port (R340 to R365) -/

/-- R344, R348, R349, R352 to R355, R357, R358, R362: SCACT begins an activation with the first allowed class, or
a warm reset; SCDEACT deactivates; SCXFR sends the first I-block or the raw bytes, and refuses a length
beyond the buffer; SCCLK stops, starts and sets the clock.
Model's choices it rests on: assumption log 20, 48, 51. -/
def Obligations.SmartCardInstructionResults : Prop :=
  ∀ (s : State) (op : Op), op.wf = true → RingOpen s op.ring →
    (op.ext = [] → op.imm9 = 0 → s.powerIn [standby, active, quiet, maint] = true → s.scState = scInactive →
      s.scHolds = false → s.flag SC_STATUS.PRESENT = true → s.flag SC_STATUS.RELREQ = false → op.dst ≠ 0 →
      Completes (.scactCold op) s fun t =>
        t.scState = scActivating ∧ t.sc.op = some (s.opRef op.ring 0x20) ∧ t.sc.wait = .atr ∧
          nextClass op.dst = some (t.get SC_STATUS.CLASS) ∧ t.sc.vsel = classVsel (t.get SC_STATUS.CLASS) ∧
          t.get SC_FD.FD = 0x11 ∧ (t.rail 8).target = true) ∧
    (op.ext = [] → op.imm9 = 0 → s.scState = scIdle → s.flag SC_STATUS.RELREQ = false →
      Completes (.scactWarm op) s fun t =>
        t.scState = scActivating ∧ t.sc.op = some (s.opRef op.ring 0x20) ∧ t.sc.wait = .atr ∧
          t.get SC_STATUS.CLKSTOP = 0 ∧ t.get SC_FD.FD = 0x11) ∧
    (op.ext = [] → op.dst = 0 → op.src = 0 → op.imm9 = 0 →
      (s.scState = scInactive → Completes (.scdeact op) s (Posted op.ring 0x21 0x01 0 s)) ∧
      (s.scState ∈ [scActivating, scIdle, scExchange] → Completes (.scdeact op) s fun t =>
        t.scState = scDeactivating ∧ t.sc.cause = 1 ∧ t.sc.deacts = s.sc.deacts ++ [s.opRef op.ring 0x21])) ∧
    (let len := op.word 1
     let rxMax := op.word 2
     op.ext.length = 2 → op.dst = 0 → op.src = 0 → op.imm9 = 0 → len < 2 ^ 14 → rxMax < 2 ^ 14 →
      s.scState = scIdle → s.flag SC_STATUS.RELREQ = false →
      (s.flag SC_STATUS.T1 = true → rxMax = 0 → 0 < len → len ≤ 8192 → Completes (.scxfr op) s fun t =>
        let n := min (s.get SC_T1.IFSC) len
        let body := [s.get SC_CFG.NAD, s.get SC_SEQ.DEV * 0x40 + boolNat (decide (n < len)) * 0x20, n] ++
          (s.stream cmdBuffer len).take n
        t.scState = scExchange ∧ t.sc.op = some (s.opRef op.ring 0x22) ∧ t.sc.sent = body ++ s.blockEdc body) ∧
      (s.flag SC_STATUS.T1 = false → rxMax ≤ 8192 → len ≤ 8192 → 0 < len + rxMax → Completes (.scxfr op) s fun t =>
        t.scState = scExchange ∧ t.sc.op = some (s.opRef op.ring 0x22) ∧ t.sc.rxMax = rxMax ∧
          t.sc.sent = s.stream cmdBuffer len) ∧
      (rxMax = 0 → 8192 < len → Completes (.scxfr op) s (Posted op.ring 0x22 0x5A 0 s)) ∧
      (rxMax = 0 → len = 0 → Completes (.scxfr op) s (Posted op.ring 0x22 0x01 0 s))) ∧
    (op.ext = [] → op.src = 0 → s.scState = scIdle →
      (op.imm9 = 0 → s.sc.x = 0 → Completes (.scclkStop op) s (Posted op.ring 0x23 0x5C 0 s)) ∧
      (op.imm9 = 0 → s.sc.x ≠ 0 → Completes (.scclkStop op) s fun t =>
        t.flag SC_STATUS.CLKSTOP = true ∧ t.sc.clkHigh = s.clockStopHigh ∧ Posted op.ring 0x23 0x01 0 s t) ∧
      (op.imm9 = 0 → Completes (.scclkStart op) s fun t =>
        t.flag SC_STATUS.CLKSTOP = false ∧ Posted op.ring 0x23 0x01 0 s t) ∧
      (20 ≤ op.imm9 → op.imm9 ≤ 400 → leastDivider (s.get SC_FD.FD) ≤ op.imm9 →
        Completes (.scclkRate op) s fun t => t.sc.divider = op.imm9 ∧ Posted op.ring 0x23 0x01 0 s t))

/-- R341, R343 to R346, R357 to R359: card detection, the answer to reset, the next class, the PPS exchange, what
deactivates the port, and the end of a deactivation. Model's choices it rests on: assumption log 20, 46, 47, 51,
95. R350, R351, R353 to R355: an I-block ends the exchange with its bytes in the response buffer; an invalid
block or a BWT expiry draws an R-block; raw characters are stored until RXMAX; WT, and with RXMAX 0 the last
character, end the exchange. -/
def Obligations.SmartCardPortResults : Prop :=
  (∀ s : State,
     let down (cause status : Nat) (t : State) : Prop :=
       t.scState = scDeactivating ∧ t.sc.cause = cause ∧ t.sc.status = status ∧ t.sc.op = s.sc.op
     let awaits (w : ScWait) : Prop := s.scState = scActivating ∧ s.sc.wait = w
     let bare := [0xFF, s.get SC_STATUS.T1, xorBytes [0xFF, s.get SC_STATUS.T1]]
     (s.coreUp = true → s.flag SC_STATUS.PRESENT = false → Completes .scCardInserted s fun t =>
       t.flag SC_STATUS.PRESENT = true ∧ t.get SC_INSERTS.COUNT = (s.get SC_INSERTS.COUNT + 1) % 2 ^ 24) ∧
     (s.coreUp = true → s.flag SC_STATUS.PRESENT = true → Completes .scCardRemoved s fun t =>
       t.flag SC_STATUS.PRESENT = false ∧ t.get SC_REMOVALS.COUNT = (s.get SC_REMOVALS.COUNT + 1) % 2 ^ 24 ∧
         (s.scState ∈ [scActivating, scIdle, scExchange] → down 2 0x52 t)) ∧
     (∀ bytes clean a proto, awaits .atr → s.scSupplied = true → parseAtr bytes = some a →
       a.protocol s.sc.raw = some proto → clean = true →
       bitOf a.classMask (s.get SC_STATUS.CLASS - 1) = true → Completes (.scAtr bytes clean) s fun t =>
         t.get SC_ATRLEN.LEN = bytes.length ∧ t.get SC_STATUS.T1 = proto % 2 ∧ t.flag SC_STATUS.INV = a.inverse ∧
           ∀ ta1, (a.parameters s.sc.raw s.sc.nopps).2.2 = some ta1 →
             t.sc.wait = .pps ∧ t.sc.sent = [0xFF, 0x10 + proto, ta1, xorBytes [0xFF, 0x10 + proto, ta1]]) ∧
     (awaits .atr → s.scSupplied = true →
       let late := s.due (s.sc.since + if s.sc.cold then 50000 else s.scCycles 80000) = true
       (∀ bytes clean, parseAtr bytes = none → Completes (.scAtr bytes clean) s (down 6 0x54)) ∧
       (late → Completes .scAtrTimeout s (down 6 0x54))) ∧
     (∀ cls, s.scHolds = true → nextClass s.sc.classes = some cls → s.due (s.sc.since + 1000000) = true →
       Completes .scClassRetry s fun t => t.scState = scActivating ∧ t.sc.wait = .atr ∧ t.get SC_STATUS.CLASS = cls ∧
         t.sc.vsel = classVsel cls ∧ (t.rail 8).target = true) ∧
     (awaits .pps → Completes (.scPpsResponse s.sc.sent) s fun t =>
       t.get SC_FD.FD = s.sc.proposed % 2 ^ 8 ∧ t.sc.ppsDone = true) ∧
     (∀ bytes, awaits .pps → bytes ≠ s.sc.sent →
       (bytes = bare → Completes (.scPpsResponse bytes) s fun t => t.get SC_FD.FD = 0x11 ∧ t.sc.ppsDone = true) ∧
       (bytes ≠ bare → Completes (.scPpsResponse bytes) s (down 6 0x5D))) ∧
     (awaits .pps → s.due (s.sc.since + s.scCycles (9600 * 372)) = true → Completes .scPpsTimeout s (down 6 0x5D)) ∧
     (∀ kind vcc ma, s.scState ∈ [scActivating, scIdle, scExchange] → s.portPowered 8 = true →
       (kind = 3 ∧ classLimit (s.get SC_STATUS.CLASS) ≤ ma) ∨ (kind ≠ 3 ∧ s.channelFlag 8 = kind) →
       Completes (.scSupplyFault kind vcc ma) s (down 3 0x51)) ∧
     (s.scState = scExchange → s.due (s.sc.began + s.get SC_XFRTO.S * 100000000) = true →
       Completes .scXfrTimeout s (down 7 0x57)) ∧
     (s.scState = scDeactivating → s.scRetries = true → Completes .scDeactivationDone s fun t =>
       t.scState = scInactive ∧ t.scHolds = true ∧ (t.rail 8).target = false ∧ t.sc.op = s.sc.op) ∧
     (s.scState = scDeactivating → s.scRetries = false → Completes .scDeactivationDone s fun t =>
       t.scState = scInactive ∧ (t.rail 8).target = false ∧ t.sc.op = none ∧ t.sc.deacts = [] ∧
         ∀ ref, s.sc.op = some ref → s.sc.deacts = [] → Done ref s.sc.status s.scResult s t)) ∧
  (∀ (s : State) (ref : OpRef), s.scState = scExchange → s.sc.op = some ref →
     let n := s.get SC_RXCOUNT.N
     (s.flag SC_STATUS.T1 = true → s.sc.wait = .data → s.sc.resynch = 0 →
       (∀ bytes gap parity pcb inf, s.readBlock bytes parity gap = .ok (pcb, inf) → pcb = 0x40 * s.get SC_SEQ.CARD →
         s.get SC_SEQ.CARD < 2 → s.sc.aborting = false → s.sc.lastAcked = true ∨ s.sc.lastMore = false →
         n + inf.length ≤ 8192 → Completes (.scBlockReceived bytes parity gap) s fun t =>
           t.get SC_RXCOUNT.N = n + inf.length ∧ t.sc.op = none ∧ Done ref 0x01 (n + inf.length) s t ∧
             ∀ i < inf.length, t.streamByte rspBuffer (n + i) = inf.getD i 0 % 256) ∧
       (s.sc.attempts < 3 →
         let answers (code : Nat) (t : State) : Prop :=
           let body := [s.get SC_CFG.NAD, 0x80 + s.get SC_SEQ.CARD * 0x10 + code, 0]
           t.sc.sent = body ++ s.blockEdc body ∧ t.get SC_RBLK.COUNT = (s.get SC_RBLK.COUNT + 1) % 2 ^ 24
         (∀ bytes parity gap code, s.readBlock bytes parity gap = .error code →
           Completes (.scBlockReceived bytes parity gap) s (answers code)) ∧
         (s.due s.bwtEnd = true → Completes .scBwtExpiry s (answers 2)))) ∧
     (s.flag SC_STATUS.T1 = false →
       (∀ v, s.rawSent = true → s.sc.rxMax ≤ 8192 → n < s.sc.rxMax → Completes (.scRawCharacter false true v) s fun t =>
         t.get SC_RXCOUNT.N = n + 1 ∧ t.streamByte rspBuffer n = v % 256 ∧
           (n + 1 = s.sc.rxMax → Done ref 0x01 (n + 1) s t)) ∧
       (∀ sent v, s.rawSent ≠ sent → 4 ≤ s.sc.tries → Completes (.scRawCharacter sent false v) s fun t =>
         t.get SC_PARERR.COUNT = (s.get SC_PARERR.COUNT + 1) % 2 ^ 24 ∧ t.sc.op = none ∧ Done ref 0x59 n s t) ∧
       (s.rawSent = true → s.sc.rxMax ≠ 0 → s.due (s.sc.since + s.scCycles (960 * s.sc.wi * s.scRates.1)) = true →
         Completes .scWtExpiry s fun t => t.sc.op = none ∧ Done ref 0x01 n s t) ∧
       (s.rawSent = true → s.sc.rxMax = 0 → Completes (.unitCompletion 11) s fun t => t.sc.op = none ∧
         Done ref 0x01 n s t)))

/-! ## The memory-card port (R366 to R388) -/

/-- R366, R370, R373, R377, R379, R384, R385: MCINIT begins identification, tunes or deactivates; MCRW and MCRPMB
and MCWP start their commands, or refuse under their statuses. R367, R368, R370, R372 to R375, R381, R382: card
detection, responses and their repeats, the blocks of a transfer, MC_HOSTCNT, what ends a transfer, and what
deactivates the port. Model's choices it rests on: assumption log 21, 50, 52, 53, 95. -/
def Obligations.MemCardResults : Prop :=
  (∀ (s : State) (op : Op), op.wf = true → RingOpen s op.ring → s.flag MC_STATUS.RELREQ = false →
     let rca := s.get MC_CFG.RCA * 65536
     (op.ext.length = 1 → op.src % 2 = 0 → op.imm9 ≤ 95 →
       (31 ≤ op.word 1 → op.word 1 ≤ 16000 → s.powerIn [standby, active, quiet, maint] = true →
         s.mcState = mcInactive → s.flag MC_STATUS.PRESENT = true → Completes (.mcinitOn op) s fun t =>
           t.mcState = mcIdent ∧ t.mc.op = some (s.opRef op.ring 0x24) ∧ t.mc.todo = [.cmd 0 0, .cmd 1 0x40FF8000] ∧
             t.mc.vccAt = none ∧
             t.get MC_RUNDIV.CDIV = s.get MC_CLKCFG.IDDIV % 2 ^ 14 ∧ (t.rail 9).target = true) ∧
       (op.word 1 = 0 → s.mcState = mcInactive → Completes (.mcinitOff op) s (Posted op.ring 0x24 0x01 0 s)) ∧
       (op.word 1 = 0 → s.mcState ∈ [mcIdent, mcIdle, mcTransfer] → Completes (.mcinitOff op) s fun t =>
         t.mcState = mcDeactivating ∧ t.mc.cause = 1 ∧ t.mc.offs = s.mc.offs ++ [s.opRef op.ring 0x24]) ∧
       (31 ≤ op.word 1 → op.word 1 ≤ 16000 → s.mcState = mcIdle →
         (op.src = 0 → Completes (.mcinitRetune op) s (Posted op.ring 0x24 0x01 s.mcinitResult s)) ∧
         (bitOf op.src 2 = true → s.mc.ext = true → Completes (.mcinitRetune op) s fun t =>
           t.mcState = mcIdent ∧ t.mc.todo = [.cmd 6 0x03B70100, .cmd 19 0, .cmd 14 0, .data]))) ∧
     (let addr := op.word 1 % 256 * 2 ^ 24 + op.word 2
      let count := op.word 3
      op.ext.length = 3 → op.src = 0 → op.imm9 ≤ 95 → op.word 1 < 256 → s.mcState = mcIdle → 1 ≤ count →
       count ≤ 65535 → addr + count ≤ s.mcCapacity →
       let begun (t : State) : Prop :=
         t.mcState = mcTransfer ∧ t.mc.op = some (s.opRef op.ring 0x25) ∧ t.get MC_XCOUNT.N = count ∧
           t.get MC_DEVCNT.N = 0 ∧ t.get MC_HOSTCNT.N = 0
       let a := s.mcAddress addr
       Completes (.mcrwRead op) s (fun t => begun t ∧ t.mc.todo =
         if count = 1 then [.cmd 17 a, .data] else [.cmd 23 count, .cmd 18 a, .data]) ∧
       (s.flag MC_STATUS.TMPWP = false → s.flag MC_STATUS.PERMWP = false → Completes (.mcrwWrite op) s fun t =>
         begun t ∧ t.mc.todo = if count = 1 then [.cmd 24 a, .busy] else [.cmd 23 count, .cmd 25 a, .busy]) ∧
       (s.flag MC_STATUS.TMPWP = true ∨ s.flag MC_STATUS.PERMWP = true →
         Completes (.mcrwWrite op) s (Posted op.ring 0x25 0x68 0 s))) ∧
     (let count := op.word 1 / 65536
      let enter := McItem.cmd 6 0x03B30300
      op.ext.length = 1 → op.src = 0 → op.imm9 ≤ 95 → s.mcState = mcIdle → s.mc.key.isSome = true →
       (s.flag MC_STATUS.RPMB = false → op.word 1 = 0 →
         Completes (.mcrpmbCounter op) s (Posted op.ring 0x26 0x6D 0 s) ∧
         (s.flag MC_WPCTL.KEYPROG = true → Completes (.mcrpmbProgkey op) s fun t =>
           t.flag MC_WPCTL.KEYPROG = false ∧ Posted op.ring 0x26 0x6D 0 s t)) ∧
       (s.flag MC_STATUS.RPMB = true →
         let begun (todo : List McItem) (t : State) : Prop :=
           t.mcState = mcTransfer ∧ t.mc.op = some (s.opRef op.ring 0x26) ∧ t.mc.todo = enter :: todo
         (op.word 1 = 0 → Completes (.mcrpmbCounter op) s (begun (rpmbOut 1 1 ++ rpmbIn 1))) ∧
         (1 ≤ count → count ≤ 2 → op.imm9 * 512 + count * 256 ≤ mcStagingBytes →
           Completes (.mcrpmbWrite op) s (begun (rpmbOut 1 1 ++ rpmbIn 1))) ∧
         (1 ≤ count → count ≤ 32 → op.imm9 * 512 + count * 256 ≤ mcStagingBytes →
           Completes (.mcrpmbRead op) s (begun (rpmbOut 1 1 ++ rpmbIn count))) ∧
         (op.word 1 = 0 → s.flag MC_WPCTL.KEYPROG = true →
           Completes (.mcrpmbProgkey op) s (begun (rpmbOut 1 1 ++ rpmbOut 1 1 ++ rpmbIn 1))))) ∧
     (op.ext = [] → op.src = 0 → op.imm9 = 0 → s.mcState = mcIdle →
       let sends (bit : Nat) (b : Bool) (t : State) : Prop :=
         t.mcState = mcTransfer ∧ t.mc.todo = [.cmd 27 0, .busy, .cmd 7 0, .cmd 9 rca, .cmd 7 rca] ∧
           t.mc.sent = toBigEndian 16 (csdWithCrc (putBit s.mc.csd bit b))
       Completes (.mcwpStatus op) s (Posted op.ring 0x27 0x01 s.mcwpResult s) ∧
       Completes (.mcwpTmpset op) s (sends 12 true) ∧
       (s.flag MC_STATUS.PERMWP = false → Completes (.mcwpTmpclr op) s (sends 12 false)) ∧
       (s.flag MC_STATUS.PERMWP = true → Completes (.mcwpTmpclr op) s (Posted op.ring 0x27 0x68 s.mcwpResult s)) ∧
       (s.flag MC_WPCTL.PERMOK = true → Completes (.mcwpPermset op) s (sends 13 true)))) ∧
  (∀ s : State,
     let live : Prop := s.mcState ∈ [mcIdent, mcIdle, mcTransfer]
     let down (cause : Nat) (t : State) : Prop :=
       t.mcState = mcDeactivating ∧ t.mc.cause = cause ∧ t.mc.op = s.mc.op ∧
         (s.mcBegun = true → t.mc.status = 0x63 ∧ t.flag MC_TORNH.VALID = true)
     let ends (status result : Nat) (t : State) : Prop :=
       t.mc.ending = some (status, result) ∧ t.mc.todo = [.cmd 12 0, .cmd 13 0]
     let i := s.get MC_DEVCNT.N
     (s.coreUp = true → s.flag MC_STATUS.PRESENT = false → Completes .mcCardInserted s fun t =>
       t.flag MC_STATUS.PRESENT = true ∧ t.get MC_INSERTS.COUNT = (s.get MC_INSERTS.COUNT + 1) % 2 ^ 24) ∧
     (s.coreUp = true → s.flag MC_STATUS.PRESENT = true → Completes .mcCardRemoved s fun t =>
       t.flag MC_STATUS.PRESENT = false ∧ t.get MC_REMOVALS.COUNT = (s.get MC_REMOVALS.COUNT + 1) % 2 ^ 24 ∧
         (live → down 2 t)) ∧
     (∀ a l crc value, bitOf value 31 = true →
       let answered (t : State) : Prop :=
         let rca := s.get MC_CFG.RCA * 65536
         t.flag MC_STATUS.SECTOR = bitOf value 30 ∧ t.mc.todo = [.cmd 2 0, .cmd 3 rca, .cmd 9 rca, .cmd 7 rca]
       (s.mcHead = some (.cmd 1 a) → Completes (.mcResponse crc value) s answered) ∧
       (s.mc.todo = .cmd 0 0 :: .cmd 1 a :: l →
         (s.mc.vccAt = none → Completes (.mcResponse crc value) s (· = s)) ∧
         ∀ t₀, s.mc.vccAt = some t₀ → s.due (s.mcStep5 t₀) = true → Completes (.mcResponse crc value) s answered)) ∧
     (∀ idx a, s.mcHead = some (.cmd idx a) → idx ≠ 0 → idx ≠ 1 → (idx = 7 → a ≠ 0) → s.mc.retried = false →
       (∀ value, Completes (.mcResponse false value) s fun t =>
         t.mc.retried = true ∧ t.mc.todo = s.mc.todo ∧ t.get MC_CRCERR.COUNT = (s.get MC_CRCERR.COUNT + 1) % 2 ^ 24) ∧
       (s.due (s.mc.since + s.mcCycles 64) = true → Completes .mcResponseTimeout s fun t =>
         t.mc.retried = true ∧ t.mc.todo = s.mc.todo ∧ t.get MC_RETRIES.COUNT = (s.get MC_RETRIES.COUNT + 1) % 2 ^ 24)) ∧
     (∀ a t₀, s.mcHead = some (.cmd 1 a) → live → s.mcWriting = false → s.mc.vccAt = some t₀ →
       s.due (s.mcStep5 t₀ + 100000000) = true →
       Completes .mcIdentTimeout s fun t => t.mcState = mcDeactivating ∧ t.mc.cause = 6 ∧ t.mc.status = 0x64 ∧
         t.mc.op = s.mc.op) ∧
     (∀ w v, w ≠ .sideBand → v < 2 ^ 17 →
       (s.coreUp = true → s.mcBusyWith 0x25 = true → s.get MC_HOSTCNT.N ≤ v → v ≤ s.mc.count →
         s.mc.action = 1 ∨ v ≤ i + 96 →
         Completes (.mcHostcntWrite w v) s fun t => t.get MC_HOSTCNT.N = v ∧
           (t.mcWaitsHost = false → t.mc.starved = false)) ∧
       (s.coreUp = false ∨ s.mcBusyWith 0x25 = false ∨ v < s.get MC_HOSTCNT.N ∨ s.mc.count < v ∨
           (s.mc.action ≠ 1 ∧ i + 96 < v) →
         Completes (.mcHostcntWrite w v) s fun t => t = s.violate (writerViolation w 0xC01C))) ∧
     (∀ bytes, s.mcHead = some .data → s.mcBusyWith 0x25 = true → i < s.get MC_HOSTCNT.N + 96 → bytes.length = 512 →
       Completes (.mcReadBlock true bytes) s fun t =>
         t.get MC_DEVCNT.N = (i + 1) % 2 ^ 17 ∧ t.get MC_READS.COUNT = (s.get MC_READS.COUNT + 1) % 2 ^ 24 ∧
           (∀ j < 512, t.streamByte mcStaging (512 * ((s.mc.buf + i) % 96) + j) = bytes.getD j 0 % 256) ∧
           (i + 1 = s.mc.count → t.mc.ending = some (0x01, 0) ∧ t.mc.todo = [.cmd 13 0])) ∧
     (s.mcBegun = true → s.mc.saveWait = false → Completes (.mcBusyRelease true) s fun t =>
       t.get MC_DEVCNT.N = (i + 1) % 2 ^ 17 ∧ t.get MC_WRITES.COUNT = (s.get MC_WRITES.COUNT + 1) % 2 ^ 24) ∧
     (s.mcBegun = true → Completes (.mcBusyRelease false) s (ends 0x67 0) ∧
       (s.due (s.mc.since + s.get MC_BUSYTO.MS * 100000) = true → Completes .mcBusyTimeout s (ends 0x67 i))) ∧
     (s.mcWaitsHost = true → s.mc.starved = false → s.due (s.mc.since + 100000) = true → Completes .mcStarved s fun t =>
       t.mc = { s.mc with starved := true }) ∧
     (s.mcWaitsHost = true → s.due (s.mc.since + s.get MC_XFRTO.MS * 100000) = true →
       Completes .mcHostWaitTimeout s (ends 0x6E 0)) ∧
     (s.mc.saveWait = true → live → s.due (s.mc.saveFrom + 1000000) = true → Completes .mcSaveWaitExpiry s (down 4)) ∧
     (∀ kind vcc ma, live →
       (s.mc.vccAt.isSome = true ∧ (kind = 3 ∨ s.channelFlag 9 = kind)) ∨
         (s.mc.vccAt = none ∧ kind ≠ 3 ∧ s.channelFlag 9 = kind ∧ s.portPowered 9 = true ∧
           10 * (s.rail 9).settle + 200 ≤ (s.rail 9).goodFor) →
       Completes (.mcSupplyFault kind vcc ma) s (down 3)) ∧
     (s.mcState = mcDeactivating → Completes .mcDeactivationDone s fun t =>
       t.mcState = mcInactive ∧ (t.rail 9).target = false ∧ t.mc.op = none ∧ t.mc.key = none ∧
         t.flag MC_WPCTL.KEYPROG = false ∧ t.flag MC_WPCTL.PERMOK = false ∧
         ∀ ref, s.mc.op = some ref → s.mc.offs = [] → Done ref s.mc.status s.mcResult s t))

/-! ## The serial ports (R389 to R415) -/

/-- R392, R399 to R402, R410 to R412: UACFG enables, disables and flushes; UAXFR queues a transfer, at most four of
each direction. R394 to R400, R405, R412: a character is stored, or counted as a glitch or a break; an idle line
ends a RECV; the last stop bit ends a SEND; sleep and wake. Model's choices it rests on: assumption log 22, 55, 95. -/
def Obligations.UartResults : Prop :=
  (∀ (s : State) (op : Op) (p : Nat), op.wf = true → RingOpen s op.ring → op.src = 0 → op.imm9 = p → p < 4 →
     s.uaOwned p = false →
     let idle : Prop := (s.port p).sends = [] ∧ (s.port p).recvs = []
     let emptied (t : State) : Prop := (t.port p).rx = [] ∧ (t.port p).sends = [] ∧ (t.port p).recvs = []
     (op.ext.length = 4 → op.word 1 < 2 ^ 22 → bitsOf (op.word 2) 8 2 = 0 → op.word 3 % 256 = 0 → op.word 4 < 2 ^ 14 →
       uaConfigOk p (op.word 1) (op.word 2) (op.word 4) = true → idle → Completes (.uacfgEnable op) s fun t =>
         t.flag (UA_STAT.ENABLED p) = true ∧ t.flag (UA_STAT.SLEEPING p) = false ∧
           t.get (UA_CFGB.CFG p) = op.word 2 % 2 ^ 24 ∧ Posted op.ring 0x28 0x01 (t.get (UA_RATE.BPS p)) s t ∧
           (bitOf (op.word 2) 11 = false → t.get (UA_CFGA.DIV p) = op.word 1 ∧
             t.get (UA_RATE.BPS p) = uaRate (op.word 1) (op.word 2) % 2 ^ 24)) ∧
     (op.ext = [] →
       Completes (.uacfgDisable op) s (fun t =>
         t.flag (UA_STAT.ENABLED p) = false ∧ emptied t ∧ (idle → Posted op.ring 0x28 0x01 0 s t)) ∧
       Completes (.uacfgFlush op) s (fun t =>
         t.get (UA_STAT.ENABLED p) = s.get (UA_STAT.ENABLED p) ∧ emptied t ∧ (idle → Posted op.ring 0x28 0x01 0 s t))) ∧
     (op.ext.length = 2 → op.word 1 < 2 ^ 14 → op.word 2 < 2 ^ 14 → rangeInside (op.word 1) (op.word 2) 12288 = true →
       s.flag (UA_STAT.ENABLED p) = true → op.word 2 ≠ 0 →
       let x : UaXfr := ⟨s.opRef op.ring 0x29, op.word 1, op.word 2, 0, false⟩
       (s.uaEcho p = false → (s.port p).sends.length < 4 → Completes (.uaxfrSend op) s fun t =>
         (t.port p).sends = (s.port p).sends ++ [x] ∧ t.uaSending p = true) ∧
       (s.uaEcho p = false → 4 ≤ (s.port p).sends.length →
         Completes (.uaxfrSend op) s (Posted op.ring 0x29 0x71 0 s)) ∧
       ((s.port p).rx = [] → (s.port p).recvs.length < 4 → Completes (.uaxfrRecv op) s fun t =>
         (t.port p).recvs = (s.port p).recvs ++ [x]) ∧
       (4 ≤ (s.port p).recvs.length → Completes (.uaxfrRecv op) s (Posted op.ring 0x29 0x71 0 s)))) ∧
  (∀ (s : State) (p : Nat), p < 4 →
     (∀ c : UartChar, s.coreUp = true → s.flag (UA_STAT.ENABLED p) = true → s.flag (UA_STAT.SLEEPING p) = false →
       s.uaLoop p = false → (s.port p).missed = false → (s.uaBit p 14 = true → c.muted = false) →
       let cfg := s.get (UA_CFGB.CFG p)
       let n := s.uaBits p
       let glitch := c.bit cfg 0
       Completes (.uartCharacterReceived p c) s (fun t => t.get (UA_NOISE.COUNT p) =
         (s.get (UA_NOISE.COUNT p) + boolNat (c.noisy cfg (if glitch then 1 else n))) % 2 ^ 24) ∧
       (glitch = true → Completes (.uartCharacterReceived p c) s fun t =>
         t.get (UA_GLITCH.COUNT p) = (s.get (UA_GLITCH.COUNT p) + 1) % 2 ^ 24 ∧ (t.port p).rx = (s.port p).rx ∧
           (t.port p).recvs = (s.port p).recvs) ∧
       (glitch = false → c.low cfg n = true → Completes (.uartCharacterReceived p c) s fun t =>
         t.get (UA_BREAK.COUNT p) = (s.get (UA_BREAK.COUNT p) + 1) % 2 ^ 24 ∧ t.flag (UA_FLAGS.BRK p) = true) ∧
       (glitch = false → c.low cfg n = false → c.stop cfg n = true →
         parityRight cfg (c.data cfg) (c.bit cfg (dataBits cfg + 1)) = true → s.uaOwned p = false →
         (s.port p).recvs = [] → (s.port p).rx.length < 128 → Completes (.uartCharacterReceived p c) s fun t =>
           (t.port p).rx = (s.port p).rx ++ [c.data cfg % 256] ∧
             t.get (UA_RXBYTES.COUNT p) = (s.get (UA_RXBYTES.COUNT p) + 1) % 2 ^ 24)) ∧
     (∀ x rest, s.coreUp = true → (s.port p).recvs = x :: rest → 0 < x.done + (s.port p).rx.length → x.done < x.len →
       s.due ((s.port p).rxAt + s.uaChars p (s.get (UA_CFGB.CFG p) % 256)) = true →
       Completes (.uartRxIdleTimeout p) s fun t =>
         let n := min (s.port p).rx.length (x.len - x.done)
         (t.port p).recvs = rest ∧ (t.port p).rx = (s.port p).rx.drop n ∧
           Done x.ref 0x01 (recvResult (decide (x.done + n < x.len)) { x with done := x.done + n }) s t) ∧
     (∀ x rest, (s.port p).sends = x :: rest → s.flag (UA_STAT.ENABLED p) = true → s.uaLoop p = false →
       s.due (s.uaSendEnd p x) = true → Completes (.uartSendDone p) s fun t =>
       (t.port p).sends = rest ∧ Done x.ref 0x01 x.len s t ∧ ((s.port p).owed = 0 →
         t.get (UA_TXBYTES.COUNT p) = (s.get (UA_TXBYTES.COUNT p) + x.len) % 2 ^ 24)) ∧
     (s.coreUp = true → s.flag (UA_STAT.ENABLED p) = true → s.uaBit p 12 = true → (s.port p).woken = false →
       (s.port p).sends = [] → (∀ t₀, (s.port p).txEnd = some t₀ → s.uaTail p t₀ ≤ s.clock) → s.due ((s.port p).rxAt + s.uaChars p 2) = true → Completes (.uartSleepEntry p) s fun t =>
         t.flag (UA_STAT.SLEEPING p) = true) ∧
     (s.coreUp = true → s.flag (UA_STAT.SLEEPING p) = true → s.uaLoop p = false → Completes (.uartWake p) s fun t =>
       t.flag (UA_STAT.SLEEPING p) = false ∧
         (s.wakeCatches p = false → t.get (UA_WAKELOST.COUNT p) = (s.get (UA_WAKELOST.COUNT p) + 1) % 2 ^ 24)))

/-! ## The Roltur link (R416 to R452) -/

/-- R425, R426, R428, R435, R436, R438, R440, R442, R448, R449: LKJOIN takes the ports and listens; LKSEND, LKRECV
queue; LKSLOT applies a valid table; LKLEAVE begins to leave; LKTIME reports, claims and yields.
Model's choices it rests on: assumption log 54, 102. -/
def Obligations.LinkInstructionResults : Prop :=
  ∀ (s : State) (op : Op), op.wf = true → RingOpen s op.ring →
    (op.ext.length = 1 → op.dst = 0 → op.src = 0 → op.word 1 < 65536 →
      s.powerIn [standby, active, quiet, maint] = true → s.joined = false → s.joining = false → op.imm9 ≠ 0 →
      s.cycleOk = true → Completes (.lkjoin op) s fun t =>
        t.joining = true ∧ t.lk.joinStep = 2 ∧ t.lk.join = some (s.opRef op.ring 0x2A) ∧ t.lkAddr = op.word 1 ∧
          t.uaOwned 0 = true ∧ t.uaOwned 1 = true) ∧
    (let bcast := bitOf op.src 2
     let len := op.word 1 / 65536
     let dst := op.word 1 % 65536
     op.ext.length = 2 → op.src % 4 = 0 → op.imm9 = 0 → 1 ≤ op.dst → op.dst ≤ 3 → op.word 2 < 2 ^ 15 → len ≤ 240 →
      (bcast = true → dst = 0) → rangeInside (op.word 2) len 24576 = true → s.joined = true →
      (s.lk.sends.length < 16 → s.lkFits len (!bcast) op.dst = true → Completes (.lksend op) s fun t =>
        t.lk.sends = s.lk.sends ++
          [⟨s.opRef op.ring 0x2B, op.dst, if bcast then none else some dst, len, op.word 2, none, 0, 3⟩]) ∧
      (16 ≤ s.lk.sends.length → Completes (.lksend op) s (Posted op.ring 0x2B 0x83 0 s)) ∧
      (s.lk.sends.length < 16 → s.lkFits len (!bcast) op.dst = false →
        Completes (.lksend op) s (Posted op.ring 0x2B 0x87 3 s))) ∧
    (let maxf := op.word 2 / 65536
     let len := op.word 2 % 2 ^ 14
     op.ext.length = 2 → op.dst = 0 → op.src = 0 → op.imm9 = 0 → op.word 1 < 2 ^ 13 → bitsOf (op.word 2) 14 2 = 0 →
      maxf ≠ 0 → 6 ≤ len → len ≤ 8192 → rangeInside (op.word 1) len 8192 = true → s.joined = true →
      (s.lk.rx = [] → s.lk.recvs.length < 4 → Completes (.lkrecv op) s fun t =>
        t.lk.recvs = s.lk.recvs ++ [⟨s.opRef op.ring 0x2C, op.word 1, len, maxf, 0, 0⟩]) ∧
      (4 ≤ s.lk.recvs.length → Completes (.lkrecv op) s (Posted op.ring 0x2C 0x83 0 s))) ∧
    (let words := (List.range (min 194 (8192 - op.word 1))).map fun i => s.slot (uaStaging + 4 * (op.word 1 + i))
     op.ext.length = 2 → op.dst = 0 → op.src = 0 → op.imm9 < 2 → op.word 1 < 2 ^ 13 →
      rangeInside (op.word 1) 2 8192 = true → s.flag LK_STATUS.LEAVING = false →
      (s.readTable words = none → Completes (.lkslot op) s (Posted op.ring 0x2D 0x86 0 s)) ∧
      ∀ table, s.readTable words = some table →
        (s.joined = false → Completes (.lkslot op) s fun t =>
          t.lk.table = some table ∧ t.get LK_TABLEID.ID = table.id % 2 ^ 24 ∧
            Posted op.ring 0x2D 0x01 table.entries.length s t) ∧
        (s.joined = true → op.imm9 = 1 → Completes (.lkslot op) s fun t =>
          t.lk.pendings = s.lk.pendings ++ [⟨s.opRef op.ring 0x2D, none, 0x01, table⟩] ∧ t.lk.table = s.lk.table)) ∧
    (op.ext = [] → op.dst = 0 → op.src = 0 → op.imm9 = 0 → s.joined = true ∨ s.joining = true →
      Completes (.lkleave op) s fun t =>
        t.flag LK_STATUS.LEAVING = true ∧ t.lk.leaving = (if s.lk.leaving = 0 then 1 else s.lk.leaving) ∧
          t.lk.leave = s.lk.leave ++ [s.opRef op.ring 0x2E]) ∧
    (op.ext = [] → op.src = 0 → op.imm9 = 0 →
      Completes (.lktimeStatus op) s (Posted op.ring 0x2F 0x01 s.lktimeResult s) ∧
      (s.claimAllowed = true → Completes (.lktimeClaim op) s fun t =>
        t.lk.claimed = some (s.get LK_CYCLE.N) ∧ Posted op.ring 0x2F 0x01 s.lktimeResult s t) ∧
      (s.joined = true → s.claimAllowed = false → Completes (.lktimeClaim op) s
        (Posted op.ring 0x2F 0x02 s.lktimeResult s)) ∧
      (s.joined = true → Completes (.lktimeYield op) s fun t =>
        t.get LK_CFG.MASTEROK = 0 ∧ Posted op.ring 0x2F 0x01 t.lktimeResult s t ∧
          (s.isMaster = true → bestClaim s.recentClaims = none → t.isMaster = false) ∧
          ∀ c, s.isMaster = true → bestClaim s.recentClaims = some c → t.lk.handover = some c.addr))

/-- R423, R424, R428 to R431, R438, R442: cycle boundaries, the frame that leaves, collisions, acknowledgements and
their timeout, the end of a join, and the master's role. R422: a character that begins no frame. Model's choices it rests on: assumption log 36, 54, 95,
102. R424, R431, R432, R437, R439, R440, R445: what a good frame of each type does, and what is counted as a
stranger. -/
def Obligations.LinkProtocolResults : Prop :=
  (∀ s : State,
     (s.joining = true → s.lk.joinStep = 4 → s.due (s.lk.joinAt + s.lkCycles 4) = true →
       Completes .joinConfirmed s fun t =>
       t.joined = true ∧ t.joining = false ∧ t.lk.record.isSome = true ∧
         ∀ ref, s.lk.join = some ref → Done ref 0x01 (s.get LK_MASTER.ADDR) s t) ∧
     (s.joining = true → s.lk.joinStep = 2 → s.due s.lk.waitEnd = true → Completes .joinWaitTimeout s fun t =>
       t.joining = false ∧ t.uaOwned 0 = false ∧ t.uaOwned 1 = false ∧
         ∀ ref, s.lk.join = some ref → Done ref 0x85 0 s t) ∧
     (s.lkListens = true → s.isMaster = true → s.get LK_CFG.C ≠ 0 → s.get TK_INDEX.INDEX % s.get LK_CFG.C = 0 →
       s.running = false ∨ s.lk.boundary ≠ some s.edgeClock → s.lk.flight = none ∨ s.lk.flight = some .beacon →
       Completes .linkCycleBoundary s fun t =>
         t.get LK_CYCLE.N =
           (s.seconds * s.get TK_RATE.RATE / s.get LK_CFG.C + s.get TK_INDEX.INDEX / s.get LK_CFG.C) % 2 ^ 24 ∧
           (s.lk.skip = 0 → s.lk.handover.isSome = true → t.isMaster = false)) ∧
     (∀ b x y rest c, s.lkListens = true → s.lkMuted = false → s.lk.flight = none ∨ s.lk.flight = some .beacon →
       s.lk.extras = [] → s.lk.boundary = some b → s.clock ≤ b + 100 * x → s.lk.clear ≤ b + 100 * x →
       s.due (b + 100 * x) = true → s.lk.sends = y :: rest → s.lkWindow x y.len y.dst.isSome y.mode = some c →
       (c = true → s.lk.wait = 0 ∧ ∃ k, (s.lk.slack = some k ∨ (s.lk.slack = none ∧ k = 15)) ∧
         s.lk.clear + s.lkDur k ≤ (s.passTo (b + 100 * x)).clock) → Completes (.linkTransmit x) s fun t =>
         t.lk.flight = some (.send c) ∧ t.get LK_TXFRAMES.COUNT = (s.get LK_TXFRAMES.COUNT + 1) % 2 ^ 24 ∧
           (t.lk.sends.head?.map (·.attempts)) = some (y.attempts + 1)) ∧
     (∀ f, s.lk.flight = some f → s.clock ≤ s.lk.flightEnd → Completes .linkCollision s fun t =>
       t.lk.flight = none ∧ t.get LK_COLLISIONS.COUNT = (s.get LK_COLLISIONS.COUNT + 1) % 2 ^ 24) ∧
     (∀ y rest, s.awaitsAck = true → s.lk.sends = y :: rest →
       (s.due s.ackBy = true → y.attempts < 8 → Completes .ackTimeout s fun t =>
         t.lk.flight = none ∧ t.get LK_RETRIES.COUNT = (s.get LK_RETRIES.COUNT + 1) % 2 ^ 24 ∧
           t.lk.sends.length = s.lk.sends.length) ∧
       (s.due s.ackBy = true → 8 ≤ y.attempts → rest = [] →
         Completes .ackTimeout s (Done y.ref 0x81 (8 * 256 + 3) s)) ∧
       ∀ seq new result, y.seq = some (seq, new) → rest = [] → result ≠ 2 → s.due s.lk.flightEnd = true →
         s.clock ≤ s.ackBy + s.lkDur 11 →
         Completes (.ackReceived s.lkAddr seq result) s
           (Done y.ref (if result = 0 then 0x01 else 0x02) (min y.attempts 8 * 256 + result) s)) ∧
     (∀ b, s.lkListens = true → s.isMaster = false → s.lk.flight = none → s.lk.boundary = some b →
       s.due (b + s.lkCycles 1) = true → Completes .beaconMissing s fun t =>
       t.lk.missed = s.lk.missed + 1 ∧ t.get LK_CYCLE.N = (s.get LK_CYCLE.N + 1) % 2 ^ 24) ∧
     (s.lkListens = true → s.isMaster = false → s.flag LK_CFG.MASTEROK = true → s.silenceCount ≤ s.lk.silent →
       Completes .silenceTimeout s fun t =>
       t.isMaster = true ∧ t.get LK_MASTER.ADDR = s.lkAddr % 2 ^ 16 ∧ (s.joining = true → t.joined = true)) ∧
     (s.lkListens = true → s.claimAllowed = true →
       (∀ c, s.lk.claimed = some c → 64 ≤ (s.get LK_CYCLE.N + 2 ^ 24 - c) % 2 ^ 24) → Completes .claimRepeat s fun t =>
       t.lk.claimed = some (s.get LK_CYCLE.N)) ∧
     (∀ x rest, s.lk.recvs = x :: rest → x.stored ≠ 0 → s.lk.rx = [] →
       s.due (s.lk.recvAt + s.lkCycles (s.get LK_RXTO.CYC)) = true →
         Completes .lkrecvTimeout s (Done x.ref 0x01 x.result s))) ∧
  (∀ (s : State) (f : LinkFrame), s.lkListens = true → f.src ≠ s.lkAddr →
     let heard (t : State) : Prop := t.get LK_RXFRAMES.COUNT = (s.get LK_RXFRAMES.COUNT + 1) % 2 ^ 24
     let known : Prop := s.joined = true ∧ s.lkIntrudes f = false ∧ s.lkKnown f.src = true
     let stranger (t : State) : Prop := heard t ∧ t.get LK_FOREIGN.COUNT = (s.get LK_FOREIGN.COUNT + 1) % 2 ^ 24
     ((f.foreign 0 = true → Completes (.dataFrameReceived f) s stranger) ∧
       (f.foreign 2 = true → Completes (.beaconReceived f) s stranger) ∧
       (f.foreign 3 = true → Completes (.joinReceived f) s stranger) ∧
       (f.foreign 4 = true → Completes (.conflictReceived f) s stranger) ∧
       (f.foreign 5 = true → Completes (.leaveReceived f) s stranger) ∧
       (f.foreign 6 = true → Completes (.noticeReceived f) s stranger)) ∧
     (f.foreign 2 = false → littleEndian (f.payload.drop 33 |>.take 2) = s.cycleUs → s.isMaster = false → s.lk.uidOf = none →
       s.lk.flight = none → bitOf (f.payload.getD 8 0) 2 = false → Completes (.beaconReceived f) s fun t =>
         heard t ∧ t.get LK_MASTER.ADDR = f.src % 2 ^ 16 ∧ t.lk.uidOf = some (littleEndian (f.payload.take 8)) ∧
           t.get LK_CYCLE.N = littleEndian (f.payload.drop 9 |>.take 3) % 2 ^ 24) ∧
     (known → f.foreign 0 = false → bitOf f.flags 4 = false → f.dst = s.lkAddr → s.lk.recvs = [] →
       (lruFind f.src s.lk.cache = none → s.lk.rx.length < 32 → Completes (.dataFrameReceived f) s fun t =>
         heard t ∧ t.lk.sent = ackBytes f.src f.seq 0 ∧ t.lk.rx.length = s.lk.rx.length + 1 ∧
           t.lk.rx.getLast?.map (·.payload) = some f.payload) ∧
       (lruFind f.src s.lk.cache = none → 32 ≤ s.lk.rx.length → Completes (.dataFrameReceived f) s fun t =>
         t.lk.sent = ackBytes f.src f.seq 2 ∧ t.lk.rx = s.lk.rx) ∧
       (lruFind f.src s.lk.cache = some f.seq → bitOf f.flags 3 = true → Completes (.dataFrameReceived f) s fun t =>
         t.lk.sent = ackBytes f.src f.seq 1 ∧ t.lk.rx = s.lk.rx ∧
           t.get LK_DUPS.COUNT = (s.get LK_DUPS.COUNT + 1) % 2 ^ 24)) ∧
     (f.foreign 3 = false → s.lkIntrudes f = false → Completes (.joinReceived f) s fun t => heard t ∧ f.src ∈ t.lk.known) ∧
     (f.foreign 4 = false → s.joining = false → s.lkIntrudes f = false →
       Completes (.conflictReceived f) s fun t => heard t ∧ f.src ∈ t.lk.known) ∧
     (s.joined = true → s.joining = false → ∀ g : LinkFrame, g.src = s.lkAddr → g.foreign 4 = false →
       let theirs := littleEndian (g.payload.drop 16 |>.take 9)
       let mine := stampValue s.lk.joinStamp.1 s.lk.joinStamp.2
       stampBefore theirs mine = true ∨ (theirs / 4 = mine / 4 ∧ littleEndian (g.payload.take 8) < s.uid) →
       Completes (.conflictReceived g) s fun t =>
         t.flag LK_STATUS.LEAVING = true ∧ t.lk.leaving = (if s.lk.leaving = 0 then 2 else s.lk.leaving) ∧
           t.lk.record = none) ∧
     (known → f.foreign 5 = false → Completes (.leaveReceived f) s heard) ∧
     (f.foreign 5 = false → s.joined = true → s.lkIntrudes f = true → Completes (.leaveReceived f) s fun t =>
       t.get LK_INTRUDERS.COUNT = (s.get LK_INTRUDERS.COUNT + 1) % 2 ^ 24) ∧
     (known → f.foreign 6 = false → f.payload.getD 0 0 = 3 → s.isMaster = false → Completes (.noticeReceived f) s fun t =>
       heard t ∧ t.lk.claims = s.recentClaims ++
         [⟨f.payload.getD 9 0 % 8, littleEndian (f.payload.drop 1 |>.take 8), f.src, s.get LK_CYCLE.N⟩]) ∧
     (∀ src, Completes (.lkStranger 0 src) s (fun t =>
         t.get LK_LENFAULTS.COUNT = (s.get LK_LENFAULTS.COUNT + 1) % 2 ^ 24) ∧
       Completes (.lkStranger 1 src) s (fun t => t.get LK_NOISE.COUNT = (s.get LK_NOISE.COUNT + 1) % 2 ^ 24) ∧
       Completes (.lkStranger 2 src) s (fun t => t.get LK_FOREIGN.COUNT = (s.get LK_FOREIGN.COUNT + 1) % 2 ^ 24))) ∧
  (∀ (s : State) (p : Nat) (c : UartChar), s.lkListens = true → p < 2 →
     let cfg := s.get (UA_CFGB.CFG p)
     let line := if p = 0 then s.lk.lineA else s.lk.lineB
     let other := if p = 0 then s.lk.lineB else s.lk.lineA
     c.bit cfg 0 = false → line.phase = .hunt → line.run = false → other.strange = none → c.data cfg ≠ 0x55 →
       c.data cfg ≠ 0xC3 → Completes (.uartCharacterReceived p c) s fun t =>
         t.get LK_FOREIGN.COUNT = (s.get LK_FOREIGN.COUNT + 1) % 2 ^ 24)

/-! ## The analytics engine (R453 to R478, R506 to R521) -/

/-- R460, R461, R473 to R475: AELOAD begins a load, which makes the memory it fills invalid, takes its chunks,
ends and aborts it, and loads the newest copy; the flash write brings the image into force.
Model's choices it rests on: assumption log 24. -/
def Obligations.AnalyticsLoadResults : Prop :=
  ∀ (s : State) (op : Op), op.wf = true → RingOpen s op.ring → op.imm9 = 0 →
    let posted (status result : Nat) (t : State) : Prop := Posted op.ring 0x30 status result s t
    (op.ext.length = 1 → op.src = 1 ∧ within 1 4194304 (op.word 1) = true ∨
        op.src = 2 ∧ within 1 524288 (op.word 1) = true → s.aeloadLegal 1 = true →
      Completes (.aeloadBegin op) s fun t =>
        t.ae.load = some ⟨op.src, op.word 1, [], false, none⟩ ∧ t.flag AE_STATUS.LOADING = true ∧
          t.flag AE_STATUS.OVERLAY = false ∧ (op.src = 1 → t.flag AE_STATUS.MODEL = false) ∧ posted 0x01 0 t) ∧
    (∀ l, s.ae.load = some l → l.ending = none → op.ext.length = 2 → op.src = 0 → op.word 1 < 2 ^ 17 →
      within 1 98304 (op.word 2) = true → op.word 2 ≤ l.total - l.bytes.length →
      (op.word 2 % 4096 = 0 ∨ op.word 2 = l.total - l.bytes.length) → op.word 1 + op.word 2 ≤ pkgStagingBytes →
      s.rangeOwned ⟨true, op.word 1, op.word 2⟩ = false →
      let x : AeLoad := { l with bytes := l.bytes ++ s.areaStream true (op.word 1) (op.word 2) }
      Completes (.aeloadChunk op) s fun t =>
        match s.loadChecks x with
        | none => t.ae.load.map (·.bytes) = some x.bytes ∧ posted 0x01 x.bytes.length t
        | some status => t.ae.load = none ∧ posted 0x9B status t) ∧
    (op.ext = [] → op.src = 0 →
      (∀ l, s.ae.load = some l → l.ending = none →
        Completes (.aeloadAbort op) s (fun t => t.ae.load = none ∧ posted 0x01 0 t) ∧
        (l.total ≤ l.bytes.length → Completes (.aeloadEnd op) s fun t =>
          match s.packLate [l.kind] l.bytes with
          | .refused status _ => t.ae.load = none ∧ posted 0x9B status t
          | .passed img =>
              match s.imageStatus l.kind img with
              | some status => t.ae.load = none ∧ posted status 0 t
              | none => t.ae.load = some { l with ending := some (s.opRef op.ring 0x30) })) ∧
      (s.aeloadLegal 5 = true →
        (s.flag FL_STATUS.READY = false → Completes (.aeloadReload op) s (posted 0x9B 0)) ∧
        (s.flag FL_STATUS.READY = true → Completes (.aeloadReload op) s fun t =>
          match s.readCopy (s.newestCopy.getD 0) with
          | .ok (img, _) =>
              t.ae.base = img ∧ t.flag AE_STATUS.MODEL = true ∧ t.get AE_MODELID.ID = imageId img % 2 ^ 24 ∧
                posted 0x01 (t.get AE_MODELID.ID) t
          | .error _ => t.ae.load = none))) ∧
    ∀ (taken : Bool) work l ref, s.ae.load = some l → l.ending = some ref →
      let u := (s.flashWork 3 false work).setLoad none
      let held := if l.kind = 1 then (u.setAe { u.ae with basePack := l.bytes }).showModel
        else (u.setAe { u.ae with overlayPack := l.bytes, made := packSigner l.bytes == 5 }).showOverlay
      Completes (.modelFlashWriteDone taken work) s fun t =>
        t.ae.load = none ∧
          Done ref (if taken = true ∧ held.writeCopy.isSome = true then 0x01 else 0x02)
            (t.get (if l.kind = 1 then AE_MODELID.ID else AE_OVLID.ID)) s t ∧
          (l.kind = 1 → t.flag AE_STATUS.MODEL = true ∧ t.get AE_MODELID.ID = imageId s.ae.base % 2 ^ 24)

/-- R462, R464 to R466, R468, R470, R473, R475: a window is enabled only where it fits; AERUN queues a job, at
most four; the job at the head is planned or runs a slice; the last slice of a run posts its best class; a
job whose frame does not come ends.
Model's choices it rests on: assumption log 30. -/
def Obligations.AnalyticsJobResults : Prop :=
  ∀ (s : State) (op : Op), op.wf = true → RingOpen s op.ring →
    (let win := op.dst % 4 * 2 + op.src / 4
     let words := s.layer0.cin * s.layer0.len
     op.ext.length = 2 → op.src % 4 = 0 → bitOf (op.word 1) 15 = false → op.word 2 < 2 ^ 14 →
      s.powerIn [active, quiet, maint] = true → s.flag AE_STATUS.MODEL = true → s.ae.load = none →
      (if 4 ≤ op.dst then win = 0 ∧ op.word 2 + words ≤ genStagingWords
        else op.word 2 = 0 ∧ s.winFits win = true) →
      (s.ae.jobs.length < 4 → Completes (.aerun op) s fun t =>
        t.get AE_JOBQ.N = s.ae.jobs.length + 1 ∧ t.ae.jobs = s.ae.jobs ++
          [⟨s.opRef op.ring 0x31, .run (op.word 1 / 2 ^ 16) (op.word 1 % 2 ^ 15),
            if 4 ≤ op.dst then none else some win, op.word 2, words, op.imm9, none, none, [], [], 0, 0, 0, [], 0, [],
            false⟩]) ∧
      (4 ≤ s.ae.jobs.length → Completes (.aerun op) s (Posted op.ring 0x31 0x9A 0 s))) ∧
    (∀ j rest tag dest, s.ae.jobs = j :: rest → j.work = .run tag dest → s.coreUp = true →
      s.powerIn [active, maint] = true → s.flag AE_STATUS.OVERLAY = false → s.ae.sliceTick ≠ some s.tickCount →
      (j.plan = none → j.window = none →
        Completes .jobSlice s fun t =>
          match s.slices none s.sliceCycles (s.jobUnits j) ([], Pace.start) with
          | none => t.ae.jobs = rest ∧ Done j.ref 0x94 0 s t
          | some plan =>
              if aeStagingWords < dest + 8 + s.resultCount then t.ae.jobs = rest ∧ Done j.ref 0x98 0 s t
              else t.ae.jobs.head?.map (·.plan) = some (some plan)) ∧
      (∀ l cost, j.plan = some [([.whole l], cost)] → Completes .jobSlice s fun t =>
        let k := s.runLayer { j with plan := some [] } l
        let out := (sparseFind s.lastIndex k.outputs).getD []
        t.ae.jobs = rest ∧ t.get AE_LASTCYC.CYC = cost % 2 ^ 24 ∧
          Done j.ref 0x01 (boolNat (k.sats != 0) * 2 ^ 23 + argMax out % 2 ^ 16) s t)) ∧
    (∀ j rest k since, s.ae.jobs = j :: rest → j.window = some k → j.plan = none → j.since = some since →
      j.wait ≤ tickDiff since s.tickCount → s.coreUp = true → (s.aeWindow k).ready.all (·.held) = true →
        Completes .frameWaitTimeout s fun t =>
        t.ae.jobs = rest ∧ Done j.ref 0x97 0 s t) ∧
    ∀ (w : Writer) (k v : Nat), k < 8 → s.coreUp = true → s.mayRwm w (0xF100 + 32 * k) = true →
      let u := ((s.set (AE_WIN_A.FMT k) (AE_WIN_A.FMT k |>.of v)).set (AE_WIN_A.ISHIFT k) (AE_WIN_A.ISHIFT k |>.of v)).set
        (AE_WIN_A.CH k) (AE_WIN_A.CH k |>.of v)
      (s.flag (AE_WIN_A.EN k) = true → bitOf v 23 = false → Completes (.ingestWindowEnable w k v) s fun t =>
        t.flag (AE_WIN_A.EN k) = false ∧ (t.aeWindow k).fifo = [] ∧ (t.aeWindow k).part = [] ∧
          t.get (AE_WIN_A.CH k) = s.get (AE_WIN_A.CH k)) ∧
      (s.flag (AE_WIN_A.EN k) = false → bitOf v 23 = true →
        (u.winMayEnable k = true → Completes (.ingestWindowEnable w k v) s fun t =>
          t.flag (AE_WIN_A.EN k) = true ∧ t.get (AE_WIN_A.CH k) = bitsOf v 0 6) ∧
        (u.winMayEnable k = false → s.get SY_VIOLATIONS.COUNT < 2 ^ 24 - 1 →
          Completes (.ingestWindowEnable w k v) s fun t =>
            t.flag (AE_WIN_A.EN k) = false ∧ t.get SY_VIOLATIONS.COUNT = s.get SY_VIOLATIONS.COUNT + 1 ∧ t.ae = s.ae))

/-- R506, R507, R510, R512, R513, R515, R517: an adaptation starts, ends and starts again from the older copy;
EVENT and COMMIT queue; a published commit ends with its flash write; learning freezes and thaws; the overlay
is exported to the owner.
Model's choices it rests on: assumption log 28, 30, 32. -/
def Obligations.AdaptationResults : Prop :=
  ∀ (s : State) (op : Op), op.wf = true → RingOpen s op.ring →
    let y := s.lastLayer
    let n := y.ni * y.cout
    let job (work : AeWork) (window : Option Nat) (soff wait : Nat) : AeJob :=
      ⟨s.opRef op.ring 0x32, work, window, soff, s.layer0.cin * s.layer0.len, wait, none, none, [], [], 0, 0, 0, [],
        0, [],
        false⟩
    (op.ext = [] → op.src = 0 → op.imm9 < 2 → s.aeadaptLegal { op with dst := 1 } = true →
      (adaptable s.layers = false ∨ s.overlayLast = false →
        Completes (.aeadaptStart op) s (Posted op.ring 0x32 0x9C 0 s)) ∧
      (adaptable s.layers = true → s.overlayLast = true → Completes (.aeadaptStart op) s fun t =>
        t.flag AE_STATUS.ADAPTING = true ∧ t.get AE_NEVENTS.N = 0 ∧ Posted op.ring 0x32 0x01 n s t ∧
          (s.flag AE_STATUS.OVERLAY = false ∨ op.imm9 = 1 → t.ae.table = List.replicate n 0) ∧
          ∀ o, s.flag AE_STATUS.OVERLAY = true → op.imm9 = 0 → overlayOf s.ae.overlay = some o →
            t.get AE_STEP.STEP = o.steps.getD s.lastIndex 0 % 2 ^ 16)) ∧
    (let label := op.word 1 / 2 ^ 16
     let staging := decide (4 ≤ op.src)
     op.ext.length = 2 → aeadaptReserved { op with dst := 2 } = true → s.aeadaptLegal { op with dst := 2 } = true →
      label < y.cout → (staging = true → op.word 2 + s.layer0.cin * s.layer0.len ≤ genStagingWords) →
      (s.ae.jobs.length < 4 → Completes (.aeadaptEvent op) s fun t =>
        t.ae.jobs = s.ae.jobs ++ [job (.event label)
          (if staging then none else some (op.src % 4 * 2 + op.imm9 / 256)) (op.word 2) (op.word 1 % 2 ^ 9)]) ∧
      (4 ≤ s.ae.jobs.length → Completes (.aeadaptEvent op) s (Posted op.ring 0x32 0x9A 0 s))) ∧
    (op.ext = [] → op.src = 0 → op.imm9 = 0 →
      (s.aeadaptLegal { op with dst := 3 } = true → s.ae.jobs.length < 4 → Completes (.aeadaptCommit op) s fun t =>
        t.ae.jobs = s.ae.jobs ++ [job .commit none 0 0]) ∧
      (s.aeadaptLegal { op with dst := 4 } = true → Completes (.aeadaptEnd op) s fun t =>
        t.flag AE_STATUS.ADAPTING = false ∧ t.ae.table = [] ∧ Posted op.ring 0x32 0x01 (s.get AE_NEVENTS.N) s t) ∧
      (s.aeadaptLegal { op with dst := 5 } = true → adaptable s.layers = true → s.overlayLast = true →
        Completes (.aeadaptRebase op) s fun t =>
          match s.olderCopy with
          | none => Posted op.ring 0x32 0x9F 0 s t
          | some (img, ovl) =>
              if (overlayOf ovl).isSome = true ∧ s.rebaseOk img ovl = true then
                t.flag AE_STATUS.ADAPTING = true ∧ Posted op.ring 0x32 0x01 (t.get AE_HELD.N) s t
              else Posted op.ring 0x32 0x9F 0 s t) ∧
      (s.flag AE_STATUS.FROZEN = false → Completes (.aefreezeFreeze op) s fun t =>
        t.flag AE_STATUS.FROZEN = true ∧ t.flag AE_STATUS.PINNED = false ∧ t.ae.jobs = s.ae.jobs.filter (!·.cancelled) ∧
          ((∀ j ∈ s.ae.jobs, j.cancelled = false) → Posted op.ring 0x34 0x01 0 s t)) ∧
      (s.flag AE_STATUS.FROZEN = true → Completes (.aefreezeThaw op) s fun t =>
        t.flag AE_STATUS.FROZEN = false ∧ Posted op.ring 0x34 0x01 0 s t)) ∧
    (let total := packLengthOf s.ae.overlay.length
     op.ext.length = 1 → op.dst = 0 → op.src = 0 → op.imm9 = 0 → op.word 1 < pkgStagingBytes →
      s.flag AE_STATUS.OVERLAY = true → s.ae.made = true → s.ae.load = none → s.commitQueued = false →
      s.flag SE_EXPCFG.VALID = true →
      (s.ownerKey (s.get SE_EXPCFG.OWNER) = none → Completes (.aeexport op) s (Posted op.ring 0x33 0x9B 0xB3 s)) ∧
      ∀ key, s.ownerKey (s.get SE_EXPCFG.OWNER) = some key →
        Completes (.aeexport op) s (if pkgStagingBytes < op.word 1 + total then Posted op.ring 0x33 0x9E 0 s
          else Posted op.ring 0x33 0x01 total s)) ∧
    ∀ (taken : Bool) work j rest, s.ae.jobs = j :: rest → j.published = true →
      let drawn := (s.flashWork 3 false work).drawTarget
      let id := s.get AE_OVLID.ID
      let made := drawn.2.makePack ⟨2, id, id, 0, drawn.1, 3, []⟩ s.ae.overlay
      let held := made.2.setAe { made.2.ae with overlayPack := made.1 }
      Completes (.commitFlashDone taken work) s fun t =>
        t.ae.jobs = rest ∧ Done j.ref (if taken = true ∧ held.writeCopy.isSome = true then 0x01 else 0x02) (le (s.ae.overlay.drop 160) 20 3) s t

/-! ## The compression unit (R496 to R505) -/

/-- R496, R501, R502: CPPACK, CPUNPACK and CPCHECK queue, at most four; a COUNT of 0 completes at once. R480 to
R485, R497 to R499: what the instruction in progress posts at its end, by FMT: the coded or decoded bytes, what
was flushed or saturated, and the first block that fails. Model's choices it rests on: assumption log 23, 26. -/
def Obligations.CompressionResults : Prop :=
  (∀ (s : State) (op : Op), op.wf = true → RingOpen s op.ring → op.ext.length = 3 → op.src = 0 → op.imm9 = 0 →
     s.powerIn [standby, active, quiet, maint] = true → bitsOf (op.word 1) 17 6 = 0 → bitsOf (op.word 2) 17 6 = 0 →
     let queues (kind opcode fmt : Nat) (completes : (State → Prop) → Prop) : Prop :=
       let src := cpSource kind fmt (op.word 3) (bitOf (op.word 1) 23) (op.word 1 % 2 ^ 17)
       let dst := cpDestination kind fmt (op.word 3) (bitOf (op.word 2) 23) (op.word 2 % 2 ^ 17) (s.rangeBytes src)
       (kind = 3 → fmt ≠ 4 → op.word 2 = 0) → src.inside = true → dst.inside = true → s.rangeOwned src = false →
         s.rangeOwned dst = false → src.meets dst = false →
         (4 ≤ s.cp.length → completes (Posted op.ring opcode 0xA9 0 s)) ∧
         (s.cp.length < 4 → op.word 3 = 0 → completes (Posted op.ring opcode 0x01 0 s)) ∧
         (s.cp.length < 4 → op.word 3 ≠ 0 → completes fun t =>
           t.cp = s.cp ++ [⟨s.opRef op.ring opcode, kind, fmt, op.word 3, src, dst⟩])
     queues 1 0x35 1 (Completes (.cppackBew128 op) s) ∧ queues 1 0x35 2 (Completes (.cppackBea16 op) s) ∧
       queues 1 0x35 3 (Completes (.cppackVds op) s) ∧ queues 2 0x36 1 (Completes (.cpunpackBew128 op) s) ∧
       queues 2 0x36 2 (Completes (.cpunpackBea16 op) s) ∧ queues 2 0x36 3 (Completes (.cpunpackVds op) s) ∧
       queues 3 0x37 1 (Completes (.cpcheckBew128 op) s) ∧ queues 3 0x37 3 (Completes (.cpcheckVds op) s) ∧
       queues 3 0x37 4 (Completes (.cpcheckChunkCrc op) s)) ∧
  (∀ (s : State) (j : CpJob) (rest : List CpJob), s.cp = j :: rest →
     let src := s.rangeBytes j.src
     let words (k : Nat) : List Nat := (inChunks k src).map littleEndian
     let done (Q : State → Prop) : Prop := Completes (.unitCompletion 16) s fun t => t.cp = rest ∧ Q t
     let stored (out : List Nat) (t : State) : Prop :=
       ∀ off, off < 0x80000 ∨ 0x90000 ≤ off → t.slot off = (s.putArea j.dst.package j.dst.first out).slot off
     let failed (status block : Nat) (t : State) : Prop :=
       t.get CP_FAILS.COUNT = (s.get CP_FAILS.COUNT + 1) % 2 ^ 24 ∧ t.get CP_LASTFAIL.STATUS = status % 2 ^ 8 ∧
         t.get CP_LASTFAIL.BLOCK = block % 2 ^ 16 ∧ Done j.ref status block s t
     let packed (out : List Nat) (lost : Nat) (t : State) : Prop :=
       stored out t ∧ t.get CP_PACKS.COUNT = (s.get CP_PACKS.COUNT + 1) % 2 ^ 24 ∧
         if lost = 0 then Done j.ref 0x01 out.length s t else Done j.ref 0x02 (min lost 0xFFFFFF) s t
     (j.kind = 1 → j.fmt = 1 → done fun t =>
       let blocks := inChunks 128 (words 2)
       if blocks.any (·.any fun w => bfExp w == 255) then Done j.ref 0xA1 0 s t
       else packed (blocks.flatMap bewEncode) ((blocks.map bewFlushes).sum) t) ∧
     (j.kind = 1 → j.fmt = 2 → done fun t =>
       let blocks := inChunks 16 ((words 3).map (toSigned 24))
       packed (blocks.flatMap beaEncode) ((blocks.map beaSaturations).sum) t) ∧
     (j.kind = 1 → j.fmt = 3 → done fun t =>
       let values := (words 2).map (toSigned 16)
       let body := vdsBuild (inChunks 128 values)
       if values.any fun q => decide (q < -2048) || decide (2047 < q) then Done j.ref 0xA1 0 s t
       else if j.dst.len < body.length then Done j.ref 0xA2 0 s t
       else packed body 0 t) ∧
     (j.kind = 2 → done fun t =>
       match cpDecode j.fmt src with
       | none => failed 0xA4 0 t
       | some (blocks, some i, status) => stored blocks.flatten t ∧ failed status i t
       | some (blocks, none, _) =>
           stored blocks.flatten t ∧ t.get CP_UNPACKS.COUNT = (s.get CP_UNPACKS.COUNT + 1) % 2 ^ 24 ∧
             Done j.ref 0x01 (if j.fmt = 2 then blocks.flatten.length / 3 else blocks.flatten.length) s t) ∧
     (j.kind = 3 → j.fmt ≠ 4 → done fun t =>
       match cpDecode j.fmt src with
       | none => failed 0xA4 0 t
       | some (_, some i, status) => failed status i t
       | some (blocks, none, _) => Done j.ref 0x01 blocks.length s t) ∧
     (j.kind = 3 → j.fmt = 4 → done fun t =>
       match badChunk (s.rangeBytes j.dst) 0 (inChunks 4096 src) with
       | some k => failed 0xA7 k t
       | none => Done j.ref 0x01 (ceilDiv src.length 4096) s t))

/-! ## The security unit (R522 to R547) -/

/-- R539, R541, R543, R544: SEVERIFY, SEOPEN, SESEAL and SEKEY queue, at most four; the main host names the export's
owner, who must hold a key. R525, R526, R532, R535 to R538, R540: what the security instruction in progress does
and posts at its end. Model's choices it rests on: assumption log 24, 27, 28, 88. -/
def Obligations.SecurityResults : Prop :=
  (∀ (s : State) (op : Op), op.wf = true → RingOpen s op.ring →
     let queues (opcode : Nat) (work : SeWork) (ranges : List StageRange) (completes : (State → Prop) → Prop) : Prop :=
       (s.se.queue.length < 4 → completes fun t => t.se.queue = s.se.queue ++ [⟨s.opRef op.ring opcode, work, ranges⟩]) ∧
       (4 ≤ s.se.queue.length → completes (Posted op.ring opcode 0xBF 0 s))
     (s.powerIn [standby, active, quiet, maint] = true →
       (op.ext.length = 1 → op.dst = 0 → op.src = 0 → op.imm9 = 0 → op.word 1 < pkgStagingBytes →
         let pack : StageRange := ⟨true, op.word 1, (s.stagedPack (op.word 1)).length⟩
         queues 0x38 (.verify (op.word 1)) [pack] (Completes (.severify op) s) ∧
           queues 0x39 (.openPack (op.word 1)) [pack] (Completes (.seopen op) s)) ∧
       (let soff := op.word 2
        let len := op.word 3
        let doff := op.word 4
        op.ext.length = 4 → (op.dst = 0 ∧ op.src = 0 ∨ op.dst = 2 ∧ op.src < 4) → op.imm9 = 0 → doff < pkgStagingBytes →
         1 ≤ len → len ≤ 36864 → soff + len ≤ genStagingBytes →
         queues 0x3A (.sealed op.dst op.src (op.word 1) soff len doff s.now (s.get TM_STATUS.QUAL))
           [⟨false, soff, len⟩, ⟨true, doff, min (packLengthOf len) (pkgStagingBytes - doff)⟩] (Completes (.seseal op) s))) ∧
     (op.src = 0 →
       (op.ext = [] → op.imm9 < 8 → s.mcState = mcIdle → bitOf (s.get SE_CARDST.ENT) op.imm9 = true →
         queues 0x3B (.rpmb op.imm9) [] (Completes (.sekeyRpmb op) s)) ∧
       (op.ext = [] → op.imm9 = 0 → queues 0x3B .rpmbClear [] (Completes (.sekeyRpmbclear op) s)) ∧
       (op.ext.length = 1 → op.imm9 = 0 → op.word 1 + 224 ≤ pkgStagingBytes → s.power = maint →
         queues 0x3B (.owner 1 (op.word 1)) [⟨true, op.word 1, 224⟩] (Completes (.sekeyOwnerset op) s) ∧
         queues 0x3B (.owner 2 (op.word 1)) [⟨true, op.word 1, 224⟩] (Completes (.sekeyOwnerrevoke op) s))) ∧
     ∀ (w : Writer) owner,
       (w = .host → s.coreUp = true → s.ownerSet (owner % 4) = true → Completes (.exportOwnerWrite w owner) s fun t =>
         t.flag SE_EXPCFG.VALID = true ∧ t.get SE_EXPCFG.OWNER = owner % 4) ∧
       (w ≠ .host ∨ s.coreUp = false ∨ s.ownerSet (owner % 4) = false → s.get SY_VIOLATIONS.COUNT < 2 ^ 24 - 1 →
         Completes (.exportOwnerWrite w owner) s fun t =>
           t.get SE_EXPCFG.OWNER = s.get SE_EXPCFG.OWNER ∧ t.flag SE_EXPCFG.VALID = s.flag SE_EXPCFG.VALID ∧
             t.get SY_VIOLATIONS.COUNT = s.get SY_VIOLATIONS.COUNT + 1)) ∧
  (∀ (s : State) (j : SeJob) (rest : List SeJob), s.se.queue = j :: rest →
     let done (Q : State → Prop) : Prop := Completes (.unitCompletion 17) s fun t => t.se.queue = rest ∧ Q t
     let failed (status result : Nat) (t : State) : Prop :=
       t.get SE_FAILS.COUNT = (s.get SE_FAILS.COUNT + 1) % 2 ^ 24 ∧ Done j.ref status result s t
     (∀ off, j.work = .verify off →
       let p := s.stagedPack off
       done fun t =>
         match s.verifyPack allKinds true (packInside off p) p with
         | .refused status result => failed status result t
         | .passed _ => Done j.ref 0x01 (packKind p * 2 ^ 21 + packBytesLen p) s t) ∧
     (∀ off, j.work = .openPack off →
       let p := s.stagedPack off
       (headerOk p = false → done (failed 0xB1 0)) ∧
       (headerOk p = true → packInside off p = true → packKind p = 4 → s.power ≠ maint →
         s.get SY_VIOLATIONS.COUNT < 2 ^ 24 - 1 → done fun t =>
           t.get SY_VIOLATIONS.COUNT = s.get SY_VIOLATIONS.COUNT + 1 ∧ Done j.ref 0x00 0 s t) ∧
       (headerOk p = true → packInside off p = true → s.addressed p = true → s.signerOk allKinds p = true →
         packKind p ≤ 2 → done (failed 0xBA 0))) ∧
     (∀ owner id soff len doff time qual, j.work = .sealed 0 owner id soff len doff time qual →
       let total := packLengthOf len
       let seq := s.getPair SE_SEALSEQH.SEQ SE_SEALSEQL.SEQ
       done fun t =>
         if pkgStagingBytes < doff + total then Done j.ref 0xBD 0 s t
         else Done j.ref 0x01 total s t ∧ t.getPair SE_SEALSEQH.SEQ SE_SEALSEQL.SEQ = (seq + 1) % 2 ^ 48) ∧
     (∀ owner id soff len doff time qual, j.work = .sealed 2 owner id soff len doff time qual →
       s.ownerKey owner = none → done (Done j.ref 0xB3 0 s)) ∧
     (∀ entry, j.work = .rpmb entry → s.mcState ≠ mcInactive → s.mcState ≠ mcDeactivating → done fun t =>
       t.flag SE_RPMBST.LOADED = true ∧ t.get SE_RPMBST.ENTRY = entry % 8 ∧ t.mc.key.isSome = true ∧
         Done j.ref 0x01 0 s t) ∧
     (j.work = .rpmbClear → done fun t =>
       t.flag SE_RPMBST.LOADED = false ∧ t.get SE_RPMBST.ENTRY = 0 ∧ t.mc.key = none ∧ Done j.ref 0x01 0 s t) ∧
     (∀ action off, j.work = .owner action off → action = 1 ∨ action = 2 →
       let m := s.areaStream true off 224
       let slot := m.getD 3 0
       done fun t =>
         if s.statementOk action m = true then t.otpState (3 + slot) = action ∧ Done j.ref 0x01 slot s t
         else Done j.ref 0xBB 0 s t))

/-! ## The faceplate (R548 to R564) -/

/-- R549, R550 to R553, R561, R562: FPIND SET and STATUS, the completion of SET at the edge after it, and what each
kind of measurement of an indicator finds; the third bad result in a row opens a fault.
Model's choices it rests on: assumption log 56, 95, 103. -/
def Obligations.IndicatorResults : Prop :=
  ∀ s : State,
    (∀ op : Op, op.wf = true → RingOpen s op.ring → op.src = 0 → op.imm9 < 256 →
      (op.ext.length = 1 → op.imm9 ≠ 0 → bitsOf (op.word 1) 11 5 = 0 → lampSetOk (op.word 1) = true →
        s.lampsSettable = true → Completes (.fpindSet op) s fun t =>
          t.fp.sets = s.fp.sets ++ [(s.opRef op.ring 0x3C, s.tick.edges)] ∧
            ∀ k < 8, t.get (FP_IND_A.SET k) = if bitOf op.imm9 k then op.word 1 else s.get (FP_IND_A.SET k)) ∧
      (op.ext = [] → op.imm9 = 0 → Completes (.fpindStatus op) s (Posted op.ring 0x3C 0x01 s.diag s))) ∧
    (∀ ref t₀ rest, s.fp.sets = (ref, t₀) :: rest → t₀ ≠ s.tick.edges → Completes (.unitCompletion 18) s fun t =>
      t.fp.sets = rest ∧ Done ref 0x01 0 s t) ∧
    ∀ k current pinv : Nat, k < 8 → s.lampsRun = true →
      let found (result : Nat) (t : State) : Prop :=
        t.get (FP_IND_C.LAST k) = result ∧ t.get (FP_IND_C.PINV k) = pinv % 2 ^ 10 ∧
          (result ≠ lampGood → (s.lamp k).fault = none → 2 ≤ (s.lamp k).bad → t.maskBit FP_STATUS.FAULT k = true) ∧
          (result = lampGood → (s.lamp k).fault ≠ none → 2 ≤ (s.lamp k).good → t.maskBit FP_STATUS.FAULT k = false)
      let lit :=
        if 2 * current < 1000 * s.lampMa k then lampOpen
        else if s.get FP_DIAGV.SHORTV < pinv then lampShort
        else lampGood
      (s.lampLit k = true → 13 ≤ s.lampDuty k → s.lampPhase k = true → s.lampDue (s.lamp k).pulseAt 100000 = true →
        Completes (.indicatorMeasurement k current pinv) s (found lit)) ∧
      (s.lampLit k = true → s.lampDuty k ≤ 12 → s.flag (FP_IND_B.PROVE k) = true → s.lampPhase k = true →
        s.lampDue (s.lamp k).provedAt (100000000 * s.get (FP_IND_B.PERIOD k)) = true →
          Completes (.provingPulse k current pinv) s (found lit)) ∧
      (s.flag (FP_IND_B.PROBE k) = true → s.lampLit k = false ∨ s.lampPhase k = false ∨ s.lampDuty k ≤ 798 →
        s.lampDue (s.lamp k).probedAt (100000000 * s.get (FP_IND_B.PERIOD k)) = true →
          Completes (.offStateProbe k pinv) s
          (found (if pinv < 30 then lampOpen else if s.get FP_DIAGV.SHORTV < pinv then lampShort else lampGood)))

/-- R555 to R558, R560: the first baseline and its loop, a touch, its release, an anti-touch and a touch held too
long, and the end of the steady indication. Model's choices it rests on: assumption log 49, 56, 57, 95, 103.
R558, R559, R561, R562: FPKEY raises a request, which ends at once where every named port is inactive; cancels
it; rebaselines; and reports. -/
def Obligations.ReleaseKeyResults : Prop :=
  (∀ (s : State) (sample : Nat),
     let delta : Int := (min sample 4095 : Nat) - (s.get FP_BASE.CNT : Int)
     let sampled (t : State) : Prop := t.get FP_SAMPLE.CNT = min sample 4095
     (∀ samples, s.keyRuns = true → samples.getLast? = some sample →
       (s.fp.based = true → samples.length = 64 → s.due (s.fp.updateAt + 32000000) = true →
         Completes (.baselineUpdate samples) s sampled) ∧
       (s.fp.based = false → 8 ≤ samples.length → s.due (s.fp.updateAt + 4500000) = true → s.flag FP_CTL.BLLOOP = true →
         Completes (.baselineUpdate samples) s fun t =>
           sampled t ∧ t.fp.based = true ∧ t.get FP_BASE.CNT = (samples.take 8).sum / 8 % 2 ^ 24)) ∧
     (s.keyRuns = true → s.fp.based = true → s.get FP_BASE.CNT ≤ 4095 →
       let held : Prop := s.due (s.fp.lowAt + 100000 * s.get FP_KEYTIME.TOUCHMIN) = true
       ((s.get FP_TOUCHTHR.CNT : Int) ≤ delta → held → s.flag FP_STATUS.TOUCHED = false →
         s.flag FP_STATUS.STUCK = false →
         s.get FP_KEYCFG.TARGET = 0 → s.flag FP_STATUS.RELREQ = false → Completes (.keyTouch sample) s fun t =>
           sampled t ∧ t.flag FP_STATUS.TOUCHED = true ∧ t.flag FP_STATUS.RELREQ = false ∧
             t.get FP_TOUCHES.COUNT = (s.get FP_TOUCHES.COUNT + 1) % 2 ^ 24) ∧
       ((s.get FP_TOUCHTHR.CNT : Int) ≤ delta → held → s.flag FP_STATUS.TOUCHED = false →
         s.flag FP_STATUS.STUCK = false →
         s.flag FP_STATUS.RELREQ = true → s.releaseBegun = false → Completes (.keyTouch sample) s fun t =>
           t.flag FP_STATUS.TOUCHED = true ∧ t.flag FP_STATUS.RELREQ = false ∧ t.flag SC_STATUS.RELREQ = false ∧
             t.flag MC_STATUS.RELREQ = false) ∧
       ((s.get FP_TOUCHTHR.CNT : Int) ≤ delta → held → s.flag FP_STATUS.TOUCHED = false →
         s.flag FP_STATUS.STUCK = false →
         s.flag FP_STATUS.RELREQ = true → s.releaseBegun = true → Completes (.keyTouch sample) s fun t =>
           t.flag FP_STATUS.TOUCHED = true ∧ t.flag FP_STATUS.RELREQ = true) ∧
       ((s.get FP_TOUCHTHR.CNT : Int) ≤ delta → held → s.flag FP_STATUS.TOUCHED = false →
         s.flag FP_STATUS.STUCK = false → s.flag FP_STATUS.RELREQ = false → s.get FP_KEYCFG.TARGET ≠ 0 →
         s.get FP_KEYCFG.TARGET < 4 →
         (bitOf (s.get FP_KEYCFG.TARGET) 0 = true → s.scState ≠ scInactive ∧ s.scState ≠ scIdle) →
         (bitOf (s.get FP_KEYCFG.TARGET) 1 = true → s.mcState ≠ mcInactive ∧ s.mcState ≠ mcIdle) →
         Completes (.keyTouch sample) s fun t =>
           t.flag FP_STATUS.TOUCHED = true ∧ t.flag FP_STATUS.RELREQ = true ∧ t.fp.target = s.get FP_KEYCFG.TARGET ∧
             (bitOf (s.get FP_KEYCFG.TARGET) 0 = true → t.flag SC_STATUS.RELREQ = true) ∧
             (bitOf (s.get FP_KEYCFG.TARGET) 1 = true → t.flag MC_STATUS.RELREQ = true)) ∧
       (delta < (s.get FP_TOUCHTHR.CNT - s.get FP_TOUCHTHR.CNT / 8 : Nat) →
         Completes (.keyTouchRelease sample) s fun t =>
         sampled t ∧ t.flag FP_STATUS.TOUCHED = false) ∧
       (delta ≤ -(s.get FP_ANTITHR.CNT : Int) → Completes (.keyAntiTouch sample) s fun t =>
         sampled t ∧ t.flag FP_STATUS.TOUCHED = false ∧ t.flag FP_STATUS.STUCK = false ∧
           (s.flag FP_CTL.BLLOOP = true → s.get FP_BLMIN.CNT ≤ min sample 4095 → min sample 4095 ≤ s.get FP_BLMAX.CNT →
             t.get FP_BASE.CNT = min sample 4095))) ∧
     (s.keyRuns = true → s.flag FP_STATUS.TOUCHED = true →
       s.due (s.fp.touchedAt + 100000000 * s.get FP_KEYTIME.HOLDMAX) = true → Completes (.keyHeldStuck sample) s fun t =>
       sampled t ∧ t.flag FP_STATUS.STUCK = true ∧ t.flag FP_STATUS.TOUCHED = false ∧
         t.get FP_STUCKS.COUNT = (s.get FP_STUCKS.COUNT + 1) % 2 ^ 24) ∧
     ∀ target since, s.fp.steady = some (target, since) → s.due (since + 6000000000) = true →
       Completes .feedbackSteadyTimeout s fun t => t.fp.steady = none) ∧
  (∀ (s : State) (op : Op), op.wf = true → RingOpen s op.ring → op.ext = [] → op.src = 0 → op.imm9 = 0 →
     let target := s.get FP_KEYCFG.TARGET
     let requested (b : Bool) (t : State) : Prop :=
       t.flag FP_STATUS.RELREQ = b ∧ (bitOf target 0 = true → t.flag SC_STATUS.RELREQ = b) ∧
         (bitOf target 1 = true → t.flag MC_STATUS.RELREQ = b) ∧ Posted op.ring 0x3D 0x01 0 s t
     (target ≠ 0 → target < 4 → s.flag FP_STATUS.RELREQ = false →
       ((bitOf target 0 = true → s.scState ≠ scInactive ∧ s.scState ≠ scIdle) →
         (bitOf target 1 = true → s.mcState ≠ mcInactive ∧ s.mcState ≠ mcIdle) →
         Completes (.fpkeyRaise op) s (requested true)) ∧
       ((bitOf target 0 = true → s.scState = scInactive ∧ s.scHolds = false) → (bitOf target 1 = true → s.mcState = mcInactive) →
         Completes (.fpkeyRaise op) s (requested false))) ∧
     (s.flag FP_STATUS.RELREQ = true → s.releaseBegun = false → Completes (.fpkeyCancel op) s (requested false)) ∧
     (s.flag FP_CTL.BLLOOP = true → Completes (.fpkeyRebase op) s fun t =>
       Posted op.ring 0x3D 0x01 0 s t ∧
         (s.get FP_BLMIN.CNT ≤ s.get FP_SAMPLE.CNT → s.get FP_SAMPLE.CNT ≤ s.get FP_BLMAX.CNT →
           t.get FP_BASE.CNT = s.get FP_SAMPLE.CNT % 2 ^ 24)) ∧
     Completes (.fpkeyStatus op) s (Posted op.ring 0x3D 0x01 s.fpStatus s))

/-! ## The side-band port (R565 to R580) -/

/-- R566 to R571, R574 to R577: the transactions of the side-band port, the heartbeat and stewardship.
Model's choices it rests on: assumption log 58, 79, 95. -/
def Obligations.SideBandResults : Prop :=
  ∀ (s : State) (w : Writer),
    (∀ up, s.power ≠ 0 → Completes (.smbusBusEngage up) s fun t => t.flag SB_STATUS.BUSPWR = up) ∧
    (s.busEngaged = true →
      (∀ c d0 d1 d2 : Nat, c < 256 → d0 < 256 → d1 < 256 → d2 < 256 →
        let off := s.pageSlot c
        (genStaging ≤ off → off < 0x100000 → s.ownedRanges = [] → s.coreUp = true →
          Completes (.smbusRegisterWrite [c, d0, d1, d2, pec [s.addressByte false, c, d0, d1, d2]]) s fun t =>
            t.slot off = d0 + d1 * 2 ^ 8 + d2 * 2 ^ 16) ∧
        (∀ p < 256, p ≠ pec [s.addressByte false, c, d0, d1, d2] % 256 →
          Completes (.smbusRegisterWrite [c, d0, d1, d2, p]) s fun t =>
            t.get SB_PECERR.COUNT = (s.get SB_PECERR.COUNT + 1) % 2 ^ 24 ∧ t.slot off = s.slot off)) ∧
      (∀ page < 1024, Completes (.smbusPageSelect [0xFF, page % 256, page / 256,
        pec [s.addressByte false, 0xFF, page % 256, page / 256]]) s fun t => t.get SB_PAGE.PAGE = page) ∧
      (∀ command : Option Nat,
        let c := command.getD s.sb.command
        let v := s.drainWindows.readSlot (s.pageSlot c)
        let data := [v % 256, v / 2 ^ 8 % 256, v / 2 ^ 16 % 256]
        let sent := match command with
          | some c => [s.addressByte false, c, s.addressByte true]
          | none => [s.addressByte true]
        Completes (.smbusRegisterRead command 4) s fun t =>
          t.sb.answer = data ++ [pec (sent ++ data)] ∧ t.sb.command = c) ∧
      Completes .smbusFormError s (fun t => t.get SB_FORMERR.COUNT = (s.get SB_FORMERR.COUNT + 1) % 2 ^ 24) ∧
      (s.flag SB_CFG.TOUTEN = true → Completes .smbusTimeout s fun t =>
        t.get SB_TIMEOUTS.COUNT = (s.get SB_TIMEOUTS.COUNT + 1) % 2 ^ 24)) ∧
    (Completes (.heartbeatBeat .host) s fun t =>
      t.get SB_HBAGE.MS = 0 ∧
        t.heartbeat = if s.heartbeat = hbUnarmed ∨ s.heartbeat = hbLapsed then hbAlive else s.heartbeat) ∧
    (s.heartbeat = hbAlive ∨ (s.heartbeat = hbUnarmed ∧ s.get SB_HBBOOT.S ≠ 0) → s.due s.lapseAt = true →
      Completes .heartbeatLapse s fun t =>
      t.heartbeat = hbLapsed ∧ t.get SB_LAPSES.COUNT = (s.get SB_LAPSES.COUNT + 1) % 2 ^ 24) ∧
    (1 ≤ s.get SB_HBCFG.PERIOD → s.get SB_HBCFG.PERIOD ≤ 10000 →
      Completes (.heartbeatEnableWrite .host false) s (fun t => t.heartbeat = hbOff ∧ t.flag SB_HBCFG.EN = false) ∧
      Completes (.heartbeatEnableWrite .host true) s (fun t =>
        t.flag SB_HBCFG.EN = true ∧ t.heartbeat = if s.heartbeat = hbOff then hbUnarmed else s.heartbeat)) ∧
    (s.heartbeat = hbLapsed → s.steward = false → Completes (.stewardTake .sideBand) s fun t =>
      t.steward = true ∧ t.get SB_STATUS.CAUSE = 1 ∧ t.ring15.seize = (s.coreUp && !s.sideBandOwns15)) ∧
    (s.steward = true → s.flag QU_R15CTL.SEIZED = false → Completes (.stewardRelease .sideBand) s fun t =>
      t.steward = false ∧ t.get SB_STATUS.CAUSE = 0) ∧
    (w ≠ .sideBand ∨ (s.heartbeat ≠ hbLapsed ∧ s.steward = false) → s.get SY_VIOLATIONS.COUNT < 2 ^ 24 - 1 →
      Completes (.stewardTake w) s fun t =>
        t.get SY_VIOLATIONS.COUNT = s.get SY_VIOLATIONS.COUNT + 1 ∧ t.steward = s.steward)

/-! ## Cold start (R581 to R590, R593) -/

/-- R194, R223, R246, R565, R581 to R584, R593: a cold start from OFF leaves the core down, takes the address of
the pins, counts itself, and ends in LATCHED where the latch record is set and in DORMANT otherwise; the loss of
VDD_AON ends in OFF and keeps the records, or the older copy of one whose write it cut short. Model's choices it
rests on: assumption log 5, 6, 78. -/
def Obligations.StartUpResults : Prop :=
  ∀ s : State,
    (∀ sa validA validB r, s.power = 0 → Completes (.coldStart sa validA validB r) s fun t =>
      t.coreUp = false ∧ t.power = (if t.get PW_LATCH.CAUSE = 0 then dormant else latched) ∧
        (s.se.copies.getD 0 none = none → s.se.copies.getD 1 none = none →
          t.get SB_ADDR.ADDR = 0x58 + sa % 8 ∧ t.get SY_STARTINFO.PSRC = 0 ∧
            t.get PW_LATCH.CAUSE = s.get PW_LATCH.CAUSE ∧
            t.get SY_COLDSTARTS.COUNT = min (s.get SY_COLDSTARTS.COUNT + 1) (2 ^ 24 - 1))) ∧
    ∀ saveTorn rootTorn, Completes (.vddAonLoss saveTorn rootTorn) s fun t =>
      (saveTorn = false ∨ s.sv.recordAt ≠ s.clock → t.sv.record = s.sv.record) ∧
      (∀ r, saveTorn = true → s.sv.recordAt = s.clock → s.sv.oldRecord = some r → t.sv.record = r) ∧
      (rootTorn = false ∨ s.fl.rootAt ≠ s.clock → t.fl.root = s.fl.root) ∧
      (∀ r v, rootTorn = true → s.fl.rootAt = s.clock → s.fl.oldRoot = some r → s.fl.oldStore = some v →
        t.fl.root = some r ∧ t.fl.uses = v.uses ∧ t.fl.base = v.base ∧ t.fl.journal = v.journal) ∧
      (rootTorn = true → s.fl.rootAt = s.clock → s.fl.oldRoot = none → t.fl.root = none) ∧
      t.power = 0 ∧ t.coreUp = false ∧ t.running = false ∧ t.get PW_LATCH.CAUSE = s.get PW_LATCH.CAUSE ∧
        t.get SY_COLDSTARTS.COUNT = s.get SY_COLDSTARTS.COUNT

/-! ## What the unit instructions leave alone -/

/-- R106 to R108, R142, R168, R330, R332, R348, R357, R379, R428, R465, R496, R541, R561: a unit instruction that
queues its work, or completes at once, changes its own unit, its ring, the completion queues and what an
event changes: no byte of staging, of the program store or of DRAM, and no other unit's registers. -/
def Obligations.UnitInstructionFrames : Prop :=
  ∀ (s : State) (op : Op), op.wf = true →
    let kept (unit : Nat) (t : State) : Prop :=
      KeepsBlocks [0, 2, 0xA, unit] s t ∧ (∀ off, off < 0x80000 ∨ 0x90000 ≤ off → t.slot off = s.slot off) ∧
        t.store = s.store ∧ (∀ a, t.hp.dram.byte a = s.hp.dram.byte a) ∧ t.sv = s.sv ∧ t.pw = s.pw ∧ t.bt = s.bt
    let within (unit : Nat) (l : List Instr) : Prop := ∀ c ∈ l, Whenever c s (kept unit)
    within 3 [.lendSnapshot op, .lendScrub op, .lendRetrain op, .scrub op] ∧ within 4 [.foldHold op, .foldRelease op] ∧
      within 6 [.flinfo op] ∧
      within 0xA [.tmark op, .tslew op, .tcapNow op, .tcapPpsIn op, .tcapIrigb op, .tcapPpsOut op] ∧
      within 0xB [.scdeact op, .scclkStop op, .scclkStart op, .scclkRate op] ∧
      within 0xC [.mcwpStatus op, .mcwpTmpset op, .mcwpTmpclr op, .mcwpPermset op] ∧ within 0xD [.uaxfrSend op] ∧
      within 0xE [.lksend op, .lktimeStatus op, .lktimeClaim op] ∧
      within 0xF [.aerun op, .aeadaptEvent op, .aeadaptCommit op, .aeadaptEnd op, .aefreezeThaw op] ∧
      within 0x10 [.cppackBew128 op, .cppackBea16 op, .cppackVds op, .cpunpackBew128 op, .cpunpackBea16 op,
        .cpunpackVds op,
        .cpcheckBew128 op, .cpcheckVds op, .cpcheckChunkCrc op] ∧
      within 0x11 [.severify op, .seopen op, .seseal op, .sekeyRpmb op, .sekeyRpmbclear op, .sekeyOwnerset op,
        .sekeyOwnerrevoke op] ∧
      within 0x12 [.fpindSet op, .fpindStatus op, .fpkeyStatus op]

end Statements
end

