-- ==== Sys2Proof/Laws/Sparse.lean ====
section
/-! SUPPORT. The laws of sparse maps: what a find answers after a change, and that every change keeps
the canonical form. -/

namespace Sys2Proof

variable {α : Type}

@[simp] theorem sparseFind_put_same (k : Nat) (v : α) (l : Sparse α) : sparseFind k (sparsePut k v l) = some v := by
  induction l with
  | nil => simp [sparsePut, sparseFind]
  | cons p l ih =>
      obtain ⟨k', v'⟩ := p
      by_cases h : k < k'
      · simp [sparsePut, sparseFind, h]
      · by_cases h' : k = k'
        · simp [sparsePut, sparseFind, h']
        · simp [sparsePut, sparseFind, h, h', ih]

theorem sparseFind_put_ne {j k : Nat} (v : α) (l : Sparse α) (hne : j ≠ k) :
    sparseFind j (sparsePut k v l) = sparseFind j l := by
  induction l with
  | nil => simp [sparsePut, sparseFind, hne]
  | cons p l ih =>
      obtain ⟨k', v'⟩ := p
      by_cases h : k < k'
      · simp [sparsePut, sparseFind, h, hne]
      · by_cases h' : k = k'
        · subst h'; simp [sparsePut, sparseFind, hne]
        · by_cases hj : j = k' <;> simp [sparsePut, sparseFind, h, h', ih, hj]

@[simp] theorem sparseFind_drop_same (k : Nat) (l : Sparse α) : sparseFind k (sparseDrop k l) = none := by
  induction l with
  | nil => rfl
  | cons p l ih =>
      obtain ⟨k', v'⟩ := p
      by_cases h : k = k'
      · simpa [sparseDrop, h] using h ▸ ih
      · simp [sparseDrop, sparseFind, h, ih]

theorem sparseFind_drop_ne {j k : Nat} (l : Sparse α) (hne : j ≠ k) :
    sparseFind j (sparseDrop k l) = sparseFind j l := by
  induction l with
  | nil => rfl
  | cons p l ih =>
      obtain ⟨k', v'⟩ := p
      by_cases h : k = k'
      · subst h; simp [sparseDrop, sparseFind, hne, ih]
      · by_cases hj : j = k' <;> simp [sparseDrop, sparseFind, h, hj, ih]

/-- What a map reads as at the key just stored. -/
theorem sparseFind_store_same [DecidableEq α] (d v : α) (k : Nat) (l : Sparse α) :
    (sparseFind k (sparseStore d k v l)).getD d = v := by
  unfold sparseStore
  split
  · simp [*]
  · simp

/-- A store leaves every other key alone. -/
theorem sparseFind_store_ne [DecidableEq α] {j k : Nat} (d v : α) (l : Sparse α) (hne : j ≠ k) :
    sparseFind j (sparseStore d k v l) = sparseFind j l := by
  unfold sparseStore
  split
  · exact sparseFind_drop_ne l hne
  · exact sparseFind_put_ne v l hne

/-- Every key of `l` is above `k`. -/
def keysAbove (k : Nat) (l : Sparse α) : Prop := ∀ p ∈ l, k < p.1

theorem keysAbove_put {k j : Nat} {v : α} {l : Sparse α} (hj : j < k) (h : keysAbove j l) :
    keysAbove j (sparsePut k v l) := by
  induction l with
  | nil => simpa [sparsePut, keysAbove] using hj
  | cons p l ih =>
      have hl : keysAbove j l := fun q hq => h q (List.mem_cons_of_mem _ hq)
      have hp : j < p.1 := h p (List.mem_cons_self ..)
      unfold sparsePut
      split
      · exact fun q hq => by
          rcases List.mem_cons.mp hq with rfl | hq
          · exact hj
          · exact h q hq
      · split
        · exact fun q hq => by
            rcases List.mem_cons.mp hq with rfl | hq
            · exact hj
            · exact hl q hq
        · exact fun q hq => by
            rcases List.mem_cons.mp hq with rfl | hq
            · exact hp
            · exact ih hl q hq

theorem keysAbove_drop {k j : Nat} {l : Sparse α} (h : keysAbove j l) : keysAbove j (sparseDrop k l) := by
  induction l with
  | nil => exact h
  | cons p l ih =>
      have hl : keysAbove j l := fun q hq => h q (List.mem_cons_of_mem _ hq)
      unfold sparseDrop
      split
      · exact ih hl
      · exact fun q hq => by
          rcases List.mem_cons.mp hq with rfl | hq
          · exact h _ (List.mem_cons_self ..)
          · exact ih hl q hq

/-- The canonical form, one entry at a time. -/
theorem sparseWf_cons [DecidableEq α] (d : Nat → α) (k : Nat) (v : α) (l : Sparse α) :
    sparseWf d ((k, v) :: l) = true ↔ v ≠ d k ∧ keysAbove k l ∧ sparseWf d l = true := by
  induction l generalizing k v with
  | nil => simp [sparseWf, keysAbove]
  | cons p l ih =>
      obtain ⟨k', v'⟩ := p
      have hih := ih k' v'
      constructor
      · intro h
        simp only [sparseWf, Bool.and_eq_true, decide_eq_true_eq] at h
        obtain ⟨⟨h1, h2⟩, h3⟩ := h
        refine ⟨h1, fun q hq => ?_, h3⟩
        rcases List.mem_cons.mp hq with rfl | hq
        · exact h2
        · exact lt_trans h2 ((hih.mp h3).2.1 q hq)
      · rintro ⟨h1, h2, h3⟩
        simp only [sparseWf, Bool.and_eq_true, decide_eq_true_eq]
        exact ⟨⟨h1, h2 _ (List.mem_cons_self ..)⟩, h3⟩

theorem sparseWf_put [DecidableEq α] (d : Nat → α) {k : Nat} {v : α} {l : Sparse α} (hv : v ≠ d k)
    (h : sparseWf d l = true) : sparseWf d (sparsePut k v l) = true := by
  induction l with
  | nil => simpa [sparsePut, sparseWf] using hv
  | cons p l ih =>
      obtain ⟨k', v'⟩ := p
      obtain ⟨h1, h2, h3⟩ := (sparseWf_cons d k' v' l).mp h
      unfold sparsePut
      split
      · rename_i hlt
        refine (sparseWf_cons d _ _ _).mpr ⟨hv, fun q hq => ?_, h⟩
        rcases List.mem_cons.mp hq with rfl | hq
        · exact hlt
        · exact lt_trans hlt (h2 q hq)
      · split
        · rename_i heq
          subst heq
          exact (sparseWf_cons d _ _ _).mpr ⟨hv, h2, h3⟩
        · rename_i hlt hne
          exact (sparseWf_cons d _ _ _).mpr ⟨h1, keysAbove_put (by omega) h2, ih h3⟩

theorem sparseWf_drop [DecidableEq α] (d : Nat → α) {k : Nat} {l : Sparse α}
    (h : sparseWf d l = true) : sparseWf d (sparseDrop k l) = true := by
  induction l with
  | nil => rfl
  | cons p l ih =>
      obtain ⟨k', v'⟩ := p
      obtain ⟨h1, h2, h3⟩ := (sparseWf_cons d k' v' l).mp h
      unfold sparseDrop
      split
      · exact ih h3
      · exact (sparseWf_cons d _ _ _).mpr ⟨h1, keysAbove_drop h2, ih h3⟩

/-- Every store keeps the canonical form. -/
theorem sparseWf_store [DecidableEq α] (d : Nat → α) {k : Nat} {v : α} {l : Sparse α}
    (h : sparseWf d l = true) : sparseWf d (sparseStore (d k) k v l) = true := by
  unfold sparseStore
  split
  · exact sparseWf_drop d h
  · exact sparseWf_put d (by assumption) h

/-- A filter keeps the canonical form. -/
theorem sparseWf_filter [DecidableEq α] (d : Nat → α) (p : Nat × α → Bool) {l : Sparse α}
    (h : sparseWf d l = true) : sparseWf d (l.filter p) = true := by
  induction l with
  | nil => rfl
  | cons q l ih =>
      obtain ⟨k', v'⟩ := q
      obtain ⟨h1, h2, h3⟩ := (sparseWf_cons d k' v' l).mp h
      by_cases hp : p (k', v') = true
      · rw [List.filter_cons_of_pos hp]
        exact (sparseWf_cons d _ _ _).mpr ⟨h1, fun x hx => h2 x (List.mem_of_mem_filter hx), ih h3⟩
      · rw [List.filter_cons_of_neg hp]
        exact ih h3

end Sys2Proof
end

