-- ==== Sys2Proof/Laws/State.lean ====
section
/-! SUPPORT. What the updates of State leave alone, and what a read answers after a write. -/

namespace Sys2Proof.Machine

@[simp] theorem State.set_slots (s : State) (f : Field) (v : Nat) : (s.set f v).slots = s.slots := (rfl)
@[simp] theorem State.set_now (s : State) (f : Field) (v : Nat) : (s.set f v).now = s.now := (rfl)
@[simp] theorem State.set_clock (s : State) (f : Field) (v : Nat) : (s.set f v).clock = s.clock := (rfl)
@[simp] theorem State.set_frac (s : State) (f : Field) (v : Nat) : (s.set f v).frac = s.frac := (rfl)
@[simp] theorem State.set_running (s : State) (f : Field) (v : Nat) : (s.set f v).running = s.running := (rfl)
@[simp] theorem State.set_coreUp (s : State) (f : Field) (v : Nat) : (s.set f v).coreUp = s.coreUp := (rfl)
@[simp] theorem State.set_rings (s : State) (f : Field) (v : Nat) : (s.set f v).rings = s.rings := (rfl)
@[simp] theorem State.set_queues (s : State) (f : Field) (v : Nat) : (s.set f v).queues = s.queues := (rfl)
@[simp] theorem State.set_ring15 (s : State) (f : Field) (v : Nat) : (s.set f v).ring15 = s.ring15 := (rfl)
@[simp] theorem State.set_tick (s : State) (f : Field) (v : Nat) : (s.set f v).tick = s.tick := (rfl)
@[simp] theorem State.set_log (s : State) (f : Field) (v : Nat) : (s.set f v).log = s.log := (rfl)
@[simp] theorem State.set_store (s : State) (f : Field) (v : Nat) : (s.set f v).store = s.store := (rfl)
@[simp] theorem State.set_mn (s : State) (f : Field) (v : Nat) : (s.set f v).mn = s.mn := (rfl)
@[simp] theorem State.set_hp (s : State) (f : Field) (v : Nat) : (s.set f v).hp = s.hp := (rfl)
@[simp] theorem State.set_sh (s : State) (f : Field) (v : Nat) : (s.set f v).sh = s.sh := (rfl)
@[simp] theorem State.set_fl (s : State) (f : Field) (v : Nat) : (s.set f v).fl = s.fl := (rfl)
@[simp] theorem State.set_sv (s : State) (f : Field) (v : Nat) : (s.set f v).sv = s.sv := (rfl)
@[simp] theorem State.set_pw (s : State) (f : Field) (v : Nat) : (s.set f v).pw = s.pw := (rfl)
@[simp] theorem State.set_tm (s : State) (f : Field) (v : Nat) : (s.set f v).tm = s.tm := (rfl)
@[simp] theorem State.set_bt (s : State) (f : Field) (v : Nat) : (s.set f v).bt = s.bt := (rfl)
@[simp] theorem State.set_fp (s : State) (f : Field) (v : Nat) : (s.set f v).fp = s.fp := (rfl)
@[simp] theorem State.set_sb (s : State) (f : Field) (v : Nat) : (s.set f v).sb = s.sb := (rfl)
@[simp] theorem State.set_sc (s : State) (f : Field) (v : Nat) : (s.set f v).sc = s.sc := (rfl)
@[simp] theorem State.set_mc (s : State) (f : Field) (v : Nat) : (s.set f v).mc = s.mc := (rfl)
@[simp] theorem State.set_ua (s : State) (f : Field) (v : Nat) : (s.set f v).ua = s.ua := (rfl)
@[simp] theorem State.set_lk (s : State) (f : Field) (v : Nat) : (s.set f v).lk = s.lk := (rfl)
@[simp] theorem State.set_ae (s : State) (f : Field) (v : Nat) : (s.set f v).ae = s.ae := (rfl)
@[simp] theorem State.set_cp (s : State) (f : Field) (v : Nat) : (s.set f v).cp = s.cp := (rfl)
@[simp] theorem State.set_se (s : State) (f : Field) (v : Nat) : (s.set f v).se = s.se := (rfl)
@[simp] theorem State.set_cycles (s : State) (f : Field) (v : Nat) : (s.set f v).cycles = s.cycles := (rfl)
@[simp] theorem State.set_freeCount (s : State) (f : Field) (v : Nat) : (s.set f v).freeCount = s.freeCount := (rfl)
@[simp] theorem State.set_batch (s : State) (f : Field) (v : Nat) : (s.set f v).batch = s.batch := (rfl)
@[simp] theorem State.set_pending (s : State) (f : Field) (v : Nat) : (s.set f v).pending = s.pending := (rfl)

@[simp] theorem State.setSlot_regs (s : State) (off v : Nat) : (s.setSlot off v).regs = s.regs := (rfl)
@[simp] theorem State.setSlot_now (s : State) (off v : Nat) : (s.setSlot off v).now = s.now := (rfl)
@[simp] theorem State.setSlot_clock (s : State) (off v : Nat) : (s.setSlot off v).clock = s.clock := (rfl)
@[simp] theorem State.setSlot_frac (s : State) (off v : Nat) : (s.setSlot off v).frac = s.frac := (rfl)
@[simp] theorem State.setSlot_running (s : State) (off v : Nat) : (s.setSlot off v).running = s.running := (rfl)
@[simp] theorem State.setSlot_coreUp (s : State) (off v : Nat) : (s.setSlot off v).coreUp = s.coreUp := (rfl)
@[simp] theorem State.setSlot_rings (s : State) (off v : Nat) : (s.setSlot off v).rings = s.rings := (rfl)
@[simp] theorem State.setSlot_queues (s : State) (off v : Nat) : (s.setSlot off v).queues = s.queues := (rfl)
@[simp] theorem State.setSlot_ring15 (s : State) (off v : Nat) : (s.setSlot off v).ring15 = s.ring15 := (rfl)
@[simp] theorem State.setSlot_tick (s : State) (off v : Nat) : (s.setSlot off v).tick = s.tick := (rfl)
@[simp] theorem State.setSlot_log (s : State) (off v : Nat) : (s.setSlot off v).log = s.log := (rfl)
@[simp] theorem State.setSlot_store (s : State) (off v : Nat) : (s.setSlot off v).store = s.store := (rfl)
@[simp] theorem State.setSlot_mn (s : State) (off v : Nat) : (s.setSlot off v).mn = s.mn := (rfl)
@[simp] theorem State.setSlot_hp (s : State) (off v : Nat) : (s.setSlot off v).hp = s.hp := (rfl)
@[simp] theorem State.setSlot_sh (s : State) (off v : Nat) : (s.setSlot off v).sh = s.sh := (rfl)
@[simp] theorem State.setSlot_fl (s : State) (off v : Nat) : (s.setSlot off v).fl = s.fl := (rfl)
@[simp] theorem State.setSlot_sv (s : State) (off v : Nat) : (s.setSlot off v).sv = s.sv := (rfl)
@[simp] theorem State.setSlot_pw (s : State) (off v : Nat) : (s.setSlot off v).pw = s.pw := (rfl)
@[simp] theorem State.setSlot_tm (s : State) (off v : Nat) : (s.setSlot off v).tm = s.tm := (rfl)
@[simp] theorem State.setSlot_bt (s : State) (off v : Nat) : (s.setSlot off v).bt = s.bt := (rfl)
@[simp] theorem State.setSlot_fp (s : State) (off v : Nat) : (s.setSlot off v).fp = s.fp := (rfl)
@[simp] theorem State.setSlot_sb (s : State) (off v : Nat) : (s.setSlot off v).sb = s.sb := (rfl)
@[simp] theorem State.setSlot_sc (s : State) (off v : Nat) : (s.setSlot off v).sc = s.sc := (rfl)
@[simp] theorem State.setSlot_mc (s : State) (off v : Nat) : (s.setSlot off v).mc = s.mc := (rfl)
@[simp] theorem State.setSlot_ua (s : State) (off v : Nat) : (s.setSlot off v).ua = s.ua := (rfl)
@[simp] theorem State.setSlot_lk (s : State) (off v : Nat) : (s.setSlot off v).lk = s.lk := (rfl)
@[simp] theorem State.setSlot_ae (s : State) (off v : Nat) : (s.setSlot off v).ae = s.ae := (rfl)
@[simp] theorem State.setSlot_cp (s : State) (off v : Nat) : (s.setSlot off v).cp = s.cp := (rfl)
@[simp] theorem State.setSlot_se (s : State) (off v : Nat) : (s.setSlot off v).se = s.se := (rfl)
@[simp] theorem State.setSlot_cycles (s : State) (off v : Nat) : (s.setSlot off v).cycles = s.cycles := (rfl)
@[simp] theorem State.setSlot_freeCount (s : State) (off v : Nat) : (s.setSlot off v).freeCount = s.freeCount := (rfl)
@[simp] theorem State.setSlot_batch (s : State) (off v : Nat) : (s.setSlot off v).batch = s.batch := (rfl)
@[simp] theorem State.setSlot_pending (s : State) (off v : Nat) : (s.setSlot off v).pending = s.pending := (rfl)

@[simp] theorem State.setRing_regs (s : State) (r : Nat) (x : RingState) : (s.setRing r x).regs = s.regs := (rfl)
@[simp] theorem State.setRing_slots (s : State) (r : Nat) (x : RingState) : (s.setRing r x).slots = s.slots := (rfl)
@[simp] theorem State.setRing_now (s : State) (r : Nat) (x : RingState) : (s.setRing r x).now = s.now := (rfl)
@[simp] theorem State.setRing_clock (s : State) (r : Nat) (x : RingState) : (s.setRing r x).clock = s.clock := (rfl)
@[simp] theorem State.setRing_frac (s : State) (r : Nat) (x : RingState) : (s.setRing r x).frac = s.frac := (rfl)
@[simp] theorem State.setRing_running (s : State) (r : Nat) (x : RingState) : (s.setRing r x).running = s.running := (rfl)
@[simp] theorem State.setRing_coreUp (s : State) (r : Nat) (x : RingState) : (s.setRing r x).coreUp = s.coreUp := (rfl)
@[simp] theorem State.setRing_queues (s : State) (r : Nat) (x : RingState) : (s.setRing r x).queues = s.queues := (rfl)
@[simp] theorem State.setRing_ring15 (s : State) (r : Nat) (x : RingState) : (s.setRing r x).ring15 = s.ring15 := (rfl)
@[simp] theorem State.setRing_tick (s : State) (r : Nat) (x : RingState) : (s.setRing r x).tick = s.tick := (rfl)
@[simp] theorem State.setRing_log (s : State) (r : Nat) (x : RingState) : (s.setRing r x).log = s.log := (rfl)
@[simp] theorem State.setRing_store (s : State) (r : Nat) (x : RingState) : (s.setRing r x).store = s.store := (rfl)
@[simp] theorem State.setRing_mn (s : State) (r : Nat) (x : RingState) : (s.setRing r x).mn = s.mn := (rfl)
@[simp] theorem State.setRing_hp (s : State) (r : Nat) (x : RingState) : (s.setRing r x).hp = s.hp := (rfl)
@[simp] theorem State.setRing_sh (s : State) (r : Nat) (x : RingState) : (s.setRing r x).sh = s.sh := (rfl)
@[simp] theorem State.setRing_fl (s : State) (r : Nat) (x : RingState) : (s.setRing r x).fl = s.fl := (rfl)
@[simp] theorem State.setRing_sv (s : State) (r : Nat) (x : RingState) : (s.setRing r x).sv = s.sv := (rfl)
@[simp] theorem State.setRing_pw (s : State) (r : Nat) (x : RingState) : (s.setRing r x).pw = s.pw := (rfl)
@[simp] theorem State.setRing_tm (s : State) (r : Nat) (x : RingState) : (s.setRing r x).tm = s.tm := (rfl)
@[simp] theorem State.setRing_bt (s : State) (r : Nat) (x : RingState) : (s.setRing r x).bt = s.bt := (rfl)
@[simp] theorem State.setRing_fp (s : State) (r : Nat) (x : RingState) : (s.setRing r x).fp = s.fp := (rfl)
@[simp] theorem State.setRing_sb (s : State) (r : Nat) (x : RingState) : (s.setRing r x).sb = s.sb := (rfl)
@[simp] theorem State.setRing_sc (s : State) (r : Nat) (x : RingState) : (s.setRing r x).sc = s.sc := (rfl)
@[simp] theorem State.setRing_mc (s : State) (r : Nat) (x : RingState) : (s.setRing r x).mc = s.mc := (rfl)
@[simp] theorem State.setRing_ua (s : State) (r : Nat) (x : RingState) : (s.setRing r x).ua = s.ua := (rfl)
@[simp] theorem State.setRing_lk (s : State) (r : Nat) (x : RingState) : (s.setRing r x).lk = s.lk := (rfl)
@[simp] theorem State.setRing_ae (s : State) (r : Nat) (x : RingState) : (s.setRing r x).ae = s.ae := (rfl)
@[simp] theorem State.setRing_cp (s : State) (r : Nat) (x : RingState) : (s.setRing r x).cp = s.cp := (rfl)
@[simp] theorem State.setRing_se (s : State) (r : Nat) (x : RingState) : (s.setRing r x).se = s.se := (rfl)
@[simp] theorem State.setRing_cycles (s : State) (r : Nat) (x : RingState) : (s.setRing r x).cycles = s.cycles := (rfl)
@[simp] theorem State.setRing_freeCount (s : State) (r : Nat) (x : RingState) : (s.setRing r x).freeCount = s.freeCount := (rfl)
@[simp] theorem State.setRing_batch (s : State) (r : Nat) (x : RingState) : (s.setRing r x).batch = s.batch := (rfl)
@[simp] theorem State.setRing_pending (s : State) (r : Nat) (x : RingState) : (s.setRing r x).pending = s.pending := (rfl)

@[simp] theorem State.setQueue_regs (s : State) (m : Nat) (x : QueueState) : (s.setQueue m x).regs = s.regs := (rfl)
@[simp] theorem State.setQueue_slots (s : State) (m : Nat) (x : QueueState) : (s.setQueue m x).slots = s.slots := (rfl)
@[simp] theorem State.setQueue_now (s : State) (m : Nat) (x : QueueState) : (s.setQueue m x).now = s.now := (rfl)
@[simp] theorem State.setQueue_clock (s : State) (m : Nat) (x : QueueState) : (s.setQueue m x).clock = s.clock := (rfl)
@[simp] theorem State.setQueue_frac (s : State) (m : Nat) (x : QueueState) : (s.setQueue m x).frac = s.frac := (rfl)
@[simp] theorem State.setQueue_running (s : State) (m : Nat) (x : QueueState) : (s.setQueue m x).running = s.running := (rfl)
@[simp] theorem State.setQueue_coreUp (s : State) (m : Nat) (x : QueueState) : (s.setQueue m x).coreUp = s.coreUp := (rfl)
@[simp] theorem State.setQueue_rings (s : State) (m : Nat) (x : QueueState) : (s.setQueue m x).rings = s.rings := (rfl)
@[simp] theorem State.setQueue_ring15 (s : State) (m : Nat) (x : QueueState) : (s.setQueue m x).ring15 = s.ring15 := (rfl)
@[simp] theorem State.setQueue_tick (s : State) (m : Nat) (x : QueueState) : (s.setQueue m x).tick = s.tick := (rfl)
@[simp] theorem State.setQueue_log (s : State) (m : Nat) (x : QueueState) : (s.setQueue m x).log = s.log := (rfl)
@[simp] theorem State.setQueue_store (s : State) (m : Nat) (x : QueueState) : (s.setQueue m x).store = s.store := (rfl)
@[simp] theorem State.setQueue_mn (s : State) (m : Nat) (x : QueueState) : (s.setQueue m x).mn = s.mn := (rfl)
@[simp] theorem State.setQueue_hp (s : State) (m : Nat) (x : QueueState) : (s.setQueue m x).hp = s.hp := (rfl)
@[simp] theorem State.setQueue_sh (s : State) (m : Nat) (x : QueueState) : (s.setQueue m x).sh = s.sh := (rfl)
@[simp] theorem State.setQueue_fl (s : State) (m : Nat) (x : QueueState) : (s.setQueue m x).fl = s.fl := (rfl)
@[simp] theorem State.setQueue_sv (s : State) (m : Nat) (x : QueueState) : (s.setQueue m x).sv = s.sv := (rfl)
@[simp] theorem State.setQueue_pw (s : State) (m : Nat) (x : QueueState) : (s.setQueue m x).pw = s.pw := (rfl)
@[simp] theorem State.setQueue_tm (s : State) (m : Nat) (x : QueueState) : (s.setQueue m x).tm = s.tm := (rfl)
@[simp] theorem State.setQueue_bt (s : State) (m : Nat) (x : QueueState) : (s.setQueue m x).bt = s.bt := (rfl)
@[simp] theorem State.setQueue_fp (s : State) (m : Nat) (x : QueueState) : (s.setQueue m x).fp = s.fp := (rfl)
@[simp] theorem State.setQueue_sb (s : State) (m : Nat) (x : QueueState) : (s.setQueue m x).sb = s.sb := (rfl)
@[simp] theorem State.setQueue_sc (s : State) (m : Nat) (x : QueueState) : (s.setQueue m x).sc = s.sc := (rfl)
@[simp] theorem State.setQueue_mc (s : State) (m : Nat) (x : QueueState) : (s.setQueue m x).mc = s.mc := (rfl)
@[simp] theorem State.setQueue_ua (s : State) (m : Nat) (x : QueueState) : (s.setQueue m x).ua = s.ua := (rfl)
@[simp] theorem State.setQueue_lk (s : State) (m : Nat) (x : QueueState) : (s.setQueue m x).lk = s.lk := (rfl)
@[simp] theorem State.setQueue_ae (s : State) (m : Nat) (x : QueueState) : (s.setQueue m x).ae = s.ae := (rfl)
@[simp] theorem State.setQueue_cp (s : State) (m : Nat) (x : QueueState) : (s.setQueue m x).cp = s.cp := (rfl)
@[simp] theorem State.setQueue_se (s : State) (m : Nat) (x : QueueState) : (s.setQueue m x).se = s.se := (rfl)
@[simp] theorem State.setQueue_cycles (s : State) (m : Nat) (x : QueueState) : (s.setQueue m x).cycles = s.cycles := (rfl)
@[simp] theorem State.setQueue_freeCount (s : State) (m : Nat) (x : QueueState) : (s.setQueue m x).freeCount = s.freeCount := (rfl)
@[simp] theorem State.setQueue_batch (s : State) (m : Nat) (x : QueueState) : (s.setQueue m x).batch = s.batch := (rfl)
@[simp] theorem State.setQueue_pending (s : State) (m : Nat) (x : QueueState) : (s.setQueue m x).pending = s.pending := (rfl)

@[simp] theorem State.uses_regs (s : State) (n : Nat) : (s.uses n).regs = s.regs := (rfl)
@[simp] theorem State.uses_slots (s : State) (n : Nat) : (s.uses n).slots = s.slots := (rfl)
@[simp] theorem State.uses_now (s : State) (n : Nat) : (s.uses n).now = s.now := (rfl)
@[simp] theorem State.uses_clock (s : State) (n : Nat) : (s.uses n).clock = s.clock := (rfl)
@[simp] theorem State.uses_frac (s : State) (n : Nat) : (s.uses n).frac = s.frac := (rfl)
@[simp] theorem State.uses_running (s : State) (n : Nat) : (s.uses n).running = s.running := (rfl)
@[simp] theorem State.uses_coreUp (s : State) (n : Nat) : (s.uses n).coreUp = s.coreUp := (rfl)
@[simp] theorem State.uses_rings (s : State) (n : Nat) : (s.uses n).rings = s.rings := (rfl)
@[simp] theorem State.uses_queues (s : State) (n : Nat) : (s.uses n).queues = s.queues := (rfl)
@[simp] theorem State.uses_ring15 (s : State) (n : Nat) : (s.uses n).ring15 = s.ring15 := (rfl)
@[simp] theorem State.uses_tick (s : State) (n : Nat) : (s.uses n).tick = s.tick := (rfl)
@[simp] theorem State.uses_log (s : State) (n : Nat) : (s.uses n).log = s.log := (rfl)
@[simp] theorem State.uses_store (s : State) (n : Nat) : (s.uses n).store = s.store := (rfl)
@[simp] theorem State.uses_mn (s : State) (n : Nat) : (s.uses n).mn = s.mn := (rfl)
@[simp] theorem State.uses_hp (s : State) (n : Nat) : (s.uses n).hp = s.hp := (rfl)
@[simp] theorem State.uses_sh (s : State) (n : Nat) : (s.uses n).sh = s.sh := (rfl)
@[simp] theorem State.uses_fl (s : State) (n : Nat) : (s.uses n).fl = s.fl := (rfl)
@[simp] theorem State.uses_sv (s : State) (n : Nat) : (s.uses n).sv = s.sv := (rfl)
@[simp] theorem State.uses_pw (s : State) (n : Nat) : (s.uses n).pw = s.pw := (rfl)
@[simp] theorem State.uses_tm (s : State) (n : Nat) : (s.uses n).tm = s.tm := (rfl)
@[simp] theorem State.uses_bt (s : State) (n : Nat) : (s.uses n).bt = s.bt := (rfl)
@[simp] theorem State.uses_fp (s : State) (n : Nat) : (s.uses n).fp = s.fp := (rfl)
@[simp] theorem State.uses_sb (s : State) (n : Nat) : (s.uses n).sb = s.sb := (rfl)
@[simp] theorem State.uses_sc (s : State) (n : Nat) : (s.uses n).sc = s.sc := (rfl)
@[simp] theorem State.uses_mc (s : State) (n : Nat) : (s.uses n).mc = s.mc := (rfl)
@[simp] theorem State.uses_ua (s : State) (n : Nat) : (s.uses n).ua = s.ua := (rfl)
@[simp] theorem State.uses_lk (s : State) (n : Nat) : (s.uses n).lk = s.lk := (rfl)
@[simp] theorem State.uses_ae (s : State) (n : Nat) : (s.uses n).ae = s.ae := (rfl)
@[simp] theorem State.uses_cp (s : State) (n : Nat) : (s.uses n).cp = s.cp := (rfl)
@[simp] theorem State.uses_se (s : State) (n : Nat) : (s.uses n).se = s.se := (rfl)
@[simp] theorem State.uses_freeCount (s : State) (n : Nat) : (s.uses n).freeCount = s.freeCount := (rfl)
@[simp] theorem State.uses_batch (s : State) (n : Nat) : (s.uses n).batch = s.batch := (rfl)
@[simp] theorem State.uses_pending (s : State) (n : Nat) : (s.uses n).pending = s.pending := (rfl)

@[simp] theorem State.draw_regs (s : State) : s.draw.2.regs = s.regs := (rfl)
@[simp] theorem State.draw_slots (s : State) : s.draw.2.slots = s.slots := (rfl)
@[simp] theorem State.draw_now (s : State) : s.draw.2.now = s.now := (rfl)
@[simp] theorem State.draw_clock (s : State) : s.draw.2.clock = s.clock := (rfl)
@[simp] theorem State.draw_frac (s : State) : s.draw.2.frac = s.frac := (rfl)
@[simp] theorem State.draw_running (s : State) : s.draw.2.running = s.running := (rfl)
@[simp] theorem State.draw_coreUp (s : State) : s.draw.2.coreUp = s.coreUp := (rfl)
@[simp] theorem State.draw_rings (s : State) : s.draw.2.rings = s.rings := (rfl)
@[simp] theorem State.draw_queues (s : State) : s.draw.2.queues = s.queues := (rfl)
@[simp] theorem State.draw_ring15 (s : State) : s.draw.2.ring15 = s.ring15 := (rfl)
@[simp] theorem State.draw_tick (s : State) : s.draw.2.tick = s.tick := (rfl)
@[simp] theorem State.draw_log (s : State) : s.draw.2.log = s.log := (rfl)
@[simp] theorem State.draw_store (s : State) : s.draw.2.store = s.store := (rfl)
@[simp] theorem State.draw_mn (s : State) : s.draw.2.mn = s.mn := (rfl)
@[simp] theorem State.draw_hp (s : State) : s.draw.2.hp = s.hp := (rfl)
@[simp] theorem State.draw_sh (s : State) : s.draw.2.sh = s.sh := (rfl)
@[simp] theorem State.draw_fl (s : State) : s.draw.2.fl = s.fl := (rfl)
@[simp] theorem State.draw_sv (s : State) : s.draw.2.sv = s.sv := (rfl)
@[simp] theorem State.draw_pw (s : State) : s.draw.2.pw = s.pw := (rfl)
@[simp] theorem State.draw_tm (s : State) : s.draw.2.tm = s.tm := (rfl)
@[simp] theorem State.draw_bt (s : State) : s.draw.2.bt = s.bt := (rfl)
@[simp] theorem State.draw_fp (s : State) : s.draw.2.fp = s.fp := (rfl)
@[simp] theorem State.draw_sb (s : State) : s.draw.2.sb = s.sb := (rfl)
@[simp] theorem State.draw_sc (s : State) : s.draw.2.sc = s.sc := (rfl)
@[simp] theorem State.draw_mc (s : State) : s.draw.2.mc = s.mc := (rfl)
@[simp] theorem State.draw_ua (s : State) : s.draw.2.ua = s.ua := (rfl)
@[simp] theorem State.draw_lk (s : State) : s.draw.2.lk = s.lk := (rfl)
@[simp] theorem State.draw_ae (s : State) : s.draw.2.ae = s.ae := (rfl)
@[simp] theorem State.draw_cp (s : State) : s.draw.2.cp = s.cp := (rfl)
@[simp] theorem State.draw_se (s : State) : s.draw.2.se = s.se := (rfl)
@[simp] theorem State.draw_cycles (s : State) : s.draw.2.cycles = s.cycles := (rfl)
@[simp] theorem State.draw_batch (s : State) : s.draw.2.batch = s.batch := (rfl)
@[simp] theorem State.draw_pending (s : State) : s.draw.2.pending = s.pending := (rfl)

/-! ## Every register write is a set -/

@[simp] theorem State.setFlag_eq (s : State) (f : Field) (b : Bool) : s.setFlag f b = s.set f (boolNat b) := (rfl)
@[simp] theorem State.setS_eq (s : State) (f : Field) (i : Int) : s.setS f i = s.set f (ofSigned f.width i) := (rfl)
@[simp] theorem State.add_eq (s : State) (f : Field) (n : Nat) : s.add f n = s.set f (s.get f + n) := (rfl)
@[simp] theorem State.addHold_eq (s : State) (f : Field) (n : Nat) :
    s.addHold f n = s.set f (min (s.get f + n) (2 ^ f.width - 1)) := (rfl)
@[simp] theorem State.setPair_eq (s : State) (hi lo : Field) (v : Nat) :
    s.setPair hi lo v = (s.set hi (v / 2 ^ 24)).set lo v := (rfl)
@[simp] theorem State.setMaskBit_eq (s : State) (f : Field) (i : Nat) (b : Bool) :
    s.setMaskBit f i b = s.set f (putBit (s.get f) i b) := (rfl)

@[simp] theorem State.when_true (s : State) (g : State → State) : s.when true g = g s := (rfl)
@[simp] theorem State.when_false (s : State) (g : State → State) : s.when false g = s := (rfl)

/-! ## A read after a write -/

/-- The field just written reads the value, modulo its width. -/
@[simp] theorem State.get_set_same (s : State) (f : Field) (v : Nat) : (s.set f v).get f = v % 2 ^ f.width :=
  sparseFind_store_same f.reset _ f.key s.regs

/-- A write leaves every field of another place alone. -/
theorem State.get_set_ne (s : State) {f g : Field} (v : Nat) (h : g.key ≠ f.key) : (s.set f v).get g = s.get g := by
  simp only [State.get, State.set, sparseFind_store_ne f.reset _ s.regs h]

@[simp] theorem State.get_setSlot (s : State) (off v : Nat) (g : Field) : (s.setSlot off v).get g = s.get g := (rfl)
@[simp] theorem State.get_setRing (s : State) (r : Nat) (x : RingState) (g : Field) : (s.setRing r x).get g = s.get g := (rfl)
@[simp] theorem State.get_setQueue (s : State) (m : Nat) (x : QueueState) (g : Field) : (s.setQueue m x).get g = s.get g := (rfl)
@[simp] theorem State.get_uses (s : State) (n : Nat) (g : Field) : (s.uses n).get g = s.get g := (rfl)

@[simp] theorem State.slot_setSlot_same (s : State) (off v : Nat) : (s.setSlot off v).slot off = v % 2 ^ 24 :=
  sparseFind_store_same 0 _ off s.slots

theorem State.slot_setSlot_ne (s : State) {off off' : Nat} (v : Nat) (h : off' ≠ off) :
    (s.setSlot off v).slot off' = s.slot off' := by
  simp only [State.slot, State.setSlot, sparseFind_store_ne 0 _ s.slots h]

@[simp] theorem State.slot_set (s : State) (f : Field) (v off : Nat) : (s.set f v).slot off = s.slot off := (rfl)
@[simp] theorem State.slot_setRing (s : State) (r : Nat) (x : RingState) (off : Nat) :
    (s.setRing r x).slot off = s.slot off := (rfl)
@[simp] theorem State.slot_setQueue (s : State) (m : Nat) (x : QueueState) (off : Nat) :
    (s.setQueue m x).slot off = s.slot off := (rfl)
@[simp] theorem State.slot_uses (s : State) (n off : Nat) : (s.uses n).slot off = s.slot off := (rfl)

@[simp] theorem State.ring_setRing_same (s : State) (r : Nat) (x : RingState) : (s.setRing r x).ring r = x :=
  sparseFind_store_same RingState.idle x r s.rings

theorem State.ring_setRing_ne (s : State) {r r' : Nat} (x : RingState) (h : r' ≠ r) :
    (s.setRing r x).ring r' = s.ring r' := by
  simp only [State.ring, State.setRing, sparseFind_store_ne _ _ s.rings h]

@[simp] theorem State.ring_set (s : State) (f : Field) (v r : Nat) : (s.set f v).ring r = s.ring r := (rfl)
@[simp] theorem State.ring_setSlot (s : State) (off v r : Nat) : (s.setSlot off v).ring r = s.ring r := (rfl)
@[simp] theorem State.ring_setQueue (s : State) (m : Nat) (x : QueueState) (r : Nat) :
    (s.setQueue m x).ring r = s.ring r := (rfl)
@[simp] theorem State.ring_uses (s : State) (n r : Nat) : (s.uses n).ring r = s.ring r := (rfl)

@[simp] theorem State.queue_setQueue_same (s : State) (m : Nat) (x : QueueState) : (s.setQueue m x).queue m = x :=
  sparseFind_store_same QueueState.idle x m s.queues

theorem State.queue_setQueue_ne (s : State) {m m' : Nat} (x : QueueState) (h : m' ≠ m) :
    (s.setQueue m x).queue m' = s.queue m' := by
  simp only [State.queue, State.setQueue, sparseFind_store_ne _ _ s.queues h]

@[simp] theorem State.queue_set (s : State) (f : Field) (v m : Nat) : (s.set f v).queue m = s.queue m := (rfl)
@[simp] theorem State.queue_setSlot (s : State) (off v m : Nat) : (s.setSlot off v).queue m = s.queue m := (rfl)
@[simp] theorem State.queue_setRing (s : State) (r : Nat) (x : RingState) (m : Nat) :
    (s.setRing r x).queue m = s.queue m := (rfl)
@[simp] theorem State.queue_uses (s : State) (n m : Nat) : (s.uses n).queue m = s.queue m := (rfl)

end Sys2Proof.Machine
end

