-- ==== Sys2Proof/Laws/Ops.lean ====
section
/-! SUPPORT. What each shared operation can do: violations, events, completions, and the issue of a
unit instruction. -/

namespace Sys2Proof.Machine

open Reg

/-! ## Folds -/

/-- What every step of a fold keeps, the fold keeps. -/
theorem foldl_keeps {α β : Type} (p : β → Prop) (f : β → α → β) (h : ∀ b a, p b → p (f b a)) :
    ∀ (l : List α) (b : β), p b → p (l.foldl f b)
  | [], _, hb => hb
  | a :: l, b, hb => foldl_keeps p f h l (f b a) (h b a hb)

/-- What no step of a fold changes, the fold leaves as it was. -/
theorem foldl_same {α β γ : Type} (v : β → γ) (f : β → α → β) (h : ∀ b a, v (f b a) = v b) (l : List α) (b : β) :
    v (l.foldl f b) = v b :=
  foldl_keeps (fun x => v x = v b) f (fun x a hx => (h x a).trans hx) l b rfl

/-- What no step of a fold over `l` changes, the fold leaves as it was. -/
theorem foldl_same_mem {α β γ : Type} (v : β → γ) (f : β → α → β) (l : List α) (h : ∀ b, ∀ a ∈ l, v (f b a) = v b) (b : β) :
    v (l.foldl f b) = v b := by
  induction l generalizing b with
  | nil => rfl
  | cons a l ih =>
      rw [List.foldl_cons, ih (fun b a ha => h b a (List.mem_cons_of_mem _ ha)), h b a (List.mem_cons_self ..)]

/-! ## Violations (R7, R10) -/

/-- A violation changes only its two registers. -/
theorem State.get_violate_ne (s : State) (v : Violation) {g : Field} (h1 : g.key ≠ SY_VIOLATIONS.COUNT.key)
    (h2 : g.key ≠ SY_LASTVIOL.LAST.key) : (s.violate v).get g = s.get g := by
  simp only [State.violate, State.violations, State.addHold_eq]
  rw [State.get_set_ne _ _ h2, State.get_set_ne _ _ h1]

/-- R10: the count rises by one and holds at its largest value. -/
theorem State.count_violate (s : State) (v : Violation) (h : s.get SY_VIOLATIONS.COUNT < 2 ^ 24) :
    (s.violate v).get SY_VIOLATIONS.COUNT = min (s.get SY_VIOLATIONS.COUNT + 1) (2 ^ 24 - 1) := by
  have hk : SY_VIOLATIONS.COUNT.key ≠ SY_LASTVIOL.LAST.key := by decide
  simp only [State.violate, State.violations, State.addHold_eq]
  rw [State.get_set_ne _ _ hk, State.get_set_same]
  have : SY_VIOLATIONS.COUNT.width = 24 := (rfl)
  rw [this]
  simp only [List.length_cons, List.length_nil]
  omega

/-- A violation changes registers alone. -/
theorem State.violate_eq (s : State) (v : Violation) :
    s.violate v = (s.set SY_VIOLATIONS.COUNT (min (s.get SY_VIOLATIONS.COUNT + 1) (2 ^ 24 - 1))).set SY_LASTVIOL.LAST v.word :=
  Eq.refl _

@[simp] theorem State.orViolate_some (s t : State) (w : Writer) (off : Nat) : s.orViolate w off (some t) = t := (rfl)
@[simp] theorem State.orViolate_none (s : State) (w : Writer) (off : Nat) :
    s.orViolate w off none = s.violate (writerViolation w off) := (rfl)

/-! ## Time and deadlines (log 95) -/

/-- Time passing changes Wellhead time, its fraction and the time clock alone. -/
theorem State.advanceTo_eq (s : State) (t : Nat) :
    ∃ n c f, s.advanceTo t = { s with now := n, clock := c, frac := f } := by
  unfold State.advanceTo
  split
  · exact ⟨_, _, _, rfl⟩
  · exact ⟨s.now, s.clock, s.frac, rfl⟩

theorem State.passTo_eq (s : State) (d : Nat) : ∃ n c f, s.passTo d = { s with now := n, clock := c, frac := f } := by
  unfold State.passTo
  split
  · exact ⟨_, _, _, rfl⟩
  · exact ⟨s.now, s.clock, s.frac, rfl⟩

@[simp] theorem State.get_advanceTo (s : State) (t : Nat) (g : Field) : (s.advanceTo t).get g = s.get g := by
  obtain ⟨n, c, f, h⟩ := s.advanceTo_eq t
  rw [h]
  rfl

@[simp] theorem State.get_passTo (s : State) (d : Nat) (g : Field) : (s.passTo d).get g = s.get g := by
  obtain ⟨n, c, f, h⟩ := s.passTo_eq d
  rw [h]
  rfl

@[simp] theorem State.slot_passTo (s : State) (d off : Nat) : (s.passTo d).slot off = s.slot off := by
  obtain ⟨n, c, f, h⟩ := s.passTo_eq d
  rw [h]
  rfl

/-- With Wellhead stopped every deadline is due, and no time passes. -/
theorem State.due_stopped (s : State) (d : Nat) (h : s.running = false) : s.due d = true := by
  simp [State.due, h]

theorem State.passTo_stopped (s : State) (d : Nat) (h : s.running = false) : s.passTo d = s := by
  simp [State.passTo, h]

/-- The effect of a deadline comes at the deadline, and nothing comes before it. -/
theorem State.onTime_due (s : State) {d : Nat} (f : State → State) (h : s.due d = true) : s.onTime d f = f (s.passTo d) := by
  simp [State.onTime, h]

theorem State.onTime_early (s : State) {d : Nat} (f : State → State) (h : s.due d = false) : s.onTime d f = s := by
  simp [State.onTime, h]

/-- R571: a row's own register write while its domain is up, and while it is down. -/
theorem State.rowWrite_up (s : State) (w : Writer) {off : Nat} (r : Option State) (h : s.domainUp off = true) :
    s.rowWrite w off r = s.orViolate w off r := by
  simp [State.rowWrite, h]

theorem State.rowWrite_down (s : State) (w : Writer) {off : Nat} (r : Option State) (h : s.domainUp off = false) :
    s.rowWrite w off r = s.violate (writerViolation w off) := by
  simp [State.rowWrite, h]

theorem State.domainUp_core (s : State) (off : Nat) (h : s.coreUp = true) : s.domainUp off = true := by
  simp [State.domainUp, h]

/-! ## Events (R99, R331, R332) -/

/-- The state but its registers, rings, log and the events that wait for the end of their cycle. -/
def State.units (s : State) : State := { s with regs := [], rings := [], log := [], batch := none }

/-- Two states that differ at most in their registers, rings, log and waiting events. -/
def SameUnits (s t : State) : Prop := t.units = s.units

theorem SameUnits.refl (s : State) : SameUnits s s := (rfl)
theorem SameUnits.trans {s t u : State} (h : SameUnits s t) (g : SameUnits t u) : SameUnits s u := Eq.trans g h

theorem SameUnits.slots {s t : State} (h : SameUnits s t) : t.slots = s.slots :=
  congrArg (a₁ := t.units) (a₂ := s.units) State.slots h
theorem SameUnits.now {s t : State} (h : SameUnits s t) : t.now = s.now :=
  congrArg (a₁ := t.units) (a₂ := s.units) State.now h
theorem SameUnits.clock {s t : State} (h : SameUnits s t) : t.clock = s.clock :=
  congrArg (a₁ := t.units) (a₂ := s.units) State.clock h
theorem SameUnits.frac {s t : State} (h : SameUnits s t) : t.frac = s.frac :=
  congrArg (a₁ := t.units) (a₂ := s.units) State.frac h
theorem SameUnits.running {s t : State} (h : SameUnits s t) : t.running = s.running :=
  congrArg (a₁ := t.units) (a₂ := s.units) State.running h
theorem SameUnits.coreUp {s t : State} (h : SameUnits s t) : t.coreUp = s.coreUp :=
  congrArg (a₁ := t.units) (a₂ := s.units) State.coreUp h
theorem SameUnits.queues {s t : State} (h : SameUnits s t) : t.queues = s.queues :=
  congrArg (a₁ := t.units) (a₂ := s.units) State.queues h
theorem SameUnits.ring15 {s t : State} (h : SameUnits s t) : t.ring15 = s.ring15 :=
  congrArg (a₁ := t.units) (a₂ := s.units) State.ring15 h
theorem SameUnits.tick {s t : State} (h : SameUnits s t) : t.tick = s.tick :=
  congrArg (a₁ := t.units) (a₂ := s.units) State.tick h
theorem SameUnits.store {s t : State} (h : SameUnits s t) : t.store = s.store :=
  congrArg (a₁ := t.units) (a₂ := s.units) State.store h
theorem SameUnits.mn {s t : State} (h : SameUnits s t) : t.mn = s.mn :=
  congrArg (a₁ := t.units) (a₂ := s.units) State.mn h
theorem SameUnits.hp {s t : State} (h : SameUnits s t) : t.hp = s.hp :=
  congrArg (a₁ := t.units) (a₂ := s.units) State.hp h
theorem SameUnits.sh {s t : State} (h : SameUnits s t) : t.sh = s.sh :=
  congrArg (a₁ := t.units) (a₂ := s.units) State.sh h
theorem SameUnits.fl {s t : State} (h : SameUnits s t) : t.fl = s.fl :=
  congrArg (a₁ := t.units) (a₂ := s.units) State.fl h
theorem SameUnits.sv {s t : State} (h : SameUnits s t) : t.sv = s.sv :=
  congrArg (a₁ := t.units) (a₂ := s.units) State.sv h
theorem SameUnits.pw {s t : State} (h : SameUnits s t) : t.pw = s.pw :=
  congrArg (a₁ := t.units) (a₂ := s.units) State.pw h
theorem SameUnits.tm {s t : State} (h : SameUnits s t) : t.tm = s.tm :=
  congrArg (a₁ := t.units) (a₂ := s.units) State.tm h
theorem SameUnits.bt {s t : State} (h : SameUnits s t) : t.bt = s.bt :=
  congrArg (a₁ := t.units) (a₂ := s.units) State.bt h
theorem SameUnits.fp {s t : State} (h : SameUnits s t) : t.fp = s.fp :=
  congrArg (a₁ := t.units) (a₂ := s.units) State.fp h
theorem SameUnits.sb {s t : State} (h : SameUnits s t) : t.sb = s.sb :=
  congrArg (a₁ := t.units) (a₂ := s.units) State.sb h
theorem SameUnits.sc {s t : State} (h : SameUnits s t) : t.sc = s.sc :=
  congrArg (a₁ := t.units) (a₂ := s.units) State.sc h
theorem SameUnits.mc {s t : State} (h : SameUnits s t) : t.mc = s.mc :=
  congrArg (a₁ := t.units) (a₂ := s.units) State.mc h
theorem SameUnits.ua {s t : State} (h : SameUnits s t) : t.ua = s.ua :=
  congrArg (a₁ := t.units) (a₂ := s.units) State.ua h
theorem SameUnits.lk {s t : State} (h : SameUnits s t) : t.lk = s.lk :=
  congrArg (a₁ := t.units) (a₂ := s.units) State.lk h
theorem SameUnits.ae {s t : State} (h : SameUnits s t) : t.ae = s.ae :=
  congrArg (a₁ := t.units) (a₂ := s.units) State.ae h
theorem SameUnits.cp {s t : State} (h : SameUnits s t) : t.cp = s.cp :=
  congrArg (a₁ := t.units) (a₂ := s.units) State.cp h
theorem SameUnits.se {s t : State} (h : SameUnits s t) : t.se = s.se :=
  congrArg (a₁ := t.units) (a₂ := s.units) State.se h
theorem SameUnits.cycles {s t : State} (h : SameUnits s t) : t.cycles = s.cycles :=
  congrArg (a₁ := t.units) (a₂ := s.units) State.cycles h
theorem SameUnits.freeCount {s t : State} (h : SameUnits s t) : t.freeCount = s.freeCount :=
  congrArg (a₁ := t.units) (a₂ := s.units) State.freeCount h
theorem SameUnits.pending {s t : State} (h : SameUnits s t) : t.pending = s.pending :=
  congrArg (a₁ := t.units) (a₂ := s.units) State.pending h

theorem SameUnits.set (s : State) (f : Field) (v : Nat) : SameUnits s (s.set f v) := (rfl)
theorem SameUnits.setRing (s : State) (r : Nat) (x : RingState) : SameUnits s (s.setRing r x) := (rfl)

theorem SameUnits.when (s : State) (b : Bool) (g : State → State) (h : SameUnits s (g s)) : SameUnits s (s.when b g) := by
  cases b
  · exact SameUnits.refl s
  · exact h

theorem SameUnits.matchRing (code seq : Nat) (s : State) (r : Nat) : SameUnits s (State.matchRing code seq s r) := by
  unfold State.matchRing
  split
  · split
    · exact ((SameUnits.set s _ _).trans (SameUnits.set _ _ _)).trans (SameUnits.setRing _ _ _)
    · exact SameUnits.refl s
  · exact SameUnits.refl s

theorem SameUnits.matchRings (code seq : Nat) (s : State) (l : List Nat) :
    SameUnits s (l.foldl (State.matchRing code seq) s) :=
  foldl_keeps (fun t => SameUnits s t) _ (fun t r h => h.trans (SameUnits.matchRing code seq t r)) l s (SameUnits.refl s)

theorem SameUnits.logPush (s : State) (e : LogEntry) : SameUnits s (s.logPush e) := by
  have h (t : State) (l : List LogEntry) : SameUnits t { t with log := l } := (rfl)
  unfold State.logPush
  split
  · exact h s _
  · exact ((SameUnits.when s _ _ (SameUnits.set s _ _)).trans (SameUnits.set _ _ _)).trans (h _ _)

theorem SameUnits.pendUnit (s : State) (u : Nat) : SameUnits s (s.pendUnit u) :=
  SameUnits.when s _ _ (SameUnits.set s _ _)

theorem SameUnits.logEvent (s : State) (e : LogEntry) : SameUnits s (s.logEvent e) := by
  unfold State.logEvent
  split
  · exact (SameUnits.logPush s e).trans (SameUnits.pendUnit _ _)
  · split
    · exact SameUnits.set s _ _
    · split
      · exact (SameUnits.set s _ _).trans (SameUnits.set _ _ _)
      · split
        · exact (((((SameUnits.set s _ _).trans (SameUnits.set _ _ _)).trans
            (SameUnits.matchRings _ _ _ _)).trans (SameUnits.logPush _ _)).trans
            (SameUnits.set _ _ _)).trans (SameUnits.pendUnit _ _)
        · exact (SameUnits.logPush s e).trans (SameUnits.pendUnit _ _)

/-- An event changes registers, waiting rings and the log, and nothing else. -/
theorem SameUnits.raiseFrom (s : State) (source code w5 w6 w7 : Nat) :
    SameUnits s (s.raiseFrom source code w5 w6 w7) := by
  unfold State.raiseFrom
  split
  · exact ((SameUnits.set s _ _).trans (SameUnits.matchRings _ _ _ _)).trans (SameUnits.logEvent _ _)
  · exact SameUnits.refl s

/-- Outside a cycle that gathers its events, an event is raised at once. -/
theorem State.raise_eq (s : State) (code w5 w6 w7 : Nat) (h : s.batch = none) :
    s.raise code w5 w6 w7 = s.raiseFrom 0 code w5 w6 w7 := by
  simp [State.raise, h]

theorem SameUnits.raise (s : State) (code w5 w6 w7 : Nat) : SameUnits s (s.raise code w5 w6 w7) := by
  unfold State.raise
  split
  · exact Eq.refl s.units
  · exact SameUnits.raiseFrom s 0 code w5 w6 w7

theorem SameUnits.raiseAll (s : State) (l : List (Nat × Nat × Nat × Nat)) : SameUnits s (s.raiseAll l) :=
  foldl_keeps (fun t => SameUnits s t) _ (fun t e h => h.trans (SameUnits.raise t e.1 e.2.1 e.2.2.1 e.2.2.2)) _ s
    (SameUnits.refl s)

/-- What `f` leaves alone, one cycle of it leaves alone. -/
theorem SameUnits.oneCycle (s : State) (f : State → State) (h : ∀ b, SameUnits s (f { s with batch := b })) :
    SameUnits s (s.oneCycle f) := by
  unfold State.oneCycle
  split
  · exact h s.batch
  · have g (t : State) : SameUnits t { t with batch := none } := (rfl)
    exact ((h (some [])).trans (g _)).trans (SameUnits.raiseAll _ _)

/-- The registers an event may change: the log's, the pending bits, and G and T of the waiting rings. -/
def eventField (g : Field) : Prop :=
  g.key = TM_EVSEQ.SEQ.key ∨ g.key = TM_LOGLOST.COUNT.key ∨ g.key = TM_LOGOLD.SLOT.key ∨
    g.key = TM_STATUS.LOGSTOP.key ∨ g.key = QU_EVPEND.UNIT.key ∨
    (∃ r d, r < 16 ∧ d < 8 ∧ g.key = (SY_CTX.G r d).key) ∨ ∃ r, r < 16 ∧ g.key = (SY_FLAGS.T r).key

theorem State.get_matchRing {g : Field} (h : ¬ eventField g) (code seq : Nat) (s : State) {r : Nat} (hr : r < 16) :
    (State.matchRing code seq s r).get g = s.get g := by
  simp only [eventField, not_or, not_exists, not_and] at h
  unfold State.matchRing
  split
  · split
    · simp only [State.waiteMatch, State.get_setRing]
      rw [State.get_set_ne _ _ (h.2.2.2.2.2.2 r hr), State.get_set_ne _ _ (h.2.2.2.2.2.1 r _ hr (by omega))]
    · rfl
  · rfl

theorem State.get_matchRings {g : Field} (h : ¬ eventField g) (code seq : Nat) (s : State) :
    ((List.range 16).foldl (State.matchRing code seq) s).get g = s.get g :=
  foldl_same_mem (fun t : State => t.get g) _ (List.range 16)
    (fun t _ hr => State.get_matchRing h code seq t (List.mem_range.mp hr)) s

theorem State.get_logPush {g : Field} (h : ¬ eventField g) (s : State) (e : LogEntry) :
    (s.logPush e).get g = s.get g := by
  simp only [eventField, not_or, not_exists] at h
  have hl (t : State) (l : List LogEntry) : ({ t with log := l } : State).get g = t.get g := (rfl)
  unfold State.logPush
  split
  · rfl
  · simp only [hl]
    rw [State.get_set_ne _ _ h.2.2.1]
    simp only [State.when]
    split
    · split
      · exact State.get_set_ne _ _ h.2.1
      · rfl
    · rfl

theorem State.get_pendUnit {g : Field} (h : ¬ eventField g) (s : State) (u : Nat) :
    (s.pendUnit u).get g = s.get g := by
  simp only [eventField, not_or, not_exists] at h
  unfold State.pendUnit State.when
  split
  · exact State.get_set_ne _ _ h.2.2.2.2.1
  · rfl

theorem State.get_logEvent {g : Field} (h : ¬ eventField g) (s : State) (e : LogEntry) :
    (s.logEvent e).get g = s.get g := by
  have h' := h
  simp only [eventField, not_or, not_exists] at h'
  unfold State.logEvent
  split
  · rw [State.get_pendUnit h, State.get_logPush h]
  · split
    · exact State.get_set_ne _ _ h'.2.1
    · split
      · simp only [State.add_eq, State.setFlag_eq]
        rw [State.get_set_ne _ _ h'.2.1, State.get_set_ne _ _ h'.2.2.2.1]
      · split
        · simp only [State.add_eq, State.setFlag_eq]
          rw [State.get_pendUnit h, State.get_set_ne _ _ h'.2.2.2.1, State.get_logPush h, State.get_matchRings h,
            State.get_set_ne _ _ h'.1, State.get_set_ne _ _ h'.2.1]
        · rw [State.get_pendUnit h, State.get_logPush h]

/-- An event leaves every other register alone. -/
theorem State.get_raiseFrom {g : Field} (h : ¬ eventField g) (s : State) (source code w5 w6 w7 : Nat) :
    (s.raiseFrom source code w5 w6 w7).get g = s.get g := by
  have h' := h
  simp only [eventField, not_or, not_exists] at h'
  unfold State.raiseFrom
  split
  · simp only [State.add_eq]
    rw [State.get_logEvent h, State.get_matchRings h, State.get_set_ne _ _ h'.1]
  · rfl

theorem State.get_raise {g : Field} (h : ¬ eventField g) (s : State) (code w5 w6 w7 : Nat) :
    (s.raise code w5 w6 w7).get g = s.get g := by
  unfold State.raise
  split
  · exact Eq.refl (s.get g)
  · exact State.get_raiseFrom h s 0 code w5 w6 w7

theorem State.get_raiseAll {g : Field} (h : ¬ eventField g) (s : State) (l : List (Nat × Nat × Nat × Nat)) :
    (s.raiseAll l).get g = s.get g := by
  unfold State.raiseAll
  exact foldl_same (fun t : State => t.get g) _
    (fun t (e : Nat × Nat × Nat × Nat) => State.get_raise h t e.1 e.2.1 e.2.2.1 e.2.2.2) _ s

/-- The registers `f` leaves alone, one cycle of it leaves alone, but an event's. -/
theorem State.get_oneCycle {g : Field} (h : ¬ eventField g) (s : State) (f : State → State) :
    ∃ b, (s.oneCycle f).get g = (f { s with batch := b }).get g := by
  unfold State.oneCycle
  split
  · exact ⟨s.batch, rfl⟩
  · exact ⟨some [], State.get_raiseAll h _ _⟩

/-- A register outside the system block, the time block and QU_EVPEND is no register of an event. -/
theorem not_eventField {g : Field} (hlo : g.lo < 32) (h0 : 0x1000 ≤ g.off) (hA : g.off < 0xA000 ∨ 0xB000 ≤ g.off)
    (hE : g.off ≠ 0x2008) : ¬ eventField g := by
  intro h
  simp only [eventField, Field.key, TM_EVSEQ.SEQ, TM_LOGLOST.COUNT, TM_LOGOLD.SLOT, TM_STATUS.LOGSTOP,
    QU_EVPEND.UNIT, SY_CTX.G, SY_FLAGS.T] at h
  rcases h with h | h | h | h | h | ⟨r, d, hr, hd, h⟩ | ⟨r, hr, h⟩ <;> omega

end Sys2Proof.Machine
end

