-- ==== Sys2Proof/Laws/Posts.lean ====
section
/-! SUPPORT. The laws of issue and of completion entries (R79, R80, R82, R101, R105 to R108). -/

namespace Sys2Proof.Machine

open Reg

/-! ## Issue -/

/-- An instruction whose ring is ready and whose entry is free is issued to its body. -/
theorem State.issue_eq (s : State) (op : Op) (opcode cost : Nat) (body : State → OpRef → State)
    (h : s.ringReady op.ring = true) (hc : s.canReserve op.ring = true) :
    s.issue op opcode cost body =
      body ((((s.reserve op.ring).add (QU_OUT.OUT op.ring) 1).moveOn op.ring (1 + op.ext.length)).uses cost)
        (s.opRef op.ring opcode) := by
  simp only [State.issue, h, hc, if_true]

/-- A ring that is not ready does nothing. -/
theorem State.issue_idle (s : State) (op : Op) (opcode cost : Nat) (body : State → OpRef → State)
    (h : s.ringReady op.ring = false) : s.issue op opcode cost body = s := by
  simp [State.issue, h]

/-- R82: a ring without a free entry is held. -/
theorem State.issue_held (s : State) (op : Op) (opcode cost : Nat) (body : State → OpRef → State)
    (h : s.ringReady op.ring = true) (hc : s.canReserve op.ring = false) :
    s.issue op opcode cost body = s.cqHold op.ring (s.cqOf op.ring) := by
  simp [State.issue, h, hc]

/-! ## The judgement (R108) -/

theorem State.judge_ok (s : State) (ref : OpRef) (n : Nat) (body : State → State) :
    s.judge ref true true true true true n body = body s := by
  simp [State.judge]

theorem State.judge_ext (s : State) (ref : OpRef) (b c d e : Bool) (n : Nat) (body : State → State) :
    s.judge ref false b c d e n body = s.refuse ref 0x11 := by
  simp [State.judge]

theorem State.judge_reserved (s : State) (ref : OpRef) (c d e : Bool) (n : Nat) (body : State → State) :
    s.judge ref true false c d e n body = s.refuse ref 0x12 := by
  simp [State.judge]

theorem State.judge_staging (s : State) (ref : OpRef) (d e : Bool) (n : Nat) (body : State → State) :
    s.judge ref true true false d e n body = s.refuse ref 0x13 := by
  simp [State.judge]

theorem State.judge_illegal (s : State) (ref : OpRef) (e : Bool) (n : Nat) (body : State → State) :
    s.judge ref true true true false e n body = s.illegal ref := by
  simp [State.judge]

theorem State.judge_range (s : State) (ref : OpRef) (n : Nat) (body : State → State) :
    s.judge ref true true true true false n body = s.post ref n 0 := by
  simp [State.judge]

/-! ## Posting (R79, R80) -/

/-- The registers a completion may change. -/
def postField (g : Field) : Prop :=
  (∃ m < 4, g.key = (QU_CQTAIL.TAIL m).key ∨ g.key = (QU_CQRES.RESV m).key) ∨
    (∃ r < 16, g.key = (QU_OUT.OUT r).key) ∨ g.key = QU_EVPEND.CQ.key

theorem OpRef.q_lt (c : OpRef) : c.q < 4 := Nat.mod_lt _ (by decide)

theorem State.get_setSlots (s : State) (off : Nat) (l : List Nat) (g : Field) : (s.setSlots off l).get g = s.get g := by
  induction l generalizing s off with
  | nil => simp [State.setSlots]
  | cons w l ih => rw [State.setSlots, ih, State.get_setSlot]

theorem State.ring_setSlots (s : State) (off : Nat) (l : List Nat) (r : Nat) : (s.setSlots off l).ring r = s.ring r := by
  induction l generalizing s off with
  | nil => simp [State.setSlots]
  | cons w l ih => rw [State.setSlots, ih, State.ring_setSlot]

theorem State.get_cqEvaluate {g : Field} (s : State) (m : Nat) (h : g.key ≠ QU_EVPEND.CQ.key) :
    (s.cqEvaluate m).get g = s.get g := by
  unfold State.cqEvaluate State.when
  split
  · exact State.get_set_ne _ _ h
  · simp only

/-- A completion entry leaves every other register alone. -/
theorem State.get_cqWrite {g : Field} (s : State) (c : OpRef) (status result : Nat) (h : ¬ postField g) :
    (s.cqWrite c status result).get g = s.get g := by
  simp only [postField, not_or, not_exists, not_and] at h
  have ht := (h.1 c.q c.q_lt).1
  have hr := (h.1 c.q c.q_lt).2
  have ho := h.2.1 (c.ring % 16) (Nat.mod_lt _ (by decide))
  simp only [State.cqWrite, State.add_eq]
  rw [State.get_cqEvaluate _ _ h.2.2, State.get_set_ne _ _ ho, State.get_setQueue,
    State.get_set_ne _ _ hr, State.get_set_ne _ _ ht, State.get_setSlots]

/-- What a completion leaves alone, with the FENCE it may release. -/
theorem State.get_post {g : Field} (s : State) (c : OpRef) (status result : Nat) (h : ¬ postField g) :
    (s.post c status result).get g = s.get g := by
  unfold State.post State.fenceRelease
  split
  · split
    · rw [State.get_cqWrite _ _ _ _ h, State.get_setRing, State.get_cqWrite _ _ _ _ h]
    · exact State.get_cqWrite _ _ _ _ h
  · exact State.get_cqWrite _ _ _ _ h

theorem State.get_postOpt {g : Field} (s : State) (c : Option OpRef) (status result : Nat) (h : ¬ postField g) :
    (s.postOpt c status result).get g = s.get g := by
  cases c with
  | none => simp only [State.postOpt]
  | some c => exact State.get_post s c status result h

/-- A ring with no waiting FENCE posts one entry alone. -/
theorem State.post_eq (s : State) (c : OpRef) (status result : Nat)
    (h : ∀ ref n, (s.ring c.ring).wait ≠ Wait.fence ref n) :
    s.post c status result = s.cqWrite c status (result % 2 ^ 24) := by
  have hr : (s.cqWrite c status (result % 2 ^ 24)).ring c.ring = s.ring c.ring := by
    have he (t : State) (m : Nat) : (t.cqEvaluate m).ring c.ring = t.ring c.ring := by
      unfold State.cqEvaluate State.when; split <;> simp
    simp only [State.cqWrite, he, State.add_eq, State.ring_set, State.ring_setQueue, State.ring_setSlots]
  unfold State.post State.fenceRelease
  rw [hr]
  split
  · rename_i ref n hw
    exact absurd hw (h ref n)
  · simp only

theorem State.slots_cqEvaluate (s : State) (m : Nat) : (s.cqEvaluate m).slots = s.slots := by
  unfold State.cqEvaluate State.when; split <;> simp

/-- R79: the first three words of the entry. -/
theorem State.entry_cqWrite (s : State) (c : OpRef) (status result : Nat) :
    (s.cqWrite c status result).slot (s.entryBase c.q) = c.word0 status % 2 ^ 24 ∧
      (s.cqWrite c status result).slot (s.entryBase c.q + 4) = c.word1 % 2 ^ 24 ∧
      (s.cqWrite c status result).slot (s.entryBase c.q + 8) = result % 2 ^ 24 := by
  have he (t : State) (m off : Nat) : (t.cqEvaluate m).slot off = t.slot off := by
    simp only [State.slot, State.slots_cqEvaluate]
  have h0 : s.entryBase c.q ≠ s.entryBase c.q + 4 := by omega
  have h1 : s.entryBase c.q ≠ s.entryBase c.q + 4 + 4 := by omega
  have h2 : s.entryBase c.q ≠ s.entryBase c.q + 4 + 4 + 4 := by omega
  have h3 : s.entryBase c.q + 4 ≠ s.entryBase c.q + 4 + 4 := by omega
  have h4 : s.entryBase c.q + 4 ≠ s.entryBase c.q + 4 + 4 + 4 := by omega
  have h5 : s.entryBase c.q + 8 ≠ s.entryBase c.q + 4 + 4 + 4 := by omega
  refine ⟨?_, ?_, ?_⟩ <;>
    simp only [State.cqWrite, he, State.slot_set, State.slot_setQueue, State.add_eq, State.setSlots] <;>
    simp only [State.entryBase] at * <;>
    simp only [State.slot_setSlot_ne _ _ h0, State.slot_setSlot_ne _ _ h1, State.slot_setSlot_ne _ _ h2,
      State.slot_setSlot_ne _ _ h3, State.slot_setSlot_ne _ _ h4, State.slot_setSlot_ne _ _ h5,
      State.slot_setSlot_same]

/-- R80: the tail advances by one. -/
theorem State.tail_cqWrite (s : State) (c : OpRef) (status result : Nat) :
    (s.cqWrite c status result).get (QU_CQTAIL.TAIL c.q) = (s.get (QU_CQTAIL.TAIL c.q) + 1) % 2 ^ 24 := by
  have hq := c.q_lt
  have hr : c.ring % 16 < 16 := Nat.mod_lt _ (by decide)
  have h : (QU_CQTAIL.TAIL c.q).key ≠ (QU_OUT.OUT (c.ring % 16)).key := by
    simp only [Field.key, QU_CQTAIL.TAIL, QU_OUT.OUT]; omega
  have h' : (QU_CQTAIL.TAIL c.q).key ≠ (QU_CQRES.RESV c.q).key := by
    simp only [Field.key, QU_CQTAIL.TAIL, QU_CQRES.RESV]; omega
  have h'' : (QU_CQTAIL.TAIL c.q).key ≠ QU_EVPEND.CQ.key := by
    simp only [Field.key, QU_CQTAIL.TAIL, QU_EVPEND.CQ]; omega
  simp only [State.cqWrite, State.add_eq]
  rw [State.get_cqEvaluate _ _ h'', State.get_set_ne _ _ h, State.get_setQueue, State.get_set_ne _ _ h',
    State.get_set_same, State.get_setSlots]
  rfl

end Sys2Proof.Machine
end

