-- ==== Sys2Proof/Laws/Units.lean ====
section
/-! SUPPORT. What the setters of the units' state leave alone, and what a read answers after one. -/

namespace Sys2Proof.Machine

@[simp] theorem State.setFl_regs (s : State) (x : Flash) : (s.setFl x).regs = s.regs := (rfl)
@[simp] theorem State.setFl_slots (s : State) (x : Flash) : (s.setFl x).slots = s.slots := (rfl)
@[simp] theorem State.setFl_now (s : State) (x : Flash) : (s.setFl x).now = s.now := (rfl)
@[simp] theorem State.setFl_clock (s : State) (x : Flash) : (s.setFl x).clock = s.clock := (rfl)
@[simp] theorem State.setFl_running (s : State) (x : Flash) : (s.setFl x).running = s.running := (rfl)
@[simp] theorem State.setFl_coreUp (s : State) (x : Flash) : (s.setFl x).coreUp = s.coreUp := (rfl)
@[simp] theorem State.setFl_rings (s : State) (x : Flash) : (s.setFl x).rings = s.rings := (rfl)
@[simp] theorem State.setFl_queues (s : State) (x : Flash) : (s.setFl x).queues = s.queues := (rfl)
@[simp] theorem State.setFl_ring15 (s : State) (x : Flash) : (s.setFl x).ring15 = s.ring15 := (rfl)
@[simp] theorem State.setFl_tick (s : State) (x : Flash) : (s.setFl x).tick = s.tick := (rfl)
@[simp] theorem State.setFl_log (s : State) (x : Flash) : (s.setFl x).log = s.log := (rfl)
@[simp] theorem State.setFl_store (s : State) (x : Flash) : (s.setFl x).store = s.store := (rfl)
@[simp] theorem State.setFl_mn (s : State) (x : Flash) : (s.setFl x).mn = s.mn := (rfl)
@[simp] theorem State.setFl_hp (s : State) (x : Flash) : (s.setFl x).hp = s.hp := (rfl)
@[simp] theorem State.setFl_sh (s : State) (x : Flash) : (s.setFl x).sh = s.sh := (rfl)
@[simp] theorem State.setFl_fl (s : State) (x : Flash) : (s.setFl x).fl = x := (rfl)
@[simp] theorem State.setFl_sv (s : State) (x : Flash) : (s.setFl x).sv = s.sv := (rfl)
@[simp] theorem State.setFl_pw (s : State) (x : Flash) : (s.setFl x).pw = s.pw := (rfl)
@[simp] theorem State.setFl_tm (s : State) (x : Flash) : (s.setFl x).tm = s.tm := (rfl)
@[simp] theorem State.setFl_bt (s : State) (x : Flash) : (s.setFl x).bt = s.bt := (rfl)
@[simp] theorem State.setFl_fp (s : State) (x : Flash) : (s.setFl x).fp = s.fp := (rfl)
@[simp] theorem State.setFl_sb (s : State) (x : Flash) : (s.setFl x).sb = s.sb := (rfl)
@[simp] theorem State.setFl_sc (s : State) (x : Flash) : (s.setFl x).sc = s.sc := (rfl)
@[simp] theorem State.setFl_mc (s : State) (x : Flash) : (s.setFl x).mc = s.mc := (rfl)
@[simp] theorem State.setFl_ua (s : State) (x : Flash) : (s.setFl x).ua = s.ua := (rfl)
@[simp] theorem State.setFl_lk (s : State) (x : Flash) : (s.setFl x).lk = s.lk := (rfl)
@[simp] theorem State.setFl_ae (s : State) (x : Flash) : (s.setFl x).ae = s.ae := (rfl)
@[simp] theorem State.setFl_cp (s : State) (x : Flash) : (s.setFl x).cp = s.cp := (rfl)
@[simp] theorem State.setFl_se (s : State) (x : Flash) : (s.setFl x).se = s.se := (rfl)
@[simp] theorem State.setFl_cycles (s : State) (x : Flash) : (s.setFl x).cycles = s.cycles := (rfl)
@[simp] theorem State.setFl_freeCount (s : State) (x : Flash) : (s.setFl x).freeCount = s.freeCount := (rfl)
@[simp] theorem State.setFl_pending (s : State) (x : Flash) : (s.setFl x).pending = s.pending := (rfl)
@[simp] theorem State.get_setFl (s : State) (x : Flash) (g : Field) : (s.setFl x).get g = s.get g := (rfl)
@[simp] theorem State.slot_setFl (s : State) (x : Flash) (off : Nat) : (s.setFl x).slot off = s.slot off := (rfl)
@[simp] theorem State.ring_setFl (s : State) (x : Flash) (r : Nat) : (s.setFl x).ring r = s.ring r := (rfl)
@[simp] theorem State.queue_setFl (s : State) (x : Flash) (m : Nat) : (s.setFl x).queue m = s.queue m := (rfl)

@[simp] theorem State.setFp_regs (s : State) (x : Faceplate) : (s.setFp x).regs = s.regs := (rfl)
@[simp] theorem State.setFp_slots (s : State) (x : Faceplate) : (s.setFp x).slots = s.slots := (rfl)
@[simp] theorem State.setFp_now (s : State) (x : Faceplate) : (s.setFp x).now = s.now := (rfl)
@[simp] theorem State.setFp_clock (s : State) (x : Faceplate) : (s.setFp x).clock = s.clock := (rfl)
@[simp] theorem State.setFp_running (s : State) (x : Faceplate) : (s.setFp x).running = s.running := (rfl)
@[simp] theorem State.setFp_coreUp (s : State) (x : Faceplate) : (s.setFp x).coreUp = s.coreUp := (rfl)
@[simp] theorem State.setFp_rings (s : State) (x : Faceplate) : (s.setFp x).rings = s.rings := (rfl)
@[simp] theorem State.setFp_queues (s : State) (x : Faceplate) : (s.setFp x).queues = s.queues := (rfl)
@[simp] theorem State.setFp_ring15 (s : State) (x : Faceplate) : (s.setFp x).ring15 = s.ring15 := (rfl)
@[simp] theorem State.setFp_tick (s : State) (x : Faceplate) : (s.setFp x).tick = s.tick := (rfl)
@[simp] theorem State.setFp_log (s : State) (x : Faceplate) : (s.setFp x).log = s.log := (rfl)
@[simp] theorem State.setFp_store (s : State) (x : Faceplate) : (s.setFp x).store = s.store := (rfl)
@[simp] theorem State.setFp_mn (s : State) (x : Faceplate) : (s.setFp x).mn = s.mn := (rfl)
@[simp] theorem State.setFp_hp (s : State) (x : Faceplate) : (s.setFp x).hp = s.hp := (rfl)
@[simp] theorem State.setFp_sh (s : State) (x : Faceplate) : (s.setFp x).sh = s.sh := (rfl)
@[simp] theorem State.setFp_fl (s : State) (x : Faceplate) : (s.setFp x).fl = s.fl := (rfl)
@[simp] theorem State.setFp_sv (s : State) (x : Faceplate) : (s.setFp x).sv = s.sv := (rfl)
@[simp] theorem State.setFp_pw (s : State) (x : Faceplate) : (s.setFp x).pw = s.pw := (rfl)
@[simp] theorem State.setFp_tm (s : State) (x : Faceplate) : (s.setFp x).tm = s.tm := (rfl)
@[simp] theorem State.setFp_bt (s : State) (x : Faceplate) : (s.setFp x).bt = s.bt := (rfl)
@[simp] theorem State.setFp_fp (s : State) (x : Faceplate) : (s.setFp x).fp = x := (rfl)
@[simp] theorem State.setFp_sb (s : State) (x : Faceplate) : (s.setFp x).sb = s.sb := (rfl)
@[simp] theorem State.setFp_sc (s : State) (x : Faceplate) : (s.setFp x).sc = s.sc := (rfl)
@[simp] theorem State.setFp_mc (s : State) (x : Faceplate) : (s.setFp x).mc = s.mc := (rfl)
@[simp] theorem State.setFp_ua (s : State) (x : Faceplate) : (s.setFp x).ua = s.ua := (rfl)
@[simp] theorem State.setFp_lk (s : State) (x : Faceplate) : (s.setFp x).lk = s.lk := (rfl)
@[simp] theorem State.setFp_ae (s : State) (x : Faceplate) : (s.setFp x).ae = s.ae := (rfl)
@[simp] theorem State.setFp_cp (s : State) (x : Faceplate) : (s.setFp x).cp = s.cp := (rfl)
@[simp] theorem State.setFp_se (s : State) (x : Faceplate) : (s.setFp x).se = s.se := (rfl)
@[simp] theorem State.setFp_cycles (s : State) (x : Faceplate) : (s.setFp x).cycles = s.cycles := (rfl)
@[simp] theorem State.setFp_freeCount (s : State) (x : Faceplate) : (s.setFp x).freeCount = s.freeCount := (rfl)
@[simp] theorem State.setFp_pending (s : State) (x : Faceplate) : (s.setFp x).pending = s.pending := (rfl)
@[simp] theorem State.get_setFp (s : State) (x : Faceplate) (g : Field) : (s.setFp x).get g = s.get g := (rfl)
@[simp] theorem State.slot_setFp (s : State) (x : Faceplate) (off : Nat) : (s.setFp x).slot off = s.slot off := (rfl)
@[simp] theorem State.ring_setFp (s : State) (x : Faceplate) (r : Nat) : (s.setFp x).ring r = s.ring r := (rfl)
@[simp] theorem State.queue_setFp (s : State) (x : Faceplate) (m : Nat) : (s.setFp x).queue m = s.queue m := (rfl)

@[simp] theorem State.setSb_regs (s : State) (x : SideBand) : (s.setSb x).regs = s.regs := (rfl)
@[simp] theorem State.setSb_slots (s : State) (x : SideBand) : (s.setSb x).slots = s.slots := (rfl)
@[simp] theorem State.setSb_now (s : State) (x : SideBand) : (s.setSb x).now = s.now := (rfl)
@[simp] theorem State.setSb_clock (s : State) (x : SideBand) : (s.setSb x).clock = s.clock := (rfl)
@[simp] theorem State.setSb_running (s : State) (x : SideBand) : (s.setSb x).running = s.running := (rfl)
@[simp] theorem State.setSb_coreUp (s : State) (x : SideBand) : (s.setSb x).coreUp = s.coreUp := (rfl)
@[simp] theorem State.setSb_rings (s : State) (x : SideBand) : (s.setSb x).rings = s.rings := (rfl)
@[simp] theorem State.setSb_queues (s : State) (x : SideBand) : (s.setSb x).queues = s.queues := (rfl)
@[simp] theorem State.setSb_ring15 (s : State) (x : SideBand) : (s.setSb x).ring15 = s.ring15 := (rfl)
@[simp] theorem State.setSb_tick (s : State) (x : SideBand) : (s.setSb x).tick = s.tick := (rfl)
@[simp] theorem State.setSb_log (s : State) (x : SideBand) : (s.setSb x).log = s.log := (rfl)
@[simp] theorem State.setSb_store (s : State) (x : SideBand) : (s.setSb x).store = s.store := (rfl)
@[simp] theorem State.setSb_mn (s : State) (x : SideBand) : (s.setSb x).mn = s.mn := (rfl)
@[simp] theorem State.setSb_hp (s : State) (x : SideBand) : (s.setSb x).hp = s.hp := (rfl)
@[simp] theorem State.setSb_sh (s : State) (x : SideBand) : (s.setSb x).sh = s.sh := (rfl)
@[simp] theorem State.setSb_fl (s : State) (x : SideBand) : (s.setSb x).fl = s.fl := (rfl)
@[simp] theorem State.setSb_sv (s : State) (x : SideBand) : (s.setSb x).sv = s.sv := (rfl)
@[simp] theorem State.setSb_pw (s : State) (x : SideBand) : (s.setSb x).pw = s.pw := (rfl)
@[simp] theorem State.setSb_tm (s : State) (x : SideBand) : (s.setSb x).tm = s.tm := (rfl)
@[simp] theorem State.setSb_bt (s : State) (x : SideBand) : (s.setSb x).bt = s.bt := (rfl)
@[simp] theorem State.setSb_fp (s : State) (x : SideBand) : (s.setSb x).fp = s.fp := (rfl)
@[simp] theorem State.setSb_sb (s : State) (x : SideBand) : (s.setSb x).sb = x := (rfl)
@[simp] theorem State.setSb_sc (s : State) (x : SideBand) : (s.setSb x).sc = s.sc := (rfl)
@[simp] theorem State.setSb_mc (s : State) (x : SideBand) : (s.setSb x).mc = s.mc := (rfl)
@[simp] theorem State.setSb_ua (s : State) (x : SideBand) : (s.setSb x).ua = s.ua := (rfl)
@[simp] theorem State.setSb_lk (s : State) (x : SideBand) : (s.setSb x).lk = s.lk := (rfl)
@[simp] theorem State.setSb_ae (s : State) (x : SideBand) : (s.setSb x).ae = s.ae := (rfl)
@[simp] theorem State.setSb_cp (s : State) (x : SideBand) : (s.setSb x).cp = s.cp := (rfl)
@[simp] theorem State.setSb_se (s : State) (x : SideBand) : (s.setSb x).se = s.se := (rfl)
@[simp] theorem State.setSb_cycles (s : State) (x : SideBand) : (s.setSb x).cycles = s.cycles := (rfl)
@[simp] theorem State.setSb_freeCount (s : State) (x : SideBand) : (s.setSb x).freeCount = s.freeCount := (rfl)
@[simp] theorem State.setSb_pending (s : State) (x : SideBand) : (s.setSb x).pending = s.pending := (rfl)
@[simp] theorem State.get_setSb (s : State) (x : SideBand) (g : Field) : (s.setSb x).get g = s.get g := (rfl)
@[simp] theorem State.slot_setSb (s : State) (x : SideBand) (off : Nat) : (s.setSb x).slot off = s.slot off := (rfl)
@[simp] theorem State.ring_setSb (s : State) (x : SideBand) (r : Nat) : (s.setSb x).ring r = s.ring r := (rfl)
@[simp] theorem State.queue_setSb (s : State) (x : SideBand) (m : Nat) : (s.setSb x).queue m = s.queue m := (rfl)

@[simp] theorem State.setSc_regs (s : State) (x : SmartCard) : (s.setSc x).regs = s.regs := (rfl)
@[simp] theorem State.setSc_slots (s : State) (x : SmartCard) : (s.setSc x).slots = s.slots := (rfl)
@[simp] theorem State.setSc_now (s : State) (x : SmartCard) : (s.setSc x).now = s.now := (rfl)
@[simp] theorem State.setSc_clock (s : State) (x : SmartCard) : (s.setSc x).clock = s.clock := (rfl)
@[simp] theorem State.setSc_running (s : State) (x : SmartCard) : (s.setSc x).running = s.running := (rfl)
@[simp] theorem State.setSc_coreUp (s : State) (x : SmartCard) : (s.setSc x).coreUp = s.coreUp := (rfl)
@[simp] theorem State.setSc_rings (s : State) (x : SmartCard) : (s.setSc x).rings = s.rings := (rfl)
@[simp] theorem State.setSc_queues (s : State) (x : SmartCard) : (s.setSc x).queues = s.queues := (rfl)
@[simp] theorem State.setSc_ring15 (s : State) (x : SmartCard) : (s.setSc x).ring15 = s.ring15 := (rfl)
@[simp] theorem State.setSc_tick (s : State) (x : SmartCard) : (s.setSc x).tick = s.tick := (rfl)
@[simp] theorem State.setSc_log (s : State) (x : SmartCard) : (s.setSc x).log = s.log := (rfl)
@[simp] theorem State.setSc_store (s : State) (x : SmartCard) : (s.setSc x).store = s.store := (rfl)
@[simp] theorem State.setSc_mn (s : State) (x : SmartCard) : (s.setSc x).mn = s.mn := (rfl)
@[simp] theorem State.setSc_hp (s : State) (x : SmartCard) : (s.setSc x).hp = s.hp := (rfl)
@[simp] theorem State.setSc_sh (s : State) (x : SmartCard) : (s.setSc x).sh = s.sh := (rfl)
@[simp] theorem State.setSc_fl (s : State) (x : SmartCard) : (s.setSc x).fl = s.fl := (rfl)
@[simp] theorem State.setSc_sv (s : State) (x : SmartCard) : (s.setSc x).sv = s.sv := (rfl)
@[simp] theorem State.setSc_pw (s : State) (x : SmartCard) : (s.setSc x).pw = s.pw := (rfl)
@[simp] theorem State.setSc_tm (s : State) (x : SmartCard) : (s.setSc x).tm = s.tm := (rfl)
@[simp] theorem State.setSc_bt (s : State) (x : SmartCard) : (s.setSc x).bt = s.bt := (rfl)
@[simp] theorem State.setSc_fp (s : State) (x : SmartCard) : (s.setSc x).fp = s.fp := (rfl)
@[simp] theorem State.setSc_sb (s : State) (x : SmartCard) : (s.setSc x).sb = s.sb := (rfl)
@[simp] theorem State.setSc_sc (s : State) (x : SmartCard) : (s.setSc x).sc = x := (rfl)
@[simp] theorem State.setSc_mc (s : State) (x : SmartCard) : (s.setSc x).mc = s.mc := (rfl)
@[simp] theorem State.setSc_ua (s : State) (x : SmartCard) : (s.setSc x).ua = s.ua := (rfl)
@[simp] theorem State.setSc_lk (s : State) (x : SmartCard) : (s.setSc x).lk = s.lk := (rfl)
@[simp] theorem State.setSc_ae (s : State) (x : SmartCard) : (s.setSc x).ae = s.ae := (rfl)
@[simp] theorem State.setSc_cp (s : State) (x : SmartCard) : (s.setSc x).cp = s.cp := (rfl)
@[simp] theorem State.setSc_se (s : State) (x : SmartCard) : (s.setSc x).se = s.se := (rfl)
@[simp] theorem State.setSc_cycles (s : State) (x : SmartCard) : (s.setSc x).cycles = s.cycles := (rfl)
@[simp] theorem State.setSc_freeCount (s : State) (x : SmartCard) : (s.setSc x).freeCount = s.freeCount := (rfl)
@[simp] theorem State.setSc_pending (s : State) (x : SmartCard) : (s.setSc x).pending = s.pending := (rfl)
@[simp] theorem State.get_setSc (s : State) (x : SmartCard) (g : Field) : (s.setSc x).get g = s.get g := (rfl)
@[simp] theorem State.slot_setSc (s : State) (x : SmartCard) (off : Nat) : (s.setSc x).slot off = s.slot off := (rfl)
@[simp] theorem State.ring_setSc (s : State) (x : SmartCard) (r : Nat) : (s.setSc x).ring r = s.ring r := (rfl)
@[simp] theorem State.queue_setSc (s : State) (x : SmartCard) (m : Nat) : (s.setSc x).queue m = s.queue m := (rfl)

@[simp] theorem State.setMc_regs (s : State) (x : MemCard) : (s.setMc x).regs = s.regs := (rfl)
@[simp] theorem State.setMc_slots (s : State) (x : MemCard) : (s.setMc x).slots = s.slots := (rfl)
@[simp] theorem State.setMc_now (s : State) (x : MemCard) : (s.setMc x).now = s.now := (rfl)
@[simp] theorem State.setMc_clock (s : State) (x : MemCard) : (s.setMc x).clock = s.clock := (rfl)
@[simp] theorem State.setMc_running (s : State) (x : MemCard) : (s.setMc x).running = s.running := (rfl)
@[simp] theorem State.setMc_coreUp (s : State) (x : MemCard) : (s.setMc x).coreUp = s.coreUp := (rfl)
@[simp] theorem State.setMc_rings (s : State) (x : MemCard) : (s.setMc x).rings = s.rings := (rfl)
@[simp] theorem State.setMc_queues (s : State) (x : MemCard) : (s.setMc x).queues = s.queues := (rfl)
@[simp] theorem State.setMc_ring15 (s : State) (x : MemCard) : (s.setMc x).ring15 = s.ring15 := (rfl)
@[simp] theorem State.setMc_tick (s : State) (x : MemCard) : (s.setMc x).tick = s.tick := (rfl)
@[simp] theorem State.setMc_log (s : State) (x : MemCard) : (s.setMc x).log = s.log := (rfl)
@[simp] theorem State.setMc_store (s : State) (x : MemCard) : (s.setMc x).store = s.store := (rfl)
@[simp] theorem State.setMc_mn (s : State) (x : MemCard) : (s.setMc x).mn = s.mn := (rfl)
@[simp] theorem State.setMc_hp (s : State) (x : MemCard) : (s.setMc x).hp = s.hp := (rfl)
@[simp] theorem State.setMc_sh (s : State) (x : MemCard) : (s.setMc x).sh = s.sh := (rfl)
@[simp] theorem State.setMc_fl (s : State) (x : MemCard) : (s.setMc x).fl = s.fl := (rfl)
@[simp] theorem State.setMc_sv (s : State) (x : MemCard) : (s.setMc x).sv = s.sv := (rfl)
@[simp] theorem State.setMc_pw (s : State) (x : MemCard) : (s.setMc x).pw = s.pw := (rfl)
@[simp] theorem State.setMc_tm (s : State) (x : MemCard) : (s.setMc x).tm = s.tm := (rfl)
@[simp] theorem State.setMc_bt (s : State) (x : MemCard) : (s.setMc x).bt = s.bt := (rfl)
@[simp] theorem State.setMc_fp (s : State) (x : MemCard) : (s.setMc x).fp = s.fp := (rfl)
@[simp] theorem State.setMc_sb (s : State) (x : MemCard) : (s.setMc x).sb = s.sb := (rfl)
@[simp] theorem State.setMc_sc (s : State) (x : MemCard) : (s.setMc x).sc = s.sc := (rfl)
@[simp] theorem State.setMc_mc (s : State) (x : MemCard) : (s.setMc x).mc = x := (rfl)
@[simp] theorem State.setMc_ua (s : State) (x : MemCard) : (s.setMc x).ua = s.ua := (rfl)
@[simp] theorem State.setMc_lk (s : State) (x : MemCard) : (s.setMc x).lk = s.lk := (rfl)
@[simp] theorem State.setMc_ae (s : State) (x : MemCard) : (s.setMc x).ae = s.ae := (rfl)
@[simp] theorem State.setMc_cp (s : State) (x : MemCard) : (s.setMc x).cp = s.cp := (rfl)
@[simp] theorem State.setMc_se (s : State) (x : MemCard) : (s.setMc x).se = s.se := (rfl)
@[simp] theorem State.setMc_cycles (s : State) (x : MemCard) : (s.setMc x).cycles = s.cycles := (rfl)
@[simp] theorem State.setMc_freeCount (s : State) (x : MemCard) : (s.setMc x).freeCount = s.freeCount := (rfl)
@[simp] theorem State.setMc_pending (s : State) (x : MemCard) : (s.setMc x).pending = s.pending := (rfl)
@[simp] theorem State.get_setMc (s : State) (x : MemCard) (g : Field) : (s.setMc x).get g = s.get g := (rfl)
@[simp] theorem State.slot_setMc (s : State) (x : MemCard) (off : Nat) : (s.setMc x).slot off = s.slot off := (rfl)
@[simp] theorem State.ring_setMc (s : State) (x : MemCard) (r : Nat) : (s.setMc x).ring r = s.ring r := (rfl)
@[simp] theorem State.queue_setMc (s : State) (x : MemCard) (m : Nat) : (s.setMc x).queue m = s.queue m := (rfl)

@[simp] theorem State.setLk_regs (s : State) (x : Link) : (s.setLk x).regs = s.regs := (rfl)
@[simp] theorem State.setLk_slots (s : State) (x : Link) : (s.setLk x).slots = s.slots := (rfl)
@[simp] theorem State.setLk_now (s : State) (x : Link) : (s.setLk x).now = s.now := (rfl)
@[simp] theorem State.setLk_clock (s : State) (x : Link) : (s.setLk x).clock = s.clock := (rfl)
@[simp] theorem State.setLk_running (s : State) (x : Link) : (s.setLk x).running = s.running := (rfl)
@[simp] theorem State.setLk_coreUp (s : State) (x : Link) : (s.setLk x).coreUp = s.coreUp := (rfl)
@[simp] theorem State.setLk_rings (s : State) (x : Link) : (s.setLk x).rings = s.rings := (rfl)
@[simp] theorem State.setLk_queues (s : State) (x : Link) : (s.setLk x).queues = s.queues := (rfl)
@[simp] theorem State.setLk_ring15 (s : State) (x : Link) : (s.setLk x).ring15 = s.ring15 := (rfl)
@[simp] theorem State.setLk_tick (s : State) (x : Link) : (s.setLk x).tick = s.tick := (rfl)
@[simp] theorem State.setLk_log (s : State) (x : Link) : (s.setLk x).log = s.log := (rfl)
@[simp] theorem State.setLk_store (s : State) (x : Link) : (s.setLk x).store = s.store := (rfl)
@[simp] theorem State.setLk_mn (s : State) (x : Link) : (s.setLk x).mn = s.mn := (rfl)
@[simp] theorem State.setLk_hp (s : State) (x : Link) : (s.setLk x).hp = s.hp := (rfl)
@[simp] theorem State.setLk_sh (s : State) (x : Link) : (s.setLk x).sh = s.sh := (rfl)
@[simp] theorem State.setLk_fl (s : State) (x : Link) : (s.setLk x).fl = s.fl := (rfl)
@[simp] theorem State.setLk_sv (s : State) (x : Link) : (s.setLk x).sv = s.sv := (rfl)
@[simp] theorem State.setLk_pw (s : State) (x : Link) : (s.setLk x).pw = s.pw := (rfl)
@[simp] theorem State.setLk_tm (s : State) (x : Link) : (s.setLk x).tm = s.tm := (rfl)
@[simp] theorem State.setLk_bt (s : State) (x : Link) : (s.setLk x).bt = s.bt := (rfl)
@[simp] theorem State.setLk_fp (s : State) (x : Link) : (s.setLk x).fp = s.fp := (rfl)
@[simp] theorem State.setLk_sb (s : State) (x : Link) : (s.setLk x).sb = s.sb := (rfl)
@[simp] theorem State.setLk_sc (s : State) (x : Link) : (s.setLk x).sc = s.sc := (rfl)
@[simp] theorem State.setLk_mc (s : State) (x : Link) : (s.setLk x).mc = s.mc := (rfl)
@[simp] theorem State.setLk_ua (s : State) (x : Link) : (s.setLk x).ua = s.ua := (rfl)
@[simp] theorem State.setLk_lk (s : State) (x : Link) : (s.setLk x).lk = x := (rfl)
@[simp] theorem State.setLk_ae (s : State) (x : Link) : (s.setLk x).ae = s.ae := (rfl)
@[simp] theorem State.setLk_cp (s : State) (x : Link) : (s.setLk x).cp = s.cp := (rfl)
@[simp] theorem State.setLk_se (s : State) (x : Link) : (s.setLk x).se = s.se := (rfl)
@[simp] theorem State.setLk_cycles (s : State) (x : Link) : (s.setLk x).cycles = s.cycles := (rfl)
@[simp] theorem State.setLk_freeCount (s : State) (x : Link) : (s.setLk x).freeCount = s.freeCount := (rfl)
@[simp] theorem State.setLk_pending (s : State) (x : Link) : (s.setLk x).pending = s.pending := (rfl)
@[simp] theorem State.get_setLk (s : State) (x : Link) (g : Field) : (s.setLk x).get g = s.get g := (rfl)
@[simp] theorem State.slot_setLk (s : State) (x : Link) (off : Nat) : (s.setLk x).slot off = s.slot off := (rfl)
@[simp] theorem State.ring_setLk (s : State) (x : Link) (r : Nat) : (s.setLk x).ring r = s.ring r := (rfl)
@[simp] theorem State.queue_setLk (s : State) (x : Link) (m : Nat) : (s.setLk x).queue m = s.queue m := (rfl)

@[simp] theorem State.setAe_regs (s : State) (x : Analytics) : (s.setAe x).regs = s.regs := (rfl)
@[simp] theorem State.setAe_slots (s : State) (x : Analytics) : (s.setAe x).slots = s.slots := (rfl)
@[simp] theorem State.setAe_now (s : State) (x : Analytics) : (s.setAe x).now = s.now := (rfl)
@[simp] theorem State.setAe_clock (s : State) (x : Analytics) : (s.setAe x).clock = s.clock := (rfl)
@[simp] theorem State.setAe_running (s : State) (x : Analytics) : (s.setAe x).running = s.running := (rfl)
@[simp] theorem State.setAe_coreUp (s : State) (x : Analytics) : (s.setAe x).coreUp = s.coreUp := (rfl)
@[simp] theorem State.setAe_rings (s : State) (x : Analytics) : (s.setAe x).rings = s.rings := (rfl)
@[simp] theorem State.setAe_queues (s : State) (x : Analytics) : (s.setAe x).queues = s.queues := (rfl)
@[simp] theorem State.setAe_ring15 (s : State) (x : Analytics) : (s.setAe x).ring15 = s.ring15 := (rfl)
@[simp] theorem State.setAe_tick (s : State) (x : Analytics) : (s.setAe x).tick = s.tick := (rfl)
@[simp] theorem State.setAe_log (s : State) (x : Analytics) : (s.setAe x).log = s.log := (rfl)
@[simp] theorem State.setAe_store (s : State) (x : Analytics) : (s.setAe x).store = s.store := (rfl)
@[simp] theorem State.setAe_mn (s : State) (x : Analytics) : (s.setAe x).mn = s.mn := (rfl)
@[simp] theorem State.setAe_hp (s : State) (x : Analytics) : (s.setAe x).hp = s.hp := (rfl)
@[simp] theorem State.setAe_sh (s : State) (x : Analytics) : (s.setAe x).sh = s.sh := (rfl)
@[simp] theorem State.setAe_fl (s : State) (x : Analytics) : (s.setAe x).fl = s.fl := (rfl)
@[simp] theorem State.setAe_sv (s : State) (x : Analytics) : (s.setAe x).sv = s.sv := (rfl)
@[simp] theorem State.setAe_pw (s : State) (x : Analytics) : (s.setAe x).pw = s.pw := (rfl)
@[simp] theorem State.setAe_tm (s : State) (x : Analytics) : (s.setAe x).tm = s.tm := (rfl)
@[simp] theorem State.setAe_bt (s : State) (x : Analytics) : (s.setAe x).bt = s.bt := (rfl)
@[simp] theorem State.setAe_fp (s : State) (x : Analytics) : (s.setAe x).fp = s.fp := (rfl)
@[simp] theorem State.setAe_sb (s : State) (x : Analytics) : (s.setAe x).sb = s.sb := (rfl)
@[simp] theorem State.setAe_sc (s : State) (x : Analytics) : (s.setAe x).sc = s.sc := (rfl)
@[simp] theorem State.setAe_mc (s : State) (x : Analytics) : (s.setAe x).mc = s.mc := (rfl)
@[simp] theorem State.setAe_ua (s : State) (x : Analytics) : (s.setAe x).ua = s.ua := (rfl)
@[simp] theorem State.setAe_lk (s : State) (x : Analytics) : (s.setAe x).lk = s.lk := (rfl)
@[simp] theorem State.setAe_ae (s : State) (x : Analytics) : (s.setAe x).ae = x := (rfl)
@[simp] theorem State.setAe_cp (s : State) (x : Analytics) : (s.setAe x).cp = s.cp := (rfl)
@[simp] theorem State.setAe_se (s : State) (x : Analytics) : (s.setAe x).se = s.se := (rfl)
@[simp] theorem State.setAe_cycles (s : State) (x : Analytics) : (s.setAe x).cycles = s.cycles := (rfl)
@[simp] theorem State.setAe_freeCount (s : State) (x : Analytics) : (s.setAe x).freeCount = s.freeCount := (rfl)
@[simp] theorem State.setAe_pending (s : State) (x : Analytics) : (s.setAe x).pending = s.pending := (rfl)
@[simp] theorem State.get_setAe (s : State) (x : Analytics) (g : Field) : (s.setAe x).get g = s.get g := (rfl)
@[simp] theorem State.slot_setAe (s : State) (x : Analytics) (off : Nat) : (s.setAe x).slot off = s.slot off := (rfl)
@[simp] theorem State.ring_setAe (s : State) (x : Analytics) (r : Nat) : (s.setAe x).ring r = s.ring r := (rfl)
@[simp] theorem State.queue_setAe (s : State) (x : Analytics) (m : Nat) : (s.setAe x).queue m = s.queue m := (rfl)

@[simp] theorem State.setSe_regs (s : State) (x : Security) : (s.setSe x).regs = s.regs := (rfl)
@[simp] theorem State.setSe_slots (s : State) (x : Security) : (s.setSe x).slots = s.slots := (rfl)
@[simp] theorem State.setSe_now (s : State) (x : Security) : (s.setSe x).now = s.now := (rfl)
@[simp] theorem State.setSe_clock (s : State) (x : Security) : (s.setSe x).clock = s.clock := (rfl)
@[simp] theorem State.setSe_running (s : State) (x : Security) : (s.setSe x).running = s.running := (rfl)
@[simp] theorem State.setSe_coreUp (s : State) (x : Security) : (s.setSe x).coreUp = s.coreUp := (rfl)
@[simp] theorem State.setSe_rings (s : State) (x : Security) : (s.setSe x).rings = s.rings := (rfl)
@[simp] theorem State.setSe_queues (s : State) (x : Security) : (s.setSe x).queues = s.queues := (rfl)
@[simp] theorem State.setSe_ring15 (s : State) (x : Security) : (s.setSe x).ring15 = s.ring15 := (rfl)
@[simp] theorem State.setSe_tick (s : State) (x : Security) : (s.setSe x).tick = s.tick := (rfl)
@[simp] theorem State.setSe_log (s : State) (x : Security) : (s.setSe x).log = s.log := (rfl)
@[simp] theorem State.setSe_store (s : State) (x : Security) : (s.setSe x).store = s.store := (rfl)
@[simp] theorem State.setSe_mn (s : State) (x : Security) : (s.setSe x).mn = s.mn := (rfl)
@[simp] theorem State.setSe_hp (s : State) (x : Security) : (s.setSe x).hp = s.hp := (rfl)
@[simp] theorem State.setSe_sh (s : State) (x : Security) : (s.setSe x).sh = s.sh := (rfl)
@[simp] theorem State.setSe_fl (s : State) (x : Security) : (s.setSe x).fl = s.fl := (rfl)
@[simp] theorem State.setSe_sv (s : State) (x : Security) : (s.setSe x).sv = s.sv := (rfl)
@[simp] theorem State.setSe_pw (s : State) (x : Security) : (s.setSe x).pw = s.pw := (rfl)
@[simp] theorem State.setSe_tm (s : State) (x : Security) : (s.setSe x).tm = s.tm := (rfl)
@[simp] theorem State.setSe_bt (s : State) (x : Security) : (s.setSe x).bt = s.bt := (rfl)
@[simp] theorem State.setSe_fp (s : State) (x : Security) : (s.setSe x).fp = s.fp := (rfl)
@[simp] theorem State.setSe_sb (s : State) (x : Security) : (s.setSe x).sb = s.sb := (rfl)
@[simp] theorem State.setSe_sc (s : State) (x : Security) : (s.setSe x).sc = s.sc := (rfl)
@[simp] theorem State.setSe_mc (s : State) (x : Security) : (s.setSe x).mc = s.mc := (rfl)
@[simp] theorem State.setSe_ua (s : State) (x : Security) : (s.setSe x).ua = s.ua := (rfl)
@[simp] theorem State.setSe_lk (s : State) (x : Security) : (s.setSe x).lk = s.lk := (rfl)
@[simp] theorem State.setSe_ae (s : State) (x : Security) : (s.setSe x).ae = s.ae := (rfl)
@[simp] theorem State.setSe_cp (s : State) (x : Security) : (s.setSe x).cp = s.cp := (rfl)
@[simp] theorem State.setSe_se (s : State) (x : Security) : (s.setSe x).se = x := (rfl)
@[simp] theorem State.setSe_cycles (s : State) (x : Security) : (s.setSe x).cycles = s.cycles := (rfl)
@[simp] theorem State.setSe_freeCount (s : State) (x : Security) : (s.setSe x).freeCount = s.freeCount := (rfl)
@[simp] theorem State.setSe_pending (s : State) (x : Security) : (s.setSe x).pending = s.pending := (rfl)
@[simp] theorem State.get_setSe (s : State) (x : Security) (g : Field) : (s.setSe x).get g = s.get g := (rfl)
@[simp] theorem State.slot_setSe (s : State) (x : Security) (off : Nat) : (s.setSe x).slot off = s.slot off := (rfl)
@[simp] theorem State.ring_setSe (s : State) (x : Security) (r : Nat) : (s.setSe x).ring r = s.ring r := (rfl)
@[simp] theorem State.queue_setSe (s : State) (x : Security) (m : Nat) : (s.setSe x).queue m = s.queue m := (rfl)

end Sys2Proof.Machine
end

