-- ==== Sys2Proof/Tests/Slice0.lean ====
section
/-! SUPPORT. Tests: ill-formed commands that WellFormed refuses, small steps whose results the spec's words
give, and for every statement with hypotheses a state and operands that meet them. -/

namespace Sys2Proof.Tests

set_option Elab.async false

open Machine Reg

/-! ## Small states -/

def on (s : State) (l : List (Field × Nat)) : State := l.foldl (fun s p => s.set p.1 p.2) s

/-- The core domain up, with fields set. -/
def up (l : List (Field × Nat)) : State := on { State.reset with coreUp := true } l

/-- The core domain up in power state `p`. -/
def run (p : Nat) (l : List (Field × Nat)) : State := up ((PW_STATE.STATE, p) :: l)

/-- The organisation of 8 GiB in one rank. -/
def dimm : List (Field × Nat) := [(HP_CONFIG.RANKS, 1), (HP_CONFIG.GIB, 8)]

/-- With the DRAM the host's. -/
def host : List (Field × Nat) := (HP_OWN.STATE, 0) :: dimm

/-- An instruction of ring 0. -/
def op (dst src imm9 : Nat) (ext : List Word) : Op := ⟨0, dst, src, imm9, ext⟩

/-- The last state of a step. -/
def after (o : Host.Outcome State Fault Refusal) : State :=
  match o with
  | .next t => t
  | _ => State.reset

/-- The completion of ring 0's instruction `opcode` at its head. -/
def ref (opcode : Nat) : OpRef := ⟨0, 0, false, opcode, 0⟩

/-! ## Ill-formed commands -/

/-- R89: each field of an instruction word out of its range. -/
theorem test_wf_refuses_instruction_fields :
    ∀ o ∈ [(⟨16, 0, 0, 0, []⟩ : Op), ⟨0, 8, 0, 0, []⟩, ⟨0, 0, 8, 0, []⟩, ⟨0, 0, 0, 512, []⟩,
      ⟨0, 0, 0, 0, List.replicate 8 0⟩], (Instr.add o).wf = false ∧ (Instr.tset o).wf = false := by decide +kernel

theorem test_wf_refuses_writers_and_words :
    ∀ c ∈ [Instr.wake (.ring 16), .waittExpiry 16, .waiteMatch 0 (2 ^ 24), .waiteMatch 16 0, .waiteTimeout 16,
      .fenceRelease 16, .unitCompletion 20, .registerWrite .host 0x100000 0, .registerWrite .host 2 0,
      .programFree .host 32, .tkRateWrite .host 65536, .tkShareWrite .host [(16, 0)], .tkShareWrite .host [(0, 1024)],
      .tkStarveWrite .host 256, .apertureBaseWrite .host 3 0, .apertureBaseWrite .host 0 65536], c.wf = false := by
  decide +kernel

theorem test_wf_refuses_ring_writes :
    ∀ c ∈ [Instr.doorbell .host 16 0, .doorbell .host 0 (2 ^ 24), .residentBind .host 16 0, .residentBind .host 0 16384,
      .residentUnbind .host 16 0, .residentUnbind .host 0 16384, .cqHeadWrite .host 4 0, .cqHeadWrite .host 0 (2 ^ 24),
      .cqMapWrite .host true (2 ^ 24), .evpendClear .host (2 ^ 24)], c.wf = false := by decide +kernel

theorem test_wf_refuses_host_commands :
    ∀ c ∈ [Instr.hostRead 4 0 0 0 8, .hostRead 0 16 0 0 8, .hostRead 0 0 1024 0 8, .hostRead 0 0 0 8 8,
      .hostRead 0 0 0 0 5, .hostWrite 0 0 0 0 8 (List.replicate 63 0) 0 (List.replicate 8 0),
      .hostWrite 0 0 0 0 4 (List.replicate 32 256) 0 (List.replicate 4 0),
      .hostWrite 0 0 0 0 4 (List.replicate 32 0) (2 ^ 64) (List.replicate 4 0),
      .hostWrite 0 0 0 0 4 (List.replicate 32 0) 0 (List.replicate 5 0),
      .hostWrite 0 0 0 0 4 (List.replicate 32 0) 0 (List.replicate 4 256), .hostActPre 4 none none,
      .hostActPre 0 (some 16) none, .hostActPre 0 none (some (2 ^ 18)), .hostMrs 4 0 0 none, .hostMrs 0 8 0 none,
      .hostMrs 0 0 (2 ^ 18) none, .hostMrs 0 0 0 (some 18), .hostSelfRefreshEntry 4, .hostSrx 4 0,
      .caParityError 4], c.wf = false := by decide +kernel

theorem test_wf_refuses_rails_monitors_and_time :
    ∀ c ∈ [Instr.sequencerEvaluation 4096, .startTimeout 12, .railOffReached 12 0, .railStuck 12 0, .railFault 12 true 0 0,
      .marginSettled 4, .marginTimeout 4, .monitorFlagChange 32 0 1 [], .monitorConfigWrite .host 1 0,
      .monitorConfigWrite .host 0 (2 ^ 24), .btCapnomWrite .host (2 ^ 24), .logRelease .host (2 ^ 24),
      .leapWrite .host 4 0, .coldStart 8 false false ⟨0, 0, 0, 0⟩,
      .packRemoved 0, .coulombSample ⟨0, 0, false, false, 0, 0, 1001, false⟩], c.wf = false := by decide +kernel

theorem test_wf_refuses_ports_and_units :
    ∀ c ∈ [Instr.scAtr [256] true, .scPpsResponse [256], .scBlockReceived [256] false false, .scRawCharacter true true 256,
      .mcHostcntWrite .host (2 ^ 24), .mcReadBlock true [256], .uartRxIdleTimeout 4, .uartSendDone 4, .uartSleepEntry 4,
      .uartWake 4, .uartCharacterReceived 4 ⟨[], false, 1, false⟩,
      .uartCharacterReceived 0 ⟨[(false, false, false)], false, 0, false⟩, .ackReceived 0 256 0,
      .ingestWindowEnable .host 8 0, .ingestWindowEnable .host 0 (2 ^ 24), .exportOwnerWrite .host 32,
      .indicatorMeasurement 8 0 0, .provingPulse 8 0 0, .offStateProbe 8 0, .smbusRegisterWrite [256],
      .smbusPageSelect [256], .smbusRegisterRead (some 256) 4], c.wf = false := by decide +kernel

/-! ## Single steps -/

/-- R92: 0xFFFFFF + 1 wraps to 0 with Z and C set, N and V clear. -/
theorem test_add_wraps :
    let s := up [(SY_CTX.G 0 1, 0xFFFFFF)]
    let t := after (exec (.add (op 1 0 257 [])) s)
    t.greg 0 1 = 0 ∧ t.get (SY_FLAGS.Z 0) = 1 ∧ t.get (SY_FLAGS.N 0) = 0 ∧ t.get (SY_FLAGS.C 0) = 1 ∧ t.get (SY_FLAGS.V 0) = 0 := by decide +kernel

/-- R92: 0 − 1 borrows. -/
theorem test_sub_borrows :
    let t := after (exec (.sub (op 1 0 257 [])) (up []))
    t.greg 0 1 = 0xFFFFFF ∧ t.get (SY_FLAGS.Z 0) = 0 ∧ t.get (SY_FLAGS.N 0) = 1 ∧ t.get (SY_FLAGS.C 0) = 1 ∧ t.get (SY_FLAGS.V 0) = 0 := by decide +kernel

/-- R93: LDI sign-extends its immediate. -/
theorem test_ldi_sign_extends : (after (exec (.ldi (op 7 0 511 [])) (up []))).greg 0 7 = 0xFFFFFF := by decide +kernel

/-- R79, R80: a unit instruction's reserved form posts status 0x11 and changes nothing else there. -/
theorem test_tset_form_posts :
    let t := after (exec (.tset (op 0 0 0 [])) (run active []))
    t.get (QU_CQTAIL.TAIL 0) = 1 ∧ t.slot ((run active []).entryBase 0) / 2 ^ 12 % 256 = 0x11 := by decide +kernel

/-- R65: a write to a slot no writer may write is ignored and counted. -/
theorem test_unmapped_write_counts :
    (after (exec (.registerWrite .host 0x14 5) (up []))).get SY_VIOLATIONS.COUNT = 1 := by decide +kernel

/-- R120: a host WRITE of eight beats at an open bank is read back. -/
theorem test_host_write_reads_back :
    let s : State := { up host with hp := { HostPath.reset with rows := [(bankKey 0 0, 0)] } }
    let t := after (exec (.hostWrite 0 0 0 0 8 (List.range 64) (2 ^ 64 - 1) (List.replicate 8 0)) s)
    (after (exec (.hostRead 0 0 0 0 8) t)).hp.answer = List.range 64 := by decide +kernel

/-- R215, R216: areas run from 1 to 10, and a codeword is lost only after three retry reads. -/
theorem test_codeword_lost :
    Instr.wf (.blockRetired 0 5 1 ⟨[⟨0, 10, 7, 0, 3, false⟩], []⟩) = true ∧
      Instr.wf (.blockRetired 0 5 1 ⟨[⟨0, 11, 7, 0, 3, false⟩], []⟩) = false ∧
      Instr.wf (.blockRetired 0 5 1 ⟨[⟨0, 10, 7, 0, 2, false⟩], []⟩) = false := by decide +kernel

/-- The step takes the command in front and leaves the others. -/
theorem test_step_front :
    let s := { up [] with pending := [.ldi (op 1 0 5 []), .nop (op 0 0 0 [])] }
    (after (step s)).pending = [.nop (op 0 0 0 [])] ∧ (after (step s)).greg 0 1 = 5 := by decide +kernel

/-! ## The hypotheses of the statements can be met -/

theorem witness_ring : RingOpen (up []) 0 ∧ RingOpen (run active []) 0 := by
  simp only [RingOpen]; decide +kernel

theorem witness_StepRunsFront : ∃ (s : State) (c : Instr) (rest : List Instr), s.pending = c :: rest :=
  ⟨{ State.reset with pending := [.jobSlice] }, .jobSlice, [], rfl⟩

theorem witness_MemoryStaysCanonical : ∃ t, Memory.wf (up []) = true ∧ step (up []) = .next t :=
  ⟨up [], by decide +kernel, rfl⟩

theorem witness_InstructionWordsDecode : 63 < 64 ∧ (⟨15, 7, 7, 511, List.replicate 7 0xFFFFFF#24⟩ : Op).wf = true := by
  decide +kernel

theorem witness_LoadResults :
    (op 7 0 511 []).wf = true ∧ (up []).ringReady 0 = true ∧ (op 7 0 511 []).coreForm 0x01 = true ∧
      (op 7 0 0 [0xFFFFFF#24]).coreForm 0x01 = true ∧ (op 7 7 0 []).coreForm 0x02 = true := by decide +kernel

theorem witness_ArithmeticResults :
    (op 1 0 0 [0xFFFFFF#24]).wf = true ∧ (up []).ringReady 0 = true ∧
      ∀ c ∈ [3, 4, 5, 6, 7], (op 1 0 0 [0xFFFFFF#24]).coreForm c = true ∧ (op 1 7 0 []).coreForm c = true ∧
        (op 1 0 511 []).coreForm c = true := by decide +kernel

theorem witness_FlowResults :
    (up []).ringReady 0 = true ∧ (op 0 0 0 []).coreForm 0x00 = true ∧
      (let s := up [(QU_TAIL.TAIL 0, 255)]
       (op 0 0 255 []).coreForm 0x08 = true ∧ s.condition 0 0 = true ∧ s.resident 0 = false ∧
         255 ≤ ({ s with rings := [(0, { RingState.idle with snap := 255 })] } : State).snapLeft 0 ∧
         s.snapLeft 0 < 1 ∧ s.get SY_VIOLATIONS.COUNT < 2 ^ 24 - 1) ∧
      (let s := up [(QU_MODE.RES 0, 1)]
       s.ringReady 0 = true ∧ (op 3 0 511 [255]).coreForm 0x09 = true ∧ s.resident 0 = true ∧
         (s.ring 0).lc.length = 4) := by decide +kernel

theorem witness_WaitResults :
    (up []).ringReady 0 = true ∧ (up []).resident 0 = false ∧ (op 0 0 511 []).coreForm 0x0A = true ∧
      (op 7 0 511 [0xFFF]).coreForm 0x0B = true ∧
      (∀ p ∈ [0, 1],
        let u : State := { up [] with rings := [(0, { RingState.idle with wait := .ticks p })] }
        (u.ring 0).wait = .ticks p ∧ u.tickCount = 0 ∧ u.sv.pavane = none) ∧
      (∀ l ∈ [none, some 0, some 1], ∀ e ∈ [0x383, 0x384],
        let entry : LogEntry := ⟨e, 0, 0, 0, 0, 0, 0, 0, false, false⟩
        let u : State := { up [] with rings := [(0, { RingState.idle with wait := .event 0x384 0 l 7 })], log := [entry] }
        (u.ring 0).wait = .event 0x384 0 l 7 ∧ u.tickCount = 0 ∧ u.sv.pavane = none ∧
          u.raisedFor 0x384 0 0 = (e == 0x384) ∧ u.raisedFor 0x384 1 0 = false ∧ u.coreUp = true ∧ u.batch = none ∧
          eventMatches 0x384 0x384 = true) := by decide +kernel

theorem witness_PostingResults :
    (let s : State := { up [(QU_MODE.RES 0, 1)] with rings := [(0, { RingState.idle with run := some 2 })] }
     s.ringReady 0 = true ∧ s.canReserve 0 = true ∧ s.resident 0 = true) ∧
    (up []).canReserve 0 = true ∧
    (op 0 7 0 []).coreForm 0x0C = true ∧ (op 0 0 0 []).coreForm 0x0D = true ∧ (up []).get (QU_OUT.OUT 0) = 0 ∧
      (up [(QU_OUT.OUT 0, 1)]).get (QU_OUT.OUT 0) ≠ 0 ∧
      (let u : State := { up [(QU_OUT.OUT 0, 1)] with rings := [(0, { RingState.idle with wait := .fence (ref 0x0D) 3 })] }
       (u.ring 0).wait = .fence (ref 0x0D) 3 ∧ u.get (QU_OUT.OUT 0) ≤ 1) := by decide +kernel

theorem witness_ReservedAndIllegal :
    (op 0 0 0 [0, 0]).wf = true ∧ (up [(SY_VIOLATIONS.COUNT, 2 ^ 24 - 2)]).get SY_VIOLATIONS.COUNT < 2 ^ 24 - 1 ∧
      (up []).ringReady 0 = true ∧ (op 0 0 0 [0, 0]).coreForm 0x03 = false := by decide +kernel

theorem witness_SlotInstructionResults :
    (op 0 0 0 [0x10000]).coreForm 0x0E = true ∧ 4 * (up []).rdIndex (op 0 0 0 [0x10000]) = 0x40000 ∧
      4 * (up []).rdIndex (op 0 0 0 [0x23FFF]) = 0x8FFFC ∧ (op 0 0 0 [0x3FFFF, 0x800000]).coreForm 0x0F = true ∧
      genStaging ≤ 4 * (up []).wrIndex (op 0 0 0 [0x3FFFF, 0x800000]) ∧ (up []).ownedRanges = [] ∧
      (op 0 0 0 [0x3FFFF, 0x800000]).wrMask ≠ 0 ∧ (op 0 0 0 [0x24000, 0]).coreForm 0x0F = true ∧
      4 * (up []).wrIndex (op 0 0 0 [0x24000, 0]) = 0x90000 ∧ (op 0 0 0 [0x24000, 0]).wrMask = 0 := by decide +kernel

/-! ### The tick and the rings -/

theorem witness_TickWriteResults :
    (let s := up [(QU_MODE.RES 15, 1), (SY_PG_C.WCOST 0, 601), (TK_CYCLES.CYCLES, 600)]
     s.coreUp = true ∧ s.resident 15 = true ∧ s.get TK_CYCLES.CYCLES * (1000 % 2 ^ 10) / 1000 < s.get (SY_PG_C.WCOST (s.ring 15).prog)) ∧
    (up []).mayRwm .host 0x1000 = true ∧ (up []).rateMayChange = true ∧ (up []).mayRwm (.ring 3) 0x102C = true ∧
      (let l : List (Nat × Nat) := [(0, 900 - 15 * 20), (15, 20)]
       let s := up ((List.range 16).map fun r => (TK_SHARE.SHARE r, 20))
       (l.map (·.1)).Nodup ∧ (∀ p ∈ l, p.1 < 16 ∧ p.2 < 1024 ∧ (s.set (TK_SHARE.SHARE p.1) p.2).boundFit p.1 = true) ∧
         ((List.range 16).map fun r => (sparseFind r l).getD (s.get (TK_SHARE.SHARE r))).sum = 900) ∧
      (let l : List (Nat × Nat) := [(0, 601)]
       let s := up ((List.range 16).map fun r => (TK_SHARE.SHARE r, 20))
       (l.map (·.1)).Nodup ∧ (∀ p ∈ l, p.1 < 16 ∧ p.2 < 1024 ∧ (s.set (TK_SHARE.SHARE p.1) p.2).boundFit p.1 = true) ∧
         ((List.range 16).map fun r => (sparseFind r l).getD (s.get (TK_SHARE.SHARE r))).sum = 901 ∧
         s.get SY_VIOLATIONS.COUNT + l.length < 2 ^ 24) := by decide +kernel

def quietRings (s : State) : Prop :=
  s.flag TK_STATUS.RATE_PEND = false ∧ s.ring15 = ⟨false, false, false⟩ ∧
    (∀ r < 16, s.resident r = false ∧ (s.ring r).pend = none ∧ (s.ring r).wait = .none ∧
      s.get (QU_HEAD.HEAD r) = s.get (QU_TAIL.TAIL r)) ∧
    ((List.range 16).map s.shareCycles).sum ≤ s.get TK_BUDGET.BUDGET

theorem witness_TickEdgeCounts :
    (up []).coreUp = true ∧ quietRings (up []) ∧
      (up []).now ≤ (up []).edgeAhead.1 * 100000000 + edgePlace ((up []).get TK_RATE.RATE) (up []).edgeAhead.2 := by
  simp only [quietRings]; decide +kernel

theorem witness_TickEdgeServes :
    let s := up [(QU_TAIL.TAIL 15, 0), (QU_HEAD.HEAD 15, 2 ^ 24 - 1)]
    s.coreUp = true ∧ s.sv.pavane = none ∧ s.flag TK_STATUS.RATE_PEND = false ∧ s.ring15 = ⟨false, false, false⟩ ∧
      (∀ r < 16, s.resident r = false ∧ (s.ring r).pend = none ∧ (s.ring r).wait = .none ∧
        (r ≠ 15 → s.get (QU_HEAD.HEAD r) = s.get (QU_TAIL.TAIL r))) ∧
      s.get (QU_TAIL.TAIL 15) = (s.get (QU_HEAD.HEAD 15) + 1) % 2 ^ 24 ∧
      s.slot (0x40000 + 15 * 0x4000 + 4 * (s.get (QU_HEAD.HEAD 15) % 4096)) = 0 ∧
      ((List.range 16).map s.shareCycles).sum + 4 ≤ s.get TK_BUDGET.BUDGET := by decide +kernel

theorem witness_RingWriteResults :
    (let s := up [(QU_HEAD.HEAD 14, 7), (QU_TAIL.TAIL 14, 7), (QU_CQTAIL.TAIL 2, 1)]
     s.coreUp = true ∧ s.ownsRing .host 14 = true ∧ s.resident 14 = false ∧ s.occupancy 14 = 0 ∧
       (s.ring 14).leaving = false ∧ ((7 : Nat) % 2 ^ 24 + 2 ^ 24 - s.get (QU_HEAD.HEAD 14)) % 2 ^ 24 = 0 ∧
       ((7 + 4096) % 2 ^ 24 + 2 ^ 24 - s.get (QU_HEAD.HEAD 14)) % 2 ^ 24 = 4096 ∧
       4096 < ((7 + 4097) % 2 ^ 24 + 2 ^ 24 - s.get (QU_HEAD.HEAD 14)) % 2 ^ 24 ∧
       s.ownsRing .sideBand 14 = false ∧ s.ownsQueue .host 2 = true ∧ s.ownsQueue (.ring 0) 2 = false ∧
       (1 % 2 ^ 24 + 2 ^ 24 - s.get (QU_CQHEAD.HEAD 2)) % 2 ^ 24 = s.cqUsed 2 ∧
       s.cqUsed 2 < (2 % 2 ^ 24 + 2 ^ 24 - s.get (QU_CQHEAD.HEAD 2)) % 2 ^ 24 ∧ s.giveHolds = true ∧
       (s.sideBandOwns15 && newlyMaps3 7 (s.get QU_CQMAPH.MAP) 0xFFFFFF) = false ∧ s.ring15.seize = false) ∧
      (({ up [] with rings := [(0, { RingState.idle with leaving := true })] } : State).ring 0).leaving = true ∧
      State.reset.coreUp = false ∧ (up [(QU_R15CTL.OWNER, 1)]).returnHolds = true ∧ (up [(QU_R15CTL.OWNER, 1)]).ownsRing .sideBand 15 = true := by
  decide +kernel

theorem witness_ApertureResults :
    (up []).flag QU_APCTL.EN = false ∧
      (let s := up ((QU_APCTL.BASE, 8191) :: dimm)
       s.apertureFits (s.get QU_APCTL.BASE) = true) := by decide +kernel

theorem witness_SystemWriteResults :
    (up []).get SY_VIOLATIONS.COUNT < 2 ^ 24 - 1 ∧ (up [(SY_PG_A.VALID 31, 1)]).flag (SY_PG_A.VALID 31) = true ∧
      (up [(SY_PG_A.VALID 31, 1)]).flag (SY_PG_A.BOUND 31) = false := by decide +kernel

/-! ### The host memory path -/

theorem witness_HostAccessResults_write :
    let s : State := { up host with hp := { HostPath.reset with rows := [(bankKey 0 15, 65535)] } }
    s.coreUp = true ∧ s.own = 0 ∧ s.hp.deafUntil ≤ s.clock ∧ s.crcEnabled 0 = false ∧ (List.replicate 64 255).length = 8 * burstBeats 8 ∧
      sparseFind (bankKey 0 15) s.hp.rows = some 65535 ∧ s.inAperture (s.lineAddress 0 65535 15 127) = false ∧
      s.lineAddress 0 65535 15 127 + 64 = s.dramBytes := by decide +kernel

theorem witness_HostAccessResults_read :
    (let s : State := { up host with hp := { HostPath.reset with rows := [(bankKey 0 15, 65535)] } }
     s.coreUp = true ∧ s.own = 0 ∧ s.hp.deafUntil ≤ s.clock ∧ (sparseFind (bankKey 0 15) s.hp.rows).isSome = true ∧
       s.inAperture (s.lineAddress 0 65535 15 127 + 8 * burstFirst 4 4) = false ∧
       s.lineAddress 0 65535 15 127 + 8 * burstFirst 4 4 < s.dramBytes) ∧
      (let s := up [(HP_OWN.STATE, 1), (HP_OWN.BLOCK, 1)]
       s.own = 1 ∧ s.flag HP_OWN.BLOCK = true ∧ s.hp.deafUntil ≤ s.clock) ∧
      (∀ n ∈ [2, 3], (up [(HP_OWN.STATE, n)]).own = n) ∧
      (let s : State := { up host with hp := { HostPath.reset with deafUntil := 400 } }
       s.clock < s.hp.deafUntil) := by decide +kernel

theorem witness_HostCommandResults :
    (up host).coreUp = true ∧ (up host).own = 0 ∧ (up host).hp.lend = none ∧ (up host).pw.pstate = [] ∧
      (up host).hp.deafUntil ≤ (up host).clock ∧ (up host).lendPurpose = 0 ∧ (up host).hp.space ≠ 7 ∧
      (4096 : Nat) % 8192 / 4096 = 1 ∧
      (let s : State := { up host with hp := { HostPath.reset with space := 7 } }
       s.hp.space = 7 ∧ (0x300 : Nat) % 8192 / 4096 = 0 ∧ 3 ≤ (0x300 : Nat) / 256 % 16 ∧ (0x200 : Nat) / 256 % 16 = 2 ∧
         (0x200 : Nat) % 2 = 0 ∧ (0xFF : Nat) / 256 % 16 = 0 ∧ s.flag QU_APCTL.EN = false) ∧
      (let s : State := { up host with hp := { HostPath.reset with lend := some ⟨ref 0x1A, 1, 65535, 1000000, none⟩ } }
       s.own = 0 ∧ s.hp.deafUntil ≤ s.clock ∧ s.hp.lend = some ⟨ref 0x1A, 1, 65535, 1000000, none⟩ ∧
         ∀ r < s.get HP_CONFIG.RANKS, r ≠ 0 → bitOf s.hp.selfRefresh r = true) ∧
      (let s : State := { up [(HP_OWN.STATE, 2)] with
         hp := { HostPath.reset with lend := some ⟨ref 0x1A, 1, 65535, 1000000, some 0⟩ } }
       s.hp.lend = some ⟨ref 0x1A, 1, 65535, 1000000, some 0⟩ ∧ s.hp.resetInLend = false) ∧
      (up [(HP_OWN.STATE, 1)]).own = 1 ∧ (up [(HP_OWN.STATE, 3)]).own = 3 := by decide +kernel

theorem witness_DeviceDramResults :
    (let s : State := { up host with hp := { HostPath.reset with passes := [0, 1] } }
     s.coreUp = true ∧ s.hp.passes.contains 0 = true ∧ s.hp.passes.contains 1 = true ∧ s.hp.passing = none) ∧
      (let s : State := { up host with hp := { HostPath.reset with passes := [1], speedWritten := true } }
       s.hp.passes.contains 1 = true ∧ s.hp.passing = none ∧ s.hp.speedWritten = true ∧ s.hp.passes.contains 0 = false ∧
         s.hp.railScrub = false ∧ s.flag HP_STATUS.SCRUBBING = false ∧ s.sv.galliard = none ∧ s.hp.lend = none) ∧
      (∀ p ∈ [0, 1],
        let s : State := { up host with hp := { HostPath.reset with passing := some p } }
        s.hp.passing = some p ∧ s.organised = true) ∧
      (let s := run active [(HP_OWN.STATE, 1), (HP_STATUS.HTRAIN, 1), (HP_STATUS.DTH, 1)]
       s.coreUp = true ∧ s.claimLegal .host = true ∧ s.flag HP_STATUS.DEFERRED = false ∧
         s.flag HP_STATUS.SCRUBBING = false ∧ s.retrainLegal = true) ∧
      (let s := run maint [(HP_OWN.STATE, 1), (HP_STATUS.HTRAIN, 1), (HP_STATUS.DTH, 1), (HP_STATUS.DEFERRED, 1)]
       s.claimLegal .host = true ∧ s.flag HP_STATUS.DEFERRED = true) ∧
      (up []).flag HP_ECCCTL.LOCK = false ∧ (up [(HP_ECCCTL.MODE, 1)]).get HP_ECCCTL.MODE < 2 ∧
      (let s : State := { up [(HP_STATUS.DTI, 1), (FL_STATUS.READY, 1), (HP_SCRUBCFG.EN, 1)] with
         hp := { HostPath.reset with railScrub := true } }
       s.hp.railScrub = true ∧ s.flag HP_STATUS.DTI = true ∧ s.flag FL_STATUS.READY = true ∧
         s.coreUp = true ∧ s.get SV_STATUS.IMAGE = 0 ∧ (s.set SV_STATUS.IMAGE 2).get SV_STATUS.IMAGE ≠ 0 ∧
         (s.set SV_STATUS.IMAGE 2).hp.railScrub = true) ∧
      (up [(HP_STATUS.SCRUBBING, 1)]).flag HP_STATUS.SCRUBBING = true := by decide +kernel

theorem witness_LendResults :
    (let s := run active ((HP_STATUS.DTH, 1) :: host)
     RingOpen s 0 ∧ s.powerIn [active, quiet, maint] = true ∧ s.own = 0 ∧ s.hp.lend = none ∧
       s.flag HP_STATUS.DTH = true ∧ s.pw.pstate = [] ∧ s.unitsFit 131071 1 = true ∧ s.meetsAperture 131071 1 = false ∧
       s.meetsRegion s.regionKept 131071 1 = false ∧ s.hp.scrubs.length < 8) ∧
      (let s : State := { up [] with hp := { HostPath.reset with lend := some ⟨ref 0x1A, 1, 1, 0, none⟩ } }
       s.hp.lend = some ⟨ref 0x1A, 1, 1, 0, none⟩ ∧ s.due 0 = true) ∧
      (let s : State := { up [(HP_OWN.STATE, 2)] with hp := { HostPath.reset with lend := some ⟨ref 0x1A, 1, 1, 0, some 0⟩ } }
       s.hp.lend = some ⟨ref 0x1A, 1, 1, 0, some 0⟩ ∧ s.hp.resetInLend = false ∧ s.due (0 + 100000 * 1) = true) := by
  simp only [RingOpen]; decide +kernel

/-! ### Power -/

theorem witness_PstateResults :
    (∀ p ∈ [standby, active, quiet, maint], ∀ q ∈ [standby, active, quiet, maint, dormant],
      (run p []).pstateLegal q = true) ∧ RingOpen (run maint []) 0 ∧ (run standby []).auxOwed = false ∧
      ({ run standby [] with pw := { Power.reset with aux := true } } : State).auxOwed = true ∧
      (run active host).own = 0 ∧ (run active host).allRefreshing = false ∧ (run active []).own ≠ 0 := by
  simp only [RingOpen]; decide +kernel

theorem witness_RailInstructionResults :
    (let s := run active [(PW_RAIL_C.STATE 11, railGood), (PW_ON.EN, 2048)]
     s.flag PW_STATUS.SEQ = false ∧ s.railState 11 = railGood ∧ s.railOn 11 = true) ∧
      (let s := run quiet []
       RingOpen s 0 ∧ s.railState 11 ≠ railGood ∧ s.power ≠ standby ∧ s.railOn 11 = false ∧ s.railState 11 = railOff ∧
       s.pw.stop = none) ∧
      (run quiet [(PW_RAIL_C.STATE 11, railStuck)]).railState 11 = railStuck ∧
      (run standby [(PW_CTL.AUXSTBY, 1)]).flag PW_CTL.AUXSTBY = true ∧
      (let s := run maint [(PW_MG.RAIL 3, 7)]
       s.marginLegal 3 = true ∧ s.get (PW_MG.RAIL 3) ≠ 15) ∧
      (let s : State := { run maint [(PW_MG.RAIL 3, 7)] with pw := { Power.reset with
         rails := [(7, { Rail.idle with settle := 10, inFor := 99 })], margins := [⟨3, ref 0x16, 0⟩], evals := 999 } }
       s.pw.margins = [⟨3, ref 0x16, 0⟩] ∧ 0 + 1000 ≤ s.pw.evals + 1 ∧
         10 * (s.rail (s.get (PW_MG.RAIL 3))).settle ≤ (s.rail (s.get (PW_MG.RAIL 3))).inFor + 1) ∧
      (let s : State := { run active [] with pw := { Power.reset with pstate := [⟨ref 0x14, standby, 0⟩] } }
       s.pw.pstate = [⟨ref 0x14, standby, 0⟩] ∧ s.due 0 = true) := by
  simp only [RingOpen]; decide +kernel

theorem witness_RailSequenceResults :
    (let s := run dormant []
     s.power ≠ 0 ∧ s.pw.stop = none ∧ s.sv.pavane = none ∧ s.pw.seq = 0 ∧ (s.rail 8).target = false ∧
       (s.rail 9).target = false ∧ s.railOn 8 = false ∧ s.railOn 9 = false ∧
       ∀ j < 12, s.railState j ≠ railWaiting ∧ s.railState j ≠ railStarting) := by
  decide +kernel

theorem witness_RailSequenceResults_starts :
    (let s : State := { run active [] with pw := { Power.reset with stop := some ⟨[1], some 7, [], .saved⟩ } }
     s.power ≠ 0 ∧ s.pw.stop = some ⟨[1], some 7, [], .saved⟩) ∧
      (let s : State := { run dormant [(PW_RAIL_C.STATE 1, railWaiting), (PW_RAIL_A.DEP 1, 1), (PW_RAIL_C.STATE 0, railGood)] with
         pw := { Power.reset with seq := 2, rails := [(0, { Rail.idle with goodFor := 10, settle := 1 })] } }
       s.power ≠ 0 ∧ s.pw.stop = none ∧ s.sv.pavane = none ∧ s.pw.seq = 2 ^ 1 ∧ s.railState 1 = railWaiting ∧
         0 < s.get (PW_RAIL_B.TSTART 1) ∧ bitOf 0xFFD 1 = false ∧
         (∀ j < 12, s.maskBit (PW_RAIL_A.DEP 1) j = true → j ≠ 1 ∧ s.settled j = true) ∧
         s.maskBit (PW_RAIL_A.DEP 1) 0 = true ∧ (s.rail 8).target = false ∧ (s.rail 9).target = false ∧
         s.railOn 8 = false ∧ s.railOn 9 = false ∧
         ∀ j < 12, j ≠ 1 → s.railState j ≠ railWaiting ∧ s.railState j ≠ railStarting) := by
  decide +kernel

theorem witness_RailSequenceResults_goods :
    (let s : State := { run dormant [(PW_RAIL_C.STATE 7, railStarting), (PW_ON.EN, 128)] with
         pw := { Power.reset with seq := 128, rails := [(7, { Rail.idle with settle := 1, tstart := 1 })], evals := 99 } }
     s.pw.seq = 2 ^ 7 ∧ s.railState 7 = railStarting ∧ bitOf 128 7 = true ∧ 0 < (s.rail 7).settle ∧
         (s.rail 8).target = false ∧ s.railOn 8 = false ∧
         (∀ j < 12, j ≠ 7 → s.railState j ≠ railWaiting ∧ s.railState j ≠ railStarting) ∧
         (s.rail 7).t0 + 100 * (s.rail 7).tstart ≤ s.pw.evals + 1) := by
  decide +kernel

theorem witness_RailSequenceResults_stops :
    (∀ v ∈ [0, 1],
        let s : State := { run active [(PW_RAIL_C.STATE 11, railStarting), (PW_RAIL_A.ISOLATE 11, v)] with
          pw := { Power.reset with rails := [(11, { Rail.idle with tstart := 1 })], evals := 99 } }
        s.pw.stop = none ∧ s.railState 11 = railStarting ∧ s.flag (PW_RAIL_A.ISOLATE 11) = (v == 1) ∧
          (s.rail 11).t0 + 100 * (s.rail 11).tstart ≤ s.pw.evals + 1) ∧
      (let s : State := { run active [(PW_RAIL_C.STATE 11, railStopping)] with
         pw := { Power.reset with rails := [(11, { Rail.idle with offto := 5 })], evals := 499 } }
       s.railState 11 = railStopping ∧ s.pw.stop = none ∧ (s.rail 11).offAt + 100 * (s.rail 11).offto ≤ s.pw.evals + 1) ∧
      (let s : State := { run active [(PW_RAIL_C.STATE 7, railStopping)] with
         pw := { Power.reset with stop := some ⟨[1, 0], some 7, [], .latched⟩ } }
       s.pw.stop = some ⟨1 :: [0], some 7, [], .latched⟩ ∧ (StopTo.latched ≠ .dormant) ∧ s.railState 7 = railStopping) := by
  decide +kernel

theorem witness_RailFaultResults :
    (∀ v ∈ [0, 1], ∀ seq ∈ [0, 2048],
       let s : State := { run active [(PW_RAIL_C.STATE 11, railGood), (PW_ON.EN, 2048), (MN_LOW0.CH, 2 ^ 11),
         (PW_RAIL_A.ISOLATE 11, v)] with
         pw := { Power.reset with seq := seq } }
       s.channelFlag 11 = 1 + boolNat false ∧ s.railState 11 = railGood ∧ s.runningSet = true ∧ s.pw.stop = none ∧
         s.railSettling 11 = false ∧ s.ofSequence 11 = (seq == 2048) ∧ s.flag (PW_RAIL_A.ISOLATE 11) = (v == 1) ∧
         s.get PW_TFAULT.MS ≠ 0 ∧ s.sv.pavane = none) ∧
      (let s : State := { run active [(PW_STATUS.FAULTEP, 1), (PW_RAIL_C.STATE 1, railFaulty)] with
         pw := { Power.reset with faulted := 2, rails := [(1, { Rail.idle with inFor := 100 })] } }
       s.flag PW_STATUS.FAULTEP = true ∧ s.pw.stop = none ∧ s.withdrawn = true ∧ s.sv.pavane = none ∧
         bitOf s.pw.faulted 1 = true ∧ s.railState 1 = railFaulty ∧ s.runningSet = true ∧
         s.due (s.pw.faultFrom + 100000 * s.get PW_TFAULT.MS) = true ∧ s.flag SV_STATUS.ARMED = false) ∧
      (∃ k < 12, bitOf saveRails k = true) ∧ (up []).pw.lineLow = false ∧
      (({ up [] with pw := { Power.reset with lineLow := true } } : State).pw.lineLow = true) := by decide +kernel

theorem witness_WakeResults :
    (let s := on State.reset [(PW_STATE.STATE, latched), (BT_STATUS.VINOK, 1), (PW_LATCH.CAUSE, 1)]
     s.power = latched ∧ s.flag BT_STATUS.VINOK = true ∧ s.pw.stop = none ∧ s.pw.wake = false) ∧
      (let s := on State.reset [(PW_STATE.STATE, saved), (BT_STATUS.VINOK, 1), (PW_STATUS.HOLDWAKE, 1)]
       s.power = saved ∧ s.flag PW_STATUS.HOLDWAKE = true) ∧
      (let s := on State.reset [(PW_STATE.STATE, saved), (BT_STATUS.VINOK, 1)]
       s.wakeable = true ∧ s.power ≠ latched) ∧
      (on State.reset [(PW_STATE.STATE, latched), (BT_STATUS.VINOK, 1)]).power = latched ∧
      (let s := on State.reset [(PW_STATE.STATE, dormant)]
       s.power = dormant ∧ s.pw.stop = none ∧ s.pw.wake = false ∧ s.channelFlag 12 ≠ 1 ∧
         s.due (s.flagSince 12 + 10000000) = true) ∧
      (let s := run active [(MN_LOW0.CH, 2 ^ 18)]
       s.flag BT_STATUS.VINOK = false ∧ s.power ≠ 0 ∧ s.cellExhausted = true ∧ s.sv.pavane = none) ∧
      (let s : State := { on State.reset [(PW_STATE.STATE, saved), (PW_ON.EN, 1024), (TM_TCXOMAX.H, 1)] with
         running := true, clock := 3600 * 100000000 }
       s.power = saved ∧ s.railOn 10 = true ∧ s.pw.wake = false ∧ s.running = true ∧
         s.due (s.tm.savedFrom + s.get TM_TCXOMAX.H * 3600 * 100000000) = true) := by decide +kernel

/-! ### Monitors and the battery -/

theorem witness_MonitorResults :
    (let s : State := { run active [] with tick := { State.reset.tick with started := true } }
     s.channelMode 31 ≠ 0 ∧ s.judgeNode 31 100000 ≠ s.channelFlag 31 ∧ s.deglitch 31 + 1 ≤ 10 ∧
       (s.monEvents 31 = true → s.oneReading [0, 0] = true) ∧ s.judgeNode 31 0 = s.channelFlag 31 ∧
       s.scanDue = true ∧ s.mn.scanEnd ≤ s.clock ∧
       ((([0, 0] : List Int) :: [0, 0] :: [0, 0] :: s.scanInputs.map fun _ => [0, 0]).all s.oneReading) = true) ∧
      (let s : State := { run active [] with
         tick := { State.reset.tick with started := true }, mn := { Monitors.reset with scanEnd := 1 } }
       s.scanDue = true ∧ s.clock < s.mn.scanEnd) ∧
      (let s := on State.reset [(PW_STATE.STATE, latched)]
       s.coreUp = false ∧ s.power = latched ∧ s.due (s.mn.scanAt + 10000000) = true ∧
         ((([0, 0] : List Int) :: [0, 0] :: [0, 0] :: s.scanInputs.map fun _ => [0, 0]).all s.oneReading) = true) ∧ hostChannel 31 = true ∧
      sparseFind 31 (up []).mn.portForce = none ∧ (MN_CH_B.LO 31).of 0xFFBFE < (MN_CH_B.HI 31).of 0xFFFFE ∧
      (MN_CH_B.HI 31).of 0xFFFFF ≤ (MN_CH_B.LO 31).of 0xFFFFF ∧
      (let s : State := { up [] with mn := { Monitors.reset with queue := [⟨0x384, 0, 0, 0⟩] } }
       s.mn.queue = ⟨0x384, 0, 0, 0⟩ :: [] ∧ s.oneReading [0, 0] = true) := by decide +kernel

theorem witness_ChargerResults :
    (let s := run active [(BT_CTL.CHGEN, 1), (BT_STATUS.VINOK, 1)]
     s.chargePhase = phaseOff ∧ s.chargeRuns = true ∧ (s.set BT_PHASE.PHASE phaseHold).chargePhase = phaseHold) ∧
      (let s := run active [(BT_PHASE.PHASE, phasePre)]
       s.chargePhase = phasePre ∧ s.chargeRuns = false) ∧
      (let s := run active [(BT_PHASE.PHASE, phasePre), (BT_CTL.CHGEN, 1), (BT_STATUS.VINOK, 1)]
       s.chargePhase = phasePre ∧ s.chargeRuns = true ∧ s.get BT_VCUT.MV ≤ (⟨3000, 3000, 6000, 451⟩ : PackReading).lower ∧
         s.due (s.bt.phaseFrom + 100000000) = true) ∧
      (let s := run active [(BT_PHASE.PHASE, phaseHold), (BT_CTL.CHGEN, 1), (BT_STATUS.VINOK, 1)]
       s.chargePhase = phaseHold ∧ s.chargeRuns = true) ∧
      (∀ p ∈ [phaseCc, phaseCv, phaseFloat],
        let s : State := { run active [(BT_PHASE.PHASE, p), (BT_CTL.CHGEN, 1), (BT_STATUS.VINOK, 1)] with
          bt := { Battery.reset with timerFrom := some 0, termFrom := some 0 } }
        s.chargePhase = p ∧ s.chargeRuns = true ∧ s.bt.timerFrom = some 0 ∧ s.bt.termFrom = some 0 ∧
          s.due (0 + 6000000000) = true ∧
          s.due (0 + (s.get BT_CTIMEOUT.MIN * 6000000000 - s.bt.timer)) = true) ∧
      (run active []).get BT_VCHG.MV ≤ (⟨3000, 3650, 6650, 0⟩ : PackReading).higher ∧
      (let s := run active [(BT_CTL.FLOOP, 1), (BT_CTL.BALEN, 1), (BT_PHASE.PHASE, phaseFloat), (BT_CTL.CHGEN, 1),
         (BT_STATUS.VINOK, 1)]
       s.chargeRuns = true ∧ s.chargePhase = phaseFloat ∧ s.flag BT_CTL.FLOOP = true ∧ s.get BT_VFMIN.MV ≤ s.get BT_VFMAX.MV ∧ s.get BT_VFMAX.MV < 2 ^ 12 ∧
         s.flag BT_CTL.BALEN = true ∧ s.due (s.bt.floatAt + 100000000) = true ∧
         s.due (s.bt.balanceAt + 100000000) = true ∧
         s.get BT_BAL.ON < (⟨3000, 3650, 6650, 0⟩ : PackReading).higher - (⟨3000, 3650, 6650, 0⟩ : PackReading).lower) ∧
      (up [(BT_CTL.BALEN, 0)]).flag BT_CTL.BALEN = false := by decide +kernel

theorem witness_GaugeResults :
    (∀ v ∈ [0, 1],
      let s := run active [(BT_STATUS.PACK_ABSENT, v), (MN_LOW0.CH, 2 ^ 13)]
      s.switchDue = true ∧ s.flag BT_STATUS.PATH = false ∧ s.flag BT_STATUS.PACK_ABSENT = (v == 1) ∧
        s.vinCritical 0 = true) ∧
      (let s := run saved [(BT_STATUS.PACK_ABSENT, 1), (MN_LOW0.CH, 2 ^ 12)]
       s.switchDue = true ∧ s.flag BT_STATUS.PATH = false ∧ s.flag BT_STATUS.PACK_ABSENT = true ∧
         s.vinCritical (32 * 435 - 1) = true ∧ s.vinCritical (32 * 435) = false) ∧
      ((up [(MN_HIGH0.CH, 2 ^ 20)]).removalSign 1 = true ∧ (up [(MN_HIGH0.CH, 2 ^ 19)]).removalSign 2 = true ∧
        (up [(BT_PHASE.PHASE, phaseCc)]).removalSign 3 = true ∧ (up []).flag BT_STATUS.PACK_ABSENT = false) ∧
      (let s : State := { up [(BT_STATUS.PACK_ABSENT, 1)] with bt := { Battery.reset with insertFrom := some 0 } }
       s.insertable ⟨2000, 3650, 7300, 0⟩ = true ∧ s.bt.insertFrom = some 0 ∧ s.due (0 + 200000000) = true) ∧
      ((up []).bt.insertFrom = none ∧ (up []).running = false) ∧
      ((up []).coreUp = true ∧ (up []).bt.sampleTick ≠ some (up []).tickCount ∧ (up []).get BT_CAP.Q < 2 ^ 24 ∧
        (up []).tickCount % 20 = 0 ∧ (up []).bt.gaugeTick ≠ some (up []).tickCount ∧
        (up []).get BT_QREM.Q ≤ (up []).get BT_CAP.Q) ∧
      (∀ p ∈ [saved, latched],
        let s := on State.reset [(PW_STATE.STATE, p)]
        s.coreUp = false ∧ s.power = p ∧ s.due (s.bt.sampledAt + 100000000) = true ∧
          s.due (s.bt.gaugedAt + 100000000) = true) ∧
      (let s : State := { up [(BT_QREM.Q, 1), (BT_IPACK.MA, 2 ^ BT_IPACK.MA.width - 11)] with
         bt := { Battery.reset with lowFrom := some 0 } }
       s.bt.lowFrom = some 0 ∧ s.due (0 + 100000000) = true ∧
         (⟨0, 0, 0, 0⟩ : PackReading).lower < s.get BT_VCUT.MV ∧ s.getS BT_IPACK.MA < -10 ∧ s.get BT_QREM.Q ≠ 0 ∧
         s.get BT_CAPNOM.Q ≤ 100000) := by decide +kernel

/-! ### Regions, save and restore -/

/-- A barrier record of number `n`, recoverable. -/
def bar (n : Nat) : CapItem := .barrier n 0 0 0 true 0 true

theorem witness_ShadowInstructionResults :
    (let s := run active ([(HP_ECCCTL.LOCK, 1), (HP_STATUS.BASE, 1)] ++ dimm)
     let a := regionArgs (op 1 1 0x1FF [131071, 1])
     RingOpen s 0 ∧ s.regionLegal a = true ∧ s.regionRange a = true ∧
       s.meetsRegion (fun k => s.flag (SH_RG_A.VALID k)) a.start a.count = false ∧ s.flag (SH_RG_A.VALID a.num) = false) ∧
      (let s := run active [(SH_RG_A.VALID 63, 1), (QU_TAIL.TAIL 0, 1)]
       s.shadowLegal = true ∧ s.windowOpen = false ∧ s.flag (SH_RG_A.VALID (63 % 64)) = true ∧ s.bar < 2 ^ 48 - 1 ∧
         (∀ d ∈ [0, 1], ((s.set SH_STATUS.PDIRTY d).fenceBell 0 0).1.dirty = (d == 1)) ∧
         s.barriersWaiting < 64 ∧ s.power ≠ quiet ∧ s.sh.waiting = [] ∧
         ((s.add (QU_HEAD.HEAD 0) 1).coveredFences.filter (· < (s.fenceBell 0 0).1.place)) = [] ∧
         s.flag SH_STATUS.FOLDING = false ∧ s.flag SH_STATUS.FOLDHELD = false ∧ s.nothingToFold = true) ∧
      (let bells := [(0, [(⟨1, 5, 0, 0, true⟩ : Bell)]), (1, [⟨1, 2, 0, 0, false⟩])]
       let s : State := { run active [(QU_TAIL.TAIL 0, 1), (QU_TAIL.TAIL 1, 1)] with
         sh := { Shadow.reset with bells := bells, place := 6 }, slots := [(0x40000, 0x19 * 2 ^ 18), (0x44000, 0x19 * 2 ^ 18)] }
       ((s.add (QU_HEAD.HEAD 0) 1).coveredFences.filter (· < (s.fenceBell 0 0).1.place)) ≠ [] ∧ s.sh.waiting = [] ∧
         s.barriersWaiting < 64) ∧
      64 ≤ ({ up [] with sh := { Shadow.reset with order := (List.range 64).map bar } } : State).barriersWaiting ∧
      (({ run active [(SH_RECBARL.BAR, 1)] with fl := { Flash.reset with base := some ⟨[], [], []⟩ } } :
        State).nothingToFold = false) := by
  simp only [RingOpen]; decide +kernel

theorem witness_JournalResults :
    (let s : State := { up [(SH_BWNOW.MBS, 100)] with sh := { Shadow.reset with page := [bar 1], closed := true } }
     s.sh.page ≠ [] ∧ s.due (s.sh.pageFrom + 200000) = true ∧ s.pageDue = true ∧ s.sh.pagesOut < s.pageAllowance ∧ s.jseq < 2 ^ 48 - 1 ∧
       pageBarrier s.sh.page = some (1, true)) ∧
      (({ up [(SH_RECBARL.BAR, 1)] with sh := { Shadow.reset with fences := [(ref 0x19, 1)] } } : State).sh.fences =
        [(ref 0x19, 1)]) ∧ 1 ≤ (up [(SH_RECBARL.BAR, 1)]).recBar ∧
      (let s : State := { run active [(SH_RECBARL.BAR, 1), (SH_CTL.AUTOFOLD, 1), (SH_JFILL.PERMIL, 1000)] with
         fl := { Flash.reset with base := some ⟨[], [], []⟩ } }
       s.coreUp = true ∧ s.flag SH_CTL.AUTOFOLD = true ∧ s.foldPaused = false ∧ s.flag SH_STATUS.FOLDING = false ∧
         s.get SH_FOLDAT.PERMIL ≤ s.get SH_JFILL.PERMIL ∧ s.nothingToFold = false) := by decide +kernel

/-- The journal page of barrier 1. -/
def page : JPage := { (⟨1, 0, 1, [bar 1], 0⟩ : JPage) with crc := JPage.checksum ⟨1, 0, 1, [bar 1], 0⟩ }

/-- A fold of that page, with `n` stripes and `lost` the codewords lost. -/
def folding (n : Nat) (lost : List (Nat × Nat)) : State :=
  { run active [(FL_GEOM1.PAGES, 64), (FL_CHUSE.CH, 1)] with
    fl := { Flash.reset with base := some ⟨[], [], []⟩, journal := [page], stripes := n, lost := lost },
    sh := { Shadow.reset with fold := some ⟨some (ref 0x1D), 1, 0⟩ } }

theorem witness_JournalResults_fold :
    (∀ n ∈ [0, 1],
      let s := folding n []
      s.foldPaused = false ∧ hasBarrier 1 s.fl.journal = true ∧
        ((s.flashWork 2 true ⟨[], []⟩).writeGeneration (s.get SH_BASEGEN.GEN + 1)
          (applyPages ⟨[], [], []⟩ (pagesTo 1 s.fl.journal))).isSome = (n == 1)) ∧
      ((folding 1 [(1, 0)]).flashWork 2 true ⟨[], []⟩).foldReads (pagesTo 1 (folding 1 [(1, 0)]).fl.journal) = false ∧
      ((folding 1 []).flashWork 2 true ⟨[], []⟩).foldReads (pagesTo 1 (folding 1 []).fl.journal) = true := by
  refine ⟨by decide +kernel, by decide +kernel, ?_⟩
  have lost : ((folding 1 []).flashWork 2 true ⟨[], []⟩).fl.lost = [] := by decide +kernel
  have spent : ((folding 1 []).flashWork 2 true ⟨[], []⟩).fl.spent = [] := by decide +kernel
  have valid : ∀ (u : State), u.fl.lost = [] → u.fl.spent = [] → u.foldReads [page] = true := fun u h k => by
    have crc : page.crc = page.checksum := by unfold page; simp only [JPage.checksum, JPage.head, JPage.body]
    simp [State.foldReads, State.pageValid, State.isLost, h, k, crc]
  exact valid _ lost spent

theorem witness_HoldupResults :
    (up []).coreUp = true ∧ (up []).tickCount % 200 = 0 ∧ (up []).sh.loopTick ≠ some (up []).tickCount ∧
      (up []).tickCount % 20 = 0 ∧ (up []).sh.accountTick ≠ some (up []).tickCount ∧
      (let s := up [(SH_CTL.LOOP, 1)]
       s.flag SH_CTL.LOOP = true ∧ s.get SH_BWMIN.MBS ≤ s.get SH_BWMAX.MBS ∧ s.get SH_BWMAX.MBS < 2 ^ 11) := by
  decide +kernel

theorem witness_ArmingResults :
    (let w : Word := 0xA047E
     let i := op 1 0 50 [w]
     RingOpen (run restoring []) 0 ∧ armReserved i = true ∧ armRange i = true ∧ (run restoring []).armLegal 1 = true ∧
       (run active [(SV_STATUS.ARMED, 1), (SV_STATUS.STATE, svArmed)]).armLegal 2 = true) ∧
      (let s := run active [(SV_STATUS.ARMED, 1), (SV_STATUS.STATE, svArmed), (SV_ARMCFG.GRACE, 50), (MN_LOW0.CH, 2 ^ 12)]
       s.channelFlag 12 = 1 ∧ s.coreUp = true ∧ s.sv.warning = false ∧ s.sv.pavane = none ∧ s.pw.wake = false ∧
         s.flag SV_STATUS.ARMED = true ∧ s.get SV_ARMCFG.GRACE ≠ 0 ∧ s.svState = svArmed) ∧
      (run active [(MN_LOW0.CH, 2 ^ 12)]).flag SV_STATUS.ARMED = false ∧
      (({ run active [] with pw := { Power.reset with wake := true } } : State).pw.wake = true) ∧
      (let s : State := { run active [] with sv := { SaveUnit.reset with warning := true } }
       s.sv.warning = true ∧ s.sv.pavane = none ∧ s.channelFlag 12 ≠ 1 ∧ s.graceBy (s.flagSince 12 + 200000) = false ∧
         s.due (s.flagSince 12 + 200000) = true) := by
  simp only [RingOpen]; decide +kernel

/-- Pavane at step `x`. -/
def saving (x : PavaneStep) : State :=
  { run Machine.saving [(SV_STATUS.STATE, svSaving)] with
    sv := { SaveUnit.reset with pavane := some ⟨1, x, 0, 0, false, false, true, true⟩ } }

/-- Pavane step 6 with a save set of one page of zeros, and `n` stripes. -/
def savingSet (n : Nat) : State :=
  { on (saving .set) [(FL_GEOM1.PAGES, 64), (FL_CHUSE.CH, 1)] with fl := { Flash.reset with stripes := n } }

theorem witness_PavaneResults :
    (let s : State := { run active [(SV_STATUS.ARMED, 1), (SV_STATUS.STATE, svWarning)] with
       sv := { SaveUnit.reset with preSave := some 0 } }
     s.savesItself = true ∧ s.svState = svWarning ∧ s.sv.preSave = some 0 ∧
       s.due (0 + 100000 * s.get SV_ARMCFG.GRACE) = true) ∧
      (let s := run active [(SV_STATUS.ARMED, 1), (MN_LOW0.CH, 2 ^ 13)]
       s.savesItself = true ∧ s.channelFlag 13 = 1) ∧
      (let s := run active [(SV_STATUS.ARMED, 1), (MN_LOW0.CH, 2 ^ 12), (SV_ARMCFG.GRACE, 0)]
       s.savesItself = true ∧ s.channelFlag 12 = 1 ∧ s.sv.warning = false ∧ s.get SV_ARMCFG.GRACE = 0) ∧
      (let s : State := { run active [(PW_STATUS.FAULTEP, 1), (SV_STATUS.ARMED, 1)] with
         pw := { Power.reset with faulted := 2048 } }
       s.flag PW_STATUS.FAULTEP = true ∧ s.runningSet = true ∧ s.sv.pavane = none ∧ s.pw.stop = none ∧
         s.due (s.pw.faultFrom + 100000 * s.get PW_TFAULT.MS) = true ∧ s.flag SV_STATUS.ARMED = true ∧
         s.pw.faulted &&& saveRails = 0) ∧
      (run standby []).svState ≠ svSaving ∧ (run standby []).pw.stop = none ∧
      ((saving .flush).sv.pavane.map (·.step)) = some .flush ∧ (saving .flush).saveRailOut = false ∧
      ((saving .flush).set (PW_RAIL_C.STATE 3) railFaulty).saveRailOut = true ∧
      ((saving .set).sv.pavane.map (·.packAbsent)) = some false ∧
      (∀ n ∈ [0, 1],
        let s := savingSet n
        let met := (s.flashWork 3 false ⟨[], []⟩).dropSave
        (s.sv.pavane.map (·.step)) = some .set ∧
          (met.takeStripes .save (met.stripesFor (met.saveCodewords s.saveSet))).isSome = (n == 1)) ∧
      (let s : State := { saving .down with pw := { Power.reset with stop := some ⟨[], none, [], .saved⟩ } }
       s.pw.stop = some ⟨[], none, [], .saved⟩) := by decide +kernel

/-- Galliard with the regions `l` still to be restored. -/
def restore (l : List Region) (fields : List (Field × Nat)) : State :=
  { run restoring fields with
    sv := { SaveUnit.reset with
      galliard := some ⟨ref 0x1C, true, 0, 2, 1, 0, 0, l, l, ⟨[(5, 7)], [], []⟩, [], [], active⟩ } }

theorem witness_RestoreResults :
    (let s := run active [(SV_STATUS.IMAGE, 2), (HP_OWN.STATE, 1), (HP_STATUS.DTI, 1), (HP_ECCCTL.LOCK, 1),
       (HP_STATUS.HTRAIN, 1), (HP_STATUS.DTH, 1)]
     RingOpen s 0 ∧ s.restoreLegal false = true ∧ s.restoreLegal true = true ∧ ∀ r ∈ s.chooseImage.table, r.num < 64) ∧
      (let s := restore [⟨63, 1, 0, 0, 1⟩] dimm
       s.flag SV_STATUS.WIN = false ∧ (s.sv.galliard.map (·.regions)) = some [⟨63, 1, 0, 0, 1⟩] ∧
         (s.sv.galliard.map fun g => sparseWf (fun _ => (0 : Byte)) g.image.cells) = some true ∧
         (s.sv.galliard.map ((s.flashWork 3 true ⟨[], []⟩).unreadable ·)) = some [] ∧
         s.coreUp = true ∧ (s.sv.galliard.map (·.staged)) = some true) ∧
      (let s := restore [] []
       s.power = restoring ∧ (s.sv.galliard.map (·.regions)) = some [] ∧ s.flag SV_STATUS.WIN = false ∧
         s.sh.fences = [] ∧ s.sh.fold = none) ∧
      (let s := restore [] [(SV_STATUS.WIN, 1)]
       s.flag SV_STATUS.WIN = true ∧ s.due (s.sv.winFrom + 100000 * s.get SV_WINMAX.MS) = true) := by
  simp only [RingOpen]; decide +kernel

/-! ### The flash store -/

/-- One target on one channel. -/
def oneTarget : List (Field × Nat) :=
  [(FL_GEOM0.CHANNELS, 1), (FL_GEOM0.TARGETS, 0), (FL_GEOM1.PAGES, 64), (FL_GEOM2.BLOCKS, 256)]

/-- The target that `s` declares on its first channel. -/
def found (s : State) : FoundTarget :=
  ⟨0, 0, true, true, s.get FL_GEOM0.LUNS, s.get FL_GEOM0.PLANES, s.get FL_GEOM0.PAGESZ, s.spareNeeded, s.get FL_GEOM1.PAGES,
    s.get FL_GEOM2.BLOCKS, 600, [1, 2, 3]⟩

def root (identity : Nat) : Root := ⟨7, identity, 0, 1, 1, 0, 1, 0, 0, 1⟩

/-- A store of `stripes` stripes, open, with a generation in stripe 0. -/
def opened (stripes : Nat) (fl : Flash) (l : List (Field × Nat)) : State :=
  { run active ((FL_STATUS.READY, 1) :: l) with fl := { fl with stripes := stripes, uses := [(0, .generation)], root := some (root 0) } }

theorem witness_FlashResults :
    RingOpen (run active []) 0 ∧ (op 7 0 0 []).wf = true ∧
      (let s := up oneTarget
       s.coreUp = true ∧ s.flag FL_STATUS.READY = false ∧ s.flag FL_STATUS.FORMATTING = false ∧
         ((s.probe []).flashWork 3 false ⟨[], []⟩).foundRoot = none) ∧
      (∀ id ∈ [nandIdentity [1, 2, 3], 0],
        let s : State := { up oneTarget with
          fl := { Flash.reset with root := some (root id), nandRoots := [some (root id), none, none, none] } }
        let p := (s.probe [found s]).flashWork 3 false ⟨[], []⟩
        p.foundRoot = some (root id) ∧ root id ∈ p.nandCopies ∧ s.uniqueIds [found s] = [1, 2, 3] ∧
          nandIdentity [1, 2, 3] ≠ 0) ∧
      (up [(FL_STATUS.FORMATTING, 1)]).flag FL_STATUS.FORMATTING = true ∧
      (let s := opened 1 { Flash.reset with spares := [(1, [3])] } []
       s.coreUp = true ∧ s.flag FL_STATUS.READY = true ∧ (s.sparesOf 1).contains 3 = true ∧
         (s.sparesOf 1).contains 0 = false ∧ s.stripeOfBlock 1 9 = none ∧ s.systemAt 1 9 = none ∧ s.systemAt 1 0 = none ∧
         s.systemAt 0 0 = some 0 ∧ s.stripeOfBlock 1 0 = some 0 ∧
         s.sparesOf 1 = 3 :: [] ∧ s.sparesOf 0 = [] ∧ s.sparesOf 2 = [] ∧ s.systemAt 2 0 = none ∧
         s.stripeOfBlock 2 0 = some 0 ∧ sparseFind 0 s.fl.uses ≠ none ∧ (s.moveStripe 0).isSome = false) ∧
      (opened 2 { Flash.reset with spares := [(0, [3])] } []).sparesOf 0 = 3 :: [] ∧
      ((opened 2 Flash.reset []).moveStripe 0).isSome = true ∧
      (let s := opened 1 Flash.reset [(FL_STATUS.PATROL, 1)]
       s.backgroundRuns = true ∧ s.flag FL_STATUS.PATROL = true ∧ s.fl.patrolFrom ≤ s.clock ∧
         (s.flashWork 1 true ⟨[], []⟩).nextWeak = none) ∧
      (let s := opened 2 { Flash.reset with weak := [0] } [(FL_MAXPE.CYCLES, 501)]
       s.backgroundRuns = true ∧ 
         (let met := s.flashWork 1 true ⟨[], []⟩
          met.nextWeak = some 0 ∧ (met.moveStripe 0).isSome = true) ∧ s.fl.root = some (root 0) ∧
         s.get FL_MEANPE.CYCLES + 500 < s.get FL_MAXPE.CYCLES ∧ s.coldStripe = some 0 ∧
         (s.takeStripe (.moved 0)).isSome = true) ∧
      (opened 2 Flash.reset [(FL_MAXPE.CYCLES, 500)]).get FL_MAXPE.CYCLES ≤
        (opened 2 Flash.reset [(FL_MAXPE.CYCLES, 500)]).get FL_MEANPE.CYCLES + 500 ∧
      (up []).due ((up []).fl.lifeFrom + (hourTicks - (up []).fl.lifePart)) = true := by
  simp only [RingOpen]; decide +kernel

/-! ### Wellhead -/

theorem witness_TimeInstructionResults :
    RingOpen (run active []) 0 ∧
      (let o := op 0 0 1 [0xFFFFFF#24, 0xFFFFEE#24, 0x6B27FC#24]
       o.wf = true ∧ (run active [(TM_STATUS.QUAL, 2)]).qual ≠ 3 ∧ (run active []).tm.tset = none ∧
         (stampTime (o.word 1) (o.word 2) (o.word 3)).isSome = true) ∧
      toSigned 24 ((op 0 0 0 [0#24]).word 1) = 0 ∧ toSigned 24 ((op 0 0 0 [0x800000#24]).word 1) ≠ 0 ∧
      (let s : State := { run active [] with tm := { TimeUnit.reset with slew := some ⟨none, 5, 0, 0, 0⟩ } }
       let k : Slew := ⟨none, 5, 0, 0, 0⟩
       s.tm.slew = some k ∧ toSigned 24 ((op 0 0 0 [0x800000#24]).word 1) + k.rest s.clock ≠ 0) ∧
      (run active []).tm.slew = none ∧
      (run active []).get TM_LOGCFG.STOP = 0 ∧ (run active []).batch = none ∧ (op 7 7 63 []).wf = true ∧
      (run active []).get (TM_CAP_S.ST 3) ≠ 1 ∧
      (let o := op 0 0 127 [0#24, 0x3007FF#24]
       ¬ bitsOf (o.word 2) 11 11 + o.word 2 % 2 ^ 11 ≤ 1536) ∧
      (∃ l, ({ run active [] with tm := { TimeUnit.reset with logRead := some ⟨ref 0x3E, genStaging, [5], 1, 1⟩ } } :
        State).tm.logRead = some l ∧ l.ref.q < 4 ∧ genStaging ≤ l.dest ∧ l.words[0]? = some 5) ∧
      (let o := op 0 0 127 [0#24, 0x2FF801#24]
       o.wf = true ∧ (run active []).tm.logRead = none ∧ o.word 2 < 2 ^ 22 ∧ 1 ≤ o.word 2 % 2 ^ 11 ∧ bitsOf (o.word 2) 11 11 + o.word 2 % 2 ^ 11 ≤ 1536) := by
  simp only [RingOpen]; decide +kernel

/-- A sentence whose fields are sound. -/
def zda : NmeaSentence := ⟨false, true, true, true, 2024, 2, 29, 23, 59, 59⟩

/-- Its characters, with checksum digit `c` last. -/
def zdaLine (c : Char) : List Nat := ("$GPZDA,235959,29,02,2024,00,00*4".toList ++ [c]).map Char.toNat

/-- A frame of 366 days with no extension. -/
def irig : IrigFrame := ⟨true, true, 59, 59, 23, 366, 24, 86399, true, 0, 0, false, false, 0⟩

theorem witness_TimeKeepingResults :
    (let s : State := { up [] with running := true, now := oneSecond }
     s.boundaryDue = true ∧ s.running = true ∧ s.flag TM_STATUS.OSCFAIL = false) ∧
      (up []).get TM_SRCQ.Q = 0 ∧ (up []).coreUp = true ∧
      (let s : State := { up [] with tm := { TimeUnit.reset with caps := [(ref 0x13, 3, 1, 0)] } }
       s.tm.tset = none ∧ s.tm.caps = [(ref 0x13, 3, 1, 0)] ∧ (0 : Int) ≤ s.clockAt ((0 : Nat) / 4 : Nat) ∧ s.due (0 + 2 * oneSecond) = true) ∧
      (parseNmea (zdaLine '4') = some zda ∧ parseNmea [36] = none ∧ zda.valid = true ∧ zda.rmc = false ∧ (up [(TM_GNSS.ASSOC, 1)]).flag TM_GNSS.ASSOC = true) ∧
      (parseNmea (zdaLine '0') = some { zda with checksum := false } ∧
        ({ zda with checksum := false } : NmeaSentence).valid = false) ∧
      (up []).irigValid irig = true ∧ (up []).irigValid { irig with hour := 24 } = false ∧
      (let s : State := { up [(TM_CTL.LEARN, 1), (TM_STATUS.QUAL, 3)] with tm := { TimeUnit.reset with qual3 := 300 } }
       s.flag TM_CTL.LEARN = true ∧ s.qual = 3 ∧ 300 ≤ s.tm.qual3 ∧ s.due (s.tm.sampledAt + 60 * oneSecond) = true ∧
         tempBin (-400) = some 0 ∧ tempBin 1199 = some 63) ∧
      (let s : State := { up [(TM_STATUS.OSCFAIL, 1)] with running := true, clock := 60 * oneSecond }
       s.running = true ∧ s.flag TM_STATUS.OSCFAIL = true ∧ s.due (s.tm.oscFrom + 60 * oneSecond) = true) ∧
      (∀ v ∈ [0, 1],
        let s := on State.reset [(PW_STATE.STATE, saved), (TM_STATUS.XTAL, v)]
        s.powerIn [saved, latched] = true ∧ s.flag TM_STATUS.XTAL = (v == 1) ∧ s.oneReading [0, 0] = true ∧
          s.due (s.tm.minuteFrom + 60 * oneSecond) = true) ∧
      (let s := up [(TM_LEAP.PEND, 1)]
       s.get TM_LEAP.PEND ≠ 0 ∧ s.leapAt ≤ s.seconds) ∧
      (let k : Slew := ⟨some (ref 0x11), 5, 0, 0, 500⟩
       let s : State := { up [] with tm := { TimeUnit.reset with slew := some k } }
       s.tm.slew = some k ∧ k.doneAt = some 10000000 ∧ s.due 10000000 = true) ∧
      (({ up [] with tm := { TimeUnit.reset with tset := some (ref 0x10, 5, 0) } } : State).tm.tset = some (ref 0x10, 5, 0)) := by
  decide +kernel

theorem witness_TimeWriteResults :
    (Writer.host ≠ .sideBand ∧ (Writer.ring 15) ≠ .sideBand) ∧
      (up [(TM_LOGCFG.STOP, 1)]).coreUp = true ∧ State.reset.coreUp = false ∧
      (up [(TM_LOGCFG.STOP, 1)]).flag TM_LOGCFG.STOP = true ∧ (up []).flag TM_LOGCFG.STOP = false ∧
      (up []).now + 2 * oneSecond ≤ 2 * oneSecond ∧ 1 * oneSecond < (up []).now + 2 * oneSecond := by decide +kernel

/-! ### The smart-card port -/

def sc (state : Nat) (l : List (Field × Nat)) (x : SmartCard) : State :=
  { run active ((SC_STATUS.STATE, state) :: l) with sc := x }

theorem witness_SmartCardInstructionResults :
    (let s := sc scInactive [(SC_STATUS.PRESENT, 1)] SmartCard.reset
     RingOpen s 0 ∧ s.powerIn [standby, active, quiet, maint] = true ∧ s.scState = scInactive ∧
       s.scHolds = false ∧ s.flag SC_STATUS.PRESENT = true ∧ s.flag SC_STATUS.RELREQ = false ∧ (op 1 0 0 []).dst ≠ 0) ∧
      (let s := sc scIdle [(SC_STATUS.T1, 1)] SmartCard.reset
       RingOpen s 0 ∧ s.scState = scIdle ∧ s.flag SC_STATUS.T1 = true ∧ (op 0 0 0 [8192, 0]).word 1 ≤ 8192 ∧
         (op 0 0 0 [8193, 0]).word 1 < 2 ^ 14 ∧ s.sc.x = 0 ∧ leastDivider (s.get SC_FD.FD) ≤ (op 0 0 400 []).imm9) ∧
      (let s := sc scIdle [] { SmartCard.reset with x := 3 }
       s.flag SC_STATUS.T1 = false ∧ s.sc.x ≠ 0) ∧
      (∀ p ∈ [scActivating, scIdle, scExchange], (sc p [] SmartCard.reset).scState = p) := by
  simp only [RingOpen]; decide +kernel

/-- An ATR of T=1 that names TA1 and classes A, B and C. -/
def atrT1 : List Nat := [0x3B, 0x90, 0x18, 0x81, 0x31, 0xFE, 0x45, 0x83]

theorem witness_SmartCardPortResults :
    ((up []).coreUp = true ∧ (up []).flag SC_STATUS.PRESENT = false ∧
        (up [(SC_STATUS.PRESENT, 1)]).flag SC_STATUS.PRESENT = true) ∧
      (let s := sc scActivating [(SC_STATUS.CLASS, 1), (PW_RAIL_C.STATE 8, 3), (MN_LOW0.CH, 2 ^ 8)] { SmartCard.reset with wait := .atr, cold := true, classes := 3 }
       s.scState = scActivating ∧ s.sc.wait = .atr ∧ s.sc.cold = true ∧ s.sc.classes ≠ 0 ∧
         s.scSupplied = true ∧ s.portPowered 8 = true ∧ s.channelFlag 8 = 1 ∧ classLimit (s.get SC_STATUS.CLASS) ≤ 60 ∧ s.due (s.sc.since + 50000) = true ∧
         ∃ a, parseAtr [0x3B, 0x10, 0x18] = some a ∧ a.protocol s.sc.raw = some 0 ∧
           bitOf a.classMask (s.get SC_STATUS.CLASS - 1) = true ∧ (a.parameters s.sc.raw s.sc.nopps).2.2 = some 0x18) ∧
      (let s := sc scActivating [] { SmartCard.reset with wait := .atr }
       s.sc.wait = .atr ∧ parseAtr [] = none ∧ s.sc.cold = false ∧ s.sc.classes = 0 ∧ s.scSupplied = true ∧
         s.due (s.sc.since + s.scCycles 80000) = true) ∧
      (let s := sc scInactive [] { SmartCard.reset with wait := .retry, classes := 4 }
       s.scHolds = true ∧ nextClass s.sc.classes = some 3 ∧ s.due (s.sc.since + 1000000) = true) ∧
      (let s := sc scActivating [] { SmartCard.reset with wait := .pps, sent := [0xFF, 0x10, 0x18, 0xF7] }
       s.scState = scActivating ∧ s.sc.wait = .pps ∧ [] ≠ s.sc.sent ∧
         [] ≠ [0xFF, s.get SC_STATUS.T1, xorBytes [0xFF, s.get SC_STATUS.T1]] ∧
         s.due (s.sc.since + s.scCycles (9600 * 372)) = true) ∧
      (let s := sc scDeactivating [] { SmartCard.reset with op := some (ref 0x22), status := 0x52 }
       s.scState = scDeactivating ∧ s.scRetries = false) ∧
      (let s := sc scDeactivating [] { SmartCard.reset with op := some (ref 0x20), status := 0x54, cold := true, classes := 2 }
       s.scState = scDeactivating ∧ s.scRetries = true) ∧
      (let s := sc scExchange [(SC_STATUS.T1, 1), (SC_CFG.IFSD, 254)]
         { SmartCard.reset with op := some (ref 0x22), wait := .data, attempts := 2 }
       let body := [0, 0, 2, 0x90, 0x00]
       s.scState = scExchange ∧ s.sc.op = some (ref 0x22) ∧ s.flag SC_STATUS.T1 = true ∧ s.sc.wait = .data ∧
         s.sc.resynch = 0 ∧ (s.readBlock (body ++ s.blockEdc body) false false).toOption = some (0, [0x90, 0x00]) ∧
         0 = 0x40 * s.get SC_SEQ.CARD ∧ s.sc.aborting = false ∧ s.sc.lastAcked = true ∧ s.sc.attempts < 3 ∧
         s.get SC_SEQ.CARD < 2 ∧ (s.readBlock [] false false).toOption = none ∧ s.due s.bwtEnd = true ∧
         s.due (s.sc.began + s.get SC_XFRTO.S * 100000000) = true) ∧
      (let s := sc scExchange [] { SmartCard.reset with op := some (ref 0x22), rxMax := 8192, tries := 4 }
       s.flag SC_STATUS.T1 = false ∧ s.get SC_RXCOUNT.N < s.sc.rxMax ∧ 4 ≤ s.sc.tries ∧ s.sc.rxMax ≠ 0 ∧
         s.rawSent = true ∧ s.rawSent ≠ false ∧ s.due (s.sc.since + s.scCycles (960 * s.sc.wi * s.scRates.1)) = true) ∧
      (sc scExchange [] { SmartCard.reset with op := some (ref 0x22), rxMax := 0 }).sc.rxMax = 0 := by decide +kernel

/-! ### The memory-card port -/

def mc (state : Nat) (l : List (Field × Nat)) (x : MemCard) : State :=
  { run active ((MC_STATUS.STATE, state) :: l) with mc := x }

theorem witness_MemCardResults :
    (let s := mc mcInactive [(MC_STATUS.PRESENT, 1)] MemCard.reset
     RingOpen s 0 ∧ s.flag MC_STATUS.RELREQ = false ∧ s.mcState = mcInactive ∧ s.flag MC_STATUS.PRESENT = true ∧
       s.powerIn [standby, active, quiet, maint] = true ∧ (op 1 6 95 [16000]).src % 2 = 0 ∧
       31 ≤ (op 1 6 95 [16000]).word 1 ∧ (op 1 6 95 [16000]).word 1 ≤ 16000) ∧
      (let s := mc mcIdle [(MC_CAPL.BLOCKS, 65535)] { MemCard.reset with ext := true, key := some [] }
       let o := op 1 0 95 [0, 0, 65535]
       RingOpen s 0 ∧ s.mcState = mcIdle ∧ s.mc.ext = true ∧ bitOf (op 3 4 0 [31]).src 2 = true ∧
         o.word 1 % 256 * 2 ^ 24 + o.word 2 + o.word 3 = s.mcCapacity ∧ s.flag MC_STATUS.TMPWP = false ∧
         s.flag MC_STATUS.PERMWP = false ∧ s.flag MC_STATUS.RPMB = false ∧ s.mc.key.isSome = true) ∧
      (mc mcIdle [(MC_STATUS.TMPWP, 1), (MC_STATUS.PERMWP, 1)] MemCard.reset).flag MC_STATUS.PERMWP = true ∧
      (let s := mc mcIdle [(MC_STATUS.RPMB, 1), (MC_WPCTL.KEYPROG, 1), (MC_WPCTL.PERMOK, 1)] { MemCard.reset with key := some [] }
       let o := op 3 0 63 [32 * 65536]
       s.flag MC_STATUS.RPMB = true ∧ s.flag MC_WPCTL.KEYPROG = true ∧ s.flag MC_WPCTL.PERMOK = true ∧
         o.word 1 / 65536 ≤ 32 ∧ o.imm9 * 512 + o.word 1 / 65536 * 256 ≤ mcStagingBytes) ∧
      (up []).coreUp = true ∧ (up []).flag MC_STATUS.PRESENT = false ∧ (up [(MC_STATUS.PRESENT, 1)]).flag MC_STATUS.PRESENT = true := by
  simp only [RingOpen]; decide +kernel

theorem witness_MemCardResults_waits :
      (let s := mc mcIdent [(PW_RAIL_C.STATE 9, 3), (MN_HIGH0.CH, 2 ^ 9)]
         { MemCard.reset with op := some (ref 0x24), todo := [.cmd 1 0x40FF8000], vccAt := some 0 }
       s.channelFlag 9 = 2 ∧ s.mc.vccAt = some 0 ∧ s.mcWriting = false ∧ s.due (s.mcStep5 0 + 100000000) = true ∧
         s.mcHead = some (.cmd 1 0x40FF8000) ∧ bitOf 0xC0FF8000 31 = true ∧ s.mcState ∈ [mcIdent, mcIdle, mcTransfer]) ∧
      (∀ v ∈ [none, some 0],
        let s := mc mcIdent [] { MemCard.reset with todo := [.cmd 0 0, .cmd 1 0x40FF8000], vccAt := v }
        s.mc.todo = [.cmd 0 0, .cmd 1 0x40FF8000] ∧ s.mc.vccAt = v ∧ s.due (s.mcStep5 0) = true) ∧
      (let s : State := { mc mcIdent [(PW_RAIL_C.STATE 9, 3), (MN_LOW0.CH, 2 ^ 9)] { MemCard.reset with todo := [.cmd 0 0] } with
         pw := { Power.reset with rails := [(9, { Rail.idle with settle := 1, goodFor := 210 })] } }
       s.mc.vccAt = none ∧ s.channelFlag 9 = 1 ∧ s.portPowered 9 = true ∧
         10 * (s.rail 9).settle + 200 ≤ (s.rail 9).goodFor ∧ s.mcState ∈ [mcIdent, mcIdle, mcTransfer]) ∧
      (let s := mc mcIdle [(MC_WPCTL.KEYPROG, 1)] { MemCard.reset with key := some [] }
       s.flag MC_STATUS.RPMB = false ∧ s.flag MC_WPCTL.KEYPROG = true ∧ s.mc.key.isSome = true) ∧
      (let s := mc mcIdent [] { MemCard.reset with todo := [.cmd 2 0] }
       s.mcHead = some (.cmd 2 0) ∧ s.mc.retried = false ∧ s.due (s.mc.since + s.mcCycles 64) = true) ∧
      (let s := mc mcTransfer [] { MemCard.reset with op := some (ref 0x25), todo := [.data], action := 1, count := 1 }
       s.coreUp = true ∧ s.mcBusyWith 0x25 = true ∧ s.get MC_HOSTCNT.N ≤ 1 ∧ 1 ≤ s.mc.count ∧ s.mc.action = 1 ∧ s.mcHead = some .data ∧
         s.get MC_DEVCNT.N < s.get MC_HOSTCNT.N + 96 ∧ (List.replicate 512 (0 : Nat)).length = 512 ∧
         s.get MC_DEVCNT.N + 1 = s.mc.count) ∧
      (up []).mcBusyWith 0x25 = false ∧
      (let s := mc mcTransfer [(MC_HOSTCNT.N, 1)]
         { MemCard.reset with op := some (ref 0x25), todo := [.busy], action := 2, count := 1 }
       s.mcBegun = true ∧ s.mc.saveWait = false ∧ s.due (s.mc.since + s.get MC_BUSYTO.MS * 100000) = true) ∧
      (let s := mc mcTransfer [] { MemCard.reset with op := some (ref 0x25), todo := [.busy], action := 2, count := 1, saveWait := true }
       s.mcWaitsHost = true ∧ s.mc.starved = false ∧ s.mc.saveWait = true ∧ s.due (s.mc.since + 100000) = true ∧
         s.due (s.mc.since + s.get MC_XFRTO.MS * 100000) = true ∧ s.due (s.mc.saveFrom + 1000000) = true) ∧
      (mc mcDeactivating [] { MemCard.reset with op := some (ref 0x25), status := 0x63 }).mcState = mcDeactivating := by
  decide +kernel

/-! ### The serial ports and the link -/

def ua (p : Nat) (l : List (Field × Nat)) (x : UartPort) : State := { run active l with ua := [(p, x)] }

def xfr : UaXfr := ⟨ref 0x29, 0, 2, 1, false⟩

theorem witness_UartResults :
    (let s := run active [(UA_STAT.ENABLED 3, 1)]
     let o := op 1 0 3 [256, 0x000001, 0, 0x000081]
     RingOpen s 0 ∧ o.wf = true ∧ o.imm9 < 4 ∧ s.uaOwned 3 = false ∧ uaConfigOk 3 (o.word 1) (o.word 2) (o.word 4) = true ∧
       bitsOf (o.word 2) 8 2 = 0 ∧ bitOf (o.word 2) 11 = false ∧ (s.port 3).sends = [] ∧ (s.port 3).recvs = [] ∧
       rangeInside ((op 1 0 3 [12287, 1]).word 1) ((op 1 0 3 [12287, 1]).word 2) 12288 = true ∧
       s.flag (UA_STAT.ENABLED 3) = true ∧ s.uaEcho 3 = false) ∧
      (let s := ua 3 [(UA_STAT.ENABLED 3, 1)] { UartPort.idle with sends := [xfr, xfr, xfr, xfr], recvs := [xfr, xfr, xfr, xfr] }
       4 ≤ (s.port 3).sends.length ∧ 4 ≤ (s.port 3).recvs.length ∧ s.uaLoop 3 = false ∧
         s.flag (UA_STAT.ENABLED 3) = true ∧ s.due (s.uaSendEnd 3 xfr) = true ∧ (s.port 3).owed = 0) ∧
      (let s := ua 0 [(UA_STAT.ENABLED 0, 1)] UartPort.idle
       let low := (false, false, false)
       let c : UartChar := ⟨low :: List.replicate 10 (true, true, true), false, 1, false⟩
       let cfg := s.get (UA_CFGB.CFG 0)
       let n := s.uaBits 0
       s.coreUp = true ∧ s.flag (UA_STAT.ENABLED 0) = true ∧ s.flag (UA_STAT.SLEEPING 0) = false ∧ s.uaLoop 0 = false ∧
         s.uaOwned 0 = false ∧ (s.port 0).missed = false ∧ c.muted = false ∧
         ({ c with bits := [(true, true, false)] } : UartChar).bit cfg 0 = true ∧
         ({ c with bits := List.replicate n low } : UartChar).low cfg n = true ∧ c.bit cfg 0 = false ∧ c.low cfg n = false ∧
         c.stop cfg n = true ∧ parityRight cfg (c.data cfg) (c.bit cfg (dataBits cfg + 1)) = true ∧ (s.port 0).recvs = [] ∧ (s.port 0).rx.length < 128) ∧
      (let s := ua 0 [] { UartPort.idle with rx := [7], recvs := [xfr] }
       (s.port 0).recvs = [xfr] ∧ s.due ((s.port 0).rxAt + s.uaChars 0 (s.get (UA_CFGB.CFG 0) % 256)) = true ∧ 0 < xfr.done + (s.port 0).rx.length ∧ xfr.done < xfr.len) ∧
      (let s := run active [(UA_STAT.ENABLED 2, 1), (UA_CFGB.CFG 2, 2 ^ 12)]
       s.uaBit 2 12 = true ∧ (s.port 2).woken = false ∧ (s.port 2).sends = [] ∧ (s.port 2).txEnd = none ∧
         s.due ((s.port 2).rxAt + s.uaChars 2 2) = true) ∧
      (let s := run active [(UA_STAT.SLEEPING 2, 1), (UA_CFGA.DIV 2, 256)]
       s.flag (UA_STAT.SLEEPING 2) = true ∧ s.uaLoop 2 = false ∧ s.wakeCatches 2 = false) := by
  simp only [RingOpen]; decide +kernel

/-- A cycle of 4 ms at the slowest rate. -/
def cfg : List (Field × Nat) := [(TK_RATE.RATE, 1000), (LK_CFG.RATE, 0), (LK_CFG.C, 4), (LK_CFG.TURN, 10), (LK_ADDR.ADDR, 1),
  (UA_STAT.ENABLED 0, 1)]

/-- The device with address 1 on a link, with fields set. -/
def lk (l : List (Field × Nat)) (x : Link) : State := { run active ((LK_STATUS.JOINED, 1) :: cfg ++ l) with lk := x }

def lkSend (dst : Option Nat) (attempts : Nat) (seq : Option (Nat × Bool)) : LkSend := ⟨ref 0x2B, 1, dst, 1, 0, seq, attempts, 3⟩

def lkRecv : LkRecv := ⟨ref 0x2C, 0, 8192, 1, 1, 6⟩

/-- A frame from node 2 to the device. -/
def frame : LinkFrame := ⟨1, 1, 2, 9, [], true, true, false, 0, 0⟩

theorem witness_LinkInstructionResults :
    (let s := run active cfg
     RingOpen s 0 ∧ s.powerIn [standby, active, quiet, maint] = true ∧ s.joined = false ∧ s.joining = false ∧
       (op 0 0 511 [65535]).imm9 ≠ 0 ∧ s.cycleOk = true) ∧
      (let s := lk [] Link.reset
       let o := op 3 4 0 [240 * 65536, 24576 - 240]
       RingOpen s 0 ∧ o.wf = true ∧ o.src % 4 = 0 ∧ rangeInside (o.word 2) (o.word 1 / 65536) 24576 = true ∧
         s.joined = true ∧ s.lk.sends.length < 16 ∧ s.lkFits 240 false 3 = true ∧ s.lkFits 240 true 1 = false ∧
         s.lk.rx = [] ∧ s.lk.recvs.length < 4 ∧ rangeInside 0 8192 8192 = true) ∧
      (lk [] { Link.reset with sends := List.replicate 16 (lkSend none 0 none) }).lk.sends.length = 16 ∧
      (lk [] { Link.reset with recvs := List.replicate 4 lkRecv }).lk.recvs.length = 4 ∧
      (let s : State := { run active cfg with slots := [(uaStaging + 4 * 8190, 1), (uaStaging + 4 * 8191, 3990)] }
       let words := (List.range (min 194 (8192 - 8190))).map fun i => s.slot (uaStaging + 4 * (8190 + i))
       rangeInside 8190 2 8192 = true ∧ s.flag LK_STATUS.LEAVING = false ∧ s.readTable words = some ⟨1, 3990, []⟩ ∧
         s.joined = false ∧ s.joining = false ∧ s.readTable [] = none ∧ (lk [] Link.reset).flag LK_STATUS.LEAVING = false ∧
         (lk [] Link.reset).joined = true) ∧
      (let s := lk [(LK_CFG.MASTEROK, 1), (TM_CLASS.CLASS, 7), (LK_MASTER.CLASS, 6)] { Link.reset with uidOf := some 5 }
       s.claimAllowed = true) ∧
      (lk [] Link.reset).claimAllowed = false ∧
      (let s := lk [(LK_STATUS.MASTER, 1)] { Link.reset with claims := [⟨1, 2, 3, 0⟩] }
       s.isMaster = true ∧ bestClaim s.recentClaims = some ⟨1, 2, 3, 0⟩ ∧
         bestClaim (lk [] Link.reset).recentClaims = none) := by
  simp only [RingOpen]; decide +kernel

theorem witness_LinkProtocolResults :
    (let s : State := { run active ((LK_STATUS.JOINING, 1) :: cfg) with lk := { Link.reset with joinStep := 4, join := some (ref 0x2A) } }
     s.joining = true ∧ s.lk.joinStep = 4 ∧ s.lkListens = true ∧ s.due (s.lk.joinAt + s.lkCycles 4) = true) ∧
      (let s : State := { run active ((LK_STATUS.JOINING, 1) :: cfg) with lk := { Link.reset with joinStep := 2 } }
       s.lk.joinStep = 2 ∧ s.due s.lk.waitEnd = true) ∧
      (let s := lk [(LK_STATUS.MASTER, 1)] { Link.reset with handover := some 2 }
       s.lkListens = true ∧ s.isMaster = true ∧ s.get LK_CFG.C ≠ 0 ∧ s.get TK_INDEX.INDEX % s.get LK_CFG.C = 0 ∧
         s.lk.flight = none ∧ s.running = false ∧ s.lk.boundary ≠ some s.edgeClock ∧ s.lk.skip = 0 ∧
         s.lk.handover.isSome = true) ∧
      (let y := lkSend (some 2) 0 none
       let s := lk [] { Link.reset with boundary := some 0, sends := [y], table := some ⟨1, 2000, [(1, 600 * 4096 + 1000, 0)]⟩ }
       s.lkListens = true ∧ s.lkMuted = false ∧ s.lk.flight = none ∧ s.lk.extras = [] ∧ s.lk.sends = [y] ∧
         s.lk.boundary = some 0 ∧ s.clock ≤ 0 + 100 * 600 ∧ s.lk.clear ≤ 0 + 100 * 600 ∧ s.due (0 + 100 * 600) = true ∧
         s.lkWindow 600 y.len y.dst.isSome y.mode = some false) ∧
      ∀ k ∈ [none, some 15],
        let y := { lkSend (some 2) 0 none with mode := 0 }
        let s : State := { lk [] { Link.reset with boundary := some 0, sends := [y], table := some ⟨1, 2000, []⟩, slack := k } with
          clock := 100 * 3000 }
        s.lkListens = true ∧ s.lk.wait = 0 ∧ s.lk.slack = k ∧ s.lkWindow 3000 y.len y.dst.isSome y.mode = some true ∧
          s.lk.clear + s.lkDur 15 ≤ (s.passTo (0 + 100 * 3000)).clock ∧ s.clock ≤ 0 + 100 * 3000 ∧ s.due (0 + 100 * 3000) = true := by decide +kernel

theorem witness_LinkProtocolResults_waits :
    (let s := lk [] { Link.reset with flight := some (.send true) }
     s.lk.flight = some (.send true) ∧ s.clock ≤ s.lk.flightEnd) ∧
      (∀ n ∈ [7, 8], ∀ y ∈ [lkSend (some 2) n (some (3, true))],
        let s := lk [] { Link.reset with sends := [y], flight := some (.send false) }
        s.awaitsAck = true ∧ s.lk.sends = [y] ∧ y.seq = some (3, true) ∧ s.due s.ackBy = true ∧
          s.due s.lk.flightEnd = true ∧ s.clock ≤ s.ackBy + s.lkDur 11) ∧
      (let s := lk [(LK_CFG.MASTEROK, 1)] { Link.reset with boundary := some 0, silent := 31 }
       s.lkListens = true ∧ s.isMaster = false ∧ s.lk.flight = none ∧ s.flag LK_CFG.MASTEROK = true ∧
         s.lk.boundary = some 0 ∧ s.due (0 + s.lkCycles 1) = true ∧ s.silenceCount ≤ s.lk.silent) ∧
      (let s := lk [(LK_CFG.MASTEROK, 1), (TM_CLASS.CLASS, 7), (LK_CYCLE.N, 64)] { Link.reset with uidOf := some 5, claimed := some 0 }
       s.lkListens = true ∧ s.claimAllowed = true ∧ s.lk.claimed = some 0 ∧ 64 ≤ (s.get LK_CYCLE.N + 2 ^ 24 - 0) % 2 ^ 24) ∧
      (let s := lk [] { Link.reset with recvs := [lkRecv] }
       s.lk.recvs = [lkRecv] ∧ lkRecv.stored ≠ 0 ∧ s.lk.rx = [] ∧
         s.due (s.lk.recvAt + s.lkCycles (s.get LK_RXTO.CYC)) = true) := by decide +kernel

theorem witness_LinkProtocolResults_frames :
    (let s := lk [] Link.reset
     let f := { frame with flags := 81, payload := List.replicate 33 0 ++ [4000 % 256, 4000 / 256] }
     s.lkListens = true ∧ f.src ≠ s.lkAddr ∧ littleEndian (f.payload.drop 33 |>.take 2) = s.cycleUs ∧ s.isMaster = false ∧
         f.foreign 2 = false ∧ s.lk.uidOf = none ∧ s.lk.flight = none ∧ bitOf (f.payload.getD 8 0) 2 = false ∧ s.joining = false ∧ s.lkIntrudes f = false) ∧
      (∀ l ∈ [(0, 1), (2, 81), (3, 113), (4, 145), (5, 177), (6, 209)],
        ({ frame with flags := l.2 } : LinkFrame).foreign l.1 = false ∧
          ({ frame with flags := l.2 + 1 } : LinkFrame).foreign l.1 = true) ∧
      (let s := lk [] Link.reset
       let c : UartChar := ⟨List.replicate 11 (false, false, false), false, 1, false⟩
       let cfg := s.get (UA_CFGB.CFG 1)
       s.lkListens = true ∧ c.bit cfg 0 = false ∧ s.lk.lineB.phase = .hunt ∧ s.lk.lineB.run = false ∧
         s.lk.lineA.strange = none ∧ c.data cfg ≠ 0x55 ∧ c.data cfg ≠ 0xC3) ∧
      (∀ cache ∈ [[], [(2, 9)]],
        let s := lk [] { Link.reset with known := [2], cache := cache }
        s.lkListens = true ∧ s.joined = true ∧ s.lkIntrudes frame = false ∧ s.lkKnown 2 = true ∧ bitOf frame.flags 4 = false ∧
          frame.dst = s.lkAddr ∧ s.lk.recvs = [] ∧ s.lk.rx.length < 32 ∧ s.isMaster = false ∧ s.joining = false ∧
          (lruFind 2 s.lk.cache = none ∨ lruFind 2 s.lk.cache = some frame.seq)) ∧
      (let x : LkRx := ⟨0, 9, 2, 1, false, false, true, true, 0, 0, []⟩
       32 ≤ (lk [] { Link.reset with rx := List.replicate 32 x }).lk.rx.length) ∧
      bitOf ({ frame with flags := 9 } : LinkFrame).flags 3 = true ∧
      (let s := lk [] { Link.reset with joinStamp := (5, 0) }
       let g := { frame with src := s.lkAddr, flags := 145 }
       s.joined = true ∧ s.joining = false ∧ g.src = s.lkAddr ∧ g.foreign 4 = false ∧
         stampBefore (littleEndian (([] : List Nat).drop 16 |>.take 9)) (stampValue s.lk.joinStamp.1 s.lk.joinStamp.2) = true) ∧
      (let s := lk [(LK_UIDL.UID, 1)] Link.reset
       littleEndian (([] : List Nat).drop 16 |>.take 9) / 4 = stampValue s.lk.joinStamp.1 s.lk.joinStamp.2 / 4 ∧
         littleEndian (([] : List Nat).take 8) < s.uid) ∧
      (let s := lk [] { Link.reset with table := some ⟨1, 2000, [(3, 0 * 4096 + 1000, 0)]⟩ }
       s.joined = true ∧ s.lkIntrudes { frame with flags := 177 } = true) ∧
      (({ frame with payload := [3] } : LinkFrame).payload.getD 0 0 = 3) := by decide +kernel

/-! ### The analytics engine -/

/-- A base of one dense layer of one input and one output, without its blocks. -/
def base : List Nat :=
  [0xB1, 0xC1, 1, 0, 0, 1, 0, 0, 9, 0, 0, 0] ++ List.replicate 52 0 ++
    [1, 0, 0xFF, 0, 1, 0, 1, 0, 1, 0] ++ List.replicate 22 0

/-- An overlay of that layer whose symbols are all zero. -/
def overlay : List Nat :=
  [0xB3, 0xC1, 1, 0, 0, 1, 0, 0, 1, 0, 0, 0, 0, 0, 0, 0] ++ List.replicate 16 0 ++ [0x80, 0x3F] ++
    List.replicate 126 0 ++ vdsBytes (List.replicate 16 0 ++ 1 :: List.replicate 17 0) (List.replicate 8 [0x7F])

def ae (l : List (Field × Nat)) (x : Analytics) : State :=
  { run active ((AE_STATUS.MODEL, 1) :: l) with ae := { x with base := base } }

def load (ending : Option OpRef) : AeLoad := ⟨1, 4, [1, 2, 3, 4], false, ending⟩

theorem witness_AnalyticsLoadResults :
    (let s := ae [] Analytics.reset
     RingOpen s 0 ∧ within 1 4194304 ((op 1 1 0 [4194304]).word 1) = true ∧ within 1 524288 ((op 1 2 0 [1]).word 1) = true ∧
       s.aeloadLegal 1 = true ∧ s.aeloadLegal 5 = true ∧ s.flag FL_STATUS.READY = false) ∧
      (let l : AeLoad := ⟨1, 98304, [], false, none⟩
       let s := ae [] { Analytics.reset with load := some l }
       let o := op 2 0 0 [0, 98304]
       s.ae.load = some l ∧ within 1 98304 (o.word 2) = true ∧ o.word 2 ≤ l.total - l.bytes.length ∧ o.word 2 % 4096 = 0 ∧
         o.word 1 + o.word 2 ≤ pkgStagingBytes ∧ s.rangeOwned ⟨true, o.word 1, o.word 2⟩ = false) ∧
      (let s := ae [] { Analytics.reset with load := some (load none) }
       s.ae.load = some (load none) ∧ (load none).total ≤ (load none).bytes.length) ∧
      (ae [(FL_STATUS.READY, 1)] Analytics.reset).flag FL_STATUS.READY = true ∧
      (load (some (ref 0x30))).ending = some (ref 0x30) := by
  simp only [RingOpen]; decide +kernel

def aeJob (window : Option Nat) (plan : Option (List (List AeUnit × Nat))) : AeJob :=
  ⟨ref 0x31, .run 0 0, window, 0, 1, 1, none, plan, [], [], 0, 0, 0, [], 0, [], false⟩

theorem witness_AnalyticsJobResults :
    (let s := ae [(AE_WIN_A.EN 7, 1)] Analytics.reset
     RingOpen s 0 ∧ s.flag AE_STATUS.MODEL = true ∧ s.ae.load = none ∧ s.winFits 7 = true ∧
       (op 3 4 0 [0, 0]).dst % 4 * 2 + (op 3 4 0 [0, 0]).src / 4 = 7 ∧
       (op 4 0 0 [0, 8191]).word 2 + s.layer0.cin * s.layer0.len ≤ genStagingWords ∧ s.ae.jobs.length < 4) ∧
      (ae [] { Analytics.reset with jobs := List.replicate 4 (aeJob none none) }).ae.jobs.length = 4 ∧
      (let s := ae [] { Analytics.reset with jobs := [aeJob none none] }
       s.ae.jobs = [aeJob none none] ∧ (aeJob none none).work = .run 0 0 ∧ s.flag AE_STATUS.OVERLAY = false ∧
         s.coreUp = true ∧ s.powerIn [active, maint] = true ∧ s.ae.sliceTick ≠ some s.tickCount) ∧
      (aeJob none (some [([.whole 0], 5)])).plan = some [([.whole 0], 5)] ∧
      (let j : AeJob := { aeJob (some 7) none with since := some 0, wait := 0 }
       let s := ae [] { Analytics.reset with jobs := [j] }
       s.ae.jobs = [j] ∧ j.window = some 7 ∧ j.plan = none ∧ j.since = some 0 ∧ j.wait ≤ tickDiff 0 s.tickCount ∧
         s.coreUp = true ∧ (s.aeWindow 7).ready.all (·.held) = true) ∧
      (let s := run active (dimm ++ [(AE_WIN_C.PAGES 7, 1), (AE_WIN_D.FLEN 7, 31)])
       s.coreUp = true ∧ s.mayRwm .host (0xF100 + 32 * 7) = true ∧ s.flag (AE_WIN_A.EN 7) = false ∧ bitOf 0x800000 23 = true ∧
         (((s.set (AE_WIN_A.FMT 7) 0).set (AE_WIN_A.ISHIFT 7) 0).set (AE_WIN_A.CH 7) 0).winMayEnable 7 = true ∧
         (up []).winMayEnable 7 = false) ∧
      (ae [(AE_WIN_A.EN 7, 1)] Analytics.reset).flag (AE_WIN_A.EN 7) = true := by
  simp only [RingOpen]; decide +kernel

theorem witness_AdaptationResults :
    (let s := ae [] Analytics.reset
     RingOpen s 0 ∧ s.aeadaptLegal (op 1 0 1 []) = true ∧ adaptable s.layers = true ∧ s.overlayLast = true ∧
       s.aeadaptLegal (op 5 0 0 []) = true ∧ s.flag AE_STATUS.FROZEN = false) ∧
      (let s := ae [(AE_STATUS.OVERLAY, 1)] { Analytics.reset with overlay := overlay }
       s.overlayLast = true ∧ (overlayOf s.ae.overlay).isSome = true) ∧
      (ae [(AE_STATUS.OVERLAY, 1)] Analytics.reset).overlayLast = false ∧
      (let s := ae [(AE_STATUS.ADAPTING, 1)] Analytics.reset
       let o := op 2 4 0 [0#24, 8191#24]
       aeadaptReserved o = true ∧ s.aeadaptLegal o = true ∧ o.word 1 / 2 ^ 16 < s.lastLayer.cout ∧
         o.word 2 + s.layer0.cin * s.layer0.len ≤ genStagingWords ∧ s.aeadaptLegal (op 3 0 0 []) = true ∧
         s.aeadaptLegal (op 4 0 0 []) = true) ∧
      (ae [(AE_STATUS.FROZEN, 1)] Analytics.reset).flag AE_STATUS.FROZEN = true ∧
      (let t := (run active [(AE_STATUS.OVERLAY, 1), (SE_EXPCFG.VALID, 1), (SE_EXPCFG.OWNER, 3)]).burnOwner 3 (List.replicate 64 7)
       let s : State := { t with ae := { Analytics.reset with overlay := overlay, made := true } }
       RingOpen s 0 ∧ (op 0 0 0 [98303]).word 1 < pkgStagingBytes ∧ s.flag AE_STATUS.OVERLAY = true ∧ s.ae.made = true ∧
         s.ae.load = none ∧ s.commitQueued = false ∧ s.flag SE_EXPCFG.VALID = true ∧
         s.ownerKey (s.get SE_EXPCFG.OWNER) = some (List.replicate 64 7)) ∧
      (run active []).ownerKey 0 = none ∧ ({ aeJob none none with work := .commit, published := true } : AeJob).published = true := by
  simp only [RingOpen]; decide +kernel

/-! ### The compression and security units -/

theorem witness_CompressionResults :
    (let s := run active []
     let w1 : Nat := 0x800000
     RingOpen s 0 ∧ bitsOf w1 17 6 = 0 ∧ bitsOf 0 17 6 = 0 ∧
       ∀ x ∈ [(1, 1), (1, 2), (1, 3), (2, 1), (2, 2), (2, 3), (3, 1), (3, 3), (3, 4)],
         let src := cpSource x.1 x.2 1 (bitOf w1 23) (w1 % 2 ^ 17)
         let dst := cpDestination x.1 x.2 1 false 0 (s.rangeBytes src)
         src.inside = true ∧ dst.inside = true ∧ s.rangeOwned src = false ∧ s.rangeOwned dst = false ∧ src.meets dst = false) ∧
      (∀ x ∈ [(1, 1), (1, 2), (1, 3), (2, 1), (2, 2), (2, 3), (3, 1), (3, 3), (3, 4)],
        let j : CpJob := ⟨ref 0x35, x.1, x.2, 1, ⟨true, 0, 256⟩, ⟨false, 0, 178⟩⟩
        ({ run active [] with cp := [j] } : State).cp = [j]) ∧
      4 ≤ ({ run active [] with cp := List.replicate 4 ⟨ref 0x35, 1, 1, 1, ⟨true, 0, 256⟩, ⟨false, 0, 178⟩⟩ } : State).cp.length := by
  simp only [RingOpen]; decide +kernel

/-- The header of a package of kind `kind` and MODE 3 that the device signed to itself. -/
def pack (kind : Nat) : List Nat :=
  [0xC5, 0xC1, 1, kind, 3, 5, 0, 0, 1, 0, 0, 0] ++ List.replicate 52 0 ++ sha256 State.reset.identityKey ++
    List.replicate 124 0 ++ State.reset.identityKey ++ List.replicate 36 0

def se (work : SeWork) (s : State) : State := { s with se := { Security.reset with queue := [⟨ref 0x39, work, []⟩] } }

theorem witness_SecurityResults :
    (let s := run active []
     RingOpen s 0 ∧ s.powerIn [standby, active, quiet, maint] = true ∧ s.se.queue.length < 4 ∧
       (op 0 0 0 [98303]).word 1 < pkgStagingBytes ∧
       (let o := op 2 3 0 [0, 0, 36864, 98303]
        o.wf = true ∧ o.word 4 < pkgStagingBytes ∧ o.word 3 ≤ 36864 ∧ o.word 2 + o.word 3 ≤ genStagingBytes)) ∧
      (let s := mc mcIdle [(SE_CARDST.ENT, 0x80)] MemCard.reset
       s.mcState = mcIdle ∧ bitOf (s.get SE_CARDST.ENT) 7 = true) ∧
      ((op 3 0 0 [98080]).word 1 + 224 ≤ pkgStagingBytes ∧ (run maint []).power = maint) ∧
      ((up []).burnOwner 3 []).ownerSet (3 % 4) = true ∧ (up []).ownerSet (3 % 4) = false ∧
      (let s := se (.openPack 0) (run active [])
       headerOk (s.stagedPack 0) = false ∧ s.se.queue = [⟨ref 0x39, .openPack 0, []⟩]) ∧
      (let s := se (.openPack 0) ((run active []).putArea true 0 (pack 4))
       let p := s.stagedPack 0
       headerOk p = true ∧ packInside 0 p = true ∧ packKind p = 4 ∧ s.power ≠ maint) ∧
      (let s := se (.openPack 0) ((run active []).putArea true 0 (pack 1))
       let p := s.stagedPack 0
       headerOk p = true ∧ packInside 0 p = true ∧ s.addressed p = true ∧ s.signerOk allKinds p = true ∧ packKind p ≤ 2) ∧
      (let s : State := { se (.rpmb 7) (run active [(MC_STATUS.STATE, mcIdle)]) with mc := MemCard.reset }
       s.mcState ≠ mcInactive ∧ s.mcState ≠ mcDeactivating) ∧
      (run active []).ownerKey 0 = none ∧ (∀ a ∈ [1, 2], a = 1 ∨ a = 2) := by
  simp only [RingOpen]; decide +kernel

/-! ### The faceplate, the side-band port and cold start -/

/-- The IO 3.3 V rail on and good. -/
def ioOn : List (Field × Nat) := [(PW_ON.EN, 4), (PW_GOOD.RAIL, 4)]

theorem witness_IndicatorResults :
    (let s := run active []
     let o := op 1 0 255 [0x940400]
     RingOpen s 0 ∧ o.wf = true ∧ bitsOf (o.word 1) 11 5 = 0 ∧ lampSetOk (o.word 1) = true ∧ s.lampsSettable = true) ∧
      (let s : State := { run active [] with fp := { Faceplate.reset with sets := [(ref 0x3C, 1)] } }
       s.fp.sets = [(ref 0x3C, 1)] ∧ 1 ≠ s.tick.edges) ∧
      (let s := run active (ioOn ++ [(FP_IND_A.SET 7, 0x340400), (FP_IND_B.PROVE 7, 1), (FP_IND_B.PROBE 7, 1)])
       s.lampsRun = true ∧ s.lampLit 7 = true ∧ 13 ≤ s.lampDuty 7 ∧ s.flag (FP_IND_B.PROBE 7) = true ∧
         s.lampPhase 7 = true ∧ s.lampDue (s.lamp 7).pulseAt 100000 = true) ∧
      (let s := run active (ioOn ++ [(FP_IND_A.SET 7, 0x34000C), (FP_IND_B.PROVE 7, 1), (FP_IND_B.PROBE 7, 1)])
       s.lampLit 7 = true ∧ s.lampDuty 7 ≤ 12 ∧ s.flag (FP_IND_B.PROVE 7) = true ∧ s.lampDuty 7 ≤ 798 ∧
         s.lampPhase 7 = true ∧ s.lampDue (s.lamp 7).provedAt (100000000 * s.get (FP_IND_B.PERIOD 7)) = true ∧
         s.lampDue (s.lamp 7).probedAt (100000000 * s.get (FP_IND_B.PERIOD 7)) = true) ∧
      (let s : State := { run active ioOn with fp := { Faceplate.reset with lamps :=
         [(6, { Lamp.idle with bad := 2 }), (7, { Lamp.idle with fault := some 2, good := 2 })] } }
       (s.lamp 6).fault = none ∧ 2 ≤ (s.lamp 6).bad ∧ (s.lamp 7).fault ≠ none ∧ 2 ≤ (s.lamp 7).good) := by
  simp only [RingOpen]; decide +kernel

def keyed (l : List (Field × Nat)) : State := { run active (ioOn ++ l) with fp := { Faceplate.reset with based := true } }

theorem witness_ReleaseKeyResults :
    (let s := keyed []
     s.keyRuns = true ∧ s.fp.based = true ∧ s.get FP_BASE.CNT ≤ 4095 ∧ (List.replicate 64 2000).length = 64 ∧
       s.due (s.fp.updateAt + 32000000) = true ∧ s.due (s.fp.lowAt + 100000 * s.get FP_KEYTIME.TOUCHMIN) = true ∧
       (s.get FP_TOUCHTHR.CNT : Int) ≤ (4095 : Int) - s.get FP_BASE.CNT ∧ s.flag FP_STATUS.TOUCHED = false ∧
       s.flag FP_STATUS.STUCK = false ∧ s.flag FP_STATUS.RELREQ = false) ∧
      (keyed [(FP_KEYCFG.TARGET, 0)]).get FP_KEYCFG.TARGET = 0 ∧
      (let s := keyed [(FP_STATUS.RELREQ, 1)]
       s.flag FP_STATUS.RELREQ = true ∧ s.releaseBegun = false) ∧
      (let s := keyed [(FP_STATUS.RELREQ, 1), (SC_STATUS.STATE, scDeactivating)]
       ({ s with fp := { s.fp with target := 1 } } : State).releaseBegun = true) ∧
      (let s := keyed [(FP_KEYCFG.TARGET, 3), (SC_STATUS.STATE, scExchange), (MC_STATUS.STATE, mcTransfer)]
       s.get FP_KEYCFG.TARGET ≠ 0 ∧ s.get FP_KEYCFG.TARGET < 4 ∧ s.scState ≠ scInactive ∧ s.scState ≠ scIdle ∧
         s.mcState ≠ mcInactive ∧ s.mcState ≠ mcIdle) ∧
      (let s := keyed [(FP_BASE.CNT, 4095), (FP_CTL.BLLOOP, 1)]
       (0 : Int) - s.get FP_BASE.CNT < (s.get FP_TOUCHTHR.CNT - s.get FP_TOUCHTHR.CNT / 8 : Nat) ∧
         (0 : Int) - s.get FP_BASE.CNT ≤ -(s.get FP_ANTITHR.CNT : Int) ∧ s.flag FP_CTL.BLLOOP = true) ∧
      (let s := run active (ioOn ++ [(FP_CTL.BLLOOP, 1)])
       s.keyRuns = true ∧ s.fp.based = false ∧ 8 ≤ (List.replicate 8 2000).length ∧ s.due (s.fp.updateAt + 4500000) = true ∧
         s.flag FP_CTL.BLLOOP = true ∧ (List.replicate 8 2000).getLast? = some 2000) ∧
      (let s := keyed [(FP_STATUS.TOUCHED, 1)]
       s.flag FP_STATUS.TOUCHED = true ∧ s.due (s.fp.touchedAt + 100000000 * s.get FP_KEYTIME.HOLDMAX) = true) ∧
      (let s : State := { run active [] with fp := { Faceplate.reset with steady := some (1, 0) } }
       s.fp.steady = some (1, 0) ∧ s.due (0 + 6000000000) = true) ∧
      (let s := run active [(FP_KEYCFG.TARGET, 3), (SC_STATUS.STATE, scExchange), (MC_STATUS.STATE, mcTransfer)]
       RingOpen s 0 ∧ s.get FP_KEYCFG.TARGET ≠ 0 ∧ s.get FP_KEYCFG.TARGET < 4 ∧ s.flag FP_STATUS.RELREQ = false ∧
         s.scState ≠ scInactive ∧ s.scState ≠ scIdle ∧ s.mcState ≠ mcInactive ∧ s.mcState ≠ mcIdle) ∧
      (let s := run active [(FP_KEYCFG.TARGET, 3)]
       s.scState = scInactive ∧ s.scHolds = false ∧ s.mcState = mcInactive) := by
  simp only [RingOpen]; decide +kernel

theorem witness_SideBandResults :
    (run active []).power ≠ 0 ∧
      (let s := run active [(SB_STATUS.BUSPWR, 1), (SB_PAGE.PAGE, 1023), (SB_CFG.TOUTEN, 1)]
       s.busEngaged = true ∧ genStaging ≤ s.pageSlot 255 ∧ s.pageSlot 255 < 0x100000 ∧ s.ownedRanges = [] ∧
         s.coreUp = true ∧ s.flag SB_CFG.TOUTEN = true ∧
         pec [s.addressByte false, 255, 0, 0, 0] % 256 ≠ (pec [s.addressByte false, 255, 0, 0, 0] + 1) % 256) ∧
      (let s := run active [(SB_STATUS.HB, hbAlive), (SB_HBCFG.PERIOD, 10000)]
       s.heartbeat = hbAlive ∧ 1 ≤ s.get SB_HBCFG.PERIOD ∧ s.due s.lapseAt = true) ∧
      (let s := run active [(SB_STATUS.HB, hbUnarmed), (SB_HBBOOT.S, 1)]
       s.heartbeat = hbUnarmed ∧ s.get SB_HBBOOT.S ≠ 0 ∧ s.due s.lapseAt = true) ∧
      (let s := run active [(SB_STATUS.HB, hbLapsed)]
       s.heartbeat = hbLapsed ∧ s.steward = false) ∧
      (let s := run active [(SB_STATUS.STEWARD, 1)]
       s.steward = true ∧ s.flag QU_R15CTL.SEIZED = false) ∧
      (run active []).get SY_VIOLATIONS.COUNT < 2 ^ 24 - 1 ∧ (run active []).heartbeat ≠ hbLapsed ∧
      (run active []).steward = false := by decide +kernel

theorem witness_StartUpResults :
    let s := State.reset.set PW_STATE.STATE 0
    s.power = 0 ∧ s.se.copies.getD 0 none = none ∧ s.se.copies.getD 1 none = none ∧ s.sv.recordAt = s.clock ∧
      s.fl.rootAt = s.clock ∧
      ({ s with sv := { SaveUnit.reset with oldRecord := some ⟨0, 0, 0, 0, false, 0, [], 1, 0⟩ } } : State).sv.oldRecord =
        some ⟨0, 0, 0, 0, false, 0, [], 1, 0⟩ ∧
      s.fl.oldRoot = none ∧
      ({ s with fl := { Flash.reset with oldRoot := some (root 0), oldStore := some Flash.reset.view } } :
        State).fl.oldStore = some Flash.reset.view := by decide +kernel

/-! ### Frames: each command answers a next state -/

theorem witness_CoreInstructionFrames :
    (op 7 7 511 []).wf = true ∧ ∀ c ∈ [Instr.nop, .br, .waitt, .waite, .ldi, .mov, .add, .sub, .and, .or, .cmp, .loop],
      ∃ t, exec (c (op 7 7 511 [])) (up []) = .next t := by
  refine ⟨by decide +kernel, ?_⟩
  simp only [List.forall_mem_cons, List.not_mem_nil, false_implies, implies_true, and_true]
  exact ⟨⟨_, rfl⟩, ⟨_, rfl⟩, ⟨_, rfl⟩, ⟨_, rfl⟩, ⟨_, rfl⟩, ⟨_, rfl⟩, ⟨_, rfl⟩, ⟨_, rfl⟩, ⟨_, rfl⟩, ⟨_, rfl⟩, ⟨_, rfl⟩, ⟨_, rfl⟩⟩

theorem witness_TickAndRingWriteFrames :
    (∀ p ∈ [(15, 20)], p.1 < 16) ∧ (∃ t, exec (.tkShareWrite .host [(15, 20)]) (up []) = .next t) ∧
      (∃ t, exec (.doorbell .host 15 1) (up []) = .next t) ∧ ∃ t, exec (.cqHeadWrite .host 3 0) (up []) = .next t :=
  ⟨by decide, ⟨_, rfl⟩, ⟨_, rfl⟩, ⟨_, rfl⟩⟩

theorem witness_HostAndPowerFrames :
    (∃ t, exec (.hostMrs 3 6 1 none) (up host) = .next t) ∧ (∃ t, exec .faultLineLow (up []) = .next t) ∧
      ∃ t, exec .journalPageTimeout (up []) = .next t :=
  ⟨⟨_, rfl⟩, ⟨_, rfl⟩, ⟨_, rfl⟩⟩

theorem witness_UnitEventFrames :
    (∃ t, exec (.monitorFlagChange 31 0 1 []) (up []) = .next t) ∧ (∃ t, exec (.uartWake 3) (up []) = .next t) ∧
      ∃ t, exec (.leapWrite .host 1 5) (up []) = .next t :=
  ⟨⟨_, rfl⟩, ⟨_, rfl⟩, ⟨_, rfl⟩⟩

theorem witness_UnitInstructionFrames :
    (op 7 7 511 []).wf = true ∧ (∃ t, exec (.tmark (op 7 7 63 [])) (run active []) = .next t) ∧
      ∃ t, exec (.fpindStatus (op 0 0 0 [])) (run active []) = .next t :=
  ⟨by decide +kernel, ⟨_, rfl⟩, ⟨_, rfl⟩⟩

end Sys2Proof.Tests
end

/-! ## The reset state (R2, R10, R116, R246) -/

namespace Sys2Proof.Machine

open Reg

/-- At reset the register file lists BT_STATUS.UNCERT alone (R303): every other field reads its own reset value. -/
theorem State.get_reset {f : Field} (h : f.key ≠ BT_STATUS.UNCERT.key) : State.reset.get f = f.reset := by
  have hfind : sparseFind f.key State.reset.regs = none := if_neg h
  simp [State.get, hfind]

/-- Slots, program store and DRAM are empty at reset, and an empty memory is canonical. -/
theorem Memory.wf_reset : Memory.wf State.reset = true := by
  have hslots : sparseWf (fun _ => 0) State.reset.slots = true := rfl
  have hstore : sparseWf (fun _ => 0) State.reset.store = true := rfl
  have hdram : State.reset.hp.dram.wf = true := rfl
  simp [Memory.wf, hslots, hstore, hdram]

/-- Settles O2: the four fields are other than UNCERT, so each reads its reset value; the rest are the components
of the reset state. -/
theorem resetState : Obligations.ResetState := by
  have hpart : State.reset.get SY_DEVID.PART = 0x2416 := State.get_reset (by decide)
  have hcount : State.reset.get SY_VIOLATIONS.COUNT = 0 := State.get_reset (by decide)
  have hfree : State.reset.get SY_PGSPACE.FREE = 16384 := State.get_reset (by decide)
  have hrate : State.reset.get TK_RATE.RATE = 20000 := State.get_reset (by decide)
  exact ⟨hpart, hcount, hfree, hrate, rfl, rfl, rfl, rfl, Memory.wf_reset⟩

end Sys2Proof.Machine

/-! ## Violations, and an illegal core instruction (R7, R10, R71, R89) -/

namespace Sys2Proof.Machine

open Reg

/-- R10: below its largest value the count rises by one. -/
theorem State.count_violate_succ (s : State) (v : Violation) (h : s.get SY_VIOLATIONS.COUNT < 2 ^ 24 - 1) :
    (s.violate v).get SY_VIOLATIONS.COUNT = s.get SY_VIOLATIONS.COUNT + 1 := by
  rw [State.count_violate s v (by omega)]
  omega

/-- R11: SY_LASTVIOL records the violation. -/
theorem State.lastviol_violate (s : State) (v : Violation) :
    (s.violate v).get SY_LASTVIOL.LAST = v.word % 2 ^ 24 := by
  rw [State.violate_eq]
  exact State.get_set_same _ SY_LASTVIOL.LAST _

@[simp] theorem State.ring_violate (s : State) (v : Violation) (r : Nat) : (s.violate v).ring r = s.ring r := by
  rw [State.violate_eq, State.ring_set, State.ring_set]

/-- R71: a ring that moves on changes no register but its head. -/
theorem State.get_moveOn {g : Field} (s : State) (r n : Nat) (h : g.key ≠ (QU_HEAD.HEAD r).key) :
    (s.moveOn r n).get g = s.get g := by
  unfold State.moveOn
  split
  · exact State.get_setRing s r _ g
  · exact State.get_set_ne s _ h

theorem State.wait_moveOn (s : State) (r n : Nat) : ((s.moveOn r n).ring r).wait = (s.ring r).wait := by
  unfold State.moveOn
  split
  · rw [State.ring_setRing_same]
  · rw [State.add_eq, State.ring_set]

theorem State.movedOn_moveOn (s : State) (r n : Nat) : MovedOn r n s (s.moveOn r n) := by
  unfold MovedOn State.moveOn
  split
  · rw [State.ring_setRing_same]
  · exact State.get_set_same s _ _

/-- What leaves ring `r` and its head alone leaves `r` where it has moved to. -/
theorem MovedOn.of_same {r n : Nat} {s t u : State} (h : MovedOn r n s t) (hring : u.ring r = t.ring r)
    (hhead : u.get (QU_HEAD.HEAD r) = t.get (QU_HEAD.HEAD r)) : MovedOn r n s u := by
  unfold MovedOn at h ⊢
  rwa [hring, hhead]

/-- R7, R95: a core instruction that matches no form takes its words and retires as NOP. -/
theorem State.coreIssue_illegal (s : State) (op : Op) (opcode : Nat) (legal : Bool) (body : State → State)
    (h : s.ringReady op.ring = true) (hform : op.coreForm opcode = false) :
    s.coreIssue op opcode legal body = (s.moveOn op.ring (1 + op.ext.length)).retire op.ring opcode := by
  simp [State.coreIssue, h, hform]

/-- R7, R95: retiring as NOP changes only the two violation registers. -/
theorem State.get_retire {g : Field} (s : State) (r opcode : Nat) (hcount : g.key ≠ SY_VIOLATIONS.COUNT.key)
    (hlast : g.key ≠ SY_LASTVIOL.LAST.key) : (s.retire r opcode).get g = s.get g :=
  State.get_violate_ne s _ hcount hlast

theorem State.ring_retire (s : State) (r opcode r' : Nat) : (s.retire r opcode).ring r' = s.ring r' := by
  rw [State.retire, State.ring_uses, State.ring_violate]

/-- R7: retiring as NOP counts one violation. -/
theorem State.count_retire (s : State) (r opcode : Nat) (h : s.get SY_VIOLATIONS.COUNT < 2 ^ 24 - 1) :
    (s.retire r opcode).get SY_VIOLATIONS.COUNT = s.get SY_VIOLATIONS.COUNT + 1 :=
  State.count_violate_succ s _ h

/-- The head of a ring is neither violation register. -/
theorem head_ne_violation (r : Nat) :
    (QU_HEAD.HEAD r).key ≠ SY_VIOLATIONS.COUNT.key ∧ (QU_HEAD.HEAD r).key ≠ SY_LASTVIOL.LAST.key := by
  simp only [Field.key, QU_HEAD.HEAD, SY_VIOLATIONS.COUNT, SY_LASTVIOL.LAST]
  omega

/-- R7: an illegal core instruction moves its ring on and counts one violation. -/
theorem State.illegal_coreIssue_results (s : State) (op : Op) (opcode : Nat) (legal : Bool) (body : State → State)
    (h : s.ringReady op.ring = true) (hform : op.coreForm opcode = false)
    (hcount : s.get SY_VIOLATIONS.COUNT < 2 ^ 24 - 1) :
    let t := s.coreIssue op opcode legal body
    MovedOn op.ring (1 + op.ext.length) s t ∧ t.get SY_VIOLATIONS.COUNT = s.get SY_VIOLATIONS.COUNT + 1 := by
  obtain ⟨hvc, hvl⟩ := head_ne_violation op.ring
  have hkept : (s.moveOn op.ring (1 + op.ext.length)).get SY_VIOLATIONS.COUNT = s.get SY_VIOLATIONS.COUNT :=
    State.get_moveOn s _ _ hvc.symm
  rw [State.coreIssue_illegal s op opcode legal body h hform]
  constructor
  · exact (State.movedOn_moveOn s _ _).of_same (State.ring_retire _ _ _ _) (State.get_retire _ _ _ hvc hvl)
  · rw [State.count_retire _ _ _ (by rw [hkept]; exact hcount), hkept]

/-- R7: an illegal core instruction changes no register of its context. -/
theorem State.greg_illegal_coreIssue (s : State) (op : Op) (opcode d : Nat) (legal : Bool) (body : State → State)
    (h : s.ringReady op.ring = true) (hform : op.coreForm opcode = false) (hring : op.ring < 16) (hd : d < 8) :
    (s.coreIssue op opcode legal body).greg op.ring d = s.greg op.ring d := by
  rw [State.coreIssue_illegal s op opcode legal body h hform]
  unfold State.greg
  rw [State.get_retire, State.get_moveOn] <;>
    simp only [Field.key, SY_CTX.G, QU_HEAD.HEAD, SY_VIOLATIONS.COUNT, SY_LASTVIOL.LAST] <;> omega

end Sys2Proof.Machine

/-! ## The issue of a unit instruction by an open ring (R79, R80, R82) -/

namespace Sys2Proof.Machine

open Reg

theorem State.get_dropHeld (s : State) (r : Nat) (g : Field) : (s.dropHeld r).get g = s.get g :=
  foldl_same (fun t : State => t.get g) _ (fun t m => State.get_setQueue t m _ g) _ s

theorem State.ring_dropHeld (s : State) (r r' : Nat) : (s.dropHeld r).ring r' = s.ring r' :=
  foldl_same (fun t : State => t.ring r') _ (fun t m => State.ring_setQueue t m _ r') _ s

/-- R82: a reservation changes the count of its queue and the held rings alone. -/
theorem State.get_reserve {g : Field} (s : State) (r : Nat) (hres : g.key ≠ (QU_CQRES.RESV (s.cqOf r)).key)
    (hheld : g.key ≠ QU_HELD.RING.key) : (s.reserve r).get g = s.get g := by
  unfold State.reserve
  split
  · exact State.get_setRing s r _ g
  · rw [State.cqUnhold, State.setMaskBit_eq, State.get_set_ne _ _ hheld, State.get_dropHeld, State.cqReserve,
      State.add_eq, State.get_set_ne _ _ hres]

theorem State.wait_reserve (s : State) (r : Nat) : ((s.reserve r).ring r).wait = (s.ring r).wait := by
  unfold State.reserve
  split
  · rw [State.ring_setRing_same]
  · rw [State.cqUnhold, State.setMaskBit_eq, State.ring_set, State.ring_dropHeld, State.cqReserve, State.add_eq,
      State.ring_set]

/-- R71, R82, R105: the state that an admitted unit instruction is judged in. -/
def State.admitted (s : State) (op : Op) (cost : Nat) : State :=
  (((s.reserve op.ring).add (QU_OUT.OUT op.ring) 1).moveOn op.ring (1 + op.ext.length)).uses cost

/-- The registers that the admission of an instruction of ring `r` may change, its queue being `m`. -/
def admitField (r m : Nat) (g : Field) : Prop :=
  g.key = (QU_CQRES.RESV m).key ∨ g.key = QU_HELD.RING.key ∨ g.key = (QU_OUT.OUT r).key ∨
    g.key = (QU_HEAD.HEAD r).key

theorem State.get_admitted {g : Field} (s : State) (op : Op) (cost : Nat)
    (h : ¬ admitField op.ring (s.cqOf op.ring) g) : (s.admitted op cost).get g = s.get g := by
  simp only [admitField, not_or] at h
  obtain ⟨hres, hheld, hout, hhead⟩ := h
  rw [State.admitted, State.get_uses, State.get_moveOn _ _ _ hhead, State.add_eq, State.get_set_ne _ _ hout,
    State.get_reserve _ _ hres hheld]

theorem State.wait_admitted (s : State) (op : Op) (cost : Nat) :
    ((s.admitted op cost).ring op.ring).wait = (s.ring op.ring).wait := by
  rw [State.admitted, State.ring_uses, State.wait_moveOn, State.add_eq, State.ring_set, State.wait_reserve]

/-- An open ring admits its unit instruction. -/
theorem RingOpen.issue_eq {s : State} {op : Op} (h : RingOpen s op.ring) (opcode cost : Nat)
    (body : State → OpRef → State) :
    s.issue op opcode cost body = body (s.admitted op cost) (s.opRef op.ring opcode) := by
  obtain ⟨hready, -, -, hfree⟩ := h
  exact State.issue_eq s op opcode cost body hready (by simp [State.canReserve, hfree])

/-- R71: an open ring waits for nothing. -/
theorem RingOpen.wait_eq {s : State} {r : Nat} (h : RingOpen s r) : (s.ring r).wait = Wait.none := by
  obtain ⟨hready, -⟩ := h
  simp only [State.ringReady, Bool.and_eq_true, decide_eq_true_eq] at hready
  exact hready.1.2

/-- R79: the completion that an open ring's instruction will owe. -/
theorem RingOpen.opRef_eq {s : State} {r : Nat} (h : RingOpen s r) (opcode : Nat) :
    s.opRef r opcode = ⟨r, s.get (QU_HEAD.HEAD r), false, opcode, s.cqOf r⟩ := by
  obtain ⟨-, hres, hrun, -⟩ := h
  simp [State.opRef, State.position, hres, hrun]

/-- R78: there are four queues. -/
theorem State.cqOf_lt (s : State) (r : Nat) : s.cqOf r < 4 := by
  unfold State.cqOf bitsOf
  split
  · decide
  · split <;> exact Nat.mod_lt _ (by decide)

/-- R79, R80: in a state whose queue stands as in `s` the post of an open ring's instruction is the one new entry. -/
theorem RingOpen.posted_post {s u : State} {r : Nat} (h : RingOpen s r) (opcode status result : Nat)
    (hwait : (u.ring r).wait = Wait.none)
    (htail : u.get (QU_CQTAIL.TAIL (s.cqOf r)) = s.get (QU_CQTAIL.TAIL (s.cqOf r))) :
    Posted r opcode status result s (u.post (s.opRef r opcode) status result) := by
  have hq : OpRef.q ⟨r, s.get (QU_HEAD.HEAD r), false, opcode, s.cqOf r⟩ = s.cqOf r := Nat.mod_eq_of_lt (s.cqOf_lt r)
  have hbase : u.entryBase (s.cqOf r) = s.entryBase (s.cqOf r) := by simp only [State.entryBase, htail]
  rw [h.opRef_eq, State.post_eq u _ _ _ (by simp [hwait])]
  have hentry := State.entry_cqWrite u ⟨r, s.get (QU_HEAD.HEAD r), false, opcode, s.cqOf r⟩ status (result % 2 ^ 24)
  have hnext := State.tail_cqWrite u ⟨r, s.get (QU_HEAD.HEAD r), false, opcode, s.cqOf r⟩ status (result % 2 ^ 24)
  rw [hq, hbase, Nat.mod_mod] at hentry
  rw [hq, htail] at hnext
  exact ⟨hnext, hentry⟩

/-- No violation register is one of a completion. -/
theorem count_not_postField : ¬ postField SY_VIOLATIONS.COUNT := by
  simp only [postField, Field.key, SY_VIOLATIONS.COUNT, QU_CQTAIL.TAIL, QU_CQRES.RESV, QU_OUT.OUT, QU_EVPEND.CQ]
  omega

/-- R7, R107: a refusal by the legality table posts status 0x00. -/
theorem RingOpen.posted_illegal {s u : State} {r : Nat} (h : RingOpen s r) (opcode : Nat)
    (hwait : (u.ring r).wait = Wait.none)
    (htail : u.get (QU_CQTAIL.TAIL (s.cqOf r)) = s.get (QU_CQTAIL.TAIL (s.cqOf r))) :
    Posted r opcode 0x00 0 s (u.illegal (s.opRef r opcode)) := by
  rw [State.illegal, State.refuse]
  refine h.posted_post opcode 0x00 0 (by simpa using hwait) ?_
  rw [State.get_uses, State.get_violate_ne, htail] <;>
    simp only [Field.key, QU_CQTAIL.TAIL, SY_VIOLATIONS.COUNT, SY_LASTVIOL.LAST] <;> omega

/-- R7: a refusal by the legality table counts one violation. -/
theorem State.count_illegal (s : State) (ref : OpRef) (h : s.get SY_VIOLATIONS.COUNT < 2 ^ 24 - 1) :
    (s.illegal ref).get SY_VIOLATIONS.COUNT = s.get SY_VIOLATIONS.COUNT + 1 := by
  rw [State.illegal, State.refuse, State.get_post _ _ _ _ count_not_postField, State.get_uses,
    State.count_violate_succ s _ h]

/-- R8: the reserved opcode of an open ring posts status 0x00 and counts one violation. -/
theorem RingOpen.reservedOpcode_results {s : State} {op : Op} (h : RingOpen s op.ring)
    (hcount : s.get SY_VIOLATIONS.COUNT < 2 ^ 24 - 1) :
    Posted op.ring 0x3F 0x00 0 s (reservedOpcode op s) ∧
      (reservedOpcode op s).get SY_VIOLATIONS.COUNT = s.get SY_VIOLATIONS.COUNT + 1 := by
  have hm := s.cqOf_lt op.ring
  have htail : (s.admitted op 20).get (QU_CQTAIL.TAIL (s.cqOf op.ring)) = s.get (QU_CQTAIL.TAIL (s.cqOf op.ring)) := by
    refine State.get_admitted s op 20 ?_
    simp only [admitField, Field.key, QU_CQTAIL.TAIL, QU_CQRES.RESV, QU_HELD.RING, QU_OUT.OUT, QU_HEAD.HEAD]
    omega
  have hkept : (s.admitted op 20).get SY_VIOLATIONS.COUNT = s.get SY_VIOLATIONS.COUNT := by
    refine State.get_admitted s op 20 ?_
    simp only [admitField, Field.key, SY_VIOLATIONS.COUNT, QU_CQRES.RESV, QU_HELD.RING, QU_OUT.OUT, QU_HEAD.HEAD]
    omega
  have hwait : ((s.admitted op 20).ring op.ring).wait = Wait.none := (s.wait_admitted op 20).trans h.wait_eq
  rw [reservedOpcode, h.issue_eq]
  exact ⟨h.posted_illegal 0x3F hwait htail, by rw [State.count_illegal _ _ (by rw [hkept]; exact hcount), hkept]⟩

/-- R89: a well-formed instruction names one of sixteen rings and one of eight registers. -/
theorem Op.lt_of_wf {op : Op} (h : op.wf = true) : op.ring < 16 ∧ op.dst < 8 := by
  simp only [Op.wf, Bool.and_eq_true, decide_eq_true_eq] at h
  obtain ⟨⟨⟨⟨hring, hdst⟩, -⟩, -⟩, -⟩ := h
  exact ⟨hring, hdst⟩

/-- Settles O11: the reserved opcode is issued to a refusal by the legality table, and an ADD that matches no form
retires as NOP. -/
theorem reservedAndIllegal : Obligations.ReservedAndIllegal := by
  intro s op hwf hcount
  obtain ⟨hring, hdst⟩ := Op.lt_of_wf hwf
  constructor
  · intro hopen
    exact ⟨reservedOpcode op s, rfl, hopen.reservedOpcode_results hcount⟩
  · intro hready hform
    obtain ⟨hmoved, hviol⟩ := State.illegal_coreIssue_results s op 0x03 true _ hready hform hcount
    exact ⟨add op s, rfl, hmoved, hviol, State.greg_illegal_coreIssue s op 0x03 op.dst true _ hready hform hring hdst⟩

end Sys2Proof.Machine

/-! ## Keyed register writes (R5, R7, R9, R35, R571) -/

namespace Sys2Proof.Machine

open Reg

/-- R9, R571: a keyed write to a register slot with a field among the written bits, in a domain that is up, is
judged by the unit's chapter. The ring block is closed to a WRREG alone. -/
theorem State.registerWrite_up (s : State) (w : Writer) (off v m : Nat) (hblock : off / 0x1000 ≠ 2)
    (hfields : ((slotFields off).filter fun fa => fa.field.mask m != 0).isEmpty = false)
    (hup : s.domainUp off = true) :
    s.registerWrite w off v m = s.unitWrite w off (mergeWord (s.readRegister off) v m) m := by
  simp [State.registerWrite, hblock, hfields, hup]

/-- R7, R571: the same write while the domain is down is refused. -/
theorem State.registerWrite_down (s : State) (w : Writer) (off v m : Nat)
    (hfields : ((slotFields off).filter fun fa => fa.field.mask m != 0).isEmpty = false)
    (hdown : s.domainUp off = false) : s.registerWrite w off v m = none := by
  simp [State.registerWrite, hfields, hdown]

/-- R9: a plain write to a slot whose fields are all read-only is refused. -/
theorem State.plainWrite_readOnly (s : State) (w : Writer) (off v m : Nat)
    (hfields : ((slotFields off).filter fun fa => fa.field.mask m != 0).isEmpty = false)
    (hro : ∀ fa ∈ slotFields off, fa.acc = .ro) : s.plainWrite w off v m = none := by
  have hnone : (((slotFields off).filter fun fa => fa.field.mask m != 0).filter fun fa =>
      s.mayWrite w off fa.acc) = [] := by
    refine List.filter_eq_nil_iff.mpr fun fa hfa => ?_
    simp [hro fa (List.mem_of_mem_filter hfa), State.mayWrite]
  simp only [State.plainWrite, hfields, hnone]
  simp

/-- R103: under the whole mask a written word replaces the old one. -/
theorem mergeWord_whole (old v : Nat) (hv : v < 2 ^ 24) : mergeWord old v wordMask = v := by
  have hv' : v &&& (2 ^ 24 - 1) = v := by rw [Nat.and_two_pow_sub_one_eq_mod, Nat.mod_eq_of_lt hv]
  simp only [mergeWord, wordMask, hv']
  simp

/-- R35: a W1C bit written with 1 clears. -/
theorem FieldAcc.get_write_w1c (fa : FieldAcc) (v m : Nat) (s : State) (hacc : fa.acc = .w1c)
    (hwidth : fa.field.width = 1) (hone : fa.field.mask (v &&& m) = 1) : (fa.write v m s).get fa.field = 0 := by
  simp only [FieldAcc.write, hacc, State.get_set_same, hwidth, hone, Nat.and_one_is_mod]
  omega

/-- R9: a keyed register write by `w` to a slot of the register blocks. -/
theorem registerWriteBy_register (s : State) (w : Writer) (off v : Nat) (hoff : off < 0x14000) (halign : off % 4 = 0) :
    registerWriteBy w off v s = s.orViolate w off (s.registerWrite w off (v % 2 ^ 24) wordMask) := by
  have hslot : off % 0x100000 / 4 * 4 = off := by omega
  simp only [registerWriteBy, hslot, State.writeSlot, hoff, if_true]

/-- R58: between TK_RATE and TK_STARVE the tick unit's slots take plain writes. -/
theorem State.unitWrite_tick (s : State) (w : Writer) {off v m : Nat} (hlo : 0x1000 < off) (hhi : off < 0x102C) :
    s.unitWrite w off v m = s.plainWrite w off v m := by
  have hblock : off / 0x1000 = 1 := by omega
  have hslot : 0x1000 + off % 0x1000 = off := by omega
  have hrate : off % 0x1000 ≠ 0x000 := by omega
  have hstarve : off % 0x1000 ≠ 0x02C := by omega
  have hshare : ¬ (0x040 ≤ off % 0x1000 ∧ off % 0x1000 < 0x080) := by omega
  simp only [State.unitWrite, hblock, tkWrite, if_neg hrate, if_neg hstarve, if_neg hshare, hslot]

/-! ### TK_CYCLES and TK_STATUS (R7, R9, R44, R46) -/

theorem slotFields_tkCycles : slotFields 0x1004 = [⟨TK_CYCLES.CYCLES, .ro, true⟩] := (rfl)

/-- R7, R9: a write of TK_CYCLES, which is read-only, is ignored and counted, its domain up or down. -/
theorem registerWriteBy_tkCycles (s : State) (w : Writer) (v : Nat) :
    registerWriteBy w 0x1004 v s = s.violate (writerViolation w 0x1004) := by
  have hfields : ((slotFields 0x1004).filter fun fa => fa.field.mask wordMask != 0).isEmpty = false := by decide
  have hnone : s.registerWrite w 0x1004 (v % 2 ^ 24) wordMask = none := by
    cases hup : s.domainUp 0x1004 with
    | false => exact s.registerWrite_down w 0x1004 (v % 2 ^ 24) wordMask hfields hup
    | true =>
        rw [s.registerWrite_up w 0x1004 (v % 2 ^ 24) wordMask (by decide) hfields hup,
          State.unitWrite_tick s w (by decide) (by decide)]
        exact s.plainWrite_readOnly w 0x1004 _ wordMask hfields (by simp [slotFields_tkCycles])
  rw [registerWriteBy_register s w 0x1004 v (by decide) (by decide), hnone, State.orViolate_none]

/-- The two W1C fields of TK_STATUS. -/
def tkOverrun : FieldAcc := ⟨TK_STATUS.OVERRUN, .w1c, false⟩
def tkStepped : FieldAcc := ⟨TK_STATUS.STEPPED, .w1c, false⟩

theorem slotFields_tkStatus : slotFields 0x101C = [tkOverrun, tkStepped, ⟨TK_STATUS.RATE_PEND, .ro, false⟩] := (rfl)

/-- R35: OVERRUN and STEPPED written with 1. -/
def State.ackTick (s : State) : State := tkStepped.write 6 wordMask (tkOverrun.write 6 wordMask s)

/-- R9, R35: of the fields of TK_STATUS the two W1C ones take the write. -/
theorem State.plainWrite_tkStatus (s : State) : s.plainWrite .host 0x101C 6 wordMask = some s.ackTick := by
  simp only [State.plainWrite, slotFields_tkStatus]
  rfl

theorem registerWriteBy_tkStatus (s : State) (h : s.coreUp = true) : registerWriteBy .host 0x101C 6 s = s.ackTick := by
  have hfields : ((slotFields 0x101C).filter fun fa => fa.field.mask wordMask != 0).isEmpty = false := by decide
  have hsome : s.registerWrite .host 0x101C 6 wordMask = some s.ackTick := by
    rw [s.registerWrite_up .host 0x101C 6 wordMask (by decide) hfields (s.domainUp_core _ h),
      mergeWord_whole _ 6 (by decide), State.unitWrite_tick s .host (by decide) (by decide)]
    exact s.plainWrite_tkStatus
  rw [registerWriteBy_register s .host 0x101C 6 (by decide) (by decide)]
  exact congrArg (s.orViolate .host 0x101C) hsome

theorem State.flags_ackTick (s : State) :
    s.ackTick.flag TK_STATUS.OVERRUN = false ∧ s.ackTick.flag TK_STATUS.STEPPED = false := by
  have hover : (tkOverrun.write 6 wordMask s).get TK_STATUS.OVERRUN = 0 :=
    FieldAcc.get_write_w1c tkOverrun 6 wordMask s rfl rfl (by decide)
  have hkept : s.ackTick.get TK_STATUS.OVERRUN = (tkOverrun.write 6 wordMask s).get TK_STATUS.OVERRUN :=
    State.get_set_ne _ _ (by decide)
  have hstep : s.ackTick.get TK_STATUS.STEPPED = 0 :=
    FieldAcc.get_write_w1c tkStepped 6 wordMask _ rfl rfl (by decide)
  simp [State.flag, hkept, hover, hstep]

end Sys2Proof.Machine

/-! ## The violation registers and the program store (R10, R114) -/

namespace Sys2Proof

/-- A filter that keeps no entry at a key unlists the key. -/
theorem sparseFind_filter_none {α : Type} {k : Nat} {p : Nat × α → Bool} (l : Sparse α)
    (h : ∀ v, p (k, v) = false) : sparseFind k (l.filter p) = none := by
  induction l with
  | nil => rfl
  | cons e l ih =>
      obtain ⟨k', v⟩ := e
      by_cases hp : p (k', v) = true
      · have hk : k ≠ k' := by
          rintro rfl
          simp [h v] at hp
        rw [List.filter_cons_of_pos hp, sparseFind, if_neg hk, ih]
      · rw [List.filter_cons_of_neg hp, ih]

end Sys2Proof

namespace Sys2Proof.Machine

open Reg

/-- R10: a write of SY_VIOLCLR by the host or the side-band clears both registers, the core domain up or down. -/
theorem State.rowWrite_violclr (s : State) (w : Writer) (h : w = .host ∨ w = .sideBand) :
    s.rowWrite w 0x28 (violclrWrite w 1 s) = (s.set SY_VIOLATIONS.COUNT 0).set SY_LASTVIOL.LAST 0 := by
  have hup : s.domainUp 0x28 = true := by simp [State.domainUp, alwaysOn]
  have hsome : violclrWrite w 1 s = some ((s.set SY_VIOLATIONS.COUNT 0).set SY_LASTVIOL.LAST 0) := by
    rcases h with rfl | rfl <;> rfl
  rw [State.rowWrite_up _ _ _ hup, hsome, State.orViolate_some]

theorem violationClear_results (s : State) {w : Writer} (h : w = .host ∨ w = .sideBand) :
    let t := s.rowWrite w 0x28 (violclrWrite w 1 s)
    t.get SY_VIOLATIONS.COUNT = 0 ∧ t.get SY_LASTVIOL.LAST = 0 := by
  have hne : SY_VIOLATIONS.COUNT.key ≠ SY_LASTVIOL.LAST.key := by decide
  rw [s.rowWrite_violclr w h]
  constructor
  · rw [State.get_set_ne _ _ hne, State.get_set_same, Nat.zero_mod]
  · rw [State.get_set_same, Nat.zero_mod]

/-- A register of the system block below the rings' contexts is no register of an event. -/
theorem not_eventField_system {g : Field} (hlo : g.lo < 32) (hoff : g.off < 0x300) : ¬ eventField g := by
  simp only [eventField, Field.key, TM_EVSEQ.SEQ, TM_LOGLOST.COUNT, TM_LOGOLD.SLOT, TM_STATUS.LOGSTOP,
    QU_EVPEND.UNIT, SY_CTX.G, SY_FLAGS.T]
  omega

/-- R114: what a write of SY_PGFREE that names a valid, unbound program does before it raises PROG_FREED: the
descriptor is no longer valid, the space counts as free, and no word of the program is listed. -/
theorem pgfreeWrite_host (s : State) {k : Nat} (hk : k < 32) (hvalid : s.flag (SY_PG_A.VALID k) = true)
    (hbound : s.flag (SY_PG_A.BOUND k) = false) :
    ∃ u : State,
      pgfreeWrite .host k s = some (u.raise 0x002 k (s.get (SY_PG_A.ADDR k)) (s.get (SY_PG_B.LEN k))) ∧
      u.get (SY_PG_A.VALID k) = 0 ∧
      u.get SY_PGSPACE.FREE = (s.get SY_PGSPACE.FREE + s.get (SY_PG_B.LEN k)) % 2 ^ 15 ∧
      u.store = s.store.filter fun e => !(decide (s.get (SY_PG_A.ADDR k) ≤ e.1) &&
        decide (e.1 < s.get (SY_PG_A.ADDR k) + s.get (SY_PG_B.LEN k))) := by
  refine ⟨_, if_pos ⟨rfl, hk, hvalid, hbound⟩, ?_, ?_, rfl⟩
  all_goals
    simp (disch := (simp only [Field.key, SY_PG_A.VALID, SY_PG_A.RING, SY_PG_A.ADDR, SY_PG_B.LEN, SY_PG_C.WCOST,
      SY_PG_D.POSTS, SY_PGSPACE.FREE]; omega)) only [State.get_set_ne, State.get_set_same]
  · exact Nat.zero_mod _
  · rfl

/-- R114: a write of SY_PGFREE that names a valid, unbound program frees its descriptor, its space and its words. -/
theorem programFree_results (s : State) {k : Nat} (hk : k < 32) (hup : s.coreUp = true)
    (hvalid : s.flag (SY_PG_A.VALID k) = true) (hbound : s.flag (SY_PG_A.BOUND k) = false) :
    let t := s.rowWrite .host 0x40 (pgfreeWrite .host k s)
    t.flag (SY_PG_A.VALID k) = false ∧
      t.get SY_PGSPACE.FREE = (s.get SY_PGSPACE.FREE + s.get (SY_PG_B.LEN k)) % 2 ^ 15 ∧
      ∀ a, s.get (SY_PG_A.ADDR k) ≤ a → a < s.get (SY_PG_A.ADDR k) + s.get (SY_PG_B.LEN k) →
        (sparseFind a t.store).getD 0 = 0 := by
  obtain ⟨u, hwrite, hu, hfree, hstore⟩ := pgfreeWrite_host s hk hvalid hbound
  have hv : ¬ eventField (SY_PG_A.VALID k) :=
    not_eventField_system (by simp only [SY_PG_A.VALID]; omega) (by simp only [SY_PG_A.VALID]; omega)
  rw [State.rowWrite_up _ _ _ (s.domainUp_core _ hup), hwrite, State.orViolate_some]
  refine ⟨?_, ?_, fun a hlo hhi => ?_⟩
  · simp [State.flag, State.get_raise hv, hu]
  · rw [State.get_raise (not_eventField_system (by decide) (by decide)), hfree]
  · rw [(SameUnits.raise u _ _ _ _).store, hstore, sparseFind_filter_none _ (by simp [hlo, hhi]), Option.getD_none]

/-- Settles O20: each write is the effect of its row, and a refused one is the violation. -/
theorem systemWriteResults : Obligations.SystemWriteResults := by
  intro s w
  refine ⟨fun hup => ?_, fun v hcount => ?_, fun hw => ?_, fun k hk hup hvalid hbound => ?_⟩
  · have hwrite : registerWriteBy .host 0x101C (6 : Word).toNat s = s.ackTick := registerWriteBy_tkStatus s hup
    refine ⟨_, rfl, ?_⟩
    rw [hwrite]
    exact s.flags_ackTick
  · refine ⟨_, rfl, ?_⟩
    rw [registerWriteBy_tkCycles]
    exact ⟨State.get_violate_ne s _ (by decide) (by decide), State.count_violate_succ s _ hcount,
      State.lastviol_violate s _⟩
  · exact ⟨_, rfl, violationClear_results s hw⟩
  · exact ⟨_, rfl, programFree_results s hk hup hvalid hbound⟩

end Sys2Proof.Machine

/-! ## Writes of the time block (R325, R328, R330, R332, R335) -/

namespace Sys2Proof.Machine

open Reg

/-- R571: the registers of Wellhead stay writable while the core domain is down, but for the log's. -/
theorem State.domainUp_time (s : State) {off : Nat} (hlo : 0xA000 ≤ off) (hhi : off < 0xA100) :
    s.domainUp off = true := by
  have h7 : 0x7000 ≤ off := by omega
  simp [State.domainUp, alwaysOn, h7, hhi]

theorem State.domainUp_log (s : State) {off : Nat} (hlo : 0xA100 ≤ off) (hhi : off < 0xA400) :
    s.domainUp off = s.coreUp := by
  have h1 : ¬ off < 0x40 := by omega
  have h2 : ¬ off < 0xA100 := by omega
  have h3 : ¬ 0xA400 ≤ off := by omega
  have h4 : ¬ 0x11040 ≤ off := by omega
  have h5 : ¬ 0x13000 ≤ off := by omega
  simp [State.domainUp, alwaysOn, h1, h2, h3, h4, h5]

/-- R35: the host and every ring write the RWM fields of the time block. -/
theorem State.mayWrite_time (s : State) {w : Writer} {off : Nat} (hw : w ≠ .sideBand) (hoff : 0xA000 ≤ off) :
    s.mayWrite w off .rwm = true := by
  have hring15 : ring15Field off = false := by
    simp only [ring15Field, List.contains_eq_mem, List.mem_cons, List.not_mem_nil, or_false, Bool.decide_or,
      Bool.or_eq_false_iff, decide_eq_false_iff_not]
    omega
  cases w with
  | host => simp [State.mayWrite, State.mayRwm, hring15]
  | ring r => rfl
  | sideBand => exact absurd rfl hw

/-! ### SNAP (R330) -/

theorem timeSnapshot_results (s : State) :
    let t := s.rowWrite .sideBand 0xA0B0 (snapWrite .sideBand s)
    t.get (TM_SNAP.STAMP 0) = stampWord0 s.now ∧ t.get (TM_SNAP.STAMP 2) = stampWord2 s.now s.qual % 2 ^ 24 := by
  have h02 : (TM_SNAP.STAMP 0).key ≠ (TM_SNAP.STAMP 2).key := by decide
  have h01 : (TM_SNAP.STAMP 0).key ≠ (TM_SNAP.STAMP 1).key := by decide
  rw [State.rowWrite_up _ _ _ (s.domainUp_time (by decide) (by decide)), snapWrite, if_pos rfl, State.orViolate_some]
  constructor
  · rw [State.get_set_ne _ _ h02, State.get_set_ne _ _ h01, State.get_set_same]
    exact Nat.mod_mod _ _
  · exact State.get_set_same _ _ _

theorem snapWrite_refused (s : State) {w : Writer} (hw : w ≠ .sideBand) : snapWrite w s = none := if_neg hw

/-! ### The event log (R332) -/

theorem log_logrelWrite (s : State) (w : Writer) (seq : Nat) (hstop : s.flag TM_LOGCFG.STOP = true) :
    ∃ t, logrelWrite w seq s = some t ∧ t.log = releaseTo seq s.log := by
  refine ⟨_, if_pos hstop, ?_⟩
  unfold State.when
  split
  · simp only [State.setFlag_eq, State.set_log]
  · simp only [State.set_log]

theorem logrelWrite_refused (s : State) (w : Writer) (seq : Nat) (hstop : s.flag TM_LOGCFG.STOP = false) :
    logrelWrite w seq s = none := by
  simp [logrelWrite, hstop]

theorem flag_set_boolNat (s : State) {f : Field} (hwidth : f.width = 1) (b : Bool) :
    (s.set f (boolNat b)).flag f = b := by
  cases b <;> simp [State.flag, boolNat, hwidth]

theorem flags_logPolicyWrite (s : State) {w : Writer} (hw : w ≠ .sideBand) (stop : Bool) :
    ∃ t, logPolicyWrite w stop s = some t ∧ t.flag TM_LOGCFG.STOP = stop ∧
      (stop = false → t.flag TM_STATUS.LOGSTOP = false) := by
  have hne : TM_LOGCFG.STOP.key ≠ TM_STATUS.LOGSTOP.key := by decide
  refine ⟨_, if_pos (s.mayWrite_time hw (by decide)), ?_⟩
  cases stop with
  | true => exact ⟨flag_set_boolNat s rfl true, nofun⟩
  | false =>
      refine ⟨?_, fun _ => flag_set_boolNat _ rfl false⟩
      rw [Bool.not_false, State.when_true, State.setFlag_eq, State.setFlag_eq, State.flag, State.get_set_ne _ _ hne]
      exact flag_set_boolNat s rfl false

/-! ### FORGET (R325) -/

/-- What every step of a fold keeps and the step of one member brings about, the fold brings about. -/
theorem foldl_reaches {α β : Type} (p : β → Prop) (f : β → α → β) (keeps : ∀ b a, p b → p (f b a)) {a : α}
    (reached : ∀ b, p (f b a)) (l : List α) (ha : a ∈ l) (b : β) : p (l.foldl f b) := by
  induction l generalizing b with
  | nil => exact absurd ha List.not_mem_nil
  | cons x l ih =>
      rcases List.mem_cons.mp ha with rfl | ha
      · exact foldl_keeps p f keeps l _ (reached b)
      · exact ih ha _

/-- R325: one bin of the holdover table is empty. -/
def State.binEmpty (k : Nat) (s : State) : Prop := s.get (TM_TBIN.F k) = 0 ∧ s.get (TM_TBINN.N k) = 0

/-- R325: FORGET's step for one bin. -/
def State.clearBin (s : State) (k : Nat) : State := (s.set (TM_TBIN.F k) 0).set (TM_TBINN.N k) 0

theorem State.binEmpty_clearBin (s : State) (k : Nat) : (s.clearBin k).binEmpty k := by
  have hne : (TM_TBIN.F k).key ≠ (TM_TBINN.N k).key := by
    simp only [Field.key, TM_TBIN.F, TM_TBINN.N]
    omega
  constructor
  · rw [State.clearBin, State.get_set_ne _ _ hne, State.get_set_same, Nat.zero_mod]
  · rw [State.clearBin, State.get_set_same, Nat.zero_mod]

theorem State.binEmpty.clearBin {s : State} {k : Nat} (h : s.binEmpty k) (j : Nat) : (s.clearBin j).binEmpty k := by
  rcases eq_or_ne k j with rfl | hkj
  · exact s.binEmpty_clearBin k
  · obtain ⟨hf, hn⟩ := h
    constructor
    · rw [State.clearBin, State.get_set_ne, State.get_set_ne, hf] <;>
        simp only [Field.key, TM_TBIN.F, TM_TBINN.N] <;> omega
    · rw [State.clearBin, State.get_set_ne, State.get_set_ne, hn] <;>
        simp only [Field.key, TM_TBIN.F, TM_TBINN.N] <;> omega

/-- R325: FORGET empties each of the 64 bins. -/
theorem State.binEmpty_forgetBins (s : State) {k : Nat} (hk : k < 64) : s.forgetBins.binEmpty k := by
  have hf : (TM_TBIN.F k).key ≠ TM_STATUS.LEARNED.key := by
    simp only [Field.key, TM_TBIN.F, TM_STATUS.LEARNED]
    omega
  have hn : (TM_TBINN.N k).key ≠ TM_STATUS.LEARNED.key := by
    simp only [Field.key, TM_TBINN.N, TM_STATUS.LEARNED]
    omega
  have hfold : ((List.range 64).foldl State.clearBin s).binEmpty k :=
    foldl_reaches (State.binEmpty k) State.clearBin (fun _ j h => h.clearBin j) (fun t => t.binEmpty_clearBin k) _
      (List.mem_range.mpr hk) s
  obtain ⟨hfz, hnz⟩ := hfold
  exact ⟨(State.get_set_ne _ _ hf).trans hfz, (State.get_set_ne _ _ hn).trans hnz⟩

theorem forgetWrite_allowed (s : State) {w : Writer} (hw : w ≠ .sideBand) : forgetWrite w s = some s.forgetBins :=
  if_pos (s.mayWrite_time hw (by decide))

/-! ### Leap seconds (R328) -/

/-- No register of a leap is one of an event. -/
theorem leap_not_eventField :
    ¬ eventField TM_LEAP.PEND ∧ ¬ eventField TM_LEAP.SETTER ∧ ¬ eventField TM_LEAPATH.AT ∧
      ¬ eventField TM_LEAPATL.AT := by
  simp only [eventField, Field.key, TM_EVSEQ.SEQ, TM_LOGLOST.COUNT, TM_LOGOLD.SLOT, TM_STATUS.LOGSTOP,
    QU_EVPEND.UNIT, SY_CTX.G, SY_FLAGS.T, TM_LEAP.PEND, TM_LEAP.SETTER, TM_LEAPATH.AT, TM_LEAPATL.AT]
  omega

theorem leapWrite_clear (s : State) {w : Writer} (hw : w ≠ .sideBand) (at_ : Nat) :
    ∃ t, leapWrite w 0 at_ s = some t ∧ t.get TM_LEAP.PEND = 0 := by
  have hne : TM_LEAP.PEND.key ≠ TM_LEAP.SETTER.key := by decide
  refine ⟨_, if_pos (s.mayWrite_time hw (by decide)), ?_⟩
  rw [State.get_raise leap_not_eventField.1, State.get_set_ne _ _ hne, State.get_set_same, Nat.zero_mod]

/-- R328: of the registers that are no event's, setting a leap writes the four of the leap. -/
theorem State.get_setLeap {g : Field} (s : State) (pend at_ setter : Nat) (hg : ¬ eventField g) :
    (s.setLeap pend at_ setter).get g =
      ((((s.set TM_LEAP.PEND pend).set TM_LEAP.SETTER setter).set TM_LEAPATH.AT (at_ / 2 ^ 24)).set
        TM_LEAPATL.AT at_).get g :=
  State.get_raise hg _ _ _ _ _

/-- R328: what a pending leap shows. -/
theorem State.setLeap_results (s : State) {pend at_ setter : Nat} (hpend : pend < 4) (hat : at_ < 2 ^ 40)
    (hset : setter < 4) :
    (s.setLeap pend at_ setter).get TM_LEAP.PEND = pend ∧ (s.setLeap pend at_ setter).leapAt = at_ ∧
      (s.setLeap pend at_ setter).get TM_LEAP.SETTER = setter := by
  obtain ⟨hp, hs, hh, hl⟩ := leap_not_eventField
  refine ⟨?_, ?_, ?_⟩
  · rw [State.get_setLeap _ _ _ _ hp]
    simp (disch := decide) only [State.get_set_ne, State.get_set_same]
    exact Nat.mod_eq_of_lt hpend
  · have hhigh : (s.setLeap pend at_ setter).get TM_LEAPATH.AT = at_ / 2 ^ 24 % 2 ^ 16 := by
      rw [State.get_setLeap _ _ _ _ hh]
      simp (disch := decide) only [State.get_set_ne]
      exact State.get_set_same _ _ _
    have hlow : (s.setLeap pend at_ setter).get TM_LEAPATL.AT = at_ % 2 ^ 24 := by
      rw [State.get_setLeap _ _ _ _ hl]
      exact State.get_set_same _ _ _
    rw [State.leapAt, hhigh, hlow]
    omega
  · rw [State.get_setLeap _ _ _ _ hs]
    simp (disch := decide) only [State.get_set_ne, State.get_set_same]
    exact Nat.mod_eq_of_lt hset

/-- R328, R335: a leap of either sign, at least two seconds ahead, becomes pending. -/
theorem leapWrite_sets (s : State) {w : Writer} {pend at_ : Nat} (hw : w ≠ .sideBand) (hpend : pend = 1 ∨ pend = 2)
    (hat : s.now + 2 * oneSecond ≤ at_ * oneSecond) :
    leapWrite w pend at_ s = some (s.setLeap pend (at_ % 2 ^ 40) 1) := by
  have hne : pend ≠ 0 := by omega
  have hle : pend ≤ 2 := by omega
  rw [leapWrite, if_pos (s.mayWrite_time hw (by decide)), if_neg hne, if_pos ⟨hle, hat⟩]

/-- R328, R335: any other leap is refused, whoever writes it. -/
theorem leapWrite_refused (s : State) (w : Writer) {pend at_ : Nat} (hpend : pend ≠ 0)
    (hat : at_ * oneSecond < s.now + 2 * oneSecond) : leapWrite w pend at_ s = none := by
  simp [leapWrite, hpend, Nat.not_le.mpr hat]

/-! ### The time block's rows -/

/-- R571: a row of the time block whose write is accepted has its effect; one that is refused is a violation. -/
theorem State.rowWrite_time (s t : State) (w : Writer) {off : Nat} {r : Option State} (hlo : 0xA000 ≤ off)
    (hhi : off < 0xA100) (h : r = some t) : s.rowWrite w off r = t := by
  rw [State.rowWrite_up _ _ _ (s.domainUp_time hlo hhi), h, State.orViolate_some]

theorem State.rowWrite_core (s t : State) (w : Writer) {off : Nat} {r : Option State} (hup : s.coreUp = true)
    (h : r = some t) : s.rowWrite w off r = t := by
  rw [State.rowWrite_up _ _ _ (s.domainUp_core _ hup), h, State.orViolate_some]

theorem State.rowWrite_refused (s : State) (w : Writer) (off : Nat) {r : Option State} (h : r = none) :
    s.rowWrite w off r = s.violate (writerViolation w off) := by
  simp [State.rowWrite, h]

/-- R332: a release with the core domain down, or with STOP 0, is a violation. -/
theorem rowWrite_logrel_refused (s : State) (w : Writer) (seq : Nat)
    (h : s.coreUp = false ∨ s.flag TM_LOGCFG.STOP = false) :
    s.rowWrite w 0xA214 (logrelWrite w seq s) = s.violate (writerViolation w 0xA214) := by
  rcases h with hdown | hstop
  · exact State.rowWrite_down _ _ _ ((s.domainUp_log (by decide) (by decide)).trans hdown)
  · exact s.rowWrite_refused w _ (logrelWrite_refused s w seq hstop)

/-- Settles O44: each row is the effect of an accepted write, or the violation of a refused one. -/
theorem timeWriteResults : Obligations.TimeWriteResults := by
  intro s w
  refine ⟨⟨_, rfl, timeSnapshot_results s⟩,
    fun hw => ⟨_, rfl, s.rowWrite_refused w _ (snapWrite_refused s hw)⟩, fun seq hup hstop => ?_,
    fun seq h => ⟨_, rfl, rowWrite_logrel_refused s w seq h⟩,
    fun hw => ⟨fun stop hup => ?_, ?_, fun at_ => ?_, fun pend at_ hpend hat => ?_, fun pend at_ hpend hat => ?_⟩⟩
  · obtain ⟨t, hwrite, hlog⟩ := log_logrelWrite s w seq hstop
    refine ⟨_, rfl, ?_⟩
    rw [s.rowWrite_core t w hup hwrite]
    exact hlog
  · obtain ⟨t, hwrite, hflags⟩ := flags_logPolicyWrite s hw stop
    refine ⟨_, rfl, ?_⟩
    rw [s.rowWrite_core t w hup hwrite]
    exact hflags
  · refine ⟨_, rfl, fun k hk => ?_⟩
    rw [s.rowWrite_time _ w (off := 0xA004) (by decide) (by decide) (forgetWrite_allowed s hw)]
    exact s.binEmpty_forgetBins hk
  · obtain ⟨t, hwrite, hpend⟩ := leapWrite_clear s hw at_
    refine ⟨_, rfl, ?_⟩
    rw [s.rowWrite_time t w (off := 0xA06C) (by decide) (by decide) hwrite]
    exact hpend
  · refine ⟨_, rfl, ?_⟩
    rw [s.rowWrite_time _ w (off := 0xA06C) (by decide) (by decide) (leapWrite_sets s hw hpend hat)]
    exact s.setLeap_results (by omega) (Nat.mod_lt _ (by decide)) (by decide)
  · exact ⟨_, rfl, s.rowWrite_refused w _ (leapWrite_refused s w hpend hat)⟩

end Sys2Proof.Machine

/-! ## The canonical form of the memories (R22, R34, R118, R119) -/

namespace Sys2Proof

variable {α : Type} [DecidableEq α]

/-- The canonical form asks of the unlisted values only what they are at the listed keys. -/
theorem sparseWf_congr {d d' : Nat → α} {l : Sparse α} (hd : ∀ e ∈ l, d e.1 = d' e.1) (h : sparseWf d l = true) :
    sparseWf d' l = true := by
  induction l with
  | nil => rfl
  | cons e l ih =>
      obtain ⟨k, v⟩ := e
      obtain ⟨hne, hkeys, hl⟩ := (sparseWf_cons d k v l).mp h
      have hk : d k = d' k := hd _ (List.mem_cons_self ..)
      exact (sparseWf_cons d' k v l).mpr ⟨hk ▸ hne, hkeys, ih (fun e he => hd e (List.mem_cons_of_mem _ he)) hl⟩

omit [DecidableEq α] in
theorem map_some_sparsePut (k : Nat) (v : α) (l : Sparse α) :
    (sparsePut k v l).map (fun c => (c.1, some c.2)) = sparsePut k (some v) (l.map fun c => (c.1, some c.2)) := by
  induction l with
  | nil => rfl
  | cons e l ih =>
      simp only [sparsePut, List.map_cons]
      split
      · rfl
      · split
        · rfl
        · rw [List.map_cons, ih]

omit [DecidableEq α] in
theorem map_some_sparseDrop (k : Nat) (l : Sparse α) :
    (sparseDrop k l).map (fun c => (c.1, some c.2)) = sparseDrop k (l.map fun c => (c.1, some c.2)) := by
  induction l with
  | nil => rfl
  | cons e l ih =>
      simp only [sparseDrop, List.map_cons]
      split
      · exact ih
      · rw [List.map_cons, ih]

end Sys2Proof

namespace Sys2Proof.Machine

/-! ### An image (R119, R125) -/

/-- What an unlisted byte of an image must not be listed as, where that is fixed. -/
def Image.knownByte (m : Image) (a : Nat) : Option Byte := if m.zeroByDefault a then some 0 else none

theorem Image.wf_iff (m : Image) :
    m.wf = true ↔ sparseWf m.knownByte (m.cells.map fun c => (c.1, some c.2)) = true ∧
      sparseWf m.knownCheck (m.checks.map fun c => (c.1, some c.2)) = true := by
  simp only [Image.wf, Bool.and_eq_true]
  rfl

/-- R119: a written byte keeps the canonical form. -/
theorem Image.wf_write {m : Image} (a v : Nat) (h : m.wf = true) : (m.write a v).wf = true := by
  obtain ⟨hcells, hchecks⟩ := m.wf_iff.mp h
  unfold Image.write
  split
  · refine (Image.wf_iff _).mpr ⟨?_, hchecks⟩
    rw [map_some_sparseDrop]
    exact sparseWf_drop _ hcells
  · next hv =>
    have hne : some (BitVec.ofNat 8 v) ≠ m.knownByte a := by
      unfold Image.knownByte
      split
      · next hzero =>
        intro heq
        have hbyte : v % 2 ^ 8 = 0 := congrArg BitVec.toNat (Option.some.inj heq)
        exact hv ⟨hbyte, hzero⟩
      · exact Option.some_ne_none _
    refine (Image.wf_iff _).mpr ⟨?_, hchecks⟩
    rw [map_some_sparsePut]
    exact sparseWf_put _ hne hcells

theorem Image.wf_writes : ∀ (l : List (Nat × Nat)) {m : Image}, m.wf = true → (m.writes l).wf = true
  | [], _, h => h
  | (a, v) :: l, _, h => Image.wf_writes l (Image.wf_write a v h)

/-- R119, R125: a written check byte keeps the canonical form. -/
theorem Image.wf_writeCheck {m : Image} (b v : Nat) (h : m.wf = true) : (m.writeCheck b v).wf = true := by
  obtain ⟨hcells, hchecks⟩ := m.wf_iff.mp h
  unfold Image.writeCheck
  split
  · refine (Image.wf_iff _).mpr ⟨hcells, ?_⟩
    rw [map_some_sparseDrop]
    exact sparseWf_drop _ hchecks
  · next hv =>
    refine (Image.wf_iff _).mpr ⟨hcells, ?_⟩
    rw [map_some_sparsePut]
    exact sparseWf_put _ (Ne.symm hv) hchecks

/-- R125: outside a fill the newest fill is the one it was. -/
theorem Image.fillAt_fill (m : Image) {f : Fill} {a : Nat} (ha : f.covers a = false) :
    (m.fill f).fillAt a = m.fillAt a := by
  have hinside (g : Fill) (hg : g.covers a = true) :
      (!(decide (f.first ≤ g.first) && decide (g.first + g.len ≤ f.first + f.len))) = true := by
    simp only [Fill.covers, Bool.and_eq_true, decide_eq_true_eq, Bool.and_eq_false_iff, decide_eq_false_iff_not,
      Bool.not_eq_true', Bool.and_eq_false_iff] at ha hg ⊢
    omega
  simp only [Image.fillAt, Image.fill, List.find?_cons, ha, List.find?_filter]
  congr 1
  funext g
  cases hg : g.covers a with
  | false => simp
  | true => simpa using hinside g hg

theorem Image.knownByte_fill (m : Image) {f : Fill} {a : Nat} (ha : f.covers a = false) :
    (m.fill f).knownByte a = m.knownByte a := by
  have hzero : (m.fill f).zeroByDefault a = m.zeroByDefault a := by
    rw [Image.zeroByDefault, Image.zeroByDefault, m.fillAt_fill ha]
  rw [Image.knownByte, Image.knownByte, hzero]

theorem Image.knownCheck_fill (m : Image) {f : Fill} {b : Nat} (hb : f.covers (8 * b) = false) :
    (m.fill f).knownCheck b = m.knownCheck b := by
  rw [Image.knownCheck, Image.knownCheck, m.fillAt_fill hb]

/-- R125, R136: a fill keeps the canonical form: it unlists what it covers and changes no default beside it. -/
theorem Image.wf_fill {m : Image} (f : Fill) (h : m.wf = true) : (m.fill f).wf = true := by
  obtain ⟨hcells, hchecks⟩ := m.wf_iff.mp h
  refine (Image.wf_iff _).mpr ⟨?_, ?_⟩
  · have hfilter : ((m.fill f).cells.map fun c => (c.1, some c.2)) =
        (m.cells.map fun c => (c.1, some c.2)).filter fun c => !f.covers c.1 := by
      rw [List.filter_map]
      rfl
    rw [hfilter]
    refine sparseWf_congr (fun e he => ?_) (sparseWf_filter _ _ hcells)
    exact (m.knownByte_fill (by simpa using (List.mem_filter.mp he).2)).symm
  · have hfilter : ((m.fill f).checks.map fun c => (c.1, some c.2)) =
        (m.checks.map fun c => (c.1, some c.2)).filter fun c => !f.covers (8 * c.1) := by
      rw [List.filter_map]
      rfl
    rw [hfilter]
    refine sparseWf_congr (fun e he => ?_) (sparseWf_filter _ _ hchecks)
    exact (m.knownCheck_fill (by simpa using (List.mem_filter.mp he).2)).symm

/-! ### The state

Below stands one lemma for each function of the model that answers a state, in the order of the model's files: from a
canonical state it answers a canonical one. Only a few functions change a memory (`setSlot`, `pgfreeWrite`,
`loadProgram`, `zeroUnits`, `dramRailStart`, `restoreUnits`, `dramWrite`, `dropCore`, `dropAll`); the proofs of the
others follow the body, call by call: `h` is the state that comes in, `.f h` a call of `f` upon it, `.ite` a branch,
`.withX` an update of field `X`. -/

/-- The slots, the program store and the DRAM with its check bytes are in canonical form. -/
def State.Canonical (s : State) : Prop := Memory.wf s = true

/-- The state that a register write answers, if it is accepted, is canonical. -/
def CanonicalIfSome (o : Option State) : Prop := ∀ t, o = some t → t.Canonical

/-- The next state that a command answers, if it answers one, is canonical. -/
def CanonicalNext (o : Host.Outcome State Fault Refusal) : Prop := ∀ t, o = .next t → t.Canonical

theorem State.canonical_iff (s : State) :
    s.Canonical ↔ sparseWf (fun _ => 0) s.slots = true ∧ sparseWf (fun _ => 0) s.store = true ∧
      s.hp.dram.wf = true := by
  simp only [State.Canonical, Memory.wf, Bool.and_eq_true, and_assoc]

open Reg Host

variable {s : State}

/-- A state with the same memories is canonical too. -/
theorem State.Canonical.congr {t : State} (h : s.Canonical) (hslots : t.slots = s.slots) (hstore : t.store = s.store)
    (hdram : t.hp.dram = s.hp.dram) : t.Canonical := by
  rw [State.canonical_iff] at h ⊢
  rwa [hslots, hstore, hdram]

theorem State.Canonical.withSlots {x : Sparse Nat} (h : s.Canonical) (hx : sparseWf (fun _ => 0) x = true) :
    ({ s with slots := x } : State).Canonical := by
  obtain ⟨-, hstore, hdram⟩ := s.canonical_iff.mp h
  exact (State.canonical_iff _).mpr ⟨hx, hstore, hdram⟩

theorem State.Canonical.withStore {x : Sparse Nat} (h : s.Canonical) (hx : sparseWf (fun _ => 0) x = true) :
    ({ s with store := x } : State).Canonical := by
  obtain ⟨hslots, -, hdram⟩ := s.canonical_iff.mp h
  exact (State.canonical_iff _).mpr ⟨hslots, hx, hdram⟩

theorem State.Canonical.withDram {x : HostPath} (h : s.Canonical) (hx : x.dram.wf = true) :
    ({ s with hp := x } : State).Canonical := by
  obtain ⟨hslots, hstore, -⟩ := s.canonical_iff.mp h
  exact (State.canonical_iff _).mpr ⟨hslots, hstore, hx⟩

theorem State.Canonical.slots (h : s.Canonical) : sparseWf (fun _ => 0) s.slots = true := (s.canonical_iff.mp h).1
theorem State.Canonical.store (h : s.Canonical) : sparseWf (fun _ => 0) s.store = true := (s.canonical_iff.mp h).2.1
theorem State.Canonical.dram (h : s.Canonical) : s.hp.dram.wf = true := (s.canonical_iff.mp h).2.2

/-! ### What holds no memory -/

theorem State.Canonical.withHp {x : HostPath} (h : s.Canonical) (hx : x.dram = s.hp.dram) :
    ({ s with hp := x } : State).Canonical := h.congr rfl rfl hx

theorem State.Canonical.withAe {x : Analytics} (h : s.Canonical) :
    ({ s with ae := x } : State).Canonical := h

theorem State.Canonical.withBatch {x : Option (List (Nat × Nat × Nat × Nat))} (h : s.Canonical) :
    ({ s with batch := x } : State).Canonical := h

theorem State.Canonical.withBt {x : Battery} (h : s.Canonical) :
    ({ s with bt := x } : State).Canonical := h

theorem State.Canonical.withCp {x : List CpJob} (h : s.Canonical) :
    ({ s with cp := x } : State).Canonical := h

theorem State.Canonical.withCycles {x : Nat} (h : s.Canonical) :
    ({ s with cycles := x } : State).Canonical := h

theorem State.Canonical.withFl {x : Flash} (h : s.Canonical) :
    ({ s with fl := x } : State).Canonical := h

theorem State.Canonical.withFp {x : Faceplate} (h : s.Canonical) :
    ({ s with fp := x } : State).Canonical := h

theorem State.Canonical.withFreeCount {x : Nat} (h : s.Canonical) :
    ({ s with freeCount := x } : State).Canonical := h

theorem State.Canonical.withLk {x : Link} (h : s.Canonical) :
    ({ s with lk := x } : State).Canonical := h

theorem State.Canonical.withLog {x : List LogEntry} (h : s.Canonical) :
    ({ s with log := x } : State).Canonical := h

theorem State.Canonical.withMc {x : MemCard} (h : s.Canonical) :
    ({ s with mc := x } : State).Canonical := h

theorem State.Canonical.withMn {x : Monitors} (h : s.Canonical) :
    ({ s with mn := x } : State).Canonical := h

theorem State.Canonical.withPending {x : List Instr} (h : s.Canonical) :
    ({ s with pending := x } : State).Canonical := h

theorem State.Canonical.withPw {x : Power} (h : s.Canonical) :
    ({ s with pw := x } : State).Canonical := h

theorem State.Canonical.withQueues {x : Sparse QueueState} (h : s.Canonical) :
    ({ s with queues := x } : State).Canonical := h

theorem State.Canonical.withRegs {x : Sparse Nat} (h : s.Canonical) :
    ({ s with regs := x } : State).Canonical := h

theorem State.Canonical.withRing15 {x : Ring15State} (h : s.Canonical) :
    ({ s with ring15 := x } : State).Canonical := h

theorem State.Canonical.withRings {x : Sparse RingState} (h : s.Canonical) :
    ({ s with rings := x } : State).Canonical := h

theorem State.Canonical.withSb {x : SideBand} (h : s.Canonical) :
    ({ s with sb := x } : State).Canonical := h

theorem State.Canonical.withSc {x : SmartCard} (h : s.Canonical) :
    ({ s with sc := x } : State).Canonical := h

theorem State.Canonical.withSe {x : Security} (h : s.Canonical) :
    ({ s with se := x } : State).Canonical := h

theorem State.Canonical.withSh {x : Shadow} (h : s.Canonical) :
    ({ s with sh := x } : State).Canonical := h

theorem State.Canonical.withSv {x : SaveUnit} (h : s.Canonical) :
    ({ s with sv := x } : State).Canonical := h

theorem State.Canonical.withTick {x : TickState} (h : s.Canonical) :
    ({ s with tick := x } : State).Canonical := h

theorem State.Canonical.withTm {x : TimeUnit} (h : s.Canonical) :
    ({ s with tm := x } : State).Canonical := h

theorem State.Canonical.withUa {x : Sparse UartPort} (h : s.Canonical) :
    ({ s with ua := x } : State).Canonical := h

/-! ### Branches, folds and results -/

theorem State.Canonical.ite {c : Prop} [Decidable c] {a b : State} (ha : a.Canonical) (hb : b.Canonical) :
    (if c then a else b).Canonical := by
  split
  · exact ha
  · exact hb

theorem State.Canonical.foldl {α : Type} {f : State → α → State} {l : List α} (h : s.Canonical)
    (hf : ∀ {t a}, t.Canonical → (f t a).Canonical) : (l.foldl f s).Canonical :=
  foldl_keeps State.Canonical f (fun _ _ ht => hf ht) l s h

theorem State.Canonical.fst {α : Type} {p : State × α} {a : α} (e : p = (s, a)) (h : p.1.Canonical) : s.Canonical := by
  rwa [e] at h

theorem State.Canonical.ite_fst {α : Type} {c : Prop} [Decidable c] {p q : State × α} (hp : p.1.Canonical)
    (hq : q.1.Canonical) : (if c then p else q).1.Canonical := by
  split
  · exact hp
  · exact hq

theorem State.Canonical.ite_snd {α : Type} {c : Prop} [Decidable c] {p q : α × State} (hp : p.2.Canonical)
    (hq : q.2.Canonical) : (if c then p else q).2.Canonical := by
  split
  · exact hp
  · exact hq

theorem CanonicalIfSome.none : CanonicalIfSome Option.none := by
  rintro t ⟨⟩

theorem CanonicalIfSome.some (h : s.Canonical) : CanonicalIfSome (Option.some s) := by
  rintro t ⟨⟩
  exact h

theorem CanonicalIfSome.ite {c : Prop} [Decidable c] {a b : Option State} (ha : CanonicalIfSome a)
    (hb : CanonicalIfSome b) : CanonicalIfSome (if c then a else b) := by
  split
  · exact ha
  · exact hb

theorem CanonicalIfSome.map {o : Option State} {g : State → State} (ho : CanonicalIfSome o)
    (hg : ∀ {t}, t.Canonical → (g t).Canonical) : CanonicalIfSome (o.map g) := by
  intro t e
  obtain ⟨u, hu, rfl⟩ := Option.map_eq_some_iff.mp e
  exact hg (ho u hu)

theorem State.Canonical.ofSome {o : Option State} (e : o = some s) (h : CanonicalIfSome o) : s.Canonical := h s e

theorem State.Canonical.getD {o : Option State} (ho : CanonicalIfSome o) (h : s.Canonical) : (o.getD s).Canonical := by
  cases o with
  | none => exact h
  | some t => exact ho t rfl

theorem CanonicalNext.next (h : s.Canonical) : CanonicalNext (.next s) := by
  rintro t ⟨⟩
  exact h

theorem CanonicalNext.ite {c : Prop} [Decidable c] {a b : Host.Outcome State Fault Refusal} (ha : CanonicalNext a)
    (hb : CanonicalNext b) : CanonicalNext (if c then a else b) := by
  split
  · exact ha
  · exact hb

theorem CanonicalNext.fault {f : Fault} : CanonicalNext (.fault f) := by
  rintro t ⟨⟩

/-! ### The functions of Ops -/

theorem State.Canonical.set {f : Field} {v : Nat} (h : s.Canonical) : (s.set f v).Canonical := .withRegs h

theorem State.Canonical.setFlag {f : Field} {b : Bool} (h : s.Canonical) : (s.setFlag f b).Canonical := .set h

theorem State.Canonical.setS {f : Field} {i : Int} (h : s.Canonical) : (s.setS f i).Canonical := .set h

theorem State.Canonical.add {f : Field} {n : Nat} (h : s.Canonical) : (s.add f n).Canonical := .set h

theorem State.Canonical.addHold {f : Field} {n : Nat} (h : s.Canonical) : (s.addHold f n).Canonical := .set h

theorem State.Canonical.setPair {hi lo : Field} {v : Nat} (h : s.Canonical) : (s.setPair hi lo v).Canonical :=
  .set (.set h)

theorem State.Canonical.setMaskBit {f : Field} {i : Nat} {b : Bool} (h : s.Canonical) :
    (s.setMaskBit f i b).Canonical := .set h

theorem State.Canonical.when {b : Bool} {g : State → State} (h : s.Canonical)
    (hg : ∀ {t}, t.Canonical → (g t).Canonical) : (s.when b g).Canonical := .ite (hg h) h

theorem State.Canonical.setSlot {off v : Nat} (h : s.Canonical) : (s.setSlot off v).Canonical :=
  .withSlots h (sparseWf_store (fun _ => 0) h.slots)

theorem State.Canonical.setSlots {off : Nat} {l : List Nat} (h : s.Canonical) : (s.setSlots off l).Canonical := by
  induction l generalizing s off with
  | nil => exact h
  | cons w l ih => exact ih (.setSlot h)

theorem State.Canonical.putStreamByte {base b v : Nat} (h : s.Canonical) : (s.putStreamByte base b v).Canonical :=
  .setSlot h

theorem State.Canonical.putStreamFrom {base b : Nat} {l : List Nat} (h : s.Canonical) :
    (s.putStreamFrom base b l).Canonical := by
  induction l generalizing s b with
  | nil => exact h
  | cons v l ih => exact ih (.putStreamByte h)

theorem State.Canonical.padStream {base n : Nat} {other : Nat → Bool} (h : s.Canonical) :
    (s.padStream base n other).Canonical := .foldl h fun h => .ite h (.putStreamByte h)

theorem State.Canonical.setRing {r : Nat} {x : RingState} (h : s.Canonical) : (s.setRing r x).Canonical :=
  .withRings h

theorem State.Canonical.setQueue {m : Nat} {x : QueueState} (h : s.Canonical) : (s.setQueue m x).Canonical :=
  .withQueues h

theorem State.Canonical.setTickCount {n : Nat} (h : s.Canonical) : (s.setTickCount n).Canonical := .set (.set h)

theorem State.Canonical.advanceTo {t : Nat} (h : s.Canonical) : (s.advanceTo t).Canonical :=
  .ite (h.congr rfl rfl rfl) h

theorem State.Canonical.passTo {deadline : Nat} (h : s.Canonical) : (s.passTo deadline).Canonical :=
  .ite (h.congr rfl rfl rfl) h

theorem State.Canonical.onTime {deadline : Nat} {f : State → State} (h : s.Canonical)
    (hf : ∀ {t}, t.Canonical → (f t).Canonical) : (s.onTime deadline f).Canonical := .ite (hf (.passTo h)) h

theorem State.Canonical.draw (h : s.Canonical) : s.draw.2.Canonical := .withFreeCount h

theorem State.Canonical.drawBytes {n : Nat} (h : s.Canonical) : (State.drawBytes n s).2.Canonical := by
  induction n generalizing s with
  | zero => exact h
  | succ n ih => exact ih (.draw h)

theorem State.Canonical.violations {vs : List Violation} (h : s.Canonical) : (s.violations vs).Canonical := by
  unfold State.violations
  split
  · exact h
  · exact .set (.addHold h)

theorem State.Canonical.violate {v : Violation} (h : s.Canonical) : (s.violate v).Canonical := .violations h

theorem State.Canonical.orViolate {w : Writer} {off : Nat} {r : Option State} (h : s.Canonical)
    (hr : CanonicalIfSome r) : (s.orViolate w off r).Canonical := by
  cases r with
  | none => exact .violate h
  | some t => exact hr t rfl

theorem State.Canonical.rowWrite {w : Writer} {off : Nat} {r : Option State} (h : s.Canonical)
    (hr : CanonicalIfSome r) : (s.rowWrite w off r).Canonical := .orViolate h (.ite hr .none)

theorem State.Canonical.logPush {e : LogEntry} (h : s.Canonical) : (s.logPush e).Canonical :=
  .ite (.withLog h) (.withLog (.set (.when h .add)))

theorem State.Canonical.pendUnit {u : Nat} (h : s.Canonical) : (s.pendUnit u).Canonical := .when h .setMaskBit

theorem State.Canonical.waiteMatch {r seq dst : Nat} (h : s.Canonical) : (s.waiteMatch r seq dst).Canonical :=
  .setRing (.set (.set h))

theorem State.Canonical.matchRing {code seq r : Nat} (h : s.Canonical) :
    (State.matchRing code seq s r).Canonical := by
  unfold State.matchRing
  split
  · exact .ite (.waiteMatch h) h
  · exact h

theorem State.Canonical.logEvent {e : LogEntry} (h : s.Canonical) : (s.logEvent e).Canonical :=
  .ite (.pendUnit (.logPush h)) (.ite (.add h) (.ite (.add (.setFlag h))
    (.ite (.pendUnit (.setFlag (.logPush (.foldl (.add (.add h)) .matchRing)))) (.pendUnit (.logPush h)))))

theorem State.Canonical.raiseFrom {source code w5 w6 w7 : Nat} (h : s.Canonical) :
    (s.raiseFrom source code w5 w6 w7).Canonical := .ite (.logEvent (.foldl (.add h) .matchRing)) h

theorem State.Canonical.raise {code w5 w6 w7 : Nat} (h : s.Canonical) : (s.raise code w5 w6 w7).Canonical := by
  unfold State.raise
  split
  · exact .withBatch h
  · exact .raiseFrom h

theorem State.Canonical.raiseAll {l : List (Nat × Nat × Nat × Nat)} (h : s.Canonical) : (s.raiseAll l).Canonical :=
  .foldl h .raise

theorem State.Canonical.oneCycle {f : State → State} (h : s.Canonical) (hf : ∀ {t}, t.Canonical → (f t).Canonical) :
    (s.oneCycle f).Canonical := by
  unfold State.oneCycle
  split
  · exact hf h
  · exact .raiseAll (.withBatch (hf (.withBatch h)))

theorem State.Canonical.cqEvaluate {m : Nat} (h : s.Canonical) : (s.cqEvaluate m).Canonical := .when h .setMaskBit

theorem State.Canonical.cqReserve {m n : Nat} (h : s.Canonical) : (s.cqReserve m n).Canonical := .add h

theorem State.Canonical.cqRelieve {m : Nat} (h : s.Canonical) : (s.cqRelieve m).Canonical := by
  unfold State.cqRelieve
  split
  · exact h
  · exact .ite h (.raise (.set (.setQueue h)))

theorem State.Canonical.cqRelease {m n : Nat} (h : s.Canonical) : (s.cqRelease m n).Canonical :=
  .ite h (.cqRelieve (.set h))

theorem State.Canonical.dropHeld {r : Nat} (h : s.Canonical) : (s.dropHeld r).Canonical := .foldl h .setQueue

theorem State.Canonical.cqHold {r m : Nat} (h : s.Canonical) : (s.cqHold r m).Canonical := by
  unfold State.cqHold
  dsimp only
  split
  · exact .setQueue (.setMaskBit (.dropHeld h))
  · exact .raise (.setQueue (.setMaskBit (.dropHeld h)))

theorem State.Canonical.cqUnhold {r : Nat} (h : s.Canonical) : (s.cqUnhold r).Canonical := .setMaskBit (.dropHeld h)

theorem State.Canonical.cqWrite {c : OpRef} {status result : Nat} (h : s.Canonical) :
    (s.cqWrite c status result).Canonical := .cqEvaluate (.set (.setQueue (.set (.add (.setSlots h)))))

theorem State.Canonical.fenceRelease {r : Nat} (h : s.Canonical) : (s.fenceRelease r).Canonical := by
  unfold State.fenceRelease
  split
  · exact .ite (.cqWrite (.setRing h)) h
  · exact h

theorem State.Canonical.post {c : OpRef} {status result : Nat} (h : s.Canonical) :
    (s.post c status result).Canonical := .fenceRelease (.cqWrite h)

theorem State.Canonical.postAll {l : List (OpRef × Nat × Nat)} (h : s.Canonical) : (s.postAll l).Canonical :=
  .foldl h .post

theorem State.Canonical.postOpt {c : Option OpRef} {status result : Nat} (h : s.Canonical) :
    (s.postOpt c status result).Canonical := by
  unfold State.postOpt
  split
  · exact .post h
  · exact h

theorem State.Canonical.moveOn {r n : Nat} (h : s.Canonical) : (s.moveOn r n).Canonical := .ite (.setRing h) (.add h)

theorem State.Canonical.uses {n : Nat} (h : s.Canonical) : (s.uses n).Canonical := .withCycles h

theorem State.Canonical.reserve {r : Nat} (h : s.Canonical) : (s.reserve r).Canonical :=
  .ite (.setRing h) (.cqUnhold (.cqReserve h))

theorem State.Canonical.issue {op : Op} {opcode cost : Nat} {body : State → OpRef → State} (h : s.Canonical)
    (hbody : ∀ {t x1}, t.Canonical → (body t x1).Canonical) : (s.issue op opcode cost body).Canonical :=
  .ite (.ite (hbody (.uses (.moveOn (.add (.reserve h))))) (.cqHold h)) h

theorem State.Canonical.refuse {ref : OpRef} {status : Nat} (h : s.Canonical) : (s.refuse ref status).Canonical :=
  .post (.uses h)

theorem State.Canonical.illegal {ref : OpRef} (h : s.Canonical) : (s.illegal ref).Canonical := .refuse (.violate h)

theorem State.Canonical.judge {ref : OpRef} {ext reserved staging legal range : Bool} {rangeStatus : Nat}
    {body : State → State} (h : s.Canonical) (hbody : ∀ {t}, t.Canonical → (body t).Canonical) :
    (s.judge ref ext reserved staging legal range rangeStatus body).Canonical :=
  .ite (.refuse h) (.ite (.refuse h) (.ite (.refuse h) (.ite (.illegal h) (.ite (.post h) (hbody h)))))

/-! ### The functions of Writes -/

theorem State.Canonical.write {fa : FieldAcc} {v m : Nat} (h : s.Canonical) : (fa.write v m s).Canonical := by
  unfold Machine.FieldAcc.write
  split
  · exact .set h
  · exact h
  · exact h
  · exact .set h

theorem CanonicalIfSome.plainWrite {w : Writer} {off v m : Nat} (h : s.Canonical) :
    CanonicalIfSome (s.plainWrite w off v m) := .ite (.some h) (.ite .none (.some (.foldl h .write)))

theorem CanonicalIfSome.writeWhere {ok : Field → Bool} {w : Writer} {off v m : Nat} (h : s.Canonical) :
    CanonicalIfSome (s.writeWhere ok w off v m) := .ite (.some h) (.ite .none (.some (.foldl h .write)))

theorem CanonicalIfSome.writeIf {ok : Bool} {w : Writer} {off v m : Nat} (h : s.Canonical) :
    CanonicalIfSome (s.writeIf ok w off v m) := .ite (.plainWrite h) .none

/-! ### The functions of Rings -/

theorem State.Canonical.bellRung {r tail : Nat} (h : s.Canonical) : (s.bellRung r tail).Canonical := .withSh h

theorem CanonicalIfSome.doorbellWrite {w : Writer} {r tail : Nat} (h : s.Canonical) :
    CanonicalIfSome (doorbellWrite w r tail s) := .ite (.ite (.some h) (.some (.bellRung (.set h)))) .none

theorem CanonicalIfSome.modeWrite {w : Writer} {r : Nat} {res : Bool} {entry : Nat} (h : s.Canonical) :
    CanonicalIfSome (modeWrite w r res entry s) := .ite (.some (.setRing (.when h .set))) .none

theorem CanonicalIfSome.periodWrite {w : Writer} {r period : Nat} (h : s.Canonical) :
    CanonicalIfSome (periodWrite w r period s) := .ite (.some (.set h)) .none

theorem CanonicalIfSome.cqHeadWrite {w : Writer} {m head : Nat} (h : s.Canonical) :
    CanonicalIfSome (cqHeadWrite w m head s) := .ite (.some (.cqEvaluate (.cqRelieve (.setQueue (.set h))))) .none

theorem CanonicalIfSome.cqMapWrite {w : Writer} {high : Bool} {map : Nat} (h : s.Canonical) :
    CanonicalIfSome (cqMapWrite w high map s) := .ite (.some (.set h)) .none

theorem CanonicalIfSome.cqIrqWrite {w : Writer} {m v : Nat} (h : s.Canonical) :
    CanonicalIfSome (cqIrqWrite w m v s) := .ite (.some (.set (.when h .set))) .none

theorem CanonicalIfSome.evenaWrite {w : Writer} {v : Nat} (h : s.Canonical) : CanonicalIfSome (evenaWrite w v s) := by
  unfold Machine.evenaWrite
  dsimp only
  split
  · exact .some (.when (.set (.set h)) .setMaskBit)
  · exact .ite (.some (.setMaskBit h)) .none
  · exact .none

theorem CanonicalIfSome.evpendWrite {w : Writer} {bits : Nat} (h : s.Canonical) :
    CanonicalIfSome (evpendWrite w bits s) := by
  unfold Machine.evpendWrite
  split
  · exact .none
  · exact .some (.set (.set h))

theorem CanonicalIfSome.giveWrite {w : Writer} (h : s.Canonical) : CanonicalIfSome (giveWrite w s) :=
  .ite (.some (.withRing15 h)) .none

theorem CanonicalIfSome.returnWrite {w : Writer} (h : s.Canonical) : CanonicalIfSome (returnWrite w s) :=
  .ite (.some (.withRing15 h)) .none

theorem CanonicalIfSome.r15ctlWrite {w : Writer} {v : Nat} (h : s.Canonical) :
    CanonicalIfSome (r15ctlWrite w v s) := by
  unfold Machine.r15ctlWrite
  split
  · exact .none
  · next e => exact .some (.ite (.ofSome e (.giveWrite h)) h)
  · next e _ => exact .some (.ite (.ofSome e (.returnWrite h)) h)

theorem CanonicalIfSome.apertureBaseWrite {w : Writer} {part v : Nat} (h : s.Canonical) :
    CanonicalIfSome (apertureBaseWrite w part v s) := by
  unfold Machine.apertureBaseWrite
  dsimp only
  split
  · exact .none
  · exact .ite .none (.some (.set h))

theorem CanonicalIfSome.apertureEnableWrite {w : Writer} {en : Bool} (h : s.Canonical) :
    CanonicalIfSome (apertureEnableWrite w en s) := by
  unfold Machine.apertureEnableWrite
  split
  · exact .none
  · exact .ite .none (.some (.setFlag h))

theorem CanonicalIfSome.apctlWrite {w : Writer} {v : Nat} (h : s.Canonical) : CanonicalIfSome (apctlWrite w v s) := by
  unfold Machine.apctlWrite
  split
  · dsimp only
    split
    · next e =>
        exact .some (.ofSome e (.apertureEnableWrite (.when h .set)))
    · exact .ite .none (.some (.when h .set))
  · exact .none

theorem CanonicalIfSome.quWrite {w : Writer} {o v m : Nat} (h : s.Canonical) :
    CanonicalIfSome (quWrite w o v m s) := by
  unfold Machine.quWrite
  split
  · exact .none
  · exact .ite (.apctlWrite h) (.ite (.evenaWrite h) (.ite (.evpendWrite h)
      (.ite (.cqMapWrite h) (.ite (.cqMapWrite h) (.ite (.r15ctlWrite h)
      (.ite (.cqHeadWrite h) (.ite (.cqIrqWrite h) (.ite (.doorbellWrite h)
      (.ite (.modeWrite h) (.ite (.periodWrite h) (.plainWrite h)))))))))))

theorem State.Canonical.doorbell {w : Writer} {r tail : Nat} (h : s.Canonical) : (doorbell w r tail s).Canonical :=
  .rowWrite h (.doorbellWrite h)

theorem State.Canonical.showBound {k : Nat} (h : s.Canonical) : (s.showBound k).Canonical := .setFlag h

theorem State.Canonical.unbind {r : Nat} (h : s.Canonical) : (s.unbind r).Canonical :=
  .raise (.showBound (.set (.setRing h)))

theorem State.Canonical.applyMode {r : Nat} (h : s.Canonical) : (s.applyMode r).Canonical := by
  unfold State.applyMode
  split
  · exact h
  · dsimp only
    split
    · exact .raise (.showBound (.setRing (.set (.setRing h))))
    · exact .setRing h
  · exact .ite (.setRing (.setRing h)) (.unbind (.setRing h))

theorem State.Canonical.passRing15 {owner cause : Nat} (h : s.Canonical) : (s.passRing15 owner cause).Canonical :=
  .ite (.set h) (.set (.set h))

theorem State.Canonical.judgeTick {late : List Violation} (h : s.Canonical) : (s.judgeTick late).Canonical := by
  unfold State.judgeTick
  dsimp only
  refine .withRing15 ?_
  split
  · exact .violations (.passRing15 (.foldl (.raise h) .applyMode))
  · exact .violations (.foldl h .applyMode)
  · exact .violations (.foldl h .applyMode)

/-! ### The functions of Monitors -/

theorem State.Canonical.setChannelBit {f0 f1 : Field} {n : Nat} {b : Bool} (h : s.Canonical) :
    (s.setChannelBit f0 f1 n b).Canonical := .ite (.setMaskBit h) (.setMaskBit h)

theorem State.Canonical.setRail {n : Nat} {x : Rail} (h : s.Canonical) : (s.setRail n x).Canonical := .withPw h

theorem State.Canonical.retune {n : Nat} (h : s.Canonical) : (s.retune n).Canonical := .set (.set h)

theorem State.Canonical.retuneVin (h : s.Canonical) : s.retuneVin.Canonical := .retune (.set (.set h))

theorem State.Canonical.delayScan (h : s.Canonical) : s.delayScan.Canonical := .ite (.withMn h) h

theorem State.Canonical.reading {i : Nat} {codes : List Int} (h : s.Canonical) : (s.reading i codes).Canonical :=
  .withMn (.setS (.setS h))

theorem State.Canonical.queueFault {code w5 w6 w7 : Nat} (h : s.Canonical) : (s.queueFault code w5 w6 w7).Canonical :=
  .ite (.withMn h) (.add h)

theorem State.Canonical.raiseFault {code w5 w6 w7 : Nat} (h : s.Canonical) : (s.raiseFault code w5 w6 w7).Canonical :=
  .queueFault (.raise h)

theorem State.Canonical.countFaults (h : s.Canonical) : s.countFaults.Canonical := .set h

theorem State.Canonical.putFault {c : FaultCause} (h : s.Canonical) : (s.putFault c).Canonical := by
  unfold State.putFault
  dsimp only
  exact .countFaults (.set (.withMn (.when (.withMn h) .add)))

theorem State.Canonical.writeFault {fresh : List Int} (h : s.Canonical) : (State.writeFault fresh s).Canonical := by
  unfold State.writeFault
  split
  · exact h
  · dsimp only
    split
    · exact .ite (.putFault (.delayScan (.reading (.withMn h)))) h
    · exact .putFault (.withMn h)

theorem State.Canonical.countTorn (h : s.Canonical) : s.countTorn.1.Canonical := by
  unfold State.countTorn
  split
  · exact h
  · exact .add h

theorem State.Canonical.setChannelFlag {n flag : Nat} (h : s.Canonical) : (s.setChannelFlag n flag).Canonical :=
  .when (.when (.when (.setChannelBit (.setChannelBit h)) .setChannelBit) .setChannelBit) .withMn

theorem State.Canonical.reportFlag {n flag left : Nat} {codes : List Int} (h : s.Canonical) :
    (s.reportFlag n flag left codes).Canonical :=
  .ite (.raise (.delayScan (.reading h))) (.raise (.delayScan (.reading h)))

theorem State.Canonical.markOutside {n old flag : Nat} (h : s.Canonical) : (s.markOutside n old flag).Canonical :=
  .ite (.withMn (.ite (.withMn h) h)) (.ite (.withMn h) h)

theorem State.Canonical.noteVcc (h : s.Canonical) : s.noteVcc.Canonical := .ite (.withMc h) h

theorem State.Canonical.flagChange {n : Nat} {node : Int} {samples : Nat} {codes : List Int} (h : s.Canonical) :
    (flagChange n node samples codes s).Canonical :=
  .ite (.ite (.ite (.ite (.reportFlag (.markOutside (.setChannelFlag (.withMn h)))) h) (.noteVcc
    (.markOutside (.setChannelFlag (.withMn h))))) (.withMn h)) h

theorem State.Canonical.dropFlag {n : Nat} (h : s.Canonical) : (s.dropFlag n).Canonical :=
  .ite (.withMn (.setChannelBit (.setChannelBit h))) h

theorem State.Canonical.dropFlags (h : s.Canonical) : s.dropFlags.Canonical := .foldl h .dropFlag

theorem State.Canonical.showAudit {n : Nat} (h : s.Canonical) : (s.showAudit n).Canonical :=
  .setFlag (.setChannelBit h)

theorem State.Canonical.judgeAudit {d : Nat} {raw : Int} (h : s.Canonical) : (s.judgeAudit d raw).Canonical := by
  unfold State.judgeAudit
  dsimp only
  split
  · exact .ite (.raiseFault (.showAudit (.withMn h))) h
  · exact .ite (.withMn h) (.ite (.withMn h) (.raise (.showAudit (.withMn h))))

theorem State.Canonical.runAudit {codes : List Int} (h : s.Canonical) : (s.runAudit codes).Canonical := by
  unfold State.runAudit
  split
  · exact h
  · exact .ite (.withMn (.reading h)) (.judgeAudit (.withMn (.reading h)))

theorem State.Canonical.checkReference {reference short : List Int} (h : s.Canonical) :
    (s.checkReference reference short).Canonical :=
  .ite (.ite (.raise (.setFlag (.withMn (.reading (.reading h))))) (.withMn (.reading (.reading h))))
    (.ite (.raiseFault (.setFlag (.withMn (.reading (.reading h))))) (.withMn (.reading (.reading h))))

theorem State.Canonical.beginScan (h : s.Canonical) : s.beginScan.Canonical := .withMn h

theorem State.Canonical.runScan {codes : List (List Int)} {audit reference short : List Int} (h : s.Canonical) :
    (s.runScan codes audit reference short).Canonical := .checkReference (.runAudit (.foldl (.beginScan h) .reading))

theorem State.Canonical.scan {codes : List (List Int)} {audit reference short : List Int} (h : s.Canonical) :
    (scan codes audit reference short s).Canonical :=
  .ite (.ite (.ite (.add (.withMn h)) (.runScan h)) (.ite (.onTime h .runScan) h)) h

theorem CanonicalIfSome.mnWrite {w : Writer} {o v m : Nat} (h : s.Canonical) : CanonicalIfSome (mnWrite w o v m s) :=
  .ite (.writeIf h) (.ite (.writeIf h) (.ite
    (.ite (.ite (.ite (.some (.retune (.set h))) .none)
    (.map (.plainWrite h) fun h => .dropFlag (.retune h))) .none) (.plainWrite h)))

/-! ### The functions of Release -/

theorem State.Canonical.wantRail {n : Nat} {b : Bool} (h : s.Canonical) : (s.wantRail n b).Canonical := .setRail h

theorem State.Canonical.forceChannel {n : Nat} {t : Option (Nat × Nat)} (h : s.Canonical) :
    (s.forceChannel n t).Canonical := .dropFlag (.retune (.withMn h))

theorem State.Canonical.releaseEnd {cause : Nat} (h : s.Canonical) : (s.releaseEnd cause).Canonical :=
  .ite (.withFp (.raise (.set (.set (.set h))))) h

theorem State.Canonical.releaseSafe {port : Nat} (h : s.Canonical) : (s.releaseSafe port).Canonical :=
  .ite (.releaseEnd (.withFp h)) (.withFp h)

theorem State.Canonical.releaseRemoved {port : Nat} (h : s.Canonical) : (s.releaseRemoved port).Canonical := by
  unfold State.releaseRemoved
  split
  · exact .ite (.withFp h) h
  · exact h

/-! ### The functions of MemCard -/

theorem State.Canonical.setMc {x : MemCard} (h : s.Canonical) : (s.setMc x).Canonical := .withMc h

theorem State.Canonical.mcAwait {l : List McItem} (h : s.Canonical) : (s.mcAwait l).Canonical := .setMc h

theorem State.Canonical.mcPop (h : s.Canonical) : s.mcPop.Canonical := .mcAwait h

theorem State.Canonical.mcDeactivate {cause status : Nat} (h : s.Canonical) :
    (s.mcDeactivate cause status).Canonical :=
  .ite (.ite (.setMc (.set (.raise (.add (.set (.set (.set h))))))) (.setMc (.set h))) h

theorem State.Canonical.mcDeactivationDone (h : s.Canonical) : (mcDeactivationDone s).Canonical :=
  .ite (.ite (.ite (.releaseEnd
    (.postAll (.raise (.forceChannel (.wantRail (.set (.set (.set (.setMc (.set h))))))))))
    (.ite (.postAll (.raise (.forceChannel (.wantRail (.set (.set (.set (.setMc (.set h)))))))))
    (.releaseSafe (.raise (.postAll (.raise (.forceChannel (.wantRail (.set (.set (.set (.setMc (.set h)))))))))))))
    (.postAll (.raise (.forceChannel (.wantRail (.set (.set (.set (.setMc (.set h)))))))))) h

theorem State.Canonical.mcReleaseIdle (h : s.Canonical) : s.mcReleaseIdle.Canonical := .ite (.mcDeactivate h) h

theorem State.Canonical.mcReleaseRaise (h : s.Canonical) : s.mcReleaseRaise.Canonical :=
  .ite (.releaseSafe (.raise (.set h))) (.mcReleaseIdle (.set h))

theorem State.Canonical.mcFinish {status result : Nat} (h : s.Canonical) : (s.mcFinish status result).Canonical :=
  .mcReleaseIdle (.postOpt (.setMc (.set (.when (.when h .set) .set))))

theorem State.Canonical.mcStop (h : s.Canonical) : s.mcStop.Canonical := .ite (.mcAwait h) (.mcDeactivate h)

theorem State.Canonical.mcPavane (h : s.Canonical) : s.mcPavane.Canonical :=
  .ite (.setMc h) (.ite (.mcStop (.setMc h)) (.mcDeactivate h))

theorem State.Canonical.mcTakeCsd {csd : Nat} (h : s.Canonical) : (s.mcTakeCsd csd).Canonical :=
  .setMc (.setFlag (.setFlag (.foldl h .set)))

theorem State.Canonical.mcReady (h : s.Canonical) : s.mcReady.Canonical := .mcFinish (.raise (.set h))

theorem State.Canonical.mcTiming (h : s.Canonical) : s.mcTiming.Canonical := .ite (.mcAwait (.setMc h)) (.mcReady h)

theorem State.Canonical.mcTune (h : s.Canonical) : s.mcTune.Canonical := .ite (.mcAwait (.setMc h)) (.mcTiming h)

theorem State.Canonical.mcSelected (h : s.Canonical) : s.mcSelected.Canonical :=
  .ite (.mcAwait (.setMc h)) (.ite (.mcTune (.set (.setMc (.putStreamFrom h)))) (.mcAwait
    (.set (.setMc (.putStreamFrom h)))))

theorem State.Canonical.mcTakeExt {bytes : List Nat} (h : s.Canonical) : (s.mcTakeExt bytes).Canonical :=
  .when (.setMc (.setFlag (.putStreamFrom h))) .setPair

theorem State.Canonical.mcTakeOcr {ocr : Nat} (h : s.Canonical) : (s.mcTakeOcr ocr).Canonical :=
  .ite (.mcAwait (.setFlag h)) h

theorem State.Canonical.mcClose {status result : Nat} (h : s.Canonical) : (s.mcClose status result).Canonical :=
  .mcFinish (.when h .raise)

theorem State.Canonical.mcEnd {status result : Nat} {stop : Bool} (h : s.Canonical) :
    (s.mcEnd status result stop).Canonical :=
  .ite (.mcAwait (.setMc h)) (.ite (.mcAwait (.setMc h)) (.ite (.mcClose (.setMc h)) (.mcAwait (.setMc h))))

theorem State.Canonical.mcEnded (h : s.Canonical) : s.mcEnded.Canonical := by
  unfold State.mcEnded
  split
  · exact .ite (.mcFinish h) (.mcClose h)
  · exact h

theorem State.Canonical.mcCommandLost {corrupt : Bool} (h : s.Canonical) : (s.mcCommandLost corrupt).Canonical := by
  unfold State.mcCommandLost
  split
  · exact .ite (.mcClose h) (.ite (.mcDeactivate h) (.mcAwait (.setMc h)))
  · exact .ite (.mcDeactivate h) (.ite (.mcDeactivate h) (.mcEnd h))

theorem State.Canonical.mcRepeat {corrupt : Bool} (h : s.Canonical) : (s.mcRepeat corrupt).Canonical :=
  .ite (.mcCommandLost h) (.setMc (.add h))

theorem State.Canonical.rpmbRequest {type addr : Nat} (h : s.Canonical) : (s.rpmbRequest type addr).Canonical := by
  unfold State.rpmbRequest
  dsimp only
  exact .setMc (.drawBytes h)

theorem State.Canonical.rpmbWriteOut (h : s.Canonical) : s.rpmbWriteOut.Canonical := .mcAwait (.setMc h)

theorem State.Canonical.rpmbForged (h : s.Canonical) : s.rpmbForged.Canonical := .mcEnd (.when h .putStreamFrom)

theorem State.Canonical.rpmbAccepted {counter : Nat} (h : s.Canonical) : (s.rpmbAccepted counter).Canonical :=
  .ite (.mcEnd h) (.ite (.mcEnd h) (.ite (.mcEnd (.set (.set h)))
    (.ite (.rpmbWriteOut (.setMc (.set (.set h)))) (.mcEnd (.raise (.set (.set h)))))))

theorem State.Canonical.rpmbResponse {f : List Nat} (h : s.Canonical) : (s.rpmbResponse f).Canonical :=
  .ite (.mcEnd (.setMc h)) (.ite (.mcEnd (.setMc h)) (.ite (.rpmbForged (.setMc h))
    (.ite (.mcPop (.when (.setMc h) .putStreamFrom))
    (.ite (.rpmbForged (.when (.setMc h) .putStreamFrom))
    (.ite (.mcEnd (.when (.setMc h) .putStreamFrom)) (.rpmbAccepted (.when (.setMc h) .putStreamFrom)))))))

theorem State.Canonical.mcwpDone (h : s.Canonical) : s.mcwpDone.Canonical := .mcEnd h

theorem State.Canonical.mcNext (h : s.Canonical) : s.mcNext.Canonical :=
  .ite h (.ite (.mcEnded h) (.ite (.ite (.mcTune h) (.ite (.mcReady (.set h)) (.mcTiming h))) (.ite (.mcwpDone h) h)))

theorem State.Canonical.mcAnswered {idx value : Nat} (h : s.Canonical) : (s.mcAnswered idx value).Canonical := by
  unfold State.mcAnswered
  split
  · exact .mcTakeOcr h
  · exact .mcPop (.setMc (.foldl h .set))
  · exact .mcNext (.mcPop (.when (.when (.mcTakeCsd h) .raise) .setPair))
  · exact .ite (.mcSelected h) (.mcNext (.mcPop h))
  · exact .ite (.mcDeactivate h) (.mcNext (.mcPop h))
  · exact .ite (.mcEnded (.setMc (.set h))) (.mcNext (.mcPop (.set h)))
  · exact .mcNext (.mcPop h)

theorem State.Canonical.mcUnanswered {f : State → State} (h : s.Canonical)
    (hf : ∀ {t}, t.Canonical → (f t).Canonical) : (s.mcUnanswered f).Canonical := by
  unfold State.mcUnanswered
  split
  · split
    · exact .onTime h fun h => hf (.mcPop h)
    · exact h
  · exact hf (.setMc h)
  · exact hf h

theorem State.Canonical.mcResponse {crc : Bool} {value : Nat} (h : s.Canonical) :
    (mcResponse crc value s).Canonical := by
  unfold Machine.mcResponse
  refine .mcUnanswered h fun h => ?_
  split
  · exact .ite (.mcAnswered h) (.mcRepeat (.add h))
  · exact h

theorem State.Canonical.mcResponseTimeout (h : s.Canonical) : (mcResponseTimeout s).Canonical := by
  unfold Machine.mcResponseTimeout
  refine .mcUnanswered h fun h => ?_
  split
  · exact .ite h (.onTime h .mcRepeat)
  · exact h

theorem State.Canonical.mcIdentTimeout (h : s.Canonical) : (mcIdentTimeout s).Canonical := by
  unfold Machine.mcIdentTimeout
  refine .mcUnanswered h fun h => ?_
  split
  · exact .onTime h .mcDeactivate
  · exact h

theorem State.Canonical.mcReadData {crc : Bool} {bytes : List Nat} (h : s.Canonical) :
    (s.mcReadData crc bytes).Canonical :=
  .ite h (.ite (.ite (.mcEnd (.setMc (.add (.set (.putStreamFrom h))))) (.setMc (.add (.set (.putStreamFrom h)))))
    (.ite (.mcEnd (.add h)) (.mcAwait (.setMc (.add (.add h))))))

theorem State.Canonical.mcReadBlock {crc : Bool} {bytes : List Nat} (h : s.Canonical) :
    (mcReadBlock crc bytes s).Canonical := by
  unfold Machine.mcReadBlock
  split
  · exact .ite (.mcReadData h) (.ite (.ite (.rpmbResponse h) (.mcEnd (.add h))) (.ite
      (.ite (.mcNext (.mcPop (.set h))) (.mcAwait (.setMc (.set h))))
      (.ite (.mcNext (.mcPop (.mcTakeExt h))) (.mcRepeat (.add h)))))
  · exact h

theorem State.Canonical.mcConfirmed (h : s.Canonical) : s.mcConfirmed.Canonical :=
  .ite (.ite (.mcDeactivate (.setMc (.add (.set h)))) (.mcStop (.setMc (.add (.set h)))))
    (.ite (.mcEnd (.setMc (.add (.set h)))) (.setMc (.add (.set h))))

theorem State.Canonical.mcBusyRelease {ok : Bool} (h : s.Canonical) : (mcBusyRelease ok s).Canonical :=
  .ite (.ite (.ite (.ite (.mcConfirmed h) (.mcEnd h)) h)
    (.ite (.mcDeactivate h) (.ite (.mcNext (.mcPop (.setMc h))) (.mcEnd h)))) h

theorem State.Canonical.mcBusyTimeout (h : s.Canonical) : (mcBusyTimeout s).Canonical := .ite (.onTime h .mcEnd) h

theorem State.Canonical.mcSaveWaitExpiry (h : s.Canonical) : (mcSaveWaitExpiry s).Canonical :=
  .ite (.onTime h .mcDeactivate) h

theorem State.Canonical.mcStarved (h : s.Canonical) : (mcStarved s).Canonical :=
  .ite (.onTime h fun h => .setMc (.raise h)) h

theorem State.Canonical.mcHostWaitTimeout (h : s.Canonical) : (mcHostWaitTimeout s).Canonical :=
  .ite (.onTime h .mcEnd) h

theorem CanonicalIfSome.mcHostcntWrite {w : Writer} {v : Nat} (h : s.Canonical) :
    CanonicalIfSome (mcHostcntWrite w v s) := .ite (.some (.ite (.set h) (.setMc (.set h)))) .none

theorem State.Canonical.mcinit {op : Op} (h : s.Canonical) : (mcinit op s).Canonical :=
  .issue h fun h => .judge h fun h => .ite (.ite (.post h) (.mcDeactivate (.setMc h)))
    (.ite (.mcTune (.setMc (.set h))) (.mcAwait (.setMc
    (.forceChannel (.wantRail (.set (.set (.set (.setMc (.set h))))))))))

theorem State.Canonical.mcrwStart (h : s.Canonical) : s.mcrwStart.Canonical := .ite (.mcAwait h) (.mcAwait h)

theorem State.Canonical.mcrw {op : Op} (h : s.Canonical) : (mcrw op s).Canonical :=
  .issue h fun h => .judge h fun h => .ite (.post (.set (.set h)))
    (.ite (.post (.set (.set h))) (.ite (.post (.set (.set h))) (.ite (.post (.set (.set h)))
    (.mcrwStart (.setMc (.set (.set (.set (.set h)))))))))

theorem State.Canonical.mcrpmb {op : Op} (h : s.Canonical) : (mcrpmb op s).Canonical :=
  .issue h fun h => .judge h fun h => .ite (.post (.when h .set))
    (.ite (.post (.when h .set)) (.ite (.mcAwait (.rpmbRequest (.setMc (.set h)))) (.ite
    (.mcAwait (.setMc (.setMc (.set h)))) (.mcAwait (.rpmbRequest (.setMc (.set h)))))))

theorem State.Canonical.mcwp {op : Op} (h : s.Canonical) : (mcwp op s).Canonical :=
  .issue h fun h => .judge h fun h => .ite (.post h) (.ite (.post h) (.mcAwait (.setMc (.set h))))

theorem State.Canonical.mcCardInserted (h : s.Canonical) : (mcCardInserted s).Canonical :=
  .ite (.raise (.add (.set h))) h

theorem State.Canonical.mcCardRemoved (h : s.Canonical) : (mcCardRemoved s).Canonical :=
  .ite (.releaseRemoved (.mcDeactivate (.raise (.add (.set h))))) h

theorem State.Canonical.mcVccFault {kind vcc ma : Nat} (h : s.Canonical) : (s.mcVccFault kind vcc ma).Canonical :=
  .ite (.mcDeactivate (.raise h)) h

theorem State.Canonical.mcSupplyFault {kind vcc ma : Nat} (h : s.Canonical) :
    (mcSupplyFault kind vcc ma s).Canonical := .ite (.mcVccFault h) h

theorem CanonicalIfSome.mcWrite {w : Writer} {o v m : Nat} (h : s.Canonical) : CanonicalIfSome (mcWrite w o v m s) :=
  .ite (.writeWhere h) (.ite (.writeIf h) (.ite (.writeIf h)
    (.ite (.writeIf h) (.ite (.writeIf h) (.ite (.mcHostcntWrite h) (.ite (.writeIf h) (.plainWrite h)))))))

/-! ### The functions of Uart -/

theorem State.Canonical.setPort {p : Nat} {x : UartPort} (h : s.Canonical) : (s.setPort p x).Canonical := .withUa h

theorem State.Canonical.uaCount {p : Nat} (h : s.Canonical) : (s.uaCount p).Canonical := .setPort (.add h)

theorem State.Canonical.uaQueue {p from_ n : Nat} (h : s.Canonical) : (s.uaQueue p from_ n).Canonical :=
  .setPort (.uaCount h)

theorem State.Canonical.uaQuiet {p : Nat} (h : s.Canonical) : (s.uaQuiet p).Canonical := .setPort (.uaCount h)

theorem State.Canonical.uaRebase {p : Nat} (h : s.Canonical) : (s.uaRebase p).Canonical := by
  unfold State.uaRebase
  split
  · exact h
  · exact .setPort h

theorem State.Canonical.uaTakeRate {p rate : Nat} (h : s.Canonical) : (s.uaTakeRate p rate).Canonical :=
  .setPort (.set (.set (.uaRebase h)))

theorem State.Canonical.uaConfigure {p div cfg de trig : Nat} (h : s.Canonical) :
    (s.uaConfigure p div cfg de trig).Canonical :=
  .ite (.uaTakeRate (.setPort (.set (.set (.set (.set (.set (.set (.set (.set h))))))))))
    (.setPort (.set (.set (.set (.set (.set (.set (.set (.set h)))))))))

theorem State.Canonical.uaMove {p n : Nat} (h : s.Canonical) : (s.uaMove p n).Canonical := by
  unfold State.uaMove
  split
  · exact h
  · exact .setPort (.putStreamFrom h)

theorem State.Canonical.uaRecvEnd {p : Nat} {timeout : Bool} (h : s.Canonical) :
    (s.uaRecvEnd p timeout).Canonical := by
  unfold State.uaRecvEnd
  split
  · exact h
  · exact .post (.setPort h)

theorem State.Canonical.uaDma {n p : Nat} (h : s.Canonical) : (State.uaDma n p s).Canonical := by
  induction n generalizing s with
  | zero => exact h
  | succ n ih =>
      unfold State.uaDma
      split
      · exact h
      · exact .ite h (.ite (.uaMove h) (ih (.uaRecvEnd (.uaMove h))))

theorem State.Canonical.uaStore {p v : Nat} (h : s.Canonical) : (s.uaStore p v).Canonical :=
  .uaDma (.ite (.setPort (.add h)) (.ite (.set (.add (.setPort (.add h)))) (.raise
    (.setPort (.set (.add (.setPort (.add h))))))))

theorem State.Canonical.autobaud {demand measured : Nat} (h : s.Canonical) : (s.autobaud demand measured).Canonical :=
  .when (.ite (.setPort (.setFlag h)) (.raise (.uaTakeRate (.setPort (.setFlag h))))) .raise

theorem State.Canonical.measureStart {c : UartChar} (h : s.Canonical) : (s.measureStart c).Canonical := by
  unfold State.measureStart
  refine .ite ?_ h
  split
  · exact .autobaud h
  · exact .add h

theorem State.Canonical.uaBreak {p : Nat} (h : s.Canonical) : (s.uaBreak p).Canonical :=
  .ite (.set (.add h)) (.raise (.setPort (.set (.add h))))

theorem State.Canonical.uaError {p : Nat} (h : s.Canonical) : (s.uaError p).Canonical := by
  unfold State.uaError
  split
  · exact h
  · exact .setPort h

theorem State.Canonical.uaSort {p : Nat} {c : UartChar} (h : s.Canonical) : (s.uaSort p c).Canonical :=
  .ite (.when (.when (.when (.when (.ite (.withTm h) h) .add) .add) .uaError) .uaQueue)
    (.ite (.add (.when (.when (.when (.when (.ite (.withTm h) h) .add) .add) .uaError) .uaQueue))
    (.uaStore (.when (.when (.when (.when (.ite (.withTm h) h) .add) .add) .uaError) .uaQueue)))

theorem State.Canonical.uaDecide {p : Nat} {c : UartChar} (h : s.Canonical) : (s.uaDecide p c).Canonical :=
  .ite (.add (.when h .add)) (.ite (.uaBreak (.when h .add)) (.uaSort (.when h .add)))

theorem State.Canonical.uaReceive {p : Nat} {c : UartChar} (h : s.Canonical) : (s.uaReceive p c).Canonical :=
  .ite (.setPort h) (.ite (.measureStart (.ite (.setPort h) (.uaDecide (.setPort h)))) (.ite (.setPort h)
    (.uaDecide (.setPort h))))

theorem State.Canonical.uaLoopTo {p : Nat} {x : UaXfr} {n : Nat} (h : s.Canonical) : (s.uaLoopTo p x n).Canonical :=
  .ite (.foldl (.setPort h) .uaReceive) h

theorem State.Canonical.uaCharacter {p : Nat} {c : UartChar} (h : s.Canonical) :
    (State.uaCharacter p c s).Canonical := by
  unfold State.uaCharacter
  refine .ite ?_ h
  refine .ite ?_ (.uaReceive h)
  split
  · exact h
  · exact .ite (.onTime h .uaLoopTo) h

theorem State.Canonical.uaStopSends {p running waiting : Nat} (h : s.Canonical) :
    (s.uaStopSends p running waiting).Canonical := by
  unfold State.uaStopSends
  split
  · exact h
  · exact .postAll (.setPort (.add (.uaCount (.uaLoopTo h))))

theorem State.Canonical.uaStopRecvs {p running waiting : Nat} (h : s.Canonical) :
    (s.uaStopRecvs p running waiting).Canonical := by
  unfold State.uaStopRecvs
  split
  · exact h
  · exact .postAll (.setPort h)

theorem State.Canonical.uaFlush {p : Nat} (h : s.Canonical) : (s.uaFlush p).Canonical :=
  .setPort (.uaStopRecvs (.uaStopSends h))

theorem State.Canonical.uaFreeze (h : s.Canonical) : s.uaFreeze.Canonical :=
  .foldl h fun h => .uaStopRecvs (.uaStopSends h)

theorem State.Canonical.uaStop {p : Nat} (h : s.Canonical) : (s.uaStop p).Canonical := .uaQuiet (.set (.set h))

theorem State.Canonical.uaStopAll (h : s.Canonical) : s.uaStopAll.Canonical := .foldl h .uaStop

theorem State.Canonical.uaTake {p div cfg de trig : Nat} (h : s.Canonical) : (s.uaTake p div cfg de trig).Canonical :=
  .raise (.set (.set (.uaConfigure (.set (.setMaskBit (.uaQuiet (.uaFlush h)))))))

theorem State.Canonical.uaReturn {p : Nat} (h : s.Canonical) : (s.uaReturn p).Canonical :=
  .raise (.uaQuiet (.set (.set (.setMaskBit h))))

theorem State.Canonical.uaIdle {p : Nat} (h : s.Canonical) : (s.uaIdle p).Canonical := by
  unfold State.uaIdle
  split
  · exact h
  · exact .ite (.uaRecvEnd (.uaMove h)) (.uaMove h)

theorem State.Canonical.uartRxIdle {p : Nat} (h : s.Canonical) : (uartRxIdle p s).Canonical :=
  .ite (.onTime h .uaIdle) h

theorem State.Canonical.uaSent {p : Nat} {x : UaXfr} {rest : List UaXfr} (h : s.Canonical) :
    (s.uaSent p x rest).Canonical := .post (.setPort (.add (.uaCount (.uaLoopTo h))))

theorem State.Canonical.uartSendDone {p : Nat} (h : s.Canonical) : (uartSendDone p s).Canonical := by
  unfold Machine.uartSendDone
  split
  · exact h
  · exact .ite (.onTime h .uaSent) h

theorem State.Canonical.uartSleep {p : Nat} (h : s.Canonical) : (uartSleep p s).Canonical :=
  .ite (.onTime h fun h => .when h .set) h

theorem State.Canonical.uartWake {p : Nat} (h : s.Canonical) : (uartWake p s).Canonical :=
  .ite (.when (.setPort (.set h)) .add) h

theorem State.Canonical.uacfg {op : Op} (h : s.Canonical) : (uacfg op s).Canonical :=
  .issue h fun h => .judge h fun h => .ite (.post (.set (.set (.uaConfigure h)))) (.post (.when (.uaFlush h) .uaStop))

theorem State.Canonical.uaxfr {op : Op} (h : s.Canonical) : (uaxfr op s).Canonical :=
  .issue h fun h => .judge h fun h => .ite (.post h)
    (.ite (.ite (.post h) (.set (.setPort h))) (.ite (.post h) (.uaDma (.setPort h))))

theorem CanonicalIfSome.uaWrite {w : Writer} {o v m : Nat} (h : s.Canonical) : CanonicalIfSome (uaWrite w o v m s) :=
  .ite (.writeIf h) (.ite (.writeIf h) (.plainWrite h))

/-! ### The functions of Nand -/

theorem State.Canonical.checkCapacity (h : s.Canonical) : s.checkCapacity.Canonical :=
  .ite (.set (.set h)) (.raise (.setFlag (.set (.set h))))

theorem State.Canonical.setFl {fl : Flash} (h : s.Canonical) : (s.setFl fl).Canonical := .withFl h

theorem State.Canonical.showWear (h : s.Canonical) : s.showWear.Canonical := .set (.set h)

theorem State.Canonical.eraseStripe {k : Nat} (h : s.Canonical) : (s.eraseStripe k).Canonical := .showWear (.setFl h)

theorem State.Canonical.showErased (h : s.Canonical) : s.showErased.Canonical := .set h

theorem State.Canonical.eraseFree {n : Nat} (h : s.Canonical) : (State.eraseFree n s).Canonical := by
  induction n generalizing s with
  | zero => exact h
  | succ n ih =>
      unfold State.eraseFree
      split
      · exact ih (.setFl (.eraseStripe h))
      · exact h

theorem State.Canonical.keepErased (h : s.Canonical) : s.keepErased.Canonical := .showErased (.when h .eraseFree)

theorem State.Canonical.pickStripe {n : Nat} {t : State} (h : s.Canonical) (e : s.pickStripe = some (n, t)) :
    t.Canonical := by
  obtain ⟨k, -, hk⟩ := Option.map_eq_some_iff.mp e
  cases hk
  exact .setFl (.ite h (.eraseStripe h))

theorem CanonicalIfSome.takeStripe {use : StripeUse} (h : s.Canonical) : CanonicalIfSome (s.takeStripe use) := by
  intro t e
  obtain ⟨⟨k, u⟩, hu, rfl⟩ := Option.map_eq_some_iff.mp e
  exact .setFl (h.pickStripe hu)

theorem CanonicalIfSome.takeStripes {use : StripeUse} {n : Nat} (h : s.Canonical) :
    CanonicalIfSome (State.takeStripes use n s) := by
  induction n generalizing s with
  | zero => exact .some h
  | succ n ih =>
      intro t e
      obtain ⟨u, hu, ht⟩ := Option.bind_eq_some_iff.mp e
      exact ih (.ofSome hu (.takeStripe h)) t ht

theorem State.Canonical.dropUse {use : StripeUse} (h : s.Canonical) : (s.dropUse use).Canonical := .setFl h

theorem State.Canonical.renameUse {old new : StripeUse} (h : s.Canonical) : (s.renameUse old new).Canonical :=
  .setFl h

theorem State.Canonical.growRing {n : Nat} (h : s.Canonical) : (State.growRing n s).Canonical := by
  induction n generalizing s with
  | zero => exact h
  | succ n ih =>
      unfold State.growRing
      split
      · exact ih (.setFl h)
      · exact h

theorem State.Canonical.fitRing (h : s.Canonical) : s.fitRing.Canonical :=
  .ite h (.ite (.setFl (.setFl h)) (.growRing (.setFl h)))

theorem State.Canonical.turnRing {n : Nat} (h : s.Canonical) : (s.turnRing n).Canonical := by
  unfold State.turnRing
  refine .ite h ?_
  dsimp only
  refine .ite ?_ h
  split
  · exact .setFl (.eraseStripe h)
  · exact h

theorem State.Canonical.showFlashRate (h : s.Canonical) : s.showFlashRate.Canonical := .set h

theorem State.Canonical.showRate (h : s.Canonical) : s.showRate.Canonical := .showFlashRate (.set h)

theorem State.Canonical.codewordRead {source : Nat} {c : CodewordRead} (h : s.Canonical) :
    (State.codewordRead source s c).Canonical := .ite (.when (.add h) .add) (.raise (.add (.setFl (.add h))))

theorem State.Canonical.markWeak {k : Nat} (h : s.Canonical) : (s.markWeak k).Canonical := .ite (.setFl h) h

theorem State.Canonical.timeProgram {p : Nat × Nat} (h : s.Canonical) : (s.timeProgram p).Canonical := .setFl h

theorem State.Canonical.flashWork {source : Nat} {tests : Bool} {k : FlashWork} (h : s.Canonical) :
    (s.flashWork source tests k).Canonical :=
  .ite (.when (.foldl h .codewordRead) fun h => .foldl h .markWeak)
    (.showRate (.foldl (.when (.foldl h .codewordRead) fun h => .foldl h .markWeak) .timeProgram))

theorem State.Canonical.programmed {n j : Nat} (h : s.Canonical) : (s.programmed n j).Canonical := by
  unfold State.programmed
  dsimp only
  exact .setFl h

theorem State.Canonical.programCodeword {area owner : Nat} {e : Nat × Option (List Nat)} (h : s.Canonical) :
    (State.programCodeword area owner s e).Canonical := by
  unfold State.programCodeword
  dsimp only
  split
  · exact .setFl (.programmed h)
  · exact .setFl (.draw (.programmed h))

theorem State.Canonical.programAll {area owner : Nat} {l : List (Nat × Option (List Nat))} (h : s.Canonical) :
    (s.programAll area owner l).Canonical := .foldl h .programCodeword

theorem State.Canonical.programBytes {area owner first : Nat} {bytes : List Nat} (h : s.Canonical) :
    (s.programBytes area owner first bytes).Canonical := .programAll h

theorem State.Canonical.forgetLost {areas : List Nat} (h : s.Canonical) : (s.forgetLost areas).Canonical := .setFl h

theorem State.Canonical.writeRoot {was : Flash} {r : Root} (h : s.Canonical) : (s.writeRoot was r).Canonical :=
  .programAll (.setFl h)

theorem State.Canonical.updateRoot {was : Flash} {slot cut : Nat} (h : s.Canonical) :
    (s.updateRoot was slot cut).Canonical := by
  unfold State.updateRoot
  split
  · exact .writeRoot (.setFl h)
  · exact h

/-! ### The functions of Shadow -/

theorem State.Canonical.showDirty (h : s.Canonical) : s.showDirty.Canonical :=
  .foldl (.set (.set h)) fun h => .ite (.set h) h

theorem State.Canonical.putRegion {r : Region} (h : s.Canonical) : (s.putRegion r).Canonical :=
  .set (.set (.set (.set (.set h))))

theorem State.Canonical.dropRegion {k : Nat} (h : s.Canonical) : (s.dropRegion k).Canonical :=
  .set (.set (.set (.set (.set (.set h)))))

theorem State.Canonical.setRecord {r : SaveRecord} (h : s.Canonical) : (s.setRecord r).Canonical := .withSv h

theorem State.Canonical.saveTable (h : s.Canonical) : s.saveTable.Canonical := .setRecord h

theorem State.Canonical.freeze {cause p : Nat} (h : s.Canonical) : (s.freeze cause p).Canonical :=
  .ite h (.raise (.setRecord (.setFlag h)))

theorem State.Canonical.markDirty {p : Nat} (h : s.Canonical) : (s.markDirty p).Canonical :=
  .ite h (.showDirty (.withSh h))

theorem State.Canonical.overflow {p : Nat} (h : s.Canonical) : (s.overflow p).Canonical :=
  .freeze (.when (.withSh (.markDirty (.add h))) .raise)

theorem State.Canonical.showFill (h : s.Canonical) : s.showFill.Canonical := .set h

theorem State.Canonical.place (h : s.Canonical) : s.place.Canonical := by
  unfold State.place
  dsimp only
  exact .ite h (.ite (.raise (.setFlag h)) (.ite h (.withSh h)))

theorem State.Canonical.capture {addr : Nat} {bytes : Sparse Nat} (h : s.Canonical) :
    (s.capture addr bytes).Canonical := by
  unfold State.capture
  dsimp only
  refine .ite ?_ (.markDirty h)
  refine .ite h ?_
  split
  · exact .withSh (.withSh h)
  · exact .ite (.overflow (.withSh h)) (.place (.withSh (.withSh h)))

theorem State.Canonical.writePage (h : s.Canonical) : s.writePage.Canonical := by
  unfold State.writePage
  dsimp only
  refine .place ?_
  refine .showFill ?_
  split
  · exact .setPair (.withSh (.setFl (.programAll (.turnRing (.setPair h)))))
  · exact .withSh (.setFl (.programAll (.turnRing (.setPair h))))

theorem State.Canonical.journalPageWritten {work : FlashWork} (h : s.Canonical) :
    (journalPageWritten work s).Canonical := .ite (.writePage (.flashWork h)) h

theorem State.Canonical.journalPageTimeout (h : s.Canonical) : (journalPageTimeout s).Canonical :=
  .ite h (.onTime h .withSh)

theorem State.Canonical.flushPages {n : Nat} (h : s.Canonical) : (State.flushPages n s).Canonical := by
  induction n generalizing s with
  | zero => exact h
  | succ n ih => exact .ite h (ih (.writePage h))

theorem State.Canonical.flushAll (h : s.Canonical) : s.flushAll.Canonical := .flushPages (.place h)

theorem State.Canonical.createBarrier {w : FenceWait} (h : s.Canonical) : (s.createBarrier w).Canonical :=
  .when (.withSh (.setPair h)) .withSh

theorem State.Canonical.numberFences {l : List FenceWait} (h : s.Canonical) : (s.numberFences l).Canonical :=
  .postAll (.place (.foldl h .createBarrier))

theorem State.Canonical.settleFences (h : s.Canonical) : s.settleFences.Canonical := .numberFences (.withSh h)

theorem State.Canonical.makeBarrier {ref : OpRef} {durable : Bool} (h : s.Canonical) :
    (s.makeBarrier ref durable).Canonical := by
  unfold State.makeBarrier
  dsimp only
  exact .settleFences (.withSh h)

theorem State.Canonical.pfence {op : Op} (h : s.Canonical) : (pfence op s).Canonical :=
  .ite h (.issue h fun h => .judge h .makeBarrier)

theorem State.Canonical.fencesDone (h : s.Canonical) : s.fencesDone.Canonical := .postAll (.withSh h)

theorem State.Canonical.abandonFold {cause status : Nat} (h : s.Canonical) :
    (s.abandonFold cause status).Canonical := by
  unfold State.abandonFold
  split
  · exact h
  · exact .postOpt (.raise (.setFlag (.withSh h)))

theorem State.Canonical.relieveJournal (h : s.Canonical) : s.relieveJournal.Canonical :=
  .ite (.place (.raise (.setFlag (.showFill h)))) (.showFill h)

theorem CanonicalIfSome.writeGeneration {gen : Nat} {m : Image} (h : s.Canonical) :
    CanonicalIfSome (s.writeGeneration gen m) :=
  .map (.takeStripes h) fun h => .programAll (.programAll (.forgetLost h))

theorem State.Canonical.switchBase {was : Flash} {cut : Nat} (h : s.Canonical) : (s.switchBase was cut).Canonical :=
  .keepErased (.updateRoot (.setFl
    (.ite (.forgetLost (.renameUse (.dropUse (.dropUse h)))) (.renameUse (.dropUse (.dropUse h))))))

theorem State.Canonical.beginEpoch {base : Image} {dirty : List Nat} (h : s.Canonical) :
    (s.beginEpoch base dirty).Canonical :=
  .setRecord (.setFlag (.setFlag (.setFlag (.setFl (.withSh (.setPair (.add (.abandonFold h))))))))

theorem State.Canonical.endRenewal {cause : Nat} (h : s.Canonical) : (s.endRenewal cause).Canonical :=
  .place (.fencesDone (.relieveJournal (.raise (.showDirty h))))

theorem CanonicalIfSome.renew {cause : Nat} {base : Image} {dirty : List Nat} (h : s.Canonical) :
    CanonicalIfSome (s.renew cause base dirty) :=
  .map (.writeGeneration h) fun h => .endRenewal (.switchBase (.setFl (.add (.beginEpoch h))))

theorem State.Canonical.dropSave (h : s.Canonical) : s.dropSave.Canonical := .forgetLost (.dropUse (.setFl h))

theorem State.Canonical.renewRestored {base : Image} {dirty : List Nat} {kept : List JPage} {exact fresh : Bool}
    (h : s.Canonical) : (s.renewRestored base dirty kept exact fresh).Canonical := by
  unfold State.renewRestored
  dsimp only
  refine .ite ?_ (.endRenewal (.keepErased
    (.updateRoot (.dropSave (.ite (.renameUse (.setFl (.beginEpoch h))) (.setFl (.beginEpoch h)))))))
  split
  · next e =>
      exact .endRenewal (.switchBase (.dropSave (.setFl (.beginEpoch (.ofSome e (.writeGeneration h))))))
  · exact h

theorem State.Canonical.regionChanged {a : RegionArgs} {n : Nat} (h : s.Canonical) :
    (s.regionChanged a n).Canonical := .raise h

theorem State.Canonical.defineRegion {ref : OpRef} {a : RegionArgs} (h : s.Canonical) :
    (s.defineRegion ref a).Canonical := by
  unfold State.defineRegion
  refine .ite (.post h) ?_
  refine .ite (.post h) ?_
  dsimp only
  refine .post ?_
  split
  · exact .when (.regionChanged (.showDirty (.checkCapacity (.saveTable (.putRegion h))))) .freeze
  · exact .regionChanged (.showDirty (.checkCapacity (.saveTable (.putRegion h))))

theorem State.Canonical.retireRegion {ref : OpRef} {a : RegionArgs} (h : s.Canonical) :
    (s.retireRegion ref a).Canonical :=
  .ite (.post (.regionChanged (.showDirty (.checkCapacity (.saveTable (.dropRegion h)))))) (.post h)

theorem State.Canonical.reprioritise {ref : OpRef} {a : RegionArgs} (h : s.Canonical) :
    (s.reprioritise ref a).Canonical := .ite (.post (.regionChanged (.saveTable (.set h)))) (.post h)

theorem State.Canonical.region {op : Op} (h : s.Canonical) : (region op s).Canonical := by
  unfold Machine.region
  dsimp only
  refine .issue h fun h => ?_
  refine .judge h fun h => ?_
  split
  · exact .defineRegion h
  · exact .retireRegion h
  · exact .reprioritise h

theorem State.Canonical.beginFold {ref : Option OpRef} (h : s.Canonical) : (s.beginFold ref).Canonical :=
  .setFlag (.withSh h)

theorem State.Canonical.foldInstr {op : Op} (h : s.Canonical) : (foldInstr op s).Canonical := by
  unfold Machine.foldInstr
  refine .issue h fun h => ?_
  refine .judge h fun h => ?_
  split
  · exact .ite (.post h) (.beginFold h)
  · exact .post (.setFlag h)
  · exact .post (.setFlag h)

theorem State.Canonical.foldAutoStart (h : s.Canonical) : (foldAutoStart s).Canonical := .ite (.beginFold h) h

theorem State.Canonical.commitFold {was : Flash} {f : Fold} {folded : List JPage} (h : s.Canonical) :
    (s.commitFold was f folded).Canonical :=
  .postOpt (.relieveJournal (.raise (.showFill (.withSh (.setFlag (.switchBase (.add (.setFl h))))))))

theorem State.Canonical.foldCommit {work : FlashWork} (h : s.Canonical) : (foldCommit work s).Canonical := by
  unfold Machine.foldCommit
  split
  · refine .ite h ?_
    dsimp only
    split
    · next e =>
        exact .ite (.commitFold (.setFl (.ofSome e (.writeGeneration (.flashWork h))))) (.abandonFold (.flashWork h))
    · exact .abandonFold (.flashWork h)
  · exact h

theorem State.Canonical.foldAbandoned {work : FlashWork} (h : s.Canonical) : (foldAbandoned work s).Canonical :=
  .ite (.abandonFold (.flashWork h)) h

theorem State.Canonical.shadowLoop (h : s.Canonical) : s.shadowLoop.Canonical :=
  .ite (.when (.withSh (.setFlag (.set h))) .raise) h

theorem State.Canonical.shadowLoopUpdate (h : s.Canonical) : (shadowLoopUpdate s).Canonical :=
  .ite (.shadowLoop (.withSh h)) h

theorem State.Canonical.marginEpisode {bit : Field} {below : Bool} {run code which : Nat} (h : s.Canonical) :
    (s.marginEpisode bit below run code which).1.Canonical :=
  .ite_fst (.when (.setFlag h) .raise) (.ite_fst (.ite_fst (.raise (.setFlag h)) h) h)

/-- R170, R171. The save margin is a variable here, since to check the bare unfolding the kernel would count it out. -/
theorem State.Canonical.accountHoldup (h : s.Canonical) : s.accountHoldup.Canonical := by
  obtain ⟨margin, hmargin⟩ : ∃ margin, State.saveMargin = margin := ⟨_, rfl⟩
  have hdef : State.accountHoldup = State.accountHoldup := rfl
  conv at hdef => rhs; delta State.accountHoldup; rw [hmargin]
  rw [hdef]
  dsimp only
  exact .withSh (.marginEpisode (.marginEpisode (.set (.setS (.set (.set h))))))

theorem State.Canonical.holdupAccounting (h : s.Canonical) : (holdupAccounting s).Canonical :=
  .ite (.accountHoldup (.withSh h)) h

theorem State.Canonical.shadowManual {was : Bool} (h : s.Canonical) : (s.shadowManual was).Canonical :=
  .ite (.ite h (.set h)) (.setFlag (.set (.withSh h)))

theorem CanonicalIfSome.shWrite {w : Writer} {o v m : Nat} (h : s.Canonical) : CanonicalIfSome (shWrite w o v m s) :=
  .ite (.map (.plainWrite h) .shadowManual) (.ite (.writeIf h) (.ite (.writeIf h)
    (.ite (.writeIf h) (.ite (.writeIf h) (.plainWrite h)))))

/-! ### The functions of Flash -/

theorem State.Canonical.showAmplification (h : s.Canonical) : s.showAmplification.Canonical := by
  unfold State.showAmplification
  dsimp only
  exact .ite (.set (.draw h)) (.set h)

theorem State.Canonical.recomputeLife (h : s.Canonical) : s.recomputeLife.Canonical :=
  .ite (.when (.setFl (.set (.set (.showAmplification h)))) .raise)
    (.ite (.ite (.setFl (.set (.set (.showAmplification h)))) (.setFl (.set (.set (.showAmplification h)))))
    (.set (.set (.showAmplification h))))

theorem State.Canonical.lifeRecompute (h : s.Canonical) : (lifeRecompute s).Canonical :=
  .ite (.onTime h fun h => .recomputeLife (.setFl h)) h

theorem State.Canonical.formatPlane {stripes p : Nat} (h : s.Canonical) : (State.formatPlane stripes s p).Canonical :=
  .setFl h

theorem CanonicalIfSome.moveStripe {k : Nat} (h : s.Canonical) : CanonicalIfSome (s.moveStripe k) := by
  refine .ite (fun t e => ?_) .none
  obtain ⟨⟨n, u⟩, hu, rfl⟩ := Option.map_eq_some_iff.mp e
  exact .programmed (.setFl (h.pickStripe hu))

theorem State.Canonical.withdrawStripe {k p : Nat} (h : s.Canonical) : (s.withdrawStripe k p).Canonical :=
  .showWear (.set (.setFl h))

theorem State.Canonical.retireStripe {k p : Nat} (h : s.Canonical) : (s.retireStripe k p).Canonical := by
  unfold State.retireStripe
  refine .ite ?_ (.withdrawStripe h)
  split
  · next e =>
      exact .withdrawStripe (.ofSome e (.moveStripe h))
  · exact h

theorem State.Canonical.replaceSystem {p pos : Nat} (h : s.Canonical) : (s.replaceSystem p pos).Canonical := by
  unfold State.replaceSystem
  split
  · exact h
  · exact .programmed (.setFl h)

theorem State.Canonical.replaceBlock {p b : Nat} (h : s.Canonical) : (s.replaceBlock p b).Canonical := by
  unfold State.replaceBlock
  dsimp only
  refine .ite (.setFl (.setFl h)) ?_
  split
  · exact .replaceSystem (.setFl h)
  · exact .setFl h
  · exact .retireStripe (.setFl h)
  · exact .when (.setFl (.setFl h)) .programmed

theorem State.Canonical.blockRetired {plane block cause : Nat} {work : FlashWork} (h : s.Canonical) :
    (blockRetired plane block cause work s).Canonical :=
  .ite (.checkCapacity (.keepErased (.when (.flashWork (.raise (.addHold (.replaceBlock h)))) fun h => .raise
    (.setFlag h)))) h

theorem State.Canonical.probe {targets : List FoundTarget} (h : s.Canonical) : (s.probe targets).Canonical :=
  .showRate (.setFl (.set (.foldl h .raise)))

theorem State.Canonical.formatStore {uids : List Nat} {bad : List (Nat × Nat)} (h : s.Canonical) :
    (s.formatStore uids bad).Canonical :=
  .writeRoot (.programAll (.fitRing (.set (.foldl (.setFl (.setFl h)) .formatPlane))))

theorem State.Canonical.beginPatrol (h : s.Canonical) : s.beginPatrol.Canonical :=
  .when (.setFl (.setFlag h)) fun h => .showFlashRate (.raise (.set (.setFlag (.setFl h))))

theorem State.Canonical.endScan (h : s.Canonical) : s.endScan.Canonical := .ite (.showFlashRate (.set (.setFlag h))) h

theorem State.Canonical.storeReady {outcome : Nat} (h : s.Canonical) : (s.storeReady outcome).Canonical :=
  .place (.beginPatrol (.showFill (.checkCapacity
    (.showWear (.raise (.setFl
    (.keepErased (.fitRing (.setFlag (.set (.set (.setFlag (.setFlag (.setFlag h))))))))))))))

theorem State.Canonical.openStore {r : Root} (h : s.Canonical) : (s.openStore r).Canonical :=
  .storeReady (.setPair (.setFl (.dropUse (.set (.set h)))))

theorem State.Canonical.flashOpen {targets : List FoundTarget} {bad : List (Nat × Nat)} {work : FlashWork}
    (h : s.Canonical) : (flashOpen targets bad work s).Canonical := by
  unfold Machine.flashOpen
  refine .ite h ?_
  refine .ite (.storeReady (.formatStore h)) ?_
  dsimp only
  split
  · exact .setFlag (.flashWork (.probe h))
  · exact .ite (.openStore (.flashWork (.probe h))) (.setFlag (.raise (.setFlag (.flashWork (.probe h)))))

theorem State.Canonical.patrolDone {codewords : Nat} {work : FlashWork} (h : s.Canonical) :
    (patrolDone codewords work s).Canonical := .ite (.setFl (.endScan (.raise (.flashWork h)))) h

theorem State.Canonical.refreshStripe {k : Nat} (h : s.Canonical) : (s.refreshStripe k).Canonical := by
  unfold State.refreshStripe
  split
  · next e _ => exact .keepErased (.setFl (.updateRoot (.ofSome e (.moveStripe h))))
  · exact h

theorem State.Canonical.stripeRefresh {patrol work : FlashWork} (h : s.Canonical) :
    (stripeRefresh patrol work s).Canonical := by
  unfold Machine.stripeRefresh
  refine .ite ?_ h
  dsimp only
  split
  · exact .flashWork (.refreshStripe (.flashWork h))
  · exact .flashWork h

theorem State.Canonical.wearLevelMove {work : FlashWork} (h : s.Canonical) : (wearLevelMove work s).Canonical := by
  unfold Machine.wearLevelMove
  refine .ite ?_ h
  split
  · next e =>
    obtain ⟨k, -, hk⟩ := Option.bind_eq_some_iff.mp e
    exact .keepErased (.flashWork (.programmed (.ofSome hk (.takeStripe h))))
  · exact h

theorem State.Canonical.flinfo {op : Op} (h : s.Canonical) : (flinfo op s).Canonical :=
  .issue h fun h => .judge h fun h => .post (.recomputeLife h)

theorem State.Canonical.shareWritten {t : State} (h : t.Canonical) : (t.shareWritten).Canonical :=
  .ite (.set (.setFl h)) (.showFlashRate h)

theorem CanonicalIfSome.flWrite {w : Writer} {o v m : Nat} (h : s.Canonical) : CanonicalIfSome (flWrite w o v m s) :=
  .ite (.map (.writeIf h) .shareWritten) (.ite (.writeIf h) (.ite (.writeIf h)
    (.ite (.writeIf h) (.ite (.map (.writeIf h) .keepErased) (.ite (.writeIf h) (.plainWrite h))))))

/-! ### The functions of HostPath -/

theorem State.Canonical.ownChange {new : Nat} {block : Bool} {cause : Nat} (h : s.Canonical) :
    (s.ownChange new block cause).Canonical := .raise (.setFlag (.set h))

theorem State.Canonical.zeroUnits {start units : Nat} (h : s.Canonical) : (s.zeroUnits start units).Canonical :=
  .withDram h (Image.wf_fill _ h.dram)

theorem State.Canonical.dramRailStart (h : s.Canonical) : s.dramRailStart.Canonical :=
  .ownChange (.setFlag (.setFlag (.setFlag (.setFlag (.setFlag (.withDram h rfl))))))

theorem State.Canonical.trainingPassStart {pass : Nat} (h : s.Canonical) : (trainingPassStart pass s).Canonical :=
  .ite (.withHp h rfl) h

theorem State.Canonical.beginScrub (h : s.Canonical) : s.beginScrub.Canonical := .withHp (.setFlag (.setFlag h)) rfl

theorem State.Canonical.trainingDone {failure : Option (Nat × Nat)} (h : s.Canonical) :
    (trainingDone failure s).Canonical := by
  unfold Machine.trainingDone
  split
  · exact h
  · dsimp only
    split
    · exact .raiseFault (.withHp h rfl)
    · exact .ite (.setFlag (.withHp h rfl)) (.withHp (.setFlag (.withHp h rfl)) rfl)

theorem State.Canonical.repeatPasses (h : s.Canonical) : s.repeatPasses.Canonical :=
  .withHp (.setFlag (.setFlag h)) rfl

theorem State.Canonical.redoHostPass (h : s.Canonical) : s.redoHostPass.Canonical := .withHp (.setFlag h) rfl

theorem State.Canonical.speedWord {mts : Nat} (h : s.Canonical) : (speedWord mts s).Canonical :=
  .ite (.ite (.withHp (.when h fun h => .redoHostPass (.set h)) rfl) h) (.violate h)

theorem State.Canonical.release (h : s.Canonical) : s.release.Canonical := .ownChange (.withHp h rfl)

theorem State.Canonical.claim (h : s.Canonical) : s.claim.Canonical :=
  .ite (.withHp (.beginScrub h) rfl) (.ite (.withHp h rfl) (.release h))

theorem CanonicalIfSome.ownctlWrite {w : Writer} {v m : Nat} (h : s.Canonical) :
    CanonicalIfSome (ownctlWrite w v m s) := .ite .none (.ite (.some (.repeatPasses h)) (.some (.when h .claim)))

theorem State.Canonical.discardImage (h : s.Canonical) : s.discardImage.Canonical :=
  .ite h (.raise (.dropSave (.setFl (.setRecord (.set h)))))

theorem State.Canonical.scrubEnd {work : FlashWork} (h : s.Canonical) : (scrubEnd work s).Canonical :=
  .ite (.when (.getD (.renew (.discardImage (.raise (.setFlag (.zeroUnits (.flashWork h)))))) (.discardImage
    (.raise (.setFlag (.zeroUnits (.flashWork h)))))) .release) h

theorem State.Canonical.showScrubs (h : s.Canonical) : s.showScrubs.Canonical := .set h

theorem State.Canonical.closeLend {status result : Nat} (h : s.Canonical) :
    (s.closeLend status result).Canonical := by
  unfold State.closeLend
  split
  · exact h
  · exact .post (.withHp h rfl)

theorem State.Canonical.endWindow {status : Nat} (h : s.Canonical) : (s.endWindow status).Canonical :=
  .closeLend (.ownChange (.withHp h rfl))

theorem State.Canonical.dropScrubs (h : s.Canonical) : s.dropScrubs.Canonical :=
  .showScrubs (.postAll (.withHp h rfl))

theorem State.Canonical.runScrubs {l : List ScrubReq} {units : Nat} (h : s.Canonical) :
    (runScrubs l units s).1.Canonical := by
  induction l generalizing s units with
  | nil => exact h
  | cons q l ih => exact .ite_fst (ih (.post (.raise (.zeroUnits h)))) (.zeroUnits h)

theorem State.Canonical.advanceScrubs {units : Nat} (h : s.Canonical) : (s.advanceScrubs units).Canonical := by
  unfold State.advanceScrubs
  dsimp only
  exact .showScrubs (.withHp (.runScrubs h) rfl)

theorem State.Canonical.openLend (h : s.Canonical) : s.openLend.Canonical := by
  unfold State.openLend
  split
  · exact .ite (.ite (.ite (.closeLend (.ownChange (.dropScrubs (.ownChange (.withHp h rfl)))))
      (.dropScrubs (.ownChange (.withHp h rfl)))) (.ite (.repeatPasses (.ownChange (.withHp h rfl))) (.ownChange
      (.withHp h rfl)))) h
  · exact h

theorem State.Canonical.cutLend {units : Nat} (h : s.Canonical) : (s.cutLend units).Canonical := by
  unfold State.cutLend
  split
  · exact h
  · exact .endWindow (.advanceScrubs h)
  · exact .endWindow (.withHp h rfl)
  · exact .endWindow h

theorem State.Canonical.lendPurposeDone {work : FlashWork} (h : s.Canonical) :
    (lendPurposeDone work s).Canonical := by
  unfold Machine.lendPurposeDone
  split
  · dsimp only
    split
    · next e =>
        exact .endWindow (.ofSome e (.renew (.flashWork h)))
    · exact .cutLend (.flashWork h)
  · exact .endWindow (.advanceScrubs h)
  · exact .ite (.endWindow h) h
  · exact h

theorem State.Canonical.lendMaxdurExpiry {units : Nat} (h : s.Canonical) : (lendMaxdurExpiry units s).Canonical := by
  unfold Machine.lendMaxdurExpiry
  split
  · exact .ite (.onTime h .cutLend) h
  · exact h

theorem State.Canonical.lendWaitTimeout (h : s.Canonical) : (lendWaitTimeout s).Canonical := by
  unfold Machine.lendWaitTimeout
  split
  · exact .ite (.onTime h .closeLend) h
  · exact h

theorem State.Canonical.hostSrx {rank units : Nat} (h : s.Canonical) : (hostSrx rank units s).Canonical :=
  .ite (.withHp (.cutLend (.raise h)) rfl) (.ite (.withHp h rfl) h)

theorem State.Canonical.lend {op : Op} (h : s.Canonical) : (lend op s).Canonical :=
  .issue h fun h => .judge h fun h => .withHp h rfl

theorem State.Canonical.scrub {op : Op} (h : s.Canonical) : (scrub op s).Canonical :=
  .issue h fun h => .judge h fun h => .ite (.post h) (.showScrubs (.withHp h rfl))

theorem State.Canonical.hostActPre {rank : Nat} {bank row : Option Nat} (h : s.Canonical) :
    (hostActPre rank bank row s).Canonical := .withHp h rfl

theorem State.Canonical.storeWord {value : Nat} (h : s.Canonical) : (s.storeWord value).Canonical := .withHp h rfl

theorem State.Canonical.controlWord {value : Nat} (h : s.Canonical) : (s.controlWord value).Canonical := by
  unfold State.controlWord
  refine .ite ?_ (.storeWord h)
  split
  · exact .rowWrite h (.apertureBaseWrite h)
  · exact .rowWrite h (.apertureBaseWrite h)
  · exact .rowWrite h (.apertureEnableWrite h)
  · exact h

theorem State.Canonical.hostMrs {rank mr value : Nat} {device : Option Nat} (h : s.Canonical) :
    (hostMrs rank mr value device s).Canonical := by
  unfold Machine.hostMrs
  refine .ite (.controlWord h) ?_
  split <;> exact .withHp h rfl

theorem State.Canonical.caParityError {rank : Nat} (h : s.Canonical) : (caParityError rank s).Canonical :=
  .when (.withHp (.add h) rfl) .raise

theorem State.Canonical.resetN (h : s.Canonical) : (resetN s).Canonical := by
  have hoff (x : HostPath) (hx : x.dram = s.hp.dram) :
      ({ ((s.setFlag HP_STATUS.HTRAIN false).setFlag QU_APCTL.EN false).set HP_RATE.MTS 1600 with hp := x } :
        State).Canonical := .withHp (.set (.setFlag (.setFlag h))) hx
  unfold Machine.resetN
  dsimp only
  split
  · exact .ownChange (hoff _ rfl)
  · exact .ownChange (hoff _ rfl)
  · exact hoff _ rfl
  · exact hoff _ rfl

theorem State.Canonical.freezeHostPath (h : s.Canonical) : s.freezeHostPath.Canonical := by
  unfold State.freezeHostPath
  dsimp only
  refine .postAll ?_
  refine .showScrubs ?_
  refine .withHp ?_ rfl
  split
  · exact .ite (.closeLend h) h
  · exact h

theorem State.Canonical.blockHost (h : s.Canonical) : s.blockHost.Canonical :=
  .ite (.closeLend (.ownChange (.withHp (.setFlag h) rfl))) (.ownChange (.withHp (.setFlag h) rfl))

theorem CanonicalIfSome.eccLockWrite {w : Writer} (h : s.Canonical) : CanonicalIfSome (eccLockWrite w s) :=
  .ite .none (.plainWrite h)

theorem CanonicalIfSome.hpWrite {w : Writer} {o v m : Nat} (h : s.Canonical) : CanonicalIfSome (hpWrite w o v m s) :=
  .ite (.ownctlWrite h) (.ite (.writeIf h) (.plainWrite h))

/-! ### The functions of Wellhead -/

theorem State.Canonical.raiseLater {code w5 w6 w7 : Nat} (h : s.Canonical) : (s.raiseLater code w5 w6 w7).Canonical :=
  .ite (.raise h) (.withTm h)

theorem State.Canonical.correctClock (h : s.Canonical) : s.correctClock.Canonical := .withTm h

theorem State.Canonical.showXtal (h : s.Canonical) : s.showXtal.Canonical := .ite (.correctClock (.setFlag h)) h

theorem State.Canonical.gateEvent {which : Nat} {before after : Bool} (h : s.Canonical) :
    (s.gateEvent which before after).Canonical := .ite h (.raise h)

theorem State.Canonical.setQuality {q : Nat} (h : s.Canonical) : (s.setQuality q).Canonical :=
  .ite h (.gateEvent (.gateEvent (.raise (.set (.set h)))))

theorem State.Canonical.setBound {ns : Nat} (h : s.Canonical) : (s.setBound ns).Canonical := .set (.withTm h)

theorem State.Canonical.stepTime {d : Int} {cause : Nat} (h : s.Canonical) : (s.stepTime d cause).Canonical :=
  .raise (.add (h.congr rfl rfl rfl))

theorem State.Canonical.qualify {k : Nat} {b : Bool} (h : s.Canonical) : (s.qualify k b).Canonical := .setMaskBit h

theorem State.Canonical.measure {k : Nat} {e : Int} (h : s.Canonical) : (s.measure k e).Canonical := .withTm h

theorem State.Canonical.selectSource {new : Nat} (h : s.Canonical) : (s.selectSource new).Canonical :=
  .ite h (.ite (.setQuality (.raise (.withTm (.set (.set h))))) (.raise (.withTm (.set (.set h)))))

theorem State.Canonical.dropSources (h : s.Canonical) : s.dropSources.Canonical := .selectSource (.withTm (.set h))

theorem State.Canonical.nameEdge {sec : Nat} {edge : Int} (h : s.Canonical) : (s.nameEdge sec edge).Canonical :=
  .ite h (.measure (.when (.withTm h) .qualify))

theorem State.Canonical.acceptEdge {edge : Int} (h : s.Canonical) : (s.acceptEdge edge).Canonical := by
  unfold State.acceptEdge
  dsimp only
  split
  · exact .nameEdge (.withTm (.measure (.withTm h)))
  · exact .measure (.withTm h)

theorem State.Canonical.judgeEdge {edge : Int} (h : s.Canonical) : (s.judgeEdge edge).Canonical :=
  .ite (.ite (.add h) (.acceptEdge h)) (.ite (.acceptEdge (.qualify (.withTm h))) (.withTm h))

theorem State.Canonical.giveCapture {t : Nat} {c : OpRef × Nat × Nat × Nat} (h : s.Canonical) :
    (State.giveCapture t s c).Canonical := .post (.set (.set (.set (.set h))))

theorem State.Canonical.takeCaptures {kind t : Nat} (h : s.Canonical) : (s.takeCaptures kind t).Canonical :=
  .foldl (.withTm h) .giveCapture

theorem State.Canonical.timeSet {delta : Int} (h : s.Canonical) : (s.timeSet delta).Canonical :=
  .oneCycle h fun h => .setQuality (.withTm (.setBound (.stepTime h)))

theorem State.Canonical.applyTset {t : Nat} (h : s.Canonical) : (s.applyTset t).Canonical := by
  unfold State.applyTset
  split
  · exact h
  · exact .ite (.post (.timeSet (.withTm h))) h

theorem State.Canonical.ppsEdge {t : Nat} (h : s.Canonical) : (ppsEdge t s).Canonical :=
  .ite (.applyTset (.takeCaptures (.judgeEdge h))) h

theorem State.Canonical.loseGnss (h : s.Canonical) : s.loseGnss.Canonical := .qualify (.withTm h)

theorem State.Canonical.takeSentence {m : NmeaSentence} {arrival : Nat} (h : s.Canonical) :
    (s.takeSentence m arrival).Canonical :=
  .ite (.ite (.withTm (.withTm (.when h .loseGnss)))
    (.ite (.nameEdge (.withTm (.when h .loseGnss))) (.withTm (.when h .loseGnss))))
    (.ite (.loseGnss (.add h)) (.add h))

theorem State.Canonical.nmeaSentence {arrival : Nat} (h : s.Canonical) : (nmeaSentence arrival s).Canonical := by
  unfold Machine.nmeaSentence
  refine .ite ?_ h
  split
  · exact .takeSentence (.withTm h)
  · exact h

theorem State.Canonical.setLeap {pend at_ setter : Nat} (h : s.Canonical) : (s.setLeap pend at_ setter).Canonical :=
  .raise (.withTm (.set (.set (.set (.set h)))))

theorem State.Canonical.sourceLeap {pend at_ setter : Nat} (h : s.Canonical) :
    (s.sourceLeap pend at_ setter).Canonical := .ite (.setLeap h) (.ite h (.raise (.withTm h)))

theorem State.Canonical.leapApplied (h : s.Canonical) : (leapApplied s).Canonical :=
  .ite (.raiseLater (.set (.set (.set h)))) h

theorem CanonicalIfSome.leapWrite {w : Writer} {pend at_ : Nat} (h : s.Canonical) :
    CanonicalIfSome (leapWrite w pend at_ s) :=
  .ite (.ite (.some (.raise (.set (.set h)))) (.ite (.some (.setLeap h)) .none)) .none

theorem State.Canonical.irigFrame {f : IrigFrame} (h : s.Canonical) : (irigFrame f s).Canonical :=
  .ite (.ite (.ite (.sourceLeap (.measure (.when (.withTm (.takeCaptures h)) .qualify))) (.measure
    (.when (.withTm (.takeCaptures h)) .qualify))) (.add (.withTm (.takeCaptures h)))) h

theorem State.Canonical.showLearned (h : s.Canonical) : s.showLearned.Canonical := .setFlag h

theorem State.Canonical.learnBin {mean : Int} (h : s.Canonical) : (s.learnBin mean).Canonical := by
  unfold State.learnBin
  split
  · exact h
  · exact .showLearned (.addHold (.setS h))

theorem State.Canonical.holdoverSample {mean : Int} {span : Nat} (h : s.Canonical) :
    (holdoverSample mean span s).Canonical := .ite (.onTime h fun h => .learnBin (.withTm h)) h

theorem State.Canonical.forgetBins (h : s.Canonical) : s.forgetBins.Canonical :=
  .showLearned (.foldl h fun h => .set (.set h))

theorem CanonicalIfSome.forgetWrite {w : Writer} (h : s.Canonical) : CanonicalIfSome (forgetWrite w s) :=
  .ite (.some (.forgetBins h)) .none

theorem State.Canonical.slewAccrue {part : Int} (h : s.Canonical) : (s.slewAccrue part).Canonical := by
  unfold State.slewAccrue
  split
  · exact h
  · exact .withTm h

theorem State.Canonical.showOutput (h : s.Canonical) : s.showOutput.Canonical := .slewAccrue (.setS h)

theorem State.Canonical.loopOutput {d : Int} (h : s.Canonical) : (s.loopOutput d).Canonical :=
  .when (.slewAccrue (.withTm (.setFlag (.setS h)))) .raise

theorem State.Canonical.addMeasure {e : Int} (h : s.Canonical) : (s.addMeasure e).Canonical := .withTm h

theorem State.Canonical.ageSources (h : s.Canonical) : s.ageSources.Canonical :=
  .ite (.qualify (.ite (.qualify
    (.withTm (.when (.ite (.loseGnss (.qualify (.withTm (.withTm h)))) (.withTm h)) .loseGnss)))
    (.when (.ite (.loseGnss (.qualify (.withTm (.withTm h)))) (.withTm h)) .loseGnss)))
    (.ite (.qualify (.withTm (.when (.ite (.loseGnss (.qualify (.withTm (.withTm h)))) (.withTm h)) .loseGnss)))
    (.when (.ite (.loseGnss (.qualify (.withTm (.withTm h)))) (.withTm h)) .loseGnss))

theorem State.Canonical.judgeSources (h : s.Canonical) : s.judgeSources.Canonical :=
  .ite (.ite (.withTm (.setFlag h)) (.ite (.setQuality (.raise (.withTm (.setFlag h)))) (.raise
    (.withTm (.setFlag h))))) (.ite (.ite (.raise (.setFlag (.withTm h))) (.withTm h)) h)

theorem State.Canonical.countLock {k : Nat} {e : Int} (h : s.Canonical) : (s.countLock k e).Canonical :=
  .ite (.setQuality (.withTm h)) (.withTm h)

theorem State.Canonical.growBound (h : s.Canonical) : s.growBound.Canonical := .setBound h

theorem State.Canonical.limitHold (h : s.Canonical) : s.limitHold.Canonical := .ite (.setQuality h) h

theorem State.Canonical.useMeasure {k : Nat} {e : Int} (h : s.Canonical) : (s.useMeasure k e).Canonical :=
  .limitHold (.countLock (.when
    (.ite (.ite (.setQuality (.stepTime (.withTm (.setBound (.setS h)))))
    (.stepTime (.withTm (.setBound (.setS h))))) (.addMeasure (.withTm (.setBound (.setS h))))) .loopOutput))

theorem State.Canonical.useNone {k : Nat} (h : s.Canonical) : (s.useNone k).Canonical :=
  .limitHold (.when (.growBound h) .loopOutput)

theorem State.Canonical.learnCrystal {crystal : Option Int} (h : s.Canonical) :
    (s.learnCrystal crystal).Canonical := by
  unfold State.learnCrystal
  split
  · exact .ite (.setS h) h
  · exact h

theorem State.Canonical.dropUtc (h : s.Canonical) : s.dropUtc.Canonical := .withTm h

theorem State.Canonical.takeUtc (h : s.Canonical) : s.takeUtc.Canonical := by
  unfold State.takeUtc
  split
  · exact .dropUtc (.raiseLater (.set h))
  · exact h

theorem State.Canonical.endOnce (h : s.Canonical) : s.endOnce.Canonical := .ite (.qualify (.withTm h)) h

theorem State.Canonical.ppsOutEdge (h : s.Canonical) : s.ppsOutEdge.Canonical := .ite (.takeCaptures h) h

theorem State.Canonical.judgeSecond {crystal : Option Int} (h : s.Canonical) : (s.judgeSecond crystal).Canonical := by
  unfold State.judgeSecond
  dsimp only
  refine .withTm ?_
  refine .endOnce ?_
  split
  · exact .useMeasure (.judgeSources (.selectSource
      (.learnCrystal (.takeUtc (.correctClock (.showLearned (.ageSources (.ppsOutEdge (.withTm h)))))))))
  · exact .useNone (.judgeSources (.selectSource
      (.learnCrystal (.takeUtc (.correctClock (.showLearned (.ageSources (.ppsOutEdge (.withTm h)))))))))

theorem State.Canonical.secondBoundary {crystal : Option Int} (h : s.Canonical) :
    (secondBoundary crystal s).Canonical := .ite (.oneCycle (.ite h (.advanceTo h)) .judgeSecond) h

theorem State.Canonical.oscFault {deviated : Bool} (h : s.Canonical) : (oscFault deviated s).Canonical :=
  .ite (.oneCycle (.withTm (.showXtal (.setFlag h))) fun h => .ite (.setQuality (.raiseFault h)) (.raiseFault h)) h

theorem State.Canonical.oscOk (h : s.Canonical) : (oscOk s).Canonical :=
  .ite (.onTime h fun h => .raise (.showXtal (.setFlag h))) h

theorem State.Canonical.savedTemperature {codes : List Int} (h : s.Canonical) :
    (savedTemperature codes s).Canonical :=
  .ite (.onTime h fun h => .ite (.addHold (.correctClock (.showLearned (.reading (.delayScan (.withTm h))))))
    (.addHold (.correctClock (.showLearned (.reading (.delayScan (.withTm h))))))) h

/-! ### The functions of Link -/

theorem State.Canonical.setLk {x : Link} (h : s.Canonical) : (s.setLk x).Canonical := .withLk h

theorem State.Canonical.lkEmitAt {from_ : Nat} {bytes : List Nat} (h : s.Canonical) :
    (s.lkEmitAt from_ bytes).Canonical := .setLk (.add (.uaQueue (.uaQueue h)))

theorem State.Canonical.lkEmit {bytes : List Nat} (h : s.Canonical) : (s.lkEmit bytes).Canonical :=
  .lkEmitAt (.setLk h)

theorem State.Canonical.lkBroadcast {type : Nat} {payload : List Nat} (h : s.Canonical) :
    (s.lkBroadcast type payload).Canonical := .setLk (.lkEmit h)

theorem State.Canonical.lkStranger {cls src : Nat} (h : s.Canonical) : (s.lkStranger cls src).Canonical := by
  unfold State.lkStranger
  dsimp only
  refine .ite ?_ ?_
  · split <;> exact .add h
  · refine .raise ?_
    refine .setLk ?_
    split <;> exact .add h

theorem State.Canonical.backoff {demand : Nat} (h : s.Canonical) : (s.backoff demand).Canonical :=
  .ite (.when (.setLk (.setFlag (.set h))) .raise) h

theorem State.Canonical.backoffWait (h : s.Canonical) : s.backoffWait.Canonical := by
  unfold State.backoffWait
  dsimp only
  exact .setLk (.draw h)

theorem State.Canonical.backoffFail (h : s.Canonical) : s.backoffFail.Canonical := .backoffWait (.backoff h)

theorem State.Canonical.writeLinkRecord (h : s.Canonical) : s.writeLinkRecord.Canonical := .setLk (.set h)

theorem State.Canonical.lkStopQueues {status waiting : Nat} (h : s.Canonical) :
    (s.lkStopQueues status waiting).Canonical := .postAll (.when (.setLk h) .setLk)

theorem State.Canonical.lkReturnPorts (h : s.Canonical) : s.lkReturnPorts.Canonical :=
  .setLk (.qualify (.uaReturn (.uaReturn (.set (.set (.set (.set (.set (.set (.set h))))))))))

theorem State.Canonical.lkGone {cause : Nat} {left : Bool} (h : s.Canonical) : (s.lkGone cause left).Canonical :=
  .postAll (.raise (.lkReturnPorts (.setLk (.set (.postOpt (.lkStopQueues h))))))

theorem State.Canonical.lkJoinFails {status : Nat} (h : s.Canonical) : (s.lkJoinFails status).Canonical :=
  .postOpt (.when (.lkReturnPorts h) .raise)

theorem State.Canonical.lkJoinedNow {master : Bool} (h : s.Canonical) : (s.lkJoinedNow master).Canonical :=
  .postOpt (.raise (.writeLinkRecord (.setLk (.set (.set h)))))

theorem State.Canonical.lkListen {addr wait : Nat} (h : s.Canonical) : (s.lkListen addr wait).Canonical :=
  .setLk (.set (.set (.uaTake (.uaTake h))))

theorem State.Canonical.showTable {t : LkTable} (h : s.Canonical) : (s.showTable t).Canonical :=
  .foldl (.set h) fun h => .set (.set (.set h))

theorem State.Canonical.lkLoadRecord (h : s.Canonical) : s.lkLoadRecord.Canonical := by
  unfold State.lkLoadRecord
  split
  · dsimp only
    refine .ite ?_ (.set h)
    split
    · exact .showTable (.setLk (.set (.set (.set (.set (.set (.set (.set (.set h)))))))))
    · exact .setLk (.set (.set (.set (.set (.set (.set (.set (.set h))))))))
  · exact h

theorem State.Canonical.lkAutoJoin (h : s.Canonical) : s.lkAutoJoin.Canonical := by
  unfold State.lkAutoJoin
  split
  · exact .when h .lkListen
  · exact h

theorem State.Canonical.applyTable {t : LkTable} (h : s.Canonical) : (s.applyTable t).Canonical :=
  .raise (.when (.setLk (.showTable h)) .writeLinkRecord)

theorem State.Canonical.lkHeadCheck {n : Nat} (h : s.Canonical) : (State.lkHeadCheck n s).Canonical := by
  induction n generalizing s with
  | zero => exact h
  | succ n ih =>
      unfold State.lkHeadCheck
      split
      · exact h
      · exact .ite (ih (.post (.setLk h))) h

theorem State.Canonical.lkSendEnd {status : Nat} (h : s.Canonical) : (s.lkSendEnd status).Canonical := by
  unfold State.lkSendEnd
  split
  · exact h
  · exact .lkHeadCheck (.post (.setLk h))

theorem State.Canonical.setHead {f : LkSend → LkSend} (h : s.Canonical) : (s.setHead f).Canonical := by
  unfold State.setHead
  split
  · exact h
  · exact .setLk h

theorem State.Canonical.lkFail {last : Nat} (h : s.Canonical) : (s.lkFail last).Canonical := by
  unfold State.lkFail
  dsimp only
  split
  · exact .setHead h
  · exact .ite (.lkSendEnd (.setHead h)) (.setLk (.add (.setHead h)))

theorem State.Canonical.lkSequence {dst : Nat} (h : s.Canonical) : (s.lkSequence dst).2.2.Canonical := by
  unfold State.lkSequence
  split <;> exact .setLk h

theorem State.Canonical.lkStart {x : LkSend} {contention : Bool} (h : s.Canonical) :
    (s.lkStart x contention).Canonical := by
  unfold State.lkStart
  dsimp only
  split
  · exact .setLk (.setHead (.lkBroadcast h))
  · split
    · exact .setLk (.setHead (.lkEmit h))
    · exact .setLk (.setHead (.lkEmit (.lkSequence h)))

theorem State.Canonical.lkLeaveSent {left : Bool} (h : s.Canonical) : (s.lkLeaveSent left).Canonical :=
  .ite h (.lkGone h)

theorem State.Canonical.lkLeft (h : s.Canonical) : s.lkLeft.Canonical := by
  unfold State.lkLeft
  split
  · exact h
  · exact .setLk h
  · split
    · exact h
    · exact .ite h (.lkSendEnd (.when h .backoff))
  · split
    · exact .setLk h
    · dsimp only
      split
      · exact .setLk (.when (.setLk h) .backoff)
      · exact .lkLeaveSent (.when (.setLk h) .backoff)
      · exact .withSv (.when (.setLk h) .backoff)
      · exact .when (.setLk h) .backoff

theorem State.Canonical.lkSettle (h : s.Canonical) : s.lkSettle.Canonical := .when h .lkLeft

theorem State.Canonical.lkSlack (h : s.Canonical) : s.lkSlack.2.Canonical := by
  unfold State.lkSlack
  split
  · exact h
  · exact .setLk (.draw h)

theorem State.Canonical.lkAttempt {contention : Bool} {f : State → State} (h : s.Canonical)
    (hf : ∀ {t}, t.Canonical → (f t).Canonical) : (s.lkAttempt contention f).Canonical := by
  unfold State.lkAttempt
  dsimp only
  exact .ite (.ite (hf (.setLk (.lkSlack h))) (.lkSlack h)) (hf h)

theorem State.Canonical.lkTransmit {t : Nat} (h : s.Canonical) : (State.lkTransmit t s).Canonical := by
  unfold State.lkTransmit
  refine .ite ?_ h
  dsimp only
  split
  · exact .lkAttempt (.lkLeft h) fun h => .setLk (.lkBroadcast (.setLk h))
  · split
    · exact .lkLeft h
    · split
      · exact .lkStart (.lkLeft h)
      · exact .ite (.lkAttempt (.lkLeft h) .lkStart) (.lkLeft h)
      · exact .lkLeft h

theorem State.Canonical.linkTransmit {t : Nat} (h : s.Canonical) : (linkTransmit t s).Canonical := by
  unfold Machine.linkTransmit
  split
  · exact .ite (.onTime h .lkTransmit) h
  · exact h

theorem State.Canonical.lkCollide (h : s.Canonical) : s.lkCollide.Canonical := by
  unfold State.lkCollide
  split
  · exact h
  · dsimp only
    exact .setLk (.add (.draw h))
  · exact .ite (.lkFail (.when (.add h) .backoffFail)) (.setLk (.when (.add h) .backoffFail))
  · dsimp only
    split
    · exact .setLk (.add h)
    · refine .ite (.ite (.add (.setLk (.setLk (.add h)))) (.setLk (.setLk (.add h)))) ?_
      split
      · exact .lkLeaveSent (.setLk (.setLk (.add h)))
      · exact .setLk (.add h)
      · exact .setLk (.when (.setLk (.add h)) .backoffFail)

theorem State.Canonical.linkCollision (h : s.Canonical) : (linkCollision s).Canonical := .ite h (.lkCollide h)

theorem State.Canonical.lkQueue {what : LkSpecial} {delay : Nat} {bounded : Bool} (h : s.Canonical) :
    (s.lkQueue what delay bounded).Canonical := .ite h (.setLk h)

theorem State.Canonical.lkNotice {what : LkSpecial} (h : s.Canonical) : (s.lkNotice what).Canonical :=
  .ite (.lkQueue h) h

theorem State.Canonical.ackTimeout (h : s.Canonical) : (ackTimeout s).Canonical := by
  unfold Machine.ackTimeout
  refine .ite ?_ h
  refine .onTime h fun h => ?_
  dsimp only
  refine .lkFail ?_
  split
  · exact .backoffFail h
  · exact h

theorem State.Canonical.ackIntrudes {dst : Nat} (h : s.Canonical) : (s.ackIntrudes dst).Canonical := by
  unfold State.ackIntrudes
  split
  · exact .when h .lkStranger
  · exact h

theorem State.Canonical.ackReceived {dst seq result : Nat} (h : s.Canonical) :
    (ackReceived dst seq result s).Canonical := by
  unfold Machine.ackReceived
  split
  · exact .ackIntrudes h
  · exact .ite (.ite (.lkFail (.when (.setLk (.add h)) .backoffWait)) (.lkSendEnd
      (.setHead (.when (.setLk (.add h)) .backoff)))) (.ackIntrudes h)

theorem State.Canonical.lkRecvEnd (h : s.Canonical) : s.lkRecvEnd.Canonical := by
  unfold State.lkRecvEnd
  split
  · exact h
  · exact .post (.setLk h)

theorem State.Canonical.lkDeliver {n : Nat} (h : s.Canonical) : (State.lkDeliver n s).Canonical := by
  induction n generalizing s with
  | zero => exact h
  | succ n ih =>
      unfold State.lkDeliver
      split
      · exact .ite (ih (.lkRecvEnd h)) (ih (.ite (.lkRecvEnd (.setLk (.setSlots h))) (.setLk (.setSlots h))))
      · exact h

theorem State.Canonical.lkCount {f : LinkFrame} (h : s.Canonical) : (s.lkCount f).Canonical :=
  .when (.when (.setLk (.add h)) .add) .add

theorem State.Canonical.lkHear {f : LinkFrame} (h : s.Canonical) : (s.lkHear f).Canonical :=
  .ite (.ite (.lkJoinFails (.lkCount h)) (.ite (.lkQueue (.lkCount h)) (.lkCount h))) (.lkCount h)

theorem State.Canonical.lkGood {type : Nat} {f : LinkFrame} {k : State → State} (h : s.Canonical)
    (hk : ∀ {t}, t.Canonical → (k t).Canonical) : (s.lkGood type f k).Canonical :=
  .ite (.ite (.lkStranger (.lkHear h)) (hk h)) h

theorem State.Canonical.lkAck {f : LinkFrame} {result : Nat} (h : s.Canonical) : (s.lkAck f result).Canonical :=
  .lkEmitAt h

theorem State.Canonical.lkAccept {f : LinkFrame} {pdup unknown : Bool} (h : s.Canonical) :
    (s.lkAccept f pdup unknown).Canonical := .lkDeliver (.setLk h)

theorem State.Canonical.lkUnicast {f : LinkFrame} {unknown : Bool} (h : s.Canonical) :
    (s.lkUnicast f unknown).Canonical := by
  unfold State.lkUnicast
  dsimp only
  split
  · exact .ite (.ite (.lkAck h) (.lkAck (.lkAccept (.setLk (.when h .add))))) (.lkAck (.add (.setLk h)))
  · exact .ite (.lkAck h) (.lkAck (.lkAccept (.setLk (.when h .add))))

theorem State.Canonical.dataFrame {f : LinkFrame} (h : s.Canonical) : (dataFrame f s).Canonical :=
  .lkGood h fun h => .ite (.lkStranger (.lkHear h))
    (.ite (.lkHear h) (.ite (.when (.lkHear h) .lkStranger) (.ite
    (.ite (.add (.when (.lkHear h) .lkStranger)) (.lkAccept (.when (.lkHear h) .lkStranger)))
    (.ite (.lkUnicast (.when (.lkHear h) .lkStranger)) (.when (.lkHear h) .lkStranger)))))

theorem State.Canonical.lkrecvTimeout (h : s.Canonical) : (lkrecvTimeout s).Canonical := by
  unfold Machine.lkrecvTimeout
  split
  · exact .ite (.onTime h fun h => .lkDeliver (.lkRecvEnd h)) h
  · exact h

theorem State.Canonical.lkLearn {src : Nat} (h : s.Canonical) : (s.lkLearn src).Canonical := .ite h (.setLk h)

theorem State.Canonical.joinReceived {f : LinkFrame} (h : s.Canonical) : (joinReceived f s).Canonical :=
  .lkGood h fun h => .ite (.lkQueue (.ite (.lkCount h) (.lkHear h)))
    (.ite (.lkStranger (.ite (.lkCount h) (.lkHear h))) (.lkLearn (.ite (.lkCount h) (.lkHear h))))

theorem State.Canonical.lkBeginLeave {cause : Nat} {ref : Option OpRef} (h : s.Canonical) :
    (s.lkBeginLeave cause ref).Canonical := .lkQueue (.setLk (.set h))

theorem State.Canonical.conflictReceived {f : LinkFrame} (h : s.Canonical) : (conflictReceived f s).Canonical :=
  .lkGood h fun h => .ite (.ite (.lkJoinFails (.lkCount h)) (.ite (.lkJoinFails (.lkCount h))
    (.lkLearn (.lkCount h)))) (.ite (.ite (.lkBeginLeave (.setLk (.set (.raise (.lkCount h)))))
    (.lkQueue (.raise (.lkCount h)))) (.ite (.lkStranger (.lkHear h)) (.lkLearn (.lkHear h))))

theorem State.Canonical.leaveReceived {f : LinkFrame} (h : s.Canonical) : (leaveReceived f s).Canonical :=
  .lkGood h fun h => .ite (.lkStranger (.lkHear h)) (.ite (.lkStranger (.lkHear h)) (.lkHear h))

theorem State.Canonical.noticeReceived {f : LinkFrame} (h : s.Canonical) : (noticeReceived f s).Canonical :=
  .lkGood h fun h => .ite (.lkStranger (.lkHear h))
    (.ite (.when (.lkHear h) .lkStranger) (.ite (.raise (.when (.lkHear h) .lkStranger)) (.ite
    (.setLk (.setLk (.when (.lkHear h) .lkStranger))) (.setLk (.when (.lkHear h) .lkStranger)))))

theorem State.Canonical.lkBoundary {n : Nat} (h : s.Canonical) : (s.lkBoundary n).Canonical :=
  .lkHeadCheck (.setLk (.add (.postAll (.foldl (.setLk (.set h)) .applyTable))))

theorem State.Canonical.lkBecome {cause : Nat} (h : s.Canonical) : (s.lkBecome cause).Canonical :=
  .oneCycle h fun h => .when (.add (.raise (.setLk (.qualify (.set (.set (.set (.set h)))))))) .lkJoinedNow

theorem State.Canonical.lkCease {cause : Nat} (h : s.Canonical) : (s.lkCease cause).Canonical :=
  .setLk (.raise (.set h))

theorem State.Canonical.lkBeacon (h : s.Canonical) : s.lkBeacon.Canonical := by
  unfold State.lkBeacon
  dsimp only
  split
  · exact .add (.lkCease (.setLk (.lkBroadcast h)))
  · exact .setLk (.lkBroadcast h)

theorem State.Canonical.linkCycleBoundary (h : s.Canonical) : (linkCycleBoundary s).Canonical :=
  .ite (.ite (.lkBeacon (.setLk (.lkBoundary (.setLk (.lkLeft h)))))
    (.setLk (.setLk (.lkBoundary (.setLk (.lkLeft h)))))) h

theorem State.Canonical.lkMeasure {f : LinkFrame} {changed : Bool} (h : s.Canonical) :
    (s.lkMeasure f changed).Canonical :=
  .ite (.when h fun h => .withTm (.qualify h)) (.ite (.ite
    (.qualify (.withTm (.withTm (.measure (.when h fun h => .withTm (.qualify h))))))
    (.withTm (.withTm (.measure (.when h fun h => .withTm (.qualify h))))))
    (.ite (.withTm (.qualify (.withTm (.qualify (.withTm (.measure (.when h fun h => .withTm (.qualify h))))))))
    (.withTm (.qualify (.withTm (.measure (.when h fun h => .withTm (.qualify h))))))))

theorem State.Canonical.lkLeap {p : List Nat} (h : s.Canonical) : (s.lkLeap p).Canonical :=
  .ite (.withTm (.when h .sourceLeap)) (.when h .sourceLeap)

theorem State.Canonical.lkTableCheck {id : Nat} (h : s.Canonical) : (s.lkTableCheck id).Canonical :=
  .ite (.ite h (.raise (.set h))) (.ite (.raise (.set h)) h)

theorem State.Canonical.lkLines {a b : Bool} (h : s.Canonical) : (s.lkLines a b).Canonical :=
  .ite (.raise (.set (.ite
    (.raise (.set (.ite (.raise (.set (.ite (.raise (.set (.setLk h))) (.setLk h)))) (.ite
    (.raise (.set (.setLk h))) (.setLk h))))) (.ite (.raise (.set (.ite (.raise (.set (.setLk h))) (.setLk h))))
    (.ite (.raise (.set (.setLk h))) (.setLk h))))))
    (.ite (.raise (.set (.ite (.raise (.set (.ite (.raise (.set (.setLk h))) (.setLk h))))
    (.ite (.raise (.set (.setLk h))) (.setLk h)))))
    (.ite (.raise (.set (.ite (.raise (.set (.setLk h))) (.setLk h)))) (.ite (.raise (.set (.setLk h))) (.setLk h))))

theorem State.Canonical.lkClaimNow (h : s.Canonical) : s.lkClaimNow.Canonical := .lkQueue (.setLk h)

theorem State.Canonical.lkJoinBeacon {src n : Nat} (h : s.Canonical) : (s.lkJoinBeacon src n).Canonical := by
  unfold State.lkJoinBeacon
  dsimp only
  exact .ite (.ite (.lkQueue (.setLk (.draw h))) (.setLk h)) h

theorem State.Canonical.lkFollow {f : LinkFrame} (h : s.Canonical) : (s.lkFollow f).Canonical :=
  .oneCycle h fun h => .ite (.ite (.lkBecome
    (.ite (.ite (.lkClaimNow (.lkJoinBeacon
    (.lkLeap (.when (.lkTableCheck
    (.lkLines (.lkBoundary (.when (.setLk (.set (.set h))) fun h => .add (.raise h))))) .lkMeasure))))
    (.lkJoinBeacon (.lkLeap (.when
    (.lkTableCheck (.lkLines (.lkBoundary
    (.when (.setLk (.set (.set h))) fun h => .add (.raise h))))) .lkMeasure))))
    (.setLk (.lkJoinBeacon (.lkLeap (.when
    (.lkTableCheck (.lkLines (.lkBoundary
    (.when (.setLk (.set (.set h))) fun h => .add (.raise h))))) .lkMeasure))))))
    (.setLk (.ite (.ite (.lkClaimNow
    (.lkJoinBeacon (.lkLeap (.when
    (.lkTableCheck (.lkLines (.lkBoundary
    (.when (.setLk (.set (.set h))) fun h => .add (.raise h))))) .lkMeasure))))
    (.lkJoinBeacon (.lkLeap (.when
    (.lkTableCheck (.lkLines (.lkBoundary
    (.when (.setLk (.set (.set h))) fun h => .add (.raise h))))) .lkMeasure))))
    (.setLk (.lkJoinBeacon (.lkLeap (.when
    (.lkTableCheck (.lkLines (.lkBoundary
    (.when (.setLk (.set (.set h))) fun h => .add (.raise h))))) .lkMeasure)))))))
    (.ite (.ite (.lkClaimNow (.lkJoinBeacon
    (.lkLeap (.when (.lkTableCheck
    (.lkLines (.lkBoundary (.when (.setLk (.set (.set h))) fun h => .add (.raise h))))) .lkMeasure))))
    (.lkJoinBeacon (.lkLeap (.when
    (.lkTableCheck (.lkLines (.lkBoundary
    (.when (.setLk (.set (.set h))) fun h => .add (.raise h))))) .lkMeasure))))
    (.setLk (.lkJoinBeacon (.lkLeap (.when
    (.lkTableCheck (.lkLines (.lkBoundary (.when (.setLk (.set (.set h))) fun h => .add (.raise h))))) .lkMeasure)))))

theorem State.Canonical.beaconReceived {f : LinkFrame} (h : s.Canonical) : (beaconReceived f s).Canonical :=
  .lkGood h fun h => .ite (.lkHear h) (.ite (.lkStranger (.lkHear h)) (.ite
    (.ite (.oneCycle (.setLk (.lkHear h)) fun h => .lkFollow (.lkCease h)) (.lkStranger (.setLk (.lkHear h))))
    (.ite (.lkFollow (.lkSettle (.setLk (.lkHear h)))) (.lkStranger (.setLk (.lkHear h))))))

theorem State.Canonical.beaconMissing (h : s.Canonical) : (beaconMissing s).Canonical := by
  unfold Machine.beaconMissing
  refine .ite ?_ h
  split
  · exact .onTime h fun h => .lkBoundary (.setLk (.lkSettle h))
  · exact h

theorem State.Canonical.silenceTimeout (h : s.Canonical) : (silenceTimeout s).Canonical := .ite (.lkBecome h) h

theorem State.Canonical.claimRepeat (h : s.Canonical) : (claimRepeat s).Canonical := .ite (.lkClaimNow h) h

theorem State.Canonical.joinConfirmed (h : s.Canonical) : (joinConfirmed s).Canonical :=
  .ite (.onTime (.ite (.lkSettle h) h) .lkJoinedNow) (.ite (.lkSettle h) h)

theorem State.Canonical.joinWaitTimeout (h : s.Canonical) : (joinWaitTimeout s).Canonical :=
  .ite (.onTime h .lkJoinFails) h

theorem State.Canonical.strangerHeard {cls src : Nat} (h : s.Canonical) : (strangerHeard cls src s).Canonical :=
  .ite (.ite (.add h) (.ite (.lkStranger h) h)) h

theorem State.Canonical.lkLineStranger {other : LkLine} {cls : Nat} (h : s.Canonical) :
    (s.lkLineStranger other cls).Canonical := .ite h (.ite (.add h) (.lkStranger h))

theorem State.Canonical.lkHunt {p v : Nat} {bad : Bool} (h : s.Canonical) : (s.lkHunt p v bad).Canonical := by
  unfold State.lkHunt
  dsimp only
  refine .setLk ?_
  split
  · exact .lkLineStranger h
  · exact h

theorem State.Canonical.uartCharacter {p : Nat} {c : UartChar} (h : s.Canonical) : (uartCharacter p c s).Canonical :=
  .when (.uaCharacter h) .lkHunt

theorem State.Canonical.lkjoin {op : Op} (h : s.Canonical) : (lkjoin op s).Canonical :=
  .issue h fun h => .judge h fun h => .lkListen (.setLk h)

theorem State.Canonical.lksend {op : Op} (h : s.Canonical) : (lksend op s).Canonical :=
  .issue h fun h => .judge h fun h => .ite (.post h) (.ite (.post h) (.setLk h))

theorem State.Canonical.lkrecv {op : Op} (h : s.Canonical) : (lkrecv op s).Canonical :=
  .issue h fun h => .judge h fun h => .ite (.post h) (.lkDeliver (.setLk h))

theorem State.Canonical.lkslot {op : Op} (h : s.Canonical) : (lkslot op s).Canonical := by
  unfold Machine.lkslot
  refine .issue h fun h => ?_
  dsimp only
  refine .judge h fun h => ?_
  split
  · exact .post h
  · exact .ite (.post (.applyTable h)) (.setLk h)

theorem State.Canonical.lkleave {op : Op} (h : s.Canonical) : (lkleave op s).Canonical :=
  .issue h fun h => .judge h .lkBeginLeave

theorem State.Canonical.lktime {op : Op} (h : s.Canonical) : (lktime op s).Canonical := by
  unfold Machine.lktime
  refine .issue h fun h => ?_
  refine .judge h fun h => ?_
  refine .ite (.post h) ?_
  refine .ite (.ite (.post (.lkClaimNow h)) (.post h)) ?_
  dsimp only
  refine .post ?_
  refine .ite ?_ (.set h)
  split
  · exact .setLk (.set h)
  · exact .add (.lkCease (.set h))

theorem State.Canonical.lkFreeze (h : s.Canonical) : s.lkFreeze.Canonical :=
  .ite (.postOpt (.lkReturnPorts (.setLk (.lkStopQueues h)))) (.lkStopQueues h)

theorem CanonicalIfSome.lkWrite {w : Writer} {o v m : Nat} (h : s.Canonical) : CanonicalIfSome (lkWrite w o v m s) :=
  .ite (.writeWhere h) (.ite (.writeIf h) (.ite (.writeIf h)
    (.ite (.map (.writeIf h) fun h => .ite h (.set h))
    (.ite (.map (.plainWrite h) fun h => .ite h (.ite (.setLk (.set h)) (.set (.set h))))
    (.ite (.writeIf h) (.plainWrite h))))))

/-! ### The functions of Staging -/

theorem State.Canonical.putArea {package : Bool} {off : Nat} {bytes : List Nat} (h : s.Canonical) :
    (s.putArea package off bytes).Canonical := .ite h (.padStream (.putStreamFrom h))

/-! ### The functions of Packages -/

theorem State.Canonical.setOtpState {n v : Nat} (h : s.Canonical) : (s.setOtpState n v).Canonical := .set h

theorem State.Canonical.raiseFloor {p : List Nat} (h : s.Canonical) : (s.raiseFloor p).Canonical := .ite h (.withSe h)

theorem State.Canonical.drawScalar (h : s.Canonical) : s.drawScalar.2.Canonical := .draw h

theorem State.Canonical.makePack {q : PackPlan} {payload : List Nat} (h : s.Canonical) :
    (s.makePack q payload).2.Canonical := by
  unfold State.makePack
  dsimp only
  exact .drawScalar (.drawBytes (.drawScalar (.ite_snd h (.drawBytes h))))

/-! ### The functions of Params -/

theorem State.Canonical.applyRecords {inDomain : Nat → Bool} {l : List (Nat × Nat)} (h : s.Canonical) :
    (s.applyRecords inDomain l).Canonical := by
  induction l generalizing s with
  | nil => exact h
  | cons e l ih =>
      obtain ⟨i, v⟩ := e
      exact ih (.ite (.foldl h .set) h)

/-! ### The functions of Programs -/

theorem sparseWf_storeWords {addr : Nat} {l : List Nat} {m : Sparse Nat} (h : sparseWf (fun _ => 0) m = true) :
    sparseWf (fun _ => 0) (storeWords addr l m) = true := by
  induction l generalizing addr m with
  | nil => exact h
  | cons w l ih => exact ih (sparseWf_store (fun _ => 0) h)

theorem State.Canonical.refuseProgram {status addr wcost : Nat} (h : s.Canonical) :
    (s.refuseProgram status addr wcost).1.Canonical := .raise (.set h)

theorem State.Canonical.loadProgram {payload : List Nat} (h : s.Canonical) : (loadProgram payload s).1.Canonical := by
  unfold Machine.loadProgram
  dsimp only
  split
  · exact .refuseProgram h
  · split
    · exact .refuseProgram h
    · refine .ite_fst (.refuseProgram h) (.ite_fst (.refuseProgram h) (.ite_fst (.refuseProgram h) ?_))
      split
      · exact .refuseProgram h
      · have hload (addr : Nat) (l : List Nat) : ({ s with store := storeWords addr l s.store } : State).Canonical :=
          .withStore h (sparseWf_storeWords h.store)
        exact .raise (.set (.set (.set (.set (.set (.set (.set (.set (.set (.set (hload _ _)))))))))))

theorem CanonicalIfSome.pgfreeWrite {w : Writer} {k : Nat} (h : s.Canonical) :
    CanonicalIfSome (pgfreeWrite w k s) := by
  have hfree (p : Nat × Nat → Bool) : ({ s with store := s.store.filter p } : State).Canonical :=
    .withStore h (sparseWf_filter (fun _ => 0) p h.store)
  exact .ite (.some (.raise (.set (.set (.set (.set (.set (.set (.set (hfree _)))))))))) .none

theorem CanonicalIfSome.violclrWrite {w : Writer} {v : Nat} (h : s.Canonical) :
    CanonicalIfSome (violclrWrite w v s) := by
  unfold Machine.violclrWrite
  split
  · exact .none
  · exact .ite (.some (.set (.set h))) (.some h)

theorem CanonicalIfSome.syWrite {w : Writer} {o v m : Nat} (h : s.Canonical) : CanonicalIfSome (syWrite w o v m s) :=
  .ite (.violclrWrite h) (.ite (.pgfreeWrite h) (.plainWrite h))

/-! ### The functions of Security -/

theorem State.Canonical.setSe {x : Security} (h : s.Canonical) : (s.setSe x).Canonical := .withSe h

theorem State.Canonical.seRefused {opcode status kind : Nat} (h : s.Canonical) :
    (s.seRefused opcode status kind).Canonical := .raise (.add (.set (.set (.set h))))

theorem State.Canonical.seFail {ref : OpRef} {status result : Nat} {p : List Nat} (h : s.Canonical) :
    (s.seFail ref status result p).Canonical := .post (.seRefused h)

theorem State.Canonical.seQueue {ref : OpRef} {work : SeWork} {ranges : List StageRange} (h : s.Canonical) :
    (s.seQueue ref work ranges).Canonical := .ite (.post h) (.setSe h)

theorem State.Canonical.sePackage {opcode : Nat} {work : Nat → SeWork} {op : Op} (h : s.Canonical) :
    (sePackage opcode work op s).Canonical := .issue h fun h => .judge h .seQueue

theorem State.Canonical.severify {op : Op} (h : s.Canonical) : (severify op s).Canonical := .sePackage h

theorem State.Canonical.seopen {op : Op} (h : s.Canonical) : (seopen op s).Canonical := .sePackage h

theorem State.Canonical.seseal {op : Op} (h : s.Canonical) : (seseal op s).Canonical :=
  .issue h fun h => .judge h .seQueue

theorem State.Canonical.sekey {op : Op} (h : s.Canonical) : (sekey op s).Canonical :=
  .issue h fun h => .judge h fun h => .ite (.seQueue h) (.ite (.seQueue h) (.seQueue h))

theorem State.Canonical.writeParams {records : List (Nat × Nat)} (h : s.Canonical) :
    (s.writeParams records).Canonical := .setSe h

theorem State.Canonical.seOpened {p : List Nat} (h : s.Canonical) : (s.seOpened p).Canonical :=
  .raise (.add (.raiseFloor h))

theorem State.Canonical.actOn {ref : OpRef} {p payload : List Nat} (h : s.Canonical) :
    (s.actOn ref p payload).Canonical := by
  unfold State.actOn
  split
  · dsimp only
    exact .ite (.ite (.post (.seOpened (.loadProgram h))) (.seFail (.loadProgram h))) (.seFail h)
  · split
    · exact .post (.seOpened (.writeParams h))
    · exact .seFail h
  · exact .ite (.post (.raise (.seOpened (.setMaskBit (.setSe h))))) (.seFail h)

theorem State.Canonical.seVerifyDone {ref : OpRef} {off : Nat} (h : s.Canonical) :
    (seVerifyDone ref off s).Canonical := by
  unfold Machine.seVerifyDone
  dsimp only
  split
  · exact .seFail h
  · exact .post h

theorem State.Canonical.seOpenDone {ref : OpRef} {off : Nat} (h : s.Canonical) :
    (seOpenDone ref off s).Canonical := by
  unfold Machine.seOpenDone
  dsimp only
  refine .ite (.post (.violate h)) ?_
  refine .ite (.seFail h) ?_
  split
  · exact .seFail h
  · exact .actOn h

theorem State.Canonical.drawTarget (h : s.Canonical) : s.drawTarget.2.Canonical := .draw h

theorem State.Canonical.seSealDone {ref : OpRef} {mode owner id soff len doff time qual : Nat} (h : s.Canonical) :
    (seSealDone ref mode owner id soff len doff time qual s).Canonical := by
  unfold Machine.seSealDone
  dsimp only
  split
  · exact .post h
  · exact .ite (.post h) (.post (.raise (.setPair (.putArea (.makePack (.drawTarget h))))))

theorem State.Canonical.seRpmbDone {ref : OpRef} {entry : Nat} (h : s.Canonical) :
    (seRpmbDone ref entry s).Canonical := .post (.ite h (.set (.set (.setMc h))))

theorem State.Canonical.seRpmbClearDone {ref : OpRef} (h : s.Canonical) : (seRpmbClearDone ref s).Canonical :=
  .post (.set (.set (.setMc h)))

theorem State.Canonical.burnOwner {slot : Nat} {key : List Nat} (h : s.Canonical) :
    (s.burnOwner slot key).Canonical := .setSe (.setOtpState (.foldl h .set))

theorem State.Canonical.burnRevoke {slot : Nat} (h : s.Canonical) : (s.burnRevoke slot).Canonical := by
  unfold State.burnRevoke
  exact .when (.setOtpState (.setOtpState h)) .set

theorem State.Canonical.seOwnerDone {ref : OpRef} {action off : Nat} (h : s.Canonical) :
    (seOwnerDone ref action off s).Canonical :=
  .ite (.ite (.post (.raise (.burnOwner h))) (.post (.raise (.burnRevoke h)))) (.post h)

theorem State.Canonical.finish {j : SeJob} (h : s.Canonical) : (j.finish s).Canonical := by
  unfold Machine.SeJob.finish
  split
  · exact .seVerifyDone h
  · exact .seOpenDone h
  · exact .seSealDone h
  · exact .seRpmbDone h
  · exact .seRpmbClearDone h
  · exact .seOwnerDone h

theorem State.Canonical.seDone (h : s.Canonical) : (seDone s).Canonical := by
  unfold Machine.seDone
  split
  · exact h
  · exact .finish (.setSe h)

theorem State.Canonical.seFreeze (h : s.Canonical) : s.seFreeze.Canonical := by
  unfold State.seFreeze
  split
  · exact h
  · dsimp only
    exact .postAll (.setSe (.ite_snd (.draw h) h))

theorem CanonicalIfSome.expcfgWrite {w : Writer} {owner : Nat} (h : s.Canonical) :
    CanonicalIfSome (expcfgWrite w owner s) := .ite (.some (.set (.set h))) .none

theorem CanonicalIfSome.seWrite {w : Writer} {o v m : Nat} (h : s.Canonical) : CanonicalIfSome (seWrite w o v m s) :=
  .ite (.expcfgWrite h) (.plainWrite h)

/-! ### The functions of Analytics -/

theorem State.Canonical.setAe {x : Analytics} (h : s.Canonical) : (s.setAe x).Canonical := .withAe h

theorem State.Canonical.aeShow (h : s.Canonical) : s.aeShow.Canonical := .set (.setFlag (.setFlag (.setFlag h)))

theorem State.Canonical.setJobs {jobs : List AeJob} (h : s.Canonical) : (s.setJobs jobs).Canonical :=
  .aeShow (.setAe h)

theorem State.Canonical.setLoad {l : Option AeLoad} (h : s.Canonical) : (s.setLoad l).Canonical := .aeShow (.setAe h)

theorem State.Canonical.dropOverlay (h : s.Canonical) : s.dropOverlay.Canonical := .set (.set (.set (.setAe h)))

theorem State.Canonical.dropModel (h : s.Canonical) : s.dropModel.Canonical :=
  .set (.set (.set (.set (.setAe (.dropOverlay h)))))

theorem State.Canonical.dropKind {kind : Nat} (h : s.Canonical) : (s.dropKind kind).Canonical :=
  .ite (.dropModel h) (.dropOverlay h)

theorem State.Canonical.closeLoad {status : Nat} (h : s.Canonical) : (s.closeLoad status).Canonical := by
  unfold State.closeLoad
  split
  · exact h
  · exact .raise (.set (.setLoad (.dropKind h)))

theorem State.Canonical.loadRefused {ref : OpRef} {status : Nat} {p : List Nat} (h : s.Canonical) :
    (s.loadRefused ref status p).Canonical := .post (.oneCycle h fun h => .closeLoad (.seRefused h))

theorem State.Canonical.loadBegin {ref : OpRef} {kind total : Nat} (h : s.Canonical) :
    (s.loadBegin ref kind total).Canonical := .post (.set (.setLoad (.dropKind h)))

theorem State.Canonical.loadChunk {ref : OpRef} {l : AeLoad} {off len : Nat} (h : s.Canonical) :
    (s.loadChunk ref l off len).Canonical := by
  unfold State.loadChunk
  dsimp only
  split
  · exact .loadRefused (.set (.setLoad h))
  · exact .post (.setLoad (.set (.setLoad h)))

theorem State.Canonical.loadEnd {ref : OpRef} {l : AeLoad} (h : s.Canonical) : (s.loadEnd ref l).Canonical := by
  unfold State.loadEnd
  split
  · exact .loadRefused h
  · split
    · exact .post (.closeLoad h)
    · exact .setLoad (.setAe h)

theorem State.Canonical.showModel (h : s.Canonical) : s.showModel.Canonical := .set (.set (.set (.set h)))

theorem State.Canonical.showOverlay (h : s.Canonical) : s.showOverlay.Canonical := .set (.set (.set h))

theorem State.Canonical.readModels {i : Nat} (h : s.Canonical) : (s.readModels i).Canonical := .foldl h .codewordRead

theorem CanonicalIfSome.writeCopy (h : s.Canonical) : CanonicalIfSome (s.writeCopy) :=
  .ite (.map (.takeStripes (.dropUse h)) fun h => .keepErased (.programBytes (.setFl h))) .none

theorem State.Canonical.modelFlashWriteDone {taken : Bool} {work : FlashWork} (h : s.Canonical) :
    (modelFlashWriteDone taken work s).Canonical := by
  unfold Machine.modelFlashWriteDone
  split
  · exact h
  · split
    · exact h
    · dsimp only
      exact .post (.set (.seOpened
        (.raise (.getD (.ite (.writeCopy
        (.ite (.showModel (.setAe (.setLoad (.flashWork h))))
        (.showOverlay (.setAe (.setLoad (.flashWork h)))))) .none)
        (.ite (.showModel (.setAe (.setLoad (.flashWork h)))) (.showOverlay (.setAe (.setLoad (.flashWork h)))))))))

theorem State.Canonical.takeCopy {i : Nat} {img ovl : List Nat} (h : s.Canonical) :
    (s.takeCopy i img ovl).Canonical :=
  .raise (.ite (.showModel (.setAe (.dropModel h))) (.showOverlay (.setAe (.showModel (.setAe (.dropModel h))))))

theorem State.Canonical.reload (h : s.Canonical) : s.reload.1.Canonical := by
  unfold State.reload
  refine .ite_fst h ?_
  dsimp only
  split
  · exact .takeCopy (.readModels h)
  · split
    · exact .takeCopy (.readModels (.when (.readModels h) .seRefused))
    · exact .when (.readModels (.when (.readModels h) .seRefused)) .seRefused

theorem State.Canonical.aeload {op : Op} (h : s.Canonical) : (aeload op s).Canonical := by
  unfold Machine.aeload
  refine .issue h fun h => .judge h fun h => ?_
  split
  · exact .loadBegin h
  · exact .loadChunk h
  · exact .loadEnd h
  · exact .post (.closeLoad h)
  · split
    · next e => exact .post (.fst e (.reload h))
    · next e => exact .post (.fst e (.reload h))

theorem State.Canonical.setWindow {k : Nat} {x : AeWindow} (h : s.Canonical) : (s.setWindow k x).Canonical :=
  .set (.set (.setAe h))

theorem State.Canonical.showFrames (h : s.Canonical) : s.showFrames.Canonical := .set h

theorem CanonicalIfSome.winAWrite {w : Writer} {k v : Nat} (h : s.Canonical) : CanonicalIfSome (winAWrite w k v s) :=
  .ite .none (.ite (.ite (.some h) (.some (.showFrames (.setWindow (.set h))))) (.ite (.some (.set (.set (.set h))))
    (.ite (.some (.showFrames (.setWindow (.set (.set (.set (.set h))))))) .none)))

theorem State.Canonical.frameRoom {k : Nat} (h : s.Canonical) : (s.frameRoom k).Canonical := by
  unfold State.frameRoom
  dsimp only
  refine .ite h ?_
  split
  · exact h
  · exact .raise (.add (.setWindow h))

theorem State.Canonical.joinLine {k : Nat} (h : s.Canonical) : (s.joinLine k).Canonical := by
  unfold State.joinLine
  split
  · exact h
  · exact .ite (.setWindow (.ite (.frameRoom (.setWindow h)) (.setWindow h)))
      (.setWindow (.add (.ite (.frameRoom (.setWindow h)) (.setWindow h))))

theorem State.Canonical.joinLines {k n : Nat} (h : s.Canonical) : (State.joinLines k n s).Canonical := by
  induction n generalizing s with
  | zero => exact h
  | succ n ih => exact ih (.joinLine h)

theorem State.Canonical.drainWindows (h : s.Canonical) : s.drainWindows.Canonical :=
  .foldl h fun h => .ite h (.joinLines (.setWindow h))

theorem State.Canonical.ingest {addr : Nat} {bytes : List Nat} {full : Bool} (h : s.Canonical) :
    (s.ingest addr bytes full).Canonical := by
  unfold State.ingest
  split
  · exact h
  · exact .ite (.add h) (.ite (.setWindow (.drainWindows h)) (.ite (.add (.drainWindows h))
      (.raise (.setWindow (.add (.drainWindows h))))))

theorem State.Canonical.queueJob {ref : OpRef} {work : AeWork} {window : Option Nat} {soff wait : Nat}
    (h : s.Canonical) : (s.queueJob ref work window soff wait).Canonical := .ite (.post h) (.setJobs h)

theorem State.Canonical.aerun {op : Op} (h : s.Canonical) : (aerun op s).Canonical :=
  .issue h fun h => .judge h .queueJob

theorem State.Canonical.freeFrame {j : AeJob} (h : s.Canonical) : (s.freeFrame j).Canonical := by
  unfold State.freeFrame
  split
  · exact .ite (.setWindow h) h
  · exact h

theorem State.Canonical.openResults {j : AeJob} (h : s.Canonical) : (s.openResults j).Canonical := by
  unfold State.openResults
  split
  · dsimp only
    exact .putStreamFrom (.drawBytes h)
  · exact h

theorem State.Canonical.jobPos {tag layer left : Nat} (h : s.Canonical) : (s.jobPos tag layer left).Canonical :=
  .set (.set (.set h))

theorem State.Canonical.endJob {j : AeJob} {status result : Nat} (h : s.Canonical) :
    (s.endJob j status result).Canonical := .post (.jobPos (.setJobs (.freeFrame h)))

theorem State.Canonical.stopJob {j : AeJob} {status : Nat} (h : s.Canonical) : (s.stopJob j status).Canonical :=
  .endJob (.add (.openResults h))

theorem State.Canonical.jobDone {j : AeJob} {result : Nat} (h : s.Canonical) : (s.jobDone j result).Canonical :=
  .endJob (.add h)

theorem State.Canonical.planWith {j : AeJob} (h : s.Canonical) : (s.planWith j).Canonical := by
  unfold State.planWith
  dsimp only
  refine .ite (.stopJob (.freeFrame h)) ?_
  split
  · exact .stopJob (.freeFrame h)
  · exact .ite (.stopJob (.freeFrame h)) (.jobPos (.setJobs h))

theorem State.Canonical.frameTimeout {j : AeJob} (h : s.Canonical) : (s.frameTimeout j).Canonical := .endJob h

theorem State.Canonical.planJob {j : AeJob} (h : s.Canonical) : (s.planJob j).Canonical := by
  unfold State.planJob
  split
  · exact .planWith h
  · exact .planWith h
  · dsimp only
    split
    · exact .planWith (.setWindow h)
    · exact .ite (.frameTimeout h) (.setJobs h)

theorem State.Canonical.runDone {j : AeJob} {tag dest : Nat} (h : s.Canonical) :
    (s.runDone j tag dest).Canonical := by
  unfold State.runDone
  exact .ite (.raise (.jobDone (.setSlots h))) (.jobDone (.setSlots h))

theorem State.Canonical.trainUpdate {xs es : List Int} (h : s.Canonical) : (s.trainUpdate xs es).Canonical := by
  unfold State.trainUpdate
  dsimp only
  exact .ite (.raise (.ite_snd (.draw (.add (.set (.set (.setFlag (.setAe h))))))
    (.add (.set (.set (.setFlag (.setAe h))))))) (.add (.set (.set (.setFlag (.setAe h)))))

theorem State.Canonical.eventDone {j : AeJob} {label : Nat} (h : s.Canonical) : (s.eventDone j label).Canonical :=
  .jobDone h

theorem State.Canonical.commitTable {j : AeJob} (h : s.Canonical) : (s.commitTable j).Canonical :=
  .ite (.endJob h) (.setJobs h)

theorem State.Canonical.publish {j : AeJob} (h : s.Canonical) : (s.publish j).Canonical :=
  .setJobs (.add (.showOverlay (.setAe h)))

theorem State.Canonical.runUnit {j : AeJob} {u : AeUnit} (h : s.Canonical) : (s.runUnit j u).Canonical := by
  unfold State.runUnit
  dsimp only
  split
  · split
    · exact .stopJob (.raise h)
    · exact .ite (.setJobs h) h
  · exact .setJobs h
  · exact .trainUpdate h
  · exact .commitTable h
  · exact .publish h
  · exact h
  · exact h
  · exact h

theorem State.Canonical.runUnits {ref : OpRef} {l : List AeUnit} (h : s.Canonical) :
    (State.runUnits ref l s).Canonical := by
  induction l generalizing s with
  | nil => exact h
  | cons u l ih =>
      unfold State.runUnits
      split
      · exact .ite (ih (.runUnit h)) h
      · exact h

theorem State.Canonical.jobRan {j : AeJob} (h : s.Canonical) : (s.jobRan j).Canonical := by
  unfold State.jobRan
  split
  · exact .runDone h
  · exact .eventDone h
  · exact h

theorem State.Canonical.runSlice (h : s.Canonical) : s.runSlice.Canonical := by
  unfold State.runSlice
  dsimp only
  split
  · exact .drainWindows (.setAe h)
  · refine .ite ?_ (.drainWindows (.setAe h))
    split
    · exact .planJob (.drainWindows (.setAe h))
    · exact .drainWindows (.setAe h)
    · split
      · exact .ite (.jobRan (.runUnits (.jobPos (.set (.setJobs (.drainWindows (.setAe h)))))))
          (.runUnits (.jobPos (.set (.setJobs (.drainWindows (.setAe h))))))
      · exact .runUnits (.jobPos (.set (.setJobs (.drainWindows (.setAe h)))))

theorem State.Canonical.jobSlice (h : s.Canonical) : (jobSlice s).Canonical := .ite (.drainWindows h) (.runSlice h)

theorem State.Canonical.frameWaitTimeout (h : s.Canonical) : (frameWaitTimeout s).Canonical := by
  unfold Machine.frameWaitTimeout
  split
  · exact h
  · split
    · exact .ite (.frameTimeout h) h
    · exact h

theorem State.Canonical.commitFlashDone {taken : Bool} {work : FlashWork} (h : s.Canonical) :
    (commitFlashDone taken work s).Canonical := by
  unfold Machine.commitFlashDone
  split
  · exact h
  · dsimp only
    exact .ite (.ite (.jobDone
      (.raise (.getD (.ite (.writeCopy (.setAe (.makePack (.drawTarget (.flashWork h))))) .none)
      (.setAe (.makePack (.drawTarget (.flashWork h)))))))
      (.endJob (.raise (.getD (.ite (.writeCopy (.setAe (.makePack (.drawTarget (.flashWork h))))) .none)
      (.setAe (.makePack (.drawTarget (.flashWork h)))))))) h

theorem State.Canonical.symbolTable {y : Layer} {o : Overlay} (h : s.Canonical) : (s.symbolTable y o).2.Canonical :=
  .ite_snd (.drawBytes h) h

theorem State.Canonical.startAdapt {table : List Int} (h : s.Canonical) : (s.startAdapt table).Canonical :=
  .raise (.set (.set (.set (.setAe h))))

theorem State.Canonical.adaptStart {ref : OpRef} {zero : Bool} (h : s.Canonical) :
    (s.adaptStart ref zero).Canonical := by
  unfold State.adaptStart
  dsimp only
  refine .ite (.post h) ?_
  split
  · exact .post (.startAdapt h)
  · exact .post (.startAdapt (.set (.symbolTable h)))

theorem State.Canonical.adaptEnd {ref : OpRef} (h : s.Canonical) : (s.adaptEnd ref).Canonical :=
  .post (.raise (.set (.set (.setAe h))))

theorem State.Canonical.adaptRebase {ref : OpRef} (h : s.Canonical) : (s.adaptRebase ref).Canonical := by
  unfold State.adaptRebase
  refine .ite (.post h) ?_
  dsimp only
  split
  · exact .post (.when h .readModels)
  · split
    · exact .post (.when h .readModels)
    · exact .ite (.post (.when h .readModels)) (.post (.raise
        (.startAdapt (.set (.symbolTable (.when h .readModels))))))

theorem State.Canonical.aeadapt {op : Op} (h : s.Canonical) : (aeadapt op s).Canonical := by
  unfold Machine.aeadapt
  refine .issue h fun h => ?_
  dsimp only
  refine .judge h fun h => ?_
  split
  · exact .adaptStart h
  · exact .queueJob h
  · exact .queueJob h
  · exact .adaptEnd h
  · exact .adaptRebase h

theorem State.Canonical.aeStopLearning {ref : OpRef} (h : s.Canonical) : (s.aeStopLearning ref).Canonical :=
  .post (.raise (.postAll (.setAe (.setFlag (.set (.setJobs (.foldl h .freeFrame)))))))

theorem State.Canonical.aefreeze {op : Op} (h : s.Canonical) : (aefreeze op s).Canonical :=
  .issue h fun h => .judge h fun h => .ite (.aeStopLearning h) (.post (.raise (.set h)))

/-- R512. The second state operation of AEEXPORT has a keyword of Lean for its name, and `whnf` unfolds it. -/
theorem State.Canonical.aeexport {op : Op} (h : s.Canonical) : (aeexport op s).Canonical := by
  refine .issue h fun h => .judge h fun h => ?_
  conv => arg 1; whnf
  split
  · exact .post h
  · dsimp only
    exact .ite (.post h) (.post (.raise (.putArea (.makePack (.drawTarget (.draw h))))))

theorem State.Canonical.aeFreeze (h : s.Canonical) : s.aeFreeze.Canonical := by
  unfold State.aeFreeze
  dsimp only
  split
  · split
    · exact h
    · exact .postOpt (.set (.setLoad (.dropKind h)))
  · refine .setJobs ?_
    refine .postAll ?_
    refine .ite ?_ ?_
    · refine .stopJob ?_
      split
      · exact h
      · exact .postOpt (.set (.setLoad (.dropKind h)))
    · refine .endJob ?_
      split
      · exact h
      · exact .postOpt (.set (.setLoad (.dropKind h)))

theorem CanonicalIfSome.aeWrite {w : Writer} {o v m : Nat} (h : s.Canonical) : CanonicalIfSome (aeWrite w o v m s) :=
  .ite (.ite (.winAWrite h) (.writeIf h)) (.ite (.writeIf h) (.ite (.writeIf h)
    (.ite (.writeIf h) (.ite (.writeIf h) (.ite (.writeIf h) (.ite (.writeIf h) (.plainWrite h)))))))

/-! ### The functions of TimeInstr -/

theorem State.Canonical.tset {op : Op} (h : s.Canonical) : (tset op s).Canonical :=
  .issue h fun h => .judge h fun h => .ite (.withTm h) (.post (.timeSet h))

theorem State.Canonical.tsetSyncTimeout (h : s.Canonical) : (tsetSyncTimeout s).Canonical := by
  unfold Machine.tsetSyncTimeout
  split
  · exact h
  · exact .onTime h fun h => .post (.withTm h)

theorem State.Canonical.tslew {op : Op} (h : s.Canonical) : (tslew op s).Canonical := by
  unfold Machine.tslew
  refine .issue h fun h => ?_
  refine .judge h fun h => ?_
  dsimp only
  refine .ite ?_ ?_
  · refine .post ?_
    refine .showOutput ?_
    refine .setFlag ?_
    refine .withTm ?_
    split
    · exact .postOpt h
    · exact h
  · refine .showOutput ?_
    refine .setFlag ?_
    refine .withTm ?_
    split
    · exact .postOpt h
    · exact h

theorem State.Canonical.endSlew {k : Slew} (h : s.Canonical) : (s.endSlew k).Canonical :=
  .postOpt (.showOutput (.when (.setFlag (.withTm h)) .setS))

theorem State.Canonical.slewDone (h : s.Canonical) : (slewDone s).Canonical := by
  unfold Machine.slewDone
  split
  · exact h
  · split
    · exact .onTime h .endSlew
    · exact h

theorem State.Canonical.tmark {op : Op} (h : s.Canonical) : (tmark op s).Canonical :=
  .issue h fun h => .judge h fun h => .post (.raiseFrom h)

theorem State.Canonical.tcap {op : Op} (h : s.Canonical) : (tcap op s).Canonical :=
  .issue h fun h => .judge h fun h => .ite (.giveCapture h) (.set (.withTm h))

theorem State.Canonical.emptyCapture {k : Nat} (h : s.Canonical) : (s.emptyCapture k).Canonical :=
  .set (.set (.set (.set h)))

theorem State.Canonical.tcapTimeout {k : Nat} (h : s.Canonical) : (tcapTimeout k s).Canonical := by
  unfold Machine.tcapTimeout
  split
  · exact h
  · exact .onTime h fun h => .post (.emptyCapture (.withTm h))

theorem State.Canonical.freezeTime (h : s.Canonical) : s.freezeTime.Canonical :=
  .postAll (.withTm (.foldl h .emptyCapture))

theorem CanonicalIfSome.snapWrite {w : Writer} (h : s.Canonical) : CanonicalIfSome (snapWrite w s) :=
  .ite (.some (.set (.set (.set h)))) .none

theorem CanonicalIfSome.logrelWrite {_w : Writer} {n : Nat} (h : s.Canonical) :
    CanonicalIfSome (logrelWrite _w n s) := .ite (.some (.when (.set (.withLog h)) .setFlag)) .none

theorem CanonicalIfSome.logPolicyWrite {w : Writer} {stop : Bool} (h : s.Canonical) :
    CanonicalIfSome (logPolicyWrite w stop s) := .ite (.some (.when (.setFlag h) .setFlag)) .none

theorem State.Canonical.logrd {op : Op} (h : s.Canonical) : (logrd op s).Canonical := by
  unfold Machine.logrd
  dsimp only
  exact .issue h fun h => .judge h fun h => .withTm h

theorem State.Canonical.logReadDone (h : s.Canonical) : s.logReadDone.Canonical := by
  unfold State.logReadDone
  split
  · exact h
  · exact .post (.setSlots (.withTm h))

theorem State.Canonical.timeManual {was : Bool} (h : s.Canonical) : (s.timeManual was).Canonical :=
  .ite (.ite h (.showOutput (.withTm h))) (.showOutput (.setFlag (.withTm h)))

theorem CanonicalIfSome.tmWrite {w : Writer} {o v m : Nat} (h : s.Canonical) : CanonicalIfSome (tmWrite w o v m s) :=
  .ite (.ite (.map (.plainWrite h) fun h => .when (.timeManual h) .forgetBins) .none)
    (.ite (.writeIf h) (.ite (.writeIf h) (.ite (.writeIf h)
    (.ite (.map (.plainWrite h) .timeManual) (.ite (.writeIf h) (.ite (.writeIf h)
    (.ite (.writeIf h) (.ite (.leapWrite h) (.ite (.ite (.some (.withTm h)) .none)
    (.ite (.ite (.some (.set (.set h))) .none) (.ite (.writeIf h) (.ite (.ite (.some h) (.snapWrite h))
    (.ite (.logPolicyWrite h) (.ite (.writeIf h) (.ite (.logrelWrite h) (.plainWrite h))))))))))))))))

/-! ### The functions of Battery -/

theorem State.Canonical.readPack {r : PackReading} (h : s.Canonical) : (s.readPack r).Canonical :=
  .setS (.set (.set (.set h)))

theorem State.Canonical.holdCount (h : s.Canonical) : s.holdCount.Canonical := .ite (.set (.withBt h)) h

theorem State.Canonical.setCap {new : Int} (h : s.Canonical) : (s.setCap new).Canonical :=
  .holdCount (.set (.withBt h))

theorem State.Canonical.packThresholds (h : s.Canonical) : s.packThresholds.Canonical :=
  .foldl h fun h => .retune (.set (.set (.set (.set (.set h)))))

theorem State.Canonical.followPath (h : s.Canonical) : s.followPath.Canonical := .ite h (.withBt h)

theorem State.Canonical.pathToVin (h : s.Canonical) : s.pathToVin.Canonical :=
  .when (.withBt (.setFlag (.setFlag h))) .raise

theorem State.Canonical.switchOver {node : Int} (h : s.Canonical) : (switchOver node s).Canonical :=
  .ite (.ite (.when (.setFlag h) .withBt) (.raise (.setFlag (.withBt (.setFlag h))))) h

theorem State.Canonical.stopTimer (h : s.Canonical) : s.stopTimer.Canonical := by
  unfold State.stopTimer
  split
  · exact h
  · exact .withBt h

theorem State.Canonical.startTimer (h : s.Canonical) : s.startTimer.Canonical := by
  unfold State.startTimer
  split
  · exact .withBt h
  · exact h

theorem State.Canonical.bleedCell {c : Nat} (h : s.Canonical) : (s.bleedCell c).Canonical := .setFlag (.withBt h)

theorem State.Canonical.setPhase {p : Nat} (h : s.Canonical) : (s.setPhase p).Canonical :=
  .ite h (.raise (.set (.withBt
    (.ite (.ite (.startTimer h) (.stopTimer h)) (.bleedCell (.ite (.startTimer h) (.stopTimer h)))))))

theorem State.Canonical.chargerRunStart {r : PackReading} (h : s.Canonical) : (chargerRunStart r s).Canonical :=
  .ite (.setPhase (.withBt (.readPack h))) h

theorem State.Canonical.chargerRunStop (h : s.Canonical) : (chargerRunStop s).Canonical := .ite (.setPhase h) h

theorem State.Canonical.chargerTempHold {r : PackReading} (h : s.Canonical) : (chargerTempHold r s).Canonical :=
  .ite (.setPhase (.readPack h)) h

theorem State.Canonical.chargerTempResume {r : PackReading} (h : s.Canonical) : (chargerTempResume r s).Canonical :=
  .ite (.setPhase (.readPack h)) h

theorem State.Canonical.prechargeDone {r : PackReading} (h : s.Canonical) : (prechargeDone r s).Canonical :=
  .ite (.onTime h fun h => .setPhase (.readPack h)) h

theorem State.Canonical.constantVoltage {r : PackReading} (h : s.Canonical) : (constantVoltage r s).Canonical :=
  .ite (.setPhase (.readPack h)) h

theorem State.Canonical.fullCharge (h : s.Canonical) : s.fullCharge.Canonical :=
  .raise (.add (.setFlag (.setFlag (.withBt (.set (.set (.ite (.setPhase h) (.setCap (.setPhase h)))))))))

theorem State.Canonical.chargeFull (h : s.Canonical) : (chargeFull s).Canonical := by
  unfold Machine.chargeFull
  refine .ite ?_ h
  split
  · exact .onTime h .fullCharge
  · exact .ite h (.fullCharge h)

theorem State.Canonical.chargeFault (h : s.Canonical) : (chargeFault s).Canonical := by
  unfold Machine.chargeFault
  split
  · exact .ite (.onTime h fun h => .raise (.setPhase h)) h
  · exact h

theorem State.Canonical.floatUpdate (h : s.Canonical) : s.floatUpdate.Canonical :=
  .when (.withBt (.setFlag (.set h))) .raise

theorem State.Canonical.floatLoop (h : s.Canonical) : (floatLoop s).Canonical := .ite (.onTime h .floatUpdate) h

theorem State.Canonical.balance {r : PackReading} (h : s.Canonical) : (s.balance r).Canonical :=
  .ite (.bleedCell (.withBt (.readPack h))) (.ite (.bleedCell (.withBt (.readPack h))) (.withBt (.readPack h)))

theorem State.Canonical.balanceCycle {r : PackReading} (h : s.Canonical) : (balanceCycle r s).Canonical :=
  .ite (.onTime h .balance) (.bleedCell h)

theorem State.Canonical.showRange {r : PackReading} (h : s.Canonical) : (s.showRange r).Canonical := by
  unfold State.showRange
  dsimp only
  exact .set (.set h)

theorem State.Canonical.restartGauge {r : PackReading} (h : s.Canonical) : (s.restartGauge r).Canonical :=
  .setFlag (.set (.withBt (.showRange (.readPack h))))

theorem State.Canonical.owedGauge (h : s.Canonical) : s.owedGauge.Canonical := by
  unfold State.owedGauge
  refine .ite ?_ h
  refine .ite (.ite h (.raise (.withBt h))) ?_
  split
  · exact .raise (.withBt h)
  · exact h

theorem State.Canonical.judgeGauge (h : s.Canonical) : s.judgeGauge.Canonical :=
  .ite (.ite (.withBt h) (.setFlag (.withBt h))) (.ite (.ite (.setFlag (.withBt (.withBt h))) (.withBt h)) h)

theorem State.Canonical.timePack {r : PackReading} (h : s.Canonical) : (s.timePack r).Canonical :=
  .setFlag (.withBt h)

theorem State.Canonical.gaugeConversions (h : s.Canonical) : s.gaugeConversions.Canonical :=
  .delayScan (.delayScan (.delayScan (.delayScan h)))

theorem State.Canonical.gaugeFigures {r : PackReading} (h : s.Canonical) : (s.gaugeFigures r).Canonical :=
  .set (.owedGauge (.judgeGauge (.set (.set (.set (.timePack (.showRange (.readPack (.gaugeConversions h)))))))))

theorem State.Canonical.gaugeUpdate {r : PackReading} (h : s.Canonical) : (gaugeUpdate r s).Canonical :=
  .ite (.ite (.gaugeFigures (.withBt h)) h) (.ite (.onTime h fun h => .gaugeFigures (.withBt h)) h)

theorem State.Canonical.cutOff {r : PackReading} (h : s.Canonical) : (s.cutOff r).Canonical :=
  .raise (.setFlag (.set (.withBt (.setCap (.readPack h)))))

theorem State.Canonical.gaugeCutoff {r : PackReading} (h : s.Canonical) : (gaugeCutoff r s).Canonical := by
  unfold Machine.gaugeCutoff
  refine .ite ?_ h
  split
  · exact .onTime h .cutOff
  · exact h

theorem State.Canonical.moveCount {d : Int} (h : s.Canonical) : (s.moveCount d).Canonical := .withBt (.set (.set h))

theorem State.Canonical.addCharge {q : Int} (h : s.Canonical) : (s.addCharge q).Canonical :=
  .moveCount (.withBt (.setPair h))

theorem State.Canonical.chooseRange {q : ChargeSample} (h : s.Canonical) : (s.chooseRange q).Canonical := by
  unfold State.chooseRange
  dsimp only
  exact .ite (.when (.withBt (.setFlag (.set (.withBt h)))) .raise) (.set (.withBt h))

theorem State.Canonical.judgeClip {clipped : Bool} (h : s.Canonical) : (s.judgeClip clipped).Canonical :=
  .ite (.when (.setFlag (.withBt h)) .raise) (.ite (.setFlag (.withBt h)) h)

theorem State.Canonical.timeTerm {ma : Int} (h : s.Canonical) : (s.timeTerm ma).Canonical := .withBt h

theorem State.Canonical.countSample {q : ChargeSample} (h : s.Canonical) : (s.countSample q).Canonical :=
  .addCharge (.when (.judgeClip (.timeTerm (.setS (.chooseRange h)))) .setFlag)

theorem State.Canonical.coulombSample {q : ChargeSample} (h : s.Canonical) : (coulombSample q s).Canonical :=
  .ite (.ite h (.countSample (.withBt h))) (.ite (.onTime h fun h => .countSample (.withBt h)) h)

theorem State.Canonical.packRemoved {sign : Nat} (h : s.Canonical) : (packRemoved sign s).Canonical :=
  .ite (.ite (.setFlag (.withBt h)) (.setPhase (.raise (.withBt (.add (.setFlag (.setFlag (.withBt h)))))))) h

theorem State.Canonical.insertPack {r : PackReading} (h : s.Canonical) : (s.insertPack r).Canonical :=
  .ite (.setPhase (.raise (.followPath (.restartGauge (.withBt (.setFlag (.setFlag h)))))))
    (.raise (.followPath (.restartGauge (.withBt (.setFlag (.setFlag h))))))

theorem State.Canonical.packInserted {r : PackReading} (h : s.Canonical) : (packInserted r s).Canonical := by
  unfold Machine.packInserted
  refine .ite ?_ h
  split
  · exact .onTime h .insertPack
  · exact .ite h (.insertPack h)

theorem State.Canonical.batteryManual {f r : Bool} (h : s.Canonical) : (s.batteryManual f r).Canonical :=
  .ite (.setPhase (.when (.ite
    (.ite (.ite (.ite h (.set h)) (.setFlag (.set (.withBt h))))
    (.set (.ite (.ite h (.set h)) (.setFlag (.set (.withBt h))))))
    (.setFlag (.set (.withBt (.ite (.ite h (.set h)) (.setFlag (.set (.withBt h)))))))) .bleedCell))
    (.when (.ite (.ite (.ite (.ite h (.set h)) (.setFlag (.set (.withBt h)))) (.set
    (.ite (.ite h (.set h)) (.setFlag (.set (.withBt h))))))
    (.setFlag (.set (.withBt (.ite (.ite h (.set h)) (.setFlag (.set (.withBt h)))))))) .bleedCell)

theorem CanonicalIfSome.capnomWrite {w : Writer} {v : Nat} (h : s.Canonical) : CanonicalIfSome (capnomWrite w v s) :=
  .ite (.some (.setFlag (.holdCount (.set (.set (.withBt h)))))) .none

theorem CanonicalIfSome.btWrite {w : Writer} {o v m : Nat} (h : s.Canonical) : CanonicalIfSome (btWrite w o v m s) :=
  .ite (.map (.plainWrite h) .batteryManual) (.ite (.writeIf h) (.ite (.writeIf h)
    (.ite (.writeIf h) (.ite (.writeIf h) (.ite (.writeIf h)
    (.ite (.writeIf h) (.ite (.writeIf h) (.ite (.map (.writeIf h) .batteryManual)
    (.ite (.map (.writeIf h) .batteryManual) (.ite (.writeIf h) (.ite (.writeIf h)
    (.ite (.writeIf h) (.ite (.capnomWrite h) (.ite (.writeIf h)
    (.ite (.writeIf h) (.ite (.writeIf h) (.ite (.writeIf h)
    (.ite (.writeIf h) (.ite (.writeIf h) (.ite (.map (.writeIf h) .packThresholds)
    (.ite (.writeIf h) (.plainWrite h))))))))))))))))))))))

/-! ### The functions of Compression -/

theorem State.Canonical.cpCount {kind : Nat} (h : s.Canonical) : (s.cpCount kind).Canonical :=
  .ite (.add h) (.ite (.add h) h)

theorem State.Canonical.cpIssue {kind opcode : Nat} {op : Op} (h : s.Canonical) :
    (cpIssue kind opcode op s).Canonical :=
  .issue h fun h => .judge h fun h => .ite (.post h) (.ite (.post (.when (.cpCount h) .set)) (.withCp h))

theorem State.Canonical.cpFail {j : CpJob} {status block : Nat} (h : s.Canonical) :
    (s.cpFail j status block).Canonical := .post (.raise (.add (.set (.set h))))

theorem State.Canonical.cpPacked {j : CpJob} {out : List Nat} {lost : Nat} (h : s.Canonical) :
    (s.cpPacked j out lost).Canonical := .ite (.post (.add (.set (.putArea h)))) (.post (.add (.set (.putArea h))))

theorem State.Canonical.cpPack {j : CpJob} (h : s.Canonical) : (cpPack j s).Canonical :=
  .ite (.ite (.post h) (.cpPacked h)) (.ite (.cpPacked h) (.ite (.post h) (.ite (.post h) (.cpPacked h))))

theorem State.Canonical.cpUnpack {j : CpJob} (h : s.Canonical) : (cpUnpack j s).Canonical := by
  unfold Machine.cpUnpack
  split
  · exact .cpFail h
  · dsimp only
    split
    · exact .cpFail (.putArea h)
    · exact .post (.add (.putArea h))

theorem State.Canonical.cpCheck {j : CpJob} (h : s.Canonical) : (cpCheck j s).Canonical := by
  unfold Machine.cpCheck
  dsimp only
  refine .ite ?_ ?_
  · split
    · exact .cpFail h
    · exact .post h
  · split
    · exact .cpFail h
    · exact .cpFail h
    · exact .post h

theorem State.Canonical.cpDone (h : s.Canonical) : (cpDone s).Canonical := by
  unfold Machine.cpDone
  split
  · exact h
  · exact .ite (.cpPack (.withCp h)) (.ite (.cpUnpack (.withCp h)) (.cpCheck (.withCp h)))

theorem State.Canonical.cpFreeze (h : s.Canonical) : s.cpFreeze.Canonical := by
  unfold State.cpFreeze
  split
  · exact h
  · dsimp only
    exact .postAll (.ite (.withCp h) (.putArea (.drawBytes (.withCp h))))

theorem State.Canonical.cppack {op : Op} (h : s.Canonical) : (cppack op s).Canonical := .cpIssue h

theorem State.Canonical.cpunpack {op : Op} (h : s.Canonical) : (cpunpack op s).Canonical := .cpIssue h

theorem State.Canonical.cpcheck {op : Op} (h : s.Canonical) : (cpcheck op s).Canonical := .cpIssue h

/-! ### The functions of Flags -/

theorem State.Canonical.setFlags {r : Nat} {f : Nzcv} (h : s.Canonical) : (s.setFlags r f).Canonical :=
  .setFlag (.setFlag (.setFlag (.setFlag h)))

/-! ### The functions of CoreInstr -/

theorem State.Canonical.retire {ring opcode : Nat} (h : s.Canonical) : (s.retire ring opcode).Canonical :=
  .uses (.violate h)

theorem State.Canonical.coreIssue {op : Op} {opcode : Nat} {legal : Bool} {body : State → State} (h : s.Canonical)
    (hbody : ∀ {t}, t.Canonical → (body t).Canonical) : (s.coreIssue op opcode legal body).Canonical :=
  .ite (.ite (hbody (.uses (.moveOn h))) (.retire (.moveOn h))) h

theorem State.Canonical.corePost {op : Op} {opcode : Nat} {legal : Bool} {body : State → OpRef → State}
    (h : s.Canonical) (hbody : ∀ {t x1}, t.Canonical → (body t x1).Canonical) :
    (s.corePost op opcode legal body).Canonical :=
  .ite (.ite (.ite (hbody (.uses (.moveOn (.reserve h)))) (.ite (.setRing (.retire (.moveOn (.reserve h))))
    (.cqRelease (.retire (.moveOn (.reserve h)))))) (.cqHold h)) h

theorem State.Canonical.nop {op : Op} (h : s.Canonical) : (nop op s).Canonical := .coreIssue h id

theorem State.Canonical.ldi {op : Op} (h : s.Canonical) : (ldi op s).Canonical := .coreIssue h .set

theorem State.Canonical.mov {op : Op} (h : s.Canonical) : (mov op s).Canonical := .coreIssue h .set

theorem State.Canonical.addInstr {op : Op} (h : s.Canonical) : (Machine.add op s).Canonical :=
  .coreIssue h fun h => .setFlags (.set h)

theorem State.Canonical.sub {op : Op} (h : s.Canonical) : (sub op s).Canonical :=
  .coreIssue h fun h => .setFlags (.set h)

theorem State.Canonical.andInstr {op : Op} (h : s.Canonical) : (andInstr op s).Canonical :=
  .coreIssue h fun h => .setFlags (.set h)

theorem State.Canonical.orInstr {op : Op} (h : s.Canonical) : (orInstr op s).Canonical :=
  .coreIssue h fun h => .setFlags (.set h)

theorem State.Canonical.cmp {op : Op} (h : s.Canonical) : (cmp op s).Canonical := .coreIssue h .setFlags

theorem State.Canonical.br {op : Op} (h : s.Canonical) : (br op s).Canonical := by
  unfold Machine.br
  exact .coreIssue h fun h => .when h .moveOn

theorem State.Canonical.setLoopCount {r k n : Nat} (h : s.Canonical) : (s.setLoopCount r k n).Canonical :=
  .setMaskBit (.setRing h)

theorem State.Canonical.loop {op : Op} (h : s.Canonical) : (loop op s).Canonical :=
  .coreIssue h fun h => .ite (.setLoopCount h) (.setRing (.setLoopCount h))

theorem State.Canonical.waitt {op : Op} (h : s.Canonical) : (waitt op s).Canonical := .coreIssue h .setRing

theorem State.Canonical.waite {op : Op} (h : s.Canonical) : (waite op s).Canonical := .coreIssue h .setRing

theorem State.Canonical.signal {op : Op} (h : s.Canonical) : (signal op s).Canonical := by
  unfold Machine.signal
  exact .corePost h fun h => .post (.add h)

theorem State.Canonical.fence {op : Op} (h : s.Canonical) : (fence op s).Canonical :=
  .corePost h fun h => .ite (.post (.add h)) (.setRing (.add h))

theorem State.Canonical.reservedOpcode {op : Op} (h : s.Canonical) : (reservedOpcode op s).Canonical :=
  .issue h .illegal

theorem State.Canonical.waittExpiry {r : Nat} (h : s.Canonical) : (waittExpiry r s).Canonical := by
  unfold Machine.waittExpiry
  split
  · exact .ite (.setRing h) h
  · exact h

theorem State.Canonical.waiteTimeout {r : Nat} (h : s.Canonical) : (waiteTimeout r s).Canonical := by
  unfold Machine.waiteTimeout
  split
  · exact .ite (.setRing (.set h)) h
  · exact h

theorem State.Canonical.waiteMatchEvent {r seq : Nat} (h : s.Canonical) : (waiteMatchEvent r seq s).Canonical := by
  unfold Machine.waiteMatchEvent
  split
  · exact .ite (.waiteMatch h) h
  · exact h

/-! ### The functions of SmartCard -/

theorem State.Canonical.setSc {x : SmartCard} (h : s.Canonical) : (s.setSc x).Canonical := .withSc h

theorem State.Canonical.scAwait (h : s.Canonical) : s.scAwait.Canonical := .setSc h

theorem State.Canonical.scDeactivate {cause status : Nat} (h : s.Canonical) :
    (s.scDeactivate cause status).Canonical :=
  .ite (.setSc (.set (.set h))) (.ite (.setSc h) (.ite (.postOpt (.setSc h)) h))

theorem State.Canonical.scDeactivationDone (h : s.Canonical) : (scDeactivationDone s).Canonical :=
  .ite (.raise (.forceChannel (.wantRail (.setSc (.set h)))))
    (.ite (.ite (.ite (.releaseEnd (.postAll (.raise (.forceChannel (.wantRail (.setSc (.set h))))))) (.ite
    (.postAll (.raise (.forceChannel (.wantRail (.setSc (.set h))))))
    (.releaseSafe (.raise (.postAll (.raise (.forceChannel (.wantRail (.setSc (.set h))))))))))
    (.postAll (.raise (.forceChannel (.wantRail (.setSc (.set h))))))) h)

theorem State.Canonical.scReleaseIdle (h : s.Canonical) : s.scReleaseIdle.Canonical := .ite (.scDeactivate h) h

theorem State.Canonical.scReleaseRaise (h : s.Canonical) : s.scReleaseRaise.Canonical :=
  .ite (.releaseSafe (.raise (.set h))) (.scReleaseIdle (.set h))

theorem State.Canonical.scAttempt {cls : Nat} (h : s.Canonical) : (s.scAttempt cls).Canonical :=
  .setSc (.scAwait (.forceChannel (.wantRail (.set (.set (.set h))))))

theorem State.Canonical.scAttemptFails (h : s.Canonical) : s.scAttemptFails.Canonical := .scDeactivate h

theorem State.Canonical.scActivated (h : s.Canonical) : s.scActivated.Canonical :=
  .scReleaseIdle (.postOpt (.raise (.setSc (.set h))))

theorem State.Canonical.sendBlock {pcb : Nat} {inf : List Nat} (h : s.Canonical) : (s.sendBlock pcb inf).Canonical :=
  .setSc h

theorem State.Canonical.scRunRate (h : s.Canonical) : s.scRunRate.Canonical :=
  .ite (.setSc (.sendBlock (.setSc h))) (.scActivated (.setSc h))

theorem State.Canonical.scProtocol {a : Atr} {proto : Nat} (h : s.Canonical) : (s.scProtocol a proto).Canonical :=
  .setSc (.set (.set (.set (.set (.set (.set (.setFlag (.set h))))))))

theorem State.Canonical.scCopyAtr {bytes : List Nat} {a : Atr} (h : s.Canonical) : (s.scCopyAtr bytes a).Canonical :=
  .setFlag (.set (.foldl h .set))

theorem State.Canonical.scTakeAtr {a : Atr} {proto : Nat} (h : s.Canonical) : (s.scTakeAtr a proto).Canonical := by
  unfold State.scTakeAtr
  dsimp only
  split
  · exact .setSc (.setSc (.set (.scProtocol h)))
  · exact .scRunRate (.setSc (.set (.scProtocol h)))

theorem State.Canonical.scAtr {bytes : List Nat} {clean : Bool} (h : s.Canonical) :
    (scAtr bytes clean s).Canonical := by
  unfold Machine.scAtr
  refine .ite ?_ h
  split
  · exact .scAttemptFails h
  · split
    · exact .scAttemptFails h
    · exact .ite (.scAttemptFails h) (.ite (.scTakeAtr (.scCopyAtr h)) (.scAttemptFails (.setSc (.scCopyAtr h))))

theorem State.Canonical.scAtrTimeout (h : s.Canonical) : (scAtrTimeout s).Canonical :=
  .ite (.onTime h .scAttemptFails) h

theorem State.Canonical.scClassRetry (h : s.Canonical) : (scClassRetry s).Canonical := by
  unfold Machine.scClassRetry
  refine .ite ?_ h
  refine .onTime h fun h => ?_
  split
  · exact .scAttempt h
  · exact h

theorem State.Canonical.scPpsResponse {bytes : List Nat} (h : s.Canonical) : (scPpsResponse bytes s).Canonical :=
  .ite (.ite (.scRunRate (.setSc (.set h))) (.ite (.scRunRate (.setSc (.set h))) (.scDeactivate h))) h

theorem State.Canonical.scPpsTimeout (h : s.Canonical) : (scPpsTimeout s).Canonical :=
  .ite (.onTime h .scDeactivate) h

theorem State.Canonical.scact {op : Op} (h : s.Canonical) : (scact op s).Canonical := by
  unfold Machine.scact
  refine .issue h fun h => ?_
  dsimp only
  refine .judge h fun h => ?_
  refine .ite ?_ (.setSc (.set (.set (.setSc (.set h)))))
  split
  · exact .scAttempt (.setSc (.set h))
  · exact .setSc (.set h)

theorem State.Canonical.scDone {status : Nat} (h : s.Canonical) : (s.scDone status).Canonical :=
  .scReleaseIdle (.postOpt (.setSc (.set h)))

theorem State.Canonical.sendI (h : s.Canonical) : s.sendI.Canonical := .setSc (.sendBlock h)

theorem State.Canonical.resendI (h : s.Canonical) : s.resendI.Canonical := .setSc h

theorem State.Canonical.sendR {code : Nat} (h : s.Canonical) : (s.sendR code).Canonical := .setSc (.sendBlock h)

theorem State.Canonical.scFails (h : s.Canonical) : s.scFails.Canonical := .setSc h

theorem State.Canonical.scResynch (h : s.Canonical) : s.scResynch.Canonical :=
  .ite (.setSc (.sendBlock h)) (.scDeactivate (.raise (.add h)))

theorem State.Canonical.scResynched (h : s.Canonical) : s.scResynched.Canonical :=
  .scDone (.set (.set (.raise (.add h))))

theorem State.Canonical.scInvalid {code : Nat} (h : s.Canonical) : (s.scInvalid code).Canonical :=
  .ite (.scResynch h) (.ite (.sendR (.add (.scFails h))) (.scResynch h))

theorem State.Canonical.scRBlock {nr : Nat} (h : s.Canonical) : (s.scRBlock nr).Canonical :=
  .ite (.sendBlock (.add (.scFails h))) (.ite (.resendI (.add (.scFails h))) (.ite (.sendI (.setSc (.set h)))
    (.scInvalid h)))

theorem State.Canonical.scAckI (h : s.Canonical) : s.scAckI.Canonical := .ite h (.setSc (.set h))

theorem State.Canonical.scIBlock {ns : Nat} {more : Bool} {inf : List Nat} (h : s.Canonical) :
    (s.scIBlock ns more inf).Canonical := by
  unfold State.scIBlock
  refine .ite (.scInvalid h) ?_
  refine .ite (.ite (.sendBlock (.setSc (.setSc (.set (.set (.padStream (.putStreamFrom (.scAckI h)))))))) (.ite
    (.sendR (.setSc (.set (.set (.padStream (.putStreamFrom (.scAckI h)))))))
    (.scDone (.setSc (.set (.set (.padStream (.putStreamFrom (.scAckI h))))))))) ?_
  dsimp only
  split
  · exact .sendBlock (.add (.add (.scFails h)))
  · exact .sendR (.add (.add (.scFails h)))

theorem State.Canonical.scBlock {pcb : Nat} {inf : List Nat} (h : s.Canonical) : (s.scBlock pcb inf).Canonical := by
  unfold State.scBlock
  refine .ite (.ite (.scResynched h) (.scResynch h)) ?_
  refine .ite (.scIBlock h) ?_
  refine .ite (.scRBlock h) ?_
  split
  · exact .setSc (.sendBlock h)
  · exact .ite (.sendBlock (.set h)) (.scInvalid h)
  · exact .scDone (.sendBlock h)
  · exact .ite (.scDone h) (.scInvalid h)
  · exact .scInvalid h

theorem State.Canonical.scIfsFails (h : s.Canonical) : s.scIfsFails.Canonical :=
  .ite (.sendBlock (.add (.scFails h))) (.scActivated (.setSc h))

theorem State.Canonical.scBlockReceived {bytes : List Nat} {parity gap : Bool} (h : s.Canonical) :
    (scBlockReceived bytes parity gap s).Canonical := by
  unfold Machine.scBlockReceived
  refine .ite ?_ ?_
  · dsimp only
    split
    · exact .scBlock (.setSc h)
    · exact .scInvalid (.setSc h)
  · refine .ite ?_ h
    split
    · exact .ite (.scActivated h) (.ite (.sendBlock h) (.scIfsFails h))
    · exact .scIfsFails h

theorem State.Canonical.scBwtExpiry (h : s.Canonical) : (scBwtExpiry s).Canonical :=
  .ite (.onTime h fun h => .scInvalid (.setSc h)) (.ite (.onTime h .scIfsFails) h)

theorem State.Canonical.scRawCharacter {sent ok : Bool} {v : Nat} (h : s.Canonical) :
    (scRawCharacter sent ok v s).Canonical :=
  .ite (.ite (.ite (.setSc (.scAwait h)) (.scDone (.add (.scAwait h))))
    (.ite (.setSc (.setSc (.scAwait h))) (.ite (.setSc (.scAwait h)) (.ite
    (.scDone (.set (.padStream (.putStreamByte (.setSc (.scAwait h))))))
    (.set (.padStream (.putStreamByte (.setSc (.scAwait h))))))))) h

theorem State.Canonical.scWtExpiry (h : s.Canonical) : (scWtExpiry s).Canonical := .ite (.onTime h .scDone) h

theorem State.Canonical.scRawSent (h : s.Canonical) : s.scRawSent.Canonical := .ite (.scDone h) h

theorem State.Canonical.scXfrTimeout (h : s.Canonical) : (scXfrTimeout s).Canonical :=
  .ite (.onTime h .scDeactivate) h

theorem State.Canonical.scxfr {op : Op} (h : s.Canonical) : (scxfr op s).Canonical :=
  .issue h fun h => .judge h fun h => .ite (.post h)
    (.ite (.post (.set (.set h))) (.ite (.sendI (.setSc (.set (.set (.set h))))) (.setSc
    (.setSc (.set (.set (.set h)))))))

theorem State.Canonical.scclk {op : Op} (h : s.Canonical) : (scclk op s).Canonical :=
  .issue h fun h => .judge h fun h => .ite (.ite (.post h) (.post (.setSc (.set h))))
    (.ite (.post (.set h)) (.post (.setSc h)))

theorem State.Canonical.scdeact {op : Op} (h : s.Canonical) : (scdeact op s).Canonical :=
  .issue h fun h => .judge h fun h => .ite (.post h) (.scDeactivate (.setSc h))

theorem State.Canonical.scCardInserted (h : s.Canonical) : (scCardInserted s).Canonical :=
  .ite (.raise (.add (.set h))) h

theorem State.Canonical.scCardRemoved (h : s.Canonical) : (scCardRemoved s).Canonical :=
  .ite (.releaseRemoved (.scDeactivate (.raise (.add (.set h))))) h

theorem State.Canonical.scVccFault {kind vcc ma : Nat} (h : s.Canonical) : (s.scVccFault kind vcc ma).Canonical :=
  .ite (.scDeactivate (.raise h)) h

theorem State.Canonical.scSupplyFault {kind vcc ma : Nat} (h : s.Canonical) :
    (scSupplyFault kind vcc ma s).Canonical := .ite (.scVccFault h) h

theorem CanonicalIfSome.scWrite {w : Writer} {o v m : Nat} (h : s.Canonical) : CanonicalIfSome (scWrite w o v m s) :=
  .ite (.writeWhere h) (.ite (.writeWhere h) (.ite (.writeIf h) (.ite (.writeIf h) (.plainWrite h))))

/-! ### The functions of Faceplate -/

theorem State.Canonical.setFp {x : Faceplate} (h : s.Canonical) : (s.setFp x).Canonical := .withFp h

theorem State.Canonical.setLamp {k : Nat} {x : Lamp} (h : s.Canonical) : (s.setLamp k x).Canonical := .setFp h

theorem State.Canonical.noteSet {k : Nat} (h : s.Canonical) : (s.noteSet k).Canonical := .setLamp h

theorem State.Canonical.shortOff {k : Nat} (h : s.Canonical) : (s.shortOff k).Canonical := .set h

theorem State.Canonical.lampResult {k result pinv : Nat} (h : s.Canonical) :
    (s.lampResult k result pinv).Canonical := by
  unfold State.lampResult
  dsimp only
  refine .ite ?_ (.ite (.when (.raise (.setLamp (.setMaskBit (.setLamp (.set (.set h)))))) .shortOff) (.setLamp
    (.set (.set h))))
  split
  · exact .ite (.raise (.setLamp (.setMaskBit (.setLamp (.set (.set h)))))) (.setLamp (.set (.set h)))
  · exact .setLamp (.set (.set h))

theorem State.Canonical.indicatorMeasurement {k current pinv : Nat} (h : s.Canonical) :
    (indicatorMeasurement k current pinv s).Canonical := .ite (.lampResult (.setLamp h)) h

theorem State.Canonical.provingPulse {k current pinv : Nat} (h : s.Canonical) :
    (provingPulse k current pinv s).Canonical := .ite (.lampResult (.setLamp h)) h

theorem State.Canonical.offStateProbe {k pinv : Nat} (h : s.Canonical) : (offStateProbe k pinv s).Canonical :=
  .ite (.lampResult (.setLamp h)) h

theorem State.Canonical.setLamps {mask v : Nat} (h : s.Canonical) : (s.setLamps mask v).Canonical :=
  .foldl h fun h => .when h fun h => .set (.noteSet h)

theorem State.Canonical.fpind {op : Op} (h : s.Canonical) : (fpind op s).Canonical :=
  .issue h fun h => .judge h fun h => .ite (.setFp (.setLamps h)) (.post h)

theorem State.Canonical.fpindDone (h : s.Canonical) : (fpindDone s).Canonical := by
  unfold Machine.fpindDone
  split
  · exact .ite h (.post (.setFp h))
  · exact h

theorem State.Canonical.raiseRequest {how : Nat} (h : s.Canonical) : (s.raiseRequest how).Canonical :=
  .oneCycle h fun h => .when (.when (.raise
    (.setFp (.when (.when (.set h) .set) .set))) .scReleaseRaise) .mcReleaseRaise

theorem State.Canonical.showDelta (h : s.Canonical) : s.showDelta.Canonical := .when (.setS h) .setFp

theorem State.Canonical.takeSample {sample : Nat} (h : s.Canonical) : (s.takeSample sample).Canonical :=
  .showDelta (.set h)

theorem State.Canonical.baselineLoop {d : Int} (h : s.Canonical) : (s.baselineLoop d).Canonical :=
  .ite (.when (.showDelta (.setFp (.setFlag (.setS h)))) .raise) h

theorem State.Canonical.rebaseline (h : s.Canonical) : s.rebaseline.Canonical := .baselineLoop h

theorem State.Canonical.firstBaseline {samples : List Nat} (h : s.Canonical) : (s.firstBaseline samples).Canonical :=
  .showDelta (.set (.setFp h))

theorem State.Canonical.baselineUpdate {samples : List Nat} (h : s.Canonical) :
    (baselineUpdate samples s).Canonical := by
  unfold Machine.baselineUpdate
  split
  · exact h
  · exact .ite h (.ite (.ite (.onTime h fun h => .baselineLoop (.takeSample (.setFp h))) h) (.ite
      (.onTime h fun h => .firstBaseline (.takeSample h)) h))

theorem State.Canonical.keyTouch {sample : Nat} (h : s.Canonical) : (keyTouch sample s).Canonical :=
  .ite (.ite (.oneCycle (.setFp (.add (.set (.takeSample (.passTo h))))) fun h => .raise (.ite (.raiseRequest h)
    (.ite (.releaseEnd h) h))) (.takeSample (.passTo h))) h

theorem State.Canonical.keyTouchRelease {sample : Nat} (h : s.Canonical) : (keyTouchRelease sample s).Canonical :=
  .ite (.when (.takeSample h) .set) h

theorem State.Canonical.keyAntiTouch {sample : Nat} (h : s.Canonical) : (keyAntiTouch sample s).Canonical :=
  .ite (.ite (.oneCycle (.takeSample h) fun h => .raise (.rebaseline (.set (.set h)))) (.takeSample h)) h

theorem State.Canonical.keyHeldStuck {sample : Nat} (h : s.Canonical) : (keyHeldStuck sample s).Canonical :=
  .ite (.oneCycle (.takeSample (.passTo h)) fun h => .raise (.rebaseline (.add (.set (.set h))))) h

theorem State.Canonical.feedbackSteadyTimeout (h : s.Canonical) : (feedbackSteadyTimeout s).Canonical := by
  unfold Machine.feedbackSteadyTimeout
  split
  · exact .onTime h .setFp
  · exact h

theorem State.Canonical.fpkey {op : Op} (h : s.Canonical) : (fpkey op s).Canonical :=
  .issue h fun h => .judge h fun h => .ite (.post (.raiseRequest h))
    (.ite (.post (.releaseEnd h)) (.ite (.post (.rebaseline h)) (.post h)))

theorem State.Canonical.baselineManual {was : Bool} (h : s.Canonical) : (s.baselineManual was).Canonical :=
  .ite (.ite h (.showDelta (.set h))) (.showDelta (.setFlag (.set (.setFp h))))

theorem CanonicalIfSome.fpWrite {w : Writer} {o v m : Nat} (h : s.Canonical) : CanonicalIfSome (fpWrite w o v m s) :=
  .ite (.ite (.writeIf (.noteSet h)) (.ite (.writeIf h) (.plainWrite h)))
    (.ite (.map (.plainWrite h) .baselineManual) (.ite (.writeIf h) (.ite (.writeIf h)
    (.ite (.writeIf h) (.ite (.writeIf h) (.ite (.writeIf h) (.ite (.writeIf h) (.plainWrite h))))))))

theorem State.Canonical.fpFreeze (h : s.Canonical) : s.fpFreeze.Canonical := .setFp h

/-! ### The functions of SideBand -/

theorem State.Canonical.setSb {x : SideBand} (h : s.Canonical) : (s.setSb x).Canonical := .withSb h

theorem State.Canonical.setAge {ms : Nat} (h : s.Canonical) : (s.setAge ms).Canonical := .setSb (.set h)

theorem State.Canonical.beat (h : s.Canonical) : s.beat.Canonical :=
  .ite (.set (.setAge h)) (.ite (.raise (.set (.setAge h))) (.setAge h))

theorem CanonicalIfSome.beatWrite {w : Writer} (h : s.Canonical) : CanonicalIfSome (beatWrite w s) :=
  .ite (.some (.beat h)) .none

theorem State.Canonical.heartbeatLapse (h : s.Canonical) : (heartbeatLapse s).Canonical :=
  .ite (.raise (.add (.set (.setAge (.passTo h))))) h

theorem State.Canonical.hbEnable {en : Bool} (h : s.Canonical) : (s.hbEnable en).Canonical :=
  .ite (.ite (.setSb (.set h)) h) (.set h)

theorem CanonicalIfSome.hbcfgWrite {w : Writer} {v m : Nat} (h : s.Canonical) :
    CanonicalIfSome (hbcfgWrite w v m s) := .map (.writeWhere h) .hbEnable

theorem State.Canonical.hbCoreStart (h : s.Canonical) : s.hbCoreStart.Canonical :=
  .set (.set (.setAge (.setSb (.set h))))

theorem State.Canonical.stewardAlone (h : s.Canonical) : s.stewardAlone.Canonical := .when h .set

theorem CanonicalIfSome.takeWrite {w : Writer} (h : s.Canonical) : CanonicalIfSome (takeWrite w s) :=
  .ite (.some (.withRing15 (.raise (.set (.set h))))) .none

theorem CanonicalIfSome.releaseWrite {w : Writer} (h : s.Canonical) : CanonicalIfSome (releaseWrite w s) :=
  .ite (.some (.raise (.set (.set h)))) .none

theorem CanonicalIfSome.stewctlWrite {w : Writer} {v : Nat} (h : s.Canonical) :
    CanonicalIfSome (stewctlWrite w v s) := by
  unfold Machine.stewctlWrite
  split
  · exact .none
  · next e => exact .some (.ite (.ofSome e (.takeWrite h)) h)
  · next e _ => exact .some (.ite (.ofSome e (.releaseWrite h)) h)

theorem CanonicalIfSome.sbWrite {w : Writer} {o v m : Nat} (h : s.Canonical) : CanonicalIfSome (sbWrite w o v m s) :=
  .ite (.stewctlWrite h) (.ite (.ite (.ite (.beatWrite h) (.some h)) .none) (.ite (.hbcfgWrite h)
    (.ite (.writeIf h) (.plainWrite h))))

/-! ### The functions of TickUnit -/

theorem CanonicalIfSome.rateWrite {w : Writer} {rate : Nat} (h : s.Canonical) :
    CanonicalIfSome (rateWrite w rate s) := .ite (.some (.setFlag (.set (.withTick h)))) .none

theorem State.Canonical.sharesApply {w : Writer} {shares : List (Nat × Nat)} (h : s.Canonical) :
    (sharesApply w shares s).1.Canonical :=
  .ite_fst (.foldl h .set) h

theorem CanonicalIfSome.shareWrite {w : Writer} {r v : Nat} (h : s.Canonical) :
    CanonicalIfSome (shareWrite w r v s) := by
  unfold Machine.shareWrite
  dsimp only
  exact .ite (.some (.sharesApply h)) .none

theorem CanonicalIfSome.starveWrite {w : Writer} {ticks : Nat} (h : s.Canonical) :
    CanonicalIfSome (starveWrite w ticks s) := .ite (.some (.when (.set h) .set)) .none

theorem CanonicalIfSome.tkWrite {w : Writer} {o v m : Nat} (h : s.Canonical) : CanonicalIfSome (tkWrite w o v m s) :=
  .ite (.rateWrite h) (.ite (.starveWrite h) (.ite (.shareWrite h) (.plainWrite h)))

theorem CanonicalNext.execTkShareWrite {w : Writer} {shares : List (Nat × Nat)} (h : s.Canonical) :
    CanonicalNext (execTkShareWrite w shares s) :=
  .next (.violations (.ite_fst (.sharesApply h) h))

/-! ### The functions of Domain -/

theorem State.Canonical.dropCore : s.dropCore.Canonical := rfl

theorem State.Canonical.coreStop (h : s.Canonical) : s.coreStop.Canonical :=
  .ite (.wantRail (.wantRail (.retune (.retune (.stewardAlone .dropCore))))) h

theorem State.Canonical.loadCore (h : s.Canonical) : s.loadCore.Canonical := by
  unfold State.loadCore
  exact .lkLoadRecord (.foldl (.when
    (.when (.setFlag (.shadowManual (.set (.set (.set (.applyRecords h)))))) .set) .baselineManual) fun h => .ite h
    (.uaConfigure h))

theorem State.Canonical.raiseDeferred {from_ : Nat} (h : s.Canonical) : (s.raiseDeferred from_).Canonical := by
  unfold State.raiseDeferred
  dsimp only
  exact .raiseAll (.setSe (.withTm (.countTorn h)))

theorem State.Canonical.startTime (h : s.Canonical) : s.startTime.Canonical :=
  .ite h (.showXtal (.set (.set (.set (h.congr rfl rfl rfl)))))

theorem State.Canonical.coreStart (h : s.Canonical) : s.coreStart.Canonical :=
  .ite h (.raiseDeferred (.raise (.hbCoreStart (.set (.set (.add (.startTime (.loadCore (h.congr rfl rfl rfl)))))))))

/-! ### The functions of Stop -/

theorem State.Canonical.showFaultLine (h : s.Canonical) : s.showFaultLine.Canonical := .setFlag (.setFlag h)

theorem State.Canonical.watchLine (h : s.Canonical) : s.watchLine.Canonical :=
  .ite (.ite h (.raise (.withPw h))) (.ite (.raise (.withPw h)) h)

theorem State.Canonical.marginBack {m step : Nat} (h : s.Canonical) : (s.marginBack m step).Canonical :=
  .set (.withPw (.setRail h))

theorem State.Canonical.marginsNominal (h : s.Canonical) : s.marginsNominal.Canonical :=
  .postAll (.foldl (.withPw h) fun h => .ite h (.marginBack h))

theorem State.Canonical.enterState {new cause : Nat} (h : s.Canonical) : (s.enterState new cause).Canonical :=
  .showFaultLine (.followPath (.dropFlags (.raise (.set (.set (.when h .marginsNominal))))))

theorem State.Canonical.setRailState {k st : Nat} (h : s.Canonical) : (s.setRailState k st).Canonical := .set h

theorem State.Canonical.releaseRail {k : Nat} (h : s.Canonical) : (s.releaseRail k).Canonical :=
  .when (.when (.when (.retune (.setRail (.setRailState (.setMaskBit h)))) fun h => .uaStopAll
    (.dropSources h)) .showXtal) .coreStop

theorem State.Canonical.railFallen {k : Nat} (h : s.Canonical) : (s.railFallen k).Canonical :=
  .dropFlag (.retune (.setRail (.setMaskBit (.setRailState h))))

theorem State.Canonical.endRailOffs {k status result : Nat} (h : s.Canonical) :
    (s.endRailOffs k status result).Canonical := .ite (.postAll (.withPw h)) h

theorem State.Canonical.writeLatch (h : s.Canonical) : s.writeLatch.Canonical := by
  unfold State.writeLatch
  split
  · exact .withPw (.setFlag (.set (.set h)))
  · exact h

theorem State.Canonical.endEpisode (h : s.Canonical) : s.endEpisode.Canonical := .setFlag (.withPw h)

theorem State.Canonical.endStop {goal : StopTo} (h : s.Canonical) : (s.endStop goal).Canonical := by
  unfold State.endStop
  split
  · exact .withPw h
  · exact .enterState (h.congr rfl rfl rfl)
  · exact .withTm (.set (.set (.enterState (.endEpisode (.writeLatch (h.congr rfl rfl rfl))))))
  · exact .enterState (.endEpisode (.writeLatch (h.congr rfl rfl rfl)))
  · exact .withPw h

theorem State.Canonical.stopNext {goal : StopTo} {collapsed l : List Nat} (h : s.Canonical) :
    (stopNext goal collapsed l s).Canonical := by
  induction l generalizing s with
  | nil =>
      unfold Machine.stopNext
      split
      · exact .withPw h
      · exact .endStop h
  | cons k l ih => exact .ite (.withPw h) (.ite (ih (.railFallen (.releaseRail h))) (.withPw (.releaseRail h)))

theorem State.Canonical.stopAfter {k : Nat} (h : s.Canonical) : (s.stopAfter k).Canonical := by
  unfold State.stopAfter
  split
  · exact .ite (.stopNext h) h
  · exact h

theorem State.Canonical.stopRetry (h : s.Canonical) : s.stopRetry.Canonical := by
  unfold State.stopRetry
  split
  · exact .ite (.stopNext h) h
  · exact h

theorem State.Canonical.stopAll (h : s.Canonical) : s.stopAll.Canonical := by
  unfold State.stopAll
  split
  · exact .stopRetry (.withPw h)
  · exact h

theorem State.Canonical.endSequence (h : s.Canonical) : s.endSequence.Canonical :=
  .setFlag (.withPw (.foldl h fun h => .ite (.wantRail (.setRailState h)) h))

theorem State.Canonical.beginStop {goal : StopTo} {among : Nat → Bool} (h : s.Canonical) :
    (s.beginStop goal among).Canonical := .stopNext (.when (.endSequence h) .marginsNominal)

theorem State.Canonical.railOffReached {k reading : Nat} (h : s.Canonical) :
    (railOffReached k reading s).Canonical := by
  unfold Machine.railOffReached
  refine .ite (.stopAfter (.endRailOffs (.railFallen h))) ?_
  refine .ite (.railFallen h) ?_
  split
  · exact .ite (.raiseFault (.withPw h)) h
  · exact h

theorem State.Canonical.railStuckAt {k reading : Nat} (h : s.Canonical) : (railStuckAt k reading s).Canonical :=
  .ite (.stopAfter (.endRailOffs (.raiseFault (.dropFlag (.retune (.setRail (.setMaskBit (.setRailState h)))))))) h

theorem State.Canonical.endDischarge {k : Nat} (h : s.Canonical) : (s.endDischarge k).Canonical := .ite (.setRail h) h

/-! ### The functions of Save -/

theorem State.Canonical.armSave {ref : OpRef} {w grace : Nat} (h : s.Canonical) : (s.armSave ref w grace).Canonical :=
  .post (.raise (.retuneVin (.when (.set (.set (.set (.set (.set h))))) .set)))

theorem State.Canonical.disarmSave {ref : OpRef} (h : s.Canonical) : (s.disarmSave ref).Canonical :=
  .post (.raise (.when (.set h) .set))

theorem State.Canonical.arm {op : Op} (h : s.Canonical) : (arm op s).Canonical :=
  .issue h fun h => .judge h fun h => .ite (.armSave h) (.disarmSave h)

theorem State.Canonical.stopGalliard (h : s.Canonical) : s.stopGalliard.Canonical := by
  unfold State.stopGalliard
  split
  · exact h
  · exact .post (.set (.set (.set (.withSv h))))

theorem State.Canonical.freezeFences (h : s.Canonical) : s.freezeFences.Canonical := by
  unfold State.freezeFences
  refine .foldl h fun h => ?_
  split
  · exact .post (.setRing h)
  · exact h

theorem State.Canonical.freezeBarriers (h : s.Canonical) : s.freezeBarriers.Canonical :=
  .postAll (.withSh (.numberFences (.withSh h)))

theorem State.Canonical.enterTarget {target : Nat} (h : s.Canonical) : (s.enterTarget target).Canonical :=
  .enterState (.when h .ownChange)

theorem State.Canonical.freezePstates (h : s.Canonical) : s.freezePstates.Canonical :=
  .postAll (.foldl (.withPw h) .enterTarget)

theorem State.Canonical.freezeAll (h : s.Canonical) : s.freezeAll.Canonical :=
  .fpFreeze (.marginsNominal (.seFreeze (.cpFreeze
    (.aeFreeze (.lkFreeze (.uaFreeze
    (.freezeTime (.freezeHostPath (.abandonFold
    (.freezeBarriers (.stopGalliard (.freezePstates (.freezeFences h)))))))))))))

theorem State.Canonical.pavaneNotice {cause : Nat} {warned : Bool} (h : s.Canonical) :
    (s.pavaneNotice cause warned).Canonical := .ite (.lkNotice h) (.ite h (.lkNotice h))

theorem State.Canonical.pavaneDown (h : s.Canonical) : s.pavaneDown.Canonical := by
  unfold State.pavaneDown
  split
  · exact h
  · exact .ite (.beginStop h) h

theorem State.Canonical.pavaneTo {p : Pavane} (h : s.Canonical) : (s.pavaneTo p).Canonical := .pavaneDown (.withSv h)

theorem State.Canonical.pavaneStart {cause : Nat} {save : Option OpRef} (h : s.Canonical) :
    (s.pavaneStart cause save).Canonical :=
  .pavaneTo (.when (.withSv (.when
    (.blockHost (.releaseEnd (.mcPavane
    (.scDeactivate (.postOpt (.enterState (.set (.freezeAll (.raise (.withSv h)))))))))) .pavaneNotice)) .queueFault)

theorem State.Canonical.save {op : Op} (h : s.Canonical) : (save op s).Canonical :=
  .issue h fun h => .judge h .pavaneStart

theorem State.Canonical.criticalCondition (h : s.Canonical) : (criticalCondition s).Canonical :=
  .ite (.pavaneStart h) h

theorem State.Canonical.saveNLow (h : s.Canonical) : (saveNLow s).Canonical := .ite (.pavaneStart h) h

theorem State.Canonical.graceExpiry (h : s.Canonical) : (graceExpiry s).Canonical := by
  unfold Machine.graceExpiry
  split
  · exact .when h fun h => .onTime h .pavaneStart
  · exact h

theorem State.Canonical.preErase (h : s.Canonical) : s.preErase.Canonical := .withSv (.showErased (.eraseFree h))

theorem State.Canonical.abortWake (h : s.Canonical) : s.abortWake.Canonical := .beginStop (.queueFault h)

theorem State.Canonical.warningCondition (h : s.Canonical) : (warningCondition s).Canonical :=
  .ite h (.ite (.abortWake (.setFlag h)) (.ite (.ite
    (.ite (.pavaneStart (.preErase (.withSv (.when (.raise (.withSv (.setFlag h))) .set))))
    (.when (.preErase (.withSv (.when (.raise (.withSv (.setFlag h))) .set))) .lkNotice))
    (.raise (.withSv (.setFlag h)))) (.setFlag h)))

theorem State.Canonical.withdrawWarning (h : s.Canonical) : s.withdrawWarning.Canonical := by
  unfold State.withdrawWarning
  exact .when (.setLk (.withSv (.when (.raise (.add (.withSv h))) .set))) .lkNotice

theorem State.Canonical.warningWithdrawal (h : s.Canonical) : (warningWithdrawal s).Canonical :=
  .ite (.onTime h .withdrawWarning) h

theorem State.Canonical.abandonSave {p : Pavane} {energy mram : Bool} (h : s.Canonical) :
    (s.abandonSave p energy mram).Canonical := .pavaneTo (.queueFault (.when h .setRecord))

theorem State.Canonical.pavaneAbandon {energy mram : Bool} (h : s.Canonical) :
    (pavaneAbandon energy mram s).Canonical := by
  unfold Machine.pavaneAbandon
  split
  · exact .ite (.abandonSave h) h
  · exact h

theorem State.Canonical.pavaneFlushDone {work : FlashWork} (h : s.Canonical) :
    (pavaneFlushDone work s).Canonical := by
  unfold Machine.pavaneFlushDone
  split
  · exact .ite (.ite (.pavaneTo (.queueFault (.flushAll (.flashWork h)))) (.when
      (.pavaneTo (.setRecord (.accountHoldup (.flushAll (.flashWork h))))) .pavaneAbandon)) h
  · exact h

theorem State.Canonical.programSave {pages index : List Nat} {c : Commit} (h : s.Canonical) :
    (s.programSave pages index c).Canonical := .programAll (.programBytes (.programBytes (.programAll h)))

theorem State.Canonical.saveSetWritten {work : FlashWork} (h : s.Canonical) : (saveSetWritten work s).Canonical := by
  unfold Machine.saveSetWritten
  split
  · refine .ite ?_ h
    dsimp only
    split
    · exact .abandonSave (.dropSave (.flashWork h))
    · next e =>
        exact .pavaneTo (.setRecord (.setFl
          (.showErased (.programSave (.ofSome e (.takeStripes (.dropSave (.flashWork h))))))))
  · exact h

theorem State.Canonical.pavaneShutdownDone (h : s.Canonical) : (pavaneShutdownDone s).Canonical := by
  have hended : (({ s with sv := { s.sv with pavane := none }, pw := { s.pw with stop := none } } :
      State).endEpisode).Canonical := .endEpisode (h.congr rfl rfl rfl)
  unfold Machine.pavaneShutdownDone
  split
  · refine .ite (.ite (.enterState (hended.congr rfl rfl rfl)) (.enterState ?_)) h
    exact .withTm (.set (.set (.when hended fun h => .set (.set (.setFlag h)))))
  · exact h

/-! ### The functions of Restore -/

theorem State.Canonical.detectImage (h : s.Canonical) : s.detectImage.Canonical := .set h

theorem State.Canonical.layLog {old : List LogEntry} (h : s.Canonical) : (s.layLog old).Canonical :=
  .set (.withLog (.add h))

theorem State.Canonical.reinstate {table : List Region} (h : s.Canonical) : (s.reinstate table).Canonical :=
  .checkCapacity (.foldl (.foldl h .dropRegion) .putRegion)

theorem State.Canonical.beginGalliard {ref : OpRef} {staged : Bool} (h : s.Canonical) :
    (s.beginGalliard ref staged).Canonical :=
  .withSv (.set (.set (.set (.when (.layLog (.enterState (.setFlag (.set (.raise h))))) .reinstate))))

theorem State.Canonical.restore {op : Op} (h : s.Canonical) : (restore op s).Canonical :=
  .issue h fun h => .judge h .beginGalliard

theorem State.Canonical.restoreUnits {start units : Nat} {cells : Sparse Byte} (h : s.Canonical) :
    (s.restoreUnits start units cells).Canonical := by
  have hzero : (s.zeroUnits start units).Canonical := .zeroUnits h
  refine .withDram hzero ?_
  exact foldl_keeps (fun m : Image => m.wf = true) _ (fun _ _ hm => Image.wf_writeCheck _ _ hm) _ _
    (Image.wf_writes _ hzero.dram)

theorem State.Canonical.damagedPage {g : Galliard} {d : Nat × Nat} {k : Nat} (h : s.Canonical) :
    (s.damagedPage g d k).Canonical := .when h .raise

theorem State.Canonical.regionRestored {work : FlashWork} (h : s.Canonical) : (regionRestored work s).Canonical := by
  unfold Machine.regionRestored
  split
  · exact h
  · split
    · exact h
    · exact .ite h (.when (.withSv (.restoreUnits (.foldl (.flashWork h) .damagedPage))) fun h => .raise
        (.setMaskBit h))

theorem State.Canonical.zeroOutside {table : List Region} (h : s.Canonical) : (s.zeroOutside table).Canonical :=
  .foldl h .zeroUnits

theorem State.Canonical.leaveGalliard {from_ : Nat} (h : s.Canonical) : (s.leaveGalliard from_).Canonical :=
  .enterState (.set (.set (.set (.set (.withSv h)))))

theorem State.Canonical.galliardEnd {work : FlashWork} (h : s.Canonical) : (galliardEnd work s).Canonical := by
  unfold Machine.galliardEnd
  split
  · exact h
  · exact .ite (.post (.leaveGalliard
      (.raise (.when (.setPair (.set
      (.set (.setRecord (.set (.setFl
      (.renewRestored (.setPair (.setFlag (.zeroOutside (.flashWork h))))))))))) fun h => .set (.set (.set h)))))) h

theorem State.Canonical.galliardStop (h : s.Canonical) : (galliardStop s).Canonical := by
  unfold Machine.galliardStop
  split
  · exact h
  · exact .leaveGalliard (.stopGalliard h)

theorem State.Canonical.closeWindow {cause : Nat} (h : s.Canonical) : (s.closeWindow cause).Canonical :=
  .raise (.set (.set h))

theorem CanonicalIfSome.hostwinWrite {w : Writer} {v : Bool} (h : s.Canonical) :
    CanonicalIfSome (hostwinWrite w v s) := by
  unfold Machine.hostwinWrite
  split
  · exact .none
  · exact .ite (.ite (.some (.raise (.set (.set (.withSv h))))) (.some (.closeWindow h))) .none

theorem State.Canonical.hostwinTimeout (h : s.Canonical) : (hostwinTimeout s).Canonical :=
  .ite (.onTime h .closeWindow) h

theorem CanonicalIfSome.svWrite {w : Writer} {o v m : Nat} (h : s.Canonical) : CanonicalIfSome (svWrite w o v m s) :=
  .ite (.hostwinWrite h) (.ite (.writeIf h) (.plainWrite h))

/-! ### The functions of Power -/

theorem State.Canonical.showSeq (h : s.Canonical) : s.showSeq.Canonical := .setFlag h

theorem State.Canonical.startRails {rails : Nat} (h : s.Canonical) : (s.startRails rails).Canonical :=
  .showSeq (.withPw h)

theorem State.Canonical.queueRail {k : Nat} (h : s.Canonical) : (s.queueRail k).Canonical :=
  .ite (.ite (.setRailState h) h) (.ite (.setRailState h) (.ite (.releaseRail h) h))

theorem State.Canonical.startRail {k : Nat} (h : s.Canonical) : (s.startRail k).Canonical :=
  .retune (.setRail (.set (.setRailState (.setMaskBit h))))

theorem State.Canonical.railUp {k : Nat} (h : s.Canonical) : (s.railUp k).Canonical := by
  unfold State.railUp
  split
  · exact .ite h (.when (.coreStart h) .dramRailStart)
  · exact .withFp h
  · exact .when h .dramRailStart
  · exact h

theorem State.Canonical.endRailOns {status : Nat} (h : s.Canonical) : (s.endRailOns status).Canonical :=
  .postAll (.withPw h)

theorem State.Canonical.goodRail {k : Nat} (h : s.Canonical) : (s.goodRail k).Canonical :=
  .when (.railUp (.setRail (.setRailState h))) .endRailOns

theorem State.Canonical.enterStandby {cause : Nat} (h : s.Canonical) : (s.enterStandby cause).Canonical := by
  unfold State.enterStandby
  exact .when (.enterState (.when h .ownChange)) .releaseRail

theorem State.Canonical.endPstates {status : Nat} (h : s.Canonical) : (s.endPstates status).Canonical :=
  .postAll (.foldl (.withPw h) .enterTarget)

theorem State.Canonical.endStandbys (h : s.Canonical) : s.endStandbys.Canonical :=
  .ite h (.postAll (.enterStandby (.withPw h)))

theorem State.Canonical.isolate {cause : Nat} (h : s.Canonical) : (s.isolate cause).Canonical :=
  .releaseRail (.withPw (.raise h))

theorem State.Canonical.latch {cause rail : Nat} (h : s.Canonical) : (s.latch cause rail).Canonical :=
  .pavaneAbandon (.beginStop (.withPw (.stopGalliard (.raiseFault h))))

theorem State.Canonical.startFailure {k cause : Nat} (h : s.Canonical) : (s.startFailure k cause).Canonical :=
  .ite (.showSeq (.endPstates (.endRailOns (.isolate h)))) (.latch (.postAll (.withPw (.raiseFault h))))

theorem State.Canonical.startTimeout {k : Nat} (h : s.Canonical) : (startTimeout k s).Canonical :=
  .ite (.startFailure h) h

theorem State.Canonical.sequenceDone (h : s.Canonical) : s.sequenceDone.Canonical :=
  .ite (.ite (.ite (.enterStandby (.showSeq (.withPw h))) (.enterState (.showSeq (.withPw h))))
    (.endPstates (.showSeq (.withPw h)))) h

theorem State.Canonical.endReturns (h : s.Canonical) : s.endReturns.Canonical := .foldl h fun h => .retune (.withPw h)

theorem State.Canonical.sequence {mask : Nat} (h : s.Canonical) : (s.sequence mask).Canonical := by
  unfold State.sequence
  dsimp only
  split
  · exact .startFailure (.foldl (.foldl (.foldl h .queueRail) .startRail) .goodRail)
  · split
    · exact .startFailure (.foldl (.foldl (.foldl h .queueRail) .startRail) .goodRail)
    · exact .showSeq (.sequenceDone (.foldl (.foldl (.foldl h .queueRail) .startRail) .goodRail))

theorem State.Canonical.countGood {mask k : Nat} (h : s.Canonical) : (State.countGood mask s k).Canonical :=
  .ite (.setRail h) h

theorem State.Canonical.sequencerEvaluation {mask : Nat} (h : s.Canonical) : (sequencerEvaluation mask s).Canonical :=
  .ite h (.ite (.noteVcc (.pavaneDown
    (.sequence (.foldl (.watchLine
    (.endReturns (.foldl (.showXtal (.set (.withPw h))) .countGood))) .endDischarge))))
    (.stopRetry (.foldl (.watchLine (.endReturns (.foldl (.showXtal (.set (.withPw h))) .countGood))) .endDischarge)))

theorem State.Canonical.tFaultExpiry (h : s.Canonical) : (tFaultExpiry s).Canonical :=
  .ite (.onTime h fun h => .ite (.pavaneStart h) (.latch h)) h

theorem State.Canonical.openFault {k : Nat} {high : Bool} {reading : Nat} (h : s.Canonical) :
    (s.openFault k high reading).Canonical :=
  .when (.when (.showFaultLine (.setFlag
    (.ite (.withPw (.withPw (.setRail
    (.when (.add (.setRailState (.raise h))) fun h => .showXtal (.setMaskBit h)))))
    (.withPw (.setRail (.when (.add (.setRailState (.raise h))) fun h => .showXtal
    (.setMaskBit h))))))) .pavaneAbandon) .tFaultExpiry

theorem State.Canonical.railFault {k : Nat} {high : Bool} {reading ma : Nat} (h : s.Canonical) :
    (railFault k high reading ma s).Canonical :=
  .ite (.ite (.startFailure h) (.ite (.scVccFault h) (.ite (.mcVccFault h) (.ite (.isolate h) (.openFault h))))) h

theorem State.Canonical.healRail {k : Nat} (h : s.Canonical) : (s.healRail k).Canonical :=
  .ite (.setRail (.setRailState h)) h

theorem State.Canonical.faultWithdrawal (h : s.Canonical) : (faultWithdrawal s).Canonical :=
  .ite (.showFaultLine (.endEpisode (.when (.foldl (.raise h) .healRail) .endRailOns))) h

theorem State.Canonical.startWake (h : s.Canonical) : s.startWake.Canonical := .startRails (.withPw h)

theorem State.Canonical.wake {r : PackReading} (h : s.Canonical) : (s.wake r).Canonical :=
  .startWake (.when h .restartGauge)

theorem CanonicalIfSome.wakeAction {w : Writer} (h : s.Canonical) : CanonicalIfSome (wakeAction w s) :=
  .ite (.some (.wake h)) .none

theorem CanonicalIfSome.unlatchAction {w : Writer} (h : s.Canonical) : CanonicalIfSome (unlatchAction w s) :=
  .ite (.some (.startWake (.withTm (.showFaultLine (.setFlag (.setFlag (.set (.set h)))))))) .none

theorem State.Canonical.vinQualified {r : PackReading} (h : s.Canonical) : (vinQualified r s).Canonical :=
  .ite h (.onTime h fun h => .ite (.wake (.pathToVin h)) (.pathToVin h))

theorem State.Canonical.goOff (h : s.Canonical) : s.goOff.Canonical := by
  unfold State.goOff
  split
  · exact .ite (.withPw h) (.stopNext h)
  · exact .beginStop h

theorem State.Canonical.energyOut {p : Pavane} (h : s.Canonical) : (s.energyOut p).Canonical :=
  .ite (.abandonSave h) (.ite (.goOff (.queueFault h)) (.stopAll (.pavaneTo (.queueFault h))))

theorem State.Canonical.exhaustion {r : PackReading} (h : s.Canonical) : (exhaustion r s).Canonical := by
  unfold Machine.exhaustion
  refine .ite h ?_
  dsimp only
  split
  · exact .energyOut (.withBt (.readPack h))
  · exact .goOff (.stopGalliard (.raiseFault (.withBt (.readPack h))))

theorem State.Canonical.tcxoPeriodEnd (h : s.Canonical) : (tcxoPeriodEnd s).Canonical :=
  .ite (.onTime h fun h => .followPath (.releaseRail h)) h

theorem State.Canonical.faultLine {low : Bool} (h : s.Canonical) : (faultLine low s).Canonical :=
  .ite h (.watchLine (.showFaultLine (.withPw h)))

theorem State.Canonical.goDormant {ref : OpRef} (h : s.Canonical) : (s.goDormant ref).Canonical :=
  .beginStop (.mcDeactivate (.scDeactivate (.post (.when h .marginsNominal))))

theorem State.Canonical.pstateTo {ref : OpRef} {target wait : Nat} (h : s.Canonical) :
    (s.pstateTo ref target wait).Canonical :=
  .ite (.post h) (.ite (.goDormant h) (.ite (.ite (.withPw h) (.post (.enterStandby h)))
    (.ite (.startRails (.withPw h)) (.post (.enterTarget h)))))

theorem State.Canonical.pstate {op : Op} (h : s.Canonical) : (pstate op s).Canonical :=
  .issue h fun h => .judge h .pstateTo

theorem State.Canonical.standbyWaitTimeout (h : s.Canonical) : (standbyWaitTimeout s).Canonical := by
  unfold Machine.standbyWaitTimeout
  split
  · exact .onTime h fun h => .post (.withPw h)
  · exact h

theorem State.Canonical.switchAux {ref : OpRef} (h : s.Canonical) : (s.switchAux ref).Canonical :=
  .ite (.post (.withPw h)) (.ite (.withPw (.withPw h)) (.startRails (.withPw (.withPw h))))

theorem State.Canonical.dropAux {ref : OpRef} (h : s.Canonical) : (s.dropAux ref).Canonical :=
  .ite (.releaseRail (.withPw (.withPw h))) (.ite (.withPw (.withPw h)) (.ite (.post (.withPw h))
    (.post (.withPw h))))

theorem State.Canonical.rail {op : Op} (h : s.Canonical) : (Machine.rail op s).Canonical := by
  unfold Machine.rail
  refine .issue h fun h => .judge h fun h => ?_
  split
  · exact .switchAux h
  · exact .dropAux h
  · exact .post h

theorem State.Canonical.setMargin {ref : OpRef} {m step : Nat} (h : s.Canonical) :
    (s.setMargin ref m step).Canonical := .retune (.setRail (.withPw (.raise (.set h))))

theorem State.Canonical.margin {op : Op} (h : s.Canonical) : (margin op s).Canonical :=
  .issue h fun h => .judge h .setMargin

theorem State.Canonical.endMargins {m status : Nat} (h : s.Canonical) : (s.endMargins m status).Canonical :=
  .postAll (.withPw h)

theorem State.Canonical.marginSettled {m : Nat} (h : s.Canonical) : (marginSettled m s).Canonical :=
  .ite (.endMargins (.when (.withPw h) .retune)) h

theorem State.Canonical.marginTimeout {m : Nat} (h : s.Canonical) : (marginTimeout m s).Canonical :=
  .ite (.endMargins (.retune (.marginBack h))) h

theorem State.Canonical.followAux {was : Bool} (h : s.Canonical) : (s.followAux was).Canonical :=
  .ite (.ite (.when h .startRails) (.ite h (.showSeq (.when (.withPw h) .releaseRail)))) h

theorem CanonicalIfSome.pwctlWrite {w : Writer} {v m : Nat} (h : s.Canonical) :
    CanonicalIfSome (pwctlWrite w v m s) := by
  unfold Machine.pwctlWrite
  dsimp only
  have hs : ∀ b was, (s.when b fun s => ((s.set PW_CTL.AUXSTBY (v / 2 ^ 4)).set PW_CTL.AUXWAKE
      (v / 2 ^ 5)).followAux was).Canonical := fun _ _ => .when h fun h => .followAux (.set (.set h))
  split
  · exact .ite (.some (hs _ _)) .none
  · next e _ => exact .some (.ite (.ofSome e (.ite (.unlatchAction (hs _ _)) .none)) (hs _ _))
  · next e => exact .some (.ite (.ofSome e (.ite (.wakeAction (hs _ _)) .none)) (hs _ _))
  · next e e' =>
    exact .some (.ite (.ofSome e (.ite (.unlatchAction (hs _ _)) .none))
      (.ite (.ofSome e' (.ite (.wakeAction (hs _ _)) .none)) (hs _ _)))

theorem CanonicalIfSome.pwctlAct {w : Writer} {act : Nat} (h : s.Canonical) : CanonicalIfSome (s.pwctlAct w act) :=
  .pwctlWrite h

theorem CanonicalIfSome.pwWrite {w : Writer} {o v m : Nat} (h : s.Canonical) : CanonicalIfSome (pwWrite w o v m s) :=
  .ite (.pwctlWrite h) (.ite (.writeIf h) (.ite (.writeIf h)
    (.ite (.map (.plainWrite h) .showFaultLine) (.ite (.writeIf h) (.ite
    (.ite (.map (.writeWhere h) .showFaultLine) (.ite (.writeWhere h) (.plainWrite h))) (.plainWrite h))))))

/-! ### The functions of StartUp -/

theorem State.Canonical.dropAll : s.dropAll.Canonical := rfl

theorem State.Canonical.vddAonLoss {saveTorn rootTorn : Bool} : (vddAonLoss saveTorn rootTorn s).Canonical :=
  .set .dropAll

theorem State.Canonical.loadParams {validA validB : Bool} (h : s.Canonical) :
    (s.loadParams validA validB).Canonical := by
  unfold State.loadParams
  dsimp only
  exact .when (.ite (.withTm (.applyRecords (.set (.set (.set (.setSe h)))))) (.applyRecords
    (.set (.set (.set (.setSe h)))))) .queueFault

theorem State.Canonical.loadDerived (h : s.Canonical) : s.loadDerived.Canonical :=
  .timeManual (.batteryManual (.packThresholds (.retuneVin (.foldl h .retune))))

theorem State.Canonical.loadCap (h : s.Canonical) : s.loadCap.Canonical := .set h

theorem State.Canonical.settle (h : s.Canonical) : s.settle.Canonical :=
  .when (.showFaultLine (.followPath (.set (.setFlag h)))) .startTime

theorem State.Canonical.coldStart {sa : Nat} {validA validB : Bool} {r : PackReading} (h : s.Canonical) :
    (coldStart sa validA validB r s).Canonical :=
  .ite (.settle (.restartGauge (.loadCap
    (.loadDerived (.loadParams (.withMn (.addHold (.set (.withBt .dropAll))))))))) h

theorem State.Canonical.flashStoreOpen {targets : List FoundTarget} {bad : List (Nat × Nat)} {work : FlashWork}
    (h : s.Canonical) : (flashStoreOpen targets bad work s).Canonical :=
  .ite (.ite (.lkAutoJoin (.when (.detectImage (.flashOpen h)) .reload)) (.flashOpen h)) h

theorem State.Canonical.scrubStart (h : s.Canonical) : (scrubStart s).Canonical :=
  .ite (.ite (.beginScrub (.withHp h rfl)) (.setFlag (.withHp h rfl))) h

/-! ### The functions of Slots -/

theorem CanonicalIfSome.unitWrite {w : Writer} {off v m : Nat} (h : s.Canonical) :
    CanonicalIfSome (s.unitWrite w off v m) := by
  unfold State.unitWrite
  dsimp only
  split
  · exact .syWrite h
  · exact .tkWrite h
  · exact .quWrite h
  · exact .hpWrite h
  · exact .shWrite h
  · exact .svWrite h
  · exact .flWrite h
  · exact .pwWrite h
  · exact .mnWrite h
  · exact .btWrite h
  · exact .tmWrite h
  · exact .scWrite h
  · exact .mcWrite h
  · exact .uaWrite h
  · exact .lkWrite h
  · exact .aeWrite h
  · exact .seWrite h
  · exact .fpWrite h
  · exact .sbWrite h
  · exact .plainWrite h

theorem CanonicalIfSome.registerWrite {w : Writer} {off v m : Nat} (h : s.Canonical) :
    CanonicalIfSome (s.registerWrite w off v m) := .ite .none (.ite (.some h) (.ite .none (.unitWrite h)))

theorem CanonicalIfSome.submissionWrite {w : Writer} {off v : Nat} (h : s.Canonical) :
    CanonicalIfSome (s.submissionWrite w off v) := .ite (.some (.setSlot h)) .none

theorem CanonicalIfSome.laneWrite {off v m : Nat} {owned : Nat → Bool} (h : s.Canonical) :
    CanonicalIfSome (s.laneWrite off v m owned) := .ite (.some h) (.ite .none (.some (.setSlot h)))

theorem CanonicalIfSome.stagingWrite {off v m : Nat} (h : s.Canonical) :
    CanonicalIfSome (s.stagingWrite off v m) := by
  unfold State.stagingWrite
  refine .ite (.some h) ?_
  refine .ite ?_ (.ite .none (.ite (.laneWrite h)
    (.ite (.laneWrite h) (.ite (.ite .none (.some (.setSlot h))) (.ite (.laneWrite h) (.laneWrite h))))))
  refine .ite .none ?_
  split
  · exact .some (.setSlot h)
  · exact .some h

theorem CanonicalIfSome.writeSlot {w : Writer} {off v m : Nat} (h : s.Canonical) :
    CanonicalIfSome (s.writeSlot w off v m) :=
  .ite (.registerWrite h) (.ite .none (.ite (.ite .none (.some h))
    (.ite .none (.ite (.submissionWrite h) (.ite .none (.ite (.stagingWrite h) (.some h)))))))

theorem State.Canonical.registerWriteBy {w : Writer} {off v : Nat} (h : s.Canonical) :
    (registerWriteBy w off v s).Canonical := .orViolate h (.writeSlot h)

theorem State.Canonical.rdreg {op : Op} (h : s.Canonical) : (rdreg op s).Canonical := by
  unfold Machine.rdreg
  exact .coreIssue h fun h => .setFlags (.set (.drainWindows h))

theorem State.Canonical.wrreg {op : Op} (h : s.Canonical) : (wrreg op s).Canonical := by
  unfold Machine.wrreg
  dsimp only
  refine .coreIssue h fun h => ?_
  split
  · next e =>
      exact (.ofSome e (.writeSlot h))
  · exact .retire h

/-! ### The functions of HostBus -/

theorem State.Canonical.answers {bytes checks : List Nat} (h : s.Canonical) : (s.answers bytes checks).Canonical :=
  .withHp h rfl

theorem CanonicalNext.hostRead {rank bank col first beats : Nat} (h : s.Canonical) :
    CanonicalNext (hostRead rank bank col first beats s) := by
  unfold Machine.hostRead
  dsimp only
  split
  · exact .next (.answers (.drainWindows h))
  · exact .ite (.next (.answers h)) .fault
  · exact .next (.answers (.add h))
  · exact .next (.answers (.drawBytes (.drawBytes (.when h .add))))

theorem State.Canonical.writeSlots {l : List (Nat × Nat)} {vs : List Violation} (h : s.Canonical) :
    (writeSlots l s vs).1.Canonical := by
  induction l generalizing s vs with
  | nil => exact h
  | cons e l ih =>
      obtain ⟨off, w⟩ := e
      unfold Machine.writeSlots
      split
      · next e => exact ih (.ofSome e (.writeSlot h))
      · exact ih h

theorem State.Canonical.apertureWrite {base : Nat} {b : Burst} (h : s.Canonical) :
    (s.apertureWrite base b).Canonical := by
  unfold State.apertureWrite
  dsimp only
  exact .violations (.writeSlots (.sharesApply h))

theorem State.Canonical.dramWrite {b : Burst} (h : s.Canonical) : (s.dramWrite b).Canonical :=
  .withDram h (foldl_keeps (fun m : Image => m.wf = true) _ (fun _ _ hm => Image.wf_writeCheck _ _ hm) _ _
    (Image.wf_writes _ h.dram))

theorem State.Canonical.checkWrite {b : Burst} (h : s.Canonical) : (s.checkWrite b).Canonical :=
  .ite h (.when (.withHp (.add h) rfl) .raise)

theorem State.Canonical.captured {b : Burst} (h : s.Canonical) : (s.captured b).Canonical :=
  .ingest (.capture (.checkWrite h))

theorem CanonicalNext.hostWrite {rank bank col first beats : Nat} {data : List Nat} {mask : Nat} {check : List Nat}
    (h : s.Canonical) : CanonicalNext (hostWrite rank bank col first beats data mask check s) := by
  unfold Machine.hostWrite
  dsimp only
  refine .ite (.next (.add h)) ?_
  split
  · exact .next (.apertureWrite h)
  · exact .ite (.ite (.next (.captured (.dramWrite h))) (.next (.dramWrite h))) .fault
  · exact .next h
  · exact .next (.add h)

theorem State.Canonical.hostSelfRefreshEntry {rank : Nat} (h : s.Canonical) :
    (hostSelfRefreshEntry rank s).Canonical :=
  .ite (.ite (.when (.openLend (.withHp h rfl)) .endStandbys) (.withHp h rfl)) h

theorem CanonicalNext.execHostRead {rank bank col first beats : Nat} (h : s.Canonical) :
    CanonicalNext (execHostRead rank bank col first beats s) := .ite (.hostRead h) (.next h)

theorem CanonicalNext.execHostWrite {rank bank col first beats : Nat} {data : List Nat} {mask : Nat}
    {check : List Nat} (h : s.Canonical) :
    CanonicalNext (execHostWrite rank bank col first beats data mask check s) := .ite (.hostWrite h) (.next h)

/-! ### The functions of Smbus -/

theorem State.Canonical.pecError {off : Nat} (h : s.Canonical) : (s.pecError off).Canonical := .violate (.add h)

theorem State.Canonical.formError (h : s.Canonical) : s.formError.Canonical := .add h

theorem State.Canonical.smbusRegister {command : Nat} {data : List Nat} {pecByte : Nat} (h : s.Canonical) :
    (s.smbusRegister command data pecByte).Canonical :=
  .ite (.orViolate (.setSb h) (.writeSlot (.setSb h))) (.pecError h)

theorem State.Canonical.smbusPage {lo hi pecByte : Nat} (h : s.Canonical) : (s.smbusPage lo hi pecByte).Canonical :=
  .ite (.formError h) (.ite (.set h) (.pecError h))

theorem State.Canonical.smbusWrite {bytes : List Nat} (h : s.Canonical) : (smbusWrite bytes s).Canonical := by
  unfold Machine.smbusWrite
  refine .ite ?_ h
  split
  · exact .smbusRegister h
  · exact .ite (.smbusPage h) (.pecError h)
  · exact .formError h

theorem State.Canonical.smbusRead {command : Option Nat} {count : Nat} (h : s.Canonical) :
    (smbusRead command count s).Canonical :=
  .ite (.ite (.formError (.setSb (.drainWindows h))) (.setSb (.drainWindows h))) h

theorem State.Canonical.busEngage {up : Bool} (h : s.Canonical) : (busEngage up s).Canonical := .ite h (.setFlag h)

theorem State.Canonical.smbusTimeout (h : s.Canonical) : (smbusTimeout s).Canonical := .when h .add

/-! ### The functions of Issue -/

/-- Every instruction of the table keeps the canonical form. -/
theorem State.Canonical.runOpcode {opcode : Nat} {op : Op} (h : s.Canonical) : (runOpcode opcode op s).Canonical := by
  have hcore : ∀ f ∈ coreTable, (f op s).Canonical := by
    simp only [coreTable, List.forall_mem_cons]
    exact ⟨.nop h, .ldi h, .mov h, .addInstr h, .sub h, .andInstr h, .orInstr h, .cmp h, .br h, .loop h, .waitt h,
      .waite h, .signal h, .fence h, .rdreg h, .wrreg h, List.forall_mem_nil _⟩
  have htime : ∀ f ∈ timeTable, (f op s).Canonical := by
    simp only [timeTable, List.forall_mem_cons]
    exact ⟨.tset h, .tslew h, .tmark h, .tcap h, .pstate h, .rail h, .margin h, .arm h, .region h, .pfence h,
      .lend h, .save h, .restore h, .foldInstr h, .scrub h, .flinfo h, List.forall_mem_nil _⟩
  have hport : ∀ f ∈ portTable, (f op s).Canonical := by
    simp only [portTable, List.forall_mem_cons]
    exact ⟨.scact h, .scdeact h, .scxfr h, .scclk h, .mcinit h, .mcrw h, .mcrpmb h, .mcwp h, .uacfg h, .uaxfr h,
      .lkjoin h, .lksend h, .lkrecv h, .lkslot h, .lkleave h, .lktime h, List.forall_mem_nil _⟩
  have hengine : ∀ f ∈ engineTable, (f op s).Canonical := by
    simp only [engineTable, List.forall_mem_cons]
    exact ⟨.aeload h, .aerun h, .aeadapt h, .aeexport h, .aefreeze h, .cppack h, .cpunpack h, .cpcheck h,
      .severify h, .seopen h, .seseal h, .sekey h, .fpind h, .fpkey h, .logrd h, .reservedOpcode h,
      List.forall_mem_nil _⟩
  have hall : ∀ f ∈ opcodeTable, (f op s).Canonical := by
    simp only [opcodeTable, List.forall_mem_append]
    exact ⟨⟨⟨hcore, htime⟩, hport⟩, hengine⟩
  unfold Machine.runOpcode
  rw [List.getD_eq_getElem?_getD]
  cases hf : opcodeTable[opcode]? with
  | none => exact .reservedOpcode h
  | some f => exact hall f (List.mem_of_getElem? hf)

theorem State.Canonical.holdAt {opcode : Nat} {op : Op} (h : s.Canonical) : (s.holdAt opcode op).Canonical :=
  .when h .cqHold

theorem State.Canonical.exceedsBudget {opcode : Nat} {op : Op} (h : s.Canonical) :
    (exceedsBudget opcode op s).Canonical := .issue h .post

theorem State.Canonical.unitCompletion {unit : Nat} (h : s.Canonical) : (unitCompletion unit s).Canonical := by
  unfold Machine.unitCompletion
  split
  · exact .logReadDone h
  · exact .scRawSent h
  · exact .lkLeft h
  · exact .cpDone h
  · exact .seDone h
  · exact .fpindDone h
  · exact h

/-! ### The functions of Tick -/

theorem State.Canonical.boundaryRate (h : s.Canonical) : s.boundaryRate.Canonical :=
  .ite (.ite (.set (.set (.set (.setFlag h)))) (.set (.setFlag h))) h

theorem State.Canonical.judgeStep {before after : Nat} {d : Int} (h : s.Canonical) :
    (s.judgeStep before after d).Canonical := .ite h (.raise (.setFlag (.ite (.add h) (.add h))))

theorem State.Canonical.edgeWait {r : Nat} (h : s.Canonical) : (s.edgeWait r).Canonical := by
  unfold State.edgeWait
  split
  · exact .waittExpiry h
  · exact .waiteTimeout h
  · exact .ite h (.setRing h)
  · exact h

theorem State.Canonical.reachEdge (h : s.Canonical) : s.reachEdge.Canonical := by
  unfold State.reachEdge
  dsimp only
  exact .when (.ite (.withTick (.when (.foldl (.setTickCount (.set (.advanceTo h))) .edgeWait) .boundaryRate))
    (.judgeStep (.withTick (.when (.foldl (.setTickCount (.set (.advanceTo h))) .edgeWait) .boundaryRate)))) .raise

theorem State.Canonical.closeTick (h : s.Canonical) : s.closeTick.Canonical := .set (.foldl h .set)

theorem State.Canonical.loadRing {r : Nat} (h : s.Canonical) : (s.loadRing r).Canonical := .setRing h

theorem State.Canonical.setSpill {n : Nat} (h : s.Canonical) : (s.setSpill n).Canonical := .withTick h

theorem State.Canonical.loadSpill (h : s.Canonical) : s.loadSpill.Canonical := .setSpill h

theorem State.Canonical.overrun {r extra : Nat} (h : s.Canonical) : (s.overrun r extra).Canonical :=
  .ite (.setFlag (.add (.setSpill (.setRing h)))) (.raise (.withTick (.setFlag (.add (.setSpill (.setRing h))))))

theorem State.Canonical.admits {r : Nat} (h : s.Canonical) : (s.admits r).Canonical :=
  .ite (.raise (.setMaskBit (.setRing h))) (.setRing h)

theorem State.Canonical.starves {r c : Nat} (h : s.Canonical) : (s.starves r c).Canonical :=
  .ite (.raise (.setMaskBit (.setRing h))) (.setRing h)

theorem CanonicalIfSome.charge {r c : Nat} (h : s.Canonical) : CanonicalIfSome (s.charge r c) :=
  .ite (.some (.setRing h)) (.ite (.some (.setRing (.setSpill h))) .none)

theorem State.Canonical.refund {r c a : Nat} (h : s.Canonical) : (s.refund r c a).Canonical := .setRing h

theorem State.Canonical.serveQueue {r n : Nat} {admitted : Bool} (h : s.Canonical) :
    (serveQueue r n admitted s).Canonical := by
  induction n generalizing s admitted with
  | zero => exact h
  | succ n ih =>
      unfold Machine.serveQueue
      refine .ite (.ite (.holdAt h) (.ite (ih (.exceedsBudget h)) ?_)) h
      split
      · exact .when h .starves
      · next e => exact ih (.refund (.runOpcode (.admits (.ofSome e (.charge h)))))

theorem State.Canonical.runProgram {r last n used : Nat} (h : s.Canonical) :
    (runProgram r last n used s).1.Canonical := by
  induction n generalizing s used with
  | zero => exact h
  | succ n ih => exact .ite_fst (ih (.runOpcode h)) h

theorem State.Canonical.endRun {r last : Nat} (h : s.Canonical) : (s.endRun r last).Canonical :=
  .ite (.when (.cqRelease (.setRing h)) .unbind) h

theorem CanonicalIfSome.beginRun {r : Nat} (h : s.Canonical) : CanonicalIfSome (s.beginRun r) :=
  .ite (.some h) (.ite (.some (.setRing (.when (.cqReserve h) .cqUnhold))) .none)

theorem State.Canonical.serveResident {r : Nat} (h : s.Canonical) : (serveResident r s).Canonical := by
  unfold Machine.serveResident
  refine .ite ?_ h
  dsimp only
  split
  · exact .add (.setRing h)
  · next e =>
      split
      · exact .starves (.setRing h)
      · next e' =>
          exact .endRun (.refund (.runProgram (.admits (.ofSome e' (.charge (.ofSome e (.beginRun (.setRing h))))))))

theorem State.Canonical.calmRing {r : Nat} (h : s.Canonical) : (s.calmRing r).Canonical := .setRing h

theorem State.Canonical.serveRing {r : Nat} (h : s.Canonical) : (serveRing s r).Canonical :=
  .setRing (.setSpill (.ite (.ite (.serveResident h) (.calmRing h)) (.ite (.serveQueue h) (.calmRing h))))

theorem State.Canonical.atEdge {excess : Option (Nat × Nat)} (h : s.Canonical) : (s.atEdge excess).Canonical := by
  unfold State.atEdge
  dsimp only
  refine .foldl ?_ .cqEvaluate
  split
  · exact .overrun (.loadSpill (.foldl
      (.judgeTick (.closeTick (.lkSettle (.drainWindows (.openLend (.reachEdge h)))))) .loadRing))
  · exact .loadSpill (.foldl (.judgeTick
      (.closeTick (.lkSettle (.drainWindows (.openLend (.reachEdge h)))))) .loadRing)

theorem State.Canonical.tickEdge {excess : Option (Nat × Nat)} (h : s.Canonical) : (tickEdge excess s).Canonical :=
  .ite (.settleFences (.foldl (.oneCycle h .atEdge) .serveRing)) h

/-! ### The commands -/

/-- Every command keeps the canonical form. -/
theorem CanonicalNext.exec (h : s.Canonical) : ∀ c : Instr, CanonicalNext (exec c s)
  | .tickEdge _ => .next (.tickEdge h)
  | .nop _ => .next (.nop h)
  | .ldi _ => .next (.ldi h)
  | .mov _ => .next (.mov h)
  | .add _ => .next (.addInstr h)
  | .sub _ => .next (.sub h)
  | .and _ => .next (.andInstr h)
  | .or _ => .next (.orInstr h)
  | .cmp _ => .next (.cmp h)
  | .br _ => .next (.br h)
  | .loop _ => .next (.loop h)
  | .waitt _ => .next (.waitt h)
  | .waittExpiry _ => .next (.waittExpiry h)
  | .waite _ => .next (.waite h)
  | .waiteMatch _ _ => .next (.waiteMatchEvent h)
  | .waiteTimeout _ => .next (.waiteTimeout h)
  | .signal _ => .next (.signal h)
  | .fence _ => .next (.fence h)
  | .fenceRelease _ => .next (.fenceRelease h)
  | .rdreg _ => .next (.rdreg h)
  | .wrreg _ => .next (.wrreg h)
  | .reservedOpcode _ => .next (.reservedOpcode h)
  | .unitCompletion _ => .next (.unitCompletion h)
  | .registerWrite _ _ _ => .next (.registerWriteBy h)
  | .violationClear _ => .next (.rowWrite h (.violclrWrite h))
  | .programFree _ _ => .next (.rowWrite h (.pgfreeWrite h))
  | .tkRateWrite _ _ => .next (.rowWrite h (.rateWrite h))
  | .tkShareWrite _ _ => .execTkShareWrite h
  | .tkStarveWrite _ _ => .next (.rowWrite h (.starveWrite h))
  | .apertureBaseWrite _ _ _ => .next (.rowWrite h (.apertureBaseWrite h))
  | .apertureEnableWrite _ _ => .next (.rowWrite h (.apertureEnableWrite h))
  | .doorbell _ _ _ => .next (.doorbell h)
  | .residentBind _ _ _ => .next (.rowWrite h (.modeWrite h))
  | .residentUnbind _ _ _ => .next (.rowWrite h (.modeWrite h))
  | .cqHeadWrite _ _ _ => .next (.rowWrite h (.cqHeadWrite h))
  | .cqMapWrite _ _ _ => .next (.rowWrite h (.cqMapWrite h))
  | .ring15Give _ => .next (.rowWrite h (.r15ctlWrite h))
  | .ring15Return _ => .next (.rowWrite h (.r15ctlWrite h))
  | .evpendClear _ _ => .next (.rowWrite h (.evpendWrite h))
  | .hostRead _ _ _ _ _ => .execHostRead h
  | .hostWrite _ _ _ _ _ _ _ _ => .execHostWrite h
  | .hostActPre _ _ _ => .next (.when h .hostActPre)
  | .hostMrs _ _ _ _ => .next (.when h .hostMrs)
  | .hostRefreshOrZq => .next h
  | .hostSelfRefreshEntry _ => .next (.when h .hostSelfRefreshEntry)
  | .hostSrx _ _ => .next (.when h .hostSrx)
  | .caParityError _ => .next (.when h .caParityError)
  | .operatingSpeedWord _ => .next (.when h .speedWord)
  | .hostTrainingEnd => .next (.when h .setFlag)
  | .resetNAssert => .next (.when h .resetN)
  | .dramTrainingPassStart _ => .next (.trainingPassStart h)
  | .dramTrainingDone _ => .next (.trainingDone h)
  | .claim _ => .next (.rowWrite h (.ownctlWrite h))
  | .retrain _ => .next (.rowWrite h (.ownctlWrite h))
  | .eccLockWrite _ => .next (.rowWrite h (.eccLockWrite h))
  | .scrubStart => .next (.scrubStart h)
  | .scrubEnd _ => .next (.scrubEnd h)
  | .lendSnapshot _ => .next (.lend h)
  | .lendScrub _ => .next (.lend h)
  | .lendRetrain _ => .next (.lend h)
  | .lendWaitTimeout => .next (.lendWaitTimeout h)
  | .lendPurposeDone _ => .next (.lendPurposeDone h)
  | .lendMaxdurExpiry _ => .next (.lendMaxdurExpiry h)
  | .scrub _ => .next (.scrub h)
  | .regionDefine _ => .next (.region h)
  | .regionRetire _ => .next (.region h)
  | .regionReprioritise _ => .next (.region h)
  | .pfence _ => .next (.pfence h)
  | .pfenceDurableDone => .next (.fencesDone h)
  | .foldStart _ => .next (.foldInstr h)
  | .foldHold _ => .next (.foldInstr h)
  | .foldRelease _ => .next (.foldInstr h)
  | .foldAutoStart => .next (.foldAutoStart h)
  | .foldCommit _ => .next (.foldCommit h)
  | .foldAbandoned _ => .next (.foldAbandoned h)
  | .journalPageTimeout => .next (.journalPageTimeout h)
  | .journalPageWritten _ => .next (.journalPageWritten h)
  | .shadowLoopUpdate => .next (.shadowLoopUpdate h)
  | .holdupAccounting => .next (.holdupAccounting h)
  | .arm _ => .next (.arm h)
  | .disarm _ => .next (.arm h)
  | .warningCondition => .next (.warningCondition h)
  | .warningWithdrawal => .next (.warningWithdrawal h)
  | .graceExpiry => .next (.graceExpiry h)
  | .criticalCondition => .next (.criticalCondition h)
  | .saveNLow => .next (.saveNLow h)
  | .save _ => .next (.save h)
  | .pavaneFlushDone _ => .next (.pavaneFlushDone h)
  | .saveSetWritten _ => .next (.saveSetWritten h)
  | .pavaneAbandon _ _ => .next (.pavaneAbandon h)
  | .pavaneShutdownDone => .next (.pavaneShutdownDone h)
  | .restore _ => .next (.restore h)
  | .restoreStaged _ => .next (.restore h)
  | .regionRestored _ => .next (.regionRestored h)
  | .galliardEnd _ => .next (.galliardEnd h)
  | .galliardStop => .next (.galliardStop h)
  | .hostwinOpen _ => .next (.rowWrite h (.hostwinWrite h))
  | .hostwinClose _ => .next (.rowWrite h (.hostwinWrite h))
  | .hostwinTimeout => .next (.hostwinTimeout h)
  | .flinfo _ => .next (.flinfo h)
  | .flashOpen _ _ _ => .next (.flashStoreOpen h)
  | .blockRetired _ _ _ _ => .next (.blockRetired h)
  | .patrolDone _ _ => .next (.patrolDone h)
  | .stripeRefresh _ _ => .next (.stripeRefresh h)
  | .wearLevelMove _ => .next (.wearLevelMove h)
  | .lifeRecompute => .next (.lifeRecompute h)
  | .sequencerEvaluation _ => .next (.sequencerEvaluation h)
  | .startTimeout _ => .next (.startTimeout h)
  | .railOffReached _ _ => .next (.railOffReached h)
  | .railStuck _ _ => .next (.railStuckAt h)
  | .railFault _ _ _ _ => .next (.railFault h)
  | .faultWithdrawal => .next (.faultWithdrawal h)
  | .tFaultExpiry => .next (.tFaultExpiry h)
  | .unlatch _ => .next (.rowWrite h (.pwctlAct h))
  | .wake _ => .next (.rowWrite h (.pwctlAct h))
  | .vinQualified _ => .next (.vinQualified h)
  | .pstateActive _ => .next (.pstate h)
  | .pstateQuiet _ => .next (.pstate h)
  | .pstateMaint _ => .next (.pstate h)
  | .pstateStandby _ => .next (.pstate h)
  | .standbyWaitTimeout => .next (.standbyWaitTimeout h)
  | .pstateDormant _ => .next (.pstate h)
  | .railOn _ => .next (.rail h)
  | .railOff _ => .next (.rail h)
  | .railStatus _ => .next (.rail h)
  | .margin _ => .next (.margin h)
  | .marginSettled _ => .next (.marginSettled h)
  | .marginTimeout _ => .next (.marginTimeout h)
  | .faultLineLow => .next (.faultLine h)
  | .faultLineRelease => .next (.faultLine h)
  | .monitorFlagChange _ _ _ _ => .next (.flagChange h)
  | .monitorScan _ _ _ _ => .next (.scan h)
  | .monitorConfigWrite _ _ _ => .next (.ite h (.orViolate h (.mnWrite h)))
  | .faultLogEntryWrite _ => .next (.writeFault h)
  | .powerPathSwitchover _ => .next (.switchOver h)
  | .chargerRunStart _ => .next (.chargerRunStart h)
  | .chargerRunStop => .next (.chargerRunStop h)
  | .chargerTempHold _ => .next (.chargerTempHold h)
  | .chargerTempResume _ => .next (.chargerTempResume h)
  | .prechargeDone _ => .next (.prechargeDone h)
  | .constantVoltageReached _ => .next (.constantVoltage h)
  | .chargeFull => .next (.chargeFull h)
  | .chargeFault => .next (.chargeFault h)
  | .floatLoopUpdate => .next (.floatLoop h)
  | .balanceCycle _ => .next (.balanceCycle h)
  | .packRemoved _ => .next (.packRemoved h)
  | .packInserted _ => .next (.packInserted h)
  | .coulombSample _ => .next (.coulombSample h)
  | .gaugeUpdate _ => .next (.gaugeUpdate h)
  | .gaugeCutoff _ => .next (.gaugeCutoff h)
  | .exhaustion _ => .next (.exhaustion h)
  | .btCapnomWrite _ _ => .next (.rowWrite h (.capnomWrite h))
  | .tset _ => .next (.tset h)
  | .tsetSync _ => .next (.tset h)
  | .tsetSyncTimeout => .next (.tsetSyncTimeout h)
  | .tslew _ => .next (.tslew h)
  | .slewDone => .next (.slewDone h)
  | .tmark _ => .next (.tmark h)
  | .tcapNow _ => .next (.tcap h)
  | .tcapPpsIn _ => .next (.tcap h)
  | .tcapIrigb _ => .next (.tcap h)
  | .tcapPpsOut _ => .next (.tcap h)
  | .tcapTimeout _ => .next (.tcapTimeout h)
  | .timeSnapshot _ => .next (.rowWrite h (.snapWrite h))
  | .logrd _ => .next (.logrd h)
  | .logRelease _ _ => .next (.rowWrite h (.logrelWrite h))
  | .logPolicyWrite _ _ => .next (.rowWrite h (.logPolicyWrite h))
  | .holdoverForget _ => .next (.rowWrite h (.forgetWrite h))
  | .leapWrite _ _ _ => .next (.rowWrite h (.leapWrite h))
  | .secondBoundary _ => .next (.secondBoundary h)
  | .ppsEdge _ => .next (.ppsEdge h)
  | .nmeaSentence _ => .next (.nmeaSentence h)
  | .irigbFrame _ => .next (.irigFrame h)
  | .holdoverSample _ _ => .next (.holdoverSample h)
  | .oscFault _ => .next (.oscFault h)
  | .oscOk => .next (.oscOk h)
  | .tcxoPeriodEnd => .next (.tcxoPeriodEnd h)
  | .savedTemperatureCheck _ => .next (.savedTemperature h)
  | .leapApplied => .next (.leapApplied h)
  | .scCardInserted => .next (.scCardInserted h)
  | .scCardRemoved => .next (.scCardRemoved h)
  | .scactCold _ => .next (.scact h)
  | .scactWarm _ => .next (.scact h)
  | .scAtr _ _ => .next (.scAtr h)
  | .scAtrTimeout => .next (.scAtrTimeout h)
  | .scClassRetry => .next (.scClassRetry h)
  | .scPpsResponse _ => .next (.scPpsResponse h)
  | .scdeact _ => .next (.scdeact h)
  | .scxfr _ => .next (.scxfr h)
  | .scBlockReceived _ _ _ => .next (.scBlockReceived h)
  | .scBwtExpiry => .next (.scBwtExpiry h)
  | .scRawCharacter _ _ _ => .next (.scRawCharacter h)
  | .scWtExpiry => .next (.scWtExpiry h)
  | .scXfrTimeout => .next (.scXfrTimeout h)
  | .scclkStop _ => .next (.scclk h)
  | .scclkStart _ => .next (.scclk h)
  | .scclkRate _ => .next (.scclk h)
  | .scSupplyFault _ _ _ => .next (.scSupplyFault h)
  | .scDeactivationDone => .next (.scDeactivationDone h)
  | .mcCardInserted => .next (.mcCardInserted h)
  | .mcCardRemoved => .next (.mcCardRemoved h)
  | .mcinitOn _ => .next (.mcinit h)
  | .mcinitOff _ => .next (.mcinit h)
  | .mcinitRetune _ => .next (.mcinit h)
  | .mcResponse _ _ => .next (.mcResponse h)
  | .mcResponseTimeout => .next (.mcResponseTimeout h)
  | .mcrwRead _ => .next (.mcrw h)
  | .mcrwWrite _ => .next (.mcrw h)
  | .mcHostcntWrite _ _ => .next (.rowWrite h (.mcHostcntWrite h))
  | .mcReadBlock _ _ => .next (.mcReadBlock h)
  | .mcBusyRelease _ => .next (.mcBusyRelease h)
  | .mcBusyTimeout => .next (.mcBusyTimeout h)
  | .mcStarved => .next (.mcStarved h)
  | .mcHostWaitTimeout => .next (.mcHostWaitTimeout h)
  | .mcrpmbCounter _ => .next (.mcrpmb h)
  | .mcrpmbWrite _ => .next (.mcrpmb h)
  | .mcrpmbRead _ => .next (.mcrpmb h)
  | .mcrpmbProgkey _ => .next (.mcrpmb h)
  | .mcwpTmpset _ => .next (.mcwp h)
  | .mcwpTmpclr _ => .next (.mcwp h)
  | .mcwpPermset _ => .next (.mcwp h)
  | .mcwpStatus _ => .next (.mcwp h)
  | .mcSupplyFault _ _ _ => .next (.mcSupplyFault h)
  | .mcDeactivationDone => .next (.mcDeactivationDone h)
  | .uacfgEnable _ => .next (.uacfg h)
  | .uacfgDisable _ => .next (.uacfg h)
  | .uacfgFlush _ => .next (.uacfg h)
  | .uaxfrSend _ => .next (.uaxfr h)
  | .uaxfrRecv _ => .next (.uaxfr h)
  | .uartCharacterReceived _ _ => .next (.uartCharacter h)
  | .uartRxIdleTimeout _ => .next (.uartRxIdle h)
  | .uartSendDone _ => .next (.uartSendDone h)
  | .uartSleepEntry _ => .next (.uartSleep h)
  | .uartWake _ => .next (.uartWake h)
  | .lkjoin _ => .next (.lkjoin h)
  | .joinConfirmed => .next (.joinConfirmed h)
  | .joinWaitTimeout => .next (.joinWaitTimeout h)
  | .lksend _ => .next (.lksend h)
  | .lkrecv _ => .next (.lkrecv h)
  | .lkrecvTimeout => .next (.lkrecvTimeout h)
  | .lkslot _ => .next (.lkslot h)
  | .lkleave _ => .next (.lkleave h)
  | .lktimeStatus _ => .next (.lktime h)
  | .lktimeClaim _ => .next (.lktime h)
  | .lktimeYield _ => .next (.lktime h)
  | .linkCycleBoundary => .next (.linkCycleBoundary h)
  | .linkTransmit _ => .next (.linkTransmit h)
  | .linkCollision => .next (.linkCollision h)
  | .ackTimeout => .next (.ackTimeout h)
  | .beaconReceived _ => .next (.beaconReceived h)
  | .beaconMissing => .next (.beaconMissing h)
  | .silenceTimeout => .next (.silenceTimeout h)
  | .dataFrameReceived _ => .next (.dataFrame h)
  | .ackReceived _ _ _ => .next (.ackReceived h)
  | .joinReceived _ => .next (.joinReceived h)
  | .conflictReceived _ => .next (.conflictReceived h)
  | .leaveReceived _ => .next (.leaveReceived h)
  | .noticeReceived _ => .next (.noticeReceived h)
  | .lkStranger _ _ => .next (.strangerHeard h)
  | .claimRepeat => .next (.claimRepeat h)
  | .aeloadBegin _ => .next (.aeload h)
  | .aeloadChunk _ => .next (.aeload h)
  | .aeloadEnd _ => .next (.aeload h)
  | .aeloadAbort _ => .next (.aeload h)
  | .aeloadReload _ => .next (.aeload h)
  | .modelFlashWriteDone _ _ => .next (.modelFlashWriteDone h)
  | .aerun _ => .next (.aerun h)
  | .jobSlice => .next (.jobSlice h)
  | .frameWaitTimeout => .next (.frameWaitTimeout h)
  | .ingestWindowEnable _ _ _ => .next (.rowWrite h (.winAWrite h))
  | .aeadaptStart _ => .next (.aeadapt h)
  | .aeadaptEvent _ => .next (.aeadapt h)
  | .aeadaptCommit _ => .next (.aeadapt h)
  | .commitFlashDone _ _ => .next (.commitFlashDone h)
  | .aeadaptEnd _ => .next (.aeadapt h)
  | .aeadaptRebase _ => .next (.aeadapt h)
  | .aeexport _ => .next (.aeexport h)
  | .aefreezeFreeze _ => .next (.aefreeze h)
  | .aefreezeThaw _ => .next (.aefreeze h)
  | .cppackBew128 _ => .next (.cppack h)
  | .cppackBea16 _ => .next (.cppack h)
  | .cppackVds _ => .next (.cppack h)
  | .cpunpackBew128 _ => .next (.cpunpack h)
  | .cpunpackBea16 _ => .next (.cpunpack h)
  | .cpunpackVds _ => .next (.cpunpack h)
  | .cpcheckBew128 _ => .next (.cpcheck h)
  | .cpcheckVds _ => .next (.cpcheck h)
  | .cpcheckChunkCrc _ => .next (.cpcheck h)
  | .severify _ => .next (.severify h)
  | .seopen _ => .next (.seopen h)
  | .seseal _ => .next (.seseal h)
  | .sekeyRpmb _ => .next (.sekey h)
  | .sekeyRpmbclear _ => .next (.sekey h)
  | .sekeyOwnerset _ => .next (.sekey h)
  | .sekeyOwnerrevoke _ => .next (.sekey h)
  | .exportOwnerWrite _ _ => .next (.rowWrite h (.expcfgWrite h))
  | .fpindSet _ => .next (.fpind h)
  | .fpindStatus _ => .next (.fpind h)
  | .indicatorMeasurement _ _ _ => .next (.indicatorMeasurement h)
  | .provingPulse _ _ _ => .next (.provingPulse h)
  | .offStateProbe _ _ => .next (.offStateProbe h)
  | .fpkeyRaise _ => .next (.fpkey h)
  | .fpkeyCancel _ => .next (.fpkey h)
  | .fpkeyRebase _ => .next (.fpkey h)
  | .fpkeyStatus _ => .next (.fpkey h)
  | .keyTouch _ => .next (.keyTouch h)
  | .keyTouchRelease _ => .next (.keyTouchRelease h)
  | .keyAntiTouch _ => .next (.keyAntiTouch h)
  | .keyHeldStuck _ => .next (.keyHeldStuck h)
  | .baselineUpdate _ => .next (.baselineUpdate h)
  | .feedbackSteadyTimeout => .next (.feedbackSteadyTimeout h)
  | .smbusBusEngage _ => .next (.busEngage h)
  | .smbusRegisterWrite _ => .next (.smbusWrite h)
  | .smbusPageSelect _ => .next (.smbusWrite h)
  | .smbusRegisterRead _ _ => .next (.smbusRead h)
  | .smbusFormError => .next (.when h .formError)
  | .smbusTimeout => .next (.smbusTimeout h)
  | .heartbeatBeat _ => .next (.rowWrite h (.beatWrite h))
  | .heartbeatLapse => .next (.heartbeatLapse h)
  | .heartbeatEnableWrite _ _ => .next (.rowWrite h (.hbcfgWrite h))
  | .stewardTake _ => .next (.rowWrite h (.stewctlWrite h))
  | .stewardRelease _ => .next (.rowWrite h (.stewctlWrite h))
  | .coldStart _ _ _ _ => .next (.coldStart h)
  | .vddAonLoss _ _ => .next .vddAonLoss
  | .scPpsTimeout => .next (.scPpsTimeout h)
  | .mcIdentTimeout => .next (.mcIdentTimeout h)
  | .mcSaveWaitExpiry => .next (.mcSaveWaitExpiry h)

/-- Settles O3: whatever command is at the front of the queue keeps the canonical form. -/
theorem memoryStaysCanonical : Obligations.MemoryStaysCanonical := by
  intro s t h hstep
  unfold step at hstep
  split at hstep
  · cases hstep
    exact h
  · exact CanonicalNext.exec (.withPending h) _ t hstep

end Sys2Proof.Machine

/-! ## Writes of shares (R46, R47) -/

namespace Sys2Proof.Machine

open Reg

/-- Ring 2 resident with the program index 244, beyond the 32 descriptors of R116, its share 500 of a tick of 1,000
cycles. -/
def State.boundPastStore : State :=
  { State.reset with
    coreUp := true
    regs := [(TK_CYCLES.CYCLES.key, 1000), ((TK_SHARE.SHARE 2).key, 500), ((QU_MODE.RES 2).key, 1)]
    rings := [(2, { RingState.idle with prog := 244 })] }

/-- Beyond the store's descriptors the model's WCOST runs into the tick unit's block: that of program 244 is TK_SHARE2. -/
theorem State.get_wcost_244 (s : State) : s.get (SY_PG_C.WCOST 244) = s.get (TK_SHARE.SHARE 2) := (rfl)

/-- R47 there: the written share is the worst case it is compared with, and it fits. -/
theorem State.boundFit_boundPastStore : (State.boundPastStore.set (TK_SHARE.SHARE 2) 100).boundFit 2 = true := by
  have hprog : ((State.boundPastStore.set (TK_SHARE.SHARE 2) 100).ring 2).prog = 244 := (rfl)
  have hcost : (State.boundPastStore.set (TK_SHARE.SHARE 2) 100).get (SY_PG_C.WCOST 244) = 100 := by
    rw [State.get_wcost_244, State.get_set_same]
    rfl
  have hcycles : (State.boundPastStore.set (TK_SHARE.SHARE 2) 100).shareCycles 2 = 100 := by decide
  rw [State.boundFit, hprog, hcost, hcycles]
  simp

theorem State.tkShareWrite_boundPastStore :
    exec (.tkShareWrite .host [(2, 100)]) State.boundPastStore =
      .next (State.boundPastStore.set (TK_SHARE.SHARE 2) 100) := by
  have hup : State.boundPastStore.coreUp = true := rfl
  have hsum : (State.boundPastStore.set (TK_SHARE.SHARE 2) 100).shareSum = 150 := by decide
  have happly : sharesApply .host [(2, 100)] State.boundPastStore =
      (State.boundPastStore.set (TK_SHARE.SHARE 2) 100, []) := by
    simp [sharesApply, State.boundFit_boundPastStore, hsum]
  change execTkShareWrite .host [(2, 100)] State.boundPastStore = _
  simp [execTkShareWrite, hup, happly, State.violations]

/-- Refutes O14: the clause on R47 holds the bound program's index to no range, and beyond the 32 descriptors a WCOST
can be the written share itself. The share 100 is then taken where 500 reads as the worst case it must reach. -/
theorem not_tickWriteResults : ¬ Obligations.TickWriteResults := by
  unfold Obligations.TickWriteResults
  rintro ⟨haccepted, -⟩
  obtain ⟨-, -, -, hbelow⟩ := haccepted State.boundPastStore .host rfl
  have hcost : State.boundPastStore.get TK_CYCLES.CYCLES * (100 % 2 ^ 10) / 1000 <
      State.boundPastStore.get (SY_PG_C.WCOST (State.boundPastStore.ring 2).prog) := by decide
  obtain ⟨t, ht, hshare, -⟩ := hbelow 2 100 (by decide) (by decide) hcost (by decide)
  rw [State.tkShareWrite_boundPastStore] at ht
  cases ht
  exact absurd hshare (by decide)

end Sys2Proof.Machine

/-! ## What the writes of the tick unit and the ring unit leave alone (R39 to R88) -/

namespace Sys2Proof.Machine

open Reg Host

/-! ### Frames over the blocks of the register map -/

/-- A register of another block than `f`'s is not `f`. -/
theorem Field.key_ne_of_block {blocks : List Nat} {f g : Field} (hf : f.lo < 32) (hg : g.lo < 32)
    (hin : f.off / 0x1000 ∈ blocks) (hout : g.off / 0x1000 ∉ blocks) : g.key ≠ f.key := by
  intro hkey
  have hoff : g.off = f.off := by
    simp only [Field.key] at hkey
    omega
  exact hout (hoff ▸ hin)

/-- The registers of an event lie in the blocks of the system, the ring unit and Wellhead (R87, R116, R338). -/
theorem not_eventField_of_block {blocks : List Nat} {g : Field} (hlo : g.lo < 32)
    (hblocks : ∀ b ∈ [0, 2, 0xA], b ∈ blocks) (hout : g.off / 0x1000 ∉ blocks) : ¬ eventField g := by
  have h0 : g.off / 0x1000 ≠ 0 := fun h => hout (h ▸ hblocks 0 (by decide))
  have h2 : g.off / 0x1000 ≠ 2 := fun h => hout (h ▸ hblocks 2 (by decide))
  have hA : g.off / 0x1000 ≠ 0xA := fun h => hout (h ▸ hblocks 0xA (by decide))
  exact not_eventField hlo (by omega) (by omega) (by omega)

/-- `t` differs from `s` in no memory, in no register outside the blocks `blocks`, and not in `view`. -/
def Leaves {α : Type} (blocks : List Nat) (view : State → α) (s t : State) : Prop :=
  KeepsBlocks blocks s t ∧ KeepsMemory s t ∧ view t = view s

section
variable {α : Type} {blocks : List Nat} {view : State → α} {s t u : State}

theorem Leaves.refl (s : State) : Leaves blocks view s s :=
  ⟨fun _ _ _ => rfl, ⟨fun _ => rfl, rfl, fun _ => rfl⟩, rfl⟩

/-- What changes neither registers nor memories nor the view keeps the frame. -/
theorem Leaves.congr (h : Leaves blocks view s t) (hregs : u.regs = t.regs) (hslots : u.slots = t.slots)
    (hstore : u.store = t.store) (hdram : u.hp.dram = t.hp.dram) (hview : view u = view t) :
    Leaves blocks view s u := by
  obtain ⟨hblocks, ⟨hslot, hst, hbyte⟩, hv⟩ := h
  have hget (g : Field) : u.get g = t.get g := by simp only [State.get, hregs]
  have hmem (off : Nat) : u.slot off = t.slot off := by simp only [State.slot, hslots]
  exact ⟨fun g hlo hg => (hget g).trans (hblocks g hlo hg), ⟨fun off => (hmem off).trans (hslot off), hstore.trans hst,
    fun a => hdram ▸ hbyte a⟩, hview.trans hv⟩

theorem Leaves.set {f : Field} {v : Nat} (h : Leaves blocks view s t) (hlo : f.lo < 32 := by decide)
    (hin : f.off / 0x1000 ∈ blocks := by decide) (hview : view (t.set f v) = view t := by rfl) :
    Leaves blocks view s (t.set f v) := by
  obtain ⟨hblocks, hmem, hv⟩ := h
  refine ⟨fun g hg hout => ?_, hmem, hview.trans hv⟩
  rw [State.get_set_ne t v (Field.key_ne_of_block hlo hg hin hout), hblocks g hg hout]

theorem Leaves.raise {code w5 w6 w7 : Nat} (h : Leaves blocks view s t) (hblocks : ∀ b ∈ [0, 2, 0xA], b ∈ blocks)
    (hview : view (t.raise code w5 w6 w7) = view t) : Leaves blocks view s (t.raise code w5 w6 w7) := by
  obtain ⟨hb, ⟨hslot, hstore, hbyte⟩, hv⟩ := h
  have hsame := SameUnits.raise t code w5 w6 w7
  have hmem (off : Nat) : (t.raise code w5 w6 w7).slot off = t.slot off := by simp only [State.slot, hsame.slots]
  refine ⟨fun g hg hout => ?_, ⟨fun off => (hmem off).trans (hslot off), hsame.store.trans hstore, fun a => ?_⟩,
    hview.trans hv⟩
  · rw [State.get_raise (not_eventField_of_block hg hblocks hout), hb g hg hout]
  · rw [hsame.hp, hbyte a]

theorem Leaves.when {b : Bool} {f : State → State} (h : Leaves blocks view s t) (hf : Leaves blocks view s (f t)) :
    Leaves blocks view s (t.when b f) := by
  cases b
  · exact h
  · exact hf

/-- R7: violations change the two registers of the system block alone. -/
theorem Leaves.violations (vs : List Violation) (h : Leaves blocks view s t) (hin : 0 ∈ blocks)
    (hview : ∀ (u : State) f v, view (u.set f v) = view u) : Leaves blocks view s (t.violations vs) := by
  cases vs with
  | nil => exact h
  | cons v vs => exact .set (.set h (hin := hin) (hview := hview _ _ _)) (hin := hin) (hview := hview _ _ _)

/-- `P` holds of the state of an accepted write. -/
def IfSome (P : State → Prop) (o : Option State) : Prop := ∀ t, o = some t → P t

theorem IfSome.none {P : State → Prop} : IfSome P Option.none := by
  rintro t ⟨⟩

theorem IfSome.some {P : State → Prop} (h : P s) : IfSome P (Option.some s) := by
  rintro t ⟨⟩
  exact h

theorem IfSome.ite {P : State → Prop} {c : Prop} [Decidable c] {a b : Option State} (ha : IfSome P a)
    (hb : IfSome P b) : IfSome P (if c then a else b) := by
  split
  · exact ha
  · exact hb

theorem Leaves.ite {c : Prop} [Decidable c] (ht : Leaves blocks view s t) (hu : Leaves blocks view s u) :
    Leaves blocks view s (if c then t else u) := by
  split
  · exact ht
  · exact hu

/-- R7, R571: a row's write leaves alone what its accepted write leaves alone. -/
theorem Leaves.rowWrite {w : Writer} {off : Nat} {r : Option State} (hin : 0 ∈ blocks)
    (hview : ∀ (u : State) f v, view (u.set f v) = view u) (h : IfSome (Leaves blocks view s) r) :
    Leaves blocks view s (s.rowWrite w off r) := by
  have hrefused : Leaves blocks view s (s.violate (writerViolation w off)) := .violations _ (.refl s) hin hview
  unfold State.rowWrite
  split
  · cases r with
    | none => exact hrefused
    | some t => exact h t rfl
  · exact hrefused

end

/-! ### The tick unit's writes (R46, R47, R57 to R59) -/

/-- What a write of the tick unit may change. -/
abbrev TickFrame : State → State → Prop := Leaves [0, 1] State.rings

theorem rateWrite_frame (s : State) (w : Writer) (rate : Nat) : IfSome (TickFrame s) (rateWrite w rate s) :=
  .ite (.some (.set (.set ((Leaves.refl s).congr rfl rfl rfl rfl rfl)))) .none

theorem starveWrite_frame (s : State) (w : Writer) (ticks : Nat) : IfSome (TickFrame s) (starveWrite w ticks s) :=
  .ite (.some (.when (.set (.refl s)) (.set (.set (.refl s))))) .none

/-- R61: the share of a ring lies in the tick unit's block. -/
theorem share_block {r : Nat} (hr : r < 16) : (TK_SHARE.SHARE r).off / 0x1000 ∈ [0, 1] := by
  have h : (TK_SHARE.SHARE r).off / 0x1000 = 1 := by
    simp only [TK_SHARE.SHARE]
    omega
  simp [h]

theorem TickFrame.setShares {s t : State} (l : List (Nat × Nat)) (hl : ∀ p ∈ l, p.1 < 16) (h : TickFrame s t) :
    TickFrame s (l.foldl (fun s (r, v) => s.set (TK_SHARE.SHARE r) v) t) := by
  induction l generalizing t with
  | nil => exact h
  | cons p l ih =>
      have hp : p.1 < 16 := hl p (List.mem_cons_self ..)
      exact ih (fun q hq => hl q (List.mem_cons_of_mem _ hq)) (.set h (hlo := Nat.zero_lt_succ 31) (hin := share_block hp))

theorem sharesApply_frame (s : State) (w : Writer) {l : List (Nat × Nat)} (hl : ∀ p ∈ l, p.1 < 16) :
    TickFrame s (sharesApply w l s).1 := by
  unfold sharesApply
  extract_lets may fits t
  have ht : TickFrame s t := .setShares fits (fun p hp => hl p (List.mem_of_mem_filter hp)) (.refl s)
  split
  · exact ht
  · exact .refl s

theorem execTkShareWrite_frame (s : State) (w : Writer) {l : List (Nat × Nat)} (hl : ∀ p ∈ l, p.1 < 16) :
    Whenever (.tkShareWrite w l) s (TickFrame s) := by
  have hshares : TickFrame s (if s.coreUp then sharesApply w l s else (s, l.map (·.1))).1 := by
    split
    · exact sharesApply_frame s w hl
    · exact .refl s
  rintro t ⟨⟩
  exact .violations _ hshares (by decide) fun _ _ _ => rfl

/-! ### The ring unit's writes (R63 to R86) -/

/-- What a write of the ring unit may change. -/
abbrev RingFrame : State → State → Prop := Leaves [0, 2] State.tick

/-- R87: the registers of ring `r` lie in the ring unit's block. -/
theorem ringField_block {f : Field} {r : Nat} (hr : r < 16) (h : f.off = 0x2100 + 32 * r ∨ f.off = 0x2108 + 32 * r) :
    f.off / 0x1000 ∈ [0, 2] := by
  have h2 : f.off / 0x1000 = 2 := by omega
  simp [h2]

theorem doorbellWrite_frame (s : State) (w : Writer) {r : Nat} (tail : Nat) (hr : r < 16) :
    IfSome (RingFrame s) (doorbellWrite w r tail s) := by
  have htail : RingFrame s (s.set (QU_TAIL.TAIL r) tail) :=
    .set (.refl s) (hlo := Nat.zero_lt_succ 31) (hin := ringField_block hr (.inl rfl))
  exact .ite (.ite (.some (.refl s)) (.some (htail.congr rfl rfl rfl rfl rfl))) .none

theorem modeWrite_frame (s : State) (w : Writer) {r : Nat} (res : Bool) (entry : Nat) (hr : r < 16) :
    IfSome (RingFrame s) (modeWrite w r res entry s) := by
  have hentry : RingFrame s (s.when (!s.resident r) (·.set (QU_MODE.ENTRY r) entry)) :=
    .when (.refl s) (.set (.refl s) (hlo := Nat.zero_lt_succ 31) (hin := ringField_block hr (.inr rfl)))
  exact .ite (.some (hentry.congr rfl rfl rfl rfl rfl)) .none

theorem cqMapWrite_frame (s : State) (w : Writer) (high : Bool) (map : Nat) :
    IfSome (RingFrame s) (cqMapWrite w high map s) := by
  cases high
  · exact .ite (.some (.set (.refl s))) .none
  · exact .ite (.some (.set (.refl s))) .none

theorem giveWrite_frame (s : State) (w : Writer) : IfSome (RingFrame s) (giveWrite w s) :=
  .ite (.some ((Leaves.refl s).congr rfl rfl rfl rfl rfl)) .none

theorem returnWrite_frame (s : State) (w : Writer) : IfSome (RingFrame s) (returnWrite w s) :=
  .ite (.some ((Leaves.refl s).congr rfl rfl rfl rfl rfl)) .none

theorem r15ctlWrite_frame (s : State) (w : Writer) (v : Nat) : IfSome (RingFrame s) (r15ctlWrite w v s) := by
  unfold r15ctlWrite
  split
  · exact .none
  · next hgive => exact .some (.ite (giveWrite_frame s w _ hgive) (.refl s))
  · next hreturn _ => exact .some (.ite (returnWrite_frame s w _ hreturn) (.refl s))

theorem evpendWrite_frame (s : State) (w : Writer) (bits : Nat) : IfSome (RingFrame s) (evpendWrite w bits s) := by
  unfold evpendWrite
  split
  · exact .none
  · exact .some (.set (.set (.refl s)))

theorem apertureBaseWrite_frame (s : State) (w : Writer) (part v : Nat) :
    IfSome (RingFrame s) (apertureBaseWrite w part v s) := by
  unfold apertureBaseWrite
  extract_lets old new
  split
  · exact .none
  · exact .ite .none (.some (.set (.refl s)))

theorem apertureEnableWrite_frame (s : State) (w : Writer) (en : Bool) :
    IfSome (RingFrame s) (apertureEnableWrite w en s) := by
  unfold apertureEnableWrite
  split
  · exact .none
  · exact .ite .none (.some (.set (.refl s)))

/-! ### A write of a queue's head (R81, R83, R85) -/

/-- What a head write may change: an event it raises changes registers of the system block and of Wellhead too. -/
abbrev HeadFrame : State → State → Prop := Leaves [0, 2, 0xA] fun _ => ()

/-- R83: the end of an episode changes the held rings and raises its event. -/
theorem HeadFrame.cqRelieve {s t : State} (m : Nat) (h : HeadFrame s t) : HeadFrame s (t.cqRelieve m) := by
  unfold State.cqRelieve
  split
  · exact h
  · exact .ite h (.raise (.set (h.congr rfl rfl rfl rfl rfl)) (fun _ hb => hb) rfl)

theorem HeadFrame.cqEvaluate {s t : State} (m : Nat) (h : HeadFrame s t) : HeadFrame s (t.cqEvaluate m) :=
  .when h (.set h)

/-- R87: the head of a queue lies in the ring unit's block. -/
theorem cqHead_block {m : Nat} (hm : m < 4) : (QU_CQHEAD.HEAD m).off / 0x1000 ∈ [0, 2, 0xA] := by
  have h : (QU_CQHEAD.HEAD m).off / 0x1000 = 2 := by
    simp only [QU_CQHEAD.HEAD]
    omega
  simp [h]

theorem cqHeadWrite_frame (s : State) (w : Writer) {m : Nat} (head : Nat) (hm : m < 4) :
    IfSome (HeadFrame s) (cqHeadWrite w m head s) := by
  have hhead : HeadFrame s (s.set (QU_CQHEAD.HEAD m) head) :=
    .set (.refl s) (hlo := Nat.zero_lt_succ 31) (hin := cqHead_block hm)
  exact .ite (.some (.cqEvaluate m (.cqRelieve m (hhead.congr rfl rfl rfl rfl rfl)))) .none

/-! ### The commands -/

theorem Whenever.next {c : Instr} {s u : State} {Q : State → Prop} (hexec : exec c s = .next u) (hQ : Q u) :
    Whenever c s Q := by
  intro t ht
  rw [hexec] at ht
  cases ht
  exact hQ

/-- A row's write that the tick unit accepts or refuses keeps the tick unit's frame. -/
theorem tickRow_frame {s : State} {c : Instr} {w : Writer} {off : Nat} {r : Option State}
    (h : IfSome (TickFrame s) r) (hexec : exec c s = .next (s.rowWrite w off r)) : Whenever c s (TickFrame s) :=
  .next hexec (Leaves.rowWrite (by decide) (fun _ _ _ => rfl) h)

/-- A row's write that the ring unit accepts or refuses keeps the ring unit's frame. -/
theorem ringRow_frame {s : State} {c : Instr} {w : Writer} {off : Nat} {r : Option State}
    (h : IfSome (RingFrame s) r) (hexec : exec c s = .next (s.rowWrite w off r)) : Whenever c s (RingFrame s) :=
  .next hexec (Leaves.rowWrite (by decide) (fun _ _ _ => rfl) h)

theorem execCqHeadWrite_frame (s : State) (w : Writer) {m : Nat} (head : Nat) (hm : m < 4) :
    Whenever (.cqHeadWrite w m head) s (HeadFrame s) :=
  .next rfl (Leaves.rowWrite (by decide) (fun _ _ _ => rfl) (cqHeadWrite_frame s w head hm))

/-- Settles O19: an accepted write of the tick unit, of the ring unit and of a queue's head keeps the frame of its unit,
and so does the violation of a refused one. -/
theorem tickAndRingWriteFrames : Obligations.TickAndRingWriteFrames := by
  intro s w
  refine ⟨fun rate => tickRow_frame (rateWrite_frame s w rate) rfl,
    fun n => tickRow_frame (starveWrite_frame s w n) rfl,
    fun l hl => execTkShareWrite_frame s w hl,
    fun r n hr => ⟨ringRow_frame (doorbellWrite_frame s w n hr) rfl,
      ringRow_frame (modeWrite_frame s w true n hr) rfl, ringRow_frame (modeWrite_frame s w false n hr) rfl⟩,
    fun high map => ringRow_frame (cqMapWrite_frame s w high map) rfl,
    ringRow_frame (r15ctlWrite_frame s w 1) rfl,
    ringRow_frame (r15ctlWrite_frame s w 2) rfl,
    fun bits => ringRow_frame (evpendWrite_frame s w bits) rfl,
    fun part v => ringRow_frame (apertureBaseWrite_frame s w part v) rfl,
    fun en => ringRow_frame (apertureEnableWrite_frame s w en) rfl,
    fun m head hm t ht => ?_⟩
  obtain ⟨hblocks, hmemory, -⟩ := execCqHeadWrite_frame s w head hm t ht
  exact ⟨hblocks, hmemory⟩

end Sys2Proof.Machine

/-! ## What a tick edge's own work leaves alone while no ring waits (R43 to R51) -/

namespace Sys2Proof.Machine

open Reg Host

/-! ### Events that no ring waits for (R99, R331) -/

/-- No ring waits for a tick, an event or its other completions (R98, R99, R101). -/
def State.NoWaits (s : State) : Prop := ∀ r < 16, (s.ring r).wait = .none

/-- A fold whose steps all leave its start alone ends there. -/
theorem foldl_stays {α β : Type} {f : β → α → β} {b : β} (l : List α) (h : ∀ a ∈ l, f b a = b) : l.foldl f b = b := by
  induction l with
  | nil => rfl
  | cons a l ih => rw [List.foldl_cons, h a (List.mem_cons_self ..), ih fun a ha => h a (List.mem_cons_of_mem _ ha)]

theorem State.matchRings_noWaits {s : State} (h : s.NoWaits) (code seq : Nat) :
    (List.range 16).foldl (State.matchRing code seq) s = s :=
  foldl_stays _ fun r hr => by simp only [State.matchRing, h r (List.mem_range.mp hr)]

@[simp] theorem State.rings_when (s : State) (b : Bool) (f : State → State) (h : (f s).rings = s.rings) :
    (s.when b f).rings = s.rings := by
  cases b
  · exact Eq.refl s.rings
  · exact h

theorem State.rings_logPush (s : State) (e : LogEntry) : (s.logPush e).rings = s.rings := by
  have hlog (t : State) (l : List LogEntry) : ({ t with log := l } : State).rings = t.rings := (rfl)
  unfold State.logPush
  split
  · rw [hlog]
  · simp only [State.set_rings, State.add_eq, State.rings_when]

theorem State.rings_pendUnit (s : State) (u : Nat) : (s.pendUnit u).rings = s.rings :=
  s.rings_when _ _ (s.set_rings _ _)

/-- An event changes no ring where no ring waits. -/
theorem State.rings_logEvent {s : State} (h : s.NoWaits) (e : LogEntry) : (s.logEvent e).rings = s.rings := by
  unfold State.logEvent
  split
  · rw [State.rings_pendUnit, State.rings_logPush]
  · split
    · rw [State.add_eq, State.set_rings]
    · split
      · simp only [State.add_eq, State.setFlag_eq, State.set_rings]
      · split
        · have hadd : ((s.add TM_LOGLOST.COUNT 1).add TM_EVSEQ.SEQ 1).NoWaits := h
          dsimp only
          rw [State.matchRings_noWaits hadd, State.rings_pendUnit, State.setFlag_eq, State.set_rings,
            State.rings_logPush, State.add_eq, State.add_eq, State.set_rings, State.set_rings]
        · rw [State.rings_pendUnit, State.rings_logPush]

theorem State.rings_raise {s : State} (h : s.NoWaits) (code w5 w6 w7 : Nat) :
    (s.raise code w5 w6 w7).rings = s.rings := by
  unfold State.raise
  split
  · exact Eq.refl s.rings
  · unfold State.raiseFrom
    split
    · have hadd : (s.add TM_EVSEQ.SEQ 1).NoWaits := h
      dsimp only
      rw [State.matchRings_noWaits hadd, State.rings_logEvent hadd, State.add_eq, State.set_rings]
    · exact Eq.refl s.rings

/-! ### The relation -/

/-- R61, R87: the registers the edge takes its decisions from: the rate, the length and the number of the tick, the
shares, and each ring's tail, head and mode. -/
def edgeSlot (off : Nat) : Bool :=
  (decide (0x1000 ≤ off) && decide (off < 0x101C)) || (decide (0x1040 ≤ off) && decide (off < 0x1080)) ||
    (decide (0x2100 ≤ off) && decide (off < 0x2300) && decide (off % 32 < 12))

/-- From `a`, a state without waits, to `s` nothing has changed that the edge takes its decisions from: the registers of
`edgeSlot`, the rings, the tick, time, and the submission areas. -/
structure Still (a s : State) : Prop where
  noWaits : a.NoWaits
  regs : ∀ g : Field, g.lo < 32 → edgeSlot g.off = true → s.get g = a.get g
  ring : ∀ r < 16, s.ring r = a.ring r
  tick : s.tick = a.tick
  ring15 : s.ring15 = a.ring15
  now : s.now = a.now
  coreUp : s.coreUp = a.coreUp
  pavane : s.sv.pavane = a.sv.pavane
  slots : ∀ off < 0x80000, s.slot off = a.slot off

/-- What `Still` looks at, and no more. -/
def State.edgeView (s : State) :=
  (s.regs, s.slots, s.rings, s.tick, s.ring15, s.now, s.coreUp, s.sv.pavane)

/-- The slots that are not the edge's: those around the tick unit's and the rings', and the rest of a ring's. -/
theorem edgeSlot_eq_false {off : Nat} (h : off < 0x1000 ∨ 0x101C ≤ off ∧ off < 0x1040 ∨ 0x1080 ≤ off ∧ off < 0x2100 ∨
    0x2300 ≤ off ∨ 0x2100 ≤ off ∧ 12 ≤ off % 32) : edgeSlot off = false := by
  simp only [edgeSlot, Bool.or_eq_false_iff, Bool.and_eq_false_iff, decide_eq_false_iff_not]
  omega

theorem edgeSlot_not_eventField {g : Field} (hlo : g.lo < 32) (h : edgeSlot g.off = true) : ¬ eventField g := by
  simp only [edgeSlot, Bool.or_eq_true, Bool.and_eq_true, decide_eq_true_eq] at h
  exact not_eventField hlo (by omega) (by omega) (by omega)

section
variable {a s t : State}

theorem Still.refl (h : s.NoWaits) : Still s s :=
  ⟨h, fun _ _ _ => rfl, fun _ _ => rfl, rfl, rfl, rfl, rfl, rfl, fun _ _ => rfl⟩

theorem Still.trans {b : State} (h : Still a b) (h' : Still b s) : Still a s where
  noWaits := h.noWaits
  regs g hlo hg := (h'.regs g hlo hg).trans (h.regs g hlo hg)
  ring r hr := (h'.ring r hr).trans (h.ring r hr)
  tick := h'.tick.trans h.tick
  ring15 := h'.ring15.trans h.ring15
  now := h'.now.trans h.now
  coreUp := h'.coreUp.trans h.coreUp
  pavane := h'.pavane.trans h.pavane
  slots off ho := (h'.slots off ho).trans (h.slots off ho)

/-- What `Still` keeps, no ring waits in either. -/
theorem Still.noWaits_right (h : Still a s) : s.NoWaits := fun r hr => by rw [h.ring r hr, h.noWaits r hr]

theorem Still.congr (h : Still a s) (e : t.edgeView = s.edgeView) : Still a t := by
  simp only [State.edgeView, Prod.mk.injEq] at e
  obtain ⟨hregs, hslots, hrings, htick, h15, hnow, hup, hpavane⟩ := e
  refine h.trans ⟨h.noWaits_right, fun g _ _ => ?_, fun r _ => ?_, htick, h15, hnow, hup, hpavane, fun off _ => ?_⟩
  · rw [State.get, hregs, State.get]
  · rw [State.ring, hrings, State.ring]
  · rw [State.slot, hslots, State.slot]

theorem Still.withQueues {x : Sparse QueueState} (h : Still a s) : Still a { s with queues := x } := h.congr rfl
theorem Still.withHp {x : HostPath} (h : Still a s) : Still a { s with hp := x } := h.congr rfl
theorem Still.withSh {x : Shadow} (h : Still a s) : Still a { s with sh := x } := h.congr rfl
theorem Still.withUa {x : Sparse UartPort} (h : Still a s) : Still a { s with ua := x } := h.congr rfl
theorem Still.withLk {x : Link} (h : Still a s) : Still a { s with lk := x } := h.congr rfl
theorem Still.withAe {x : Analytics} (h : Still a s) : Still a { s with ae := x } := h.congr rfl
theorem Still.withBatch {x : Option (List (Nat × Nat × Nat × Nat))} (h : Still a s) : Still a { s with batch := x } :=
  h.congr rfl
theorem Still.withSv {x : SaveUnit} (h : Still a s) (hx : x.pavane = s.sv.pavane) : Still a { s with sv := x } :=
  h.trans { Still.refl h.noWaits_right with pavane := hx }

theorem Still.ite {c : Prop} [Decidable c] (hs : Still a s) (ht : Still a t) : Still a (if c then s else t) := by
  split
  · exact hs
  · exact ht

theorem Still.when {b : Bool} {f : State → State} (h : Still a s) (hf : ∀ {t}, Still a t → Still a (f t)) :
    Still a (s.when b f) := by
  cases b
  · exact h
  · exact hf h

theorem Still.foldl {α : Type} {f : State → α → State} {l : List α} (h : Still a s)
    (hf : ∀ {t}, Still a t → ∀ x ∈ l, Still a (f t x)) : Still a (l.foldl f s) := by
  induction l generalizing s with
  | nil => exact h
  | cons x l ih => exact ih (hf h x (List.mem_cons_self ..)) fun ht y hy => hf ht y (List.mem_cons_of_mem _ hy)

/-! ### The functions of Ops -/

theorem Still.set {f : Field} {v : Nat} (h : Still a s) (hlo : f.lo < 32 := by decide)
    (hf : edgeSlot f.off = false := by decide) : Still a (s.set f v) := by
  refine h.trans ⟨h.noWaits_right, fun g hg hedge => State.get_set_ne s v fun hkey => ?_, fun _ _ => rfl, rfl, rfl, rfl, rfl,
    rfl, fun _ _ => rfl⟩
  have hoff : g.off = f.off := by
    simp only [Field.key] at hkey
    omega
  rw [hoff, hf] at hedge
  cases hedge

/-- A register of a unit whose block lies above the rings'. -/
theorem Still.setUnit {base n lo width reset v : Nat} (h : Still a s) (hlo : lo < 32 := by decide)
    (hbase : 0x2300 ≤ base := by decide) : Still a (s.set ⟨base + n, lo, width, reset⟩ v) :=
  h.set hlo (edgeSlot_eq_false (.inr (.inr (.inr (.inl (Nat.le_add_right_of_le hbase))))))

theorem Still.setSlots {off : Nat} {l : List Nat} (h : Still a s) (hoff : 0x80000 ≤ off) : Still a (s.setSlots off l) := by
  induction l generalizing s off with
  | nil => exact h
  | cons w l ih =>
      refine ih ?_ (by omega)
      refine h.trans ⟨h.noWaits_right, fun _ _ _ => rfl, fun _ _ => rfl, rfl, rfl, rfl, rfl, rfl, fun off' ho => ?_⟩
      exact State.slot_setSlot_ne s w (by omega)

/-- A ring beyond the sixteen is none of the edge's. -/
theorem Still.setRing_beyond {r : Nat} {x : RingState} (h : Still a s) (hr : ¬ r < 16) : Still a (s.setRing r x) := by
  refine h.trans ⟨h.noWaits_right, fun _ _ _ => rfl, fun r' hr' => ?_, rfl, rfl, rfl, rfl, rfl, fun _ _ => rfl⟩
  exact State.ring_setRing_ne s x (by omega)

/-- R331: an event changes nothing that the edge takes its decisions from. -/
theorem Still.raise {code w5 w6 w7 : Nat} (h : Still a s) : Still a (s.raise code w5 w6 w7) := by
  have hsame := SameUnits.raise s code w5 w6 w7
  refine h.trans ⟨h.noWaits_right, fun g hlo hg => State.get_raise (edgeSlot_not_eventField hlo hg) s code w5 w6 w7,
    fun r _ => ?_, hsame.tick, hsame.ring15, hsame.now, hsame.coreUp, congrArg SaveUnit.pavane hsame.sv, fun off _ => ?_⟩
  · rw [State.ring, State.rings_raise h.noWaits_right, State.ring]
  · rw [State.slot, hsame.slots, State.slot]

theorem Still.raiseAll {l : List (Nat × Nat × Nat × Nat)} (h : Still a s) : Still a (s.raiseAll l) :=
  .foldl h fun h _ _ => .raise h

theorem Still.cqEvaluate {m : Nat} (h : Still a s) : Still a (s.cqEvaluate m) := .when h .set

/-- R79, R80: an entry is written above the submission areas, and the registers of its queue and its ring's OUT are none
of the edge's. -/
theorem Still.cqWrite {c : OpRef} {status result : Nat} (h : Still a s) : Still a (s.cqWrite c status result) := by
  have hq := c.q_lt
  have hring : c.ring % 16 < 16 := Nat.mod_lt _ (by decide)
  have htail : edgeSlot (QU_CQTAIL.TAIL c.q).off = false := by
    refine edgeSlot_eq_false ?_
    simp only [QU_CQTAIL.TAIL]
    omega
  have hres : edgeSlot (QU_CQRES.RESV c.q).off = false := by
    refine edgeSlot_eq_false ?_
    simp only [QU_CQRES.RESV]
    omega
  have hout : edgeSlot (QU_OUT.OUT (c.ring % 16)).off = false := by
    refine edgeSlot_eq_false ?_
    simp only [QU_OUT.OUT]
    omega
  have hentry : 0x80000 ≤ s.entryBase c.q := by
    simp only [State.entryBase]
    omega
  have hlo : (0 : Nat) < 32 := by decide
  exact .cqEvaluate (.set (.withQueues (.set (.set (.setSlots h hentry) hlo htail) hlo hres)) hlo hout)

/-- R101: the FENCE of a ring beyond the sixteen is the only one that can wait. -/
theorem Still.fenceRelease {r : Nat} (h : Still a s) : Still a (s.fenceRelease r) := by
  unfold State.fenceRelease
  split
  · next ref n hwait =>
      have hr : ¬ r < 16 := fun hr => by
        rw [h.noWaits_right r hr] at hwait
        cases hwait
      exact .ite (.cqWrite (.setRing_beyond h hr)) h
  · exact h

theorem Still.post {c : OpRef} {status result : Nat} (h : Still a s) : Still a (s.post c status result) :=
  .fenceRelease (.cqWrite h)

theorem Still.postAll {l : List (OpRef × Nat × Nat)} (h : Still a s) : Still a (s.postAll l) :=
  .foldl h fun h _ _ => .post h

theorem Still.postOpt {c : Option OpRef} {status result : Nat} (h : Still a s) :
    Still a (s.postOpt c status result) := by
  cases c
  · exact h
  · exact .post h

/-! ### A lend window that opens (R138 to R142) -/

theorem Still.ownChange {new cause : Nat} {block : Bool} (h : Still a s) : Still a (s.ownChange new block cause) :=
  .raise (.set (.set h))

theorem Still.closeLend {status result : Nat} (h : Still a s) : Still a (s.closeLend status result) := by
  unfold State.closeLend
  split
  · exact h
  · exact .post (.withHp h)

theorem Still.dropScrubs (h : Still a s) : Still a s.dropScrubs := .set (.postAll (.withHp h))

theorem Still.repeatPasses (h : Still a s) : Still a s.repeatPasses := .withHp (.set (.set h))

theorem Still.openLend (h : Still a s) : Still a s.openLend := by
  unfold State.openLend
  split
  · exact .ite (.ite (.ite (.closeLend (.ownChange (.dropScrubs (.ownChange (.withHp h)))))
      (.dropScrubs (.ownChange (.withHp h)))) (.ite (.repeatPasses (.ownChange (.withHp h))) (.ownChange (.withHp h)))) h
  · exact h

/-! ### The ingest windows (R463, R464) -/

theorem Still.setWindow {k : Nat} {x : AeWindow} (h : Still a s) : Still a (s.setWindow k x) :=
  .setUnit (.setUnit (.withAe h))

theorem Still.frameRoom {k : Nat} (h : Still a s) : Still a (s.frameRoom k) := by
  unfold State.frameRoom
  extract_lets x
  refine .ite h ?_
  split
  · exact h
  · exact .raise (.setUnit (.setWindow h))

theorem Still.joinLine {k : Nat} (h : Still a s) : Still a (s.joinLine k) := by
  unfold State.joinLine
  split
  · exact h
  · next bytes time qual rest hfifo =>
      have hroom {t : State} (ht : Still a t) : Still a (if (t.aeWindow k).part = [] then t.frameRoom k else t) :=
        .ite (.frameRoom ht) ht
      exact .ite (.setWindow (hroom (.setWindow h))) (.setWindow (.setUnit (hroom (.setWindow h))))

theorem Still.joinLines {k n : Nat} (h : Still a s) : Still a (State.joinLines k n s) := by
  induction n generalizing s with
  | zero => exact h
  | succ n ih => exact ih (.joinLine h)

theorem Still.drainWindows (h : Still a s) : Still a s.drainWindows :=
  .foldl h fun h _ _ => .ite h (.joinLines (.setWindow h))

/-! ### A link frame that has left (R428, R430, R440) -/

theorem Still.uaQuiet {p : Nat} (h : Still a s) : Still a (s.uaQuiet p) := .withUa (.withUa (.setUnit h))

theorem Still.uaReturn {p : Nat} (h : Still a s) : Still a (s.uaReturn p) :=
  .raise (.uaQuiet (.setUnit (.setUnit (.set h))))

theorem Still.backoff {demand : Nat} (h : Still a s) : Still a (s.backoff demand) :=
  .ite (.when (.withLk (.set (.set h))) .raise) h

theorem Still.lkStopQueues {status waiting : Nat} (h : Still a s) : Still a (s.lkStopQueues status waiting) :=
  .postAll (.when (.withLk h) .withLk)

theorem Still.lkReturnPorts (h : Still a s) : Still a s.lkReturnPorts :=
  .withLk (.set (.uaReturn (.uaReturn (.set (.set (.set (.set (.set (.set (.set h))))))))))

theorem Still.lkGone {cause : Nat} {left : Bool} (h : Still a s) : Still a (s.lkGone cause left) :=
  .postAll (.raise (.lkReturnPorts (.withLk (.set (.postOpt (.lkStopQueues h))))))

theorem Still.lkHeadCheck {n : Nat} (h : Still a s) : Still a (State.lkHeadCheck n s) := by
  induction n generalizing s with
  | zero => exact h
  | succ n ih =>
      unfold State.lkHeadCheck
      split
      · exact h
      · exact .ite (ih (.post (.withLk h))) h

theorem Still.lkSendEnd {status : Nat} (h : Still a s) : Still a (s.lkSendEnd status) := by
  unfold State.lkSendEnd
  split
  · exact h
  · exact .lkHeadCheck (.post (.withLk h))

theorem Still.lkLeaveSent {left : Bool} (h : Still a s) : Still a (s.lkLeaveSent left) := .ite h (.lkGone h)

theorem Still.lkLeft (h : Still a s) : Still a s.lkLeft := by
  unfold State.lkLeft
  split
  · exact h
  · exact .withLk h
  · split
    · exact h
    · exact .ite h (.lkSendEnd (.when h .backoff))
  · split
    · exact .withLk h
    · dsimp only
      split
      · exact .withLk (.when (.withLk h) .backoff)
      · exact .lkLeaveSent (.when (.withLk h) .backoff)
      · exact .withSv (.when (.withLk h) .backoff) rfl
      · exact .when (.withLk h) .backoff

theorem Still.lkSettle (h : Still a s) : Still a s.lkSettle := .when h .lkLeft

/-! ### The PFENCEs that wait (R163 to R166) -/

theorem Still.setBar {n : Nat} (h : Still a s) : Still a (s.setPair SH_BARH.BAR SH_BARL.BAR n) := .set (.set h)

theorem Still.createBarrier {w : FenceWait} (h : Still a s) : Still a (s.createBarrier w) :=
  .when (.withSh (.setBar h)) .withSh

theorem Still.place (h : Still a s) : Still a s.place := by
  unfold State.place
  dsimp only
  exact .ite h (.ite (.raise (.set h)) (.ite h (.withSh h)))

theorem Still.settleFences (h : Still a s) : Still a s.settleFences :=
  .postAll (.place (.foldl (.withSh h) fun h _ _ => .createBarrier h))

/-! ### The edge's own figures (R55, R61) -/

theorem Still.judgeStep {before after : Nat} {d : Int} (h : Still a s) : Still a (s.judgeStep before after d) :=
  .ite h (.raise (.set (.ite (.set h) (.set h))))

theorem Still.closeTick (h : Still a s) : Still a s.closeTick := by
  refine .set (.foldl h fun {t} ht r hr => .set ht (by decide : 0 < 32) ?_)
  have hr' : r < 16 := List.mem_range.mp hr
  refine edgeSlot_eq_false ?_
  simp only [TK_USED.CYCLES]
  omega

end

end Sys2Proof.Machine

/-! ## The tick edge with nothing pending (R43 to R51, R71 to R76) -/

namespace Sys2Proof.Machine

open Reg Host

/-- Nothing waits for the edge: no change of rate, of ring 15's owner or of a ring's mode is pending, and no ring waits
or runs a program. -/
structure EdgeIdle (s : State) : Prop where
  ratePend : s.flag TK_STATUS.RATE_PEND = false
  ring15 : s.ring15 = ⟨false, false, false⟩
  queueMode : ∀ r < 16, s.resident r = false
  pend : ∀ r < 16, (s.ring r).pend = none
  noWaits : s.NoWaits

/-! ### Reaching the edge (R43, R44, R54) -/

/-- R43, R44: the state at the coming edge, its time and its count, the tick unit's own record being `x`. -/
def State.countedEdge (s : State) (x : TickState) : State :=
  { ((s.advanceTo (s.edgeAhead.1 * 100000000 + edgePlace (s.get TK_RATE.RATE) s.edgeAhead.2)).set
      TK_INDEX.INDEX s.edgeAhead.2).setTickCount (if s.tick.started then s.tickCount + 1 else 0) with tick := x }

/-- The count and the index are the only registers of the edge that reaching it changes. -/
theorem State.get_countedEdge {g : Field} (s : State) (x : TickState) (hlo : g.lo < 32)
    (hoff : g.off < 0x1010 ∨ 0x101C ≤ g.off) : (s.countedEdge x).get g = s.get g := by
  have hl : g.key ≠ TK_COUNTL.COUNT.key := by simp only [Field.key, TK_COUNTL.COUNT]; omega
  have hh : g.key ≠ TK_COUNTH.COUNT.key := by simp only [Field.key, TK_COUNTH.COUNT]; omega
  have hi : g.key ≠ TK_INDEX.INDEX.key := by simp only [Field.key, TK_INDEX.INDEX]; omega
  change (State.setTickCount _ _).get g = _
  rw [State.setTickCount, State.get_set_ne _ _ hl, State.get_set_ne _ _ hh, State.get_set_ne _ _ hi,
    State.get_advanceTo]

/-- R43: TK_COUNT is 32 bits over two registers. -/
theorem State.tickCount_setTickCount (s : State) (n : Nat) : (s.setTickCount n).tickCount = n % 2 ^ 32 := by
  have hk : TK_COUNTH.COUNT.key ≠ TK_COUNTL.COUNT.key := by decide
  rw [State.setTickCount, State.tickCount, State.get_set_ne _ _ hk, State.get_set_same, State.get_set_same]
  have hh : TK_COUNTH.COUNT.width = 8 := rfl
  have hl : TK_COUNTL.COUNT.width = 24 := rfl
  rw [hh, hl]
  omega

theorem State.tickCount_countedEdge (s : State) (x : TickState) :
    (s.countedEdge x).tickCount = if s.tick.started then (s.tickCount + 1) % 2 ^ 32 else 0 := by
  refine (State.tickCount_setTickCount _ _).trans ?_
  split
  · rfl
  · rfl

theorem State.index_countedEdge (s : State) (x : TickState) :
    (s.countedEdge x).get TK_INDEX.INDEX = s.edgeAhead.2 % 2 ^ 16 := by
  have hl : TK_INDEX.INDEX.key ≠ TK_COUNTL.COUNT.key := by decide
  have hh : TK_INDEX.INDEX.key ≠ TK_COUNTH.COUNT.key := by decide
  change (State.setTickCount _ _).get TK_INDEX.INDEX = _
  rw [State.setTickCount, State.get_set_ne _ _ hl, State.get_set_ne _ _ hh, State.get_set_same]
  rfl

/-- R54: time moves forward to the edge. -/
theorem State.now_countedEdge {s : State} (x : TickState)
    (h : s.now ≤ s.edgeAhead.1 * 100000000 + edgePlace (s.get TK_RATE.RATE) s.edgeAhead.2) :
    (s.countedEdge x).now = s.edgeAhead.1 * 100000000 + edgePlace (s.get TK_RATE.RATE) s.edgeAhead.2 := by
  change (State.advanceTo _ _).now = _
  rw [State.advanceTo, if_pos h]

theorem State.advanceTo_frame (s : State) (t : Nat) : (s.advanceTo t).rings = s.rings ∧ (s.advanceTo t).ring15 = s.ring15 ∧
    (s.advanceTo t).coreUp = s.coreUp ∧ (s.advanceTo t).sv = s.sv ∧ (s.advanceTo t).slots = s.slots := by
  obtain ⟨n, c, f, h⟩ := s.advanceTo_eq t
  rw [h]
  exact ⟨rfl, rfl, rfl, rfl, rfl⟩

/-- Reaching the edge leaves rings, the owner of ring 15, the core domain, Pavane and the memories alone. -/
theorem State.countedEdge_frame (s : State) (x : TickState) : (s.countedEdge x).rings = s.rings ∧
    (s.countedEdge x).ring15 = s.ring15 ∧ (s.countedEdge x).coreUp = s.coreUp ∧ (s.countedEdge x).sv = s.sv ∧
    (s.countedEdge x).slots = s.slots :=
  s.advanceTo_frame _

theorem State.ring_countedEdge (s : State) (x : TickState) (r : Nat) : (s.countedEdge x).ring r = s.ring r := by
  obtain ⟨hrings, -⟩ := s.countedEdge_frame x
  rw [State.ring, hrings, State.ring]

theorem State.edgeWaits_noWaits {s : State} (h : s.NoWaits) : (List.range 16).foldl State.edgeWait s = s :=
  foldl_stays _ fun r hr => by simp only [State.edgeWait, h r (List.mem_range.mp hr)]

theorem State.boundaryRate_idle {s : State} (h : s.flag TK_STATUS.RATE_PEND = false) : s.boundaryRate = s := by
  rw [State.boundaryRate, h]
  rfl

theorem EdgeIdle.noWaits_countedEdge {s : State} (h : EdgeIdle s) (x : TickState) : (s.countedEdge x).NoWaits :=
  fun r hr => by rw [s.ring_countedEdge x r, h.noWaits r hr]

/-- The waits at the edge find none, and the rate stays: what is left is R55's figures and their event. -/
theorem EdgeIdle.reachEdge {s : State} (h : EdgeIdle s) : ∃ x, Still (s.countedEdge x) s.reachEdge := by
  have hrate (x : TickState) : (s.countedEdge x).flag TK_STATUS.RATE_PEND = false := by
    rw [State.flag, s.get_countedEdge x (by decide) (by decide), ← State.flag, h.ratePend]
  unfold State.reachEdge
  split
  next sec n hedge =>
  extract_lets old at_ before first s1 s2 s3 changes s4 tps abs expected logged tick s6 s7
  have hcount : s1.tickCount = s.tickCount := by
    simp only [s1, State.tickCount]
    rw [State.get_set_ne _ _ (by decide), State.get_set_ne _ _ (by decide), State.get_advanceTo, State.get_advanceTo]
  have h2 : s2 = s.countedEdge s2.tick := by
    have hm : (if first = true then 0 else s1.tickCount + 1) = if s.tick.started then s.tickCount + 1 else 0 := by
      rw [hcount]
      cases hs : s.tick.started <;> simp [first, hs]
    simp only [State.countedEdge, hedge, ← hm]
    rfl
  have h3 : s3 = s2 := by
    rw [show s3 = (List.range 16).foldl State.edgeWait s2 from rfl, h2, State.edgeWaits_noWaits (h.noWaits_countedEdge _)]
  have h4 : s4 = s2 := by
    rw [show s4 = s3.when (n == 0) (·.boundaryRate) from rfl, h3, State.when]
    split
    · rw [h2, State.boundaryRate_idle (hrate _)]
    · rfl
  have h6 : s6 = s.countedEdge s6.tick := by
    rw [show s6 = { s4 with tick := s6.tick } from rfl, h4, h2]
    rfl
  have hstill : Still (s.countedEdge s6.tick) s6 := h6 ▸ .refl (h6 ▸ h.noWaits_countedEdge s6.tick)
  exact ⟨s6.tick, .when (.ite hstill (.judgeStep hstill)) .raise⟩

end Sys2Proof.Machine

/-! ## The load of the edge and the service of rings without work (R49, R50, R59) -/

namespace Sys2Proof.Machine

open Reg Host

/-! ### Judging with nothing pending (R72, R73, R76) -/

theorem State.rateRefusal_idle {s : State} (h : s.flag TK_STATUS.RATE_PEND = false) : s.rateRefusal = [] := by
  simp [State.rateRefusal, h]

theorem State.judgeTick_idle {s : State} (hown : s.ring15 = ⟨false, false, false⟩)
    (hpend : ∀ r < 16, (s.ring r).pend = none) : s.judgeTick [] = s := by
  have hmodes : (List.range 16).foldl State.applyMode s = s :=
    foldl_stays _ fun r hr => by simp only [State.applyMode, hpend r (List.mem_range.mp hr)]
  have hbinds : (List.range 16).filterMap s.bindRefusal = [] :=
    List.filterMap_eq_nil_iff.mpr fun r hr => by simp only [State.bindRefusal, hpend r (List.mem_range.mp hr)]
  have howner : s.judgeRing15 = none := by simp [State.judgeRing15, hown]
  simp only [State.judgeTick, hmodes, hbinds, howner, List.nil_append, State.violations, ← hown]

/-! ### The load (R49) -/

/-- R49: the credits, the snapshots of the tails and the initial spill. -/
def State.edgeLoaded (s : State) : State := ((List.range 16).foldl State.loadRing s).loadSpill

section
variable {a s t : State}

/-- The registers of a ring and its share are the edge's. -/
theorem edgeSlot_ring {r : Nat} (hr : r < 16) : edgeSlot (QU_TAIL.TAIL r).off = true ∧
    edgeSlot (QU_HEAD.HEAD r).off = true ∧ edgeSlot (QU_MODE.RES r).off = true ∧
    edgeSlot (TK_SHARE.SHARE r).off = true := by
  have hring {off : Nat} (h : 0x2100 ≤ off ∧ off < 0x2300 ∧ off % 32 < 12) : edgeSlot off = true := by
    simp [edgeSlot, h]
  refine ⟨hring ?_, hring ?_, hring ?_, ?_⟩
  · simp only [QU_TAIL.TAIL]
    omega
  · simp only [QU_HEAD.HEAD]
    omega
  · simp only [QU_MODE.RES]
    omega
  · have h : 0x1040 ≤ (TK_SHARE.SHARE r).off ∧ (TK_SHARE.SHARE r).off < 0x1080 := by
      simp only [TK_SHARE.SHARE]
      omega
    simp [edgeSlot, h]

theorem Still.tail (h : Still a s) {r : Nat} (hr : r < 16) : s.get (QU_TAIL.TAIL r) = a.get (QU_TAIL.TAIL r) :=
  h.regs _ (Nat.zero_lt_succ 31) (edgeSlot_ring hr).1

theorem Still.head (h : Still a s) {r : Nat} (hr : r < 16) : s.get (QU_HEAD.HEAD r) = a.get (QU_HEAD.HEAD r) :=
  h.regs _ (Nat.zero_lt_succ 31) (edgeSlot_ring hr).2.1

theorem Still.resident (h : Still a s) {r : Nat} (hr : r < 16) : s.resident r = a.resident r := by
  rw [State.resident, State.flag, h.regs _ (by simp only [QU_MODE.RES]; decide) (edgeSlot_ring hr).2.2.1, ← State.flag,
    ← State.resident]

theorem Still.shareCycles (h : Still a s) {r : Nat} (hr : r < 16) : s.shareCycles r = a.shareCycles r := by
  rw [State.shareCycles, h.regs _ (Nat.zero_lt_succ 31) (edgeSlot_ring hr).2.2.2,
    h.regs TK_CYCLES.CYCLES (by decide) (by decide), ← State.shareCycles]

/-- R49: what ring `r` holds at its edge. -/
def State.loaded (s : State) (r : Nat) : RingState :=
  { s.ring r with share := s.shareCycles r, credit := s.shareCycles r, used := 0, snap := s.get (QU_TAIL.TAIL r) }

theorem State.loadRing_eq (s : State) (r : Nat) : s.loadRing r = s.setRing r (s.loaded r) := (rfl)

theorem Still.loaded (h : Still a s) {r : Nat} (hr : r < 16) : s.loaded r = a.loaded r := by
  rw [State.loaded, h.ring r hr, h.shareCycles hr, h.tail hr, ← State.loaded]

theorem State.noWaits_loadRing (h : s.NoWaits) {r : Nat} (hr : r < 16) : (s.loadRing r).NoWaits := by
  intro r' hr'
  rw [State.loadRing_eq]
  by_cases e : r' = r
  · rw [e, State.ring_setRing_same]
    exact h r hr
  · rw [State.ring_setRing_ne s _ e, h r' hr']

theorem Still.loadRing (h : Still a s) {r : Nat} (hr : r < 16) : Still (a.loadRing r) (s.loadRing r) := by
  refine ⟨State.noWaits_loadRing h.noWaits hr, h.regs, fun r' hr' => ?_, h.tick, h.ring15, h.now, h.coreUp, h.pavane,
    h.slots⟩
  rw [State.loadRing_eq, State.loadRing_eq, h.loaded hr]
  by_cases e : r' = r
  · rw [e, State.ring_setRing_same, State.ring_setRing_same]
  · rw [State.ring_setRing_ne s _ e, State.ring_setRing_ne a _ e, h.ring r' hr']

theorem Still.loadRings (h : Still a s) (l : List Nat) (hl : ∀ r ∈ l, r < 16) :
    Still (l.foldl State.loadRing a) (l.foldl State.loadRing s) := by
  induction l generalizing a s with
  | nil => exact h
  | cons r l ih => exact ih (h.loadRing (hl r (List.mem_cons_self ..))) fun x hx => hl x (List.mem_cons_of_mem _ hx)

theorem Still.setSpill (h : Still a s) (n : Nat) : Still (a.setSpill n) (s.setSpill n) :=
  ⟨h.noWaits, h.regs, h.ring, congrArg (fun x => { x with spill := n }) h.tick, h.ring15, h.now, h.coreUp, h.pavane,
    h.slots⟩

/-- R49: what the rings' shares leave of the budget. -/
def State.freeSpill (s : State) : Nat := s.get TK_BUDGET.BUDGET - ((List.range 16).map fun r => (s.ring r).share).sum

theorem State.loadSpill_eq (s : State) : s.loadSpill = s.setSpill s.freeSpill := (rfl)

@[simp] theorem State.get_setSpill (s : State) (n : Nat) (g : Field) : (s.setSpill n).get g = s.get g := (rfl)
@[simp] theorem State.ring_setSpill (s : State) (n r : Nat) : (s.setSpill n).ring r = s.ring r := (rfl)
@[simp] theorem State.now_setSpill (s : State) (n : Nat) : (s.setSpill n).now = s.now := (rfl)
@[simp] theorem State.tick_setSpill (s : State) (n : Nat) : (s.setSpill n).tick = { s.tick with spill := n } := (rfl)

theorem Still.loadSpill (h : Still a s) : Still a.loadSpill s.loadSpill := by
  have hshares : ((List.range 16).map fun r => (s.ring r).share) = (List.range 16).map fun r => (a.ring r).share :=
    List.map_congr_left fun r hr => by rw [h.ring r (List.mem_range.mp hr)]
  have hfree : s.freeSpill = a.freeSpill := by
    rw [State.freeSpill, hshares, h.regs TK_BUDGET.BUDGET (by decide) (by decide), ← State.freeSpill]
  rw [State.loadSpill_eq, State.loadSpill_eq, hfree]
  exact h.setSpill _

theorem Still.edgeLoaded (h : Still a s) : Still a.edgeLoaded s.edgeLoaded :=
  (h.loadRings (List.range 16) fun _ hr => List.mem_range.mp hr).loadSpill

/-- Loading rings changes the rings alone. -/
theorem State.loadRings_frame (s : State) (l : List Nat) :
    l.foldl State.loadRing s = { s with rings := (l.foldl State.loadRing s).rings } :=
  foldl_keeps (fun t => t = { s with rings := t.rings }) State.loadRing
    (fun t r h => by rw [State.loadRing_eq, State.setRing, h]) l s rfl

/-- R49: each ring is loaded once, by what the edge found. -/
theorem State.ring_loadRings (s : State) {l : List Nat} (hl : l.Nodup) (r : Nat) :
    (l.foldl State.loadRing s).ring r = if r ∈ l then s.loaded r else s.ring r := by
  induction l generalizing s with
  | nil => rfl
  | cons x l ih =>
      obtain ⟨hx, hl⟩ := List.nodup_cons.mp hl
      rw [List.foldl_cons, ih _ hl]
      by_cases e : r = x
      · rw [if_neg (e ▸ hx), if_pos (e ▸ List.mem_cons_self ..), e, State.loadRing_eq, State.ring_setRing_same]
      · have hkept : (s.loadRing x).ring r = s.ring r := State.ring_setRing_ne s _ e
        have hloaded : (s.loadRing x).loaded r = s.loaded r := by
          rw [State.loaded, hkept]
          rfl
        rw [hloaded, hkept]
        simp only [List.mem_cons, e, false_or]

theorem State.ring_edgeLoaded (s : State) {r : Nat} (hr : r < 16) : s.edgeLoaded.ring r = s.loaded r := by
  rw [State.edgeLoaded, State.loadSpill_eq, State.ring_setSpill, s.ring_loadRings List.nodup_range r,
    if_pos (List.mem_range.mpr hr)]

theorem State.get_loadRings (s : State) (l : List Nat) (g : Field) : (l.foldl State.loadRing s).get g = s.get g := by
  rw [State.loadRings_frame, State.get, State.get]

theorem State.get_edgeLoaded (s : State) (g : Field) : s.edgeLoaded.get g = s.get g := by
  rw [State.edgeLoaded, State.loadSpill_eq, State.get_setSpill, State.get_loadRings]

theorem State.tickCount_edgeLoaded (s : State) : s.edgeLoaded.tickCount = s.tickCount := by
  rw [State.tickCount, State.get_edgeLoaded, State.get_edgeLoaded, ← State.tickCount]

/-- The load leaves the core domain, Pavane and the memories alone. -/
theorem State.edgeLoaded_frame (s : State) : s.edgeLoaded.coreUp = s.coreUp ∧ s.edgeLoaded.sv = s.sv ∧
    s.edgeLoaded.slots = s.slots := by
  have hspill (u : State) (n : Nat) : (u.setSpill n).coreUp = u.coreUp ∧ (u.setSpill n).sv = u.sv ∧
      (u.setSpill n).slots = u.slots := ⟨rfl, rfl, rfl⟩
  have hrings {u : State} (e : u = { s with rings := u.rings }) : u.coreUp = s.coreUp ∧ u.sv = s.sv ∧
      u.slots = s.slots := by
    rw [e]
    exact ⟨rfl, rfl, rfl⟩
  obtain ⟨hup, hsv, hslots⟩ := hspill ((List.range 16).foldl State.loadRing s) (State.freeSpill _)
  obtain ⟨hup', hsv', hslots'⟩ := hrings (s.loadRings_frame (List.range 16))
  rw [State.edgeLoaded, State.loadSpill_eq]
  exact ⟨hup.trans hup', hsv.trans hsv', hslots.trans hslots'⟩

theorem State.now_edgeLoaded (s : State) : s.edgeLoaded.now = s.now := by
  rw [State.edgeLoaded, State.loadSpill_eq, State.now_setSpill, State.loadRings_frame]

/-- R49: the initial spill is what the shares leave of the budget. -/
theorem State.spill_edgeLoaded (s : State) :
    s.edgeLoaded.tick.spill = s.get TK_BUDGET.BUDGET - ((List.range 16).map s.shareCycles).sum := by
  have hshares : ((List.range 16).map fun r => (((List.range 16).foldl State.loadRing s).ring r).share) =
      (List.range 16).map s.shareCycles := by
    refine List.map_congr_left fun r hr => ?_
    rw [s.ring_loadRings List.nodup_range r, if_pos hr, State.loaded]
  rw [State.edgeLoaded, State.loadSpill_eq, State.tick_setSpill, State.freeSpill, hshares, State.get_loadRings]

/-! ### The edge's cycle -/

theorem Still.idle (h : EdgeIdle s) {x : TickState} (ht : Still (s.countedEdge x) t) :
    t.ring15 = ⟨false, false, false⟩ ∧ ∀ r < 16, (t.ring r).pend = none := by
  obtain ⟨-, hown, -⟩ := s.countedEdge_frame x
  refine ⟨by rw [ht.ring15, hown, h.ring15], fun r hr => ?_⟩
  rw [ht.ring r hr, s.ring_countedEdge, h.pend r hr]

/-- With nothing pending the edge's cycle counts, and loads the rings. -/
theorem EdgeIdle.atEdge (h : EdgeIdle s) : ∃ x, Still (s.countedEdge x).edgeLoaded (s.atEdge none) := by
  obtain ⟨x, hreach⟩ := h.reachEdge
  have hclose : Still (s.countedEdge x) s.reachEdge.openLend.drainWindows.lkSettle.closeTick :=
    .closeTick (.lkSettle (.drainWindows (.openLend hreach)))
  obtain ⟨hown, hpend⟩ := hclose.idle h
  refine ⟨x, ?_⟩
  unfold State.atEdge
  dsimp only
  rw [State.rateRefusal_idle h.ratePend, State.judgeTick_idle hown hpend]
  exact .foldl hclose.edgeLoaded fun h _ _ => .cqEvaluate h

theorem State.advanceTo_withBatch (s : State) (t : Nat) (b : Option (List (Nat × Nat × Nat × Nat))) :
    ({ s with batch := b } : State).advanceTo t = { s.advanceTo t with batch := b } := by
  by_cases h : s.now ≤ t
  · rw [State.advanceTo, State.advanceTo, if_pos h, if_pos h]
    rfl
  · rw [State.advanceTo, State.advanceTo, if_neg h, if_neg h]

/-- The events a cycle gathers do not move its edge. -/
theorem State.countedEdge_withBatch (s : State) (x : TickState) (b : Option (List (Nat × Nat × Nat × Nat))) :
    ({ s with batch := b } : State).countedEdge x = { s.countedEdge x with batch := b } := by
  have h := s.advanceTo_withBatch (s.edgeAhead.1 * 100000000 + edgePlace (s.get TK_RATE.RATE) s.edgeAhead.2) b
  rw [State.countedEdge]
  exact (congrArg (fun u : State => { (u.set TK_INDEX.INDEX s.edgeAhead.2).setTickCount
    (if s.tick.started then s.tickCount + 1 else 0) with tick := x }) h)

/-- R331: the events of the cycle, raised at its end, change nothing of it. -/
theorem EdgeIdle.oneCycle (h : EdgeIdle s) :
    ∃ x, Still (s.countedEdge x).edgeLoaded (s.oneCycle (·.atEdge none)) := by
  unfold State.oneCycle
  split
  · exact h.atEdge
  · have hbatch : EdgeIdle { s with batch := some [] } :=
      ⟨h.ratePend, h.ring15, h.queueMode, h.pend, h.noWaits⟩
    obtain ⟨x, hx⟩ := hbatch.atEdge
    have hcounted : Still (s.countedEdge x) (({ s with batch := some [] } : State).countedEdge x) := by
      rw [s.countedEdge_withBatch x (some [])]
      exact .withBatch (.refl (h.noWaits_countedEdge x))
    exact ⟨x, .raiseAll (.withBatch (hcounted.edgeLoaded.trans hx))⟩

end

end Sys2Proof.Machine

/-! ## Rings without work (R50, R59) -/

namespace Sys2Proof.Machine

open Reg Host

section
variable {a s t : State}

/-- R49, R71: a ring in queue mode with no word between its head and the snapshot of its tail. -/
def State.Workless (s : State) (r : Nat) : Prop := s.resident r = false ∧ s.snapLeft r = 0

theorem State.Workless.not_ready {r : Nat} (h : s.Workless r) : s.headReady r = false := by
  obtain ⟨-, hleft⟩ := h
  simp [State.headReady, hleft]

/-- Whether a ring has work shows in its mode, its head and itself. -/
theorem State.Workless.congr {r : Nat} (h : s.Workless r) (hring : t.ring r = s.ring r)
    (hres : t.get (QU_MODE.RES r) = s.get (QU_MODE.RES r)) (hhead : t.get (QU_HEAD.HEAD r) = s.get (QU_HEAD.HEAD r)) :
    t.Workless r := by
  obtain ⟨hqueue, hleft⟩ := h
  constructor
  · rw [State.resident, State.flag, hres, ← State.flag, ← State.resident, hqueue]
  · rw [State.snapLeft, hring, hhead, ← State.snapLeft, hleft]

/-- R50: what is left of the credit of a ring without work spills down. -/
theorem serveRing_workless {r : Nat} (h : s.Workless r) :
    serveRing s r = ((s.calmRing r).setSpill (s.tick.spill + (s.ring r).credit)).setRing r
      { s.ring r with starveRun := 0, credit := 0 } := by
  obtain ⟨hqueue, -⟩ := id h
  have hcalm : (s.calmRing r).ring r = { s.ring r with starveRun := 0 } := State.ring_setRing_same s r _
  have htick : (s.calmRing r).tick = s.tick := (rfl)
  simp only [serveRing, hqueue, h.not_ready, hcalm, htick, if_false, Bool.false_eq_true]

/-- The rings `l` have been served and had no work: their credits are in the spill, and only they have changed. -/
structure Spilled (l : List Nat) (s t : State) : Prop where
  frame : t = { s with rings := t.rings, tick := t.tick }
  spill : t.tick.spill = s.tick.spill + (l.map fun r => (s.ring r).credit).sum
  wait : ∀ r, (t.ring r).wait = (s.ring r).wait
  ring : ∀ r, r ∉ l → t.ring r = s.ring r

theorem Spilled.get {l : List Nat} (h : Spilled l s t) (g : Field) : t.get g = s.get g := by
  rw [h.frame]
  rfl

theorem Spilled.serveRing {r : Nat} (h : s.Workless r) : Spilled [r] s (serveRing s r) := by
  rw [serveRing_workless h]
  have hring (r' : Nat) (hr : r' ≠ r) : (((s.calmRing r).setSpill (s.tick.spill + (s.ring r).credit)).setRing r
      { s.ring r with starveRun := 0, credit := 0 }).ring r' = s.ring r' := by
    rw [State.ring_setRing_ne _ _ hr, State.ring_setSpill, State.calmRing, State.ring_setRing_ne _ _ hr]
  refine ⟨rfl, ?_, fun r' => ?_, fun r' hr => hring r' (by simpa using hr)⟩
  · simp only [State.setRing_tick, State.tick_setSpill, List.map_cons, List.map_nil, List.sum_cons, List.sum_nil,
      Nat.add_zero]
  · by_cases e : r' = r
    · rw [e, State.ring_setRing_same]
    · rw [hring r' e]

/-- R50: rings without work, served one after another. -/
theorem Spilled.serveRings {l : List Nat} (hl : l.Nodup) (h : ∀ r ∈ l, s.Workless r) :
    Spilled l s (l.foldl Machine.serveRing s) := by
  induction l generalizing s with
  | nil => exact ⟨rfl, rfl, fun _ => rfl, fun _ _ => rfl⟩
  | cons r l ih =>
      obtain ⟨hr, hl⟩ := List.nodup_cons.mp hl
      have hfirst : Spilled [r] s (Machine.serveRing s r) := .serveRing (h r (List.mem_cons_self ..))
      have hkept (r' : Nat) (hr' : r' ∈ l) : (Machine.serveRing s r).ring r' = s.ring r' :=
        hfirst.ring r' (by rintro hmem; exact hr (List.mem_singleton.mp hmem ▸ hr'))
      have hrest : Spilled l (Machine.serveRing s r) (l.foldl Machine.serveRing (Machine.serveRing s r)) :=
        ih hl fun r' hr' => (h r' (List.mem_cons_of_mem _ hr')).congr (hkept r' hr') (hfirst.get _) (hfirst.get _)
      have hcredits : (l.map fun r' => ((Machine.serveRing s r).ring r').credit) = l.map fun r' => (s.ring r').credit :=
        List.map_congr_left fun r' hr' => by rw [hkept r' hr']
      rw [List.foldl_cons]
      refine ⟨hrest.frame.trans ?_, ?_, fun r' => (hrest.wait r').trans (hfirst.wait r'), fun r' hr' => ?_⟩
      · rw [hfirst.frame]
      · rw [hrest.spill, hcredits, hfirst.spill]
        simp only [List.map_cons, List.map_nil, List.sum_cons, List.sum_nil]
        omega
      · have hne : r' ≠ r := List.ne_of_not_mem_cons hr'
        rw [hrest.ring r' (List.not_mem_of_not_mem_cons hr'), hfirst.ring r' (by simpa using hne)]

theorem Spilled.noWaits {l : List Nat} (h : Spilled l s t) (hs : s.NoWaits) : t.NoWaits :=
  fun r hr => (h.wait r).trans (hs r hr)

/-! ### The edge with no work at all -/

theorem State.get_loadedEdge {g : Field} (s : State) (x : TickState) (hlo : g.lo < 32)
    (hoff : g.off < 0x1010 ∨ 0x101C ≤ g.off) : (s.countedEdge x).edgeLoaded.get g = s.get g := by
  rw [State.get_edgeLoaded, s.get_countedEdge x hlo hoff]

theorem State.head_loadedEdge (s : State) (x : TickState) (r : Nat) :
    (s.countedEdge x).edgeLoaded.get (QU_HEAD.HEAD r) = s.get (QU_HEAD.HEAD r) :=
  s.get_loadedEdge x (Nat.zero_lt_succ 31) (.inr (Nat.le_add_right_of_le (by decide)))

theorem State.resident_loadedEdge (s : State) (x : TickState) (r : Nat) :
    (s.countedEdge x).edgeLoaded.resident r = s.resident r := by
  rw [State.resident, State.flag, s.get_loadedEdge x (by simp only [QU_MODE.RES]; decide)
    (.inr (Nat.le_add_right_of_le (by decide))), ← State.flag, ← State.resident]

/-- R49: the snapshot is the tail at the edge. -/
theorem State.snap_loadedEdge (s : State) (x : TickState) {r : Nat} (hr : r < 16) :
    ((s.countedEdge x).edgeLoaded.ring r).snap = s.get (QU_TAIL.TAIL r) := by
  rw [State.ring_edgeLoaded _ hr, State.loaded]
  exact s.get_countedEdge x (Nat.zero_lt_succ 31) (.inr (Nat.le_add_right_of_le (by decide)))

/-- A ring that holds no word before its tail is loaded without work. -/
theorem EdgeIdle.workless_edgeLoaded (h : EdgeIdle s) (x : TickState) {r : Nat} (hr : r < 16)
    (hempty : s.get (QU_HEAD.HEAD r) = s.get (QU_TAIL.TAIL r)) : (s.countedEdge x).edgeLoaded.Workless r := by
  constructor
  · rw [s.resident_loadedEdge, h.queueMode r hr]
  · rw [State.snapLeft, s.snap_loadedEdge x hr, s.head_loadedEdge, hempty]
    omega

theorem Still.workless (h : Still a s) {r : Nat} (hr : r < 16) (hw : a.Workless r) : s.Workless r :=
  hw.congr (h.ring r hr) (h.regs _ (by simp only [QU_MODE.RES]; decide) (edgeSlot_ring hr).2.2.1) (h.head hr)

theorem Still.tickCount (h : Still a s) : s.tickCount = a.tickCount := by
  rw [State.tickCount, h.regs TK_COUNTH.COUNT (by decide) (by decide), h.regs TK_COUNTL.COUNT (by decide) (by decide),
    ← State.tickCount]

theorem Spilled.tickCount {l : List Nat} (h : Spilled l s t) : t.tickCount = s.tickCount := by
  rw [State.tickCount, h.get, h.get, ← State.tickCount]

theorem Spilled.now {l : List Nat} (h : Spilled l s t) : t.now = s.now := by
  rw [h.frame]

theorem State.shareCycles_countedEdge (s : State) (x : TickState) (r : Nat) :
    (s.countedEdge x).shareCycles r = s.shareCycles r := by
  rw [State.shareCycles, s.get_countedEdge x (by decide) (by decide),
    s.get_countedEdge x (Nat.zero_lt_succ 31) (.inr (Nat.le_add_right_of_le (by decide))), ← State.shareCycles]

/-- R49: the credits of the edge are the shares. -/
theorem Still.credits (h : Still (s.countedEdge x).edgeLoaded t) :
    ((List.range 16).map fun r => (t.ring r).credit) = (List.range 16).map s.shareCycles :=
  List.map_congr_left fun r hr => by
    rw [h.ring r (List.mem_range.mp hr), State.ring_edgeLoaded _ (List.mem_range.mp hr), State.loaded,
      s.shareCycles_countedEdge]

theorem Still.spill (h : Still (s.countedEdge x).edgeLoaded t) :
    t.tick.spill = s.get TK_BUDGET.BUDGET - ((List.range 16).map s.shareCycles).sum := by
  have hshares : (s.countedEdge x).shareCycles = s.shareCycles := funext (s.shareCycles_countedEdge x)
  rw [h.tick, State.spill_edgeLoaded, hshares, s.get_countedEdge x (by decide) (by decide)]

theorem tickEdge_eq (h : s.coreUp = true) : exec (.tickEdge none) s =
    .next ((List.range 16).foldl Machine.serveRing (s.oneCycle (·.atEdge none))).settleFences := by
  change execTickEdge none s = _
  simp [execTickEdge, tickEdge, State.ticking, h]

end

/-- Settles O15: the edge's cycle counts and loads the rings, and the service of sixteen rings without work spills
every credit; what else the edge does leaves these figures still. -/
theorem tickEdgeCounts : Obligations.TickEdgeCounts := by
  intro s hup hrate hown hrings hshares hnow
  have hidle : EdgeIdle s := ⟨hrate, hown, fun r hr => (hrings r hr).1, fun r hr => (hrings r hr).2.1,
    fun r hr => (hrings r hr).2.2.1⟩
  obtain ⟨x, hcycle⟩ := hidle.oneCycle
  have hserved : Spilled (List.range 16) (s.oneCycle (·.atEdge none))
      ((List.range 16).foldl serveRing (s.oneCycle (·.atEdge none))) :=
    .serveRings List.nodup_range fun r hr => by
      have hr' := List.mem_range.mp hr
      exact hcycle.workless hr' (hidle.workless_edgeLoaded x hr' (hrings r hr').2.2.2)
  have hlast := (Still.refl (hserved.noWaits hcycle.noWaits_right)).settleFences
  refine ⟨_, tickEdge_eq hup, ?_, ?_, ?_, ?_⟩
  · rw [hlast.tickCount, hserved.tickCount, hcycle.tickCount, State.tickCount_edgeLoaded, State.tickCount_countedEdge]
  · rw [hlast.regs TK_INDEX.INDEX (by decide) (by decide), hserved.get, hcycle.regs TK_INDEX.INDEX (by decide) (by decide),
      State.get_edgeLoaded, State.index_countedEdge]
  · rw [hlast.now, hserved.now, hcycle.now, State.now_edgeLoaded, State.now_countedEdge x hnow]
  · rw [hlast.tick, hserved.spill, hcycle.credits, hcycle.spill]
    omega

end Sys2Proof.Machine

/-! ## A ring with a ready NOP (R50, R71) -/

namespace Sys2Proof.Machine

open Reg Host

section
variable {s t u : State} {r : Nat}

/-- What decides whether ring `r` has work is as it was. -/
def SameRing (r : Nat) (s t : State) : Prop :=
  t.ring r = s.ring r ∧ t.get (QU_HEAD.HEAD r) = s.get (QU_HEAD.HEAD r) ∧
    t.get (QU_MODE.RES r) = s.get (QU_MODE.RES r)

theorem SameRing.trans (h : SameRing r s t) (h' : SameRing r t u) : SameRing r s u := by
  obtain ⟨hring, hhead, hmode⟩ := h
  obtain ⟨hring', hhead', hmode'⟩ := h'
  exact ⟨hring'.trans hring, hhead'.trans hhead, hmode'.trans hmode⟩

theorem SameRing.workless (h : SameRing r s t) (hw : s.Workless r) : t.Workless r := by
  obtain ⟨hring, hhead, hmode⟩ := h
  exact hw.congr hring hmode hhead

theorem SameRing.setRing {r' : Nat} (s : State) (x : RingState) (hne : r' ≠ r) : SameRing r' s (s.setRing r x) :=
  ⟨State.ring_setRing_ne s x hne, rfl, rfl⟩

theorem Still.sameRing (h : Still s t) (hr : r < 16) : SameRing r s t :=
  ⟨h.ring r hr, h.head hr, h.regs _ (by simp only [QU_MODE.RES]; decide) (edgeSlot_ring hr).2.2.1⟩

/-- R50, R71: ring `r` may execute, and its one ready instruction is a NOP that its credit or the spill covers. -/
structure NopReady (s : State) (r : Nat) : Prop where
  lt : r < 16
  noWaits : s.NoWaits
  up : s.coreUp = true
  pavane : s.sv.pavane = none
  queueMode : s.resident r = false
  head_lt : s.get (QU_HEAD.HEAD r) < 2 ^ 24
  snap : (s.ring r).snap = (s.get (QU_HEAD.HEAD r) + 1) % 2 ^ 24
  word : s.slot (0x40000 + r * 0x4000 + 4 * (s.get (QU_HEAD.HEAD r) % 4096)) = 0
  budget : 4 ≤ s.get TK_BUDGET.BUDGET
  covered : 4 ≤ (s.ring r).credit + s.tick.spill

/-! ### The charge and the admission (R50, R59) -/

/-- R50: a cost that the credit and the spill cover is charged, to ring `r`'s credit and the spill alone. -/
theorem State.charge_covered (s : State) (r c : Nat) (h : c ≤ (s.ring r).credit + s.tick.spill) :
    ∃ n k, s.charge r c = some ((s.setSpill n).setRing r { s.ring r with credit := k }) := by
  by_cases hcredit : c ≤ (s.ring r).credit
  · exact ⟨s.tick.spill, _, if_pos hcredit⟩
  · exact ⟨_, _, (if_neg hcredit).trans (if_pos h)⟩

/-- R59: an admission ends the ring's run of refusals, and raises at most an event. -/
theorem Still.admits (h : (s.setRing r { s.ring r with starveRun := 0 }).NoWaits) :
    Still (s.setRing r { s.ring r with starveRun := 0 }) (s.admits r) :=
  .ite (.raise (.set (.refl h))) (.refl h)

/-- Ring `r` has been charged and may execute its instruction: what it holds but for its credit and its run of refusals,
and what every other ring holds, is as it was in `s`. -/
structure Admitted (r : Nat) (s b : State) : Prop where
  ready : b.ringReady r = true
  queueMode : b.resident r = false
  ring : ∃ k, b.ring r = { s.ring r with credit := k, starveRun := 0 }
  head : b.get (QU_HEAD.HEAD r) = s.get (QU_HEAD.HEAD r)
  other : ∀ r' < 16, r' ≠ r → SameRing r' s b

theorem NopReady.admitted (h : NopReady s r) : ∃ c, s.charge r 4 = some c ∧ Admitted r s (c.admits r) := by
  obtain ⟨n, k, hcharge⟩ := s.charge_covered r 4 h.covered
  refine ⟨_, hcharge, ?_⟩
  generalize hc : (s.setSpill n).setRing r { s.ring r with credit := k } = c
  have hring : c.ring r = { s.ring r with credit := k } := by rw [← hc, State.ring_setRing_same]
  have hcalm : (c.setRing r { c.ring r with starveRun := 0 }).ring r = { s.ring r with credit := k, starveRun := 0 } := by
    rw [State.ring_setRing_same, hring]
  have hother (r' : Nat) (hne : r' ≠ r) : SameRing r' s (c.setRing r { c.ring r with starveRun := 0 }) := by
    have hspill : SameRing r' s (s.setSpill n) := ⟨rfl, rfl, rfl⟩
    rw [← hc]
    exact (hspill.trans (.setRing _ _ hne)).trans (.setRing _ _ hne)
  have hwaits : (c.setRing r { c.ring r with starveRun := 0 }).NoWaits := fun r' hr' => by
    by_cases e : r' = r
    · rw [e, hcalm]
      exact h.noWaits r h.lt
    · rw [(hother r' e).1, h.noWaits r' hr']
  have hstill : Still (c.setRing r { c.ring r with starveRun := 0 }) (c.admits r) := .admits hwaits
  have hup : (c.admits r).coreUp = true := hstill.coreUp.trans (by rw [← hc]; exact h.up)
  have hpavane : (c.admits r).sv.pavane = none := hstill.pavane.trans (by rw [← hc]; exact h.pavane)
  refine ⟨?_, ?_, ⟨k, ?_⟩, ?_, fun r' hr' hne => (hother r' hne).trans (hstill.sameRing hr')⟩
  · simp [State.ringReady, hup, hpavane, hstill.noWaits_right r h.lt]
  · rw [hstill.resident h.lt, ← hc]
    exact h.queueMode
  · rw [hstill.ring r h.lt, hcalm]
  · rw [hstill.head h.lt, ← hc]
    rfl

/-! ### NOP (R94, R105) -/

/-- R67, R89: a word 0 has no extension words. -/
theorem State.queued_zero (s : State) (r p : Nat) (h : s.slot (0x40000 + r * 0x4000 + 4 * (p % 4096)) = 0) :
    s.queued r p = (0, []) := by
  unfold State.queued
  extract_lets at_ w
  have hw : w = 0 := h
  rw [hw]
  rfl

/-- R94, R105: the word 0 is a NOP; it takes its word, and 4 cycles. -/
theorem State.runOpcode_zero (s : State) (r : Nat) (hready : s.ringReady r = true) :
    runOpcode (opcodeOf 0) (decodeOp r 0 []) s = (s.moveOn r 1).uses 4 := by
  change s.coreIssue (decodeOp r 0 []) 0 true id = _
  rw [State.coreIssue, show (decodeOp r 0 []).ring = r from rfl, if_pos hready]
  rfl

/-- R50, R71: the NOP of ring `r` has been executed, and every other ring is as it was in `s`. -/
structure NopDone (r : Nat) (s t : State) : Prop where
  head : t.get (QU_HEAD.HEAD r) = (s.get (QU_HEAD.HEAD r) + 1) % 2 ^ 24
  used : (t.ring r).used = (s.ring r).used + 4
  snap : (t.ring r).snap = (s.ring r).snap
  wait : (t.ring r).wait = (s.ring r).wait
  other : ∀ r' < 16, r' ≠ r → SameRing r' s t

theorem Admitted.nopDone {b : State} (h : Admitted r s b) :
    NopDone r s (((b.moveOn r 1).uses 4).refund r 4 4) := by
  have hmove : b.moveOn r 1 = b.set (QU_HEAD.HEAD r) (b.get (QU_HEAD.HEAD r) + 1) := by
    simp [State.moveOn, h.queueMode]
  obtain ⟨k, hring⟩ := h.ring
  have hdone : (((b.moveOn r 1).uses 4).refund r 4 4).ring r =
      { s.ring r with credit := k, starveRun := 0, used := (s.ring r).used + 4 } := by
    rw [State.refund, State.ring_setRing_same, State.ring_uses, hmove, State.ring_set, hring]
    rfl
  refine ⟨?_, by rw [hdone], by rw [hdone], by rw [hdone], fun r' hr' hne => (h.other r' hr' hne).trans ?_⟩
  · rw [State.refund, State.get_setRing, State.get_uses, hmove, State.get_set_same, h.head]
    rfl
  · have hhead : (QU_HEAD.HEAD r').key ≠ (QU_HEAD.HEAD r).key := by
      simp only [Field.key, QU_HEAD.HEAD]
      omega
    have hmode : (QU_MODE.RES r').key ≠ (QU_HEAD.HEAD r).key := by
      simp only [Field.key, QU_HEAD.HEAD, QU_MODE.RES]
      omega
    have hset : SameRing r' b ((b.moveOn r 1).uses 4) := by
      rw [hmove]
      exact ⟨rfl, State.get_set_ne b _ hhead, State.get_set_ne b _ hmode⟩
    exact hset.trans (.setRing _ _ hne)

/-! ### The service of the ring -/

theorem serveQueue_done {n : Nat} {admitted : Bool} (h : s.headReady r = false) : serveQueue r n admitted s = s := by
  cases n with
  | zero => rfl
  | succ n => simp [serveQueue, h]

theorem NopReady.snapLeft (h : NopReady s r) : s.snapLeft r = 1 := by
  have hlt := h.head_lt
  rw [State.snapLeft, h.snap]
  omega

/-- After its NOP the ring has reached the snapshot of its tail. -/
theorem NopDone.not_ready (h : NopReady s r) (hd : NopDone r s t) : t.headReady r = false := by
  have hleft : t.snapLeft r = 0 := by
    rw [State.snapLeft, hd.snap, hd.head, h.snap]
    omega
  simp [State.headReady, hleft]

theorem NopReady.headReady (h : NopReady s r) : s.headReady r = true := by
  simp [State.headReady, h.snapLeft, s.queued_zero r _ h.word]

theorem NopReady.ringReady (h : NopReady s r) : s.ringReady r = true := by
  simp [State.ringReady, h.up, h.pavane, h.noWaits r h.lt]

/-- R50: the queue of the ring is served: the NOP is admitted, executed, and nothing is left behind it. -/
theorem NopReady.nopDone_serveQueue (h : NopReady s r) {n : Nat} (hn : n ≠ 0) (admitted : Bool) :
    NopDone r s (serveQueue r n admitted s) := by
  obtain ⟨c, hcharge, hadmit⟩ := h.admitted
  have hdone := hadmit.nopDone
  have hfits : ¬ s.get TK_BUDGET.BUDGET < 4 := Nat.not_lt.mpr h.budget
  have hheld : s.heldAt (opcodeOf 0) (decodeOp r 0 []) = false := rfl
  have hcost : wcost (opcodeOf 0) (decodeOp r 0 []) = 4 := rfl
  have hcycles (u : State) : (u.uses 4).cycles = 4 := rfl
  obtain ⟨m, rfl⟩ := Nat.exists_eq_succ_of_ne_zero hn
  unfold serveQueue
  rw [h.headReady, h.ringReady, s.queued_zero r _ h.word]
  simp only [Bool.and_self, if_true, hheld, Bool.false_eq_true, if_false, hcost, hfits, hcharge,
    State.runOpcode_zero _ r hadmit.ready, hcycles, serveQueue_done (hdone.not_ready h)]
  exact hdone

/-- R50: what is left of the ring's credit spills down, which leaves its NOP done. -/
theorem NopDone.spillDown (h : NopDone r s t) (n : Nat) :
    NopDone r s ((t.setSpill n).setRing r { t.ring r with credit := 0 }) := by
  have hring : ((t.setSpill n).setRing r { t.ring r with credit := 0 }).ring r = { t.ring r with credit := 0 } :=
    State.ring_setRing_same _ r _
  refine ⟨h.head, by rw [hring, ← h.used], by rw [hring, ← h.snap], by rw [hring, ← h.wait],
    fun r' hr' hne => (h.other r' hr' hne).trans ?_⟩
  have hspill : SameRing r' t (t.setSpill n) := ⟨rfl, rfl, rfl⟩
  exact hspill.trans (.setRing _ _ hne)

theorem NopReady.nopDone_serveRing (h : NopReady s r) : NopDone r s (serveRing s r) := by
  have hdone : NopDone r s (serveQueue r 4097 false s) := h.nopDone_serveQueue (by decide) false
  simp only [serveRing, h.queueMode, h.headReady, Bool.false_eq_true, if_false, if_true]
  generalize serveQueue r 4097 false s = t at hdone ⊢
  exact hdone.spillDown _

theorem NopDone.noWaits (h : NopDone r s t) (hs : s.NoWaits) : t.NoWaits := fun r' hr' => by
  by_cases e : r' = r
  · rw [e, h.wait, hs r (e ▸ hr')]
  · obtain ⟨hring, -⟩ := h.other r' hr' e
    rw [hring, hs r' hr']

theorem Spilled.sameRing {l : List Nat} (h : Spilled l s t) (hr : r ∉ l) : SameRing r s t :=
  ⟨h.ring r hr, h.get _, h.get _⟩

/-- R50: credits that spill down take nothing from a ring that is still to be served. -/
theorem Spilled.nopReady {l : List Nat} (h : Spilled l s t) (hr : r ∉ l) (hs : NopReady s r) : NopReady t r := by
  have hring := h.ring r hr
  have hslot (off : Nat) : t.slot off = s.slot off := by
    rw [h.frame]
    rfl
  have hup : t.coreUp = s.coreUp := by rw [h.frame]
  have hsv : t.sv = s.sv := by rw [h.frame]
  have hcovered := hs.covered
  refine ⟨hs.lt, h.noWaits hs.noWaits, hup.trans hs.up, hsv ▸ hs.pavane, ?_, (h.get _).symm ▸ hs.head_lt, ?_, ?_,
    (h.get _).symm ▸ hs.budget, ?_⟩
  · rw [State.resident, State.flag, h.get, ← State.flag, ← State.resident, hs.queueMode]
  · rw [hring, h.get, hs.snap]
  · rw [hslot, h.get, hs.word]
  · rw [hring, h.spill]
    omega

end

/-- R50: of sixteen rings one has a NOP ready and the others have no work: served in their order, that ring has
executed it. -/
theorem NopReady.serveRings {s : State} {r : Nat} (h : NopReady s r)
    (hother : ∀ r' < 16, r' ≠ r → s.Workless r') :
    let t := (List.range 16).foldl serveRing s
    t.get (QU_HEAD.HEAD r) = (s.get (QU_HEAD.HEAD r) + 1) % 2 ^ 24 ∧ (t.ring r).used = (s.ring r).used + 4 ∧
      t.NoWaits := by
  obtain ⟨before, after, hsplit⟩ := List.append_of_mem (List.mem_range.mpr h.lt)
  obtain ⟨hbefore, hrest, hdisjoint⟩ := List.nodup_append'.mp (hsplit ▸ List.nodup_range (n := 16))
  obtain ⟨hafterR, hafter⟩ := List.nodup_cons.mp hrest
  have hbeforeR : r ∉ before := fun hr => hdisjoint hr (List.mem_cons_self ..)
  have hlt {r' : Nat} (hr' : r' ∈ before ++ r :: after) : r' < 16 := List.mem_range.mp (hsplit ▸ hr')
  have hfirst : Spilled before s (before.foldl serveRing s) := .serveRings hbefore fun r' hr' =>
    hother r' (hlt (List.mem_append_left _ hr')) (ne_of_mem_of_not_mem hr' hbeforeR)
  have hnop : NopDone r (before.foldl serveRing s) (serveRing (before.foldl serveRing s) r) :=
    (hfirst.nopReady hbeforeR h).nopDone_serveRing
  have hlast : Spilled after (serveRing (before.foldl serveRing s) r)
      (after.foldl serveRing (serveRing (before.foldl serveRing s) r)) := .serveRings hafter fun r' hr' => by
    have hlt' : r' < 16 := hlt (List.mem_append_right _ (List.mem_cons_of_mem _ hr'))
    have hne : r' ≠ r := ne_of_mem_of_not_mem hr' hafterR
    have hnot : r' ∉ before := fun hb => hdisjoint hb (List.mem_cons_of_mem _ hr')
    exact ((hfirst.sameRing hnot).trans (hnop.other r' hlt' hne)).workless (hother r' hlt' hne)
  rw [hsplit, List.foldl_append, List.foldl_cons]
  exact ⟨by rw [hlast.get, hnop.head, hfirst.get], by rw [hlast.ring r hafterR, hnop.used, hfirst.ring r hbeforeR],
    hlast.noWaits (hnop.noWaits (hfirst.noWaits h.noWaits))⟩

/-- R49: at an edge with nothing pending a ring with one NOP before its tail is loaded ready. -/
theorem EdgeIdle.nopReady {s t : State} {x : TickState} {r : Nat} (h : EdgeIdle s) (hr : r < 16) (hup : s.coreUp = true)
    (hpavane : s.sv.pavane = none) (ht : Still (s.countedEdge x).edgeLoaded t)
    (htail : s.get (QU_TAIL.TAIL r) = (s.get (QU_HEAD.HEAD r) + 1) % 2 ^ 24) (hhead : s.get (QU_HEAD.HEAD r) < 2 ^ 24)
    (hword : s.slot (0x40000 + r * 0x4000 + 4 * (s.get (QU_HEAD.HEAD r) % 4096)) = 0)
    (hbudget : 4 ≤ s.get TK_BUDGET.BUDGET)
    (hshares : ((List.range 16).map s.shareCycles).sum + 4 ≤ s.get TK_BUDGET.BUDGET) : NopReady t r := by
  have hheadT : t.get (QU_HEAD.HEAD r) = s.get (QU_HEAD.HEAD r) := by rw [ht.head hr, s.head_loadedEdge]
  obtain ⟨hupL, hsvL, hslotsL⟩ := (s.countedEdge x).edgeLoaded_frame
  obtain ⟨-, -, hupC, hsvC, hslotsC⟩ := s.countedEdge_frame x
  refine ⟨hr, ht.noWaits_right, ?_, ?_, ?_, hheadT ▸ hhead, ?_, ?_, ?_, ?_⟩
  · rw [ht.coreUp, hupL, hupC, hup]
  · rw [ht.pavane, hsvL, hsvC, hpavane]
  · rw [ht.resident hr, s.resident_loadedEdge, h.queueMode r hr]
  · rw [ht.ring r hr, s.snap_loadedEdge x hr, hheadT, htail]
  · rw [hheadT, ht.slots _ (by omega), State.slot, hslotsL, hslotsC, ← State.slot, hword]
  · rw [ht.regs TK_BUDGET.BUDGET (by decide) (by decide), s.get_loadedEdge x (by decide) (by decide)]
    exact hbudget
  · rw [ht.spill]
    omega

/-- Settles O16: the edge's cycle loads the ring ready, the service of the sixteen rings executes its NOP, and the PFENCEs
that settle afterwards leave it still. -/
theorem tickEdgeServes : Obligations.TickEdgeServes := by
  intro s r hr hup hpavane hrate hown hrings htail hhead hword hbudget hshares
  have hidle : EdgeIdle s := ⟨hrate, hown, fun r hr => (hrings r hr).1, fun r hr => (hrings r hr).2.1,
    fun r hr => (hrings r hr).2.2.1⟩
  obtain ⟨x, hcycle⟩ := hidle.oneCycle
  have hready : NopReady (s.oneCycle (·.atEdge none)) r :=
    hidle.nopReady hr hup hpavane hcycle htail hhead hword hbudget hshares
  obtain ⟨hserved, hused, hwaits⟩ := hready.serveRings fun r' hr' hne =>
    hcycle.workless hr' (hidle.workless_edgeLoaded x hr' ((hrings r' hr').2.2.2 hne))
  have hlast := (Still.refl hwaits).settleFences
  refine ⟨_, tickEdge_eq hup, ?_, ?_⟩
  · rw [hlast.head hr, hserved, hcycle.head hr, s.head_loadedEdge, htail]
  · rw [hlast.ring r hr, hused, hcycle.ring r hr, State.ring_edgeLoaded _ hr]
    rfl

end Sys2Proof.Machine

/-! ## Instruction words in a submission area (R67, R89) -/

namespace Sys2Proof.Machine

/-! ### Words placed and read back (R67) -/

/-- R67: the slot of ring `r`'s submission area that position `p` falls on. -/
def areaSlot (r p : Nat) : Nat := 0x40000 + r * 0x4000 + 4 * (p % 4096)

theorem State.submit_cons (s : State) (r p w : Nat) (ws : List Nat) :
    s.submit r p (w :: ws) = (s.setSlot (areaSlot r p) w).submit r (p + 1) ws := (rfl)

theorem State.queued_eq (s : State) (r p : Nat) : s.queued r p =
    (s.slot (areaSlot r p), (List.range (extOf (s.slot (areaSlot r p)))).map fun i => s.slot (areaSlot r (p + (i + 1)))) :=
  (rfl)

/-- Positions less than 4,096 words apart fall on slots of their own. -/
theorem areaSlot_ne {r p k : Nat} (hpos : 0 < k) (hk : k < 4096) : areaSlot r p ≠ areaSlot r (p + k) := by
  unfold areaSlot
  omega

/-- Words placed from `p` on change no slot but theirs. -/
theorem State.slot_submit_ne {r off : Nat} (ws : List Nat) (s : State) (p : Nat)
    (h : ∀ i < ws.length, off ≠ areaSlot r (p + i)) : (s.submit r p ws).slot off = s.slot off := by
  induction ws generalizing s p with
  | nil => rfl
  | cons w ws ih =>
      have hrest : ∀ i < ws.length, off ≠ areaSlot r (p + 1 + i) := fun i hi => by
        rw [Nat.add_assoc, Nat.add_comm 1 i]
        exact h (i + 1) (Nat.succ_lt_succ hi)
      rw [State.submit_cons, ih _ _ hrest]
      exact State.slot_setSlot_ne s w (h 0 (Nat.succ_pos _))

/-- R67: each of at most 4,096 words placed from `p` on is read at its own position. -/
theorem State.slot_submit {r : Nat} (ws : List Nat) (s : State) (p i : Nat) (hi : i < ws.length)
    (hlen : ws.length ≤ 4096) : (s.submit r p ws).slot (areaSlot r (p + i)) = ws[i] % 2 ^ 24 := by
  induction ws generalizing s p i with
  | nil => exact absurd hi (Nat.not_lt_zero i)
  | cons w ws ih =>
      rw [List.length_cons] at hi hlen
      rw [State.submit_cons]
      cases i with
      | zero =>
          have hother : ∀ i < ws.length, areaSlot r p ≠ areaSlot r (p + 1 + i) := fun i hi => by
            rw [Nat.add_assoc]
            exact areaSlot_ne (by omega) (by omega)
          exact (State.slot_submit_ne ws _ _ hother).trans (State.slot_setSlot_same s _ w)
      | succ i =>
          rw [← Nat.add_assoc p i 1, Nat.add_right_comm p i 1]
          exact ih _ (p + 1) i (Nat.lt_of_succ_lt_succ hi) (Nat.le_of_succ_le hlen)

/-- R67, R89: an instruction placed from `p` on, its first word telling the count of the others, is fetched whole. -/
theorem State.queued_submit (s : State) (r p : Nat) {w : Nat} {ext : List Nat} (hw : w < 2 ^ 24)
    (hext : ∀ e ∈ ext, e < 2 ^ 24) (hcount : extOf w = ext.length) (hlen : ext.length < 4096) :
    (s.submit r p (w :: ext)).queued r p = (w, ext) := by
  have hread (i : Nat) (hi : i < (w :: ext).length) :
      (s.submit r p (w :: ext)).slot (areaSlot r (p + i)) = (w :: ext)[i] := by
    rw [State.slot_submit _ s p i hi hlen]
    have hall : ∀ e ∈ w :: ext, e < 2 ^ 24 := List.forall_mem_cons.mpr ⟨hw, hext⟩
    exact Nat.mod_eq_of_lt (hall _ (List.getElem_mem hi))
  have hfirst : (s.submit r p (w :: ext)).slot (areaSlot r p) = w := hread 0 (Nat.succ_pos _)
  rw [State.queued_eq, hfirst, hcount]
  refine congrArg (Prod.mk w) (List.ext_getElem (by simp) fun i hi hi' => ?_)
  simpa using hread (i + 1) (Nat.succ_lt_succ hi')

/-! ### The fields of an instruction word (R89) -/

/-- R89: the first word of the instruction `opcode` with the fields of `op`. -/
def headWord (opcode : Nat) (op : Op) : Nat :=
  opcode * 2 ^ 18 + op.ext.length * 2 ^ 15 + op.dst * 2 ^ 12 + op.src * 2 ^ 9 + op.imm9

theorem encodeOp_eq (opcode : Nat) (op : Op) : encodeOp opcode op = headWord opcode op :: op.ext.map (·.toNat) := (rfl)

/-- R89: every field of a well-formed instruction lies in its own bits of the first word. -/
theorem headWord_fields {opcode : Nat} {op : Op} (hopcode : opcode < 64) (hwf : op.wf = true) :
    headWord opcode op < 2 ^ 24 ∧ opcodeOf (headWord opcode op) = opcode ∧
      extOf (headWord opcode op) = op.ext.length ∧ bitsOf (headWord opcode op) 12 3 = op.dst ∧
      bitsOf (headWord opcode op) 9 3 = op.src ∧ bitsOf (headWord opcode op) 0 9 = op.imm9 := by
  simp only [Op.wf, Bool.and_eq_true, decide_eq_true_eq] at hwf
  obtain ⟨⟨⟨⟨-, hdst⟩, hsrc⟩, himm⟩, hext⟩ := hwf
  simp only [headWord, opcodeOf, extOf, bitsOf]
  omega

/-- Extension words keep their values on the way through a slot. -/
theorem map_ofNat_map_toNat (ext : List Word) : (ext.map (·.toNat)).map (BitVec.ofNat 24) = ext := by
  rw [List.map_map]
  exact (List.map_congr_left fun w _ => by simp).trans (List.map_id ext)

/-- R89: the first word and the extension words of a well-formed instruction decode to it. -/
theorem decodeOp_headWord {opcode : Nat} {op : Op} (hopcode : opcode < 64) (hwf : op.wf = true) :
    decodeOp op.ring (headWord opcode op) (op.ext.map (·.toNat)) = op := by
  obtain ⟨-, -, -, hdst, hsrc, himm⟩ := headWord_fields hopcode hwf
  rw [decodeOp, hdst, hsrc, himm, map_ofNat_map_toNat]

/-- Settles O4: the words are fetched as they were placed, and each field is read from its own bits. -/
theorem instructionWordsDecode : Obligations.InstructionWordsDecode := by
  intro s p opcode op hopcode hwf
  obtain ⟨hword, hop, hcount, -⟩ := headWord_fields hopcode hwf
  have hext : ∀ e ∈ op.ext.map (·.toNat), e < 2 ^ 24 := List.forall_mem_map.mpr fun w _ => w.isLt
  have hlen : op.ext.length < 8 := by
    simp only [Op.wf, Bool.and_eq_true, decide_eq_true_eq] at hwf
    exact hwf.2
  have hfetch : (s.submit op.ring p (encodeOp opcode op)).queued op.ring p = (headWord opcode op, op.ext.map (·.toNat)) := by
    rw [encodeOp_eq]
    exact State.queued_submit s op.ring p hword hext (by rw [hcount, List.length_map]) (by rw [List.length_map]; omega)
  intro f
  have hf : f = (headWord opcode op, op.ext.map (·.toNat)) := hfetch
  rw [hf]
  exact ⟨hop, hcount, decodeOp_headWord hopcode hwf⟩

end Sys2Proof.Machine

/-! ## The aperture's base and enable (R63, R64) -/

namespace Sys2Proof.Machine

open Reg

/-- R63: the base that a write of `v` to part `part` leaves: the low byte, the high byte or the whole. -/
def newBase (part v old : Nat) : Nat :=
  match part with
  | 0 => old / 256 * 256 + v % 256
  | 1 => v % 256 * 256 + old % 256
  | _ => v % 65536

/-- R63, R64: while the aperture is closed, host and side-band write its base. -/
theorem apertureBaseWrite_closed (s : State) {w : Writer} (hw : w = .host ∨ w = .sideBand) (part v : Nat)
    (hclosed : s.flag QU_APCTL.EN = false) :
    apertureBaseWrite w part v s = some (s.set QU_APCTL.BASE (newBase part v (s.get QU_APCTL.BASE))) := by
  rcases hw with rfl | rfl <;> simp only [apertureBaseWrite, hclosed, Bool.false_and] <;> rfl

/-- R64: host and side-band open an aperture that fits, and close it at any time. -/
theorem apertureEnableWrite_accepted (s : State) {w : Writer} (hw : w = .host ∨ w = .sideBand) {en : Bool}
    (hfits : en = true → s.apertureFits (s.get QU_APCTL.BASE) = true) :
    apertureEnableWrite w en s = some (s.set QU_APCTL.EN (boolNat en)) := by
  have hjudged : (en && !s.apertureFits (s.get QU_APCTL.BASE)) = false := by
    cases en
    · rfl
    · simp [hfits rfl]
  rcases hw with rfl | rfl <;> simp [apertureEnableWrite, hjudged]

/-- R63: with the core domain up the command writes the new base. -/
theorem completes_apertureBaseWrite (s : State) {w : Writer} (hup : s.coreUp = true) (hw : w = .host ∨ w = .sideBand)
    (part v : Nat) (hclosed : s.flag QU_APCTL.EN = false) : Completes (.apertureBaseWrite w part v) s fun t =>
      t.get QU_APCTL.BASE = newBase part v (s.get QU_APCTL.BASE) % 65536 :=
  ⟨_, congrArg Host.Outcome.next (s.rowWrite_core _ w hup (apertureBaseWrite_closed s hw part v hclosed)),
    State.get_set_same s QU_APCTL.BASE _⟩

theorem completes_apertureEnableWrite (s : State) {w : Writer} (hup : s.coreUp = true) (hw : w = .host ∨ w = .sideBand)
    {en : Bool} (hfits : en = true → s.apertureFits (s.get QU_APCTL.BASE) = true) :
    Completes (.apertureEnableWrite w en) s fun t => t.flag QU_APCTL.EN = en :=
  ⟨_, congrArg Host.Outcome.next (s.rowWrite_core _ w hup (apertureEnableWrite_accepted s hw hfits)),
    flag_set_boolNat s rfl en⟩

/-- Settles O18: each part of the base is written with its bytes in their place, and the judgement of EN passes where the
aperture fits or closes. -/
theorem apertureResults : Obligations.ApertureResults := by
  intro s w hup hw
  refine ⟨fun v hclosed => ?_, fun hfits => completes_apertureEnableWrite s hup hw fun _ => hfits,
    completes_apertureEnableWrite s hup hw nofun⟩
  have hbase (part : Nat) := completes_apertureBaseWrite s hup hw part v hclosed
  have hwhole : newBase 2 v (s.get QU_APCTL.BASE) % 65536 = v % 65536 := Nat.mod_mod v 65536
  have hhigh : newBase 1 v (s.get QU_APCTL.BASE) % 65536 = v % 256 * 256 + s.get QU_APCTL.BASE % 256 := by
    rw [newBase]
    omega
  exact ⟨hwhole ▸ hbase 2, hhigh ▸ hbase 1, hbase 0⟩

end Sys2Proof.Machine

/-! ## Writes of the ring unit past the last ring (R68, R571, R572) -/

namespace Sys2Proof.Machine

open Reg

/-- R68: its owner's write of the present tail of a queue-mode ring is accepted and has no effect. -/
theorem doorbellWrite_present (s : State) {w : Writer} {r tail : Nat} (howns : s.ownsRing w r = true)
    (hres : s.resident r = false) (hroom : s.occupancy r ≤ 4096)
    (hpresent : (tail % 2 ^ 24 + 2 ^ 24 - s.get (QU_HEAD.HEAD r)) % 2 ^ 24 = s.occupancy r) :
    doorbellWrite w r tail s = some s := by
  simp only [doorbellWrite, howns, hres, hpresent]
  simp [hroom]

/-- R572: a slot of the always-on domain is up in every state. -/
theorem State.domainUp_alwaysOn (s : State) {off : Nat} (h : alwaysOn off = true) : s.domainUp off = true := by
  simp [State.domainUp, h]

/-- The place that the row of tails gives to ring 632, 0x7000, is a slot of the always-on domain, so at reset a write of
its present tail is no access to a domain that is down, and it is accepted. -/
theorem exec_doorbell_632_reset : exec (.doorbell .host 632 0) State.reset = .next State.reset := by
  have hhead : State.reset.get (QU_HEAD.HEAD 632) = 0 := State.get_reset (by decide)
  have htail : State.reset.get (QU_TAIL.TAIL 632) = 0 := State.get_reset (by decide)
  have hres : State.reset.resident 632 = false := by rw [State.resident, State.flag, State.get_reset (by decide)]; rfl
  have howner : State.reset.sideBandOwns15 = false := by
    rw [State.sideBandOwns15, State.flag, State.get_reset (by decide)]; rfl
  have howns : State.reset.ownsRing .host 632 = true := by
    simp [State.ownsRing, howner, show State.reset.ring15.seize = false from rfl]
  have hocc : State.reset.occupancy 632 = 0 := by rw [State.occupancy, hhead, htail]; decide
  have hwrite : doorbellWrite .host 632 0 State.reset = some State.reset :=
    doorbellWrite_present _ howns hres (by rw [hocc]; decide) (by rw [hhead, hocc]; decide)
  have hup : State.reset.domainUp (0x2100 + 32 * 632) = true := State.domainUp_alwaysOn _ (by decide)
  refine congrArg Host.Outcome.next ?_
  rw [doorbell, State.rowWrite_up _ _ _ hup, hwrite, State.orViolate_some]

/-- Refutes O17: its last clause bounds no ring number, and with the core domain down the tail of "ring 632" is no slot of
that domain. The write is accepted at reset, and the violation count stays 0. -/
theorem not_ringWriteResults : ¬ Obligations.RingWriteResults := by
  rintro ⟨-, hrefused⟩
  have hcount : State.reset.get SY_VIOLATIONS.COUNT = 0 := State.get_reset (by decide)
  obtain ⟨-, -, -, hdown⟩ := hrefused State.reset .host (by rw [hcount]; decide)
  obtain ⟨⟨t, ht, hviol, -⟩, -⟩ := hdown rfl 632 0
  cases exec_doorbell_632_reset.symm.trans ht
  rw [hcount] at hviol
  exact absurd hviol (by decide)

end Sys2Proof.Machine

/-! ## Words of the watch program (R89) -/

namespace Sys2Proof.Machine

/-- Settles O5: each word is taken apart into its fields. -/
theorem exampleWords : Obligations.ExampleWords := by
  unfold Obligations.ExampleWords
  decide

end Sys2Proof.Machine

/-! ## The issue of a core instruction (R71, R89, R94, R95) -/

namespace Sys2Proof.Machine

open Reg

theorem Op.src_lt_of_wf {op : Op} (h : op.wf = true) : op.src < 8 := by
  simp only [Op.wf, Bool.and_eq_true, decide_eq_true_eq] at h
  obtain ⟨⟨⟨-, hsrc⟩, -⟩, -⟩ := h
  exact hsrc

/-- The state in which a core instruction of a legal form does its work: its ring has moved on, and its cycles are
used. -/
def State.issued (s : State) (op : Op) (cost : Nat) : State := (s.moveOn op.ring (1 + op.ext.length)).uses cost

/-- R71, R95: a core instruction of a ready ring whose fields match a form, and which may be executed. -/
theorem State.coreIssue_legal {s : State} {op : Op} {opcode : Nat} {legal : Bool} (body : State → State)
    (hready : s.ringReady op.ring = true) (hform : op.coreForm opcode = true) (hlegal : legal = true) :
    s.coreIssue op opcode legal body = body (s.issued op (coreCost opcode op.ext.length true)) := by
  simp [State.coreIssue, State.issued, hready, hform, hlegal]

/-- R71, R95: the same instruction where it may not be executed retires as NOP. -/
theorem State.coreIssue_retired {s : State} {op : Op} {opcode : Nat} {legal : Bool} (body : State → State)
    (hready : s.ringReady op.ring = true) (hlegal : legal = false) :
    s.coreIssue op opcode legal body = (s.moveOn op.ring (1 + op.ext.length)).retire op.ring opcode := by
  simp [State.coreIssue, hready, hlegal]

/-- A register of the system block or of the tick unit is the head of no ring. -/
theorem key_ne_head {g : Field} (hoff : g.off < 0x2100) (hlo : g.lo < 32) (r : Nat) :
    g.key ≠ (QU_HEAD.HEAD r).key := by
  simp only [Field.key, QU_HEAD.HEAD]
  omega

/-- R71: until its work an instruction changes no register but its ring's head. -/
theorem State.get_issued {g : Field} (s : State) (op : Op) (cost : Nat) (h : g.key ≠ (QU_HEAD.HEAD op.ring).key) :
    (s.issued op cost).get g = s.get g := by
  rw [State.issued, State.get_uses, State.get_moveOn s _ _ h]

theorem State.get_issued_low {g : Field} (s : State) (op : Op) (cost : Nat) (hoff : g.off < 0x2100) (hlo : g.lo < 32) :
    (s.issued op cost).get g = s.get g :=
  s.get_issued op cost (key_ne_head hoff hlo op.ring)

theorem State.movedOn_issued (s : State) (op : Op) (cost : Nat) :
    MovedOn op.ring (1 + op.ext.length) s (s.issued op cost) := s.movedOn_moveOn _ _

theorem State.tickCount_issued (s : State) (op : Op) (cost : Nat) : (s.issued op cost).tickCount = s.tickCount := by
  rw [State.tickCount, State.tickCount, s.get_issued_low op cost (by decide) (by decide),
    s.get_issued_low op cost (by decide) (by decide)]

/-- R91: the registers of the sixteen contexts lie in the system block. -/
theorem context_off {r d : Nat} (hr : r < 16) (hd : d < 8) : (SY_CTX.G r d).off < 0x600 := by
  simp only [SY_CTX.G]
  omega

theorem State.greg_issued (s : State) {op : Op} (cost : Nat) (hr : op.ring < 16) {d : Nat} (hd : d < 8) :
    (s.issued op cost).greg op.ring d = s.greg op.ring d :=
  s.get_issued_low op cost (Nat.lt_trans (context_off hr hd) (by decide)) (Nat.zero_lt_succ 31)

/-- R93: the second operand does not depend on the ring's place. -/
theorem State.operandB_issued (s : State) {op : Op} (cost : Nat) (hwf : op.wf = true) :
    (s.issued op cost).operandB op = s.operandB op := by
  obtain ⟨hring, -⟩ := Op.lt_of_wf hwf
  simp only [State.operandB, s.greg_issued cost hring (Op.src_lt_of_wf hwf)]

/-- R71: a register of the system block, written, leaves the ring where it has moved to. -/
theorem MovedOn.set {r n : Nat} {s t : State} {f : Field} {v : Nat} (h : MovedOn r n s t) (hoff : f.off < 0x2100)
    (hlo : f.lo < 32) : MovedOn r n s (t.set f v) :=
  h.of_same (State.ring_set _ _ _ _) (State.get_set_ne _ _ (key_ne_head hoff hlo r).symm)

/-! ### LDI and MOV (R93, R94) -/

/-- R21: a two's complement code fits its field. -/
theorem ofSigned_lt (w : Nat) (i : Int) : ofSigned w i < 2 ^ w := by
  have hpos : (0 : Int) < (2 ^ w : Nat) := by exact_mod_cast Nat.two_pow_pos w
  have hnonneg := Int.emod_nonneg i (Int.ne_of_gt hpos)
  have hlt := Int.emod_lt_of_pos i hpos
  rw [ofSigned]
  omega

/-- R94: a load into a register of the ring's context. -/
theorem State.load_results (s : State) {op : Op} (cost v : Nat) (hwf : op.wf = true) :
    let t := (s.issued op cost).set (SY_CTX.G op.ring op.dst) v
    MovedOn op.ring (1 + op.ext.length) s t ∧ t.greg op.ring op.dst = v % 2 ^ 24 := by
  obtain ⟨hring, hdst⟩ := Op.lt_of_wf hwf
  exact ⟨(s.movedOn_issued op cost).set (Nat.lt_trans (context_off hring hdst) (by decide)) (Nat.zero_lt_succ 31),
    State.get_set_same _ _ _⟩

/-- Settles O6: both are loads, and what LDI loads fits its register. -/
theorem loadResults : Obligations.LoadResults := by
  intro s op hwf hready
  refine ⟨fun hform => ⟨_, rfl, ?_⟩, fun hform => ⟨_, rfl, ?_⟩⟩
  · rw [ldi, State.coreIssue_legal _ hready hform rfl]
    obtain ⟨hmoved, hload⟩ := s.load_results (coreCost 0x01 op.ext.length true) _ hwf
    refine ⟨hmoved, hload.trans (Nat.mod_eq_of_lt ?_)⟩
    split
    · exact ofSigned_lt 24 _
    · next w _ _ => exact w.isLt
  · rw [mov, State.coreIssue_legal _ hready hform rfl, s.operandB_issued _ hwf]
    exact s.load_results _ _ hwf

/-! ### The flags (R91, R92) -/

/-- The four flags of arithmetic share the slot of their ring's flags. -/
theorem State.get_setFlags {g : Field} (s : State) (r : Nat) (f : Nzcv) (hz : g.key ≠ (SY_FLAGS.Z r).key)
    (hn : g.key ≠ (SY_FLAGS.N r).key) (hc : g.key ≠ (SY_FLAGS.C r).key) (hv : g.key ≠ (SY_FLAGS.V r).key) :
    (s.setFlags r f).get g = s.get g := by
  simp only [State.setFlags, State.setFlag_eq]
  rw [State.get_set_ne _ _ hv, State.get_set_ne _ _ hc, State.get_set_ne _ _ hn, State.get_set_ne _ _ hz]

theorem State.flag_set_ne {s : State} {f g : Field} {v : Nat} (h : g.key ≠ f.key) : (s.set f v).flag g = s.flag g := by
  rw [State.flag, State.get_set_ne s v h, State.flag]

/-- R92: each flag reads what it was set to. -/
theorem State.flags_setFlags (s : State) (r : Nat) (f : Nzcv) :
    (s.setFlags r f).flag (SY_FLAGS.Z r) = f.z ∧ (s.setFlags r f).flag (SY_FLAGS.N r) = f.n ∧
      (s.setFlags r f).flag (SY_FLAGS.C r) = f.c ∧ (s.setFlags r f).flag (SY_FLAGS.V r) = f.v := by
  have hzn : (SY_FLAGS.Z r).key ≠ (SY_FLAGS.N r).key := by simp [Field.key, SY_FLAGS.Z, SY_FLAGS.N]
  have hzc : (SY_FLAGS.Z r).key ≠ (SY_FLAGS.C r).key := by simp [Field.key, SY_FLAGS.Z, SY_FLAGS.C]
  have hzv : (SY_FLAGS.Z r).key ≠ (SY_FLAGS.V r).key := by simp [Field.key, SY_FLAGS.Z, SY_FLAGS.V]
  have hnc : (SY_FLAGS.N r).key ≠ (SY_FLAGS.C r).key := by simp [Field.key, SY_FLAGS.N, SY_FLAGS.C]
  have hnv : (SY_FLAGS.N r).key ≠ (SY_FLAGS.V r).key := by simp [Field.key, SY_FLAGS.N, SY_FLAGS.V]
  have hcv : (SY_FLAGS.C r).key ≠ (SY_FLAGS.V r).key := by simp [Field.key, SY_FLAGS.C, SY_FLAGS.V]
  simp only [State.setFlags, State.setFlag_eq]
  refine ⟨?_, ?_, ?_, flag_set_boolNat _ rfl _⟩
  · rw [State.flag_set_ne hzv, State.flag_set_ne hzc, State.flag_set_ne hzn, flag_set_boolNat _ rfl]
  · rw [State.flag_set_ne hnv, State.flag_set_ne hnc, flag_set_boolNat _ rfl]
  · rw [State.flag_set_ne hcv, flag_set_boolNat _ rfl]

/-- R91: no register of the contexts lies among the flags. -/
theorem State.greg_setFlags (s : State) (f : Nzcv) {r d : Nat} (hr : r < 16) (hd : d < 8) :
    (s.setFlags r f).greg r d = s.greg r d := by
  refine s.get_setFlags r f ?_ ?_ ?_ ?_ <;>
    simp only [Field.key, SY_CTX.G, SY_FLAGS.Z, SY_FLAGS.N, SY_FLAGS.C, SY_FLAGS.V] <;> omega

/-- R92: the flags set, the ring stands where it has moved to. -/
theorem MovedOn.setFlags {r n : Nat} {s t : State} {f : Nzcv} (h : MovedOn r n s t) (hr : r < 16) :
    MovedOn r n s (t.setFlags r f) := by
  refine h.of_same rfl (t.get_setFlags r f ?_ ?_ ?_ ?_) <;>
    simp only [Field.key, QU_HEAD.HEAD, SY_FLAGS.Z, SY_FLAGS.N, SY_FLAGS.C, SY_FLAGS.V] <;> omega

/-- R92: what an instruction leaves that writes `v` to its destination and sets the flags to `f`. -/
theorem State.result_setFlags (s : State) {op : Op} (cost v : Nat) (f : Nzcv) (hwf : op.wf = true) :
    let t := ((s.issued op cost).set (SY_CTX.G op.ring op.dst) v).setFlags op.ring f
    MovedOn op.ring (1 + op.ext.length) s t ∧ t.greg op.ring op.dst = v % 2 ^ 24 ∧
      t.flag (SY_FLAGS.Z op.ring) = f.z ∧ t.flag (SY_FLAGS.N op.ring) = f.n ∧
      t.flag (SY_FLAGS.C op.ring) = f.c ∧ t.flag (SY_FLAGS.V op.ring) = f.v := by
  obtain ⟨hring, hdst⟩ := Op.lt_of_wf hwf
  obtain ⟨hmoved, hload⟩ := s.load_results cost v hwf
  exact ⟨hmoved.setFlags hring, (State.greg_setFlags _ f hring hdst).trans hload, State.flags_setFlags _ _ f⟩

/-! ### The values of the flags (R92) -/

theorem signFlag_eq (r : Nat) : signFlag r = bitOf r 23 := by
  rw [signFlag, bitOf, Bool.eq_iff_iff, decide_eq_true_eq, beq_iff_eq]
  omega

theorem signFlag_mod (r : Nat) : signFlag r = bitOf (r % 2 ^ 24) 23 := by
  rw [← signFlag_eq, signFlag, signFlag, Nat.mod_mod]

/-- R21: a code stands for its value modulo 2²⁴. -/
theorem toSigned_emod (n : Nat) : toSigned 24 n % 16777216 = (n : Int) % 16777216 := by
  simp only [toSigned, Nat.reducePow, Nat.reduceSub]
  split_ifs <;> omega

/-- R92: 24 bits do not hold `i` where its code modulo 2²⁴ stands for another value. -/
theorem overflows_eq {r : Nat} {i : Int} (h : (r : Int) % 16777216 = i % 16777216) :
    overflows i = decide (toSigned 24 r ≠ i) := by
  rw [Bool.eq_iff_iff]
  simp only [overflows, toSigned, Nat.reducePow, Nat.reduceSub, Bool.or_eq_true, decide_eq_true_eq, Int.reducePow]
  split_ifs <;> omega

theorem toSigned_mod (n : Nat) : toSigned 24 (n % 2 ^ 24) = toSigned 24 n := by
  rw [toSigned, toSigned, Nat.mod_mod]

/-- R92: V of a sum says that its 24 bits do not stand for the exact sum. -/
theorem overflows_add (a b : Nat) : overflows (toSigned 24 a + toSigned 24 b) =
    decide (toSigned 24 (add24 a b) ≠ toSigned 24 a + toSigned 24 b) := by
  have ha := toSigned_emod a
  have hb := toSigned_emod b
  refine overflows_eq ?_
  simp only [add24, Nat.reducePow]
  omega

/-- R92: V of a difference likewise. -/
theorem overflows_sub (a b : Nat) : overflows (toSigned 24 a - toSigned 24 b) =
    decide (toSigned 24 (sub24 a b) ≠ toSigned 24 a - toSigned 24 b) := by
  have ha := toSigned_emod a
  have hb := toSigned_emod b
  refine overflows_eq ?_
  simp only [sub24, Nat.reducePow]
  omega

/-- R92: a difference is zero where the operands agree. -/
theorem difference_eq_zero (a b : Nat) :
    (a % 2 ^ 24 + 2 ^ 24 - b % 2 ^ 24) % 2 ^ 24 = 0 ↔ a % 2 ^ 24 = b % 2 ^ 24 := by
  omega

/-- R92: the sum, with the flags that ADD sets. -/
theorem addFlags_eq (a b : Nat) :
    let r := (a % 2 ^ 24 + b % 2 ^ 24) % 2 ^ 24
    add24 a b % 2 ^ 24 = r ∧ addFlags a b = ⟨decide (r = 0), bitOf r 23, decide (2 ^ 24 ≤ a % 2 ^ 24 + b % 2 ^ 24),
      decide (toSigned 24 r ≠ toSigned 24 (a % 2 ^ 24) + toSigned 24 (b % 2 ^ 24))⟩ := by
  have hsum : add24 a b = (a % 2 ^ 24 + b % 2 ^ 24) % 2 ^ 24 := Nat.add_mod a b _
  rw [addFlags, zeroFlag, signFlag_mod, overflows_add, toSigned_mod, toSigned_mod, hsum, Nat.mod_mod]
  exact ⟨rfl, rfl⟩

/-- R92: the difference, with the flags that SUB and CMP set. -/
theorem subFlags_eq (a b : Nat) :
    let r := (a % 2 ^ 24 + 2 ^ 24 - b % 2 ^ 24) % 2 ^ 24
    sub24 a b % 2 ^ 24 = r ∧ subFlags a b = ⟨decide (r = 0), bitOf r 23, decide (a % 2 ^ 24 < b % 2 ^ 24),
      decide (toSigned 24 r ≠ toSigned 24 (a % 2 ^ 24) - toSigned 24 (b % 2 ^ 24))⟩ := by
  have hdiff : sub24 a b = (a % 2 ^ 24 + 2 ^ 24 - b % 2 ^ 24) % 2 ^ 24 := (rfl)
  rw [subFlags, zeroFlag, signFlag_mod, overflows_sub, toSigned_mod, toSigned_mod, hdiff, Nat.mod_mod]
  exact ⟨rfl, rfl⟩

/-- R92: the flags that AND and OR set from their result. -/
theorem logicFlags_eq (r : Nat) : logicFlags r = ⟨decide (r % 2 ^ 24 = 0), bitOf (r % 2 ^ 24) 23, false, false⟩ := by
  rw [logicFlags, zeroFlag, signFlag_mod]

section
variable {s : State} {op : Op}

/-- R92: ADD writes the sum of its operands as they stood before it. -/
theorem add_eq_issued (hwf : op.wf = true) (hready : s.ringReady op.ring = true) (hform : op.coreForm 0x03 = true) :
    add op s = ((s.issued op (coreCost 0x03 op.ext.length true)).set (SY_CTX.G op.ring op.dst)
      (add24 (s.greg op.ring op.dst) (s.operandB op))).setFlags op.ring
        (addFlags (s.greg op.ring op.dst) (s.operandB op)) := by
  obtain ⟨hring, hdst⟩ := Op.lt_of_wf hwf
  rw [add, State.coreIssue_legal _ hready hform rfl, s.greg_issued _ hring hdst, s.operandB_issued _ hwf]

/-- R92: SUB writes their difference. -/
theorem sub_eq_issued (hwf : op.wf = true) (hready : s.ringReady op.ring = true) (hform : op.coreForm 0x04 = true) :
    sub op s = ((s.issued op (coreCost 0x04 op.ext.length true)).set (SY_CTX.G op.ring op.dst)
      (sub24 (s.greg op.ring op.dst) (s.operandB op))).setFlags op.ring
        (subFlags (s.greg op.ring op.dst) (s.operandB op)) := by
  obtain ⟨hring, hdst⟩ := Op.lt_of_wf hwf
  rw [sub, State.coreIssue_legal _ hready hform rfl, s.greg_issued _ hring hdst, s.operandB_issued _ hwf]

/-- R92: AND writes their conjunction, bit by bit. -/
theorem andInstr_eq_issued (hwf : op.wf = true) (hready : s.ringReady op.ring = true)
    (hform : op.coreForm 0x05 = true) :
    andInstr op s = ((s.issued op (coreCost 0x05 op.ext.length true)).set (SY_CTX.G op.ring op.dst)
      (s.greg op.ring op.dst &&& s.operandB op)).setFlags op.ring
        (logicFlags (s.greg op.ring op.dst &&& s.operandB op)) := by
  obtain ⟨hring, hdst⟩ := Op.lt_of_wf hwf
  rw [andInstr, State.coreIssue_legal _ hready hform rfl, s.greg_issued _ hring hdst, s.operandB_issued _ hwf]

/-- R92: OR writes their disjunction. -/
theorem orInstr_eq_issued (hwf : op.wf = true) (hready : s.ringReady op.ring = true)
    (hform : op.coreForm 0x06 = true) :
    orInstr op s = ((s.issued op (coreCost 0x06 op.ext.length true)).set (SY_CTX.G op.ring op.dst)
      (s.greg op.ring op.dst ||| s.operandB op)).setFlags op.ring
        (logicFlags (s.greg op.ring op.dst ||| s.operandB op)) := by
  obtain ⟨hring, hdst⟩ := Op.lt_of_wf hwf
  rw [orInstr, State.coreIssue_legal _ hready hform rfl, s.greg_issued _ hring hdst, s.operandB_issued _ hwf]

/-- R92: CMP sets the flags of SUB and writes no register. -/
theorem cmp_eq_issued (hwf : op.wf = true) (hready : s.ringReady op.ring = true) (hform : op.coreForm 0x07 = true) :
    cmp op s = (s.issued op (coreCost 0x07 op.ext.length true)).setFlags op.ring
      (subFlags (s.greg op.ring op.dst) (s.operandB op)) := by
  obtain ⟨hring, hdst⟩ := Op.lt_of_wf hwf
  rw [cmp, State.coreIssue_legal _ hready hform rfl, s.greg_issued _ hring hdst, s.operandB_issued _ hwf]

end

/-- Settles O7: each instruction writes its result and sets its flags, whose values are the lemmas above. -/
theorem arithmeticResults : Obligations.ArithmeticResults := by
  refine ⟨fun s op hwf hready => ⟨fun hform => ⟨_, rfl, ?_⟩, fun hform => ⟨_, rfl, ?_⟩⟩,
    fun s op hwf hready => ⟨fun hform => ⟨_, rfl, ?_⟩, fun hform => ⟨_, rfl, ?_⟩, fun hform => ⟨_, rfl, ?_⟩⟩⟩
  · obtain ⟨hsum, hflags⟩ := addFlags_eq (s.greg op.ring op.dst) (s.operandB op)
    rw [add_eq_issued hwf hready hform, hflags, ← hsum]
    exact s.result_setFlags _ _ _ hwf
  · obtain ⟨hdiff, hflags⟩ := subFlags_eq (s.greg op.ring op.dst) (s.operandB op)
    rw [sub_eq_issued hwf hready hform, hflags, ← hdiff]
    exact s.result_setFlags _ _ _ hwf
  · rw [andInstr_eq_issued hwf hready hform, ← Nat.and_mod_two_pow, logicFlags_eq]
    exact (s.result_setFlags _ _ _ hwf).2
  · rw [orInstr_eq_issued hwf hready hform, ← Nat.or_mod_two_pow, logicFlags_eq]
    exact (s.result_setFlags _ _ _ hwf).2
  · obtain ⟨hring, hdst⟩ := Op.lt_of_wf hwf
    obtain ⟨-, hflags⟩ := subFlags_eq (s.greg op.ring op.dst) (s.operandB op)
    rw [cmp_eq_issued hwf hready hform, hflags, decide_eq_decide.mpr (difference_eq_zero _ _)]
    exact ⟨(State.greg_setFlags _ _ hring hdst).trans (s.greg_issued _ hring hdst), State.flags_setFlags _ _ _⟩

end Sys2Proof.Machine

/-! ## NOP, BR and LOOP (R94, R96, R97) -/

namespace Sys2Proof.Machine

open Reg

/-- R94: the form of NOP has no extension word. -/
theorem Op.ext_length_of_nop {op : Op} (h : op.coreForm 0x00 = true) : op.ext.length = 0 := by
  simp only [Op.coreForm, Bool.and_eq_true, beq_iff_eq] at h
  obtain ⟨⟨⟨hn, -⟩, -⟩, -⟩ := h
  exact hn

/-- R96: nor has the form of BR. -/
theorem Op.ext_length_of_br {op : Op} (h : op.coreForm 0x08 = true) : op.ext.length = 0 := by
  simp only [Op.coreForm, Bool.and_eq_true, beq_iff_eq] at h
  obtain ⟨hn, -⟩ := h
  exact hn

/-- R97: the form of LOOP has one extension word, and names one of four counters. -/
theorem Op.of_loop {op : Op} (h : op.coreForm 0x09 = true) : op.ext.length = 1 ∧ op.dst < 4 := by
  simp only [Op.coreForm, Bool.and_eq_true, beq_iff_eq, decide_eq_true_eq] at h
  obtain ⟨⟨⟨⟨⟨hn, hdst⟩, -⟩, -⟩, -⟩, -⟩ := h
  exact ⟨hn, hdst⟩

/-! ### NOP and BR -/

/-- R71: a ring keeps its mode as it moves on. -/
theorem State.resident_moveOn (s : State) (r n : Nat) : (s.moveOn r n).resident r = s.resident r := by
  have hne : (QU_MODE.RES r).key ≠ (QU_HEAD.HEAD r).key := by
    simp only [Field.key, QU_MODE.RES, QU_HEAD.HEAD]
    omega
  rw [State.resident, State.flag, State.get_moveOn s r n hne, State.resident, State.flag]

/-- R71: two moves of a ring are one. -/
theorem MovedOn.moveOn {r m : Nat} {s t : State} (h : MovedOn r m s t) (hmode : t.resident r = s.resident r) (n : Nat) :
    MovedOn r (m + n) s (t.moveOn r n) := by
  have hnext := t.movedOn_moveOn r n
  unfold MovedOn at h hnext ⊢
  rw [hmode] at hnext
  split
  · next hres =>
    rw [if_pos hres] at h hnext
    omega
  · next hres =>
    rw [if_neg hres] at h hnext
    omega

/-- R96: the condition of a BR stands at its place of the table. -/
theorem State.condition_eq (s : State) (r : Nat) {dst : Nat} (hdst : dst < 8) :
    s.condition r dst = [true, s.flag (SY_FLAGS.Z r), !s.flag (SY_FLAGS.Z r), s.flag (SY_FLAGS.C r),
      !s.flag (SY_FLAGS.C r), s.flag (SY_FLAGS.N r) != s.flag (SY_FLAGS.V r),
      s.flag (SY_FLAGS.N r) == s.flag (SY_FLAGS.V r), s.flag (SY_FLAGS.T r)].getD dst true := by
  interval_cases dst <;> rfl

/-- R96: a BR is executed where its offset is from 1 to 255 and a taken target lies within the snapshot. -/
theorem State.branchLegal_iff (s : State) (op : Op) : s.branchLegal op = true ↔
    1 ≤ op.imm9 ∧ op.imm9 ≤ 255 ∧
      ¬ (s.condition op.ring op.dst = true ∧ s.resident op.ring = false ∧ s.snapLeft op.ring < op.imm9) := by
  rw [State.branchLegal]
  cases s.condition op.ring op.dst <;> cases s.resident op.ring <;> simp [and_assoc]

/-- R96: an executed BR moves to its target where it is taken, and to the next word where it is not. -/
theorem br_executed {s : State} {op : Op} (hready : s.ringReady op.ring = true) (hform : op.coreForm 0x08 = true)
    (hlegal : s.branchLegal op = true) :
    MovedOn op.ring (if s.condition op.ring op.dst then op.imm9 else 1) s (br op s) := by
  obtain ⟨hoffset, -⟩ := (s.branchLegal_iff op).mp hlegal
  have hmoved := s.movedOn_issued op (coreCost 0x08 op.ext.length true)
  rw [Op.ext_length_of_br hform] at hmoved
  rw [br, State.coreIssue_legal _ hready hform hlegal, Op.ext_length_of_br hform]
  cases s.condition op.ring op.dst with
  | false => exact hmoved
  | true =>
      have htarget := hmoved.moveOn (s.resident_moveOn _ _) (op.imm9 - 1)
      rwa [Nat.add_zero, Nat.add_sub_cancel' hoffset] at htarget

/-- R7, R95, R96: a BR that may not be executed retires as NOP. -/
theorem br_retired {s : State} {op : Op} (hready : s.ringReady op.ring = true) (hform : op.coreForm 0x08 = true)
    (hlegal : s.branchLegal op = false) (hcount : s.get SY_VIOLATIONS.COUNT < 2 ^ 24 - 1) :
    MovedOn op.ring 1 s (br op s) ∧ (br op s).get SY_VIOLATIONS.COUNT = s.get SY_VIOLATIONS.COUNT + 1 := by
  obtain ⟨hvc, hvl⟩ := head_ne_violation op.ring
  have hkept : (s.moveOn op.ring 1).get SY_VIOLATIONS.COUNT = s.get SY_VIOLATIONS.COUNT := s.get_moveOn _ _ hvc.symm
  rw [br, State.coreIssue_retired _ hready hlegal, Op.ext_length_of_br hform]
  constructor
  · exact (s.movedOn_moveOn _ _).of_same (State.ring_retire _ _ _ _) (State.get_retire _ _ _ hvc hvl)
  · rw [State.count_retire _ _ _ (by rwa [hkept]), hkept]

/-! ### LOOP -/

/-- R97: what a LOOP of a resident program does to its counter and its ring's place. -/
theorem loop_results {s : State} {op : Op} (hready : s.ringReady op.ring = true) (hform : op.coreForm 0x09 = true)
    (hres : s.resident op.ring = true) (hlen : (s.ring op.ring).lc.length = 4) :
    let left := s.loopCount op.ring op.dst
    let n := (if left = 0 then op.word 1 else left) - 1
    (loop op s).loopCount op.ring op.dst = n ∧
      ((loop op s).ring op.ring).pc =
        if n = 0 then (s.ring op.ring).pc + 2 else ofSigned 14 (((s.ring op.ring).pc : Int) + imm9Signed op.imm9) := by
  obtain ⟨hext, hdst⟩ := Op.of_loop hform
  have hring : (s.issued op (coreCost 0x09 1 true)).ring op.ring =
      { s.ring op.ring with pc := (s.ring op.ring).pc + 2 } := by
    rw [State.issued, State.ring_uses, State.moveOn, if_pos hres, State.ring_setRing_same, hext]
  have hleft : (s.issued op (coreCost 0x09 1 true)).loopCount op.ring op.dst = s.loopCount op.ring op.dst := by
    rw [State.loopCount, hring, State.loopCount]
  rw [loop, State.coreIssue_legal _ hready hform hres, hext]
  dsimp only
  rw [hleft]
  generalize (if s.loopCount op.ring op.dst = 0 then op.word 1 else s.loopCount op.ring op.dst) - 1 = n
  have hset : ((s.issued op (coreCost 0x09 1 true)).setLoopCount op.ring op.dst n).ring op.ring =
      { s.ring op.ring with pc := (s.ring op.ring).pc + 2, lc := (s.ring op.ring).lc.set op.dst n } := by
    rw [State.setLoopCount, State.setMaskBit_eq, State.ring_set, State.ring_setRing_same, hring]
  have hcounter : ((s.ring op.ring).lc.set op.dst n).getD op.dst 0 = n := by
    simp [List.getD_eq_getElem?_getD, hlen, hdst]
  split
  · rw [State.loopCount, hset]
    exact ⟨hcounter, rfl⟩
  · rw [State.loopCount, State.ring_setRing_same, hset]
    exact ⟨hcounter, rfl⟩

/-- Settles O8: NOP is moved on by its word; BR goes by `branchLegal_iff`; LOOP by its counter. -/
theorem flowResults : Obligations.FlowResults := by
  intro s op hwf hready
  obtain ⟨-, hdst⟩ := Op.lt_of_wf hwf
  refine ⟨fun hform => ⟨_, rfl, ?_⟩, ?_, fun hform hres hlen => ⟨_, rfl, loop_results hready hform hres hlen⟩⟩
  · have hmoved := s.movedOn_issued op (coreCost 0x00 op.ext.length true)
    rw [Op.ext_length_of_nop hform] at hmoved
    rwa [nop, State.coreIssue_legal _ hready hform rfl, Op.ext_length_of_nop hform]
  · dsimp only
    rw [← s.condition_eq op.ring hdst]
    refine fun hform => ⟨fun hlo hhi hwithin => ⟨_, rfl, ?_⟩, fun hbad hcount => ⟨_, rfl, ?_⟩⟩
    · exact br_executed hready hform ((s.branchLegal_iff op).mpr ⟨hlo, hhi, hwithin⟩)
    · refine br_retired hready hform (Bool.eq_false_iff.mpr fun hlegal => ?_) hcount
      obtain ⟨hlo, hhi, hwithin⟩ := (s.branchLegal_iff op).mp hlegal
      rcases hbad with hbad | hbad | hbad
      · omega
      · omega
      · exact hwithin hbad

end Sys2Proof.Machine

/-! ## The waits and their ends (R98, R99, R109) -/

namespace Sys2Proof.Machine

open Reg

/-! ### A match (R99) -/

/-- What each step on another member than `a` keeps, and a step on `a` turns into what every step keeps, the fold
reaches. -/
theorem foldl_reaches_mem {α β : Type} {p q : β → Prop} {f : β → α → β} {a : α} {l : List α} (ha : a ∈ l)
    (hp : ∀ b, ∀ x ∈ l, x ≠ a → p b → p (f b x)) (hstep : ∀ b, p b → q (f b a)) (hq : ∀ b, ∀ x ∈ l, q b → q (f b x))
    {b : β} (hb : p b) : q (l.foldl f b) := by
  induction l generalizing b with
  | nil => exact absurd ha List.not_mem_nil
  | cons x l ih =>
      have hkeep : ∀ b, q b → q (l.foldl f b) := fun b hb =>
        List.foldlRecOn (motive := q) l f hb fun b hb y hy => hq b y (List.mem_cons_of_mem _ hy) hb
      by_cases hx : x = a
      · rw [List.foldl_cons, hx]
        exact hkeep _ (hstep b hb)
      · exact ih ((List.mem_cons.mp ha).resolve_left fun h => hx h.symm)
          (fun b y hy => hp b y (List.mem_cons_of_mem _ hy)) (fun b y hy => hq b y (List.mem_cons_of_mem _ hy))
          (hp b x (List.mem_cons_self ..) hx hb)

/-- R99: ring `r` has its match: its number stands in register `d` of its context, T is clear, and it resumes. -/
def Matched (r d seq : Nat) (t : State) : Prop :=
  (t.ring r).wait = .resume ∧ t.flag (SY_FLAGS.T r) = false ∧ t.greg r d = seq % 2 ^ 24

/-- R99, R109: ring `r`, which is not frozen, waits for an event of `code`, with `d` for its number. -/
def Awaits (r d code : Nat) (t : State) : Prop :=
  t.sv.pavane = none ∧ ∃ since limit, (t.ring r).wait = .event code since limit d

section
variable {s t : State} {r d code seq : Nat}

theorem matched_waiteMatch (s : State) (seq : Nat) (hd : d < 8) :
    Matched r d seq (s.waiteMatch r seq d) := by
  have hne : (SY_CTX.G r d).key ≠ (SY_FLAGS.T r).key := by
    simp only [Field.key, SY_CTX.G, SY_FLAGS.T]
    omega
  rw [Matched, State.waiteMatch, State.ring_setRing_same, Nat.mod_eq_of_lt hd]
  refine ⟨rfl, ?_, ?_⟩
  · rw [State.flag, State.get_setRing, State.get_set_same]
    rfl
  · rw [State.greg, State.get_setRing, State.get_set_ne _ _ hne, State.get_set_same]
    rfl

/-- A register outside the system block is neither T nor a register of a context. -/
theorem Matched.set {f : Field} {v : Nat} (h : Matched r d seq t) (hr : r < 16) (hd : d < 8)
    (hoff : 0x1000 ≤ f.off := by decide) : Matched r d seq (t.set f v) := by
  have hT : (SY_FLAGS.T r).key ≠ f.key := by
    simp only [Field.key, SY_FLAGS.T]
    omega
  have hG : (SY_CTX.G r d).key ≠ f.key := by
    simp only [Field.key, SY_CTX.G]
    omega
  rw [Matched, State.ring_set, State.flag_set_ne hT, State.greg, State.get_set_ne _ _ hG]
  exact h

theorem Matched.when {b : Bool} {f : State → State} (h : Matched r d seq t) (hf : Matched r d seq (f t)) :
    Matched r d seq (t.when b f) := by
  cases b
  · exact h
  · exact hf

/-- R99: a ring that has its match takes no other, and no ring writes into another's context. -/
theorem Matched.matchRing (h : Matched r d seq t) (hd : d < 8) (code seq' : Nat) {r' : Nat} (hr' : r' < 16) :
    Matched r d seq (State.matchRing code seq' t r') := by
  obtain ⟨hwait, hT, hG⟩ := h
  unfold State.matchRing
  split
  · next hevent =>
    have hne : r ≠ r' := by
      rintro rfl
      rw [hwait] at hevent
      cases hevent
    split
    · have hTT : (SY_FLAGS.T r).key ≠ (SY_FLAGS.T r').key := by
        simp only [Field.key, SY_FLAGS.T]
        omega
      have hTG (e : Nat) : (SY_FLAGS.T r).key ≠ (SY_CTX.G r' (e % 8)).key := by
        simp only [Field.key, SY_FLAGS.T, SY_CTX.G]
        omega
      have hGT : (SY_CTX.G r d).key ≠ (SY_FLAGS.T r').key := by
        simp only [Field.key, SY_FLAGS.T, SY_CTX.G]
        omega
      have hGG (e : Nat) : (SY_CTX.G r d).key ≠ (SY_CTX.G r' (e % 8)).key := by
        simp only [Field.key, SY_CTX.G]
        omega
      rw [Matched, State.waiteMatch, State.ring_setRing_ne _ _ hne, State.flag, State.greg, State.get_setRing,
        State.get_setRing, State.get_set_ne _ _ hTT, State.get_set_ne _ _ (hTG _), State.get_set_ne _ _ hGT,
        State.get_set_ne _ _ (hGG _)]
      exact ⟨hwait, hT, hG⟩
    · exact ⟨hwait, hT, hG⟩
  · exact ⟨hwait, hT, hG⟩

theorem Matched.matchRings (h : Matched r d seq t) (hd : d < 8) (code seq' : Nat) :
    Matched r d seq ((List.range 16).foldl (State.matchRing code seq') t) :=
  List.foldlRecOn (motive := Matched r d seq) _ _ h fun _ hb _ hr' =>
    hb.matchRing hd code seq' (List.mem_range.mp hr')

theorem Matched.logPush (h : Matched r d seq t) (hr : r < 16) (hd : d < 8) (e : LogEntry) :
    Matched r d seq (t.logPush e) := by
  have hlog {u : State} {l : List LogEntry} (hu : Matched r d seq u) : Matched r d seq { u with log := l } := hu
  unfold State.logPush
  split
  · exact hlog h
  · exact hlog (.set (.when h (.set h hr hd)) hr hd)

theorem Matched.pendUnit (h : Matched r d seq t) (hr : r < 16) (hd : d < 8) (u : Nat) :
    Matched r d seq (t.pendUnit u) :=
  .when h (.set h hr hd)

/-- R331, R332: the log takes no match away. -/
theorem Matched.logEvent (h : Matched r d seq t) (hr : r < 16) (hd : d < 8) (e : LogEntry) :
    Matched r d seq (t.logEvent e) := by
  unfold State.logEvent
  split
  · exact .pendUnit (.logPush h hr hd e) hr hd _
  · split
    · exact .set h hr hd
    · split
      · exact .set (.set h hr hd) hr hd
      · split
        · exact .pendUnit (.set (.logPush (.matchRings (.set (.set h hr hd) hr hd) hd _ _) hr hd _) hr hd) hr hd _
        · exact .pendUnit (.logPush h hr hd e) hr hd _

theorem Awaits.set {f : Field} {v : Nat} (h : Awaits r d code t) : Awaits r d code (t.set f v) := by
  rwa [Awaits, State.set_sv, State.ring_set]

/-- R99: the match of another ring leaves a ring waiting. -/
theorem Awaits.matchRing (h : Awaits r d code t) (raised seq : Nat) {r' : Nat} (hne : r' ≠ r) :
    Awaits r d code (State.matchRing raised seq t r') := by
  obtain ⟨hpavane, since, limit, hwait⟩ := h
  unfold State.matchRing
  split
  · split
    · refine ⟨hpavane, since, limit, ?_⟩
      rw [State.waiteMatch, State.ring_setRing_ne _ _ hne.symm]
      exact hwait
    · exact ⟨hpavane, since, limit, hwait⟩
  · exact ⟨hpavane, since, limit, hwait⟩

/-- R99: a raised event of the awaited code is the match of the ring that waits for it. -/
theorem Awaits.matched (h : Awaits r d code t) (hd : d < 8) {raised : Nat} (seq : Nat)
    (hcode : eventMatches code raised = true) : Matched r d seq (State.matchRing raised seq t r) := by
  obtain ⟨hpavane, since, limit, hwait⟩ := h
  have hmatch : (eventMatches code raised && !t.frozen) = true := by simp [State.frozen, hpavane, hcode]
  rw [State.matchRing, hwait]
  dsimp only
  rw [if_pos hmatch]
  exact matched_waiteMatch t seq hd

/-- R99, R331: every event of the awaited code is a match, logged or not. -/
theorem Awaits.matched_raise (h : Awaits r d code t) (hr : r < 16) (hd : d < 8) (hup : t.coreUp = true)
    (hbatch : t.batch = none) {raised : Nat} (hcode : eventMatches code raised = true) (w5 w6 w7 : Nat) :
    Matched r d (t.get TM_EVSEQ.SEQ) (t.raise raised w5 w6 w7) := by
  have hstart : Awaits r d code (t.add TM_EVSEQ.SEQ 1) := h.set
  rw [State.raise_eq t _ _ _ _ hbatch, State.raiseFrom, if_pos hup]
  dsimp only
  refine Matched.logEvent (foldl_reaches_mem (List.mem_range.mpr hr) ?_ ?_ ?_ hstart) hr hd _
  · exact fun b _ _ hne hb => hb.matchRing raised _ hne
  · exact fun b hb => hb.matched hd _ hcode
  · exact fun b _ hx hb => hb.matchRing hd raised _ (List.mem_range.mp hx)

end

/-! ### WAITT and WAITE (R98, R99) -/

/-- R98: a WAITT holds its ring for at least a tick. -/
theorem wait_waitt {s : State} {op : Op} (hready : s.ringReady op.ring = true) (hmode : s.resident op.ring = false)
    (hform : op.coreForm 0x0A = true) : ((waitt op s).ring op.ring).wait =
      .ticks ((s.tickCount + max (if op.ext = [] then op.imm9 else op.word 1) 1) % 2 ^ 32) := by
  rw [waitt, State.coreIssue_legal _ hready hform (by rw [hmode]; rfl), State.ring_setRing_same,
    s.tickCount_issued]
  cases hext : op.ext with
  | nil => rfl
  | cons w l => simp [Op.word, hext]

/-- R99: a WAITE waits for events numbered from the next one on. -/
theorem wait_waite {s : State} {op : Op} (hring : op.ring < 16) (hready : s.ringReady op.ring = true)
    (hmode : s.resident op.ring = false) (hform : op.coreForm 0x0B = true) : ((waite op s).ring op.ring).wait =
      .event (op.word 1) (s.get TM_EVSEQ.SEQ)
        (if op.imm9 = 0 then none else some ((s.tickCount + op.imm9) % 2 ^ 32)) op.dst := by
  have hne : TM_EVSEQ.SEQ.key ≠ (QU_HEAD.HEAD op.ring).key := by
    simp only [Field.key, TM_EVSEQ.SEQ, QU_HEAD.HEAD]
    omega
  rw [waite, State.coreIssue_legal _ hready hform (by rw [hmode]; rfl), State.ring_setRing_same,
    s.tickCount_issued, s.get_issued _ _ hne]

/-- A ring that waits is not ready. -/
theorem State.ringReady_waiting {s : State} {r : Nat} (h : (s.ring r).wait ≠ .none) : s.ringReady r = false := by
  simp [State.ringReady, h]

/-! ### The ends of the waits (R98, R99, R109) -/

section
variable {u : State} {r : Nat}

theorem waittExpiry_at (hpavane : u.sv.pavane = none) (hwait : (u.ring r).wait = .ticks u.tickCount) :
    ((waittExpiry r u).ring r).wait = .none := by
  rw [waittExpiry, hwait]
  dsimp only
  rw [if_pos ⟨rfl, by simp [State.frozen, hpavane]⟩, State.ring_setRing_same]

theorem waittExpiry_before {target : Nat} (hwait : (u.ring r).wait = .ticks target)
    (h : target ≠ u.tickCount ∨ u.sv.pavane.isSome = true) : waittExpiry r u = u := by
  rw [waittExpiry, hwait]
  refine if_neg ?_
  rintro ⟨hat, hfrozen⟩
  exact h.elim (fun hne => hne hat) hfrozen

theorem waiteTimeout_at {code since d : Nat} (hpavane : u.sv.pavane = none)
    (hwait : (u.ring r).wait = .event code since (some u.tickCount) d) :
    ((waiteTimeout r u).ring r).wait = .none ∧ (waiteTimeout r u).flag (SY_FLAGS.T r) = true := by
  rw [waiteTimeout, hwait]
  dsimp only
  rw [if_pos ⟨rfl, by simp [State.frozen, hpavane]⟩, State.ring_setRing_same, State.flag, State.get_setRing,
    State.get_set_same]
  exact ⟨rfl, rfl⟩

theorem waiteTimeout_before {code since d : Nat} {limit : Option Nat}
    (hwait : (u.ring r).wait = .event code since limit d) (h : limit ≠ some u.tickCount ∨ u.sv.pavane.isSome = true) : waiteTimeout r u = u := by
  rw [waiteTimeout, hwait]
  cases limit with
  | none => rfl
  | some target =>
      refine if_neg ?_
      rintro ⟨rfl, hfrozen⟩
      exact h.elim (fun hne => hne rfl) hfrozen

theorem matched_waiteMatchEvent {code since seq d : Nat} {limit : Option Nat} (hd : d < 8)
    (hpavane : u.sv.pavane = none) (hwait : (u.ring r).wait = .event code since limit d)
    (hraised : u.raisedFor code since seq = true) : Matched r d seq (waiteMatchEvent r seq u) := by
  rw [waiteMatchEvent, hwait]
  dsimp only
  rw [if_pos (by simp [State.frozen, hpavane, hraised])]
  exact matched_waiteMatch u seq hd

theorem waiteMatchEvent_unraised {code since seq d : Nat} {limit : Option Nat}
    (hwait : (u.ring r).wait = .event code since limit d) (hraised : u.raisedFor code since seq = false) :
    waiteMatchEvent r seq u = u := by
  rw [waiteMatchEvent, hwait]
  dsimp only
  rw [if_neg (by simp [hraised])]

end

/-- Settles O9: each wait is what its instruction leaves, and each of its ends is the lemma above that names it. -/
theorem waitResults : Obligations.WaitResults := by
  intro s op hwf hready hmode
  obtain ⟨hring, hdst⟩ := Op.lt_of_wf hwf
  refine ⟨fun hform => ⟨_, rfl, ?_⟩, fun hform => ⟨_, rfl, wait_waite hring hready hmode hform⟩,
    fun u code since target seq limit => ⟨fun hpavane hwait => ⟨_, rfl, waittExpiry_at hpavane hwait⟩,
      fun hwait h => ⟨_, rfl, waittExpiry_before hwait h⟩,
      fun hpavane hwait => ⟨_, rfl, waiteTimeout_at hpavane hwait⟩,
      fun hwait h => ⟨_, rfl, waiteTimeout_before hwait h⟩, fun hpavane hwait => ⟨fun hraised => ⟨_, rfl, ?_⟩,
        fun hraised => ⟨_, rfl, waiteMatchEvent_unraised hwait hraised⟩, fun raised w5 w6 w7 hup hbatch hcode => ?_⟩⟩⟩
  · have hwait := wait_waitt hready hmode hform
    exact ⟨hwait, State.ringReady_waiting (by rw [hwait]; nofun)⟩
  · exact matched_waiteMatchEvent hdst hpavane hwait hraised
  · exact Awaits.matched_raise ⟨hpavane, since, limit, hwait⟩ hring hdst hup hbatch hcode w5 w6 w7

end Sys2Proof.Machine

/-! ## SIGNAL and FENCE (R80, R82, R100, R101) -/

namespace Sys2Proof.Machine

open Reg

section
variable {s : State}

/-- R71: a ring is ready while the core domain is up and it waits for nothing. -/
theorem State.of_ringReady {r : Nat} (h : s.ringReady r = true) : s.coreUp = true ∧ (s.ring r).wait = .none := by
  simp only [State.ringReady, Bool.and_eq_true, decide_eq_true_eq] at h
  obtain ⟨⟨hup, hwait⟩, -⟩ := h
  exact ⟨hup, hwait⟩

/-! ### A completion in an arbitrary queue -/

/-- R82: a reservation does not move its ring. -/
theorem State.pc_reserve (s : State) (r : Nat) : ((s.reserve r).ring r).pc = (s.ring r).pc := by
  unfold State.reserve
  split
  · rw [State.ring_setRing_same]
  · rw [State.cqUnhold, State.setMaskBit_eq, State.ring_set, State.ring_dropHeld, State.cqReserve, State.add_eq,
      State.ring_set]

/-- R80: an entry moves no ring and ends no wait. -/
theorem State.ring_cqWrite (s : State) (c : OpRef) (status result r : Nat) :
    (s.cqWrite c status result).ring r = s.ring r := by
  have he (t : State) (m : Nat) : (t.cqEvaluate m).ring r = t.ring r := by
    unfold State.cqEvaluate State.when
    split <;> simp
  simp only [State.cqWrite, he, State.add_eq, State.ring_set, State.ring_setQueue, State.ring_setSlots]

/-- R79: the first three words of the entry, as the completion that `c` awaits. -/
theorem State.done_cqWrite (s : State) (c : OpRef) (status result : Nat) :
    Done c status result s (s.cqWrite c status result) := by
  obtain ⟨hword0, hword1, hresult⟩ := s.entry_cqWrite c status result
  exact ⟨hword0, hword1, hresult⟩

/-- What happens before the post leaves the completion alone, where it leaves the tail of the queue alone. -/
theorem Done.congr {c : OpRef} {status result : Nat} {t u : State} (h : Done c status result t u)
    (htail : t.get (QU_CQTAIL.TAIL c.q) = s.get (QU_CQTAIL.TAIL c.q)) : Done c status result s u := by
  unfold Done State.entryBase at h ⊢
  rwa [htail] at h

/-- R80: a ring that waits for nothing posts one entry: its completion, after which the tail has advanced and the ring
stands where it stood. -/
theorem State.post_results {t : State} {c : OpRef} (status result : Nat) (hring : c.ring < 16)
    (hwait : (t.ring c.ring).wait = .none) :
    let u := t.post c status result
    Done c status result t u ∧
      u.get (QU_CQTAIL.TAIL c.q) = (t.get (QU_CQTAIL.TAIL c.q) + 1) % 2 ^ 24 ∧
      u.ring c.ring = t.ring c.ring ∧ u.get (QU_HEAD.HEAD c.ring) = t.get (QU_HEAD.HEAD c.ring) := by
  have hhead : ¬ postField (QU_HEAD.HEAD c.ring) := by
    simp only [postField, Field.key, QU_HEAD.HEAD, QU_CQTAIL.TAIL, QU_CQRES.RESV, QU_OUT.OUT, QU_EVPEND.CQ]
    omega
  rw [State.post_eq t c _ _ (by simp [hwait])]
  refine ⟨?_, t.tail_cqWrite c _ _, t.ring_cqWrite c _ _ _, t.get_cqWrite c _ _ hhead⟩
  obtain ⟨hword0, hword1, hresult⟩ := t.done_cqWrite c status (result % 2 ^ 24)
  exact ⟨hword0, hword1, hresult.trans (Nat.mod_mod _ _)⟩

/-! ### The state that posts -/

/-- The state in which a core instruction that posts does its work: its entry is reserved, its ring has moved on, and
its cycles are used. -/
def State.posting (s : State) (op : Op) (cost : Nat) : State :=
  ((s.reserve op.ring).moveOn op.ring (1 + op.ext.length)).uses cost

/-- R82, R95: a legal core instruction that posts, with an entry to be had. -/
theorem State.corePost_legal {op : Op} {opcode : Nat} {legal : Bool} (body : State → OpRef → State)
    (hready : s.ringReady op.ring = true) (hentry : s.canReserve op.ring = true) (hform : op.coreForm opcode = true)
    (hlegal : legal = true) : s.corePost op opcode legal body =
      body (s.posting op (coreCost opcode op.ext.length true)) (s.opRef op.ring opcode) := by
  simp [State.corePost, State.posting, hready, hentry, hform, hlegal]

theorem State.get_posting {g : Field} (s : State) (op : Op) (cost : Nat)
    (hres : g.key ≠ (QU_CQRES.RESV (s.cqOf op.ring)).key) (hheld : g.key ≠ QU_HELD.RING.key)
    (hhead : g.key ≠ (QU_HEAD.HEAD op.ring).key) : (s.posting op cost).get g = s.get g := by
  rw [State.posting, State.get_uses, State.get_moveOn _ _ _ hhead, State.get_reserve _ _ hres hheld]

theorem State.wait_posting (s : State) (op : Op) (cost : Nat) :
    ((s.posting op cost).ring op.ring).wait = (s.ring op.ring).wait := by
  rw [State.posting, State.ring_uses, State.wait_moveOn, State.wait_reserve]

/-- R80, R82: a reservation advances no tail. -/
theorem State.tail_posting (s : State) (op : Op) (cost : Nat) {m : Nat} (hm : m < 4) :
    (s.posting op cost).get (QU_CQTAIL.TAIL m) = s.get (QU_CQTAIL.TAIL m) := by
  have hcq := s.cqOf_lt op.ring
  refine s.get_posting op cost ?_ ?_ ?_ <;>
    simp only [Field.key, QU_CQTAIL.TAIL, QU_CQRES.RESV, QU_HELD.RING, QU_HEAD.HEAD] <;> omega

theorem State.out_posting (s : State) (op : Op) (cost : Nat) :
    (s.posting op cost).get (QU_OUT.OUT op.ring) = s.get (QU_OUT.OUT op.ring) := by
  have hcq := s.cqOf_lt op.ring
  refine s.get_posting op cost ?_ ?_ ?_ <;>
    simp only [Field.key, QU_OUT.OUT, QU_CQRES.RESV, QU_HELD.RING, QU_HEAD.HEAD] <;> omega

/-- R71: the reservation leaves the ring's place and mode to the move. -/
theorem State.movedOn_posting (s : State) (op : Op) (cost : Nat) :
    MovedOn op.ring (1 + op.ext.length) s (s.posting op cost) := by
  have hcq := s.cqOf_lt op.ring
  have hmode : (s.reserve op.ring).resident op.ring = s.resident op.ring := by
    rw [State.resident, State.flag, State.get_reserve, State.resident, State.flag] <;>
      simp only [Field.key, QU_MODE.RES, QU_CQRES.RESV, QU_HELD.RING] <;> omega
  have hhead : (s.reserve op.ring).get (QU_HEAD.HEAD op.ring) = s.get (QU_HEAD.HEAD op.ring) := by
    refine State.get_reserve s op.ring ?_ ?_ <;>
      simp only [Field.key, QU_HEAD.HEAD, QU_CQRES.RESV, QU_HELD.RING] <;> omega
  have hmoved := (s.reserve op.ring).movedOn_moveOn op.ring (1 + op.ext.length)
  unfold MovedOn at hmoved ⊢
  rw [hmode, s.pc_reserve, hhead] at hmoved
  exact hmoved

/-! ### SIGNAL (R100) -/

theorem signal_results {op : Op} (hring : op.ring < 16) (hready : s.ringReady op.ring = true)
    (hentry : s.canReserve op.ring = true) (hform : op.coreForm 0x0C = true) :
    let ref := s.opRef op.ring 0x0C
    MovedOn op.ring (1 + op.ext.length) s (signal op s) ∧ Done ref 0x01 (s.operandB op) s (signal op s) ∧
      (signal op s).get (QU_CQTAIL.TAIL ref.q) = (s.get (QU_CQTAIL.TAIL ref.q) + 1) % 2 ^ 24 := by
  obtain ⟨-, hnone⟩ := State.of_ringReady hready
  rw [signal, State.corePost_legal _ hready hentry hform rfl]
  dsimp only
  generalize hc : s.opRef op.ring 0x0C = c
  have hcring : c.ring = op.ring := by rw [← hc, State.opRef]
  have hq := c.q_lt
  generalize ht : (s.posting op (coreCost 0x0C op.ext.length true)).add (QU_OUT.OUT op.ring) 1 = t
  have hwait : (t.ring c.ring).wait = .none := by
    rw [← ht, hcring, State.add_eq, State.ring_set, s.wait_posting, hnone]
  have htail : t.get (QU_CQTAIL.TAIL c.q) = s.get (QU_CQTAIL.TAIL c.q) := by
    rw [← ht, State.add_eq, State.get_set_ne, s.tail_posting op _ hq]
    simp only [Field.key, QU_CQTAIL.TAIL, QU_OUT.OUT]
    omega
  have hmoved : MovedOn op.ring (1 + op.ext.length) s t := by
    rw [← ht, State.add_eq]
    refine (s.movedOn_posting op _).of_same (State.ring_set _ _ _ _) (State.get_set_ne _ _ ?_)
    simp only [Field.key, QU_HEAD.HEAD, QU_OUT.OUT]
    omega
  obtain ⟨hdone, hnext, hplace, hhead⟩ := State.post_results 0x01 (s.operandB op) (hcring ▸ hring) hwait
  rw [htail] at hnext
  rw [hcring] at hplace hhead
  exact ⟨hmoved.of_same hplace hhead, hdone.congr htail, hnext⟩

/-! ### FENCE (R101) -/

/-- R101: with nothing outstanding a FENCE posts at once. -/
theorem RingOpen.posted_fence {op : Op} (h : RingOpen s op.ring) (hform : op.coreForm 0x0D = true)
    (hout : s.get (QU_OUT.OUT op.ring) = 0) : Posted op.ring 0x0D 0x01 0 s (fence op s) := by
  obtain ⟨hready, hmode, -, hfree⟩ := id h
  have hm := s.cqOf_lt op.ring
  rw [fence, State.corePost_legal _ hready (by simp [State.canReserve, hfree]) hform (by rw [hmode]; rfl)]
  dsimp only
  rw [s.out_posting, if_pos hout]
  refine h.posted_post 0x0D 0x01 0 ?_ ?_
  · rw [State.add_eq, State.ring_set, s.wait_posting, h.wait_eq]
  · rw [State.add_eq, State.get_set_ne, s.tail_posting op _ hm]
    simp only [Field.key, QU_CQTAIL.TAIL, QU_OUT.OUT]
    omega

/-- R101: with work outstanding it waits, and keeps how much there was. -/
theorem RingOpen.wait_fence {op : Op} (h : RingOpen s op.ring) (hform : op.coreForm 0x0D = true)
    (hout : s.get (QU_OUT.OUT op.ring) ≠ 0) : ((fence op s).ring op.ring).wait =
      .fence ⟨op.ring, s.get (QU_HEAD.HEAD op.ring), false, 0x0D, s.cqOf op.ring⟩ (s.get (QU_OUT.OUT op.ring)) := by
  obtain ⟨hready, hmode, -, hfree⟩ := id h
  rw [fence, State.corePost_legal _ hready (by simp [State.canReserve, hfree]) hform (by rw [hmode]; rfl)]
  dsimp only
  rw [s.out_posting, if_neg hout, State.ring_setRing_same, h.opRef_eq]

/-- R101: the last earlier completion releases a FENCE: it posts, and its ring resumes at the next edge. -/
theorem State.fenceRelease_results {u : State} {r n : Nat} {ref : OpRef} (hwait : (u.ring r).wait = .fence ref n)
    (hout : u.get (QU_OUT.OUT r) ≤ 1) :
    Done ref 0x01 n u (u.fenceRelease r) ∧ ((u.fenceRelease r).ring r).wait = .resume := by
  rw [State.fenceRelease, hwait]
  dsimp only
  rw [if_pos hout]
  refine ⟨(State.done_cqWrite _ ref 0x01 n).congr (State.get_setRing _ _ _ _), ?_⟩
  rw [State.ring_cqWrite, State.ring_setRing_same]

end

/-- Settles O10: SIGNAL posts where it stands, and FENCE at once or by its release. -/
theorem postingResults : Obligations.PostingResults := by
  intro s op hwf
  obtain ⟨hring, -⟩ := Op.lt_of_wf hwf
  exact ⟨fun hready hentry hform => ⟨_, rfl, signal_results hring hready hentry hform⟩,
    fun hopen => ⟨fun hform hout => ⟨_, rfl, hopen.posted_fence hform hout⟩,
      fun hform hout => ⟨_, rfl, hopen.wait_fence hform hout⟩,
      fun u ref n hwait hout => ⟨_, rfl, State.fenceRelease_results hwait hout⟩⟩⟩

end Sys2Proof.Machine

/-! ## RDREG and WRREG (R102, R103) -/

namespace Sys2Proof.Machine

open Reg

section
variable {s t : State}

/-! ### Draining the ingest windows (R463, R464) -/

/-- The aperture's memories and the core domain's power are as in `s`. -/
def SameSlots (s t : State) : Prop := t.slots = s.slots ∧ t.coreUp = s.coreUp

theorem SameSlots.trans {u : State} (h : SameSlots s t) (h' : SameSlots t u) : SameSlots s u :=
  ⟨h'.1.trans h.1, h'.2.trans h.2⟩

theorem SameSlots.set {f : Field} {v : Nat} (h : SameSlots s t) : SameSlots s (t.set f v) := h

theorem SameSlots.setWindow {k : Nat} {x : AeWindow} (h : SameSlots s t) : SameSlots s (t.setWindow k x) := h

theorem SameSlots.raise {code w5 w6 w7 : Nat} (h : SameSlots s t) : SameSlots s (t.raise code w5 w6 w7) :=
  have hsame := SameUnits.raise t code w5 w6 w7
  h.trans ⟨hsame.slots, hsame.coreUp⟩

theorem SameSlots.ite {c : Prop} [Decidable c] {u : State} (ht : SameSlots s t) (hu : SameSlots s u) :
    SameSlots s (if c then t else u) := by
  split
  · exact ht
  · exact hu

theorem SameSlots.frameRoom {k : Nat} (h : SameSlots s t) : SameSlots s (t.frameRoom k) := by
  unfold State.frameRoom
  extract_lets x
  refine .ite h ?_
  split
  · exact h
  · exact .raise (.set (.setWindow h))

theorem SameSlots.joinLine {k : Nat} (h : SameSlots s t) : SameSlots s (t.joinLine k) := by
  unfold State.joinLine
  split
  · exact h
  · next bytes time qual rest hfifo =>
    have hroom {u : State} (hu : SameSlots s u) : SameSlots s (if (u.aeWindow k).part = [] then u.frameRoom k else u) :=
      .ite (.frameRoom hu) hu
    exact .ite (.setWindow (hroom (.setWindow h))) (.setWindow (.set (hroom (.setWindow h))))

theorem SameSlots.joinLines {k n : Nat} (h : SameSlots s t) : SameSlots s (State.joinLines k n t) := by
  induction n generalizing t with
  | zero => exact h
  | succ n ih => exact ih (.joinLine h)

/-- R463: what drains goes to the windows' frames, and no memory of the aperture changes. -/
theorem State.sameSlots_drainWindows (s : State) : SameSlots s s.drainWindows :=
  List.foldlRecOn (motive := SameSlots s) _ _ ⟨rfl, rfl⟩ fun _ h _ _ => .ite h (.joinLines (.setWindow h))

/-! ### RDREG (R102) -/

/-- R34, R67, R78: the submission areas and the completion queues read as their slots, while the core domain is up. -/
theorem State.readSlot_queues (s : State) {off : Nat} (hup : s.coreUp = true) (hlo : 0x40000 ≤ off)
    (hhi : off < 0x90000) : s.readSlot off = s.slot off := by
  have h1 : ¬ off < 0x14000 := by omega
  have h2 : ¬ off < 0x20000 := by omega
  have h3 : ¬ off < 0x40000 := by omega
  have h4 : ¬ (0x90000 ≤ off ∧ off < 0x94000) := by omega
  have h5 : off < 0x100000 := by omega
  simp only [State.readSlot, hup, h1, h2, h3, h4, h5, Bool.not_true, Bool.false_and, Bool.false_eq_true, if_false,
    if_true]

theorem State.coreUp_moveOn (s : State) (r n : Nat) : (s.moveOn r n).coreUp = s.coreUp := by
  unfold State.moveOn
  split <;> rfl

theorem State.slots_moveOn (s : State) (r n : Nat) : (s.moveOn r n).slots = s.slots := by
  unfold State.moveOn
  split <;> rfl

/-- R71: until its work a core instruction leaves the aperture's memories alone. -/
theorem State.sameSlots_issued (s : State) (op : Op) (cost : Nat) : SameSlots s (s.issued op cost) :=
  ⟨s.slots_moveOn _ _, s.coreUp_moveOn _ _⟩

theorem SameSlots.slot (h : SameSlots s t) (off : Nat) : t.slot off = s.slot off := by
  obtain ⟨hslots, -⟩ := h
  rw [State.slot, hslots, State.slot]

theorem rdreg_results {op : Op} (hwf : op.wf = true) (hready : s.ringReady op.ring = true)
    (hform : op.coreForm 0x0E = true) (hlo : 0x40000 ≤ 4 * s.rdIndex op) (hhi : 4 * s.rdIndex op < 0x90000) :
    let v := s.slot (4 * s.rdIndex op) % 2 ^ 24
    (rdreg op s).greg op.ring op.dst = v ∧ (rdreg op s).flag (SY_FLAGS.Z op.ring) = decide (v = 0) ∧
      (rdreg op s).flag (SY_FLAGS.N op.ring) = bitOf v 23 := by
  obtain ⟨hring, hdst⟩ := Op.lt_of_wf hwf
  obtain ⟨hup, -⟩ := State.of_ringReady hready
  have hsame : SameSlots s (s.issued op (coreCost 0x0E op.ext.length true)).drainWindows :=
    (s.sameSlots_issued op _).trans (State.sameSlots_drainWindows _)
  have hread : (s.issued op (coreCost 0x0E op.ext.length true)).drainWindows.readSlot (4 * s.rdIndex op) =
      s.slot (4 * s.rdIndex op) := by
    rw [State.readSlot_queues _ (hsame.2.trans hup) hlo hhi, hsame.slot]
  rw [rdreg, State.coreIssue_legal _ hready hform rfl]
  dsimp only
  rw [hread, logicFlags_eq]
  obtain ⟨hz, hn, -, -⟩ := State.flags_setFlags _ op.ring _
  exact ⟨(State.greg_setFlags _ _ hring hdst).trans (State.get_set_same _ _ _), hz, hn⟩

/-! ### WRREG (R103) -/

/-- R102, R103: a slot index has 18 bits. -/
theorem State.wrIndex_lt (s : State) (op : Op) : s.wrIndex op < 2 ^ 18 := by
  unfold State.wrIndex
  split
  · exact ofSigned_lt 18 _
  · exact Nat.mod_lt _ (by decide)

/-- R103: a mask is a word. -/
theorem Op.wrMask_lt (op : Op) : op.wrMask < 2 ^ 24 := by
  unfold Op.wrMask
  split
  · next m _ => exact m.isLt
  · decide

/-- R28, R34: a write at or above staging goes to staging, while the core domain is up. -/
theorem State.writeSlot_staging (s : State) (w : Writer) {off v m : Nat} (hup : s.coreUp = true) (hlo : 0x90000 ≤ off)
    (hhi : off < 0x100000) : s.writeSlot w off v m = s.stagingWrite off v m := by
  have h1 : ¬ off < 0x14000 := by omega
  have h2 : ¬ off < 0x20000 := by omega
  have h3 : ¬ off < 0x40000 := by omega
  have h4 : ¬ off < 0x80000 := by omega
  have h5 : ¬ off < 0x90000 := by omega
  simp only [State.writeSlot, hup, h1, h2, h3, h4, h5, hhi, Bool.not_true, Bool.false_eq_true, if_false, if_true]

/-- R103: a zero mask writes nothing. -/
theorem State.stagingWrite_zero (s : State) (off v : Nat) : s.stagingWrite off v 0 = some s := by
  rw [State.stagingWrite, if_pos rfl]

/-- R27: the bits of the byte lanes of a word that `p` takes. -/
def laneMask (p : Nat → Bool) : Nat := (([0, 1, 2].filter p).map fun j => 0xFF * 2 ^ (8 * j)).sum

/-- Bit `i` of a word lies in lane `i / 8`. -/
theorem testBit_laneMask (p : Nat → Bool) {i : Nat} (hi : i < 24) : (laneMask p).testBit i = p (i / 8) := by
  have hcases : ∀ p₀ p₁ p₂ : Bool, ∀ i < 24,
      (laneMask fun j => [p₀, p₁, p₂].getD j false).testBit i = [p₀, p₁, p₂].getD (i / 8) false := by decide
  have hp : ∀ j < 3, [p 0, p 1, p 2].getD j false = p j := by
    intro j hj
    interval_cases j <;> rfl
  have hmask : laneMask (fun j => [p 0, p 1, p 2].getD j false) = laneMask p := by
    rw [laneMask, laneMask, List.filter_congr]
    simp
  rw [← hmask, hcases _ _ _ i hi, hp _ (by omega)]

/-- A lane that holds a bit of `m` is not zero. -/
theorem bitsOf_lane_ne_zero {m i : Nat} (h : m.testBit i = true) : bitsOf m (8 * (i / 8)) 8 ≠ 0 := by
  intro hzero
  have hbit : (bitsOf m (8 * (i / 8)) 8).testBit (i % 8) = m.testBit i := by
    rw [bitsOf, Nat.testBit_mod_two_pow, Nat.testBit_div_two_pow, Nat.mod_add_div]
    simp [Nat.mod_lt]
  rw [hzero, Nat.zero_testBit, h] at hbit
  cases hbit

/-- R27: a mask has no bit outside the lanes that it touches. -/
theorem and_laneMask {m : Nat} (hm : m < 2 ^ 24) : m &&& laneMask (fun j => bitsOf m (8 * j) 8 != 0) = m := by
  refine Nat.eq_of_testBit_eq fun i => ?_
  rw [Nat.testBit_and]
  cases hbit : m.testBit i with
  | false => rfl
  | true =>
      have hi : i < 24 := by
        by_contra hge
        have hbelow : m < 2 ^ i := Nat.lt_of_lt_of_le hm (Nat.pow_le_pow_right (by decide) (Nat.not_lt.mp hge))
        rw [Nat.testBit_lt_two_pow hbelow] at hbit
        cases hbit
      rw [testBit_laneMask _ hi]
      simpa using bitsOf_lane_ne_zero hbit

/-- R103, R402: a write that meets no lane of the device's takes its whole mask. -/
theorem State.laneWrite_free (s : State) (off v : Nat) {m : Nat} {owned : Nat → Bool} (hm : m < 2 ^ 24) (hne : m ≠ 0)
    (hfree : ∀ j, owned j = false) :
    s.laneWrite off v m owned = some (s.setSlot off (mergeWord (s.slot off) v m)) := by
  have hmask := and_laneMask hm
  have hlanes : ([0, 1, 2].filter fun j => bitsOf m (8 * j) 8 != 0) ≠ [] := by
    intro hnil
    rw [laneMask, hnil, List.map_nil, List.sum_nil, Nat.and_zero] at hmask
    exact hne hmask.symm
  have hall (l : List Nat) : l.filter (fun j => !owned j) = l := by simp [hfree]
  rw [laneMask] at hmask
  simp only [State.laneWrite, hall, List.isEmpty_iff, hlanes, if_false, hmask]

/-- R28, R402: a write to a slot of general staging that no unit holds takes its whole mask. -/
theorem State.stagingWrite_general (s : State) {off v m : Nat} (hoff : genStaging ≤ off) (howned : s.ownedRanges = [])
    (hm : m < 2 ^ 24) (hne : m ≠ 0) :
    s.stagingWrite off v m = some (s.setSlot off (mergeWord (s.slot off) v m)) := by
  rw [genStaging] at hoff
  have h1 : ¬ off < 0x92000 := by omega
  have h2 : ¬ off < mcStaging := by rw [mcStaging]; omega
  have h3 : ¬ off < uaStaging := by rw [uaStaging]; omega
  have h4 : ¬ off < aeStaging := by rw [aeStaging]; omega
  have h5 : ¬ off < pkgStaging := by rw [pkgStaging]; omega
  have h6 : ¬ off < genStaging := by rw [genStaging]; omega
  simp only [State.stagingWrite, hne, h1, h2, h3, h4, h5, h6, if_false]
  exact s.laneWrite_free off v hm hne fun j => by simp [State.areaOwned, State.rangeOwned, howned]

/-- R71, R402: what the device holds does not change as a ring moves on. -/
theorem State.ownedRanges_issued (s : State) (op : Op) (cost : Nat) :
    (s.issued op cost).ownedRanges = s.ownedRanges := by
  unfold State.issued State.moveOn
  split <;> rfl

/-- R34, R103: a legal WRREG at or above staging, whose write is accepted. -/
theorem wrreg_eq {op : Op} {t : State} (hwf : op.wf = true) (hready : s.ringReady op.ring = true)
    (hform : op.coreForm 0x0F = true) (hoff : 0x90000 ≤ 4 * s.wrIndex op)
    (hwrite : (s.issued op (coreCost 0x0F op.ext.length true)).stagingWrite (4 * s.wrIndex op)
      (s.greg op.ring op.src) op.wrMask = some t) : wrreg op s = t := by
  obtain ⟨hring, -⟩ := Op.lt_of_wf hwf
  obtain ⟨hup, -⟩ := State.of_ringReady hready
  have hlt := s.wrIndex_lt op
  have hissued : (s.issued op (coreCost 0x0F op.ext.length true)).coreUp = true :=
    (s.sameSlots_issued op _).2.trans hup
  rw [wrreg, State.coreIssue_legal _ hready hform rfl, s.greg_issued _ hring (Op.src_lt_of_wf hwf),
    State.writeSlot_staging _ _ hissued hoff (by omega), hwrite]

end

/-- Settles O12: RDREG reads a slot of the queues' areas; WRREG writes staging through its mask, and a zero mask writes
nothing. -/
theorem slotInstructionResults : Obligations.SlotInstructionResults := by
  intro s op hwf hready
  refine ⟨fun hform hlo hhi => ⟨_, rfl, rdreg_results hwf hready hform hlo hhi⟩,
    fun hform hoff howned hmask => ⟨_, rfl, ?_⟩, fun hform hoff hmask => ⟨_, rfl, ?_⟩⟩
  · have hstaging : 0x90000 ≤ 4 * s.wrIndex op := Nat.le_trans (by decide) hoff
    rw [wrreg_eq hwf hready hform hstaging
      (State.stagingWrite_general _ hoff ((s.ownedRanges_issued op _).trans howned) op.wrMask_lt hmask)]
    refine (State.slot_setSlot_same _ _ _).trans ?_
    rw [(s.sameSlots_issued op _).slot]
  · have hkept := s.sameSlots_issued op (coreCost 0x0F op.ext.length true)
    rw [wrreg_eq hwf hready hform hoff (by rw [hmask]; exact State.stagingWrite_zero _ _ _)]
    exact ⟨hkept.slot _, s.get_issued_low op _ (by decide) (by decide)⟩

end Sys2Proof.Machine

/-! ## What the register-only core instructions leave alone (R91 to R99) -/

namespace Sys2Proof.Machine

open Reg

/-- R7, R71: the registers that any core instruction of ring `r` may change: its head, and the two of a violation. -/
def ownKeys (r : Nat) : List Nat := [(QU_HEAD.HEAD r).key, SY_VIOLATIONS.COUNT.key, SY_LASTVIOL.LAST.key]

/-- From `s` to `t` nothing has changed but ring `r`, the registers that its core instructions may change, and those of
`keys`. -/
def CoreFrame (r : Nat) (keys : List Nat) (s t : State) : Prop :=
  KeepsFields (ownKeys r ++ keys) s t ∧ KeepsUnits s t ∧ ∀ r' ≠ r, t.ring r' = s.ring r'

section
variable {s t : State} {r : Nat} {keys : List Nat}

theorem CoreFrame.refl (s : State) : CoreFrame r keys s s := ⟨fun _ _ => rfl, rfl, fun _ _ => rfl⟩

theorem CoreFrame.set {f : Field} {v : Nat} (h : CoreFrame r keys s t) (hf : f.key ∈ ownKeys r ++ keys) :
    CoreFrame r keys s (t.set f v) := by
  obtain ⟨hfields, hunits, hrings⟩ := h
  refine ⟨fun g hg => ?_, hunits, hrings⟩
  have hne : g.key ≠ f.key := fun hkey => hg (hkey ▸ hf)
  rw [State.get_set_ne t v hne, hfields g hg]

theorem CoreFrame.setRing {x : RingState} (h : CoreFrame r keys s t) : CoreFrame r keys s (t.setRing r x) := by
  obtain ⟨hfields, hunits, hrings⟩ := h
  exact ⟨hfields, hunits, fun r' hne => (State.ring_setRing_ne t x hne).trans (hrings r' hne)⟩

theorem CoreFrame.uses {n : Nat} (h : CoreFrame r keys s t) : CoreFrame r keys s (t.uses n) := h

theorem CoreFrame.when {b : Bool} {f : State → State} (h : CoreFrame r keys s t) (hf : CoreFrame r keys s (f t)) :
    CoreFrame r keys s (t.when b f) := by
  cases b
  · exact h
  · exact hf

theorem CoreFrame.ite {c : Prop} [Decidable c] {u : State} (ht : CoreFrame r keys s t) (hu : CoreFrame r keys s u) :
    CoreFrame r keys s (if c then t else u) := by
  split
  · exact ht
  · exact hu

theorem CoreFrame.moveOn {n : Nat} (h : CoreFrame r keys s t) : CoreFrame r keys s (t.moveOn r n) :=
  .ite (.setRing h) (.set h (by simp [ownKeys]))

/-- R7, R95: an instruction that retires as NOP changes the two registers of a violation. -/
theorem CoreFrame.retire {opcode : Nat} (h : CoreFrame r keys s t) : CoreFrame r keys s (t.retire r opcode) := by
  rw [State.retire, State.violate_eq]
  exact .uses (.set (.set h (by simp [ownKeys])) (by simp [ownKeys]))

theorem CoreFrame.setFlags {f : Nzcv} (h : CoreFrame r keys s t)
    (hkeys : ∀ k ∈ [(SY_FLAGS.Z r).key, (SY_FLAGS.N r).key, (SY_FLAGS.C r).key, (SY_FLAGS.V r).key], k ∈ keys) :
    CoreFrame r keys s (t.setFlags r f) := by
  have hown {k : Nat} (hk : k ∈ keys) : k ∈ ownKeys r ++ keys := List.mem_append_right _ hk
  exact .set (.set (.set (.set h (hown (hkeys _ (by simp)))) (hown (hkeys _ (by simp)))) (hown (hkeys _ (by simp))))
    (hown (hkeys _ (by simp)))

/-- R71, R95: what the work of a core instruction leaves alone, the instruction leaves alone. -/
theorem CoreFrame.coreIssue {op : Op} {opcode : Nat} {legal : Bool} {body : State → State}
    (hbody : ∀ {t}, CoreFrame op.ring keys s t → CoreFrame op.ring keys s (body t)) :
    CoreFrame op.ring keys s (s.coreIssue op opcode legal body) :=
  .ite (.ite (hbody (.uses (.moveOn (.refl s)))) (.retire (.moveOn (.refl s)))) (.refl s)

/-- The work of an instruction that changes one more register, of its own. -/
theorem CoreFrame.setOwn {f : Field} {v : Nat} {l : List Nat} (h : CoreFrame r (f.key :: l) s t) :
    CoreFrame r (f.key :: l) s (t.set f v) :=
  h.set (List.mem_append_right _ List.mem_cons_self)

/-- What changes nothing but registers and rings keeps the memories. -/
theorem CoreFrame.same (h : CoreFrame r keys s t) : KeepsFields (ownKeys r ++ keys) s t ∧ KeepsMemory s t ∧
    KeepsUnits s t ∧ ∀ r' ≠ r, t.ring r' = s.ring r' := by
  obtain ⟨hfields, hunits, hrings⟩ := h
  have hall : ({ t with regs := s.regs, rings := s.rings, cycles := s.cycles } : State) = s := hunits
  have hslots : t.slots = s.slots := (congrArg State.slots hall :)
  have hstore : t.store = s.store := (congrArg State.store hall :)
  have hhp : t.hp = s.hp := (congrArg State.hp hall :)
  refine ⟨hfields, ⟨fun off => ?_, hstore, fun a => by rw [hhp]⟩, hunits, hrings⟩
  rw [State.slot, hslots, State.slot]

/-- The one next state that a command answers. -/
theorem whenever_next {c : Instr} {Q : State → Prop} (hexec : exec c s = .next t) (h : Q t) : Whenever c s Q := by
  intro u hu
  cases hexec.symm.trans hu
  exact h

end

/-- R96: BR changes its ring alone. -/
theorem CoreFrame.br (op : Op) (s : State) : CoreFrame op.ring [] s (br op s) := by
  rw [Machine.br]
  exact .coreIssue fun h => .when h (.moveOn h)

/-- R97: LOOP changes its ring, and which of its counters are active. -/
theorem CoreFrame.loop (op : Op) (s : State) : CoreFrame op.ring [(SY_FLAGS.LC op.ring).key] s (loop op s) :=
  .coreIssue fun h => .ite (.setOwn (.setRing h)) (.setRing (.setOwn (.setRing h)))

/-- Settles O13: each instruction is an issue whose work changes its destination, its flags or its ring. -/
theorem coreInstructionFrames : Obligations.CoreInstructionFrames := by
  intro s op _
  refine ⟨whenever_next rfl (CoreFrame.same ?_), whenever_next rfl (CoreFrame.same ?_),
    whenever_next rfl (CoreFrame.same ?_), whenever_next rfl (CoreFrame.same ?_), whenever_next rfl (CoreFrame.same ?_),
    whenever_next rfl (CoreFrame.same ?_), whenever_next rfl (CoreFrame.same ?_), whenever_next rfl (CoreFrame.same ?_),
    whenever_next rfl (CoreFrame.same ?_), whenever_next rfl (CoreFrame.same ?_), whenever_next rfl (CoreFrame.same ?_),
    whenever_next rfl (CoreFrame.same (.loop op s))⟩
  · exact .coreIssue id
  · exact .br op s
  · exact .coreIssue .setRing
  · exact .coreIssue .setRing
  · exact .coreIssue .setOwn
  · exact .coreIssue .setOwn
  all_goals refine .coreIssue fun h => ?_
  · exact .setFlags (.setOwn h) (by simp)
  · exact .setFlags (.setOwn h) (by simp)
  · exact .setFlags (.setOwn h) (by simp)
  · exact .setFlags (.setOwn h) (by simp)
  · exact .setFlags h (by simp)

end Sys2Proof.Machine

/-! ## What unit instructions leave alone (R106 to R108, and each unit's rules) -/

namespace Sys2Proof.Machine

open Reg Host

/-! ### The frame -/

/-- What no unit instruction of the obligation changes, whatever its unit. -/
def State.unitView (s : State) := (s.store, s.hp.dram, s.sv, s.pw, s.bt)

/-- From `s` to `t` nothing has changed but registers of block `unit` and of the blocks of the system, the rings and the
time base, slots of the completion queues, and what `unitView` does not show. -/
structure UnitFrame (unit : Nat) (s t : State) : Prop where
  blocks : KeepsBlocks [0, 2, 0xA, unit] s t
  slots : ∀ off, off < 0x80000 ∨ 0x90000 ≤ off → t.slot off = s.slot off
  view : t.unitView = s.unitView

/-- All that `UnitFrame` looks at. -/
def State.frameView (s : State) := (s.regs, s.slots, s.unitView)

section
variable {unit : Nat} {s t u : State}

theorem UnitFrame.refl (s : State) : UnitFrame unit s s := ⟨fun _ _ _ => rfl, fun _ _ => rfl, rfl⟩

theorem UnitFrame.trans (h : UnitFrame unit s t) (h' : UnitFrame unit t u) : UnitFrame unit s u :=
  ⟨fun g hlo hg => (h'.blocks g hlo hg).trans (h.blocks g hlo hg),
    fun off hoff => (h'.slots off hoff).trans (h.slots off hoff), h'.view.trans h.view⟩

/-- An update of what the frame does not look at. -/
theorem UnitFrame.congr (h : UnitFrame unit s t) (e : u.frameView = t.frameView) : UnitFrame unit s u := by
  simp only [State.frameView, Prod.mk.injEq] at e
  obtain ⟨hregs, hslots, hview⟩ := e
  refine h.trans ⟨fun g _ _ => ?_, fun off _ => ?_, hview⟩
  · rw [State.get, hregs, State.get]
  · rw [State.slot, hslots, State.slot]

theorem UnitFrame.ite {c : Prop} [Decidable c] (ht : UnitFrame unit s t) (hu : UnitFrame unit s u) :
    UnitFrame unit s (if c then t else u) := by
  split
  · exact ht
  · exact hu

theorem UnitFrame.when {b : Bool} {f : State → State} (h : UnitFrame unit s t) (hf : UnitFrame unit s (f t)) :
    UnitFrame unit s (t.when b f) := by
  cases b
  · exact h
  · exact hf

/-- A register of one of the four blocks. -/
theorem UnitFrame.set {f : Field} {v : Nat} (h : UnitFrame unit s t)
    (hin : f.off / 0x1000 ∈ [0, 2, 0xA, unit] := by decide) (hlo : f.lo < 32 := by decide) :
    UnitFrame unit s (t.set f v) :=
  h.trans ⟨fun _ hg hout => State.get_set_ne t v (Field.key_ne_of_block hlo hg hin hout), fun _ _ => rfl, rfl⟩

/-- R67, R87: a register of the ring unit. -/
theorem UnitFrame.setQueueReg {f : Field} {v : Nat} (h : UnitFrame unit s t) (hblock : f.off / 0x1000 = 2)
    (hlo : f.lo < 32 := by decide) : UnitFrame unit s (t.set f v) :=
  h.set (by simp [hblock]) hlo

/-! ### Violations and events (R7, R10, R331) -/

theorem UnitFrame.violate {v : Violation} (h : UnitFrame unit s t) : UnitFrame unit s (t.violate v) :=
  .set (.set h List.mem_cons_self) List.mem_cons_self

/-- R331: what an event may change, the frame allows. -/
theorem UnitFrame.event (h : UnitFrame unit s t) (hsame : SameUnits t u)
    (hget : ∀ g, ¬ eventField g → u.get g = t.get g) : UnitFrame unit s u := by
  refine h.trans ⟨fun g hlo hout => hget g (not_eventField_of_block hlo (by simp) hout), fun off _ => ?_, ?_⟩
  · rw [State.slot, hsame.slots, State.slot]
  · rw [State.unitView, hsame.store, hsame.hp, hsame.sv, hsame.pw, hsame.bt, State.unitView]

theorem UnitFrame.raise {code w5 w6 w7 : Nat} (h : UnitFrame unit s t) : UnitFrame unit s (t.raise code w5 w6 w7) :=
  h.event (.raise t code w5 w6 w7) fun _ hg => State.get_raise hg t code w5 w6 w7

theorem UnitFrame.raiseFrom {source code w5 w6 w7 : Nat} (h : UnitFrame unit s t) :
    UnitFrame unit s (t.raiseFrom source code w5 w6 w7) :=
  h.event (.raiseFrom t source code w5 w6 w7) fun _ hg => State.get_raiseFrom hg t source code w5 w6 w7

/-! ### State that the frame does not look at -/

theorem UnitFrame.withRings {x : Sparse RingState} (h : UnitFrame unit s t) : UnitFrame unit s { t with rings := x } :=
  h.congr rfl
theorem UnitFrame.withQueues {x : Sparse QueueState} (h : UnitFrame unit s t) :
    UnitFrame unit s { t with queues := x } := h.congr rfl
theorem UnitFrame.withCycles {n : Nat} (h : UnitFrame unit s t) : UnitFrame unit s { t with cycles := n } := h.congr rfl
theorem UnitFrame.withFreeCount {n : Nat} (h : UnitFrame unit s t) : UnitFrame unit s { t with freeCount := n } :=
  h.congr rfl
theorem UnitFrame.withHp {x : HostPath} (h : UnitFrame unit s t) (hx : x.dram = t.hp.dram) :
    UnitFrame unit s { t with hp := x } := by
  refine h.congr ?_
  simp only [State.frameView, State.unitView, hx]
theorem UnitFrame.withFl {x : Flash} (h : UnitFrame unit s t) : UnitFrame unit s { t with fl := x } := h.congr rfl
theorem UnitFrame.withTm {x : TimeUnit} (h : UnitFrame unit s t) : UnitFrame unit s { t with tm := x } := h.congr rfl
theorem UnitFrame.withSc {x : SmartCard} (h : UnitFrame unit s t) : UnitFrame unit s { t with sc := x } := h.congr rfl
theorem UnitFrame.withMc {x : MemCard} (h : UnitFrame unit s t) : UnitFrame unit s { t with mc := x } := h.congr rfl
theorem UnitFrame.withUa {x : Sparse UartPort} (h : UnitFrame unit s t) : UnitFrame unit s { t with ua := x } :=
  h.congr rfl
theorem UnitFrame.withLk {x : Link} (h : UnitFrame unit s t) : UnitFrame unit s { t with lk := x } := h.congr rfl
theorem UnitFrame.withAe {x : Analytics} (h : UnitFrame unit s t) : UnitFrame unit s { t with ae := x } := h.congr rfl
theorem UnitFrame.withCp {x : List CpJob} (h : UnitFrame unit s t) : UnitFrame unit s { t with cp := x } := h.congr rfl
theorem UnitFrame.withSe {x : Security} (h : UnitFrame unit s t) : UnitFrame unit s { t with se := x } := h.congr rfl
theorem UnitFrame.withFp {x : Faceplate} (h : UnitFrame unit s t) : UnitFrame unit s { t with fp := x } := h.congr rfl

/-! ### Completions (R79, R80, R101) -/

/-- R78: words into the completion queues. -/
theorem UnitFrame.setSlots {l : List Nat} {off : Nat} (h : UnitFrame unit s t) (hlo : 0x80000 ≤ off)
    (hhi : off + 4 * l.length ≤ 0x90000) : UnitFrame unit s (t.setSlots off l) := by
  induction l generalizing t off with
  | nil => exact h
  | cons w l ih =>
      rw [List.length_cons] at hhi
      refine ih (h.trans ⟨fun _ _ _ => rfl, fun off' hoff => State.slot_setSlot_ne t w ?_, rfl⟩) (by omega) (by omega)
      omega

theorem UnitFrame.cqEvaluate {m : Nat} (h : UnitFrame unit s t) : UnitFrame unit s (t.cqEvaluate m) :=
  .when h (.setQueueReg h rfl)

/-- R78: an entry of a completion queue ends below 0x90000. -/
theorem State.entryBase_bounds (t : State) {m : Nat} (hm : m < 4) :
    0x80000 ≤ t.entryBase m ∧ t.entryBase m + 16 ≤ 0x90000 := by
  simp only [State.entryBase]
  omega

/-- R79, R80: an entry lies in the completion queues, and its registers in the ring unit. -/
theorem UnitFrame.cqWrite {c : OpRef} {status result : Nat} (h : UnitFrame unit s t) :
    UnitFrame unit s (t.cqWrite c status result) := by
  have hq := c.q_lt
  have hring : c.ring % 16 < 16 := Nat.mod_lt _ (by decide)
  have htail : (QU_CQTAIL.TAIL c.q).off / 0x1000 = 2 := by
    simp only [QU_CQTAIL.TAIL]
    omega
  have hres : (QU_CQRES.RESV c.q).off / 0x1000 = 2 := by
    simp only [QU_CQRES.RESV]
    omega
  have hout : (QU_OUT.OUT (c.ring % 16)).off / 0x1000 = 2 := by
    simp only [QU_OUT.OUT]
    omega
  obtain ⟨hlow, hhigh⟩ := t.entryBase_bounds hq
  have hwords (w0 w1 w2 w3 : Nat) : UnitFrame unit s (t.setSlots (t.entryBase c.q) [w0, w1, w2, w3]) :=
    .setSlots h hlow (by simpa using hhigh)
  have hlo : (0 : Nat) < 32 := by decide
  exact .cqEvaluate
    (.setQueueReg (.withQueues (.setQueueReg (.setQueueReg (hwords _ _ _ _) htail hlo) hres hlo)) hout hlo)

theorem UnitFrame.fenceRelease {r : Nat} (h : UnitFrame unit s t) : UnitFrame unit s (t.fenceRelease r) := by
  unfold State.fenceRelease
  split
  · exact .ite (.cqWrite (.withRings h)) h
  · exact h

theorem UnitFrame.post {c : OpRef} {status result : Nat} (h : UnitFrame unit s t) :
    UnitFrame unit s (t.post c status result) :=
  .fenceRelease (.cqWrite h)

theorem UnitFrame.postOpt {c : Option OpRef} {status result : Nat} (h : UnitFrame unit s t) :
    UnitFrame unit s (t.postOpt c status result) := by
  cases c
  · exact h
  · exact .post h

/-! ### Issue and judgement (R71, R82, R83, R105 to R108) -/

theorem UnitFrame.dropHeld {r : Nat} (h : UnitFrame unit s t) : UnitFrame unit s (t.dropHeld r) :=
  List.foldlRecOn (motive := UnitFrame unit s) _ _ h fun _ h _ _ => .withQueues h

theorem UnitFrame.cqHold {r m : Nat} (h : UnitFrame unit s t) : UnitFrame unit s (t.cqHold r m) := by
  have hheld : UnitFrame unit s ((t.dropHeld r).setMaskBit QU_HELD.RING r true) := .setQueueReg (.dropHeld h) rfl
  unfold State.cqHold
  dsimp only
  split
  · exact .withQueues hheld
  · exact .raise (.withQueues hheld)

theorem UnitFrame.reserve {r : Nat} (h : UnitFrame unit s t) : UnitFrame unit s (t.reserve r) := by
  have hm := t.cqOf_lt r
  have hres : (QU_CQRES.RESV (t.cqOf r)).off / 0x1000 = 2 := by
    simp only [QU_CQRES.RESV]
    omega
  exact .ite (.withRings h) (.setQueueReg (.dropHeld (.setQueueReg h hres (Nat.zero_lt_succ 31))) rfl)

theorem UnitFrame.moveOn {r n : Nat} (h : UnitFrame unit s t) (hr : r < 16) : UnitFrame unit s (t.moveOn r n) := by
  have hhead : (QU_HEAD.HEAD r).off / 0x1000 = 2 := by
    simp only [QU_HEAD.HEAD]
    omega
  exact .ite (.withRings h) (.setQueueReg h hhead (Nat.zero_lt_succ 31))

/-- R106: what the work of a unit instruction leaves alone, its issue leaves alone. -/
theorem UnitFrame.issue {op : Op} {opcode cost : Nat} {body : State → OpRef → State} (hr : op.ring < 16)
    (hbody : ∀ {t ref}, UnitFrame unit s t → UnitFrame unit s (body t ref)) :
    UnitFrame unit s (s.issue op opcode cost body) := by
  have hout : (QU_OUT.OUT op.ring).off / 0x1000 = 2 := by
    simp only [QU_OUT.OUT]
    omega
  have hreserved : UnitFrame unit s (s.reserve op.ring) := .reserve (.refl s)
  have hcounted : UnitFrame unit s ((s.reserve op.ring).add (QU_OUT.OUT op.ring) 1) :=
    .setQueueReg hreserved hout (Nat.zero_lt_succ 31)
  exact .ite (.ite (hbody (.withCycles (.moveOn hcounted hr))) (.cqHold (.refl s))) (.refl s)

theorem UnitFrame.refuse {ref : OpRef} {status : Nat} (h : UnitFrame unit s t) :
    UnitFrame unit s (t.refuse ref status) := .post (.withCycles h)

theorem UnitFrame.illegal {ref : OpRef} (h : UnitFrame unit s t) : UnitFrame unit s (t.illegal ref) := by
  rw [State.illegal]
  exact .refuse (.violate h)

/-- R108: every refusal is a completion, a violation's at most. -/
theorem UnitFrame.judge {ref : OpRef} {ext reserved staging legal range : Bool} {n : Nat} {body : State → State}
    (h : UnitFrame unit s t) (hbody : UnitFrame unit s (body t)) :
    UnitFrame unit s (t.judge ref ext reserved staging legal range n body) := by
  rw [State.judge]
  exact .ite (.refuse h) (.ite (.refuse h) (.ite (.refuse h) (.ite (.illegal h) (.ite (.post h) hbody))))

/-- What the obligation asks of an instruction of `unit`, from its frame. -/
theorem UnitFrame.kept (h : UnitFrame unit s t) : KeepsBlocks [0, 2, 0xA, unit] s t ∧
    (∀ off, off < 0x80000 ∨ 0x90000 ≤ off → t.slot off = s.slot off) ∧ t.store = s.store ∧
    (∀ a, t.hp.dram.byte a = s.hp.dram.byte a) ∧ t.sv = s.sv ∧ t.pw = s.pw ∧ t.bt = s.bt := by
  obtain ⟨hblocks, hslots, hview⟩ := h
  simp only [State.unitView, Prod.mk.injEq] at hview
  obtain ⟨hstore, hdram, hrest⟩ := hview
  exact ⟨hblocks, hslots, hstore, fun a => by rw [hdram], hrest⟩

end

/-! ### The units' instructions

The proofs follow the instructions' work, call by call. -/

section
variable {s t : State} {op : Op}

/-! #### Wellhead and the shadow engine (R138, R142, R168) -/

theorem UnitFrame.lend (hr : op.ring < 16) : UnitFrame 3 s (lend op s) :=
  .issue hr fun h => .judge h (.withHp h rfl)

theorem UnitFrame.showScrubs (h : UnitFrame 3 s t) : UnitFrame 3 s t.showScrubs := .set h

theorem UnitFrame.scrub (hr : op.ring < 16) : UnitFrame 3 s (scrub op s) := by
  dsimp only [Machine.scrub]
  exact .issue hr fun h => .judge h (.ite (.post h) (.showScrubs (.withHp h rfl)))

/-- R168: HOLD and RELEASE. -/
theorem UnitFrame.foldInstr (hr : op.ring < 16) (hdst : op.dst = 2 ∨ op.dst = 3) :
    UnitFrame 4 s (foldInstr op s) := by
  refine .issue hr fun h => .judge h ?_
  obtain hdst | hdst := hdst <;> rw [hdst] <;> exact .post (.set h)

/-! #### The flash store (R231, R233, R234) -/

theorem UnitFrame.showAmplification (h : UnitFrame 6 s t) : UnitFrame 6 s t.showAmplification :=
  .ite (.set (.withFreeCount h)) (.set h)

theorem UnitFrame.recomputeLife (h : UnitFrame 6 s t) : UnitFrame 6 s t.recomputeLife := by
  have hset (m b : Nat) : UnitFrame 6 s ((t.showAmplification.set FL_LIFEMEAS.DAYS m).set FL_LIFEBW.DAYS b) :=
    .set (.set (.showAmplification h))
  dsimp only [State.recomputeLife]
  exact .ite (.when (.withFl (hset _ _)) (.raise (.withFl (hset _ _))))
    (.ite (.ite (.withFl (hset _ _)) (.withFl (hset _ _))) (hset _ _))

theorem UnitFrame.flinfo (hr : op.ring < 16) : UnitFrame 6 s (flinfo op s) :=
  .issue hr fun h => .judge h (.post (.recomputeLife h))

/-! #### The time base (R323, R329, R330) -/

theorem UnitFrame.tmark (hr : op.ring < 16) : UnitFrame 0xA s (tmark op s) := by
  dsimp only [Machine.tmark]
  exact .issue hr fun h => .judge h (.post (.raiseFrom h))

theorem UnitFrame.slewAccrue {part : Int} (h : UnitFrame 0xA s t) : UnitFrame 0xA s (t.slewAccrue part) := by
  unfold State.slewAccrue
  split
  · exact h
  · exact .withTm h

theorem UnitFrame.showOutput (h : UnitFrame 0xA s t) : UnitFrame 0xA s t.showOutput := .slewAccrue (.set h)

theorem UnitFrame.tslew (hr : op.ring < 16) : UnitFrame 0xA s (tslew op s) := by
  refine .issue hr fun {t ref} h => .judge h ?_
  split
  next u left hpair =>
    have hu : UnitFrame 0xA s u := by
      split at hpair <;> cases hpair
      · exact .postOpt h
      · exact h
    exact .ite (.post (.showOutput (.set (.withTm hu)))) (.showOutput (.set (.withTm hu)))

/-- R330: the stamp of a capture slot of the block. -/
theorem UnitFrame.giveCapture {now : Nat} {c : OpRef × Nat × Nat × Nat} (hc : c.2.1 < 8) (h : UnitFrame 0xA s t) :
    UnitFrame 0xA s (t.giveCapture now c) := by
  have hstamp {i : Nat} (hi : i < 3) : (TM_CAP.STAMP c.2.1 i).off / 0x1000 ∈ [0, 2, 0xA, 0xA] := by
    simp only [TM_CAP.STAMP, List.mem_cons]
    omega
  have hstate : (TM_CAP_S.ST c.2.1).off / 0x1000 ∈ [0, 2, 0xA, 0xA] := by
    simp only [TM_CAP_S.ST, List.mem_cons]
    omega
  have hlo : (0 : Nat) < 32 := by decide
  exact .post (.set (.set (.set (.set h (hstamp (by decide)) hlo) (hstamp (by decide)) hlo) (hstamp (by decide)) hlo)
    hstate hlo)

theorem UnitFrame.tcap (hr : op.ring < 16) (hdst : op.dst < 8) : UnitFrame 0xA s (tcap op s) := by
  have hstate : (TM_CAP_S.ST op.dst).off / 0x1000 ∈ [0, 2, 0xA, 0xA] := by
    simp only [TM_CAP_S.ST, List.mem_cons]
    omega
  exact .issue hr fun h => .judge h (.ite (.giveCapture hdst h) (.set (.withTm h) hstate (Nat.zero_lt_succ 31)))

/-! #### The card ports (R348, R357, R379) -/

theorem UnitFrame.scDeactivate {cause status : Nat} (h : UnitFrame 0xB s t) :
    UnitFrame 0xB s (t.scDeactivate cause status) := by
  dsimp only [State.scDeactivate]
  exact .ite (.withSc (.set (.set h))) (.ite (.withSc h) (.ite (.postOpt (.withSc h)) h))

theorem UnitFrame.scdeact (hr : op.ring < 16) : UnitFrame 0xB s (scdeact op s) := by
  dsimp only [Machine.scdeact]
  exact .issue hr fun h => .judge h (.ite (.post h) (.scDeactivate (.withSc h)))

theorem UnitFrame.scclk (hr : op.ring < 16) : UnitFrame 0xB s (scclk op s) := by
  dsimp only [Machine.scclk]
  exact .issue hr fun h => .judge h
    (.ite (.ite (.post h) (.post (.withSc (.set h)))) (.ite (.post (.set h)) (.post (.withSc h))))

theorem UnitFrame.mcAwait {l : List McItem} (h : UnitFrame 0xC s t) : UnitFrame 0xC s (t.mcAwait l) := .withMc h

theorem UnitFrame.mcwp (hr : op.ring < 16) : UnitFrame 0xC s (mcwp op s) := by
  dsimp only [Machine.mcwp]
  exact .issue hr fun h => .judge h (.ite (.post h) (.ite (.post h) (.mcAwait (.withMc (.set h)))))

/-! #### The serial ports and the link (R412, R428) -/

/-- R412: SEND. -/
theorem UnitFrame.uaxfr (hr : op.ring < 16) (hdst : op.dst = 1) : UnitFrame 0xD s (uaxfr op s) := by
  have hsleeping : (UA_STAT.SLEEPING (op.imm9 % 4)).off / 0x1000 ∈ [0, 2, 0xA, 0xD] := by
    simp only [UA_STAT.SLEEPING, List.mem_cons]
    omega
  dsimp only [Machine.uaxfr]
  refine .issue hr fun h => .judge h (.ite (.post h) ?_)
  rw [if_pos hdst]
  exact .ite (.post h) (.set (.withUa h) hsleeping (by decide : 5 < 32))

theorem UnitFrame.lksend (hr : op.ring < 16) : UnitFrame 0xE s (lksend op s) := by
  dsimp only [Machine.lksend]
  exact .issue hr fun h => .judge h (.ite (.post h) (.ite (.post h) (.withLk h)))

theorem UnitFrame.lkQueue {what : LkSpecial} {delay : Nat} {bounded : Bool} (h : UnitFrame 0xE s t) :
    UnitFrame 0xE s (t.lkQueue what delay bounded) := .ite h (.withLk h)

theorem UnitFrame.lkClaimNow (h : UnitFrame 0xE s t) : UnitFrame 0xE s t.lkClaimNow := .lkQueue (.withLk h)

/-- STATUS and CLAIM. -/
theorem UnitFrame.lktime (hr : op.ring < 16) (hdst : op.dst = 1 ∨ op.dst = 2) :
    UnitFrame 0xE s (lktime op s) := by
  refine .issue hr fun h => .judge h ?_
  obtain hdst | hdst := hdst
  · rw [if_pos hdst]
    exact .post h
  · rw [if_neg (by omega), if_pos hdst]
    exact .ite (.post (.lkClaimNow h)) (.post h)

/-! #### The analytics engine (R465, R506 to R512) -/

theorem UnitFrame.setJobs {jobs : List AeJob} (h : UnitFrame 0xF s t) : UnitFrame 0xF s (t.setJobs jobs) :=
  .set (.set (.set (.set (.withAe h))))

theorem UnitFrame.queueJob {ref : OpRef} {work : AeWork} {window : Option Nat} {soff wait : Nat}
    (h : UnitFrame 0xF s t) : UnitFrame 0xF s (t.queueJob ref work window soff wait) := .ite (.post h) (.setJobs h)

theorem UnitFrame.aerun (hr : op.ring < 16) : UnitFrame 0xF s (aerun op s) := by
  dsimp only [Machine.aerun]
  exact .issue hr fun h => .judge h (.queueJob h)

theorem UnitFrame.adaptEnd {ref : OpRef} (h : UnitFrame 0xF s t) : UnitFrame 0xF s (t.adaptEnd ref) :=
  .post (.raise (.set (.set (.withAe h))))

/-- R508, R510, R518: EVENT, COMMIT and END. -/
theorem UnitFrame.aeadapt (hr : op.ring < 16) (hdst : op.dst = 2 ∨ op.dst = 3 ∨ op.dst = 4) :
    UnitFrame 0xF s (aeadapt op s) := by
  refine .issue hr fun h => .judge h ?_
  obtain hdst | hdst | hdst := hdst <;> rw [hdst]
  · exact .queueJob h
  · exact .queueJob h
  · exact .adaptEnd h

/-- R512: THAW. -/
theorem UnitFrame.aefreeze (hr : op.ring < 16) (hdst : op.dst = 2) : UnitFrame 0xF s (aefreeze op s) := by
  refine .issue hr fun h => .judge h ?_
  rw [if_neg (by omega)]
  exact .post (.raise (.set h))

/-! #### The codec and the keys (R496, R541) -/

theorem UnitFrame.cpCount {kind : Nat} (h : UnitFrame 0x10 s t) : UnitFrame 0x10 s (t.cpCount kind) :=
  .ite (.set h) (.ite (.set h) h)

theorem UnitFrame.cpIssue {kind opcode : Nat} (hr : op.ring < 16) :
    UnitFrame 0x10 s (cpIssue kind opcode op s) := by
  dsimp only [Machine.cpIssue]
  exact .issue hr fun h => .judge h
    (.ite (.post h) (.ite (.post (.when (.cpCount h) (.set (.cpCount h)))) (.withCp h)))

theorem UnitFrame.seQueue {ref : OpRef} {work : SeWork} {ranges : List StageRange} (h : UnitFrame 0x11 s t) :
    UnitFrame 0x11 s (t.seQueue ref work ranges) := .ite (.post h) (.withSe h)

theorem UnitFrame.sePackage {opcode : Nat} {work : Nat → SeWork} (hr : op.ring < 16) :
    UnitFrame 0x11 s (sePackage opcode work op s) := by
  dsimp only [Machine.sePackage]
  exact .issue hr fun h => .judge h (.seQueue h)

theorem UnitFrame.seseal (hr : op.ring < 16) : UnitFrame 0x11 s (seseal op s) := by
  dsimp only [Machine.seseal]
  exact .issue hr fun h => .judge h (.seQueue h)

theorem UnitFrame.sekey (hr : op.ring < 16) : UnitFrame 0x11 s (sekey op s) := by
  dsimp only [Machine.sekey]
  exact .issue hr fun h => .judge h (.ite (.seQueue h) (.ite (.seQueue h) (.seQueue h)))

/-! #### The faceplate (R561, R562) -/

theorem UnitFrame.setLamps {mask v : Nat} (h : UnitFrame 0x12 s t) : UnitFrame 0x12 s (t.setLamps mask v) := by
  refine List.foldlRecOn (motive := UnitFrame 0x12 s) _ _ h fun u hu k hk => .when hu (.set (.withFp hu) ?_ ?_)
  · have hk8 : k < 8 := List.mem_range.mp hk
    simp only [FP_IND_A.SET, List.mem_cons]
    omega
  · exact Nat.zero_lt_succ 31

theorem UnitFrame.fpind (hr : op.ring < 16) : UnitFrame 0x12 s (fpind op s) := by
  dsimp only [Machine.fpind]
  exact .issue hr fun h => .judge h (.ite (.withFp (.setLamps h)) (.post h))

/-- R561: STATUS. -/
theorem UnitFrame.fpkey (hr : op.ring < 16) (hdst : op.dst = 4) : UnitFrame 0x12 s (fpkey op s) := by
  refine .issue hr fun h => .judge h ?_
  rw [if_neg (by omega), if_neg (by omega), if_neg (by omega)]
  exact .post h

end

/-! ### The obligation -/

/-- Settles O60: the frame of each unit's instructions. -/
theorem unitInstructionFrames : Obligations.UnitInstructionFrames := by
  intro s op hwf
  obtain ⟨hr, hdst⟩ := Op.lt_of_wf hwf
  intro kept within
  have hkept {unit : Nat} {c : Instr} {t : State} (hexec : exec c s = .next t) (h : UnitFrame unit s t) :
      Whenever c s (kept unit) := whenever_next hexec h.kept
  simp only [within, List.forall_mem_cons, List.not_mem_nil, false_implies, implies_true, and_true]
  refine ⟨?wellhead, ?shadow, ?flash, ?time, ?smartCard, ?memCard, ?uart, ?link, ?analytics, ?codec, ?keys, ?faceplate⟩
  case wellhead => exact ⟨hkept rfl (.lend hr), hkept rfl (.lend hr), hkept rfl (.lend hr), hkept rfl (.scrub hr)⟩
  case shadow => exact ⟨hkept rfl (.foldInstr hr (.inl rfl)), hkept rfl (.foldInstr hr (.inr rfl))⟩
  case flash => exact hkept rfl (.flinfo hr)
  case time =>
    exact ⟨hkept rfl (.tmark hr), hkept rfl (.tslew hr), hkept rfl (.tcap hr hdst), hkept rfl (.tcap hr hdst),
      hkept rfl (.tcap hr hdst), hkept rfl (.tcap hr hdst)⟩
  case smartCard =>
    exact ⟨hkept rfl (.scdeact hr), hkept rfl (.scclk hr), hkept rfl (.scclk hr), hkept rfl (.scclk hr)⟩
  case memCard => exact ⟨hkept rfl (.mcwp hr), hkept rfl (.mcwp hr), hkept rfl (.mcwp hr), hkept rfl (.mcwp hr)⟩
  case uart => exact hkept rfl (.uaxfr hr rfl)
  case link => exact ⟨hkept rfl (.lksend hr), hkept rfl (.lktime hr (.inl rfl)), hkept rfl (.lktime hr (.inr rfl))⟩
  case analytics =>
    exact ⟨hkept rfl (.aerun hr), hkept rfl (.aeadapt hr (.inl rfl)), hkept rfl (.aeadapt hr (.inr (.inl rfl))),
      hkept rfl (.aeadapt hr (.inr (.inr rfl))), hkept rfl (.aefreeze hr rfl)⟩
  case codec =>
    exact ⟨hkept rfl (.cpIssue hr), hkept rfl (.cpIssue hr), hkept rfl (.cpIssue hr), hkept rfl (.cpIssue hr),
      hkept rfl (.cpIssue hr), hkept rfl (.cpIssue hr), hkept rfl (.cpIssue hr), hkept rfl (.cpIssue hr),
      hkept rfl (.cpIssue hr)⟩
  case keys =>
    exact ⟨hkept rfl (.sePackage hr), hkept rfl (.sePackage hr), hkept rfl (.seseal hr), hkept rfl (.sekey hr),
      hkept rfl (.sekey hr), hkept rfl (.sekey hr), hkept rfl (.sekey hr)⟩
  case faceplate => exact ⟨hkept rfl (.fpind hr), hkept rfl (.fpind hr), hkept rfl (.fpkey hr rfl)⟩

end Sys2Proof.Machine

/-! ## What the host's commands, the fault line and the shadow engine leave alone (R118 to R177, R243 to R248) -/

namespace Sys2Proof.Machine

-- One declaration at a time: side by side they take more threads than the check's memory holds.
set_option Elab.async false

open Reg Host

/-! ### Frames that widen -/

section
variable {α β : Type} {blocks blocks' : List Nat} {view : State → α} {view' : State → β} {s t u : State}

/-- A frame that looks at less allows more. -/
theorem Leaves.mono (h : Leaves blocks view s t) (hblocks : ∀ b ∈ blocks, b ∈ blocks') (hview : view' t = view' s) :
    Leaves blocks' view' s t := by
  obtain ⟨hb, hmem, -⟩ := h
  exact ⟨fun g hlo hg => hb g hlo fun hin => hg (hblocks _ hin), hmem, hview⟩

theorem IfSome.imp {P Q : State → Prop} {o : Option State} (h : IfSome P o) (himp : ∀ {t}, P t → Q t) : IfSome Q o :=
  fun t ht => himp (h t ht)

theorem Leaves.foldl {γ : Type} {f : State → γ → State} {l : List γ} (h : Leaves blocks view s t)
    (hf : ∀ {u}, Leaves blocks view s u → ∀ x ∈ l, Leaves blocks view s (f u x)) :
    Leaves blocks view s (l.foldl f t) :=
  List.foldlRecOn (motive := Leaves blocks view s) l f h fun _ hu x hx => hf hu x hx

/-- The state of a pair. -/
theorem Leaves.ofFst {γ : Type} {p : State × γ} {x : γ} (e : p = (t, x)) (h : Leaves blocks view s p.1) :
    Leaves blocks view s t := by
  rwa [e] at h

/-- A register of a block that holds a table of them. -/
theorem Leaves.setBlock {f : Field} {v b : Nat} (h : Leaves blocks view s t) (hb : f.off / 0x1000 = b)
    (hin : b ∈ blocks) (hlo : f.lo < 32 := by decide) (hview : view (t.set f v) = view t := by rfl) :
    Leaves blocks view s (t.set f v) :=
  .set h hlo (hb ▸ hin) hview

end

/-! ### The host path (R118 to R149) -/

/-- What a command of the host path may change. -/
abbrev HostFrame : State → State → Prop := Leaves [0, 2, 3, 8, 0xA] fun _ => ()

section
variable {s t : State}

theorem Leaves.withHp {x : HostPath} (h : HostFrame s t) (hx : x.dram = t.hp.dram) :
    HostFrame s { t with hp := x } := h.congr rfl rfl rfl hx rfl

theorem Leaves.raiseHost {code w5 w6 w7 : Nat} (h : HostFrame s t) : HostFrame s (t.raise code w5 w6 w7) :=
  Leaves.raise h (by decide) rfl

theorem Leaves.hostRow {w : Writer} {off : Nat} {r : Option State} (h : IfSome (HostFrame s) r) :
    HostFrame s (s.rowWrite w off r) := Leaves.rowWrite (by decide) (fun _ _ _ => rfl) h

/-- R63: what a write of the aperture's registers may change is the ring unit's. -/
theorem Leaves.ofRing (h : RingFrame s t) : HostFrame s t := Leaves.mono h (by decide) rfl

theorem Leaves.ownChange {new cause : Nat} {block : Bool} (h : HostFrame s t) :
    HostFrame s (t.ownChange new block cause) := .raiseHost (.set (.set h))

theorem Leaves.queueFault {code w5 w6 w7 : Nat} (h : HostFrame s t) : HostFrame s (t.queueFault code w5 w6 w7) :=
  .ite (h.congr rfl rfl rfl rfl rfl) (.set h)

theorem Leaves.raiseFault {code w5 w6 w7 : Nat} (h : HostFrame s t) : HostFrame s (t.raiseFault code w5 w6 w7) :=
  .queueFault (.raiseHost h)

theorem Leaves.beginScrub (h : HostFrame s t) : HostFrame s t.beginScrub := .withHp (.set (.set h)) rfl

theorem Leaves.repeatPasses (h : HostFrame s t) : HostFrame s t.repeatPasses := .withHp (.set (.set h)) rfl

theorem Leaves.redoHostPass (h : HostFrame s t) : HostFrame s t.redoHostPass := .withHp (.set h) rfl

theorem Leaves.release (h : HostFrame s t) : HostFrame s t.release := .ownChange (.withHp h rfl)

theorem Leaves.claim (h : HostFrame s t) : HostFrame s t.claim :=
  .ite (.withHp (.beginScrub h) rfl) (.ite (.withHp h rfl) (.release h))

/-- R120, R124: the open rows and the recorded words. -/
theorem Leaves.hostActPre (s : State) (rank : Nat) (bank row : Option Nat) :
    HostFrame s (hostActPre rank bank row s) := .withHp (.refl s) rfl

theorem Leaves.storeWord (s : State) (value : Nat) : HostFrame s (s.storeWord value) := .withHp (.refl s) rfl

/-- R63, R120: a control word is recorded, or places or closes the aperture. -/
theorem Leaves.controlWord (s : State) (value : Nat) : HostFrame s (s.controlWord value) := by
  have hbase (part : Nat) : HostFrame s (s.rowWrite .host 0x2000 (apertureBaseWrite .host part (value % 256) s)) :=
    .hostRow ((apertureBaseWrite_frame s .host part _).imp Leaves.ofRing)
  unfold State.controlWord
  refine .ite ?_ (.storeWord s value)
  split
  · exact hbase 0
  · exact hbase 1
  · exact .hostRow ((apertureEnableWrite_frame s .host _).imp Leaves.ofRing)
  · exact .refl s

theorem Leaves.hostMrs (s : State) (rank mr value : Nat) (device : Option Nat) :
    HostFrame s (hostMrs rank mr value device s) := by
  refine .ite (.controlWord s value) ?_
  cases device with
  | none => exact .withHp (.refl s) rfl
  | some d => exact .withHp (.refl s) rfl

theorem Leaves.caParityError (s : State) (rank : Nat) : HostFrame s (caParityError rank s) := by
  have hcounted : HostFrame s (s.add HP_PARERR.COUNT 1) := .set (.refl s)
  have hstamped : HostFrame s { s.add HP_PARERR.COUNT 1 with hp := { s.hp with paritySecond := some s.seconds } } :=
    .withHp hcounted rfl
  exact .when hstamped (.raiseHost hstamped)

theorem Leaves.speedWord (s : State) (mts : Nat) : HostFrame s (speedWord mts s) :=
  .ite (.ite (.withHp (.when (.refl s) (.redoHostPass (.set (.refl s)))) rfl) (.refl s))
    (.violations _ (.refl s) (by decide) fun _ _ _ => rfl)

/-- R133, R143: RESET_n, by the owner that it finds. -/
theorem Leaves.resetN (s : State) : HostFrame s (resetN s) := by
  have hwords (x : HostPath) (hx : x.dram = s.hp.dram) :
      HostFrame s { ((s.set HP_STATUS.HTRAIN 0).set QU_APCTL.EN 0).set HP_RATE.MTS 1600 with hp := x } :=
    .withHp (.set (.set (.set (.refl s)))) hx
  unfold Machine.resetN
  dsimp only
  split
  · exact .ownChange (hwords _ rfl)
  · exact .ownChange (hwords _ rfl)
  · exact hwords _ rfl
  · exact hwords _ rfl

theorem Leaves.trainingPassStart (s : State) (pass : Nat) : HostFrame s (trainingPassStart pass s) :=
  .ite (.withHp (.refl s) rfl) (.refl s)

/-- R122: a pass that ends well sets its flag, and one that fails is in the fault log. -/
theorem Leaves.trainingDone (s : State) (failure : Option (Nat × Nat)) :
    HostFrame s (trainingDone failure s) := by
  unfold Machine.trainingDone
  split
  · exact .refl s
  · dsimp only
    split
    · exact .raiseFault (.withHp (.refl s) rfl)
    · exact .ite (.set (.withHp (.refl s) rfl)) (.withHp (.set (.withHp (.refl s) rfl)) rfl)

theorem ownctlWrite_frame (s : State) (w : Writer) (v m : Nat) : IfSome (HostFrame s) (ownctlWrite w v m s) :=
  .ite .none (.ite (.some (.repeatPasses (.refl s))) (.some (.when (.refl s) (.claim (.refl s)))))

/-- R35: the value written to one field of a slot. -/
theorem Leaves.fieldWrite {fa : FieldAcc} {v m : Nat} (h : HostFrame s t) (hlo : fa.field.lo < 32)
    (hin : fa.field.off / 0x1000 ∈ [0, 2, 3, 8, 0xA]) : HostFrame s (fa.write v m t) := by
  unfold FieldAcc.write
  split
  · exact .set h hlo hin
  · exact h
  · exact h
  · exact .set h hlo hin

/-- R9: a plain write of a slot of the host path changes its fields alone. -/
theorem plainWrite_frame (s : State) (w : Writer) {off : Nat} (v m : Nat)
    (hfields : ∀ fa ∈ slotFields off, fa.field.lo < 32 ∧ fa.field.off / 0x1000 ∈ [0, 2, 3, 8, 0xA]) :
    IfSome (HostFrame s) (s.plainWrite w off v m) := by
  refine .ite (.some (.refl s)) (.ite .none (.some (.foldl (.refl s) fun h fa hfa => ?_)))
  obtain ⟨hlo, hin⟩ := hfields fa (List.mem_of_mem_filter (List.mem_of_mem_filter hfa))
  exact .fieldWrite h hlo hin

theorem eccLockWrite_frame (s : State) (w : Writer) : IfSome (HostFrame s) (eccLockWrite w s) :=
  .ite .none (plainWrite_frame s w _ _ (by decide))

/-- A command of the host path does nothing while the core domain is down. -/
theorem Leaves.whenUp {f : State → State} (h : HostFrame s (f s)) : HostFrame s (s.when s.coreUp f) :=
  .when (.refl s) h

/-- What the obligation asks of a command of the host path, from its frame. -/
theorem whenever_hostFrame {c : Instr} (hexec : exec c s = .next t) (h : HostFrame s t) :
    Whenever c s fun t => KeepsBlocks [0, 2, 3, 8, 0xA] s t ∧ KeepsMemory s t := by
  obtain ⟨hblocks, hmemory, -⟩ := h
  exact .next hexec ⟨hblocks, hmemory⟩

end

/-! ### The fault line (R243 to R248) -/

/-- What the fault line may change. -/
abbrev LineFrame : State → State → Prop := Leaves [0, 2, 7, 0xA] fun s => (s.sv, s.fl)

section
variable {s t : State}

theorem Leaves.withPw {x : Power} (h : LineFrame s t) : LineFrame s { t with pw := x } :=
  h.congr rfl rfl rfl rfl rfl

theorem Leaves.raiseLine {code w5 w6 w7 : Nat} (h : LineFrame s t) : LineFrame s (t.raise code w5 w6 w7) := by
  have hsame := SameUnits.raise t code w5 w6 w7
  exact Leaves.raise h (by decide) (by rw [hsame.sv, hsame.fl])

theorem Leaves.showFaultLine (h : LineFrame s t) : LineFrame s t.showFaultLine := .set (.set h)

theorem Leaves.watchLine (h : LineFrame s t) : LineFrame s t.watchLine :=
  .ite (.ite h (.raiseLine (.withPw h))) (.ite (.raiseLine (.withPw h)) h)

/-- R248: another module's level of the line. -/
theorem Leaves.faultLine (s : State) (low : Bool) : LineFrame s (faultLine low s) :=
  .ite (.refl s) (.watchLine (.showFaultLine (.withPw (.refl s))))

/-- R257: the state of a rail lies in the power block. -/
theorem Leaves.setRailState {k st : Nat} (h : LineFrame s t) (hk : k < 12) : LineFrame s (t.setRailState k st) := by
  have hblock : (PW_RAIL_C.STATE k).off / 0x1000 = 7 := by
    simp only [PW_RAIL_C.STATE]
    omega
  exact .setBlock h hblock (by decide) (Nat.zero_lt_succ 31)

theorem Leaves.healRail {k : Nat} (h : LineFrame s t) (hk : k < 12) : LineFrame s (t.healRail k) :=
  .ite (.withPw (.setRailState h hk)) h

theorem State.railOns_healRail (s : State) (k : Nat) : (s.healRail k).pw.railOns = s.pw.railOns := by
  unfold State.healRail
  split <;> rfl

/-- R257: with no RAIL ON waiting none completes. -/
theorem Leaves.endRailOns {status : Nat} (h : LineFrame s t) (hnone : t.pw.railOns = []) :
    LineFrame s (t.endRailOns status) := by
  rw [State.endRailOns, hnone]
  exact .withPw h

/-- R244: a withdrawal heals the rails of the episode and ends it. -/
theorem Leaves.faultWithdrawal (hnone : s.pw.railOns = []) : LineFrame s (faultWithdrawal s) := by
  unfold Machine.faultWithdrawal
  extract_lets raised healed
  have hraised : LineFrame s raised := .raiseLine (.refl s)
  have hhealed : LineFrame s healed := .foldl hraised fun h k hk => .healRail h (List.mem_range.mp hk)
  have hons : healed.pw.railOns = [] := by
    rw [show healed.pw.railOns = raised.pw.railOns from
      foldl_same (fun u : State => u.pw.railOns) _ State.railOns_healRail _ raised, (SameUnits.raise s _ _ _ _).pw,
      hnone]
  exact .ite (.showFaultLine (.set (.withPw (.when hhealed (.endRailOns hhealed hons))))) (.refl s)

theorem whenever_lineFrame {c : Instr} (hexec : exec c s = .next t) (h : LineFrame s t) :
    Whenever c s fun t => KeepsBlocks [0, 2, 7, 0xA] s t ∧ KeepsMemory s t ∧ t.sv = s.sv ∧ t.fl = s.fl := by
  obtain ⟨hblocks, hmemory, hview⟩ := h
  obtain ⟨hsv, hfl⟩ := Prod.mk.inj hview
  exact .next hexec ⟨hblocks, hmemory, hsv, hfl⟩

end

/-! ### The shadow engine and the flash store (R150 to R177, R212 to R236) -/

/-- What the shadow engine's time-driven work may change. -/
abbrev ShadowFrame : State → State → Prop := Leaves [0, 2, 4, 6, 0xA] fun s => (s.hp, s.pw, s.bt, s.sv)

section
variable {s t : State}

theorem Leaves.setFl {x : Flash} (h : ShadowFrame s t) : ShadowFrame s (t.setFl x) := h.congr rfl rfl rfl rfl rfl

theorem Leaves.withSh {x : Shadow} (h : ShadowFrame s t) : ShadowFrame s { t with sh := x } :=
  h.congr rfl rfl rfl rfl rfl

theorem Leaves.draw (h : ShadowFrame s t) : ShadowFrame s t.draw.2 := h.congr rfl rfl rfl rfl rfl

/-- A register of the shadow engine, of the flash store, or of what an event may change. -/
theorem Leaves.setShadow {f : Field} {v : Nat} (h : ShadowFrame s t)
    (hin : f.off / 0x1000 ∈ [0, 2, 4, 6, 0xA] := by decide) (hlo : f.lo < 32 := by decide) :
    ShadowFrame s (t.set f v) := .set h hlo hin rfl

theorem Leaves.raiseShadow {code w5 w6 w7 : Nat} (h : ShadowFrame s t) : ShadowFrame s (t.raise code w5 w6 w7) := by
  have hsame := SameUnits.raise t code w5 w6 w7
  exact Leaves.raise h (by decide) (by rw [hsame.hp, hsame.pw, hsame.bt, hsame.sv])

theorem Leaves.onTime {deadline : Nat} {f : State → State} (h : ShadowFrame s t)
    (hf : ∀ {u}, ShadowFrame s u → ShadowFrame s (f u)) : ShadowFrame s (t.onTime deadline f) := by
  obtain ⟨n, c, r, hpass⟩ := t.passTo_eq deadline
  have hpassed : ShadowFrame s (t.passTo deadline) := by
    rw [hpass]
    exact h.congr rfl rfl rfl rfl rfl
  exact .ite (hf hpassed) h

/-! #### The flash store -/

theorem Leaves.codewordRead {source : Nat} {c : CodewordRead} (h : ShadowFrame s t) :
    ShadowFrame s (State.codewordRead source t c) :=
  .ite (.when (.setShadow h) (.setShadow (.setShadow h))) (.raiseShadow (.setShadow (.setFl (.setShadow h))))

theorem Leaves.markWeak {k : Nat} (h : ShadowFrame s t) : ShadowFrame s (t.markWeak k) := .ite (.setFl h) h

theorem Leaves.showRate (h : ShadowFrame s t) : ShadowFrame s t.showRate := .setShadow (.setShadow h)

/-- R216, R226, R229: what an operation met. -/
theorem Leaves.flashWork {source : Nat} {tests : Bool} {k : FlashWork} (h : ShadowFrame s t) :
    ShadowFrame s (t.flashWork source tests k) := by
  unfold State.flashWork
  extract_lets read tested
  have hread : ShadowFrame s read := .foldl h fun h _ _ => .codewordRead h
  have htested : ShadowFrame s tested := .when hread (.foldl hread fun h _ _ => .markWeak h)
  exact .ite htested (.showRate (.foldl htested fun h _ _ => .setFl h))

theorem Leaves.eraseStripe {k : Nat} (h : ShadowFrame s t) : ShadowFrame s (t.eraseStripe k) :=
  .setShadow (.setShadow (.setFl h))

theorem Leaves.turnRing {n : Nat} (h : ShadowFrame s t) : ShadowFrame s (t.turnRing n) := by
  refine .ite h (.ite ?_ h)
  split
  · exact .setFl (.eraseStripe h)
  · exact h

theorem Leaves.programCodeword {area owner : Nat} {e : Nat × Option (List Nat)} (h : ShadowFrame s t) :
    ShadowFrame s (State.programCodeword area owner t e) := by
  have hcounted : ShadowFrame s (t.programmed 1 (boolNat (area == 3))) := .setFl h
  unfold State.programCodeword
  dsimp only
  split
  · exact .setFl hcounted
  · exact .setFl (.draw hcounted)

theorem Leaves.programAll {area owner : Nat} {l : List (Nat × Option (List Nat))} (h : ShadowFrame s t) :
    ShadowFrame s (t.programAll area owner l) := .foldl h fun h _ _ => .programCodeword h

/-! #### The journal -/

theorem Leaves.showFill (h : ShadowFrame s t) : ShadowFrame s t.showFill := .setShadow h

theorem Leaves.place (h : ShadowFrame s t) : ShadowFrame s t.place := by
  unfold State.place
  dsimp only
  exact .ite h (.ite (.raiseShadow (.setShadow h)) (.ite h (.withSh h)))

/-- R158, R165: a page in flash, with its barrier recoverable or not. -/
theorem Leaves.writePage (h : ShadowFrame s t) : ShadowFrame s t.writePage := by
  have hprogrammed (n : Nat) (l : List (Nat × Option (List Nat))) :
      ShadowFrame s (((t.setPair SH_JSEQH.JSEQ SH_JSEQL.JSEQ n).turnRing n).programAll 3 n l) :=
    .programAll (.turnRing (.setShadow (.setShadow h)))
  unfold State.writePage
  dsimp only
  refine .place (.showFill ?_)
  split
  · exact .setShadow (.setShadow (.withSh (.setFl (hprogrammed _ _))))
  · exact .withSh (.setFl (hprogrammed _ _))

theorem Leaves.journalPageWritten (s : State) (work : FlashWork) : ShadowFrame s (journalPageWritten work s) :=
  .ite (.writePage (.flashWork (.refl s))) (.refl s)

theorem Leaves.journalPageTimeout (s : State) : ShadowFrame s (journalPageTimeout s) :=
  .ite (.refl s) (.onTime (.refl s) fun h => .withSh h)

theorem Leaves.foldAutoStart (s : State) : ShadowFrame s (foldAutoStart s) :=
  .ite (.setShadow (.withSh (.refl s))) (.refl s)

/-! #### The loops (R162, R170 to R172) -/

theorem Leaves.shadowLoop (h : ShadowFrame s t) : ShadowFrame s t.shadowLoop := by
  unfold State.shadowLoop
  extract_lets d r set calmed stepped
  have hstepped : ShadowFrame s stepped := .withSh (.setShadow (.setShadow h))
  exact .ite (.when hstepped (.raiseShadow hstepped)) h

theorem Leaves.shadowLoopUpdate (s : State) : ShadowFrame s (shadowLoopUpdate s) :=
  .ite (.shadowLoop (.withSh (.refl s))) (.refl s)

/-- R172: an episode changes its bit in SH_STATUS. -/
theorem Leaves.marginEpisode {bit : Field} {below : Bool} {run code which : Nat} (h : ShadowFrame s t)
    (hbit : bit.off / 0x1000 = 4) (hlo : bit.lo < 32) :
    ShadowFrame s (t.marginEpisode bit below run code which).1 := by
  have hset (b : Bool) : ShadowFrame s (t.setFlag bit b) := .setShadow h (by simp [hbit]) hlo
  unfold State.marginEpisode
  split
  · exact .when (hset true) (.raiseShadow (hset true))
  · split
    · split
      · exact .raiseShadow (hset false)
      · exact h
    · exact h

/-- The margin is taken as any function of the state: the kernel would otherwise count its bounds, 2^23 - 1, up in
successors. -/
theorem Leaves.accountHoldup (h : ShadowFrame s t) : ShadowFrame s t.accountHoldup := by
  obtain ⟨margin, hmargin⟩ : ∃ margin, State.saveMargin = margin := ⟨_, rfl⟩
  have hdef : State.accountHoldup = State.accountHoldup := rfl
  conv at hdef => rhs; delta State.accountHoldup; rw [hmargin]
  rw [hdef]
  dsimp only
  exact .withSh (.marginEpisode (.marginEpisode (.setShadow (.setShadow (.setShadow (.setShadow h)))) rfl (by decide))
    rfl (by decide))

theorem Leaves.holdupAccounting (s : State) : ShadowFrame s (holdupAccounting s) :=
  .ite (.accountHoldup (.withSh (.refl s))) (.refl s)

theorem whenever_shadowFrame {c : Instr} (hexec : exec c s = .next t) (h : ShadowFrame s t) : Whenever c s fun t =>
    KeepsBlocks [0, 2, 4, 6, 0xA] s t ∧ KeepsMemory s t ∧ t.hp = s.hp ∧ t.pw = s.pw ∧ t.bt = s.bt ∧ t.sv = s.sv := by
  obtain ⟨hblocks, hmemory, hview⟩ := h
  simp only [Prod.mk.injEq] at hview
  exact .next hexec ⟨hblocks, hmemory, hview⟩

end

/-! ### The obligation -/

/-- Settles O25: the frame of each of the host's commands, of the fault line, and of the shadow engine's work. -/
theorem hostAndPowerFrames : Obligations.HostAndPowerFrames := by
  refine ⟨fun s w rank => ?host, fun s => ?line, fun s => ?shadow⟩
  case host =>
    exact ⟨fun b row => whenever_hostFrame rfl (.whenUp (.hostActPre s rank b row)),
      fun mr v d => whenever_hostFrame rfl (.whenUp (.hostMrs s rank mr v d)),
      whenever_hostFrame rfl (.refl s),
      whenever_hostFrame rfl (.whenUp (.set (.refl s))),
      whenever_hostFrame rfl (.whenUp (.caParityError s rank)),
      fun mts => whenever_hostFrame rfl (.whenUp (.speedWord s mts)),
      whenever_hostFrame rfl (.whenUp (.resetN s)),
      fun p => whenever_hostFrame rfl (.trainingPassStart s p),
      fun f => whenever_hostFrame rfl (.trainingDone s f),
      whenever_hostFrame rfl (.hostRow (ownctlWrite_frame s w 1 3)),
      whenever_hostFrame rfl (.hostRow (ownctlWrite_frame s w 2 3)),
      whenever_hostFrame rfl (.hostRow (eccLockWrite_frame s w))⟩
  case line =>
    exact ⟨whenever_lineFrame rfl (.faultLine s true), whenever_lineFrame rfl (.faultLine s false),
      fun hnone => whenever_lineFrame rfl (.faultWithdrawal hnone)⟩
  case shadow =>
    exact ⟨whenever_shadowFrame rfl (.journalPageTimeout s),
      fun work => whenever_shadowFrame rfl (.journalPageWritten s work),
      whenever_shadowFrame rfl (.foldAutoStart s), whenever_shadowFrame rfl (.shadowLoopUpdate s),
      whenever_shadowFrame rfl (.holdupAccounting s)⟩

end Sys2Proof.Machine

/-! ## What a renewal of the base leaves alone (R156, R201, R219 to R223) -/

namespace Sys2Proof.Machine

set_option Elab.async false

open Reg Host

/-! ### The flash store and the dirty map -/

section
variable {P Q : State → Prop} {s t : State}

theorem IfSome.map {o : Option State} {g : State → State} (ho : IfSome P o) (hg : ∀ {t}, P t → Q (g t)) :
    IfSome Q (o.map g) := by
  intro t e
  obtain ⟨u, hu, rfl⟩ := Option.map_eq_some_iff.mp e
  exact hg (ho u hu)

/-- R227: the erased free stripes. -/
theorem Leaves.eraseFree {n : Nat} (h : ShadowFrame s t) : ShadowFrame s (State.eraseFree n t) := by
  induction n generalizing t with
  | zero => exact h
  | succ n ih =>
      unfold State.eraseFree
      split
      · exact ih (.setFl (.eraseStripe h))
      · exact h

theorem Leaves.keepErased (h : ShadowFrame s t) : ShadowFrame s t.keepErased :=
  .setShadow (.when h (.eraseFree h))

theorem Leaves.pickStripe {n : Nat} {u : State} (h : ShadowFrame s t) (e : t.pickStripe = some (n, u)) :
    ShadowFrame s u := by
  obtain ⟨k, -, hk⟩ := Option.map_eq_some_iff.mp e
  cases hk
  exact .setFl (.ite h (.eraseStripe h))

theorem takeStripes_frame {use : StripeUse} {n : Nat} (h : ShadowFrame s t) :
    IfSome (ShadowFrame s) (State.takeStripes use n t) := by
  induction n generalizing t with
  | zero => exact .some h
  | succ n ih =>
      intro v e
      obtain ⟨u, hu, hv⟩ := Option.bind_eq_some_iff.mp e
      obtain ⟨⟨k, w⟩, hw, rfl⟩ := Option.map_eq_some_iff.mp hu
      exact ih (.setFl (.pickStripe h hw)) v hv

theorem writeGeneration_frame {gen : Nat} {m : Image} (h : ShadowFrame s t) :
    IfSome (ShadowFrame s) (t.writeGeneration gen m) :=
  .map (takeStripes_frame h) fun h => .programAll (.programAll (.setFl h))

/-- R222, R223: the root record goes to flash and to MRAM. -/
theorem Leaves.updateRoot {was : Flash} {slot cut : Nat} (h : ShadowFrame s t) :
    ShadowFrame s (t.updateRoot was slot cut) := by
  unfold State.updateRoot
  split
  · exact .programAll (.setFl (.setFl h))
  · exact h

theorem Leaves.switchBase {was : Flash} {cut : Nat} (h : ShadowFrame s t) : ShadowFrame s (t.switchBase was cut) := by
  have hrenamed : ShadowFrame s (((t.dropUse .generation).dropUse .carried).renameUse .next .generation) :=
    .setFl (.setFl (.setFl h))
  exact .keepErased (.updateRoot (.setFl (.ite (.setFl hrenamed) hrenamed)))

theorem Leaves.dropSave (h : ShadowFrame s t) : ShadowFrame s t.dropSave := .setFl (.setFl (.setFl h))

/-- R176: the dirty counts lie in the shadow engine's block. -/
theorem Leaves.showDirty (h : ShadowFrame s t) : ShadowFrame s t.showDirty := by
  refine .foldl (.setShadow (.setShadow h)) fun {u} hu k hk => .ite (.setShadow hu ?_ (Nat.zero_lt_succ 31)) hu
  have hk64 : k < 64 := List.mem_range.mp hk
  have hblock : (SH_RG_C.DIRTY k).off / 0x1000 = 4 := by
    simp only [SH_RG_C.DIRTY]
    omega
  simp [hblock]

theorem Leaves.relieveJournal (h : ShadowFrame s t) : ShadowFrame s t.relieveJournal :=
  .ite (.place (.raiseShadow (.setShadow (.showFill h)))) (.showFill h)

end

/-! ### The host path's own state -/

/-- The registers of the host path's block but HP_STATUS.BASE. -/
def hostField (g : Field) : Prop := g.lo < 32 ∧ g.off / 0x1000 = 3 ∧ g.key ≠ HP_STATUS.BASE.key

/-- From `s` to `t` the host path has kept its state and its registers, but for HP_STATUS.BASE. -/
structure HostKept (s t : State) : Prop where
  hp : t.hp = s.hp
  get : ∀ g, hostField g → t.get g = s.get g

section
variable {s t u : State}

theorem HostKept.refl (s : State) : HostKept s s := ⟨rfl, fun _ _ => rfl⟩

theorem HostKept.trans (h : HostKept s t) (h' : HostKept t u) : HostKept s u :=
  ⟨h'.hp.trans h.hp, fun g hg => (h'.get g hg).trans (h.get g hg)⟩

/-- An update of neither the registers nor the host path. -/
theorem HostKept.congr (h : HostKept s t) (hhp : u.hp = t.hp) (hregs : u.regs = t.regs) : HostKept s u :=
  h.trans ⟨hhp, fun g _ => by rw [State.get, hregs, State.get]⟩

/-- The work of the shadow engine and of the flash store is none of the host path's. -/
theorem HostKept.shadow (h : HostKept s t) (hu : ShadowFrame t u) : HostKept s u := by
  obtain ⟨hblocks, -, hview⟩ := hu
  refine h.trans ⟨congrArg Prod.fst hview, fun g ⟨hlo, hblock, _⟩ => hblocks g hlo ?_⟩
  rw [hblock]
  decide

theorem HostKept.withPw {x : Power} (h : HostKept s t) : HostKept s { t with pw := x } := h.congr rfl rfl
theorem HostKept.withMn {x : Monitors} (h : HostKept s t) : HostKept s { t with mn := x } := h.congr rfl rfl
theorem HostKept.withBt {x : Battery} (h : HostKept s t) : HostKept s { t with bt := x } := h.congr rfl rfl
theorem HostKept.withSh {x : Shadow} (h : HostKept s t) : HostKept s { t with sh := x } := h.congr rfl rfl
theorem HostKept.withAe {x : Analytics} (h : HostKept s t) : HostKept s { t with ae := x } := h.congr rfl rfl
theorem HostKept.setFl {x : Flash} (h : HostKept s t) : HostKept s (t.setFl x) := h.congr rfl rfl
theorem HostKept.setRecord {r : SaveRecord} (h : HostKept s t) : HostKept s (t.setRecord r) := h.congr rfl rfl

theorem HostKept.ite {c : Prop} [Decidable c] (ht : HostKept s t) (hu : HostKept s u) :
    HostKept s (if c then t else u) := by
  split
  · exact ht
  · exact hu

theorem HostKept.when {b : Bool} {f : State → State} (h : HostKept s t) (hf : HostKept s (f t)) :
    HostKept s (t.when b f) := by
  cases b
  · exact h
  · exact hf

theorem HostKept.foldl {α : Type} {f : State → α → State} {l : List α} (h : HostKept s t)
    (hf : ∀ {u} x, HostKept s u → HostKept s (f u x)) : HostKept s (l.foldl f t) :=
  List.foldlRecOn (motive := HostKept s) l f h fun _ hu x _ => hf x hu

/-- A register of another block. -/
theorem HostKept.set {f : Field} {v : Nat} (h : HostKept s t) (hout : f.off / 0x1000 ≠ 3 := by decide)
    (hlo : f.lo < 32 := by decide) : HostKept s (t.set f v) := by
  refine h.trans ⟨rfl, fun g ⟨hg, hblock, _⟩ => State.get_set_ne t v fun hkey => hout ?_⟩
  simp only [Field.key] at hkey
  omega

/-- A register of a table in a block above the host path's. -/
theorem HostKept.setTable {base n lo width reset v : Nat} (h : HostKept s t) (hbase : 0x4000 ≤ base := by decide)
    (hlo : lo < 32 := by decide) : HostKept s (t.set ⟨base + n, lo, width, reset⟩ v) :=
  h.set (by simp only; omega) hlo

theorem HostKept.setBase {v : Nat} (h : HostKept s t) : HostKept s (t.set HP_STATUS.BASE v) :=
  h.trans ⟨rfl, fun _ ⟨_, _, hbase⟩ => State.get_set_ne t v hbase⟩

/-- R331: no register of the host path is an event's. -/
theorem HostKept.raise {code w5 w6 w7 : Nat} (h : HostKept s t) : HostKept s (t.raise code w5 w6 w7) :=
  h.trans ⟨(SameUnits.raise t _ _ _ _).hp, fun _ ⟨hlo, hblock, _⟩ =>
    State.get_raise (not_eventField hlo (by omega) (by omega) (by omega)) t _ _ _ _⟩

/-! #### Completions (R79, R80, R101) -/

/-- A completion shows in the registers, in the memories, in its queue and in its ring alone. -/
theorem State.post_same {α : Type} {view : State → α} (hset : ∀ t f v, view (t.set f v) = view t)
    (hslot : ∀ t off v, view (t.setSlot off v) = view t) (hqueue : ∀ t m x, view (t.setQueue m x) = view t)
    (hring : ∀ t r x, view (t.setRing r x) = view t) (s : State) (c : OpRef) (status result : Nat) :
    view (s.post c status result) = view s := by
  have hslots (l : List Nat) (t : State) (off : Nat) : view (t.setSlots off l) = view t := by
    induction l generalizing t off with
    | nil => rw [State.setSlots]
    | cons w l ih => rw [State.setSlots, ih, hslot]
  have hevaluate (t : State) (m : Nat) : view (t.cqEvaluate m) = view t := by
    unfold State.cqEvaluate State.when
    split
    · exact hset t _ _
    · rfl
  have hwrite (t : State) (c : OpRef) (status result : Nat) : view (t.cqWrite c status result) = view t := by
    simp only [State.cqWrite, State.add_eq, hevaluate, hset, hqueue, hslots]
  unfold State.post State.fenceRelease
  split
  · split
    · rw [hwrite, hring, hwrite]
    · exact hwrite s c status _
  · exact hwrite s c status _

theorem State.hp_post (s : State) (c : OpRef) (status result : Nat) : (s.post c status result).hp = s.hp :=
  State.post_same (view := State.hp) (fun _ _ _ => rfl) (fun _ _ _ => rfl) (fun _ _ _ => rfl) (fun _ _ _ => rfl) s c _ _

theorem State.clock_post (s : State) (c : OpRef) (status result : Nat) : (s.post c status result).clock = s.clock :=
  State.post_same (view := State.clock) (fun _ _ _ => rfl) (fun _ _ _ => rfl) (fun _ _ _ => rfl) (fun _ _ _ => rfl) s c
    _ _

/-- R87: no register of the host path is a completion's. -/
theorem hostField_not_postField {g : Field} (hg : hostField g) : ¬ postField g := by
  obtain ⟨hlo, hblock, -⟩ := hg
  simp only [postField, Field.key, QU_CQTAIL.TAIL, QU_CQRES.RESV, QU_OUT.OUT, QU_EVPEND.CQ]
  omega

theorem HostKept.post {c : OpRef} {status result : Nat} (h : HostKept s t) : HostKept s (t.post c status result) :=
  h.trans ⟨t.hp_post c status result, fun _ hg => t.get_post c status result (hostField_not_postField hg)⟩

theorem HostKept.postAll {l : List (OpRef × Nat × Nat)} (h : HostKept s t) : HostKept s (t.postAll l) :=
  .foldl h fun _ h => .post h

theorem HostKept.postOpt {c : Option OpRef} {status result : Nat} (h : HostKept s t) :
    HostKept s (t.postOpt c status result) := by
  cases c
  · exact h
  · exact .post h

/-! #### Renewal (R156) -/

theorem HostKept.flashWork {source : Nat} {tests : Bool} {k : FlashWork} (h : HostKept s t) :
    HostKept s (t.flashWork source tests k) := h.shadow (.flashWork (.refl t))

theorem HostKept.abandonFold {cause status : Nat} (h : HostKept s t) : HostKept s (t.abandonFold cause status) := by
  unfold State.abandonFold
  split
  · exact h
  · exact .postOpt (.raise (.set (.withSh h)))

theorem HostKept.beginEpoch {base : Image} {dirty : List Nat} (h : HostKept s t) :
    HostKept s (t.beginEpoch base dirty) :=
  .setRecord (.set (.setBase (.set (.setFl (.withSh (.set (.set (.set (.abandonFold h)))))))))

theorem HostKept.fencesDone (h : HostKept s t) : HostKept s t.fencesDone := .postAll (.withSh h)

theorem HostKept.place (h : HostKept s t) : HostKept s t.place := h.shadow (.place (.refl t))

theorem HostKept.endRenewal {cause : Nat} (h : HostKept s t) : HostKept s (t.endRenewal cause) :=
  .place (.fencesDone (.shadow h (.relieveJournal (.raiseShadow (.showDirty (.refl t))))))

theorem HostKept.switchBase {was : Flash} {cut : Nat} (h : HostKept s t) : HostKept s (t.switchBase was cut) :=
  h.shadow (.switchBase (.refl t))

/-- R156, R221: the renewal of the base, where the store has room for it. -/
theorem renew_hostKept {cause : Nat} {base : Image} {dirty : List Nat} (h : HostKept s t) :
    IfSome (HostKept s) (t.renew cause base dirty) :=
  .map (writeGeneration_frame (.refl t)) fun hw =>
    .endRenewal (.switchBase (.setFl (.set (.beginEpoch (h.shadow hw)))))

/-- R136, R196: the image that a CLAIM passed over. -/
theorem HostKept.discardImage (h : HostKept s t) : HostKept s t.discardImage := by
  have hdropped (x : SaveRecord) (fl : Flash) :
      HostKept s ((((t.set SV_STATUS.IMAGE 0).setRecord x).setFl fl).dropSave) :=
    .shadow (.setFl (.setRecord (.set h))) (.dropSave (.refl _))
  exact .ite h (.raise (hdropped _ _))

/-! #### Captures (R129, R154, R463) -/

theorem HostKept.markDirty {p : Nat} (h : HostKept s t) : HostKept s (t.markDirty p) :=
  .ite h (.shadow (.withSh h) (.showDirty (.refl _)))

theorem HostKept.freeze {cause p : Nat} (h : HostKept s t) : HostKept s (t.freeze cause p) :=
  .ite h (.raise (.setRecord (.set h)))

theorem HostKept.overflow {p : Nat} (h : HostKept s t) : HostKept s (t.overflow p) := by
  have hmarked : HostKept s ((t.add SH_OVERFLOWS.COUNT 1).markDirty p) := .markDirty (.set h)
  exact .freeze (.when (.withSh hmarked) (.raise (.withSh hmarked)))

/-- R154: a capture joins the line it merges with, enters the order, or overflows. -/
theorem HostKept.capture {addr : Nat} {bytes : Sparse Nat} (h : HostKept s t) : HostKept s (t.capture addr bytes) := by
  unfold State.capture
  dsimp only
  refine .ite (.ite h ?_) (.markDirty h)
  split
  · exact .withSh (.withSh h)
  · exact .ite (.overflow (.withSh h)) (.place (.withSh (.withSh h)))

theorem HostKept.setWindow {k : Nat} {x : AeWindow} (h : HostKept s t) : HostKept s (t.setWindow k x) :=
  .setTable (.setTable (.withAe h))

theorem HostKept.frameRoom {k : Nat} (h : HostKept s t) : HostKept s (t.frameRoom k) := by
  unfold State.frameRoom
  dsimp only
  refine .ite h ?_
  split
  · exact h
  · exact .raise (.setTable (.setWindow h))

theorem HostKept.joinLine {k : Nat} (h : HostKept s t) : HostKept s (t.joinLine k) := by
  unfold State.joinLine
  split
  · exact h
  · next bytes time qual rest hfifo =>
      have hroom : HostKept s (if ((t.setWindow k { t.aeWindow k with fifo := rest }).aeWindow k).part = [] then
          (t.setWindow k { t.aeWindow k with fifo := rest }).frameRoom k
          else t.setWindow k { t.aeWindow k with fifo := rest }) := .ite (.frameRoom (.setWindow h)) (.setWindow h)
      exact .ite (.setWindow hroom) (.setWindow (.setTable hroom))

theorem HostKept.joinLines {k n : Nat} (h : HostKept s t) : HostKept s (State.joinLines k n t) := by
  induction n generalizing t with
  | zero => exact h
  | succ n ih => exact ih (.joinLine h)

theorem HostKept.drainWindows (h : HostKept s t) : HostKept s t.drainWindows :=
  .foldl h fun _ h => .ite h (.joinLines (.setWindow h))

/-- R463: a captured line in an ingest window. -/
theorem HostKept.ingest {addr : Nat} {bytes : List Nat} {full : Bool} (h : HostKept s t) :
    HostKept s (t.ingest addr bytes full) := by
  unfold State.ingest
  split
  · exact h
  · refine .ite (.setTable h) ?_
    have hdrained : HostKept s t.drainWindows := .drainWindows h
    exact .ite (.setWindow hdrained) (.ite (.setTable hdrained) (.raise (.setWindow (.setTable hdrained))))

/-! #### STANDBY (R251 to R253) -/

theorem HostKept.showFaultLine (h : HostKept s t) : HostKept s t.showFaultLine := .set (.set h)

theorem HostKept.marginsNominal (h : HostKept s t) : HostKept s t.marginsNominal :=
  .postAll (.foldl (.withPw h) fun _ h => .ite h (.setTable (.withPw (.withPw h))))

theorem HostKept.setChannelBit {f0 f1 : Field} {n : Nat} {b : Bool} (h : HostKept s t)
    (h0 : f0.off / 0x1000 ≠ 3 := by decide) (hlo0 : f0.lo < 32 := by decide) (h1 : f1.off / 0x1000 ≠ 3 := by decide)
    (hlo1 : f1.lo < 32 := by decide) : HostKept s (t.setChannelBit f0 f1 n b) :=
  .ite (.set h h0 hlo0) (.set h h1 hlo1)

theorem HostKept.dropFlags (h : HostKept s t) : HostKept s t.dropFlags :=
  .foldl h fun _ h => .ite (.withMn (.setChannelBit (.setChannelBit h))) h

theorem HostKept.followPath (h : HostKept s t) : HostKept s t.followPath := .ite h (.withBt h)

theorem HostKept.enterState {new cause : Nat} (h : HostKept s t) : HostKept s (t.enterState new cause) :=
  .showFaultLine (.followPath (.dropFlags (.raise (.set (.set (.when h (.marginsNominal h)))))))

/-- R242: the release of EN11, which is neither EN0, EN2 nor EN10. -/
theorem HostKept.releaseAux (h : HostKept s t) : HostKept s (t.releaseRail 11) := by
  have hretuned (x : Rail) :
      HostKept s ((((t.setMaskBit PW_ON.EN 11 false).setRailState 11 railStopping).setRail 11 x).retune 11) :=
    .setTable (.setTable (.withPw (.setTable (.set h))))
  exact hretuned _

/-- R253: with the DRAM in other hands than the host's, STANDBY leaves its owner alone. -/
theorem HostKept.enterStandby {cause : Nat} (h : HostKept s t) (hown : t.own ≠ 0) :
    HostKept s (t.enterStandby cause) := by
  have howner : (t.own == 0) = false := by simpa using hown
  have hentered : HostKept s (t.enterState standby cause) := .enterState h
  unfold State.enterStandby
  rw [howner]
  exact .when hentered (.releaseAux hentered)

theorem HostKept.endStandbys (h : HostKept s t) (hown : t.own ≠ 0) : HostKept s t.endStandbys :=
  .ite h (.postAll (.enterStandby (.withPw h) hown))

end

end Sys2Proof.Machine

/-! ## The bytes of the DRAM, and the host's READs and WRITEs (R119, R120, R123, R132, R141) -/

namespace Sys2Proof

variable {α : Type}

/-- A find in a sparse map of which only some keys are left. -/
theorem sparseFind_filter (p : Nat → Bool) (k : Nat) (l : Sparse α) :
    sparseFind k (l.filter fun e => p e.1) = if p k then sparseFind k l else none := by
  induction l with
  | nil => simp [sparseFind]
  | cons e l ih =>
      obtain ⟨j, v⟩ := e
      by_cases hjk : k = j
      · subst hjk
        cases hp : p k <;> simp_all [sparseFind]
      · cases hp : p j <;> simp_all [sparseFind]

end Sys2Proof

namespace Sys2Proof.Machine

set_option Elab.async false

open Reg Host

/-! ### An image (R119, R125, R136) -/

section
variable {m : Image}

theorem Image.defaultByte_eq_zero {a : Nat} (h : m.zeroByDefault a = true) : m.defaultByte a = 0 := by
  unfold Image.zeroByDefault at h
  unfold Image.defaultByte
  split at h
  · cases h
  · rfl

/-- R119: the byte written, and every other one as before. -/
theorem Image.byte_write (m : Image) (a v b : Nat) : (m.write a v).byte b = if b = a then v % 256 else m.byte b := by
  unfold Image.write
  split
  · next hzero =>
      obtain ⟨hv, hdefault⟩ := hzero
      by_cases hb : b = a
      · subst hb
        simp only [Image.byte, sparseFind_drop_same, if_pos, hv]
        exact Image.defaultByte_eq_zero hdefault
      · simp only [Image.byte, sparseFind_drop_ne m.cells hb, if_neg hb]
        rfl
  · by_cases hb : b = a
    · subst hb
      simp only [Image.byte, sparseFind_put_same, if_pos, BitVec.toNat_ofNat]
    · simp only [Image.byte, sparseFind_put_ne _ m.cells hb, if_neg hb]
      rfl

/-- R119: the bytes of `d` at the places `is` from `base` on. -/
theorem Image.byte_writes (base : Nat) (d : Nat → Nat) (is : List Nat) (m : Image) (b : Nat) :
    (m.writes (is.map fun i => (base + i, d i))).byte b =
      if base ≤ b ∧ b - base ∈ is then d (b - base) % 256 else m.byte b := by
  induction is generalizing m with
  | nil => simp [Image.writes]
  | cons i is ih =>
      rw [List.map_cons, Image.writes, ih, Image.byte_write]
      by_cases hb : b = base + i
      · have hi : b - base = i := by omega
        simp [hb]
      · have hi : base ≤ b → b - base ≠ i := fun _ => by omega
        by_cases hbase : base ≤ b <;> simp [hb, hbase, hi]

theorem Image.byte_writeCheck (m : Image) (b v a : Nat) : (m.writeCheck b v).byte a = m.byte a := by
  unfold Image.writeCheck
  split <;> rfl

/-- R125, R136: a byte of a filled range reads zero. -/
theorem Image.byte_fill (m : Image) {f : Fill} {a p : Nat} (ha : f.covers a = true) (hpat : f.pat = some p) :
    (m.fill f).byte a = 0 := by
  obtain ⟨first, len, pat, gen⟩ := f
  subst hpat
  have hcells : sparseFind a (m.fill ⟨first, len, some p, gen⟩).cells = none := by
    rw [Image.fill, sparseFind_filter (fun k => !Fill.covers ⟨first, len, some p, gen⟩ k), ha]
    rfl
  have hfill : (m.fill ⟨first, len, some p, gen⟩).fillAt a = some ⟨first, len, some p, gen⟩ :=
    List.find?_cons_of_pos ha
  simp only [Image.byte, hcells, Image.defaultByte, hfill]

end

/-! ### READ -/

section
variable {s : State}

/-- The draws of open values change their count alone. -/
theorem State.drawBytes_eq (n : Nat) (s : State) : ∃ k, (State.drawBytes n s).2 = { s with freeCount := k } := by
  induction n generalizing s with
  | zero => exact ⟨s.freeCount, rfl⟩
  | succ n ih =>
      obtain ⟨k, hk⟩ := ih s.draw.2
      exact ⟨k, hk⟩

/-- What the device absorbs changes no memory and is counted (R132). -/
def Absorbed (s t : State) : Prop :=
  t.hp.dram = s.hp.dram ∧ t.slots = s.slots ∧
    t.get HP_ABSORBED.COUNT = (s.get HP_ABSORBED.COUNT + 1) % 2 ^ HP_ABSORBED.COUNT.width

theorem absorbed_add (s : State) : Absorbed s (s.add HP_ABSORBED.COUNT 1) := ⟨rfl, rfl, s.get_set_same _ _⟩

theorem Absorbed.answers {t : State} (h : Absorbed s t) (bytes checks : List Nat) :
    Absorbed s (t.answers bytes checks) := h

theorem Absorbed.drawBytes {t : State} (h : Absorbed s t) (n : Nat) : Absorbed s (State.drawBytes n t).2 := by
  obtain ⟨k, hk⟩ := t.drawBytes_eq n
  rw [hk]
  exact h

/-! #### Whose an access is (R132, R141) -/

/-- R132: an access to an open bank of the host's DRAM, outside the aperture. -/
theorem State.hostTarget_dram {a : Nat} (write : Bool) (hown : s.own = 0) (hdeaf : s.hp.deafUntil ≤ s.clock)
    (hout : s.inAperture a = false) : s.hostTarget a true write = .dram := by
  simp [State.hostTarget, hown, hout, Nat.not_lt.mpr hdeaf]

theorem State.hostTarget_blocked (a : Nat) (opened write : Bool) (hown : s.own = 1)
    (hblock : s.flag HP_OWN.BLOCK = true) (hdeaf : s.hp.deafUntil ≤ s.clock) :
    s.hostTarget a opened write = .absorbed := by
  simp [State.hostTarget, hown, hblock, Nat.not_lt.mpr hdeaf]

/-- R132, R141: in LENT and HELD, and within 4 µs of a reclaiming SRX. -/
theorem State.hostTarget_refreshing (a : Nat) (opened write : Bool)
    (h : s.own = 2 ∨ s.own = 3 ∨ s.clock < s.hp.deafUntil) : s.hostTarget a opened write = .refreshing := by
  unfold State.hostTarget
  split
  · rfl
  · next hdeaf =>
      have hown : s.own = 2 ∨ s.own = 3 := by tauto
      rcases hown with hown | hown <;> simp [hown]

/-! #### Its result -/

theorem exec_hostRead (hup : s.coreUp = true) (rank bank col first beats : Nat) :
    exec (.hostRead rank bank col first beats) s = hostRead rank bank col first beats s := if_pos hup

/-- R123: where a burst begins. -/
def State.burstBase (s : State) (rank bank col first beats : Nat) : Nat :=
  s.lineAddress rank ((sparseFind (bankKey rank bank) s.hp.rows).getD 0) bank col + 8 * burstFirst first beats

variable {rank bank col first beats : Nat}

/-- R132: a READ of an open bank of the host's DRAM. -/
theorem completes_hostRead_dram (hup : s.coreUp = true) (hown : s.own = 0) (hdeaf : s.hp.deafUntil ≤ s.clock)
    (hopen : (sparseFind (bankKey rank bank) s.hp.rows).isSome = true)
    (hout : s.inAperture (s.burstBase rank bank col first beats) = false)
    (hin : s.burstBase rank bank col first beats < s.dramBytes) :
    Completes (.hostRead rank bank col first beats) s fun t =>
      t.hp.answer = s.hp.dram.read (s.burstBase rank bank col first beats) (8 * burstBeats beats) ∧
        { t with hp := s.hp } = s ∧ t.hp.dram = s.hp.dram := by
  have htarget : s.hostTarget (s.burstBase rank bank col first beats) true false = .dram :=
    State.hostTarget_dram false hown hdeaf hout
  refine ⟨s.answers (s.hp.dram.read (s.burstBase rank bank col first beats) (8 * burstBeats beats))
    ((List.range (8 * burstBeats beats / 8)).map fun i =>
      s.hp.dram.check (s.burstBase rank bank col first beats / 8 + i)), ?_, rfl, rfl, rfl⟩
  rw [exec_hostRead hup, hostRead]
  dsimp only
  rw [hopen, ← State.burstBase, htarget]
  exact if_pos hin

/-- R132: in DEVICE with BLOCK 1 a READ reads zeros. -/
theorem completes_hostRead_blocked (hup : s.coreUp = true) (hown : s.own = 1) (hblock : s.flag HP_OWN.BLOCK = true)
    (hdeaf : s.hp.deafUntil ≤ s.clock) : Completes (.hostRead rank bank col first beats) s fun t =>
      t.hp.answer = List.replicate (8 * burstBeats beats) 0 ∧ Absorbed s t := by
  refine ⟨(s.add HP_ABSORBED.COUNT 1).answers (zeros (8 * burstBeats beats))
    (s.checksOf (zeros (8 * burstBeats beats))), ?_, rfl, (absorbed_add s).answers _ _⟩
  rw [exec_hostRead hup, hostRead]
  dsimp only
  rw [s.hostTarget_blocked _ _ _ hown hblock hdeaf]

/-- R132, R141: a READ that the host was bound not to issue. -/
theorem completes_hostRead_refreshing (hup : s.coreUp = true)
    (h : s.own = 2 ∨ s.own = 3 ∨ s.clock < s.hp.deafUntil) :
    Completes (.hostRead rank bank col first beats) s (Absorbed s) := by
  rw [Completes, exec_hostRead hup, hostRead]
  dsimp only
  rw [s.hostTarget_refreshing _ _ _ h]
  exact ⟨_, rfl, (((absorbed_add s).drawBytes _).drawBytes _).answers _ _⟩

/-! ### WRITE -/

theorem exec_hostWrite (hup : s.coreUp = true) (data : List Nat) (mask : Nat) (check : List Nat) :
    exec (.hostWrite rank bank col first beats data mask check) s =
      hostWrite rank bank col first beats data mask check s := if_pos hup

/-- R120, R132: a WRITE that the device absorbs, whether or not write CRC absorbs it before. -/
theorem completes_hostWrite_absorbed {data check : List Nat} {mask : Nat} (hup : s.coreUp = true)
    (htarget : ∀ a opened, s.hostTarget a opened true = .absorbed ∨ s.hostTarget a opened true = .refreshing) :
    Completes (.hostWrite rank bank col first beats data mask check) s (Absorbed s) := by
  refine ⟨s.add HP_ABSORBED.COUNT 1, ?_, absorbed_add s⟩
  rw [exec_hostWrite hup, hostWrite]
  split
  · rfl
  · rcases htarget (s.lineAddress rank ((sparseFind (bankKey rank bank) s.hp.rows).getD 0) bank col)
      (sparseFind (bankKey rank bank) s.hp.rows).isSome with h | h <;> rw [h]

/-- R119: the bytes of the DRAM after a burst. -/
theorem State.byte_dramWrite (s : State) (b : Burst) (a : Nat) : (s.dramWrite b).hp.dram.byte a =
    if b.line + b.first ≤ a ∧ a < b.line + b.first + b.data.length ∧ bitOf b.mask (a - (b.line + b.first)) = true
    then b.data.getD (a - (b.line + b.first)) 0 % 256 else s.hp.dram.byte a := by
  have hbytes : (b.bytes.map fun e => (b.line + e.1, e.2)) = ((List.range b.data.length).filter fun i =>
      bitOf b.mask i).map fun i => (b.line + b.first + i, b.data.getD i 0 % 256) := by
    simp only [Burst.bytes, List.map_map, Function.comp_def, Nat.add_assoc]
  have hchecks (l : List Nat) (m : Image) : (l.foldl (fun (m : Image) j =>
      m.writeCheck ((b.line + b.first) / 8 + j) (b.check.getD j 0)) m).byte a = m.byte a :=
    foldl_same (fun m : Image => m.byte a) _ (fun m _ => m.byte_writeCheck _ _ a) l m
  simp only [State.dramWrite, hchecks, hbytes, Image.byte_writes, List.mem_filter, List.mem_range, Nat.mod_mod]
  exact if_congr ⟨fun ⟨hlo, hlen, hbit⟩ => ⟨hlo, by omega, hbit⟩, fun ⟨hlo, hhi, hbit⟩ => ⟨hlo, by omega, hbit⟩⟩
    rfl rfl

theorem State.dram_checkWrite (s : State) (b : Burst) : (s.checkWrite b).hp.dram = s.hp.dram := by
  have hraise (t : State) (first : Bool) (n : Nat) :
      (t.when first (·.raise 0x184 (b.line / 2 ^ 12) n 0)).hp.dram = t.hp.dram := by
    cases first
    · rfl
    · rw [State.when, if_pos rfl, (SameUnits.raise t _ _ _ _).hp]
  unfold State.checkWrite
  extract_lets n
  split
  · rfl
  · exact hraise _ _ _

/-- R129: what the device does with a captured write changes no byte. -/
theorem State.dram_captured (s : State) (b : Burst) : (s.captured b).hp.dram = s.hp.dram := by
  have hkept : HostKept (s.checkWrite b) (s.captured b) := .ingest (.capture (.refl _))
  rw [hkept.hp, s.dram_checkWrite b]

/-- R120: the enabled bytes among the 64 of a line: all of them on a module of x4 devices. -/
theorem State.bitOf_writeMask (s : State) (mask : Nat) {i : Nat} (hi : i < 64) :
    bitOf (s.writeMask mask) i = true ↔ s.get HP_CONFIG.WIDTH = 1 ∨ bitOf mask i = true := by
  unfold State.writeMask
  split
  · next hwidth =>
      have hbit : (2 ^ 64 - 1).testBit i = true := (Nat.testBit_two_pow_sub_one 64 i).trans (decide_eq_true hi)
      rw [Nat.testBit_eq_decide_div_mod_eq] at hbit
      exact iff_of_true (beq_iff_eq.mpr (of_decide_eq_true hbit)) (.inl hwidth)
  · next hwidth => simp [hwidth]

/-- R119, R132: a WRITE of an open bank of the host's DRAM. -/
theorem completes_hostWrite_dram {data check : List Nat} {mask row : Nat} (hup : s.coreUp = true) (hown : s.own = 0)
    (hdeaf : s.hp.deafUntil ≤ s.clock) (hcrc : s.crcEnabled rank = false) (hlen : data.length = 8 * burstBeats beats)
    (hrow : sparseFind (bankKey rank bank) s.hp.rows = some row)
    (hout : s.inAperture (s.lineAddress rank row bank col) = false)
    (hin : s.lineAddress rank row bank col < s.dramBytes) :
    Completes (.hostWrite rank bank col first beats data mask check) s fun t => ∀ a, t.hp.dram.byte a =
      if s.lineAddress rank row bank col + 8 * burstFirst first beats ≤ a ∧
          a < s.lineAddress rank row bank col + 8 * burstFirst first beats + data.length ∧
          (s.get HP_CONFIG.WIDTH = 1 ∨
            bitOf mask (a - (s.lineAddress rank row bank col + 8 * burstFirst first beats)) = true)
      then data.getD (a - (s.lineAddress rank row bank col + 8 * burstFirst first beats)) 0 % 256
      else s.hp.dram.byte a := by
  have htarget : s.hostTarget (s.lineAddress rank row bank col) true true = .dram :=
    State.hostTarget_dram true hown hdeaf hout
  have hbeats : data.length ≤ 64 := by
    rw [hlen, burstBeats]
    split <;> omega
  have htake : data.take (8 * burstBeats beats) = data := by rw [← hlen, List.take_length]
  generalize hb :
    Burst.mk (s.lineAddress rank row bank col) (8 * burstFirst first beats) data (s.writeMask mask) check = b
  refine ⟨(s.dramWrite b).captured b, ?_, fun a => ?_⟩
  · rw [exec_hostWrite hup, hostWrite]
    rw [hrow, hcrc, htake, Option.getD_some, Option.isSome_some, htarget, hb, hown]
    simp [hin]
  · rw [State.dram_captured, State.byte_dramWrite, ← hb]
    dsimp only
    refine if_congr ⟨fun ⟨hlo, hhi, hbit⟩ => ⟨hlo, hhi, ?_⟩, fun ⟨hlo, hhi, hbit⟩ => ⟨hlo, hhi, ?_⟩⟩ rfl rfl
    · exact (s.bitOf_writeMask mask (by omega)).mp hbit
    · exact (s.bitOf_writeMask mask (by omega)).mpr hbit

end

/-- Settles O21: a WRITE reaches the DRAM byte by byte where the host owns it, and otherwise the device absorbs it. -/
theorem hostAccessResults : Obligations.HostAccessResults := by
  constructor
  · intro s rank bank col first beats mask data check hup hown hdeaf hcrc hlen row hrow line base hout hin
    exact completes_hostWrite_dram hup hown hdeaf hcrc hlen hrow hout hin
  · intro s rank bank col first beats mask data check hup row absorbed line n
    refine ⟨?owned, ?blocked, ?refreshing⟩
    case owned => exact fun hown hdeaf hopen hout hin => completes_hostRead_dram hup hown hdeaf hopen hout hin
    case blocked =>
      exact fun hown hblock hdeaf => ⟨completes_hostRead_blocked hup hown hblock hdeaf,
        completes_hostWrite_absorbed hup fun a opened => .inl (s.hostTarget_blocked a opened true hown hblock hdeaf)⟩
    case refreshing =>
      exact fun h => ⟨completes_hostRead_refreshing hup h,
        completes_hostWrite_absorbed hup fun a opened => .inr (s.hostTarget_refreshing a opened true h)⟩

end Sys2Proof.Machine

/-! ## What the host's other commands record (R120, R121, R124, R133, R138, R139, R141) -/

namespace Sys2Proof

set_option Elab.async false

/-! ### Bits -/

theorem bitOf_eq_testBit (n i : Nat) : bitOf n i = n.testBit i := by
  rw [bitOf, Nat.testBit_eq_decide_div_mod_eq]
  rfl

theorem bitOf_setBit_same (n i : Nat) : bitOf (setBit n i) i = true := by
  unfold setBit
  split
  · assumption
  · next hclear =>
      rw [bitOf_eq_testBit] at hclear ⊢
      rw [Nat.add_comm, Nat.testBit_two_pow_add_eq]
      simpa using hclear

theorem bitOf_setBit_ne (n : Nat) {i j : Nat} (h : j ≠ i) : bitOf (setBit n i) j = bitOf n j := by
  unfold setBit
  split
  · rfl
  · next hclear =>
      rcases Nat.lt_or_gt_of_ne h with hlt | hgt
      · rw [bitOf_eq_testBit, bitOf_eq_testBit, Nat.add_comm, Nat.testBit_two_pow_add_gt hlt]
      · obtain ⟨k, rfl⟩ : ∃ k, j = i + 1 + k := ⟨j - (i + 1), by omega⟩
        have hodd : n / 2 ^ i % 2 ≠ 1 := by simpa [bitOf] using hclear
        have habove : (n + 2 ^ i) / 2 ^ i / 2 = n / 2 ^ i / 2 := by
          rw [Nat.add_div_right n (Nat.two_pow_pos i)]
          omega
        simp only [bitOf, Nat.pow_add, Nat.pow_one, ← Nat.div_div_eq_div_mul, habove]

theorem bitOf_clearBit_same (n i : Nat) : bitOf (clearBit n i) i = false := by
  unfold clearBit
  split
  · next hset =>
      rw [bitOf_eq_testBit] at hset ⊢
      have hle : 2 ^ i ≤ n := Nat.ge_two_pow_of_testBit hset
      rw [← Nat.add_sub_of_le hle, Nat.testBit_two_pow_add_eq] at hset
      simpa using hset
  · next hclear => simpa using hclear

/-! ### Sparse maps -/

/-- The keys `f x` of the elements of `l` are taken out. -/
theorem sparseFind_dropAll {α : Type} (f : Nat → Nat) (k : Nat) (l : List Nat) (m : Sparse α) :
    sparseFind k (l.foldl (fun m x => sparseDrop (f x) m) m) = if k ∈ l.map f then none else sparseFind k m := by
  induction l generalizing m with
  | nil => rfl
  | cons x l ih =>
      rw [List.foldl_cons, ih]
      by_cases hk : k = f x
      · simp [hk]
      · simp [hk, sparseFind_drop_ne]

end Sys2Proof

namespace Sys2Proof.Machine

set_option Elab.async false

open Reg Host

section
variable {s : State} {rank : Nat}

/-! ### Ownership (R131 to R135) -/

theorem State.own_ownChange (s : State) {new : Nat} (hnew : new < 4) (block : Bool) (cause : Nat) :
    (s.ownChange new block cause).own = new := by
  rw [State.own, State.ownChange, State.get_raise (not_eventField (by decide) (by decide) (by decide) (by decide)),
    State.setFlag_eq, State.get_set_ne _ _ (by decide), State.get_set_same]
  exact Nat.mod_eq_of_lt hnew

theorem State.block_ownChange (s : State) (new : Nat) (block : Bool) (cause : Nat) :
    (s.ownChange new block cause).flag HP_OWN.BLOCK = block := by
  rw [State.flag, State.ownChange, State.get_raise (not_eventField (by decide) (by decide) (by decide) (by decide))]
  exact flag_set_boolNat _ rfl block

/-- R131: another register than HP_OWN, an event's apart. -/
theorem State.get_ownChange (s : State) (new : Nat) (block : Bool) (cause : Nat) {g : Field} (hlo : g.lo < 32)
    (h0 : 0x1000 ≤ g.off) (hA : g.off < 0xA000) (hE : g.off ≠ 0x2008) (hO : g.off ≠ 0x300C) :
    (s.ownChange new block cause).get g = s.get g := by
  have hkey {f : Field} (hf : f.off = 0x300C) (hflo : f.lo < 32) : g.key ≠ f.key := by
    simp only [Field.key]
    omega
  rw [State.ownChange, State.get_raise (not_eventField hlo h0 (.inl hA) hE), State.setFlag_eq,
    State.get_set_ne _ _ (hkey rfl (by decide)), State.get_set_ne _ _ (hkey rfl (by decide))]

theorem State.hp_ownChange (s : State) (new : Nat) (block : Bool) (cause : Nat) :
    (s.ownChange new block cause).hp = s.hp := by
  rw [State.ownChange, (SameUnits.raise _ _ _ _ _).hp]
  rfl

theorem State.clock_ownChange (s : State) (new : Nat) (block : Bool) (cause : Nat) :
    (s.ownChange new block cause).clock = s.clock := by
  rw [State.ownChange, (SameUnits.raise _ _ _ _ _).clock]
  rfl

/-! ### The end of a lend window (R140) -/

theorem State.hp_closeLend (s : State) (status result : Nat) :
    (s.closeLend status result).hp = { s.hp with lend := none } := by
  unfold State.closeLend
  split
  · next hnone => rw [← hnone]
  · exact State.hp_post _ _ _ _

theorem hostField_own : hostField HP_OWN.STATE := ⟨by decide, by decide, by decide⟩

theorem State.own_closeLend (s : State) (status result : Nat) : (s.closeLend status result).own = s.own := by
  unfold State.closeLend
  split
  · rfl
  · exact State.get_post _ _ _ _ (hostField_not_postField hostField_own)

theorem State.clock_closeLend (s : State) (status result : Nat) : (s.closeLend status result).clock = s.clock := by
  unfold State.closeLend
  split
  · rfl
  · exact State.clock_post _ _ _ _

/-- R140: the host path after a window. -/
theorem State.hp_endWindow (s : State) (status : Nat) :
    (s.endWindow status).hp = { s.hp with resetInLend := false, lend := none } := by
  rw [State.endWindow, State.hp_closeLend, State.hp_ownChange]

/-- R140: with no RESET_n in the window the host has the DRAM again. -/
theorem State.own_endWindow (status : Nat) (hreset : s.hp.resetInLend = false) : (s.endWindow status).own = 0 := by
  rw [State.endWindow, State.own_closeLend, hreset]
  exact State.own_ownChange _ (by decide) _ _

theorem State.clock_endWindow (s : State) (status : Nat) : (s.endWindow status).clock = s.clock := by
  rw [State.endWindow, State.clock_closeLend, State.clock_ownChange]

/-- R140, R141: a SNAPSHOT's window is cut short. -/
theorem State.cutLend_snapshot (h : s.lendPurpose = 1) (units : Nat) : s.cutLend units = s.endWindow 0x4D := by
  simp only [State.cutLend, h]

theorem State.lendPurpose_open {l : Lend} {at_ : Nat} (hlend : s.hp.lend = some l) (hopen : l.opened = some at_) :
    s.lendPurpose = l.purpose := by
  simp [State.lendPurpose, hlend, hopen]

/-! ### The commands -/

/-- With the core domain up a command of the host has its effect. -/
theorem completes_whenUp {c : Instr} {f : State → State} {Q : State → Prop} (hup : s.coreUp = true)
    (hexec : exec c s = .next (s.when s.coreUp f)) (h : Q (f s)) : Completes c s Q :=
  ⟨f s, by rw [hexec, State.when, if_pos hup], h⟩

/-- R139: rank `rank` is in self-refresh. -/
def State.refreshed (s : State) (rank : Nat) : State :=
  { s with hp := { s.hp with selfRefresh := setBit s.hp.selfRefresh rank } }

/-- R138, R253: a window opens before a PSTATE STANDBY is entered. -/
theorem hostSelfRefreshEntry_eq (hown : s.own = 0) (hdeaf : s.hp.deafUntil ≤ s.clock) : hostSelfRefreshEntry rank s =
    if (s.refreshed rank).allRefreshing then
      (s.refreshed rank).openLend.when ((s.refreshed rank).own == 0) (·.endStandbys)
    else s.refreshed rank := if_pos ⟨hown, hdeaf⟩

/-- R138: the last rank to enter self-refresh. -/
theorem State.allRefreshing_refreshed
    (hothers : ∀ r < s.get HP_CONFIG.RANKS, r ≠ rank → bitOf s.hp.selfRefresh r = true) :
    (s.refreshed rank).allRefreshing = true := by
  refine List.all_eq_true.mpr fun r hr => ?_
  by_cases hrank : r = rank
  · rw [hrank]
    exact bitOf_setBit_same _ _
  · exact (bitOf_setBit_ne _ hrank).trans (hothers r (List.mem_range.mp hr) hrank)

/-- R139: without a LEND no window opens. -/
theorem State.openLend_none (h : s.hp.lend = none) : s.openLend = s := by
  rw [State.openLend, h]

/-- R253: with no PSTATE that waits. -/
theorem State.endStandbys_nil (h : s.pw.pstate = []) : s.endStandbys = s := by
  simp [State.endStandbys, h]

/-- R139: without a LEND or a PSTATE that waits, self-refresh is recorded alone. -/
theorem hostSelfRefreshEntry_idle (hown : s.own = 0) (hdeaf : s.hp.deafUntil ≤ s.clock) (hlend : s.hp.lend = none)
    (hpstate : s.pw.pstate = []) : hostSelfRefreshEntry rank s = s.refreshed rank := by
  have hidle : (s.refreshed rank).endStandbys = s.refreshed rank := State.endStandbys_nil hpstate
  rw [hostSelfRefreshEntry_eq hown hdeaf, State.openLend_none (s := s.refreshed rank) hlend, State.when, hidle,
    ite_self, ite_self]

/-- R138: a LEND SNAPSHOT that waits opens its window, and the device has the DRAM. -/
theorem State.openLend_results {ref : OpRef} {dur wait : Nat} (hlend : s.hp.lend = some ⟨ref, 1, dur, wait, none⟩)
    (hrefreshing : s.allRefreshing = true) (hown : s.own = 0) :
    s.openLend.own = 2 ∧ s.openLend.hp.lend = some ⟨ref, 1, dur, wait, some s.clock⟩ := by
  have hopens : s.openLend = State.ownChange
      { s with hp := { s.hp with lend := some ⟨ref, 1, dur, wait, some s.clock⟩ } } 2 false 2 := by
    simp [State.openLend, hlend, hrefreshing, hown]
  rw [hopens, State.hp_ownChange]
  exact ⟨State.own_ownChange _ (by decide) _ _, rfl⟩

/-- R138, R139: the last rank's self-refresh opens the window; a PSTATE STANDBY that waits leaves it open. -/
theorem hostSelfRefreshEntry_lend {ref : OpRef} {dur wait : Nat} (hown : s.own = 0) (hdeaf : s.hp.deafUntil ≤ s.clock)
    (hlend : s.hp.lend = some ⟨ref, 1, dur, wait, none⟩)
    (hothers : ∀ r < s.get HP_CONFIG.RANKS, r ≠ rank → bitOf s.hp.selfRefresh r = true) :
    (hostSelfRefreshEntry rank s).own = 2 ∧
      (hostSelfRefreshEntry rank s).hp.lend = some ⟨ref, 1, dur, wait, some s.clock⟩ := by
  have hrefreshing := State.allRefreshing_refreshed hothers
  obtain ⟨hopened, hwindow⟩ := State.openLend_results (s := s.refreshed rank) hlend hrefreshing hown
  have hkept : HostKept (s.refreshed rank).openLend
      ((s.refreshed rank).openLend.when ((s.refreshed rank).own == 0) (·.endStandbys)) :=
    .when (.refl _) (.endStandbys (.refl _) (by omega))
  rw [hostSelfRefreshEntry_eq hown hdeaf, if_pos hrefreshing, hkept.hp, State.own, hkept.get _ hostField_own]
  exact ⟨hopened, hwindow⟩

/-- R141: an SRX in a window of a SNAPSHOT ends it. -/
theorem hostSrx_window {units : Nat} {ref : OpRef} {dur wait from_ : Nat}
    (hlend : s.hp.lend = some ⟨ref, 1, dur, wait, some from_⟩) (hreset : s.hp.resetInLend = false) :
    (hostSrx rank units s).own = 0 ∧ (hostSrx rank units s).hp.lend = none ∧
      (hostSrx rank units s).hp.selfRefresh = s.hp.selfRefresh ∧
        (hostSrx rank units s).hp.deafUntil = s.clock + 400 := by
  have hpurpose : s.lendPurpose = 1 := State.lendPurpose_open hlend rfl
  generalize ht : s.raise 0x186 1 s.lendMs 0 = t
  have hsame : SameUnits s t := ht ▸ SameUnits.raise s _ _ _ _
  have hcut : t.cutLend units = t.endWindow 0x4D :=
    State.cutLend_snapshot (State.lendPurpose_open (hsame.hp ▸ hlend) rfl) units
  have hsrx : hostSrx rank units s = { t.endWindow 0x4D with
      hp := { (t.endWindow 0x4D).hp with deafUntil := (t.endWindow 0x4D).clock + 400 } } := by
    simp only [hostSrx, hpurpose, ht, hcut]
    rfl
  have hown : (t.endWindow 0x4D).own = 0 := t.own_endWindow _ (by rw [hsame.hp, hreset])
  rw [hsrx]
  refine ⟨hown, ?_, ?_, ?_⟩
  · simp only [State.hp_endWindow]
  · simp only [State.hp_endWindow, hsame.hp]
  · simp only [State.clock_endWindow, hsame.clock]

theorem hostSrx_host {units : Nat} (hown : s.own = 0) (hdeaf : s.hp.deafUntil ≤ s.clock)
    (hpurpose : s.lendPurpose = 0) :
    hostSrx rank units s = { s with hp := { s.hp with selfRefresh := clearBit s.hp.selfRefresh rank } } := by
  simp [hostSrx, hpurpose, hown, hdeaf]

/-- R120, R149: a command with a parity error is counted. -/
theorem count_caParityError (s : State) (rank : Nat) : (caParityError rank s).get HP_PARERR.COUNT =
    (s.get HP_PARERR.COUNT + 1) % 2 ^ HP_PARERR.COUNT.width := by
  have hraise (t : State) (first : Bool) : (t.when first (·.raise 0x185 1 rank 0)).get HP_PARERR.COUNT =
      t.get HP_PARERR.COUNT := by
    cases first
    · rfl
    · exact State.get_raise (not_eventField (by decide) (by decide) (by decide) (by decide)) t _ _ _ _
  exact (hraise _ _).trans (s.get_set_same _ _)

/-- R122: DTH clears, and no other register changes. -/
theorem State.get_redoHostPass (s : State) {g : Field} (h : g.key ≠ HP_STATUS.DTH.key) :
    s.redoHostPass.get g = s.get g :=
  s.get_set_ne 0 h

/-- R118, R122: the device takes one of the seven rates, and a change of rate clears DTH. -/
theorem speedWord_results {mts : Nat} (hmts : mts ∈ hostRates) (hown : s.own = 1) :
    (speedWord mts s).get HP_RATE.MTS = mts ∧
      (mts ≠ s.get HP_RATE.MTS → (speedWord mts s).flag HP_STATUS.DTH = false) := by
  have hfits : mts % 2 ^ HP_RATE.MTS.width = mts := by
    have hall : ∀ m ∈ hostRates, m % 2 ^ HP_RATE.MTS.width = m := by decide
    exact hall mts hmts
  have hset : ((s.set HP_RATE.MTS mts).redoHostPass).get HP_RATE.MTS = mts := by
    rw [State.get_redoHostPass _ (by decide), State.get_set_same, hfits]
  have hdth : ((s.set HP_RATE.MTS mts).redoHostPass).flag HP_STATUS.DTH = false := flag_set_boolNat _ rfl false
  have hword : speedWord mts s = { s.when (s.speedChange mts) fun s => (s.set HP_RATE.MTS mts).redoHostPass with
      hp := { (s.when (s.speedChange mts) fun s => (s.set HP_RATE.MTS mts).redoHostPass).hp with
        speedWritten := true } } := by
    rw [speedWord, if_pos hown, if_pos (List.contains_iff_mem.mpr hmts)]
  rw [hword]
  cases hchange : s.speedChange mts
  · have hsame : mts = s.get HP_RATE.MTS := by
      simp only [State.speedChange, Bool.or_eq_false_iff, bne_eq_false_iff_eq] at hchange
      exact hchange.1
    exact ⟨hsame.symm, fun hne => absurd hsame hne⟩
  · exact ⟨hset, fun _ => hdth⟩

/-- R133, R143: the registers and the words after RESET_n, but for the owner. -/
def State.wordsReset (s : State) : State :=
  { ((s.setFlag HP_STATUS.HTRAIN false).setFlag QU_APCTL.EN false).set HP_RATE.MTS 1600 with
    hp := { s.hp with words := [], space := 0, speedWritten := false, claimWaits := false } }

/-- A register of `wordsReset`, read through its three writes. -/
theorem State.get_wordsReset (s : State) (g : Field) : s.wordsReset.get g =
    (((s.set HP_STATUS.HTRAIN 0).set QU_APCTL.EN 0).set HP_RATE.MTS 1600).get g := rfl

/-- R133, R143: RESET_n with the DRAM in the host's hands, or held. -/
theorem resetN_eq (hown : s.own = 0 ∨ s.own = 3) : resetN s = s.wordsReset.ownChange 1 false 6 := by
  have hkept : s.wordsReset.own = s.own := by
    rw [State.own, State.get_wordsReset, State.get_set_ne _ _ (by decide), State.get_set_ne _ _ (by decide),
      State.get_set_ne _ _ (by decide), State.own]
  unfold resetN
  dsimp only
  split
  · rfl
  · rfl
  · next htwo =>
      have : s.own = 2 := hkept.symm.trans htwo
      omega
  · next hzero hthree _ =>
      rcases hown with h | h
      · exact absurd (hkept.trans h) hzero
      · exact absurd (hkept.trans h) hthree

theorem resetN_results (hown : s.own = 0 ∨ s.own = 3) : (resetN s).own = 1 ∧ (resetN s).get HP_RATE.MTS = 1600 ∧
    (resetN s).flag HP_STATUS.HTRAIN = false ∧ (resetN s).flag QU_APCTL.EN = false := by
  have hother {g : Field} (hlo : g.lo < 32) (h0 : 0x1000 ≤ g.off) (hA : g.off < 0xA000) (hE : g.off ≠ 0x2008)
      (hO : g.off ≠ 0x300C) : (s.wordsReset.ownChange 1 false 6).get g = s.wordsReset.get g :=
    s.wordsReset.get_ownChange _ _ _ hlo h0 hA hE hO
  rw [resetN_eq hown]
  refine ⟨s.wordsReset.own_ownChange (by decide) _ _, ?_, ?_, ?_⟩
  · rw [hother (by decide) (by decide) (by decide) (by decide) (by decide), s.get_wordsReset]
    exact State.get_set_same _ _ _
  · rw [State.flag, hother (by decide) (by decide) (by decide) (by decide) (by decide), s.get_wordsReset,
      State.get_set_ne _ _ (by decide), State.get_set_ne _ _ (by decide), State.get_set_same]
    rfl
  · rw [State.flag, hother (by decide) (by decide) (by decide) (by decide) (by decide), s.get_wordsReset,
      State.get_set_ne _ _ (by decide), State.get_set_same]
    rfl

/-! ### Rows and words (R120, R124) -/

/-- R124: a PRE of the rank closes every bank. -/
theorem rows_preAll {b : Nat} (hb : b < 16) :
    sparseFind (bankKey rank b) (hostActPre rank none none s).hp.rows = none := by
  simp only [hostActPre, sparseFind_dropAll]
  exact if_pos (List.mem_map_of_mem (List.mem_range.mpr hb))

/-- R120: a mode register write, for the rank and for one device. -/
theorem hostMrs_rank {mr value : Nat} (hmr : mr ≠ 7) :
    sparseFind (rank * 8 + mr) (hostMrs rank mr value none s).hp.modes = some value := by
  rw [hostMrs, if_neg hmr]
  exact sparseFind_put_same _ _ _

theorem hostMrs_device {mr value d : Nat} (hmr : mr ≠ 7) :
    sparseFind ((rank * 8 + mr) * 32 + d) (hostMrs rank mr value (some d) s).hp.deviceModes = some value ∧
      (hostMrs rank mr value (some d) s).hp.modes = s.hp.modes := by
  rw [hostMrs, if_neg hmr]
  exact ⟨sparseFind_put_same _ _ _, rfl⟩

theorem hostMrs_control {value : Nat} {device : Option Nat} : hostMrs rank 7 value device s = s.controlWord value :=
  if_pos rfl

/-- R120: outside function space 7, and of the buffer, a word is stored. -/
theorem State.controlWord_stores {value : Nat} (h : s.hp.space ≠ 7 ∨ value % 8192 / 4096 = 1) :
    s.controlWord value = s.storeWord value := by
  refine if_neg fun ⟨hspace, hregister⟩ => ?_
  rcases h with h | h
  · exact h hspace
  · omega

section
variable {value : Nat} (hspace : s.hp.space = 7) (hregister : value % 8192 / 4096 = 0)
include hspace hregister

/-- R63: F7RC3x to F7RCFx. -/
theorem State.controlWord_unused (h : 3 ≤ value / 256 % 16) : s.controlWord value = s := by
  rw [State.controlWord, if_pos ⟨hspace, hregister⟩]
  split
  · omega
  · omega
  · omega
  · rfl

/-- R64: F7RC2x with bit 0 clear closes the aperture. -/
theorem State.controlWord_close (hup : s.coreUp = true) (h : value / 256 % 16 = 2) (heven : value % 2 = 0) :
    s.controlWord value = s.set QU_APCTL.EN 0 := by
  have hbit : bitOf value 0 = false := by simp [bitOf, heven]
  rw [State.controlWord, if_pos ⟨hspace, hregister⟩, h, hbit]
  exact s.rowWrite_core _ .host hup (apertureEnableWrite_accepted s (.inl rfl) nofun)

/-- R63: F7RC0x is the low byte of the aperture's base. -/
theorem State.controlWord_base (hup : s.coreUp = true) (h : value / 256 % 16 = 0)
    (hclosed : s.flag QU_APCTL.EN = false) :
    s.controlWord value = s.set QU_APCTL.BASE (newBase 0 (value % 256) (s.get QU_APCTL.BASE)) := by
  rw [State.controlWord, if_pos ⟨hspace, hregister⟩, h]
  exact s.rowWrite_core _ .host hup (apertureBaseWrite_closed s (.inl rfl) 0 _ hclosed)

end

end

/-- Settles O22: each command's record, by the lemma that says what the command does to the state. -/
theorem hostCommandResults : Obligations.HostCommandResults := by
  intro s rank _ hup
  refine ⟨?act, ?pre, ?mrs, ?mrsDevice, ?word, ?control, ?refresh, ?trained, ?refreshed, ?lent, ?srx, ?srxWindow,
    ?parity, ?speed, ?reset⟩
  case act => exact fun b row _ => completes_whenUp hup rfl (sparseFind_put_same _ _ _)
  case pre => exact fun b hb => completes_whenUp hup rfl (rows_preAll hb)
  case mrs => exact fun mr value hmr => completes_whenUp hup rfl (hostMrs_rank hmr)
  case mrsDevice => exact fun mr value d hmr => completes_whenUp hup rfl (hostMrs_device hmr)
  case word =>
    intro value device h
    refine completes_whenUp hup rfl ?_
    rw [hostMrs_control, State.controlWord_stores h]
    exact ⟨sparseFind_put_same _ _ _, rfl, rfl⟩
  case control =>
    intro value device hspace hregister
    refine ⟨fun h => completes_whenUp hup rfl ?_, fun h heven => completes_whenUp hup rfl ?_,
      fun h hclosed => completes_whenUp hup rfl ?_⟩
    · rw [hostMrs_control, State.controlWord_unused hspace hregister h]
    · rw [hostMrs_control, State.controlWord_close hspace hregister hup h heven]
      exact flag_set_boolNat s rfl false
    · rw [hostMrs_control, State.controlWord_base hspace hregister hup h hclosed, State.get_set_same, newBase,
        Nat.mod_mod]
      rfl
  case refresh => exact ⟨s, rfl, rfl⟩
  case trained => exact completes_whenUp hup rfl (flag_set_boolNat s rfl true)
  case refreshed =>
    intro hown hdeaf hlend hpstate
    refine completes_whenUp hup rfl ?_
    rw [hostSelfRefreshEntry_idle hown hdeaf hlend hpstate]
    exact bitOf_setBit_same _ _
  case lent =>
    exact fun ref dur wait hown hdeaf hlend hothers =>
      completes_whenUp hup rfl (hostSelfRefreshEntry_lend hown hdeaf hlend hothers)
  case srx =>
    intro units hown hdeaf hpurpose
    refine completes_whenUp hup rfl ?_
    rw [hostSrx_host hown hdeaf hpurpose]
    exact bitOf_clearBit_same _ _
  case srxWindow =>
    exact fun units ref dur wait from_ hlend hreset => completes_whenUp hup rfl (hostSrx_window hlend hreset)
  case parity => exact completes_whenUp hup rfl (count_caParityError s rank)
  case speed => exact fun mts hmts hown => completes_whenUp hup rfl (speedWord_results hmts hown)
  case reset => exact fun hown => completes_whenUp hup rfl (resetN_results hown)

end Sys2Proof.Machine

/-! ## LEND and SCRUB, and the end of a wait and of a window (R138, R140, R142) -/

namespace Sys2Proof.Machine

set_option Elab.async false

open Reg Host

section
variable {s t : State}

/-! ### The state that an admitted instruction is judged in (R71, R82) -/

/-- Admission shows in the registers, in the queues, in the rings and in the cycles alone. -/
theorem State.admitted_same {α : Type} {view : State → α} (hset : ∀ t f v, view (t.set f v) = view t)
    (hqueue : ∀ t m x, view (t.setQueue m x) = view t) (hring : ∀ t r x, view (t.setRing r x) = view t)
    (huses : ∀ t n, view (State.uses t n) = view t) (s : State) (op : Op) (cost : Nat) :
    view (s.admitted op cost) = view s := by
  have hdrop (t : State) (r : Nat) : view (t.dropHeld r) = view t := foldl_same view _ (fun t m => hqueue t m _) _ t
  have hreserve (t : State) (r : Nat) : view (t.reserve r) = view t := by
    unfold State.reserve
    split
    · exact hring t r _
    · rw [State.cqUnhold, State.setMaskBit_eq, hset, hdrop, State.cqReserve, State.add_eq, hset]
  have hmove (t : State) (r n : Nat) : view (t.moveOn r n) = view t := by
    unfold State.moveOn
    split
    · exact hring t r _
    · rw [State.add_eq, hset]
  rw [State.admitted, huses, hmove, State.add_eq, hset, hreserve]

theorem State.hp_admitted (s : State) (op : Op) (cost : Nat) : (s.admitted op cost).hp = s.hp :=
  State.admitted_same (view := State.hp) (fun _ _ _ => rfl) (fun _ _ _ => rfl) (fun _ _ _ => rfl) (fun _ _ => rfl)
    s op _

theorem State.pw_admitted (s : State) (op : Op) (cost : Nat) : (s.admitted op cost).pw = s.pw :=
  State.admitted_same (view := State.pw) (fun _ _ _ => rfl) (fun _ _ _ => rfl) (fun _ _ _ => rfl) (fun _ _ => rfl)
    s op _

theorem State.clock_admitted (s : State) (op : Op) (cost : Nat) : (s.admitted op cost).clock = s.clock :=
  State.admitted_same (view := State.clock) (fun _ _ _ => rfl) (fun _ _ _ => rfl) (fun _ _ _ => rfl) (fun _ _ => rfl)
    s op _

/-- The registers of admission lie between the ring unit's controls and the shadow engine's block. -/
theorem State.get_admitted_of_off (s : State) {op : Op} (hring : op.ring < 16) (cost : Nat) {g : Field}
    (hlo : g.lo < 32) (hoff : g.off < 0x2018 ∨ 0x2300 ≤ g.off) : (s.admitted op cost).get g = s.get g := by
  have hm := s.cqOf_lt op.ring
  refine s.get_admitted op cost ?_
  simp only [admitField, Field.key, QU_CQRES.RESV, QU_HELD.RING, QU_OUT.OUT, QU_HEAD.HEAD]
  omega

/-- R151, R152: the spans and kinds of the regions are read from their own registers. -/
theorem State.meetsRegion_congr (h : ∀ g : Field, g.lo < 32 → 0x4100 ≤ g.off → t.get g = s.get g) (start count : Nat) :
    t.meetsRegion t.regionKept start count = s.meetsRegion s.regionKept start count := by
  have hvalid (k : Nat) : t.get (SH_RG_A.VALID k) = s.get (SH_RG_A.VALID k) :=
    h _ (by decide : 23 < 32) (Nat.le_add_right_of_le (by decide))
  have hkind (k : Nat) : t.get (SH_RG_A.KIND k) = s.get (SH_RG_A.KIND k) :=
    h _ (by decide : 20 < 32) (Nat.le_add_right_of_le (by decide))
  have hstart (k : Nat) : t.get (SH_RG_A.START k) = s.get (SH_RG_A.START k) :=
    h _ (by decide : 0 < 32) (Nat.le_add_right_of_le (by decide))
  have hcount (k : Nat) : t.get (SH_RG_B.COUNT k) = s.get (SH_RG_B.COUNT k) :=
    h _ (by decide : 0 < 32) (Nat.le_add_right_of_le (by decide))
  simp only [State.meetsRegion, State.regionKept, State.regionSpan, State.flag, hvalid, hkind, hstart, hcount]

/-! ### LEND (R138) -/

/-- R138: a LEND that is admitted waits, with its purpose, its MAXDUR and the end of its WAIT. -/
theorem lend_results {op : Op} (hring : op.ring < 16) (hopen : RingOpen s op.ring) (hext : op.ext.length = 1)
    (hsrc : op.src = 0) (hword : op.word 1 < 2 ^ 16) (hmaxdur : 1 ≤ op.word 1) (hwait : 1 ≤ op.imm9)
    (hpurpose : 1 ≤ op.dst) (hpurposes : op.dst ≤ 3) (hpower : s.powerIn [active, quiet, maint] = true)
    (hown : s.own = 0) (hlend : s.hp.lend = none) (hdth : s.flag HP_STATUS.DTH = true) (hpstate : s.pw.pstate = [])
    (hside : ¬ (op.ring = 15 ∧ s.sideBandOwns15 = true)) : (lend op s).hp.lend =
      some ⟨s.opRef op.ring 0x1A, op.dst, op.word 1, s.clock + 1000000 * op.imm9, none⟩ := by
  have hget {g : Field} (hlo : g.lo < 32) (hoff : g.off < 0x2018 ∨ 0x2300 ≤ g.off) :=
    s.get_admitted_of_off hring (unitCost 0x1A) hlo hoff
  have hpower' : (s.admitted op (unitCost 0x1A)).powerIn [active, quiet, maint] = true := by
    rw [State.powerIn, State.power, hget (by decide) (by decide)]
    exact hpower
  have hown' : (s.admitted op (unitCost 0x1A)).own = 0 := (hget (by decide) (by decide)).trans hown
  have hdth' : (s.admitted op (unitCost 0x1A)).flag HP_STATUS.DTH = true := by
    rw [State.flag, hget (by decide) (by decide)]
    exact hdth
  have hside' : (op.ring == 15 && (s.admitted op (unitCost 0x1A)).sideBandOwns15) = false := by
    rw [State.sideBandOwns15, State.flag, hget (by decide) (by decide)]
    simpa [State.sideBandOwns15, State.flag] using hside
  rw [lend, hopen.issue_eq]
  simp only [hext, hsrc, hword, hmaxdur, hwait, hpurpose, hpurposes, hpower', hown', hdth', hside', s.hp_admitted,
    s.pw_admitted, s.clock_admitted, hlend, hpstate, beq_self_eq_true, decide_true, Option.isNone_none,
    List.isEmpty_nil, Bool.and_true, Bool.not_false, State.judge_ok, Nat.mul_comm]

/-! ### SCRUB (R142) -/

/-- R142: a SCRUB that is admitted joins the pending ones. -/
theorem scrub_results {op : Op} (hring : op.ring < 16) (hopen : RingOpen s op.ring) (hext : op.ext.length = 2)
    (hdst : op.dst = 0) (hsrc : op.src = 0) (himm : op.imm9 = 0) (hstart : op.word 1 < 2 ^ 20)
    (hcount : op.word 2 < 2 ^ 21)
    (hpower : s.powerIn [standby, active, quiet, maint] = true) (hsome : 1 ≤ op.word 2) (hmost : op.word 2 ≤ 1048576)
    (hfits : s.unitsFit (op.word 1) (op.word 2) = true) (hclear : s.meetsAperture (op.word 1) (op.word 2) = false)
    (hregions : s.meetsRegion s.regionKept (op.word 1) (op.word 2) = false) (hroom : s.hp.scrubs.length < 8) :
    (scrub op s).hp.scrubs = s.hp.scrubs ++ [⟨s.opRef op.ring 0x1E, op.word 1, op.word 2, 0⟩] := by
  have hget {g : Field} (hlo : g.lo < 32) (hoff : g.off < 0x2018 ∨ 0x2300 ≤ g.off) :=
    s.get_admitted_of_off hring (unitCost 0x1E) hlo hoff
  have hpower' : (s.admitted op (unitCost 0x1E)).powerIn [standby, active, quiet, maint] = true := by
    rw [State.powerIn, State.power, hget (by decide) (by decide)]
    exact hpower
  have hfits' : (s.admitted op (unitCost 0x1E)).unitsFit (op.word 1) (op.word 2) = true := by
    rw [State.unitsFit, State.dramBytes, hget (by decide) (by decide)]
    exact hfits
  have hclear' : (s.admitted op (unitCost 0x1E)).meetsAperture (op.word 1) (op.word 2) = false := by
    rw [State.meetsAperture, State.flag, hget (by decide) (by decide), hget (by decide) (by decide)]
    exact hclear
  have hregions' := (State.meetsRegion_congr (s := s) (t := s.admitted op (unitCost 0x1E))
    (fun g hlo hoff => hget hlo (.inr (by omega))) (op.word 1) (op.word 2)).trans hregions
  rw [scrub, hopen.issue_eq]
  simp only [hext, hdst, hsrc, himm, hstart, hcount, hpower', hsome, hmost, hfits', hclear', hregions', s.hp_admitted,
    beq_self_eq_true, decide_true, Bool.and_true, Bool.not_false, State.judge_ok, Nat.not_le.mpr hroom, if_false]
  rfl

/-! ### A completion, also where it releases a FENCE (R79, R101) -/

theorem State.slot_setSlots_ne (s : State) {off x : Nat} (l : List Nat) (h : x < off ∨ off + 4 * l.length ≤ x) :
    (s.setSlots off l).slot x = s.slot x := by
  induction l generalizing s off with
  | nil => rw [State.setSlots]
  | cons w l ih =>
      rw [List.length_cons] at h
      rw [State.setSlots, ih _ (by omega), State.slot_setSlot_ne _ _ (by omega)]

/-- R79: an entry changes its own four words alone. -/
theorem State.slot_cqWrite_ne (s : State) (c : OpRef) (status result : Nat) {x : Nat}
    (h : x < s.entryBase c.q ∨ s.entryBase c.q + 16 ≤ x) : (s.cqWrite c status result).slot x = s.slot x := by
  have hevaluate (t : State) (m : Nat) : (t.cqEvaluate m).slot x = t.slot x := by
    rw [State.slot, State.slots_cqEvaluate, State.slot]
  simp only [State.cqWrite, hevaluate, State.add_eq, State.slot_set, State.slot_setQueue]
  exact s.slot_setSlots_ne _ h

/-- R80: no queue's next entry overlaps the one just written. -/
theorem State.entryBase_cqWrite (s : State) (c : OpRef) (status result : Nat) {m x : Nat}
    (hlo : s.entryBase c.q ≤ x) (hhi : x < s.entryBase c.q + 16) :
    x < (s.cqWrite c status result).entryBase m ∨ (s.cqWrite c status result).entryBase m + 16 ≤ x := by
  have htail := s.tail_cqWrite c status result
  simp only [State.entryBase] at hlo hhi ⊢
  generalize s.get (QU_CQTAIL.TAIL c.q) = tail at *
  by_cases hsame : m = c.q
  · rw [hsame, htail]
    omega
  · generalize (s.cqWrite c status result).get (QU_CQTAIL.TAIL m) = other
    omega

/-- R101: a FENCE that is released posts in the next entry of its queue. -/
theorem State.slot_fenceRelease (u : State) (r : Nat) {x : Nat}
    (h : ∀ m, x < u.entryBase m ∨ u.entryBase m + 16 ≤ x) : (u.fenceRelease r).slot x = u.slot x := by
  unfold State.fenceRelease
  split
  · next ref n _ =>
      split
      · exact State.slot_cqWrite_ne _ ref _ _ (h ref.q)
      · rfl
  · rfl

/-- R79, R101: the completion stands, also where a FENCE that waited posts behind it. -/
theorem State.done_post (s : State) (c : OpRef) (status result : Nat) :
    Done c status result s (s.post c status result) := by
  obtain ⟨hword0, hword1, hresult⟩ := s.done_cqWrite c status (result % 2 ^ 24)
  have hposted (i : Nat) (hi : i < 16) : (s.post c status result).slot (s.entryBase c.q + i) =
      (s.cqWrite c status (result % 2 ^ 24)).slot (s.entryBase c.q + i) :=
    State.slot_fenceRelease _ c.ring fun m =>
      s.entryBase_cqWrite c status _ (Nat.le_add_right _ i) (Nat.add_lt_add_left hi _)
  exact ⟨(hposted 0 (by decide)).trans hword0, (hposted 4 (by decide)).trans hword1,
    (hposted 8 (by decide)).trans (hresult.trans (Nat.mod_mod _ _))⟩

/-! ### The ends (R138, R140) -/

/-- Time passes the host path by. -/
theorem HostKept.passTo {d : Nat} (h : HostKept s t) : HostKept s (t.passTo d) := by
  obtain ⟨n, c, f, heq⟩ := t.passTo_eq d
  rw [heq]
  exact h.congr rfl rfl

/-- R138: the end of the WAIT. -/
theorem lendWaitTimeout_results {l : Lend} (hlend : s.hp.lend = some l) (hwaits : l.opened = none)
    (hdue : s.due l.waitEnd = true) : (lendWaitTimeout s).hp.lend = none ∧ Done l.ref 0x4C 0 s (lendWaitTimeout s) := by
  have hdeadline : l.deadline = l.waitEnd := by rw [Lend.deadline, hwaits]
  have hend : lendWaitTimeout s = (s.passTo l.waitEnd).closeLend 0x4C 0 := by
    simp only [lendWaitTimeout, hlend, hwaits, Option.isNone_none, if_true, hdeadline, s.onTime_due _ hdue]
  have hkept : HostKept s (s.passTo l.waitEnd) := .passTo (.refl s)
  rw [hend]
  refine ⟨by rw [State.hp_closeLend], ?_⟩
  rw [State.closeLend, hkept.hp, hlend]
  exact (State.done_post _ _ _ _).congr (s.get_passTo _ _)

/-- R131, R140: the end of a window in which there was no RESET_n. -/
theorem HostKept.endWindow_results (h : HostKept s t) (hreset : s.hp.resetInLend = false) (status : Nat) :
    (t.endWindow status).hp.lend = none ∧ (t.endWindow status).own = 0 :=
  ⟨by rw [State.hp_endWindow], t.own_endWindow status (h.hp ▸ hreset)⟩

section
variable {l : Lend} {at_ : Nat} (hlend : s.hp.lend = some l) (hopened : l.opened = some at_) (hpurpose : l.purpose = 1)
  (hreset : s.hp.resetInLend = false)
include hlend hopened hpurpose hreset

/-- R140: a SNAPSHOT's window is cut short. -/
theorem HostKept.cutLend_results (h : HostKept s t) (units : Nat) :
    (t.cutLend units).hp.lend = none ∧ (t.cutLend units).own = 0 := by
  have ht : t.lendPurpose = 1 := (State.lendPurpose_open (h.hp ▸ hlend) hopened).trans hpurpose
  rw [State.cutLend_snapshot ht]
  exact h.endWindow_results hreset _

/-- R140, R220: the snapshot is taken, or the flash store has no room for it. -/
theorem lendPurposeDone_results (work : FlashWork) :
    (lendPurposeDone work s).hp.lend = none ∧ (lendPurposeDone work s).own = 0 := by
  have hs : s.lendPurpose = 1 := (State.lendPurpose_open hlend hopened).trans hpurpose
  have hwork : HostKept s (s.flashWork 3 false work) := .flashWork (.refl s)
  simp only [lendPurposeDone, hs]
  split
  · next u hu => exact (renew_hostKept hwork u hu).endWindow_results hreset _
  · exact hwork.cutLend_results hlend hopened hpurpose hreset 0

theorem lendMaxdurExpiry_results (units : Nat) (hdue : s.due (at_ + 100000 * l.maxdur) = true) :
    (lendMaxdurExpiry units s).hp.lend = none ∧ (lendMaxdurExpiry units s).own = 0 := by
  have hdeadline : l.deadline = at_ + 100000 * l.maxdur := by rw [Lend.deadline, hopened, Nat.mul_comm]
  have hend : lendMaxdurExpiry units s = (s.passTo (at_ + 100000 * l.maxdur)).cutLend units := by
    simp only [lendMaxdurExpiry, hlend, hopened, Option.isSome_some, if_true, hdeadline, s.onTime_due _ hdue]
  rw [hend]
  exact HostKept.cutLend_results hlend hopened hpurpose hreset (.passTo (.refl s)) units

end

end

/-- Settles O24: what a LEND and a SCRUB leave waiting, and what each end leaves. -/
theorem lendResults : Obligations.LendResults := by
  intro s op hwf hopen hsrc ref
  obtain ⟨hring, -⟩ := Op.lt_of_wf hwf
  refine ⟨?lend, ?scrub, ?timeout, ?window⟩
  case lend =>
    intro hext hword hmaxdur hwait hpower hown hlend hdth hpstate hside until_
    have hwaits (purpose : Nat) (h1 : 1 ≤ purpose) (h3 : purpose ≤ 3) :=
      lend_results (op := { op with dst := purpose }) hring hopen hext hsrc hword hmaxdur hwait h1 h3 hpower hown hlend
        hdth hpstate hside
    exact ⟨⟨_, rfl, hwaits 1 (by decide) (by decide)⟩, ⟨_, rfl, hwaits 2 (by decide) (by decide)⟩,
      ⟨_, rfl, hwaits 3 (by decide) (by decide)⟩⟩
  case scrub =>
    intro hext hdst himm hstart hcount hpower hsome hmost hfits hclear hregions hroom
    exact ⟨_, rfl, scrub_results hring hopen hext hdst hsrc himm hstart hcount hpower hsome hmost hfits hclear hregions
      hroom⟩
  case timeout => exact fun l hlend hwaits hdue => ⟨_, rfl, lendWaitTimeout_results hlend hwaits hdue⟩
  case window =>
    exact fun l at_ hlend hopened hpurpose hreset =>
      ⟨fun work => ⟨_, rfl, lendPurposeDone_results hlend hopened hpurpose hreset work⟩,
        fun units hdue => ⟨_, rfl, lendMaxdurExpiry_results hlend hopened hpurpose hreset units hdue⟩⟩

end Sys2Proof.Machine

/-! ## Training, CLAIM, RETRAIN, LOCK and the scrub (R122, R127, R131, R134, R136, R144) -/

namespace Sys2Proof.Machine

set_option Elab.async false

open Reg Host

section
variable {s t : State}

/-! ### Training (R122) -/

/-- R122, R136: the internal pass waits for nothing, and the host-rate pass for the speed words and the DRAM's other
work. -/
theorem trainingPassStart_results {pass : Nat} (hup : s.coreUp = true) (hdue : s.hp.passes.contains pass = true)
    (hidle : s.hp.passing = none) (hmay : pass = 0 ∨ (s.hp.speedWritten = true ∧ s.hp.passes.contains 0 = false ∧
      s.hp.railScrub = false ∧ s.flag HP_STATUS.SCRUBBING = false ∧ s.sv.galliard = none ∧ s.hp.lend = none)) :
    (trainingPassStart pass s).hp.passing = some pass := by
  have hpass : (pass == 0 || s.hostPassMay) = true := by
    rcases hmay with hpass | ⟨hspeed, hinternal, hrail, hscrub, hgalliard, hlend⟩
    · simp [hpass]
    · simp [State.hostPassMay, State.lendPurpose, hspeed, hinternal, hrail, hscrub, hgalliard, hlend,
        -List.contains_eq_mem]
  rw [trainingPassStart, if_pos (by simp only [hup, hdue, hidle, hpass, Option.isNone_none, Bool.and_self])]

/-- R122: pass `p` is over. -/
def State.passEnded (s : State) (p : Nat) : State :=
  { s with hp := { s.hp with passing := none, passes := s.hp.passes.erase p } }

/-- R122: with a supported organisation the internal pass sets DTI. -/
theorem trainingDone_internal (hpassing : s.hp.passing = some 0) (horganised : s.organised = true) :
    trainingDone none s = (s.passEnded 0).setFlag HP_STATUS.DTI true := by
  have hended : (s.passEnded 0).organised = true := horganised
  rw [State.passEnded] at hended
  simp only [trainingDone, hpassing, hended, if_true, State.passEnded]

/-- R122: the host-rate pass sets DTH, for the rate that it trained at. -/
theorem trainingDone_host (hpassing : s.hp.passing = some 1) (horganised : s.organised = true) :
    trainingDone none s = { (s.passEnded 1).setFlag HP_STATUS.DTH true with
      hp := { (s.passEnded 1).hp with
        trained := some (((s.passEnded 1).setFlag HP_STATUS.DTH true).get HP_RATE.MTS) } } := by
  have hended : (s.passEnded 1).organised = true := horganised
  rw [State.passEnded] at hended
  simp only [trainingDone, hpassing, hended, if_true, State.passEnded]
  rfl

/-! ### CLAIM and RETRAIN (R134, R144) -/

theorem ownctlWrite_claim (h : s.claimLegal .host = true) : ownctlWrite .host 1 3 s = some s.claim := by
  simp [ownctlWrite, h, bitOf, State.when]

theorem ownctlWrite_retrain (h : s.retrainLegal = true) : ownctlWrite .host 2 3 s = some s.repeatPasses := by
  simp [ownctlWrite, h, bitOf]

/-- R134: a legal CLAIM of the host. -/
theorem completes_claim (hup : s.coreUp = true) (hlegal : s.claimLegal .host = true) {Q : State → Prop}
    (h : Q s.claim) : Completes (.claim .host) s Q :=
  ⟨s.claim, congrArg Host.Outcome.next (s.rowWrite_core _ .host hup (ownctlWrite_claim hlegal)), h⟩

/-- R134: the host has the DRAM. -/
theorem State.release_results (s : State) :
    s.release.own = 0 ∧ s.release.flag HP_OWN.BLOCK = false ∧
      s.release.hp = { s.hp with selfRefresh := 0, claimWaits := false } :=
  ⟨State.own_ownChange _ (by decide) _ _, State.block_ownChange _ _ _ _, State.hp_ownChange _ _ _ _⟩

theorem State.claim_releases (hdeferred : s.flag HP_STATUS.DEFERRED = false)
    (hscrub : s.flag HP_STATUS.SCRUBBING = false) : s.claim = s.release := by
  simp [State.claim, hdeferred, hscrub]

/-- R136: the scrub runs, and no other register but DEFERRED has changed. -/
theorem State.beginScrub_results (s : State) :
    s.beginScrub.flag HP_STATUS.SCRUBBING = true ∧ s.beginScrub.own = s.own := by
  have hread (g : Field) : s.beginScrub.get g = ((s.set HP_STATUS.SCRUBBING 1).set HP_STATUS.DEFERRED 0).get g := rfl
  constructor
  · rw [State.flag, hread, State.get_set_ne _ _ (by decide), State.get_set_same]
    rfl
  · rw [State.own, hread, State.get_set_ne _ _ (by decide), State.get_set_ne _ _ (by decide), State.own]

/-- R134, R136: a CLAIM waits for the deferred scrub. -/
theorem State.claim_waits (hdeferred : s.flag HP_STATUS.DEFERRED = true) :
    s.claim.flag HP_STATUS.SCRUBBING = true ∧ s.claim.hp.claimWaits = true ∧ s.claim.own = s.own := by
  obtain ⟨hscrub, hown⟩ := s.beginScrub_results
  rw [State.claim, if_pos hdeferred]
  exact ⟨hscrub, rfl, hown⟩

/-- R122, R144: both passes are due again. -/
theorem State.repeatPasses_results (s : State) : s.repeatPasses.flag HP_STATUS.DTI = false ∧
    s.repeatPasses.flag HP_STATUS.DTH = false ∧ s.repeatPasses.hp.passes = [0, 1] := by
  have hread (g : Field) : s.repeatPasses.get g = ((s.set HP_STATUS.DTI 0).set HP_STATUS.DTH 0).get g := rfl
  refine ⟨?_, flag_set_boolNat (s.set HP_STATUS.DTI 0) rfl false, rfl⟩
  rw [State.flag, hread, State.get_set_ne _ _ (by decide), State.get_set_same]
  rfl

/-! ### LOCK (R127) -/

theorem slotFields_eccctl : slotFields 0x301C = [⟨HP_ECCCTL.LOCK, .w1, false⟩, ⟨HP_ECCCTL.MODE, .rwm, true⟩] := rfl

/-- R35, R127: the host writes both fields of HP_ECCCTL. -/
theorem State.plainWrite_eccctl (s : State) (v : Nat) : s.plainWrite .host 0x301C v (2 ^ 24 - 1) =
    some ((s.set HP_ECCCTL.LOCK (bitsOf v 1 1)).set HP_ECCCTL.MODE (bitsOf v 0 1)) := by
  simp only [State.plainWrite, slotFields_eccctl]
  rfl

/-- R127: the lock is set and the mode stays. -/
theorem eccLockWrite_results (hopen : s.flag HP_ECCCTL.LOCK = false) (hmode : s.get HP_ECCCTL.MODE < 2) :
    ∃ t, eccLockWrite .host s = some t ∧ t.flag HP_ECCCTL.LOCK = true ∧
      t.get HP_ECCCTL.MODE = s.get HP_ECCCTL.MODE := by
  have hlock : bitsOf (2 + s.get HP_ECCCTL.MODE) 1 1 = 1 := by
    rw [bitsOf]
    omega
  have hkept : bitsOf (2 + s.get HP_ECCCTL.MODE) 0 1 = s.get HP_ECCCTL.MODE := by
    rw [bitsOf]
    omega
  rw [eccLockWrite, hopen, s.plainWrite_eccctl, hlock, hkept]
  refine ⟨_, rfl, ?_, ?_⟩
  · rw [State.flag, State.get_set_ne _ _ (by decide), State.get_set_same]
    rfl
  · rw [State.get_set_same]
    exact Nat.mod_eq_of_lt hmode

/-! ### The scrub (R136) -/

/-- R136: the scrub begins at once, or is deferred for the image that waits. -/
theorem scrubStart_results (hup : s.coreUp = true) (hrail : s.hp.railScrub = true)
    (htrained : s.flag HP_STATUS.DTI = true) (hready : s.flag FL_STATUS.READY = true) :
    (s.get SV_STATUS.IMAGE = 0 → (scrubStart s).flag HP_STATUS.SCRUBBING = true) ∧
      (s.get SV_STATUS.IMAGE ≠ 0 → (scrubStart s).flag HP_STATUS.DEFERRED = true) := by
  have hgo : (s.coreUp && s.hp.railScrub && s.flag HP_STATUS.DTI && s.flag FL_STATUS.READY) = true := by
    simp only [hup, hrail, htrained, hready, Bool.and_self]
  have hstart : scrubStart s = if s.get SV_STATUS.IMAGE = 0 then
      ({ s with hp := { s.hp with railScrub := false } } : State).beginScrub
      else ({ s with hp := { s.hp with railScrub := false } } : State).setFlag HP_STATUS.DEFERRED true := if_pos hgo
  refine ⟨fun himage => ?_, fun himage => ?_⟩
  · rw [hstart, if_pos himage]
    exact (State.beginScrub_results _).1
  · rw [hstart, if_neg himage]
    exact flag_set_boolNat { s with hp := { s.hp with railScrub := false } } rfl true

/-- R118, R136: 64 KiB units fill the DRAM. -/
theorem State.byte_zeroUnits (s : State) {a : Nat} (ha : a < s.dramBytes) :
    (s.zeroUnits 0 (s.dramBytes / 65536)).hp.dram.byte a = 0 := by
  obtain ⟨units, hunits⟩ : ∃ units, s.dramBytes = units * 65536 :=
    ⟨s.get HP_CONFIG.GIB * 16384, by rw [State.dramBytes]; omega⟩
  rw [hunits] at ha ⊢
  rw [Nat.mul_div_cancel _ (by decide)]
  refine Image.byte_fill _ ?_ rfl
  rw [Fill.covers, Nat.zero_mul, Nat.zero_add, decide_eq_true (Nat.zero_le a), decide_eq_true ha, Bool.and_self]

/-- R134, R136: a CLAIM that waited takes the DRAM with its bytes. -/
theorem State.release_scrubbed (s : State) (b : Bool) :
    (s.when b (·.release)).flag HP_STATUS.SCRUBBING = s.flag HP_STATUS.SCRUBBING ∧
      (s.when b (·.release)).hp.dram = s.hp.dram := by
  cases b
  · exact ⟨rfl, rfl⟩
  · obtain ⟨-, -, hhp⟩ := s.release_results
    rw [State.when, if_pos rfl, hhp]
    exact ⟨congrArg (· != 0)
      (State.get_ownChange _ _ _ _ (by decide) (by decide) (by decide) (by decide) (by decide)), rfl⟩

theorem hostField_scrubbing : hostField HP_STATUS.SCRUBBING := ⟨by decide, by decide, by decide⟩

/-- R136, R137, R156: what follows the last unit leaves the zeros and the flag alone. -/
theorem HostKept.scrubEnds (h : HostKept s t) :
    HostKept s ((t.discardImage.renew 1 ⟨[], [], []⟩ []).getD t.discardImage) := by
  cases hrenewed : t.discardImage.renew 1 ⟨[], [], []⟩ [] with
  | none => exact .discardImage h
  | some u => exact renew_hostKept (.discardImage h) u hrenewed

/-- R136: at the scrub's end every byte of the DRAM reads zero. -/
theorem scrubEnd_results (work : FlashWork) (hscrub : s.flag HP_STATUS.SCRUBBING = true) :
    (scrubEnd work s).flag HP_STATUS.SCRUBBING = false ∧ ∀ a < s.dramBytes, (scrubEnd work s).hp.dram.byte a = 0 := by
  have hbytes : (s.flashWork 3 false work).dramBytes = s.dramBytes := by
    have hwork : HostKept s (s.flashWork 3 false work) := .flashWork (.refl s)
    rw [State.dramBytes, hwork.get _ ⟨by decide, by decide, by decide⟩, State.dramBytes]
  rw [scrubEnd, if_pos hscrub]
  extract_lets worked units zeroed raised discarded renewed
  have hkept : HostKept zeroed renewed := .scrubEnds (.raise (.refl zeroed))
  obtain ⟨hflag, hdram⟩ := renewed.release_scrubbed renewed.hp.claimWaits
  refine ⟨?_, fun a ha => ?_⟩
  · rw [hflag, State.flag, hkept.get _ hostField_scrubbing]
    exact flag_set_boolNat _ rfl false
  · rw [hdram, hkept.hp]
    exact worked.byte_zeroUnits (ha.trans_eq hbytes.symm)

end

/-- Settles O23: each row of the device's DRAM work, by the lemma that says what it leaves. -/
theorem deviceDramResults : Obligations.DeviceDramResults := by
  intro s
  refine ⟨?pass, ?internal, ?host, ?claim, ?claimWaits, ?retrain, ?lock, ?scrub, ?scrubbed⟩
  case pass => exact fun pass hup hdue hidle hmay => ⟨_, rfl, trainingPassStart_results hup hdue hidle hmay⟩
  case internal =>
    intro hpassing horganised
    refine ⟨_, rfl, ?_⟩
    rw [trainingDone_internal hpassing horganised]
    exact ⟨flag_set_boolNat (s.passEnded 0) rfl true, rfl⟩
  case host =>
    intro hpassing horganised
    refine ⟨_, rfl, ?_⟩
    rw [trainingDone_host hpassing horganised]
    exact ⟨flag_set_boolNat (s.passEnded 1) rfl true, rfl⟩
  case claim =>
    intro hup hlegal hdeferred hscrub
    obtain ⟨hown, hblock, hhp⟩ := s.release_results
    refine completes_claim hup hlegal ?_
    rw [State.claim_releases hdeferred hscrub, hhp]
    exact ⟨hown, hblock, rfl⟩
  case claimWaits => exact fun hup hlegal hdeferred => completes_claim hup hlegal (State.claim_waits hdeferred)
  case retrain =>
    exact fun hup hlegal => ⟨s.repeatPasses,
      congrArg Host.Outcome.next (s.rowWrite_core _ .host hup (ownctlWrite_retrain hlegal)), s.repeatPasses_results⟩
  case lock =>
    intro hup hopen hmode
    obtain ⟨t, hwrite, hlocked⟩ := eccLockWrite_results hopen hmode
    exact ⟨t, congrArg Host.Outcome.next (s.rowWrite_core t .host hup hwrite), hlocked⟩
  case scrub =>
    intro hup hrail htrained hready
    obtain ⟨hbegins, hdefers⟩ := scrubStart_results hup hrail htrained hready
    exact ⟨fun himage => ⟨_, rfl, hbegins himage⟩, fun himage => ⟨_, rfl, hdefers himage⟩⟩
  case scrubbed => exact fun work hscrub => ⟨_, rfl, scrubEnd_results work hscrub⟩

end Sys2Proof.Machine

/-! ## What the journal and the flash store leave alone (R150 to R177, R212 to R236) -/

namespace Sys2Proof.Machine

set_option Elab.async false

open Reg Host

/-! ### A ring that waits for nothing (R99) -/

section
variable {s : State} {r : Nat}

theorem State.idle_matchRing (h : (s.ring r).wait = .none) (code seq r' : Nat) :
    ((State.matchRing code seq s r').ring r).wait = .none := by
  unfold State.matchRing
  split
  · next want since limit dst hwait =>
      have hne : r ≠ r' := fun e => by
        rw [e, hwait] at h
        cases h
      split
      · rw [State.waiteMatch, State.ring_setRing_ne _ _ hne]
        exact h
      · exact h
  · exact h

theorem State.idle_matchRings (h : (s.ring r).wait = .none) (code seq : Nat) (l : List Nat) :
    ((l.foldl (State.matchRing code seq) s).ring r).wait = .none :=
  foldl_keeps (fun t : State => (t.ring r).wait = .none) _ (fun _ r' ht => State.idle_matchRing ht code seq r') l s h

theorem State.ring_logPush (s : State) (e : LogEntry) (r : Nat) : (s.logPush e).ring r = s.ring r := by
  rw [State.ring, State.rings_logPush, State.ring]

theorem State.ring_pendUnit (s : State) (u r : Nat) : (s.pendUnit u).ring r = s.ring r := by
  rw [State.ring, State.rings_pendUnit, State.ring]

theorem State.idle_logEvent (h : (s.ring r).wait = .none) (e : LogEntry) : ((s.logEvent e).ring r).wait = .none := by
  have hlogged : (((s.logPush e).pendUnit (e.code / 128)).ring r).wait = .none := by
    rw [State.ring_pendUnit, State.ring_logPush, h]
  unfold State.logEvent
  split
  · exact hlogged
  · split
    · exact h
    · split
      · exact h
      · split
        · have hcounted : (((s.add TM_LOGLOST.COUNT 1).add TM_EVSEQ.SEQ 1).ring r).wait = .none := h
          dsimp only
          rw [State.ring_pendUnit, State.setFlag_eq, State.ring_set, State.ring_logPush]
          exact State.idle_matchRings hcounted _ _ _
        · exact hlogged

/-- R99: an event ends no wait of a ring that waits for nothing. -/
theorem State.idle_raise (h : (s.ring r).wait = .none) (code w5 w6 w7 : Nat) :
    ((s.raise code w5 w6 w7).ring r).wait = .none := by
  have hcounted : ((s.add TM_EVSEQ.SEQ 1).ring r).wait = .none := h
  unfold State.raise State.raiseFrom
  split
  · exact h
  · split
    · exact State.idle_logEvent (State.idle_matchRings hcounted _ _ _) _
    · exact h

end

/-! ### The frame -/

/-- R87, R176: the registers that the journal and the flash store do not work on by themselves: the tails of the
completion queues, FOLDING and FOLDHELD, the barriers, JSEQ, the generation and the epoch, and the regions but for their
dirty counts. -/
def journalSlot (off lo : Nat) : Bool :=
  (decide (0x2040 ≤ off) && decide (off < 0x2080) && decide (off % 16 = 0)) ||
    (decide (off = 0x4000) && (decide (lo = 4) || decide (lo = 5))) ||
    (decide (0x4050 ≤ off) && decide (off < 0x4078) && decide (off ≠ 0x4068)) ||
    (decide (0x4100 ≤ off) && decide (off < 0x4500) && decide (off % 16 < 8))

/-- R176: the dirty count of a region is none of them. -/
theorem journalSlot_eq_false {off lo : Nat} (h : 0x4100 ≤ off ∧ off % 16 = 8) : journalSlot off lo = false := by
  simp only [journalSlot, Bool.or_eq_false_iff, Bool.and_eq_false_iff, decide_eq_false_iff_not]
  omega

/-- R81, R151: the tails and the regions. -/
theorem journalSlot_eq_true {off lo : Nat} (h : (0x2040 ≤ off ∧ off < 0x2080 ∧ off % 16 = 0) ∨
    (0x4100 ≤ off ∧ off < 0x4500 ∧ off % 16 < 8)) : journalSlot off lo = true := by
  simp only [journalSlot, Bool.or_eq_true, Bool.and_eq_true, decide_eq_true_eq]
  omega

/-- What of the flash store a fold reads and writes (R167, R201). -/
def Flash.books (f : Flash) := (f.base, f.baseCut, f.journal, f.spent)

/-- The shadow unit but for the capture order and the open page. -/
def Shadow.beyondPages (x : Shadow) : Shadow := { x with order := [], page := [], pageFrom := 0 }

/-- From `s` to `t` the registers of `journalSlot`, what `view` shows of the shadow unit, and the base and the journal
stand, and no ring that waits for nothing has come to wait. -/
structure JournalKept (view : Shadow → Shadow) (s t : State) : Prop where
  get : ∀ g : Field, g.lo < 32 → journalSlot g.off g.lo = true → t.get g = s.get g
  sh : view t.sh = view s.sh
  books : t.fl.books = s.fl.books
  idle : ∀ r, (s.ring r).wait = .none → (t.ring r).wait = .none

section
variable {view : Shadow → Shadow} {s t u : State}

theorem JournalKept.refl (s : State) : JournalKept view s s := ⟨fun _ _ _ => rfl, rfl, rfl, fun _ h => h⟩

theorem JournalKept.trans (h : JournalKept view s t) (h' : JournalKept view t u) : JournalKept view s u :=
  ⟨fun g hlo hg => (h'.get g hlo hg).trans (h.get g hlo hg), h'.sh.trans h.sh, h'.books.trans h.books,
    fun r hr => h'.idle r (h.idle r hr)⟩

/-- Where `view` shows everything the shadow unit stands. -/
theorem JournalKept.sh_eq (h : JournalKept id s t) : t.sh = s.sh := h.sh

/-- An update of what the frame does not look at. -/
theorem JournalKept.congr (h : JournalKept view s t) (hregs : u.regs = t.regs) (hrings : u.rings = t.rings)
    (hsh : view u.sh = view t.sh) (hbooks : u.fl.books = t.fl.books) : JournalKept view s u :=
  h.trans ⟨fun g _ _ => by rw [State.get, hregs, State.get], hsh, hbooks,
    fun r hr => by rwa [State.ring, hrings]⟩

theorem JournalKept.ite {c : Prop} [Decidable c] (ht : JournalKept view s t) (hu : JournalKept view s u) :
    JournalKept view s (if c then t else u) := by
  split
  · exact ht
  · exact hu

theorem JournalKept.when {b : Bool} {f : State → State} (h : JournalKept view s t) (hf : JournalKept view s (f t)) :
    JournalKept view s (t.when b f) := by
  cases b
  · exact h
  · exact hf

theorem JournalKept.foldl {α : Type} {f : State → α → State} {l : List α} (h : JournalKept view s t)
    (hf : ∀ {u} x, JournalKept view s u → JournalKept view s (f u x)) : JournalKept view s (l.foldl f t) :=
  List.foldlRecOn (motive := JournalKept view s) l f h fun _ hu x _ => hf x hu

/-- A register that the frame does not look at. -/
theorem JournalKept.set {f : Field} {v : Nat} (h : JournalKept view s t)
    (hslot : journalSlot f.off f.lo = false := by decide) (hlo : f.lo < 32 := by decide) :
    JournalKept view s (t.set f v) := by
  refine h.trans ⟨fun g hg hkept => State.get_set_ne t v fun hkey => ?_, rfl, rfl, fun _ hr => hr⟩
  simp only [Field.key] at hkey
  have hoff : g.off = f.off := by omega
  have hbit : g.lo = f.lo := by omega
  rw [hoff, hbit, hslot] at hkept
  cases hkept

theorem JournalKept.setFl {x : Flash} (h : JournalKept view s t) (hx : x.books = t.fl.books := by rfl) :
    JournalKept view s (t.setFl x) := h.congr rfl rfl rfl hx

theorem JournalKept.setRecord {r : SaveRecord} (h : JournalKept view s t) : JournalKept view s (t.setRecord r) :=
  h.congr rfl rfl rfl rfl

theorem JournalKept.draw (h : JournalKept view s t) : JournalKept view s t.draw.2 := h.congr rfl rfl rfl rfl

/-- R331: an event is in the log, in its registers, and in the rings that wait for it. -/
theorem JournalKept.raise {code w5 w6 w7 : Nat} (h : JournalKept view s t) :
    JournalKept view s (t.raise code w5 w6 w7) := by
  have hsame := SameUnits.raise t code w5 w6 w7
  refine h.trans ⟨fun g hlo hg => State.get_raise ?_ t code w5 w6 w7, by rw [hsame.sh], by rw [hsame.fl],
    fun r hr => State.idle_raise hr code w5 w6 w7⟩
  simp only [journalSlot, Bool.or_eq_true, Bool.and_eq_true, decide_eq_true_eq] at hg
  exact not_eventField hlo (by omega) (by omega) (by omega)

/-! ### The flash store -/

theorem JournalKept.codewordRead {source : Nat} {c : CodewordRead} (h : JournalKept view s t) :
    JournalKept view s (State.codewordRead source t c) :=
  .ite (.when (.set h) (.set (.set h))) (.raise (.set (.setFl (.set h))))

theorem JournalKept.markWeak {k : Nat} (h : JournalKept view s t) : JournalKept view s (t.markWeak k) :=
  .ite (.setFl h) h

/-- R216, R226, R229: what an operation met. -/
theorem JournalKept.flashWork {source : Nat} {tests : Bool} {k : FlashWork} (h : JournalKept view s t) :
    JournalKept view s (t.flashWork source tests k) := by
  unfold State.flashWork
  extract_lets read tested
  have hread : JournalKept view s read := .foldl h fun _ h => .codewordRead h
  have htested : JournalKept view s tested := .when hread (.foldl hread fun _ h => .markWeak h)
  exact .ite htested (.set (.set (.foldl htested fun _ h => .setFl h)))

theorem JournalKept.eraseStripe {k : Nat} (h : JournalKept view s t) : JournalKept view s (t.eraseStripe k) :=
  .set (.set (.setFl h))

theorem JournalKept.turnRing {n : Nat} (h : JournalKept view s t) : JournalKept view s (t.turnRing n) := by
  refine .ite h (.ite ?_ h)
  split
  · exact .setFl (.eraseStripe h)
  · exact h

theorem JournalKept.programCodeword {area owner : Nat} {e : Nat × Option (List Nat)} (h : JournalKept view s t) :
    JournalKept view s (State.programCodeword area owner t e) := by
  have hcounted : JournalKept view s (t.programmed 1 (boolNat (area == 3))) := .setFl h
  unfold State.programCodeword
  dsimp only
  split
  · exact .setFl hcounted
  · exact .setFl (.draw hcounted)

theorem JournalKept.programAll {area owner : Nat} {l : List (Nat × Option (List Nat))} (h : JournalKept view s t) :
    JournalKept view s (t.programAll area owner l) := .foldl h fun _ h => .programCodeword h

theorem JournalKept.forgetLost {areas : List Nat} (h : JournalKept view s t) :
    JournalKept view s (t.forgetLost areas) := .setFl h

theorem JournalKept.eraseFree {n : Nat} (h : JournalKept view s t) : JournalKept view s (State.eraseFree n t) := by
  induction n generalizing t with
  | zero => exact h
  | succ n ih =>
      unfold State.eraseFree
      split
      · exact ih (.setFl (.eraseStripe h))
      · exact h

theorem JournalKept.keepErased (h : JournalKept view s t) : JournalKept view s t.keepErased :=
  .set (.when h (.eraseFree h))

theorem JournalKept.pickStripe {n : Nat} (h : JournalKept view s t) (e : t.pickStripe = some (n, u)) :
    JournalKept view s u := by
  obtain ⟨k, -, hk⟩ := Option.map_eq_some_iff.mp e
  cases hk
  exact .setFl (.ite h (.eraseStripe h))

theorem takeStripes_journalKept {use : StripeUse} {n : Nat} (h : JournalKept view s t) :
    IfSome (JournalKept view s) (State.takeStripes use n t) := by
  induction n generalizing t with
  | zero => exact .some h
  | succ n ih =>
      intro v e
      obtain ⟨u, hu, hv⟩ := Option.bind_eq_some_iff.mp e
      obtain ⟨⟨k, w⟩, hw, rfl⟩ := Option.map_eq_some_iff.mp hu
      exact ih (.setFl (.pickStripe h hw)) v hv

/-- R215, R219: a generation in free stripes is none of the base that stands. -/
theorem writeGeneration_journalKept {gen : Nat} {m : Image} (h : JournalKept view s t) :
    IfSome (JournalKept view s) (t.writeGeneration gen m) :=
  .map (takeStripes_journalKept h) fun h => .programAll (.programAll (.forgetLost h))

theorem JournalKept.updateRoot {was : Flash} {slot cut : Nat} (h : JournalKept view s t) :
    JournalKept view s (t.updateRoot was slot cut) := by
  unfold State.updateRoot
  split
  · exact .programAll (.setFl (.setFl h))
  · exact h

/-- R219, R223: the stripes and the root change over, the content stands. -/
theorem JournalKept.switchBase {was : Flash} {cut : Nat} (h : JournalKept view s t) :
    JournalKept view s (t.switchBase was cut) := by
  have hrenamed : JournalKept view s (((t.dropUse .generation).dropUse .carried).renameUse .next .generation) :=
    .setFl (.setFl (.setFl h))
  exact .keepErased (.updateRoot (.setFl (.ite (.forgetLost hrenamed) hrenamed)))

/-! ### The journal and the regions -/

theorem JournalKept.beyondPages (h : JournalKept id s t) : JournalKept Shadow.beyondPages s t :=
  ⟨h.get, congrArg Shadow.beyondPages h.sh, h.books, h.idle⟩

theorem JournalKept.showFill (h : JournalKept view s t) : JournalKept view s t.showFill := .set h

/-- R154, R160, R169: records move into the open page, or the journal is full. -/
theorem JournalKept.place (h : JournalKept Shadow.beyondPages s t) : JournalKept Shadow.beyondPages s t.place := by
  unfold State.place
  dsimp only
  exact .ite h (.ite (.raise (.set h)) (.ite h (h.congr rfl rfl rfl rfl)))

theorem JournalKept.relieveJournal (h : JournalKept Shadow.beyondPages s t) :
    JournalKept Shadow.beyondPages s t.relieveJournal :=
  .ite (.place (.raise (.set (.showFill h)))) (.showFill h)

/-- R220: the capacity's figures and its condition. -/
theorem JournalKept.checkCapacity (h : JournalKept view s t) : JournalKept view s t.checkCapacity :=
  .ite (.set (.set h)) (.raise (.set (.set (.set h))))

/-- R176: the dirty counts. -/
theorem JournalKept.showDirty (h : JournalKept view s t) : JournalKept view s t.showDirty := by
  refine .foldl (.set (.set h)) fun k hu => .ite (.set hu ?_ (Nat.zero_lt_succ 31)) hu
  exact journalSlot_eq_false (by simp only [SH_RG_C.DIRTY]; omega)

/-- R157: PDIRTY sets. -/
theorem JournalKept.freeze {cause p : Nat} (h : JournalKept view s t) : JournalKept view s (t.freeze cause p) :=
  .ite h (.raise (.setRecord (.set h)))

/-! ### A completion (R79, R80, R101) -/

theorem State.sh_post (s : State) (c : OpRef) (status result : Nat) : (s.post c status result).sh = s.sh :=
  State.post_same (view := State.sh) (fun _ _ _ => rfl) (fun _ _ _ => rfl) (fun _ _ _ => rfl) (fun _ _ _ => rfl) s c _ _

theorem State.fl_post (s : State) (c : OpRef) (status result : Nat) : (s.post c status result).fl = s.fl :=
  State.post_same (view := State.fl) (fun _ _ _ => rfl) (fun _ _ _ => rfl) (fun _ _ _ => rfl) (fun _ _ _ => rfl) s c _ _

/-- R87: the registers of a completion are the ring unit's. -/
theorem not_postField {g : Field} (hlo : g.lo < 32 := by decide) (hoff : 0x3000 ≤ g.off := by decide) :
    ¬ postField g := by
  simp only [postField, Field.key, QU_CQTAIL.TAIL, QU_CQRES.RESV, QU_OUT.OUT, QU_EVPEND.CQ]
  omega

theorem State.sh_postAll (s : State) (l : List (OpRef × Nat × Nat)) : (s.postAll l).sh = s.sh := by
  unfold State.postAll
  exact foldl_same State.sh _ (fun t (e : OpRef × Nat × Nat) => t.sh_post e.1 e.2.1 e.2.2) _ s

theorem State.postAll_one (s : State) (c : OpRef) (status result : Nat) :
    s.postAll [(c, status, result)] = s.post c status result := by
  simp only [State.postAll, List.foldl, insertPost]

theorem State.sh_postOpt (s : State) (c : Option OpRef) (status result : Nat) :
    (s.postOpt c status result).sh = s.sh := by
  cases c with
  | none => rfl
  | some c => exact s.sh_post c status result

theorem State.fl_postOpt (s : State) (c : Option OpRef) (status result : Nat) :
    (s.postOpt c status result).fl = s.fl := by
  cases c with
  | none => rfl
  | some c => exact s.fl_post c status result

/-- R80: the tails of the queues stand where they stood. -/
theorem JournalKept.tail (h : JournalKept view s t) {m : Nat} (hm : m < 4) :
    t.get (QU_CQTAIL.TAIL m) = s.get (QU_CQTAIL.TAIL m) := by
  refine h.get _ (by decide : 0 < 32) (journalSlot_eq_true (.inl ?_))
  simp only [QU_CQTAIL.TAIL]
  omega

/-- R79: the completion that an instruction awaited, if one did. -/
theorem JournalKept.done_postOpt (h : JournalKept view s t) {c : Option OpRef} {ref : OpRef} (hc : c = some ref)
    (status result : Nat) : Done ref status result s (t.postOpt c status result) := by
  rw [hc]
  exact (t.done_post ref status result).congr (h.tail ref.q_lt)

/-! ### Counts over two registers (R26) -/

theorem JournalKept.bar (h : JournalKept view s t) : t.bar = s.bar := by
  rw [State.bar, State.getPair, h.get _ (by decide) (by decide), h.get _ (by decide) (by decide), State.bar,
    State.getPair]

theorem JournalKept.recBar (h : JournalKept view s t) : t.recBar = s.recBar := by
  rw [State.recBar, State.getPair, h.get _ (by decide) (by decide), h.get _ (by decide) (by decide), State.recBar,
    State.getPair]

theorem JournalKept.jseq (h : JournalKept view s t) : t.jseq = s.jseq := by
  rw [State.jseq, State.getPair, h.get _ (by decide) (by decide), h.get _ (by decide) (by decide), State.jseq,
    State.getPair]

/-- R26: a count of 48 bits reads as it was written. -/
theorem State.getPair_setPair (s : State) {hi lo : Field} {v : Nat} (hv : v < 2 ^ 48) (hhi : hi.width = 24 := by rfl)
    (hlo : lo.width = 24 := by rfl) (hne : hi.key ≠ lo.key := by decide) : (s.setPair hi lo v).getPair hi lo = v := by
  rw [State.getPair, State.setPair_eq, State.get_set_same, State.get_set_ne _ _ hne, State.get_set_same, hhi, hlo]
  omega

theorem State.get_setPair_ne (s : State) {hi lo g : Field} {v : Nat} (hhi : g.key ≠ hi.key := by decide)
    (hlo : g.key ≠ lo.key := by decide) : (s.setPair hi lo v).get g = s.get g := by
  rw [State.setPair_eq, State.get_set_ne _ _ hlo, State.get_set_ne _ _ hhi]

end

end Sys2Proof.Machine

/-! ## The shadow rate and hold-up accounting (R162, R170 to R172) -/

namespace Sys2Proof.Machine

set_option Elab.async false

open Reg

/-! ### The rate loop (R14, R162) -/

/-- R14: the output of an update is the demand held in the envelope. -/
theorem loopUpdate_out (lo hi d : Int) (pinned : Bool) (calm : Nat) :
    (loopUpdate lo hi d pinned calm).out = clampInt lo hi d := by
  unfold loopUpdate
  split
  · rfl
  · next hinside =>
      have hclamp : clampInt lo hi d = d := by
        rw [clampInt, if_neg (by omega), if_neg (by omega)]
      rw [hclamp]
      split
      · split <;> rfl
      · rfl

theorem clampInt_natCast (lo hi n : Nat) : clampInt lo hi n = clampNat lo hi n := by
  simp only [clampInt, clampNat, Nat.cast_lt]
  split
  · rfl
  · split <;> rfl

theorem clampNat_le {lo hi : Nat} (h : lo ≤ hi) (n : Nat) : clampNat lo hi n ≤ hi := by
  unfold clampNat
  split
  · exact h
  · split <;> omega

/-- R331: no register of the shadow unit is an event's. -/
theorem State.get_raise_shadow (s : State) {g : Field} (code w5 w6 w7 : Nat) (hlo : g.lo < 32 := by decide)
    (hoff : 0x3000 ≤ g.off ∧ g.off < 0xA000 := by decide) : (s.raise code w5 w6 w7).get g = s.get g :=
  s.get_raise (not_eventField hlo (by omega) (by omega) (by omega)) code w5 w6 w7

theorem State.shadowLoop_results (s : State) (hloop : s.flag SH_CTL.LOOP = true)
    (hrange : s.get SH_BWMIN.MBS ≤ s.get SH_BWMAX.MBS) (hwidth : s.get SH_BWMAX.MBS < 2 ^ 11) :
    s.shadowLoop.get SH_BWNOW.MBS = clampNat (s.get SH_BWMIN.MBS) (s.get SH_BWMAX.MBS)
        (min (s.get SH_BWREQ.MBS) (s.get SH_FLASHRATE.MBS)) ∧
      s.shadowLoop.sh.pagesOut = s.sh.pagesOut := by
  rw [State.shadowLoop, if_pos hloop]
  extract_lets d r shown calmed stepped
  have hout : r.out.toNat = clampNat (s.get SH_BWMIN.MBS) (s.get SH_BWMAX.MBS) d := by
    rw [loopUpdate_out, clampInt_natCast, Int.toNat_natCast]
  have hrate : stepped.get SH_BWNOW.MBS = clampNat (s.get SH_BWMIN.MBS) (s.get SH_BWMAX.MBS) d := by
    have hset : stepped.get SH_BWNOW.MBS = r.out.toNat % 2 ^ 11 :=
      (State.get_set_ne _ _ (by decide)).trans (State.get_set_same _ _ _)
    rw [hset, hout]
    exact Nat.mod_eq_of_lt (Nat.lt_of_le_of_lt (clampNat_le hrange d) hwidth)
  have hpages : stepped.sh.pagesOut = s.sh.pagesOut := rfl
  unfold State.when
  split
  · exact ⟨(State.get_raise_shadow _ _ _ _ _).trans hrate,
      (congrArg Shadow.pagesOut (SameUnits.raise stepped _ _ _ _).sh).trans hpages⟩
  · exact ⟨hrate, hpages⟩

/-- R161, R162: an update interval begins. -/
theorem shadowLoopUpdate_results {s : State} (hup : s.coreUp = true) (hedge : s.tickCount % 200 = 0)
    (honce : s.sh.loopTick ≠ some s.tickCount) (hloop : s.flag SH_CTL.LOOP = true)
    (hrange : s.get SH_BWMIN.MBS ≤ s.get SH_BWMAX.MBS) (hwidth : s.get SH_BWMAX.MBS < 2 ^ 11) :
    (shadowLoopUpdate s).get SH_BWNOW.MBS = clampNat (s.get SH_BWMIN.MBS) (s.get SH_BWMAX.MBS)
        (min (s.get SH_BWREQ.MBS) (s.get SH_FLASHRATE.MBS)) ∧
      (shadowLoopUpdate s).sh.pagesOut = 0 := by
  have hbegins : (s.coreUp && s.tickCount % 200 == 0 && s.sh.loopTick != some s.tickCount) = true := by
    simp [hup, hedge, honce]
  rw [shadowLoopUpdate, if_pos hbegins]
  exact State.shadowLoop_results { s with sh := { s.sh with pagesOut := 0, loopTick := some s.tickCount } } hloop hrange
    hwidth

/-! ### Hold-up accounting (R170 to R172) -/

/-- R21: a register of 24 bits shows what fits it. -/
theorem toSigned_ofSigned {i : Int} (hlo : -2 ^ 23 ≤ i) (hhi : i < 2 ^ 23) : toSigned 24 (ofSigned 24 i) = i := by
  rw [toSigned, Nat.mod_eq_of_lt (ofSigned_lt _ i), ofSigned]
  omega

theorem clampInt_mem {lo hi : Int} (h : lo ≤ hi) (i : Int) : lo ≤ clampInt lo hi i ∧ clampInt lo hi i ≤ hi := by
  unfold clampInt
  split
  · omega
  · split <;> omega

/-- R171: the margin fits its register. -/
theorem State.saveMargin_mem (s : State) : -0x7FFFFF ≤ s.saveMargin ∧ s.saveMargin ≤ 0x7FFFFF :=
  clampInt_mem (by decide) _

section
variable {s : State} {bit : Field} {below : Bool} {run code which : Nat}

theorem State.get_marginEpisode {g : Field} (hne : g.key ≠ bit.key) (hevent : ¬ eventField g) :
    (s.marginEpisode bit below run code which).1.get g = s.get g := by
  have hset (v : Bool) : (s.setFlag bit v).get g = s.get g := State.get_set_ne _ _ hne
  unfold State.marginEpisode
  split
  · unfold State.when
    split
    · exact (State.get_raise hevent _ _ _ _ _).trans (hset true)
    · exact hset true
  · split
    · split
      · exact (State.get_raise hevent _ _ _ _ _).trans (hset false)
      · rfl
    · rfl

/-- R172: the bit sets while the margin lies below its threshold. -/
theorem State.flag_marginEpisode (hwidth : bit.width = 1) (hevent : ¬ eventField bit) (hbelow : below = true) :
    (s.marginEpisode bit below run code which).1.flag bit = true := by
  have hset : (s.setFlag bit true).flag bit = true := flag_set_boolNat s hwidth true
  rw [State.marginEpisode, if_pos hbelow]
  unfold State.when
  split
  · rw [State.flag, State.get_raise hevent]
    exact hset
  · exact hset

end

/-- R170: U and E_req stand in their registers. -/
def State.showDemand (s : State) : State :=
  (s.set SH_UNSHAD.MIB (ceilDiv s.unshadowed (2 ^ 20))).set SH_EREQ.E (min s.eReq 0xFFFFFF)

/-- R171: the margin `m` and the capacity stand in their registers. -/
def State.showMargin (m : Int) (s : State) : State :=
  (s.showDemand.setS SH_MARGIN.E m).set SH_DIRTYCAP.MIB s.showDemand.dirtyCap

/-- R172: SHORT is judged by the margin `m`. -/
def State.judgeShort (m : Int) (s : State) : State :=
  ((s.showMargin m).marginEpisode SH_STATUS.SHORT (decide (m < 0)) (s.showMargin m).sh.shortRun
    0x206 1).1

/-- R172: LOW is judged after SHORT. -/
def State.judgeLow (m : Int) (s : State) : State :=
  ((s.judgeShort m).marginEpisode SH_STATUS.LOW (decide (m < (s.judgeShort m).get SH_WARN.E))
    (s.judgeShort m).sh.lowRun 0x205 2).1

/-- R170 to R172: the accounting shows the margin, and judges SHORT, then LOW. The margin is taken as any function of
the state: the kernel would otherwise count its bounds up in successors. -/
theorem State.accountHoldup_eq (s : State) : ∃ x, s.accountHoldup = { s.judgeLow s.saveMargin with sh := x } := by
  obtain ⟨margin, hmargin⟩ : ∃ margin, State.saveMargin = margin := ⟨_, rfl⟩
  have hdef : State.accountHoldup = State.accountHoldup := rfl
  conv at hdef => rhs; delta State.accountHoldup; rw [hmargin]
  rw [hdef, hmargin]
  exact ⟨_, rfl⟩

theorem State.get_withSh (s : State) (x : Shadow) (g : Field) : ({ s with sh := x } : State).get g = s.get g := rfl

theorem State.get_accountHoldup (s : State) (g : Field) : s.accountHoldup.get g = (s.judgeLow s.saveMargin).get g := by
  obtain ⟨x, hx⟩ := s.accountHoldup_eq
  rw [hx, State.get_withSh]

section
variable (s : State) (m : Int)

/-- What neither episode sets reads as the margin was shown. -/
theorem State.get_judgeLow {g : Field} (hshort : g.key ≠ SH_STATUS.SHORT.key := by decide)
    (hlow : g.key ≠ SH_STATUS.LOW.key := by decide) (hlo : g.lo < 32 := by decide)
    (hoff : 0x3000 ≤ g.off ∧ g.off < 0xA000 := by decide) : (s.judgeLow m).get g = (s.showMargin m).get g := by
  have hevent : ¬ eventField g := not_eventField hlo (by omega) (by omega) (by omega)
  rw [State.judgeLow, State.get_marginEpisode hlow hevent, State.judgeShort, State.get_marginEpisode hshort hevent]

/-- What is neither U nor E_req, the margin nor the capacity. -/
theorem State.get_showMargin {g : Field} (hunshad : g.key ≠ SH_UNSHAD.MIB.key := by decide)
    (hereq : g.key ≠ SH_EREQ.E.key := by decide) (hmargin : g.key ≠ SH_MARGIN.E.key := by decide)
    (hcap : g.key ≠ SH_DIRTYCAP.MIB.key := by decide) : (s.showMargin m).get g = s.get g := by
  rw [State.showMargin, State.get_set_ne _ _ hcap, State.setS_eq, State.get_set_ne _ _ hmargin, State.showDemand,
    State.get_set_ne _ _ hereq, State.get_set_ne _ _ hunshad]

theorem State.eReq_showMargin : (s.showMargin m).get SH_EREQ.E = min s.eReq 0xFFFFFF := by
  rw [State.showMargin, State.get_set_ne _ _ (by decide), State.setS_eq, State.get_set_ne _ _ (by decide),
    State.showDemand, State.get_set_same]
  exact Nat.mod_eq_of_lt (Nat.lt_succ_of_le (Nat.min_le_right _ _))

theorem State.margin_showMargin (hlo : -2 ^ 23 ≤ m) (hhi : m < 2 ^ 23) : (s.showMargin m).getS SH_MARGIN.E = m := by
  rw [State.getS, State.showMargin, State.get_set_ne _ _ (by decide), State.setS_eq, State.get_set_same]
  exact (toSigned_mod _).trans (toSigned_ofSigned hlo hhi)

/-- R172: SHORT is not LOW's episode. -/
theorem State.short_judgeLow (h : m < 0) : (s.judgeLow m).flag SH_STATUS.SHORT = true := by
  have hevent : ¬ eventField SH_STATUS.SHORT := not_eventField (by decide) (by decide) (by decide) (by decide)
  have hset : (s.judgeShort m).flag SH_STATUS.SHORT = true :=
    State.flag_marginEpisode rfl hevent (decide_eq_true h)
  rw [State.flag, State.judgeLow, State.get_marginEpisode (by decide) hevent]
  exact hset

theorem State.low_judgeLow (h : m < s.get SH_WARN.E) : (s.judgeLow m).flag SH_STATUS.LOW = true := by
  have hwarn : (s.judgeShort m).get SH_WARN.E = s.get SH_WARN.E := by
    rw [State.judgeShort, State.get_marginEpisode (by decide)
      (not_eventField (by decide) (by decide) (by decide) (by decide)), State.get_showMargin]
  exact State.flag_marginEpisode rfl (not_eventField (by decide) (by decide) (by decide) (by decide))
    (decide_eq_true (by rwa [hwarn]))

end

theorem State.accountHoldup_results (s : State) :
    s.accountHoldup.get SH_EREQ.E = min s.eReq 0xFFFFFF ∧ s.accountHoldup.getS SH_MARGIN.E = s.saveMargin ∧
      (s.saveMargin < 0 → s.accountHoldup.flag SH_STATUS.SHORT = true) ∧
      (s.saveMargin < s.get SH_WARN.E → s.accountHoldup.flag SH_STATUS.LOW = true) ∧
      s.accountHoldup.get BT_EAVAIL.E = s.get BT_EAVAIL.E := by
  obtain ⟨hlo, hhi⟩ := s.saveMargin_mem
  simp only [State.getS, State.flag, s.get_accountHoldup]
  refine ⟨?_, ?_, s.short_judgeLow _, s.low_judgeLow _, ?_⟩
  · rw [State.get_judgeLow, State.eReq_showMargin]
  · rw [State.get_judgeLow]
    exact s.margin_showMargin _ (by omega) (by omega)
  · rw [State.get_judgeLow, State.get_showMargin]

/-- R170: once at its tick edge. -/
theorem holdupAccounting_results {s : State} (hup : s.coreUp = true) (hedge : s.tickCount % 20 = 0)
    (honce : s.sh.accountTick ≠ some s.tickCount) :
    (holdupAccounting s).get SH_EREQ.E = min s.eReq 0xFFFFFF ∧ (holdupAccounting s).getS SH_MARGIN.E = s.saveMargin ∧
      (s.saveMargin < 0 → (holdupAccounting s).flag SH_STATUS.SHORT = true) ∧
      (s.saveMargin < s.get SH_WARN.E → (holdupAccounting s).flag SH_STATUS.LOW = true) ∧
      (holdupAccounting s).get BT_EAVAIL.E = s.get BT_EAVAIL.E := by
  have hbegins : (s.coreUp && s.tickCount % 20 == 0 && s.sh.accountTick != some s.tickCount) = true := by
    simp [hup, hedge, honce]
  rw [holdupAccounting, if_pos hbegins]
  exact State.accountHoldup_results { s with sh := { s.sh with accountTick := some s.tickCount } }

/-- Settles O37: an update of the rate loop, and one of the hold-up accounting. -/
theorem holdupResults : Obligations.HoldupResults := by
  intro s hup
  exact ⟨fun hedge honce hloop hrange hwidth =>
      ⟨_, rfl, shadowLoopUpdate_results hup hedge honce hloop hrange hwidth⟩,
    fun hedge honce => ⟨_, rfl, holdupAccounting_results hup hedge honce⟩⟩

end Sys2Proof.Machine

/-! ## Journal pages, barriers and folds (R158 to R168, R220) -/

namespace Sys2Proof.Machine

set_option Elab.async false

open Reg Host

section
variable {s t : State}

/-! ### The open page (R158, R160, R165) -/

theorem journalPageTimeout_results (hpage : s.sh.page ≠ []) (hdue : s.due (s.sh.pageFrom + 200000) = true) :
    (journalPageTimeout s).sh = { s.sh with closed := true } ∧ (journalPageTimeout s).regs = s.regs ∧
      (journalPageTimeout s).fl = s.fl := by
  obtain ⟨n, c, f, hpass⟩ := s.passTo_eq (s.sh.pageFrom + 200000)
  rw [journalPageTimeout, if_neg (by simpa using hpage), s.onTime_due _ hdue, hpass]
  exact ⟨rfl, rfl, rfl⟩

/-- R158: the page that the open page becomes, as it is written under JSEQ `n`. -/
def State.pageOf (s : State) (n : Nat) : JPage :=
  let page : JPage := ⟨n, s.get SH_EPOCH.EPOCH, s.sh.lastBar, s.sh.page, 0⟩
  { page with crc := page.checksum }

/-- R158: the checksum does not cover itself. -/
theorem State.crc_pageOf (s : State) (n : Nat) : (s.pageOf n).crc = (s.pageOf n).checksum := by
  simp only [State.pageOf, JPage.checksum, JPage.head, JPage.body]

/-- R165: the barrier `found` in a page that has reached flash. -/
def State.recover (s : State) (found : Option (Nat × Bool)) : State :=
  match found with
  | some (b, true) => s.setPair SH_RECBARH.BAR SH_RECBARL.BAR b
  | _ => s

theorem State.get_recover (s : State) (found : Option (Nat × Bool)) {g : Field}
    (hhi : g.key ≠ SH_RECBARH.BAR.key := by decide) (hlo : g.key ≠ SH_RECBARL.BAR.key := by decide) :
    (s.recover found).get g = s.get g := by
  unfold State.recover
  split
  · exact s.get_setPair_ne hhi hlo
  · rfl

theorem State.jseq_recover (s : State) (found : Option (Nat × Bool)) : (s.recover found).jseq = s.jseq := by
  rw [State.jseq, State.getPair, s.get_recover, s.get_recover, State.jseq, State.getPair]

theorem State.fl_recover (s : State) (found : Option (Nat × Bool)) : (s.recover found).fl = s.fl := by
  unfold State.recover
  split <;> rfl

theorem State.recover_none (s : State) : s.recover none = s := rfl

theorem State.recBar_recover (s : State) {b : Nat} (hb : b < 2 ^ 48) : (s.recover (some (b, true))).recBar = b :=
  s.getPair_setPair hb

/-- R158: the next page is counted. -/
def State.countPage (s : State) (n : Nat) : State := s.setPair SH_JSEQH.JSEQ SH_JSEQL.JSEQ n

/-- R158, R219: the open page is programmed under JSEQ `n`. -/
def State.programPage (s : State) (n : Nat) : State :=
  ((s.countPage n).turnRing n).programAll 3 n [(n % 2 ^ 32, some ((s.countPage n).pageOf n).bytes)]

/-- R158, R165: `page`, whose barrier is `found`, is in the journal, and the open page is empty. -/
def State.filePage (s : State) (page : JPage) (found : Option (Nat × Bool)) : State :=
  let s := s.setFl { s.fl with journal := s.fl.journal ++ [page] }
  { s with sh := { s.sh with
    page := [], closed := false, pagesOut := s.sh.pagesOut + 1,
    lastBar := match found with | some (b, _) => b | none => s.sh.lastBar } }

theorem State.jseq_filePage (s : State) (page : JPage) (found : Option (Nat × Bool)) :
    (s.filePage page found).jseq = s.jseq := rfl

theorem State.recBar_filePage (s : State) (page : JPage) (found : Option (Nat × Bool)) :
    (s.filePage page found).recBar = s.recBar := rfl

theorem State.journal_filePage (s : State) (page : JPage) (found : Option (Nat × Bool)) :
    (s.filePage page found).fl.journal = s.fl.journal ++ [page] := rfl

theorem State.writePage_eq (s : State) {n : Nat} (hn : min (s.jseq + 1) (2 ^ 48 - 1) = n) :
    s.writePage = (((s.programPage n).filePage ((s.countPage n).pageOf n) (pageBarrier s.sh.page)).recover
      (pageBarrier s.sh.page)).showFill.place := by
  rw [State.writePage, hn]
  simp only [State.programPage, State.countPage, State.pageOf, State.filePage, State.recover]
  rfl

theorem State.countPage_results (s : State) {n : Nat} (hn : n < 2 ^ 48) :
    (s.countPage n).jseq = n ∧ (s.countPage n).recBar = s.recBar := by
  refine ⟨s.getPair_setPair hn, ?_⟩
  rw [State.recBar, State.getPair, State.countPage, State.get_setPair_ne, State.get_setPair_ne, State.recBar,
    State.getPair]

theorem JournalKept.journal {view : Shadow → Shadow} (h : JournalKept view s t) : t.fl.journal = s.fl.journal :=
  congrArg (fun b => b.2.2.1) h.books

/-- R154, R165: the recovery barrier moves on, and records move into the next page. -/
theorem State.recovered_journalKept (s : State) (found : Option (Nat × Bool)) :
    JournalKept Shadow.beyondPages (s.recover found) (s.recover found).showFill.place := .place (.showFill (.refl _))

theorem State.jseq_recovered (s : State) (found : Option (Nat × Bool)) :
    (s.recover found).showFill.place.jseq = s.jseq :=
  (s.recovered_journalKept found).jseq.trans (s.jseq_recover found)

theorem State.journal_recovered (s : State) (found : Option (Nat × Bool)) :
    (s.recover found).showFill.place.fl.journal = s.fl.journal :=
  (s.recovered_journalKept found).journal.trans (congrArg Flash.journal (s.fl_recover found))

/-- R158: the page that is filed. -/
theorem State.pageOf_countPage (s : State) (n : Nat) : ((s.countPage n).pageOf n).jseq = n ∧
    ((s.countPage n).pageOf n).epoch = s.get SH_EPOCH.EPOCH ∧ ((s.countPage n).pageOf n).bar = s.sh.lastBar ∧
    ((s.countPage n).pageOf n).items = s.sh.page ∧
    ((s.countPage n).pageOf n).crc = ((s.countPage n).pageOf n).checksum :=
  ⟨rfl, s.get_setPair_ne, rfl, rfl, State.crc_pageOf _ _⟩

/-- R158, R165: a page that is written has JSEQ `n`, the epoch and the last barrier, and its own checksum; its barrier
becomes the recovery barrier where it is recoverable. -/
theorem State.writePage_results (s : State) {n : Nat} (hn : min (s.jseq + 1) (2 ^ 48 - 1) = n) (hroom : n < 2 ^ 48) :
    s.writePage.jseq = n ∧
      (∃ p : JPage, s.writePage.fl.journal = s.fl.journal ++ [p] ∧ p.jseq = n ∧
        p.epoch = s.get SH_EPOCH.EPOCH ∧ p.bar = s.sh.lastBar ∧ p.items = s.sh.page ∧ p.crc = p.checksum) ∧
      (pageBarrier s.sh.page = none → s.writePage.recBar = s.recBar) ∧
      ∀ b, b < 2 ^ 48 → pageBarrier s.sh.page = some (b, true) → s.writePage.recBar = b := by
  obtain ⟨hjseq, hrecBar⟩ := s.countPage_results hroom
  have hprogrammed : JournalKept id (s.countPage n) (s.programPage n) := .programAll (.turnRing (.refl _))
  have hjournal : (s.programPage n).fl.journal = s.fl.journal := hprogrammed.journal
  rw [s.writePage_eq hn]
  refine ⟨?_, ⟨(s.countPage n).pageOf n, ?_, s.pageOf_countPage n⟩, fun hnone => ?_, fun b hb hfound => ?_⟩
  · rw [State.jseq_recovered, State.jseq_filePage, hprogrammed.jseq, hjseq]
  · rw [State.journal_recovered, State.journal_filePage, hjournal]
  · rw [hnone, (State.recovered_journalKept _ none).recBar, State.recover_none, State.recBar_filePage,
      hprogrammed.recBar, hrecBar]
  · rw [hfound, (State.recovered_journalKept _ _).recBar]
    exact State.recBar_recover _ hb

/-- R165: a due page reaches flash. -/
theorem journalPageWritten_results (work : FlashWork) (hdue : s.pageDue = true)
    (hmay : s.sv.lifted = true ∨ s.sh.pagesOut < s.pageAllowance) (hroom : s.jseq < 2 ^ 48 - 1) :
    (journalPageWritten work s).jseq = s.jseq + 1 ∧
      (∃ p : JPage, (journalPageWritten work s).fl.journal = s.fl.journal ++ [p] ∧ p.jseq = s.jseq + 1 ∧
        p.epoch = s.get SH_EPOCH.EPOCH ∧ p.bar = s.sh.lastBar ∧ p.items = s.sh.page ∧ p.crc = p.checksum) ∧
      (pageBarrier s.sh.page = none → (journalPageWritten work s).recBar = s.recBar) ∧
      ∀ b, b < 2 ^ 48 → pageBarrier s.sh.page = some (b, true) → (journalPageWritten work s).recBar = b := by
  have hwork : JournalKept id s (s.flashWork 3 false work) := .flashWork (.refl s)
  have hsh : (s.flashWork 3 false work).sh = s.sh := hwork.sh_eq
  have hwrites : (s.pageDue && (s.sv.lifted || decide (s.sh.pagesOut < s.pageAllowance))) = true := by
    simpa [hdue] using hmay
  have hresults := (s.flashWork 3 false work).writePage_results (n := s.jseq + 1)
    (by rw [hwork.jseq]; omega) (by omega)
  rw [hsh, hwork.journal, hwork.recBar, hwork.get _ (by decide) (by decide)] at hresults
  rw [journalPageWritten, if_pos hwrites]
  exact hresults

/-! ### DURABLE barriers (R166) -/

theorem State.fences_fencesDone (s : State) :
    s.fencesDone.sh.fences = s.sh.fences.filter fun f => !decide (f.2 ≤ s.recBar) := by
  rw [State.fencesDone, State.sh_postAll]

theorem State.recBar_lt_of_mem_fencesDone (s : State) : ∀ f ∈ s.fencesDone.sh.fences, s.recBar < f.2 := by
  intro f hf
  rw [s.fences_fencesDone, List.mem_filter] at hf
  simpa using hf.2

/-- R166: the PFENCE of a barrier that has become recoverable completes. -/
theorem State.fencesDone_one {ref : OpRef} {n : Nat} (hfences : s.sh.fences = [(ref, n)]) (hn : n ≤ s.recBar) :
    s.fencesDone.sh.fences = [] ∧ Done ref 0x01 n s s.fencesDone := by
  constructor
  · rw [s.fences_fencesDone, hfences]
    simp [hn]
  · have hposted : s.fencesDone = ({ s with sh := { s.sh with fences := [] } } : State).post ref 0x01 n := by
      rw [State.fencesDone, hfences]
      simp [hn, State.postAll_one]
    rw [hposted]
    exact (State.done_post _ ref 0x01 n).congr rfl

/-! ### The start of a fold (R167, R168) -/

theorem State.beginFold_results (s : State) (ref : Option OpRef) :
    (s.beginFold ref).sh.fold = some ⟨ref, s.recBar, s.clock⟩ ∧ (s.beginFold ref).flag SH_STATUS.FOLDING = true :=
  ⟨rfl, flag_set_boolNat { s with sh := { s.sh with fold := some ⟨ref, s.recBar, s.clock⟩ } } rfl true⟩

theorem foldAutoStart_results (hup : s.coreUp = true) (hauto : s.flag SH_CTL.AUTOFOLD = true)
    (hpaused : s.foldPaused = false) (hfolding : s.flag SH_STATUS.FOLDING = false)
    (hfill : s.get SH_FOLDAT.PERMIL ≤ s.get SH_JFILL.PERMIL) (hwork : s.nothingToFold = false) :
    (foldAutoStart s).sh.fold = some ⟨none, s.recBar, s.clock⟩ ∧ (foldAutoStart s).flag SH_STATUS.FOLDING = true := by
  rw [foldAutoStart, if_pos (by simp [hup, hauto, hpaused, hfolding, hfill, hwork])]
  exact s.beginFold_results none

/-! ### The end of a fold (R167, R220) -/

/-- R87: no register of the shadow unit is a tail. -/
theorem State.tail_set (s : State) {f : Field} {v m : Nat} (hm : m < 4) (hoff : 0x3000 ≤ f.off := by decide) :
    (s.set f v).get (QU_CQTAIL.TAIL m) = s.get (QU_CQTAIL.TAIL m) := by
  refine State.get_set_ne s v ?_
  simp only [Field.key, QU_CQTAIL.TAIL]
  omega

/-- No fold is in progress. -/
def State.endFold (s : State) : State :=
  ({ s with sh := { s.sh with fold := none } } : State).setFlag SH_STATUS.FOLDING false

theorem State.endFold_eq (s : State) :
    s.endFold = { s.setFlag SH_STATUS.FOLDING false with sh := { s.sh with fold := none } } := rfl

theorem State.endFold_results (s : State) : s.endFold.sh.fold = none ∧ s.endFold.flag SH_STATUS.FOLDING = false :=
  ⟨rfl, flag_set_boolNat { s with sh := { s.sh with fold := none } } rfl false⟩

/-- R167, R174: what an abandoned fold leaves, after work that has kept the base and the journal. -/
theorem JournalKept.abandonFold_results {f : Fold} (h : JournalKept id s t) (hfold : s.sh.fold = some f)
    (cause status : Nat) :
    (t.abandonFold cause status).sh.fold = none ∧ (t.abandonFold cause status).flag SH_STATUS.FOLDING = false ∧
      (t.abandonFold cause status).fl.books = s.fl.books ∧
      ∀ ref, f.ref = some ref → Done ref status 0 s (t.abandonFold cause status) := by
  have hfolding : t.sh.fold = some f := (congrArg Shadow.fold h.sh_eq).trans hfold
  have heq : t.abandonFold cause status = (t.endFold.raise 0x209 cause 0 0).postOpt f.ref status 0 := by
    simp only [State.abandonFold, hfolding]
    rfl
  have hraised : JournalKept id t.endFold (t.endFold.raise 0x209 cause 0 0) := .raise (.refl _)
  have hraisedSh : (t.endFold.raise 0x209 cause 0 0).sh = t.endFold.sh := hraised.sh_eq
  obtain ⟨hnone, hflag⟩ := t.endFold_results
  rw [heq]
  refine ⟨?_, ?_, ?_, fun ref href => (hraised.done_postOpt href status 0).congr ?_⟩
  · rw [State.sh_postOpt, hraisedSh, hnone]
  · rw [State.flag, State.get_postOpt _ _ _ _ not_postField, hraised.get _ (by decide) (by decide)]
    exact hflag
  · rw [State.fl_postOpt, hraised.books]
    exact h.books
  · exact (State.tail_set _ ref.q_lt).trans (h.tail ref.q_lt)

/-- R167, R201: the pages `folded` and those of an earlier epoch are in the base, whose cut is the fold's. -/
def State.bookFold (s : State) (f : Fold) (folded : List JPage) : State :=
  (s.setFl { s.fl with baseCut := f.cut, journal := s.fl.journal.drop folded.length, spent := [] }).add SH_BASEGEN.GEN 1

/-- R167, R169: what the shadow unit reports once a fold is booked. -/
def State.reportFold (s : State) (w5 w6 w7 : Nat) : State := (s.showFill.raise 0x208 w5 w6 w7).relieveJournal

theorem State.commitFold_eq (s : State) (was : Flash) (f : Fold) (folded : List JPage) : ∃ cut w5 w6 w7,
    s.commitFold was f folded = (((s.bookFold f folded).switchBase was cut).endFold.reportFold w5 w6 w7).postOpt f.ref
      0x01 (min (folded.length + s.fl.spent.length) 0xFFFFFF) := by
  simp only [State.endFold_eq, State.bookFold, State.reportFold]
  unfold State.commitFold
  extract_lets freed cut booked switched ended shown
  exact ⟨cut, _, _, _, rfl⟩

theorem JournalKept.reportFold (s : State) (w5 w6 w7 : Nat) :
    JournalKept Shadow.beyondPages s (s.reportFold w5 w6 w7) := .relieveJournal (.raise (.showFill (.refl s)))

theorem JournalKept.fold (h : JournalKept Shadow.beyondPages s t) : t.sh.fold = s.sh.fold :=
  congrArg (fun x => x.fold) h.sh

/-- R167, R219: what a fold that commits leaves. -/
theorem State.commitFold_results (s : State) (was : Flash) (f : Fold) (folded : List JPage) :
    (s.commitFold was f folded).fl.books = (s.fl.base, f.cut, s.fl.journal.drop folded.length, []) ∧
      (s.commitFold was f folded).sh.fold = none ∧
      (s.commitFold was f folded).get SH_BASEGEN.GEN = (s.get SH_BASEGEN.GEN + 1) % 2 ^ 24 ∧
      ∀ ref, f.ref = some ref →
        Done ref 0x01 (min (folded.length + s.fl.spent.length) 0xFFFFFF) s (s.commitFold was f folded) := by
  obtain ⟨cut, w5, w6, w7, heq⟩ := s.commitFold_eq was f folded
  have hswitched : JournalKept id (s.bookFold f folded) ((s.bookFold f folded).switchBase was cut) :=
    .switchBase (.refl _)
  rw [heq]
  generalize (s.bookFold f folded).switchBase was cut = t at hswitched
  have hreported := JournalKept.reportFold t.endFold w5 w6 w7
  refine ⟨?_, ?_, ?_, fun ref href => (hreported.done_postOpt href _ _).congr ?_⟩
  · rw [State.fl_postOpt, hreported.books]
    exact hswitched.books
  · rw [State.sh_postOpt, hreported.fold]
    rfl
  · rw [State.get_postOpt _ _ _ _ not_postField, hreported.get _ (by decide) (by decide)]
    have hkept : t.endFold.get SH_BASEGEN.GEN = t.get SH_BASEGEN.GEN := State.get_set_ne _ _ (by decide)
    rw [hkept, hswitched.get _ (by decide) (by decide)]
    exact State.get_set_same _ _ _
  · have hended : t.endFold.get (QU_CQTAIL.TAIL ref.q) = t.get (QU_CQTAIL.TAIL ref.q) := State.tail_set _ ref.q_lt
    rw [hended, hswitched.tail ref.q_lt]
    exact State.tail_set _ ref.q_lt

section
variable {f : Fold} {base : Image} (work : FlashWork) (hfold : s.sh.fold = some f) (hbase : s.fl.base = some base)
include hfold

/-- R167: an abandoned fold after its reads and programs. -/
theorem State.abandoned_flashWork :
    ((s.flashWork 2 true work).abandonFold 1 0x44).sh.fold = none ∧
      ((s.flashWork 2 true work).abandonFold 1 0x44).flag SH_STATUS.FOLDING = false ∧
      ((s.flashWork 2 true work).abandonFold 1 0x44).fl.books = s.fl.books ∧
      ∀ ref, f.ref = some ref → Done ref 0x44 0 s ((s.flashWork 2 true work).abandonFold 1 0x44) :=
  JournalKept.abandonFold_results (.flashWork (.refl s)) hfold 1 0x44

theorem foldAbandoned_eq : foldAbandoned work s = (s.flashWork 2 true work).abandonFold 1 0x44 := by
  rw [foldAbandoned, hfold, Option.isSome_some, if_pos rfl]

variable (hrunning : s.foldPaused = false) (hbarrier : hasBarrier f.cut s.fl.journal = true)
include hbase hrunning hbarrier

/-- R167: a fold that finds free stripes and reads every codeword commits the generation that its pages make of the
base. -/
theorem foldCommit_commits
    (hnext : (s.flashWork 2 true work).writeGeneration (s.get SH_BASEGEN.GEN + 1)
      (applyPages base (pagesTo f.cut s.fl.journal)) = some t)
    (hreads : (s.flashWork 2 true work).foldReads (pagesTo f.cut s.fl.journal) = true) :
    foldCommit work s = (t.setFl { t.fl with base := some (applyPages base (pagesTo f.cut s.fl.journal)) }).commitFold
      (s.flashWork 2 true work).fl f (pagesTo f.cut s.fl.journal) := by
  have hwork : JournalKept id s (s.flashWork 2 true work) := .flashWork (.refl s)
  have hgen := hwork.get SH_BASEGEN.GEN (by decide) (by decide)
  simp only [foldCommit, hfold, hbase, hrunning, hgen, hwork.journal, hbarrier, hnext, hreads, if_true,
    Bool.false_eq_true, if_false]

/-- R167, R220: a fold without free stripes, or with a codeword lost, is abandoned. -/
theorem foldCommit_abandons
    (hlost : ((s.flashWork 2 true work).writeGeneration (s.get SH_BASEGEN.GEN + 1)
        (applyPages base (pagesTo f.cut s.fl.journal))).isSome = false ∨
      (s.flashWork 2 true work).foldReads (pagesTo f.cut s.fl.journal) = false) :
    foldCommit work s = (s.flashWork 2 true work).abandonFold 1 0x44 := by
  have hwork : JournalKept id s (s.flashWork 2 true work) := .flashWork (.refl s)
  have hgen := hwork.get SH_BASEGEN.GEN (by decide) (by decide)
  simp only [foldCommit, hfold, hbase, hrunning, hgen, hwork.journal, hbarrier, if_true, Bool.false_eq_true, if_false]
  cases hnext : (s.flashWork 2 true work).writeGeneration (s.get SH_BASEGEN.GEN + 1)
    (applyPages base (pagesTo f.cut s.fl.journal)) with
  | none => rfl
  | some t =>
      rw [hnext] at hlost
      have hreads := hlost.resolve_left nofun
      simp only [hreads, Bool.false_eq_true, if_false]

/-- R167, R219: what the fold leaves where it commits. -/
theorem foldCommit_results
    (hnext : ((s.flashWork 2 true work).writeGeneration (s.get SH_BASEGEN.GEN + 1)
      (applyPages base (pagesTo f.cut s.fl.journal))).isSome = true)
    (hreads : (s.flashWork 2 true work).foldReads (pagesTo f.cut s.fl.journal) = true) :
    (foldCommit work s).fl.books = (some (applyPages base (pagesTo f.cut s.fl.journal)), f.cut,
        s.fl.journal.drop (pagesTo f.cut s.fl.journal).length, []) ∧
      (foldCommit work s).sh.fold = none ∧
      (foldCommit work s).get SH_BASEGEN.GEN = (s.get SH_BASEGEN.GEN + 1) % 2 ^ 24 ∧
      ∀ ref, f.ref = some ref → Done ref 0x01
        (min ((pagesTo f.cut s.fl.journal).length + s.fl.spent.length) 0xFFFFFF) s (foldCommit work s) := by
  obtain ⟨t, ht⟩ := Option.isSome_iff_exists.mp hnext
  have hkept : JournalKept id s t := writeGeneration_journalKept (.flashWork (.refl s)) t ht
  have hspent : t.fl.spent = s.fl.spent := congrArg (fun b => b.2.2.2) hkept.books
  rw [foldCommit_commits work hfold hbase hrunning hbarrier ht hreads]
  obtain ⟨hbooks, hnone, hgen, hdone⟩ :=
    (t.setFl { t.fl with base := some (applyPages base (pagesTo f.cut s.fl.journal)) }).commitFold_results
      (s.flashWork 2 true work).fl f (pagesTo f.cut s.fl.journal)
  refine ⟨hbooks.trans ?_, hnone, hgen.trans ?_, fun ref href => ?_⟩
  · rw [← hkept.journal]
    rfl
  · rw [← hkept.get SH_BASEGEN.GEN (by decide) (by decide)]
    rfl
  · rw [← hspent]
    exact (hdone ref href).congr (hkept.tail ref.q_lt)

end

end

/-- Settles O36: each row of the journal, by the lemma that says what it leaves. -/
theorem journalResults : Obligations.JournalResults := by
  intro s
  refine ⟨?timeout, ?written, ?fences, ?fence, ?autofold, ?fold⟩
  case timeout => exact fun hpage hdue => ⟨_, rfl, journalPageTimeout_results hpage hdue⟩
  case written => exact fun work hdue hmay hroom => ⟨_, rfl, journalPageWritten_results work hdue hmay hroom⟩
  case fences => exact ⟨_, rfl, s.recBar_lt_of_mem_fencesDone⟩
  case fence => exact fun ref n hfences hn => ⟨_, rfl, State.fencesDone_one hfences hn⟩
  case autofold =>
    exact fun hup hauto hpaused hfolding hfill hwork =>
      ⟨_, rfl, foldAutoStart_results hup hauto hpaused hfolding hfill hwork⟩
  case fold =>
    intro f base work hfold hbase abandoned folded met
    have habandoned : abandoned (met.abandonFold 1 0x44) := by
      obtain ⟨hnone, hflag, hbooks, hdone⟩ := State.abandoned_flashWork work hfold
      simp only [Flash.books, Prod.mk.injEq] at hbooks
      obtain ⟨hbaseKept, hcut, hjournal, -⟩ := hbooks
      exact ⟨hnone, hflag, hbaseKept.trans hbase, hcut, hjournal, hdone⟩
    refine ⟨fun hrunning hbarrier => ⟨fun hnext hreads => ?_, fun hlost => ?_⟩, ?_⟩
    · obtain ⟨hbooks, hnone, hgen, hdone⟩ := foldCommit_results work hfold hbase hrunning hbarrier hnext hreads
      simp only [Flash.books, Prod.mk.injEq] at hbooks
      obtain ⟨hbaseNew, hcut, hjournal, -⟩ := hbooks
      exact ⟨_, rfl, hbaseNew, hcut, hjournal, hnone, hgen, hdone⟩
    · exact ⟨_, congrArg Outcome.next (foldCommit_abandons work hfold hbase hrunning hbarrier hlost), habandoned⟩
    · exact ⟨_, congrArg Outcome.next (foldAbandoned_eq work hfold), habandoned⟩

end Sys2Proof.Machine

/-! ## REGION (R152, R153, R157, R173) -/

namespace Sys2Proof.Machine

set_option Elab.async false

open Reg Host

section
variable {view : Shadow → Shadow} {s t u : State}

/-! ### An instruction that has not posted yet (R71, R79, R108) -/

/-- From `s` to `t` no queue's tail has moved, and in `t` ring `r` waits for nothing. -/
structure Unposted (r : Nat) (s t : State) : Prop where
  idle : (t.ring r).wait = .none
  tail : ∀ m < 4, t.get (QU_CQTAIL.TAIL m) = s.get (QU_CQTAIL.TAIL m)

theorem Unposted.admitted {op : Op} (h : RingOpen s op.ring) (cost : Nat) :
    Unposted op.ring s (s.admitted op cost) := by
  refine ⟨(s.wait_admitted op cost).trans h.wait_eq, fun m hm => s.get_admitted op cost ?_⟩
  have hq := s.cqOf_lt op.ring
  simp only [admitField, Field.key, QU_CQTAIL.TAIL, QU_CQRES.RESV, QU_HELD.RING, QU_OUT.OUT, QU_HEAD.HEAD]
  omega

theorem Unposted.set {r v : Nat} {f : Field} (h : Unposted r s t) (hoff : 0x3000 ≤ f.off := by decide) :
    Unposted r s (t.set f v) :=
  ⟨h.idle, fun m hm => (t.tail_set hm hoff).trans (h.tail m hm)⟩

theorem Unposted.withSh {r : Nat} {x : Shadow} (h : Unposted r s t) : Unposted r s { t with sh := x } :=
  ⟨h.idle, h.tail⟩

theorem Unposted.kept {r : Nat} (h : Unposted r s t) (hkept : JournalKept view t u) : Unposted r s u :=
  ⟨hkept.idle r h.idle, fun m hm => (hkept.tail hm).trans (h.tail m hm)⟩

theorem Unposted.posted {r : Nat} (h : Unposted r s t) (hopen : RingOpen s r) (opcode status result : Nat) :
    Posted r opcode status result s (t.post (s.opRef r opcode) status result) :=
  hopen.posted_post opcode status result h.idle (h.tail _ (s.cqOf_lt r))

/-! ### What the shadow unit's instructions are judged by (R64, R127, R153) -/

section
variable {op : Op} (hring : op.ring < 16) (cost : Nat)
include hring

theorem State.powerIn_admitted (l : List Nat) : (s.admitted op cost).powerIn l = s.powerIn l := by
  rw [State.powerIn, State.power, s.get_admitted_of_off hring cost (by decide) (by decide), State.powerIn, State.power]

theorem State.flag_admitted {f : Field} (hlo : f.lo < 32 := by decide)
    (hoff : f.off < 0x2018 ∨ 0x2300 ≤ f.off := by decide) : (s.admitted op cost).flag f = s.flag f := by
  rw [State.flag, s.get_admitted_of_off hring cost hlo hoff, State.flag]

theorem State.regionLegal_admitted (a : RegionArgs) : (s.admitted op cost).regionLegal a = s.regionLegal a := by
  simp only [State.regionLegal, State.shadowLegal, State.windowOpen, State.meetsAperture,
    State.powerIn_admitted hring cost, s.hp_admitted, State.flag_admitted hring cost (f := HP_ECCCTL.LOCK),
    State.flag_admitted hring cost (f := HP_STATUS.BASE), State.flag_admitted hring cost (f := QU_APCTL.EN),
    s.get_admitted_of_off hring cost (g := QU_APCTL.BASE) (by decide) (by decide)]

theorem State.regionRange_admitted (a : RegionArgs) : (s.admitted op cost).regionRange a = s.regionRange a := by
  have hfits : (s.admitted op cost).unitsFit a.start a.count = s.unitsFit a.start a.count := by
    rw [State.unitsFit, State.dramBytes, s.get_admitted_of_off hring cost (by decide) (by decide), State.unitsFit,
      State.dramBytes]
  unfold State.regionRange
  rw [hfits]

end

theorem State.sh_admitted (s : State) (op : Op) (cost : Nat) : (s.admitted op cost).sh = s.sh :=
  State.admitted_same (view := State.sh) (fun _ _ _ => rfl) (fun _ _ _ => rfl) (fun _ _ _ => rfl) (fun _ _ => rfl)
    s op _

/-! ### The regions' registers (R151, R176) -/

/-- The registers of the regions, but for their dirty counts, read the same. -/
def SameRegions (s t : State) : Prop :=
  ∀ g : Field, g.lo < 32 → 0x4100 ≤ g.off → g.off < 0x4500 → g.off % 16 < 8 → t.get g = s.get g

theorem SameRegions.trans (h : SameRegions s t) (h' : SameRegions t u) : SameRegions s u :=
  fun g hlo h1 h2 h3 => (h' g hlo h1 h2 h3).trans (h g hlo h1 h2 h3)

theorem JournalKept.sameRegions (h : JournalKept view s t) : SameRegions s t :=
  fun g hlo h1 h2 h3 => h.get g hlo (journalSlot_eq_true (.inr ⟨h1, h2, h3⟩))

theorem State.sameRegions_post (s : State) (c : OpRef) (status result : Nat) :
    SameRegions s (s.post c status result) :=
  fun _ hlo hoff _ _ => s.get_post c status result (not_postField hlo (by omega))

section
variable {k : Nat} (hk : k < 64)
include hk

theorem SameRegions.valid (h : SameRegions s t) : t.flag (SH_RG_A.VALID k) = s.flag (SH_RG_A.VALID k) := by
  rw [State.flag, h _ (by decide : 23 < 32) (by simp only [SH_RG_A.VALID]; omega) (by simp only [SH_RG_A.VALID]; omega)
    (by simp only [SH_RG_A.VALID]; omega), State.flag]

theorem SameRegions.kind (h : SameRegions s t) : t.get (SH_RG_A.KIND k) = s.get (SH_RG_A.KIND k) :=
  h _ (by decide : 20 < 32) (by simp only [SH_RG_A.KIND]; omega) (by simp only [SH_RG_A.KIND]; omega)
    (by simp only [SH_RG_A.KIND]; omega)

theorem SameRegions.prio (h : SameRegions s t) : t.get (SH_RG_B.PRIO k) = s.get (SH_RG_B.PRIO k) :=
  h _ (by decide : 21 < 32) (by simp only [SH_RG_B.PRIO]; omega) (by simp only [SH_RG_B.PRIO]; omega)
    (by simp only [SH_RG_B.PRIO]; omega)

theorem SameRegions.span (h : SameRegions s t) : t.regionSpan k = s.regionSpan k := by
  have hstart : t.get (SH_RG_A.START k) = s.get (SH_RG_A.START k) :=
    h _ (by decide : 0 < 32) (by simp only [SH_RG_A.START]; omega) (by simp only [SH_RG_A.START]; omega)
      (by simp only [SH_RG_A.START]; omega)
  have hcount : t.get (SH_RG_B.COUNT k) = s.get (SH_RG_B.COUNT k) :=
    h _ (by decide : 0 < 32) (by simp only [SH_RG_B.COUNT]; omega) (by simp only [SH_RG_B.COUNT]; omega)
      (by simp only [SH_RG_B.COUNT]; omega)
  rw [State.regionSpan, hstart, hcount, State.regionSpan]

theorem SameRegions.dirtyIn (h : SameRegions s t) (hdirty : t.sh.dirty = s.sh.dirty) : t.dirtyIn k = s.dirtyIn k := by
  rw [State.dirtyIn, h.span hk, hdirty, State.dirtyIn]

end

/-! ### DEFINE, RETIRE and REPRIORITISE (R152, R157) -/

/-- R151: a region stands in its registers as it was defined. -/
theorem State.putRegion_results (s : State) {r : Region} (hkind : r.kind < 4) (hprio : r.prio < 8)
    (hstart : r.start < 2 ^ 20) (hcount : r.count < 2 ^ 21) :
    (s.putRegion r).flag (SH_RG_A.VALID r.num) = true ∧ (s.putRegion r).get (SH_RG_A.KIND r.num) = r.kind ∧
      (s.putRegion r).regionSpan r.num = (r.start * 65536, r.count * 65536) ∧
      (s.putRegion r).get (SH_RG_B.PRIO r.num) = r.prio := by
  simp (disch := (simp only [Field.key, SH_RG_A.VALID, SH_RG_A.KIND, SH_RG_A.START, SH_RG_B.PRIO,
    SH_RG_B.COUNT]; omega)) only [State.putRegion, State.flag, State.regionSpan, State.get_set_ne, State.get_set_same]
  refine ⟨rfl, Nat.mod_eq_of_lt hkind, ?_, Nat.mod_eq_of_lt hprio⟩
  rw [show r.start % 2 ^ (SH_RG_A.START r.num).width = r.start from Nat.mod_eq_of_lt hstart,
    show r.count % 2 ^ (SH_RG_B.COUNT r.num).width = r.count from Nat.mod_eq_of_lt hcount]

theorem Unposted.putRegion {n : Nat} {r : Region} (h : Unposted n s t) : Unposted n s (t.putRegion r) := by
  have hfirst : 0x3000 ≤ 0x4100 + 16 * r.num := by omega
  have hsecond : 0x3000 ≤ 0x4104 + 16 * r.num := by omega
  exact .set (.set (.set (.set (.set h hfirst) hfirst) hfirst) hsecond) hsecond

theorem Unposted.dropRegion {n k : Nat} (h : Unposted n s t) : Unposted n s (t.dropRegion k) := by
  have hfirst : 0x3000 ≤ 0x4100 + 16 * k := by omega
  have hsecond : 0x3000 ≤ 0x4104 + 16 * k := by omega
  have hthird : 0x3000 ≤ 0x4108 + 16 * k := by omega
  exact .set (.set (.set (.set (.set (.set h hfirst) hfirst) hfirst) hsecond) hsecond) hthird

theorem State.valid_dropRegion (s : State) (k : Nat) : (s.dropRegion k).flag (SH_RG_A.VALID k) = false := by
  simp (disch := (simp only [Field.key, SH_RG_A.VALID, SH_RG_A.KIND, SH_RG_A.START, SH_RG_B.PRIO, SH_RG_B.COUNT,
    SH_RG_C.DIRTY]; omega)) only [State.dropRegion, State.flag, State.get_set_ne, State.get_set_same]
  rfl

theorem JournalKept.regionChanged {a : RegionArgs} {n : Nat} (h : JournalKept view s t) :
    JournalKept view s (t.regionChanged a n) := .raise h

/-- R152, R177, R220: the save record, the capacity's figures, the dirty counts and the event follow the regions. -/
def State.followRegions (s : State) (a : RegionArgs) (n : Nat) : State :=
  s.saveTable.checkCapacity.showDirty.regionChanged a n

theorem JournalKept.followRegions (s : State) (a : RegionArgs) (n : Nat) :
    JournalKept id s (s.followRegions a n) :=
  .regionChanged (.showDirty (.checkCapacity (.setRecord (.refl s))))

/-- R157: a persistent region that is defined over the dirty pages `found` sets PDIRTY. -/
def State.freezeFound (s : State) (kind : Nat) (found : List Nat) : State :=
  match found with
  | p :: _ => s.when (kind == 1) (·.freeze 2 p)
  | [] => s

theorem JournalKept.freezeFound {kind : Nat} {found : List Nat} (h : JournalKept view s t) :
    JournalKept view s (t.freezeFound kind found) := by
  cases found with
  | nil => exact h
  | cons p _ =>
      rw [State.freezeFound]
      exact .when h (.freeze h)

/-- R152, R157: a definition under a free number and clear of the other regions. -/
theorem State.defineRegion_eq (s : State) (ref : OpRef) {a : RegionArgs}
    (hclear : s.meetsRegion (fun k => k != a.num && s.flag (SH_RG_A.VALID k)) a.start a.count = false)
    (hfree : s.flag (SH_RG_A.VALID a.num) = false) {found : List Nat}
    (hfound : (s.putRegion ⟨a.num, a.kind, a.prio, a.start, a.count⟩).saveTable.checkCapacity.showDirty.dirtyIn a.num =
      found) :
    s.defineRegion ref a =
      (((s.putRegion ⟨a.num, a.kind, a.prio, a.start, a.count⟩).followRegions a (min found.length 0xFFFFFF)).freezeFound
        a.kind found).post ref (if a.kind = 1 ∧ found ≠ [] then 0x02 else 0x01) (min found.length 0xFFFFFF) := by
  simp only [State.defineRegion, hclear, hfree, hfound, Bool.false_eq_true, if_false]
  rfl

/-- R152, R157: what a definition leaves, and what it posts. -/
theorem Unposted.defineRegion_results {r : Nat} (h : Unposted r s t) (hopen : RingOpen s r) {a : RegionArgs}
    (hnum : a.num < 64)
    (hclear : t.meetsRegion (fun k => k != a.num && t.flag (SH_RG_A.VALID k)) a.start a.count = false)
    (hfree : t.flag (SH_RG_A.VALID a.num) = false) :
    ∃ u, t.defineRegion (s.opRef r 0x18) a = u ∧
      SameRegions (t.putRegion ⟨a.num, a.kind, a.prio, a.start, a.count⟩) u ∧
      Posted r 0x18 (if a.kind = 1 ∧ u.dirtyIn a.num ≠ [] then 0x02 else 0x01)
        (min (u.dirtyIn a.num).length 0xFFFFFF) s u := by
  have hunposted := h.putRegion (r := ⟨a.num, a.kind, a.prio, a.start, a.count⟩)
  rw [t.defineRegion_eq (s.opRef r 0x18) hclear hfree rfl]
  generalize t.putRegion ⟨a.num, a.kind, a.prio, a.start, a.count⟩ = v at hunposted ⊢
  have hshown : JournalKept id v v.saveTable.checkCapacity.showDirty :=
    .showDirty (.checkCapacity (.setRecord (.refl v)))
  have hfound : v.saveTable.checkCapacity.showDirty.dirtyIn a.num = v.dirtyIn a.num :=
    hshown.sameRegions.dirtyIn hnum (congrArg Shadow.dirty hshown.sh_eq)
  rw [hfound]
  generalize hw : (v.followRegions a (min (v.dirtyIn a.num).length 0xFFFFFF)).freezeFound a.kind (v.dirtyIn a.num) = w
  have hkept : JournalKept id v w := hw ▸ .freezeFound (.followRegions v a _)
  have hend (status result : Nat) := hkept.sameRegions.trans (w.sameRegions_post (s.opRef r 0x18) status result)
  have hdirty (status result : Nat) : (w.post (s.opRef r 0x18) status result).dirtyIn a.num = v.dirtyIn a.num :=
    (hend status result).dirtyIn hnum
      ((congrArg Shadow.dirty (w.sh_post _ _ _)).trans (congrArg Shadow.dirty hkept.sh_eq))
  refine ⟨_, rfl, hend _ _, ?_⟩
  rw [hdirty]
  exact (hunposted.kept hkept).posted hopen 0x18 _ _

/-- R152: what a retirement leaves, and what it posts. -/
theorem Unposted.retireRegion_results {r : Nat} (h : Unposted r s t) (hopen : RingOpen s r) {a : RegionArgs}
    (hnum : a.num < 64) (hvalid : t.flag (SH_RG_A.VALID a.num) = true) :
    (t.retireRegion (s.opRef r 0x18) a).flag (SH_RG_A.VALID a.num) = false ∧
      Posted r 0x18 0x01 0 s (t.retireRegion (s.opRef r 0x18) a) := by
  have heq : t.retireRegion (s.opRef r 0x18) a =
      ((t.dropRegion a.num).followRegions a 0).post (s.opRef r 0x18) 0x01 0 := by
    rw [State.retireRegion, if_pos hvalid, State.followRegions]
  have hkept := JournalKept.followRegions (t.dropRegion a.num) a 0
  rw [heq]
  refine ⟨?_, (h.dropRegion.kept hkept).posted hopen 0x18 0x01 0⟩
  rw [(hkept.sameRegions.trans (State.sameRegions_post _ _ _ _)).valid hnum, State.valid_dropRegion]

theorem Unposted.reprioritise_results {r : Nat} (h : Unposted r s t) (hopen : RingOpen s r) {a : RegionArgs}
    (hnum : a.num < 64) (hprio : a.prio < 8) (hvalid : t.flag (SH_RG_A.VALID a.num) = true) :
    (t.reprioritise (s.opRef r 0x18) a).get (SH_RG_B.PRIO a.num) = a.prio ∧
      Posted r 0x18 0x01 0 s (t.reprioritise (s.opRef r 0x18) a) := by
  have heq : t.reprioritise (s.opRef r 0x18) a =
      ((t.set (SH_RG_B.PRIO a.num) a.prio).saveTable.regionChanged a 0).post (s.opRef r 0x18) 0x01 0 := by
    rw [State.reprioritise, if_pos hvalid]
  have hkept : JournalKept id (t.set (SH_RG_B.PRIO a.num) a.prio)
      ((t.set (SH_RG_B.PRIO a.num) a.prio).saveTable.regionChanged a 0) := .regionChanged (.setRecord (.refl _))
  have hset : Unposted r s (t.set (SH_RG_B.PRIO a.num) a.prio) := h.set (by simp only [SH_RG_B.PRIO]; omega)
  rw [heq]
  refine ⟨?_, (hset.kept hkept).posted hopen 0x18 0x01 0⟩
  rw [(hkept.sameRegions.trans (State.sameRegions_post _ _ _ _)).prio hnum, State.get_set_same]
  exact Nat.mod_eq_of_lt hprio

/-- R152: the work of a REGION, by its action. -/
def State.actOnRegion (s : State) (ref : OpRef) (a : RegionArgs) : State :=
  if a.action = 1 then s.defineRegion ref a
  else if a.action = 2 then s.retireRegion ref a
  else s.reprioritise ref a

theorem State.sameRegions_admitted {op : Op} (hring : op.ring < 16) (cost : Nat) : SameRegions s (s.admitted op cost) :=
  fun _ hlo hoff _ _ => s.get_admitted_of_off hring cost hlo (.inr (by omega))

/-- A range clear of regions is clear of fewer of them. -/
theorem SameRegions.meetsRegion_eq_false (h : SameRegions s t) {ks ks' : Nat → Bool} {start count : Nat}
    (hks : ∀ k < 64, ks' k = true → ks k = true) (hclear : s.meetsRegion ks start count = false) :
    t.meetsRegion ks' start count = false := by
  simp only [State.meetsRegion, List.any_eq_false, List.mem_range, Bool.and_eq_true, not_and] at hclear ⊢
  intro k hk hk'
  rw [h.span hk]
  exact hclear k hk (hks k hk hk')

section
variable {op : Op} (hring : op.ring < 16) (hopen : RingOpen s op.ring) (hext : op.ext.length = 2)
  (hstart : op.word 1 < 2 ^ 20) (hcount : op.word 2 < 2 ^ 21) (hlegal : s.regionLegal (regionArgs op) = true)
  (hrange : s.regionRange (regionArgs op) = true)
include hring hopen hext hstart hcount hlegal hrange

/-- R108, R173: a REGION with every operand in order comes to its action. -/
theorem region_eq :
    region op s = (s.admitted op (unitCost 0x18)).actOnRegion (s.opRef op.ring 0x18) (regionArgs op) := by
  rw [region, hopen.issue_eq, State.regionLegal_admitted hring, State.regionRange_admitted hring, hlegal, hrange]
  simp only [hext, hstart, hcount, beq_self_eq_true, decide_true, Bool.and_self, State.judge_ok]
  unfold State.actOnRegion
  split
  · next hdefine => rw [if_pos hdefine]
  · next hretire => rw [if_neg (by simp [hretire]), if_pos hretire]
  · next hdefine hretire => rw [if_neg hdefine, if_neg hretire]

theorem region_define_results (himm : op.imm9 < 512) (hdst : op.dst = 1)
    (hclear : s.meetsRegion (fun k => s.flag (SH_RG_A.VALID k)) (regionArgs op).start (regionArgs op).count = false)
    (hfree : s.flag (SH_RG_A.VALID (regionArgs op).num) = false) :
    (region op s).flag (SH_RG_A.VALID (regionArgs op).num) = true ∧
      (region op s).get (SH_RG_A.KIND (regionArgs op).num) = op.src ∧
      (region op s).regionSpan (regionArgs op).num = (op.word 1 * 65536, op.word 2 * 65536) ∧
      (region op s).get (SH_RG_B.PRIO (regionArgs op).num) = op.imm9 / 64 ∧
      Posted op.ring 0x18 (if op.src = 1 ∧ (region op s).dirtyIn (regionArgs op).num ≠ [] then 0x02 else 0x01)
        (min ((region op s).dirtyIn (regionArgs op).num).length 0xFFFFFF) s (region op s) := by
  have hnum : (regionArgs op).num < 64 := Nat.mod_lt _ (by decide)
  have haction : (regionArgs op).action = 1 := hdst
  have hkind : (regionArgs op).kind < 4 := by
    simp only [State.regionRange, haction, Bool.and_eq_true, decide_eq_true_eq] at hrange
    omega
  have hprio : (regionArgs op).prio < 8 := Nat.div_lt_of_lt_mul himm
  have hsame : SameRegions s (s.admitted op (unitCost 0x18)) := State.sameRegions_admitted hring _
  obtain ⟨t, heq, hregions, hposted⟩ := (Unposted.admitted hopen (unitCost 0x18)).defineRegion_results hopen hnum
    (hsame.meetsRegion_eq_false (fun k hk h => by
      rw [Bool.and_eq_true, hsame.valid hk] at h
      exact h.2) hclear) ((hsame.valid hnum).trans hfree)
  obtain ⟨hvalid, hkindIs, hspan, hprioIs⟩ := (s.admitted op (unitCost 0x18)).putRegion_results
    (r := ⟨(regionArgs op).num, (regionArgs op).kind, (regionArgs op).prio, (regionArgs op).start,
      (regionArgs op).count⟩) hkind hprio (Nat.mod_lt _ (by decide)) (Nat.mod_lt _ (by decide))
  have hspanIs : ((regionArgs op).start * 65536, (regionArgs op).count * 65536) =
      (op.word 1 * 65536, op.word 2 * 65536) := by
    rw [regionArgs, Nat.mod_eq_of_lt hstart, Nat.mod_eq_of_lt hcount]
  rw [region_eq hring hopen hext hstart hcount hlegal hrange, State.actOnRegion, if_pos haction, heq]
  exact ⟨(hregions.valid hnum).trans hvalid, (hregions.kind hnum).trans hkindIs,
    (hregions.span hnum).trans (hspan.trans hspanIs), (hregions.prio hnum).trans hprioIs, hposted⟩

theorem region_retire_results (hdst : op.dst = 2) (hvalid : s.flag (SH_RG_A.VALID (regionArgs op).num) = true) :
    (region op s).flag (SH_RG_A.VALID (regionArgs op).num) = false ∧ Posted op.ring 0x18 0x01 0 s (region op s) := by
  have hnum : (regionArgs op).num < 64 := Nat.mod_lt _ (by decide)
  have haction : (regionArgs op).action = 2 := hdst
  have hsame : SameRegions s (s.admitted op (unitCost 0x18)) := State.sameRegions_admitted hring _
  rw [region_eq hring hopen hext hstart hcount hlegal hrange, State.actOnRegion, if_neg (by simp [haction]),
    if_pos haction]
  exact (Unposted.admitted hopen _).retireRegion_results hopen hnum ((hsame.valid hnum).trans hvalid)

theorem region_reprioritise_results (himm : op.imm9 < 512) (hdst : op.dst = 3)
    (hvalid : s.flag (SH_RG_A.VALID (regionArgs op).num) = true) :
    (region op s).get (SH_RG_B.PRIO (regionArgs op).num) = op.imm9 / 64 ∧
      Posted op.ring 0x18 0x01 0 s (region op s) := by
  have hnum : (regionArgs op).num < 64 := Nat.mod_lt _ (by decide)
  have haction : (regionArgs op).action = 3 := hdst
  have hprio : (regionArgs op).prio < 8 := Nat.div_lt_of_lt_mul himm
  have hsame : SameRegions s (s.admitted op (unitCost 0x18)) := State.sameRegions_admitted hring _
  rw [region_eq hring hopen hext hstart hcount hlegal hrange, State.actOnRegion, if_neg (by simp [haction]),
    if_neg (by simp [haction])]
  exact (Unposted.admitted hopen _).reprioritise_results hopen hnum hprio ((hsame.valid hnum).trans hvalid)

end

/-- R153, R173: the operands of a RETIRE or a REPRIORITISE, whose extension words are zero. -/
theorem State.region_zeroWords {op : Op} (hext : op.ext = [0, 0]) (hsrc : op.src = 0)
    (haction : op.dst = 2 ∧ op.imm9 < 64 ∨ op.dst = 3) (hlegal : s.shadowLegal = true)
    (hwindow : s.windowOpen = false) :
    op.ext.length = 2 ∧ op.word 1 < 2 ^ 20 ∧ op.word 2 < 2 ^ 21 ∧ s.regionLegal (regionArgs op) = true ∧
      s.regionRange (regionArgs op) = true := by
  have hword1 : op.word 1 = 0 := by rw [Op.word, hext]; rfl
  have hword2 : op.word 2 = 0 := by rw [Op.word, hext]; rfl
  refine ⟨by rw [hext]; rfl, by omega, by omega, ?_, ?_⟩
  · rcases haction with ⟨hdst, -⟩ | hdst <;>
      simp [State.regionLegal, regionArgs, hdst, hlegal, hwindow]
  · rcases haction with ⟨hdst, himm⟩ | hdst
    · simp [State.regionRange, regionArgs, hdst, hsrc, hword1, hword2, Nat.div_eq_of_lt himm]
    · simp [State.regionRange, regionArgs, hdst, hsrc, hword1, hword2]

end

end Sys2Proof.Machine

/-! ## PFENCE and FOLD (R163, R166, R168, R599) -/

namespace Sys2Proof.Machine

set_option Elab.async false

open Reg Host

section
variable {s t u : State}

/-! ### The references that are still to come (R163) -/

/-- What the references of the PFENCEs still to come are read from: the rings' words, and each ring's registers. -/
structure SameReferences (s t : State) : Prop where
  slots : t.slots = s.slots
  bells : t.sh.bells = s.sh.bells
  sv : t.sv = s.sv
  owner : t.flag QU_R15CTL.OWNER = s.flag QU_R15CTL.OWNER
  mode : ∀ r, t.resident r = s.resident r
  tail : ∀ r, t.get (QU_TAIL.TAIL r) = s.get (QU_TAIL.TAIL r)
  head : ∀ r, t.get (QU_HEAD.HEAD r) = s.get (QU_HEAD.HEAD r)

theorem State.queued_congr (h : t.slots = s.slots) (r p : Nat) : t.queued r p = s.queued r p := by
  simp only [State.queued, State.slot, h]

theorem State.fencesFrom_congr (h : t.slots = s.slots) (r n left p : Nat) :
    t.fencesFrom r n left p = s.fencesFrom r n left p := by
  induction n generalizing left p with
  | zero => rfl
  | succ n ih => simp only [State.fencesFrom, State.queued_congr h, ih]

theorem State.bellOf_congr (h : t.sh.bells = s.sh.bells) (r p : Nat) : t.bellOf r p = s.bellOf r p := by
  simp only [State.bellOf, h]

theorem SameReferences.coveredFences (h : SameReferences s t) : t.coveredFences = s.coveredFences := by
  have hfrozen : t.frozen = s.frozen := by rw [State.frozen, h.sv, State.frozen]
  rw [State.coveredFences, hfrozen, State.coveredFences]
  simp only [State.sideBandOwns15, State.occupancy, h.owner, h.mode, h.tail, h.head, State.fencesFrom_congr h.slots,
    State.bellOf_congr h.bells]

/-- R71: an open ring has moved on by its instruction's words. -/
theorem RingOpen.head_admitted {op : Op} (h : RingOpen s op.ring) (cost : Nat) :
    (s.admitted op cost).get (QU_HEAD.HEAD op.ring) =
      (s.get (QU_HEAD.HEAD op.ring) + (1 + op.ext.length)) % 2 ^ 24 := by
  obtain ⟨-, hmode, -, -⟩ := h
  have hq := s.cqOf_lt op.ring
  have hkept {g : Field} (hg : g = QU_MODE.RES op.ring ∨ g = QU_HEAD.HEAD op.ring) :
      ((s.reserve op.ring).add (QU_OUT.OUT op.ring) 1).get g = s.get g := by
    rw [State.add_eq, State.get_set_ne, State.get_reserve] <;>
      rcases hg with rfl | rfl <;>
      simp only [Field.key, QU_MODE.RES, QU_HEAD.HEAD, QU_CQRES.RESV, QU_HELD.RING, QU_OUT.OUT] <;> omega
  have hqueue : ((s.reserve op.ring).add (QU_OUT.OUT op.ring) 1).resident op.ring = false := by
    rw [State.resident, State.flag, hkept (.inl rfl)]
    exact hmode
  have hmoved := State.movedOn_moveOn ((s.reserve op.ring).add (QU_OUT.OUT op.ring) 1) op.ring (1 + op.ext.length)
  rw [MovedOn, hqueue, if_neg Bool.false_ne_true, hkept (.inr rfl)] at hmoved
  rw [State.admitted, State.get_uses, hmoved]

/-- R71, R163: but for its own words the admission of a PFENCE leaves the references alone. -/
theorem RingOpen.sameReferences {op : Op} (h : RingOpen s op.ring) (hext : op.ext = []) (cost : Nat) :
    SameReferences (s.add (QU_HEAD.HEAD op.ring) 1) (s.admitted op cost) := by
  have hq := s.cqOf_lt op.ring
  have hget {g : Field} (hhead : g.key ≠ (QU_HEAD.HEAD op.ring).key)
      (hfree : g.key ≠ (QU_CQRES.RESV (s.cqOf op.ring)).key ∧ g.key ≠ QU_HELD.RING.key ∧
        g.key ≠ (QU_OUT.OUT op.ring).key) :
      (s.admitted op cost).get g = (s.add (QU_HEAD.HEAD op.ring) 1).get g := by
    obtain ⟨hres, hheld, hout⟩ := hfree
    rw [s.get_admitted op cost (by simp only [admitField]; tauto), State.add_eq, State.get_set_ne _ _ hhead]
  refine ⟨?_, ?_, ?_, ?_, fun r => ?_, fun r => ?_, fun r => ?_⟩
  · exact State.admitted_same (view := State.slots) (fun _ _ _ => rfl) (fun _ _ _ => rfl) (fun _ _ _ => rfl)
      (fun _ _ => rfl) s op cost
  · exact congrArg Shadow.bells (s.sh_admitted op cost)
  · exact State.admitted_same (view := State.sv) (fun _ _ _ => rfl) (fun _ _ _ => rfl) (fun _ _ _ => rfl)
      (fun _ _ => rfl) s op cost
  · rw [State.flag, hget, State.flag] <;>
      simp only [Field.key, QU_R15CTL.OWNER, QU_HEAD.HEAD, QU_CQRES.RESV, QU_HELD.RING, QU_OUT.OUT] <;> omega
  · rw [State.resident, State.flag, hget, State.resident, State.flag] <;>
      simp only [Field.key, QU_MODE.RES, QU_HEAD.HEAD, QU_CQRES.RESV, QU_HELD.RING, QU_OUT.OUT] <;> omega
  · refine hget ?_ ?_ <;>
      simp only [Field.key, QU_TAIL.TAIL, QU_HEAD.HEAD, QU_CQRES.RESV, QU_HELD.RING, QU_OUT.OUT] <;> omega
  · by_cases hr : r = op.ring
    · rw [hr, h.head_admitted cost, hext, State.add_eq, State.get_set_same]
      rfl
    · refine hget ?_ ?_ <;>
        simp only [Field.key, QU_HEAD.HEAD, QU_CQRES.RESV, QU_HELD.RING, QU_OUT.OUT] <;> omega

/-- R163: the admission of a PFENCE leaves its own reference alone. -/
theorem RingOpen.fenceBell_admitted {op : Op} (h : RingOpen s op.ring) (hring : op.ring < 16) (hext : op.ext = [])
    (cost p : Nat) : (s.admitted op cost).fenceBell op.ring p = s.fenceBell op.ring p := by
  have hrefs := h.sameReferences hext cost
  have hmode : (s.admitted op cost).resident op.ring = s.resident op.ring := by
    rw [hrefs.mode, State.resident, State.add_eq, State.flag_set_ne, State.resident]
    simp only [Field.key, QU_MODE.RES, QU_HEAD.HEAD]
    omega
  have hnow : (s.admitted op cost).now = s.now :=
    State.admitted_same (view := State.now) (fun _ _ _ => rfl) (fun _ _ _ => rfl) (fun _ _ _ => rfl) (fun _ _ => rfl)
      s op cost
  have howner : (s.admitted op cost).sideBandOwns15 = s.sideBandOwns15 := State.flag_admitted hring cost
  rw [State.fenceBell, hmode, howner, State.fenceBell]
  simp only [hnow, s.sh_admitted, State.bellOf_congr (congrArg Shadow.bells (s.sh_admitted op cost)),
    State.flag_admitted hring cost (f := SH_STATUS.PDIRTY),
    s.get_admitted_of_off hring cost (g := TM_STATUS.QUAL) (by decide) (by decide)]

/-! ### One barrier (R163, R165, R166) -/

theorem State.bar_withSh (s : State) (x : Shadow) : ({ s with sh := x } : State).bar = s.bar := rfl

/-- R163: a barrier takes the next number. -/
theorem State.bar_createBarrier (s : State) (w : FenceWait) (hroom : s.bar < 2 ^ 48 - 1) :
    (s.createBarrier w).bar = s.bar + 1 := by
  have hbar : (s.setPair SH_BARH.BAR SH_BARL.BAR (s.bar + 1)).bar = s.bar + 1 := s.getPair_setPair (by omega)
  unfold State.createBarrier
  dsimp only
  cases !w.bell.dirty && w.durable
  · rw [State.when_false, State.bar_withSh, hbar]
  · rw [State.when_true, State.bar_withSh, State.bar_withSh, hbar]

/-- R166: a DURABLE PFENCE waits for its barrier where that can become recoverable. -/
theorem State.fences_createBarrier (s : State) (w : FenceWait) : (s.createBarrier w).sh.fences =
    if (!w.bell.dirty && w.durable) = true then s.sh.fences ++ [(w.ref, s.bar + 1)] else s.sh.fences := by
  unfold State.createBarrier
  dsimp only
  cases !w.bell.dirty && w.durable
  · rw [State.when_false, if_neg Bool.false_ne_true]
    rfl
  · rw [State.when_true, if_pos rfl]
    rfl

theorem Unposted.createBarrier {r : Nat} {w : FenceWait} (h : Unposted r s t) : Unposted r s (t.createBarrier w) := by
  unfold State.createBarrier
  dsimp only
  cases !w.bell.dirty && w.durable
  · exact .withSh (.set (.set h))
  · exact .withSh (.withSh (.set (.set h)))

/-- R163: PFENCE `w` waits with the others, its reference being the next place where it is a tick edge of its own. -/
def State.awaitBarrier (s : State) (w : FenceWait) : State :=
  { s with sh := { s.sh with
    waiting := insertWait w s.sh.waiting
    place := if w.bell.place = s.sh.place then s.sh.place + 1 else s.sh.place } }

theorem State.makeBarrier_eq (s : State) (ref : OpRef) (durable : Bool) : s.makeBarrier ref durable =
    (s.awaitBarrier
      ⟨ref, durable, (s.fenceBell ref.ring ref.word1).1, (s.fenceBell ref.ring ref.word1).2⟩).settleFences :=
  rfl

/-- R163: the PFENCEs `l` wait on. -/
def State.leaveWaiting (s : State) (l : List FenceWait) : State := { s with sh := { s.sh with waiting := l } }

/-- R163: whether no reference before place `p` has a PFENCE still to issue. -/
theorem State.references_all (s : State) (p : Nat) :
    (s.coveredFences.all fun q => decide (p ≤ q)) = (s.coveredFences.filter (· < p)).isEmpty := by
  rw [Bool.eq_iff_iff, List.all_eq_true, List.isEmpty_iff, List.filter_eq_nil_iff]
  simp only [decide_eq_true_eq, Nat.not_lt]

/-- R163: the one PFENCE that waits takes its number where no earlier reference is still to come. -/
theorem State.settleFences_ready {w : FenceWait} (hwaiting : s.sh.waiting = [w])
    (hready : s.coveredFences.filter (· < w.bell.place) = []) : s.settleFences =
      (((s.leaveWaiting []).createBarrier w).place).postAll (w.answer (s.bar + 1)).toList := by
  have hmay : (s.coveredFences.all fun q => decide (w.bell.place ≤ q)) = true := by rw [s.references_all, hready]; rfl
  rw [State.settleFences, hwaiting]
  simp only [List.filter_cons, hmay, List.filter_nil, Bool.not_true, if_true, Bool.false_eq_true, if_false]
  have hanswers (u : State) : (([w].zip (List.range [w].length)).filterMap fun e => e.1.answer (u.bar + 1 + e.2)) =
      (w.answer (u.bar + 1)).toList := by
    cases hanswer : w.answer (u.bar + 1) <;> simp [List.range_succ, hanswer]
  rw [State.numberFences, hanswers]
  rfl

theorem State.settleFences_waits {w : FenceWait} (hwaiting : s.sh.waiting = [w])
    (hwaits : s.coveredFences.filter (· < w.bell.place) ≠ []) : s.settleFences = (s.leaveWaiting [w]).place := by
  have hmay : (s.coveredFences.all fun q => decide (w.bell.place ≤ q)) = false := by
    rw [s.references_all]
    simpa using hwaits
  rw [State.settleFences, hwaiting]
  simp only [List.filter_cons, hmay, List.filter_nil, Bool.not_false, if_true, Bool.false_eq_true, if_false]
  rfl

/-! ### PFENCE (R163, R166, R599) -/

/-- R166: a PFENCE that completes as its barrier enters the capture order does not wait for the barrier. -/
theorem FenceWait.not_waits_of_answer {w : FenceWait} {n : Nat} {e : OpRef × Nat × Nat} (h : w.answer n = some e) :
    (!w.bell.dirty && w.durable) = false := by
  unfold FenceWait.answer at h
  split at h
  · next hdirty => rw [hdirty, Bool.not_true, Bool.false_and]
  · split at h
    · cases h
    · next hplain => rw [Bool.eq_false_iff.mpr hplain, Bool.and_false]

/-- R163: the PFENCE at the head of ring `op.ring` as it waits for its number. -/
def State.fenceWait (s : State) (op : Op) : FenceWait :=
  ⟨s.opRef op.ring 0x19, op.imm9 == 1, (s.fenceBell op.ring (s.opRef op.ring 0x19).word1).1,
    (s.fenceBell op.ring (s.opRef op.ring 0x19).word1).2⟩

theorem State.bar_admitted {op : Op} (hring : op.ring < 16) (cost : Nat) : (s.admitted op cost).bar = s.bar := by
  rw [State.bar, State.getPair, s.get_admitted_of_off hring cost (by decide) (by decide),
    s.get_admitted_of_off hring cost (by decide) (by decide), State.bar, State.getPair]

theorem State.coveredFences_withSh (s : State) (x : Shadow) (h : x.bells = s.sh.bells) :
    ({ s with sh := x } : State).coveredFences = s.coveredFences :=
  SameReferences.coveredFences ⟨rfl, h, rfl, rfl, fun _ => rfl, fun _ => rfl, fun _ => rfl⟩

theorem State.coveredFences_awaitBarrier (s : State) (w : FenceWait) :
    (s.awaitBarrier w).coveredFences = s.coveredFences := State.coveredFences_withSh _ _ rfl

theorem State.bar_awaitBarrier (s : State) (w : FenceWait) : (s.awaitBarrier w).bar = s.bar := State.bar_withSh _ _

theorem State.waiting_awaitBarrier (s : State) (w : FenceWait) (h : s.sh.waiting = []) :
    (s.awaitBarrier w).sh.waiting = [w] := by
  rw [State.awaitBarrier, h]
  rfl

theorem State.fences_leaveWaiting (s : State) (w : FenceWait) (l : List FenceWait) :
    ((s.awaitBarrier w).leaveWaiting l).sh.fences = s.sh.fences := rfl

theorem JournalKept.fences (h : JournalKept Shadow.beyondPages s t) : t.sh.fences = s.sh.fences :=
  congrArg (fun x => x.fences) h.sh

theorem JournalKept.waiting (h : JournalKept Shadow.beyondPages s t) : t.sh.waiting = s.sh.waiting :=
  congrArg (fun x => x.waiting) h.sh

theorem State.bar_post (s : State) (c : OpRef) (status result : Nat) : (s.post c status result).bar = s.bar := by
  rw [State.bar, State.getPair, s.get_post _ _ _ not_postField, s.get_post _ _ _ not_postField, State.bar,
    State.getPair]

section
variable {op : Op} (hring : op.ring < 16) (hopen : RingOpen s op.ring) (hext : op.ext = [])
  (hdst : op.dst = 0) (hsrc : op.src = 0) (himm : op.imm9 < 2) (hlegal : s.shadowLegal = true)
  (hroom : s.bar < 2 ^ 48 - 1) (hfew : s.barriersWaiting < 64) (hwaiting : s.sh.waiting = [])
include hring hopen hext hdst hsrc himm hlegal hroom hfew hwaiting

/-- R108, R163: a PFENCE with every operand in order waits for its barrier. -/
theorem pfence_eq :
    pfence op s = ((s.admitted op (unitCost 0x19)).awaitBarrier (s.fenceWait op)).settleFences := by
  have hlegal' : (s.admitted op (unitCost 0x19)).shadowLegal = true := by
    rw [State.shadowLegal, State.powerIn_admitted hring]
    exact hlegal
  have hroom' : (s.bar + 0 != 2 ^ 48 - 1) = true := by
    rw [bne_iff_ne]
    omega
  rw [pfence, if_neg (Nat.not_le.mpr hfew), hopen.issue_eq]
  simp only [hext, hdst, hsrc, himm, hlegal', State.bar_admitted hring, s.sh_admitted, hwaiting, List.length_nil,
    hroom', beq_self_eq_true, decide_true, Bool.and_self, State.judge_ok, State.makeBarrier_eq]
  have hring_opRef : (s.opRef op.ring 0x19).ring = op.ring := rfl
  rw [hring_opRef, hopen.fenceBell_admitted hring hext, State.fenceWait]

/-- R163: what a PFENCE leaves that takes its number at once, before it posts. -/
theorem pfence_ready
    (hready : (s.add (QU_HEAD.HEAD op.ring) 1).coveredFences.filter (· < (s.fenceWait op).bell.place) = []) :
    ∃ t, pfence op s = t.postAll ((s.fenceWait op).answer (s.bar + 1)).toList ∧ Unposted op.ring s t ∧
      t.bar = s.bar + 1 ∧ t.sh.fences =
        if (!(s.fenceWait op).bell.dirty && (s.fenceWait op).durable) = true then
          s.sh.fences ++ [((s.fenceWait op).ref, s.bar + 1)] else s.sh.fences := by
  rw [pfence_eq hring hopen hext hdst hsrc himm hlegal hroom hfew hwaiting]
  have hcovered := (hopen.sameReferences hext (unitCost 0x19)).coveredFences
  have hbar : (s.admitted op (unitCost 0x19)).bar = s.bar := State.bar_admitted hring _
  have hsh := s.sh_admitted op (unitCost 0x19)
  have hunposted : Unposted op.ring s (s.admitted op (unitCost 0x19)) := .admitted hopen _
  generalize s.admitted op (unitCost 0x19) = u at hcovered hbar hsh hunposted
  generalize s.fenceWait op = w at hready ⊢
  have hjoined : (u.awaitBarrier w).sh.waiting = [w] := u.waiting_awaitBarrier w (hsh ▸ hwaiting)
  rw [State.settleFences_ready hjoined (by rwa [State.coveredFences_awaitBarrier, hcovered]),
    State.bar_awaitBarrier, hbar]
  have hkept : JournalKept Shadow.beyondPages (((u.awaitBarrier w).leaveWaiting []).createBarrier w)
      (((u.awaitBarrier w).leaveWaiting []).createBarrier w).place := .place (.refl _)
  have hbarLeft : ((u.awaitBarrier w).leaveWaiting []).bar = s.bar := hbar
  refine ⟨_, rfl, .kept (.createBarrier (.withSh (.withSh hunposted))) hkept, ?_, ?_⟩
  · rw [hkept.bar, State.bar_createBarrier _ _ (hbarLeft.symm ▸ hroom), hbarLeft]
  · rw [hkept.fences, State.fences_createBarrier, hbarLeft, State.fences_leaveWaiting, hsh]

/-- R165, R166: a PFENCE completes as its barrier enters the capture order, where PDIRTY stood at its reference or it is
not DURABLE. -/
theorem pfence_posts {status : Nat}
    (hready : (s.add (QU_HEAD.HEAD op.ring) 1).coveredFences.filter (· < (s.fenceWait op).bell.place) = [])
    (hanswer : (s.fenceWait op).answer (s.bar + 1) = some (s.opRef op.ring 0x19, status, s.bar + 1)) :
    (pfence op s).bar = s.bar + 1 ∧ (pfence op s).sh.fences = s.sh.fences ∧
      Posted op.ring 0x19 status (s.bar + 1) s (pfence op s) := by
  obtain ⟨t, heq, hunposted, hbar, hfences⟩ :=
    pfence_ready hring hopen hext hdst hsrc himm hlegal hroom hfew hwaiting hready
  have hposts : pfence op s = t.post (s.opRef op.ring 0x19) status (s.bar + 1) := by
    rw [heq, hanswer, Option.toList_some, State.postAll_one]
  rw [FenceWait.not_waits_of_answer hanswer, if_neg Bool.false_ne_true] at hfences
  rw [hposts]
  exact ⟨(t.bar_post _ _ _).trans hbar, (congrArg Shadow.fences (t.sh_post _ _ _)).trans hfences,
    hunposted.posted hopen _ _ _⟩

/-- R166: a DURABLE PFENCE waits for its barrier to become recoverable. -/
theorem pfence_durable
    (hready : (s.add (QU_HEAD.HEAD op.ring) 1).coveredFences.filter (· < (s.fenceWait op).bell.place) = [])
    (hclean : (s.fenceWait op).bell.dirty = false) (hdurable : (s.fenceWait op).durable = true) :
    (pfence op s).bar = s.bar + 1 ∧
      (pfence op s).sh.fences = s.sh.fences ++ [(s.opRef op.ring 0x19, s.bar + 1)] := by
  obtain ⟨t, heq, -, hbar, hfences⟩ :=
    pfence_ready hring hopen hext hdst hsrc himm hlegal hroom hfew hwaiting hready
  have hwaits : pfence op s = t := by
    rw [heq, FenceWait.answer, hclean, hdurable]
    rfl
  rw [hclean, hdurable] at hfences
  rw [hwaits]
  exact ⟨hbar, hfences⟩

/-- R163: what a PFENCE leaves that waits for an earlier reference. -/
theorem pfence_waits
    (hearlier : (s.add (QU_HEAD.HEAD op.ring) 1).coveredFences.filter (· < (s.fenceWait op).bell.place) ≠ []) :
    (pfence op s).bar = s.bar ∧ (pfence op s).sh.fences = s.sh.fences ∧
      (pfence op s).sh.waiting = [s.fenceWait op] := by
  rw [pfence_eq hring hopen hext hdst hsrc himm hlegal hroom hfew hwaiting]
  have hcovered := (hopen.sameReferences hext (unitCost 0x19)).coveredFences
  have hbar : (s.admitted op (unitCost 0x19)).bar = s.bar := State.bar_admitted hring _
  have hsh := s.sh_admitted op (unitCost 0x19)
  generalize s.admitted op (unitCost 0x19) = u at hcovered hbar hsh
  generalize s.fenceWait op = w at hearlier ⊢
  have hjoined : (u.awaitBarrier w).sh.waiting = [w] := u.waiting_awaitBarrier w (hsh ▸ hwaiting)
  rw [State.settleFences_waits hjoined (by rwa [State.coveredFences_awaitBarrier, hcovered])]
  have hkept : JournalKept Shadow.beyondPages ((u.awaitBarrier w).leaveWaiting [w])
      ((u.awaitBarrier w).leaveWaiting [w]).place := .place (.refl _)
  exact ⟨hkept.bar.trans hbar, hkept.fences.trans (by rw [State.fences_leaveWaiting, hsh]),
    hkept.waiting⟩

end

/-! ### FOLD (R168, R174) -/

/-- R168: the work of a FOLD, by its action. -/
def State.actOnFold (s : State) (ref : OpRef) (action : Nat) : State :=
  if action = 1 then if s.nothingToFold then s.post ref 0x01 0 else s.beginFold (some ref)
  else if action = 2 then (s.setFlag SH_STATUS.FOLDHELD true).post ref 0x01 0
  else (s.setFlag SH_STATUS.FOLDHELD false).post ref 0x01 0

/-- R168: FOLDHELD follows a FOLD HOLD or a FOLD RELEASE, which posts. -/
theorem Unposted.foldheld_results {r : Nat} (h : Unposted r s t) (hopen : RingOpen s r) (b : Bool) :
    ((t.setFlag SH_STATUS.FOLDHELD b).post (s.opRef r 0x1D) 0x01 0).flag SH_STATUS.FOLDHELD = b ∧
      Posted r 0x1D 0x01 0 s ((t.setFlag SH_STATUS.FOLDHELD b).post (s.opRef r 0x1D) 0x01 0) := by
  refine ⟨?_, (Unposted.set h).posted hopen _ _ _⟩
  rw [State.flag, State.get_post _ _ _ _ not_postField]
  exact flag_set_boolNat t rfl b

section
variable {op : Op} (hring : op.ring < 16) (hopen : RingOpen s op.ring)
include hring

theorem State.foldLegal_admitted (cost action : Nat) : (s.admitted op cost).foldLegal action = s.foldLegal action := by
  simp only [State.foldLegal, State.shadowLegal, State.powerIn_admitted hring cost,
    State.flag_admitted hring cost (f := SH_STATUS.FOLDING), State.flag_admitted hring cost (f := SH_STATUS.FOLDHELD)]

theorem State.recBar_admitted (cost : Nat) : (s.admitted op cost).recBar = s.recBar := by
  rw [State.recBar, State.getPair, s.get_admitted_of_off hring cost (by decide) (by decide),
    s.get_admitted_of_off hring cost (by decide) (by decide), State.recBar, State.getPair]

theorem State.nothingToFold_admitted (cost : Nat) : (s.admitted op cost).nothingToFold = s.nothingToFold := by
  have hfl : (s.admitted op cost).fl = s.fl :=
    State.admitted_same (view := State.fl) (fun _ _ _ => rfl) (fun _ _ _ => rfl) (fun _ _ _ => rfl) (fun _ _ => rfl)
      s op cost
  rw [State.nothingToFold, State.recBar_admitted hring, hfl, State.nothingToFold]

include hopen

/-- R108, R174: a FOLD with every operand in order comes to its action. -/
theorem foldInstr_eq (hext : op.ext = []) (hsrc : op.src = 0) (himm : op.imm9 = 0) (hsome : 1 ≤ op.dst)
    (hmost : op.dst ≤ 3) (hlegal : s.foldLegal op.dst = true) :
    foldInstr op s = (s.admitted op (unitCost 0x1D)).actOnFold (s.opRef op.ring 0x1D) op.dst := by
  rw [foldInstr, hopen.issue_eq, State.foldLegal_admitted hring, hlegal]
  simp only [hext, hsrc, himm, hsome, hmost, List.length_nil, beq_self_eq_true, decide_true, Bool.and_self,
    State.judge_ok]
  unfold State.actOnFold
  split
  · next hstart => rw [if_pos hstart]
  · next hhold => rw [if_neg (by simp [hhold]), if_pos hhold]
  · next hstart hhold => rw [if_neg hstart, if_neg hhold]

/-- R168: a FOLD START with something to fold begins a fold, and one with nothing posts. -/
theorem foldInstr_start_results (hext : op.ext = []) (hsrc : op.src = 0) (himm : op.imm9 = 0) (hdst : op.dst = 1)
    (hlegal : s.foldLegal 1 = true) :
    (s.nothingToFold = true → Posted op.ring 0x1D 0x01 0 s (foldInstr op s)) ∧
      (s.nothingToFold = false →
        (foldInstr op s).sh.fold = some ⟨some (s.opRef op.ring 0x1D), s.recBar, s.clock⟩ ∧
          (foldInstr op s).flag SH_STATUS.FOLDING = true) := by
  have heq := foldInstr_eq hring hopen hext hsrc himm (by omega) (by omega) (hdst.symm ▸ hlegal)
  rw [heq, State.actOnFold, if_pos hdst, State.nothingToFold_admitted hring]
  refine ⟨fun hnone => ?_, fun hsome => ?_⟩
  · rw [if_pos hnone]
    exact (Unposted.admitted hopen _).posted hopen _ _ _
  · have hbegun := (s.admitted op (unitCost 0x1D)).beginFold_results (some (s.opRef op.ring 0x1D))
    rw [State.recBar_admitted hring, s.clock_admitted] at hbegun
    rw [if_neg (by simp [hsome])]
    exact hbegun

theorem foldInstr_hold_results (hext : op.ext = []) (hsrc : op.src = 0) (himm : op.imm9 = 0) (hdst : op.dst = 2)
    (hlegal : s.shadowLegal = true) :
    (foldInstr op s).flag SH_STATUS.FOLDHELD = true ∧ Posted op.ring 0x1D 0x01 0 s (foldInstr op s) := by
  have hfold : s.foldLegal op.dst = true := by rwa [State.foldLegal, if_neg (by omega)]
  rw [foldInstr_eq hring hopen hext hsrc himm (by omega) (by omega) hfold, State.actOnFold, if_neg (by omega),
    if_pos hdst]
  exact (Unposted.admitted hopen _).foldheld_results hopen true

theorem foldInstr_release_results (hext : op.ext = []) (hsrc : op.src = 0) (himm : op.imm9 = 0) (hdst : op.dst = 3)
    (hlegal : s.shadowLegal = true) :
    (foldInstr op s).flag SH_STATUS.FOLDHELD = false ∧ Posted op.ring 0x1D 0x01 0 s (foldInstr op s) := by
  have hfold : s.foldLegal op.dst = true := by rwa [State.foldLegal, if_neg (by omega)]
  rw [foldInstr_eq hring hopen hext hsrc himm (by omega) (by omega) hfold, State.actOnFold, if_neg (by omega),
    if_neg (by omega)]
  exact (Unposted.admitted hopen _).foldheld_results hopen false

end

/-- R153: FOLD START is legal where the shadow unit's instructions are, but in QUIET and beside another fold. -/
theorem State.foldLegal_start (hlegal : s.shadowLegal = true) (hquiet : s.power ≠ quiet)
    (hfolding : s.flag SH_STATUS.FOLDING = false) (hheld : s.flag SH_STATUS.FOLDHELD = false) :
    s.foldLegal 1 = true := by
  simp only [State.shadowLegal, State.powerIn, List.contains_eq_mem, List.mem_cons, List.not_mem_nil, or_false,
    decide_eq_true_eq] at hlegal
  simp only [State.foldLegal, if_true, State.powerIn, List.contains_eq_mem, List.mem_cons, List.not_mem_nil, or_false,
    hfolding, hheld, Bool.not_false, Bool.and_true, decide_eq_true_eq]
  tauto

end

/-- Settles O35: each REGION, PFENCE and FOLD, by the lemma that says what it leaves and posts. -/
theorem shadowInstructionResults : Obligations.ShadowInstructionResults := by
  intro s op hwf hopen
  obtain ⟨hring, -⟩ := Op.lt_of_wf hwf
  have himm : op.imm9 < 512 := by
    simp only [Op.wf, Bool.and_eq_true, decide_eq_true_eq] at hwf
    exact hwf.1.2
  refine ⟨?define, ?regions, ?pfence, ?held, ?fold⟩
  case define =>
    intro a ha hext hstart hcount hlegal hrange hclear hfree
    subst ha
    exact ⟨_, rfl, region_define_results (op := { op with dst := 1 }) hring hopen hext hstart hcount hlegal hrange himm
      rfl hclear hfree⟩
  case regions =>
    intro hext hsrc hlegal hwindow hvalid
    refine ⟨fun hsmall => ?_, ?_⟩
    · obtain ⟨hlength, hword1, hword2, hregion, hrange⟩ :=
        State.region_zeroWords (op := { op with dst := 2 }) hext hsrc (.inl ⟨rfl, hsmall⟩) hlegal hwindow
      have hresults := region_retire_results (op := { op with dst := 2 }) hring hopen hlength hword1 hword2 hregion
        hrange rfl hvalid
      rw [show (regionArgs { op with dst := 2 }).num = op.imm9 from Nat.mod_eq_of_lt hsmall] at hresults
      exact ⟨_, rfl, hresults⟩
    · obtain ⟨hlength, hword1, hword2, hregion, hrange⟩ :=
        State.region_zeroWords (op := { op with dst := 3 }) hext hsrc (.inr rfl) hlegal hwindow
      exact ⟨_, rfl, region_reprioritise_results (op := { op with dst := 3 }) hring hopen hlength hword1 hword2 hregion
        hrange himm rfl hvalid⟩
  case pfence =>
    intro hext hdst hsrc hlegal hroom hfew hwaiting hfence ref bell earlier
    have hposts {status : Nat} := pfence_posts hring hopen hext hdst hsrc hfence hlegal hroom hfew hwaiting
      (status := status)
    refine ⟨fun hready hdirty => ?_, fun hready hclean hplain => ?_, fun hready hclean hdurable => ?_,
      fun hearlier => ?_⟩
    · exact ⟨_, rfl, hposts hready (if_pos hdirty)⟩
    · have hanswer : (s.fenceWait op).answer (s.bar + 1) = some (ref, 0x01, s.bar + 1) := by
        have hat : (s.fenceWait op).bell.dirty = false := hclean
        have hnot : (s.fenceWait op).durable = false := by rw [State.fenceWait, hplain]; rfl
        rw [FenceWait.answer, hat, hnot]
        rfl
      obtain ⟨hbar, -, hposted⟩ := hposts hready hanswer
      exact ⟨_, rfl, hbar, hposted⟩
    · exact ⟨_, rfl, pfence_durable hring hopen hext hdst hsrc hfence hlegal hroom hfew hwaiting hready hclean
        (beq_iff_eq.mpr hdurable)⟩
    · obtain ⟨hbar, hfences, hwaits⟩ :=
        pfence_waits hring hopen hext hdst hsrc hfence hlegal hroom hfew hwaiting hearlier
      exact ⟨_, rfl, hbar, hfences, by rw [hwaits]; rfl⟩
  case held => exact fun hmany => ⟨_, rfl, if_pos hmany⟩
  case fold =>
    intro hext hsrc hzero hlegal
    refine ⟨fun hquiet hfolding hheld => ?_, ?_, ?_⟩
    · obtain ⟨hnothing, hbegins⟩ := foldInstr_start_results (op := { op with dst := 1 }) hring hopen hext hsrc hzero rfl
        (State.foldLegal_start hlegal hquiet hfolding hheld)
      exact ⟨fun hnone => ⟨_, rfl, hnothing hnone⟩, fun hsome => ⟨_, rfl, hbegins hsome⟩⟩
    · exact ⟨_, rfl, foldInstr_hold_results (op := { op with dst := 2 }) hring hopen hext hsrc hzero rfl hlegal⟩
    · exact ⟨_, rfl, foldInstr_release_results (op := { op with dst := 3 }) hring hopen hext hsrc hzero rfl hlegal⟩

end Sys2Proof.Machine

/-! ## A Galliard that stops in MAINT (R80, R205, R251) -/

namespace Sys2Proof.Machine

set_option Elab.async false

open Reg Host

section
variable {s : State}

/-! ### Entries that finish in one cycle (R80) -/

/-- R80: an entry goes behind those that are like it. -/
theorem insertPost_replicate (key : OpRef → Nat) (e : OpRef × Nat × Nat) (n : Nat) :
    insertPost key e (List.replicate n e) = List.replicate (n + 1) e := by
  induction n with
  | zero => rfl
  | succ n ih => rw [List.replicate_succ, insertPost, if_neg (Nat.lt_irrefl _), ih, ← List.replicate_succ]

theorem foldl_insertPost_replicate (key : OpRef → Nat) (e : OpRef × Nat × Nat) (n m : Nat) :
    (List.replicate n e).foldl (fun l e => insertPost key e l) (List.replicate m e) = List.replicate (m + n) e := by
  induction n generalizing m with
  | zero => rfl
  | succ n ih => rw [List.replicate_succ, List.foldl_cons, insertPost_replicate, ih, Nat.add_right_comm, Nat.add_assoc]

/-- The completion of `c` is posted `n` times over. -/
def State.postTimes (c : OpRef) (status result : Nat) : Nat → State → State
  | 0, s => s
  | n + 1, s => (State.postTimes c status result n s).post c status result

/-- R80: `n` entries alike are posted one after the other. -/
theorem State.postAll_replicate (s : State) (c : OpRef) (status result n : Nat) :
    s.postAll (List.replicate n (c, status, result)) = State.postTimes c status result n s := by
  have hsorted : (List.replicate n (c, status, result)).foldl (fun l e => insertPost s.postPlace e l) [] =
      List.replicate n (c, status, result) := by
    simpa only [Nat.zero_add, List.replicate_zero] using
      foldl_insertPost_replicate s.postPlace (c, status, result) n 0
  rw [State.postAll, hsorted]
  clear hsorted
  induction n with
  | zero => rfl
  | succ n ih => rw [List.replicate_succ', List.foldl_append, ih, List.foldl_cons, List.foldl_nil, State.postTimes]

/-- R80: each entry moves the tail of its queue on by one. -/
theorem State.tail_postTimes {c : OpRef} (hring : c.ring < 16) (hwait : (s.ring c.ring).wait = .none)
    (status result n : Nat) :
    ((State.postTimes c status result n s).ring c.ring).wait = .none ∧
      (State.postTimes c status result n s).get (QU_CQTAIL.TAIL c.q) % 2 ^ 24 =
        (s.get (QU_CQTAIL.TAIL c.q) + n) % 2 ^ 24 := by
  induction n with
  | zero => exact ⟨hwait, rfl⟩
  | succ n ih =>
      obtain ⟨hidle, htail⟩ := ih
      obtain ⟨-, hnext, hstands, -⟩ := State.post_results status result hring hidle
      rw [State.postTimes]
      exact ⟨by rw [hstands, hidle], by rw [hnext]; omega⟩

/-- R78: a queue's 1,024 entries come round: of as many entries alike the last stands in the place before the first. -/
theorem State.slot_postTimes_round {c : OpRef} (hring : c.ring < 16) (hwait : (s.ring c.ring).wait = .none)
    (status result : Nat) {n base : Nat} (hn : n = 1023)
    (hbase : 0x80000 + c.q * 0x4000 + 16 * ((s.get (QU_CQTAIL.TAIL c.q) + n) % 1024) = base) :
    (State.postTimes c status result (n + 1) s).slot base = c.word0 status % 2 ^ 24 := by
  obtain ⟨-, htail⟩ := State.tail_postTimes hring hwait status result n
  obtain ⟨hword0, -⟩ := State.done_post (State.postTimes c status result n s) c status result
  have hentry : (State.postTimes c status result n s).entryBase c.q = base := by
    rw [State.entryBase, ← hbase]
    omega
  rw [hentry] at hword0
  rw [State.postTimes]
  exact hword0

end

/-! ### The margins of a MAINT that is left (R251, R605) -/

section
variable {s t : State}

theorem State.tail_marginBack (s : State) (m step : Nat) {q : Nat} (hq : q < 4) :
    (s.marginBack m step).get (QU_CQTAIL.TAIL q) = s.get (QU_CQTAIL.TAIL q) :=
  State.tail_set _ hq (by simp only [PW_MG.STEP]; omega)

/-- R251, R605: the margins go back, which moves no ring and no queue, before the MARGINs that wait are posted. -/
theorem State.marginsNominal_eq (s : State) : ∃ u : State, u.rings = s.rings ∧
    (∀ q < 4, u.get (QU_CQTAIL.TAIL q) = s.get (QU_CQTAIL.TAIL q)) ∧
    s.marginsNominal =
      u.postAll (s.pw.margins.map fun w => (w.ref, 0x31, u.railResult (u.get (PW_MG.RAIL w.channel)))) := by
  refine ⟨_, ?_, fun q hq => ?_, rfl⟩
  · exact foldl_same State.rings _ (fun t m => by split <;> rfl) _ _
  · refine foldl_same (fun t : State => t.get (QU_CQTAIL.TAIL q)) _ (fun t m => ?_) _ _
    split
    · rfl
    · exact t.tail_marginBack m _ hq

theorem State.slot_dropFlags (s : State) (off : Nat) : s.dropFlags.slot off = s.slot off := by
  refine foldl_same (fun t : State => t.slot off) _ (fun t n => ?_) _ s
  dsimp only [State.dropFlag, State.setChannelBit]
  split
  · split <;> rfl
  · rfl

theorem State.slot_followPath (s : State) (off : Nat) : s.followPath.slot off = s.slot off := by
  unfold State.followPath
  split <;> rfl

/-- R251: a new power state shows in no memory, but for the MARGINs that end as MAINT is left. -/
theorem State.slot_enterState (s : State) (new cause off : Nat) :
    (s.enterState new cause).slot off = (s.when (s.power == maint && new != maint) (·.marginsNominal)).slot off := by
  have hslot (u : State) (code w5 w6 w7 : Nat) : (u.raise code w5 w6 w7).slot off = u.slot off := by
    rw [State.slot, (SameUnits.raise u code w5 w6 w7).slots, State.slot]
  have hshown (u : State) : u.showFaultLine.slot off = u.slot off := rfl
  rw [State.enterState, hshown, State.slot_followPath, State.slot_dropFlags, hslot]
  rfl

/-! ### A Galliard that stops (R205) -/

theorem State.get_withSv (s : State) (x : SaveUnit) (g : Field) : ({ s with sv := x } : State).get g = s.get g := rfl

/-- R197: the save unit's registers as Galliard is over. -/
def State.galliardOver (s : State) : State :=
  (((({ s with sv := { s.sv with galliard := none } } : State).set SV_STATUS.WIN 0).set SV_STATUS.STAGED 0).set
    SV_STAGECTL.HOSTWIN 0).set SV_STATUS.STATE (s.get SV_STATUS.ARMED)

theorem State.leaveGalliard_eq (s : State) (from_ : Nat) :
    s.leaveGalliard from_ = s.galliardOver.enterState from_ 3 := rfl

theorem State.get_galliardOver (s : State) {g : Field} (hlo : g.lo < 32) (hout : g.off / 0x1000 ∉ [5]) :
    s.galliardOver.get g = s.get g := by
  have hne {f : Field} (hf : f.lo < 32) (hin : f.off / 0x1000 ∈ [5]) : g.key ≠ f.key :=
    Field.key_ne_of_block hf hlo hin hout
  rw [State.galliardOver, State.get_set_ne _ _ (hne (by decide) (by decide)),
    State.get_set_ne _ _ (hne (by decide) (by decide)), State.get_set_ne _ _ (hne (by decide) (by decide)),
    State.get_set_ne _ _ (hne (by decide) (by decide)), State.get_withSv]

theorem State.ring_galliardOver (s : State) (r : Nat) : s.galliardOver.ring r = s.ring r := rfl

theorem State.pw_galliardOver (s : State) : s.galliardOver.pw = s.pw := rfl

/-- R603: the save unit's registers as Galliard stops. -/
def State.galliardDropped (s : State) : State :=
  ((({ s with sv := { s.sv with galliard := none } } : State).set SV_STATUS.WIN 0).set SV_STATUS.STAGED 0).set
    SV_STAGECTL.HOSTWIN 0

theorem State.get_galliardDropped (s : State) {g : Field} (hlo : g.lo < 32) (hout : g.off / 0x1000 ∉ [5]) :
    s.galliardDropped.get g = s.get g := by
  have hne {f : Field} (hf : f.lo < 32) (hin : f.off / 0x1000 ∈ [5]) : g.key ≠ f.key :=
    Field.key_ne_of_block hf hlo hin hout
  rw [State.galliardDropped, State.get_set_ne _ _ (hne (by decide) (by decide)),
    State.get_set_ne _ _ (hne (by decide) (by decide)), State.get_set_ne _ _ (hne (by decide) (by decide)),
    State.get_withSv]

theorem galliardStop_eq {g : Galliard} (hg : s.sv.galliard = some g) : galliardStop s =
    (s.galliardDropped.post g.ref 0x47 0).galliardOver.enterState g.fromState 3 := by
  simp only [galliardStop, State.stopGalliard, hg, ← State.leaveGalliard_eq, State.galliardDropped]

/-- R205: up to the change of the power state a Galliard that stops posts the completion of its RESTORE alone. -/
theorem galliardStop_completes {c : OpRef} (hring : c.ring < 16) (hwait : (s.ring c.ring).wait = .none) :
    let u := (s.galliardDropped.post c 0x47 0).galliardOver
    u.power = s.power ∧ u.pw = s.pw ∧ (u.ring c.ring).wait = .none ∧
      u.get (QU_CQTAIL.TAIL c.q) = (s.get (QU_CQTAIL.TAIL c.q) + 1) % 2 ^ 24 := by
  have hqueue : (QU_CQTAIL.TAIL c.q).off / 0x1000 ∉ [5] := by
    have hq := c.q_lt
    simp only [QU_CQTAIL.TAIL, List.mem_singleton]
    omega
  have hidle : (s.galliardDropped.ring c.ring).wait = .none := hwait
  obtain ⟨-, hnext, hstands, -⟩ := State.post_results 0x47 0 hring hidle
  rw [State.get_galliardDropped _ (Nat.zero_lt_succ 31) hqueue] at hnext
  refine ⟨?_, ?_, ?_, ?_⟩
  · rw [State.power, State.get_galliardOver _ (by decide) (by decide), State.get_post _ _ _ _ not_postField,
      State.get_galliardDropped _ (by decide) (by decide), State.power]
  · rw [State.pw_galliardOver]
    exact State.post_same (view := State.pw) (fun _ _ _ => rfl) (fun _ _ _ => rfl) (fun _ _ _ => rfl)
      (fun _ _ _ => rfl) s.galliardDropped c 0x47 0
  · rw [State.ring_galliardOver, hstands, hidle]
  · rw [State.get_galliardOver _ (Nat.zero_lt_succ 31) hqueue, hnext]

end

/-! ### The counterexample -/

/-- A MARGIN that waits. -/
def heldMargin : MarginWait := ⟨0, ⟨0, 0, false, 0x16, 0⟩, 0⟩

/-- A Galliard begun from ACTIVE by a RESTORE of ring 0. -/
def plainGalliard : Galliard :=
  ⟨⟨0, 0, false, 0x1C, 0⟩, false, 0, 3, 0, 0, 0, [], [], ⟨[], [], []⟩, [], [], active⟩

/-- MAINT with a Galliard and `n` waiting MARGINs. -/
def crowdedMaint (n : Nat) : State :=
  { State.reset.set PW_STATE.STATE maint with
    pw := { Power.reset with margins := List.replicate n heldMargin }
    sv := { SaveUnit.reset with galliard := some plainGalliard } }

/-- R78, R251: of 1,024 MARGINs the last stands in the entry of the RESTORE. -/
theorem slot_galliardStop_crowdedMaint {n : Nat} (hn : n = 1023) :
    (galliardStop (crowdedMaint (n + 1))).slot 0x80000 = heldMargin.ref.word0 0x31 % 2 ^ 24 := by
  obtain ⟨hpower, hpw, hidle, htail⟩ := galliardStop_completes (s := crowdedMaint (n + 1)) (c := plainGalliard.ref)
    (by decide) rfl
  rw [galliardStop_eq rfl]
  generalize ((crowdedMaint (n + 1)).galliardDropped.post plainGalliard.ref 0x47 0).galliardOver = u at *
  obtain ⟨v, hrings, htails, hnominal⟩ := u.marginsNominal_eq
  have hmaint : u.power = maint := hpower.trans (State.get_set_same State.reset PW_STATE.STATE maint)
  have hleaves : (u.power == maint && plainGalliard.fromState != maint) = true := by rw [hmaint]; rfl
  have hmargins : u.pw.margins = List.replicate (n + 1) heldMargin := congrArg Power.margins hpw
  have hwait : (v.ring 0).wait = .none := by rwa [State.ring, hrings]
  have hfirst : v.get (QU_CQTAIL.TAIL 0) = 1 := (htails 0 (by decide)).trans htail
  rw [State.slot_enterState, hleaves, State.when_true, hnominal, hmargins, List.map_replicate,
    State.postAll_replicate]
  refine State.slot_postTimes_round (by decide) hwait _ _ hn ?_
  rw [show heldMargin.ref.q = 0 from rfl, hfirst, hn]

/-- Refutes O40: the clause of a Galliard that stops bounds neither the power state nor the MARGINs that wait. In MAINT
as many of them as a completion queue has entries complete behind the RESTORE, the last in the RESTORE's entry. -/
theorem not_restoreResults : ¬ Obligations.RestoreResults := by
  intro h
  obtain ⟨n, hn⟩ : ∃ n, n = 1023 := ⟨_, rfl⟩
  obtain ⟨-, -, -, hstop, -, -⟩ := h (crowdedMaint (n + 1))
  obtain ⟨t, hnext, -, -, hword0, -⟩ := hstop plainGalliard rfl
  have ht : t = galliardStop (crowdedMaint (n + 1)) := (Host.Outcome.next.inj hnext).symm
  have hbase : (crowdedMaint (n + 1)).entryBase plainGalliard.ref.q = 0x80000 := rfl
  rw [ht, hbase, slot_galliardStop_crowdedMaint hn] at hword0
  exact absurd hword0 (by decide)

end Sys2Proof.Machine

/-! ## Registers and state that stand from one state to another -/

namespace Sys2Proof.Machine

set_option Elab.async false

open Reg Host

/-- From `s` to `t` the registers at the places that `kept` admits stand, and what `view` shows of the state. -/
structure Stands {α : Type} (kept : Nat → Nat → Bool) (view : State → α) (s t : State) : Prop where
  get : ∀ g : Field, g.lo < 32 → kept g.off g.lo = true → t.get g = s.get g
  view : view t = view s

section
variable {α : Type} {kept : Nat → Nat → Bool} {view : State → α} {s t u : State}

theorem Stands.refl (s : State) : Stands kept view s s := ⟨fun _ _ _ => rfl, rfl⟩

theorem Stands.trans (h : Stands kept view s t) (h' : Stands kept view t u) : Stands kept view s u :=
  ⟨fun g hlo hg => (h'.get g hlo hg).trans (h.get g hlo hg), h'.view.trans h.view⟩

/-- A change of neither the registers nor the view. -/
theorem Stands.congr (h : Stands kept view s t) (hregs : u.regs = t.regs := by rfl)
    (hview : view u = view t := by rfl) : Stands kept view s u :=
  h.trans ⟨fun g _ _ => by rw [State.get, hregs, State.get], hview⟩

theorem Stands.withPw {x : Power} (h : Stands kept view s t)
    (hview : view { t with pw := x } = view t := by rfl) : Stands kept view s { t with pw := x } := h.congr rfl hview

theorem Stands.withTm {x : TimeUnit} (h : Stands kept view s t)
    (hview : ∀ (u : State) y, view { u with tm := y } = view u := by intros; rfl) :
    Stands kept view s { t with tm := x } := h.congr rfl (hview t x)

theorem Stands.withMn {x : Monitors} (h : Stands kept view s t)
    (hview : ∀ (u : State) y, view { u with mn := y } = view u := by intros; rfl) :
    Stands kept view s { t with mn := x } := h.congr rfl (hview t x)

theorem Stands.withBt {x : Battery} (h : Stands kept view s t)
    (hview : ∀ (u : State) y, view { u with bt := y } = view u := by intros; rfl) :
    Stands kept view s { t with bt := x } := h.congr rfl (hview t x)

theorem Stands.withSh {x : Shadow} (h : Stands kept view s t)
    (hview : ∀ (u : State) y, view { u with sh := y } = view u := by intros; rfl) :
    Stands kept view s { t with sh := x } := h.congr rfl (hview t x)

theorem Stands.withFl {x : Flash} (h : Stands kept view s t)
    (hview : view { t with fl := x } = view t := by rfl) : Stands kept view s { t with fl := x } := h.congr rfl hview

theorem Stands.setPort {p : Nat} {x : UartPort} (h : Stands kept view s t)
    (hview : ∀ u q y, view (State.setPort u q y) = view u := by intros; rfl) :
    Stands kept view s (t.setPort p x) := h.congr rfl (hview t p x)

theorem Stands.setSe {x : Security} (h : Stands kept view s t)
    (hview : ∀ u y, view (State.setSe u y) = view u := by intros; rfl) :
    Stands kept view s (t.setSe x) := h.congr rfl (hview t x)

theorem Stands.ite {c : Prop} [Decidable c] (ht : Stands kept view s t) (hu : Stands kept view s u) :
    Stands kept view s (if c then t else u) := by
  split
  · exact ht
  · exact hu

theorem Stands.when {b : Bool} {f : State → State} (h : Stands kept view s t) (hf : Stands kept view s (f t)) :
    Stands kept view s (t.when b f) := by
  cases b
  · exact h
  · exact hf

theorem Stands.foldl {β : Type} {f : State → β → State} {l : List β} (h : Stands kept view s t)
    (hf : ∀ {u}, ∀ x ∈ l, Stands kept view s u → Stands kept view s (f u x)) : Stands kept view s (l.foldl f t) :=
  List.foldlRecOn (motive := Stands kept view s) l f h fun _ hu x hx => hf x hx hu

/-- A register at another place. -/
theorem Stands.set {f : Field} {v : Nat} (h : Stands kept view s t) (hplace : kept f.off f.lo = false := by decide)
    (hlo : f.lo < 32 := by decide) (hview : ∀ u g w, view (State.set u g w) = view u := by intros; rfl) :
    Stands kept view s (t.set f v) := by
  refine h.trans ⟨fun g hg hkept => State.get_set_ne t v fun hkey => ?_, hview t f v⟩
  simp only [Field.key] at hkey
  have hoff : g.off = f.off := by omega
  have hbit : g.lo = f.lo := by omega
  rw [hoff, hbit, hplace] at hkept
  cases hkept

/-- R331: an event changes its own registers, rings and the log. -/
theorem Stands.raise {code w5 w6 w7 : Nat} (h : Stands kept view s t)
    (hevent : ∀ g : Field, g.lo < 32 → kept g.off g.lo = true → ¬ eventField g)
    (hview : view (t.raise code w5 w6 w7) = view t) : Stands kept view s (t.raise code w5 w6 w7) :=
  h.trans ⟨fun g hlo hg => State.get_raise (hevent g hlo hg) t code w5 w6 w7, hview⟩

end

end Sys2Proof.Machine

/-! ## Cold start (R581 to R586) -/

namespace Sys2Proof.Machine

set_option Elab.async false

open Reg Host

section
variable {s t : State}

/-! ### What follows from the settings of the always-on domain (R15, R268, R270, R286, R303) -/

/-- The places outside the blocks of the monitors, the battery and Wellhead. -/
def settingsBeside (off _ : Nat) : Bool := decide (off < 0x8000) || decide (0xB000 ≤ off)

/-- From `s`, with the core rail down, to `t` no register outside those three blocks has changed. -/
abbrev ColdKept (s t : State) : Prop := Stands settingsBeside State.coreUp s t

theorem settingsBeside_eq_false {off lo : Nat} (h : 0x8000 ≤ off ∧ off < 0xB000) : settingsBeside off lo = false := by
  simp only [settingsBeside, Bool.or_eq_false_iff, decide_eq_false_iff_not]
  omega

/-- A register of one of the 32 monitor channels. -/
theorem Stands.setChannel {n base lo width reset v : Nat} (h : ColdKept s t) (hn : n < 32)
    (hbase : 0x8000 ≤ base ∧ base ≤ 0xA000 := by decide) (hlo : lo < 32 := by decide) :
    ColdKept s (t.set ⟨base + 32 * n, lo, width, reset⟩ v) :=
  .set h (settingsBeside_eq_false (by simp only; omega)) hlo

theorem Stands.coldRetune {n : Nat} (h : ColdKept s t) (hn : n < 32) : ColdKept s (t.retune n) :=
  .setChannel (.setChannel h hn) hn

theorem Stands.coldRetuneVin (h : ColdKept s t) : ColdKept s t.retuneVin := .coldRetune (.set (.set h)) (by decide)

theorem Stands.coldThresholds (h : ColdKept s t) : ColdKept s t.packThresholds := by
  refine .foldl h fun c hc hu => ?_
  have hn : c.1 < 32 := by
    simp only [List.mem_cons, List.not_mem_nil, or_false] at hc
    rcases hc with rfl | rfl | rfl | rfl | rfl <;> norm_num
  exact .coldRetune (.setChannel (.setChannel (.setChannel (.setChannel (.setChannel hu hn) hn) hn) hn) hn) hn

theorem Stands.coldBleed {c : Nat} (h : ColdKept s t) : ColdKept s (t.bleedCell c) :=
  .set (.congr (u := { t with bt := { t.bt with bleed := c } }) h)

theorem Stands.coldStartTimer (h : ColdKept s t) : ColdKept s t.startTimer := by
  unfold State.startTimer
  split
  · exact .congr h
  · exact h

theorem Stands.coldStopTimer (h : ColdKept s t) : ColdKept s t.stopTimer := by
  unfold State.stopTimer
  split
  · exact h
  · exact .congr h

theorem State.raise_down (hdown : s.coreUp = false) (code w5 w6 w7 : Nat) :
    (s.raise code w5 w6 w7).regs = s.regs ∧ (s.raise code w5 w6 w7).coreUp = s.coreUp := by
  unfold State.raise
  split
  · exact ⟨rfl, rfl⟩
  · rw [State.raiseFrom, if_neg (by simp [hdown])]
    exact ⟨rfl, rfl⟩

/-- R331: with the core rail down an event leaves no trace in a register. -/
theorem Stands.coldRaise (hdown : s.coreUp = false) {code w5 w6 w7 : Nat} (h : ColdKept s t) :
    ColdKept s (t.raise code w5 w6 w7) := by
  obtain ⟨hregs, hup⟩ := State.raise_down (h.view.trans hdown) code w5 w6 w7
  exact .congr h hregs hup

theorem Stands.coldPhase (hdown : s.coreUp = false) {p : Nat} (h : ColdKept s t) : ColdKept s (t.setPhase p) := by
  have htimer : ColdKept s (if p = phasePre ∨ p = phaseCc ∨ p = phaseCv then t.startTimer else t.stopTimer) :=
    .ite (.coldStartTimer h) (.coldStopTimer h)
  exact .ite h (.coldRaise hdown (.set (.congr (.ite htimer (.coldBleed htimer)))))

theorem Stands.coldBattery (hdown : s.coreUp = false) {f r : Bool} (h : ColdKept s t) :
    ColdKept s (t.batteryManual f r) := by
  have hfloat {c d : Prop} [Decidable c] [Decidable d] {v w : Nat} : ColdKept s (if c then if d then t
      else t.set BT_VFNOW.MV v else (({ t with bt := { t.bt with floatCalm := 0 } } : State).set BT_VFNOW.MV w).setFlag
        BT_STATUS.FPINNED false) := .ite (.ite h (.set h)) (.set (.set (.congr h)))
  have hrange {u : State} {c d : Prop} [Decidable c] [Decidable d] {v w : Nat} (hu : ColdKept s u) :
      ColdKept s (if c then if d then u else u.set BT_STATUS.RANGE v else
        (({ u with bt := { u.bt with rangeCalm := 0 } } : State).set BT_STATUS.RANGE w).setFlag
          BT_STATUS.RPINNED false) :=
    .ite (.ite hu (.set hu)) (.set (.set (.congr hu)))
  have hcells {u : State} {b : Bool} (hu : ColdKept s u) : ColdKept s (u.when b (·.bleedCell 0)) :=
    .when hu (.coldBleed hu)
  exact .ite (.coldPhase hdown (hcells (hrange hfloat))) (hcells (hrange hfloat))

theorem Stands.coldSlew {part : Int} (h : ColdKept s t) : ColdKept s (t.slewAccrue part) := by
  unfold State.slewAccrue
  split
  · exact h
  · exact .congr h

theorem Stands.coldOutput (h : ColdKept s t) : ColdKept s t.showOutput := .coldSlew (.set h)

theorem Stands.coldTime {was : Bool} (h : ColdKept s t) : ColdKept s (t.timeManual was) :=
  .ite (.ite h (.coldOutput (.congr h))) (.coldOutput (.set (.congr h)))

theorem State.loadDerived_kept (hdown : s.coreUp = false) : ColdKept s s.loadDerived :=
  .coldTime (.coldBattery hdown (.coldThresholds (.coldRetuneVin
    (.foldl (.refl s) fun _ hn hu => .coldRetune hu (List.mem_range.mp hn)))))

theorem Stands.coldCap (h : ColdKept s t) : ColdKept s t.loadCap := .set h

theorem Stands.coldRange {r : PackReading} (h : ColdKept s t) : ColdKept s (t.showRange r) := .set (.set h)

theorem Stands.coldRead {r : PackReading} (h : ColdKept s t) : ColdKept s (t.readPack r) := .set (.set (.set (.set h)))

theorem Stands.coldGauge {r : PackReading} (h : ColdKept s t) : ColdKept s (t.restartGauge r) :=
  .set (.set (.congr (.coldRange (.coldRead h))))

/-! ### The last step of a cold start (R246, R311, R582) -/

/-- PW_STATE, PW_LATCH and the places outside the power and timing blocks. -/
def settleBeside (off _ : Nat) : Bool :=
  decide (off < 0x7010) || decide (off = 0x7014) || decide (0x8000 ≤ off) && decide (off < 0xA000) ||
    decide (0xB000 ≤ off)

abbrev SettleKept (s t : State) : Prop := Stands settleBeside State.coreUp s t

theorem Stands.settlePath (h : SettleKept s t) : SettleKept s t.followPath := .ite h (.congr h)

theorem Stands.settleLine (h : SettleKept s t) : SettleKept s t.showFaultLine := .set (.set h)

theorem Stands.settleClock (h : SettleKept s t) : SettleKept s t.correctClock := .congr h

theorem Stands.settleXtal (h : SettleKept s t) : SettleKept s t.showXtal := .ite (.settleClock (.set h)) h

theorem Stands.settleTime (h : SettleKept s t) : SettleKept s t.startTime :=
  .ite h (.settleXtal (.set (.set (.set (.congr h)))))

/-- What `settle` does after it has written the state. -/
theorem State.settle_kept (s : State) :
    SettleKept ((s.setFlag PW_STATUS.LATCHED (s.get PW_LATCH.CAUSE != 0)).set PW_STATE.STATE
      (if s.get PW_LATCH.CAUSE != 0 then latched else dormant)) s.settle :=
  have h := Stands.settleLine (.settlePath (.refl _))
  .when h (.settleTime h)

theorem State.coreUp_settle (s : State) : s.settle.coreUp = s.coreUp := s.settle_kept.view

theorem State.get_settle (s : State) {g : Field} (hkept : settleBeside g.off g.lo = true := by decide)
    (hlo : g.lo < 32 := by decide) (hstate : g.key ≠ PW_STATE.STATE.key := by decide)
    (hlatched : g.key ≠ PW_STATUS.LATCHED.key := by decide) : s.settle.get g = s.get g := by
  rw [s.settle_kept.get g hlo hkept, State.get_set_ne _ _ hstate, State.setFlag_eq, State.get_set_ne _ _ hlatched]

theorem State.power_settle (s : State) :
    s.settle.power = if s.settle.get PW_LATCH.CAUSE = 0 then dormant else latched := by
  rw [s.get_settle (g := PW_LATCH.CAUSE)]
  refine (s.settle_kept.get PW_STATE.STATE (by decide) (by decide)).trans ?_
  rw [State.get_set_same]
  by_cases hcause : s.get PW_LATCH.CAUSE = 0
  · simp [hcause, dormant, PW_STATE.STATE]
  · simp [hcause, latched, PW_STATE.STATE]

/-! ### The image in force (R584) -/

theorem State.coreUp_applyRecords (inDomain : Nat → Bool) (l : List (Nat × Nat)) (s : State) :
    (s.applyRecords inDomain l).coreUp = s.coreUp := by
  induction l generalizing s with
  | nil => rfl
  | cons e l ih =>
      refine (ih _).trans ?_
      split
      · exact List.foldlRecOn (motive := fun t : State => t.coreUp = s.coreUp) _ _ rfl fun _ ht _ _ => ht
      · rfl

theorem State.coreUp_queueFault (s : State) (code w5 w6 w7 : Nat) : (s.queueFault code w5 w6 w7).coreUp = s.coreUp := by
  unfold State.queueFault
  split <;> rfl

theorem State.coreUp_loadParams (s : State) (validA validB : Bool) :
    (s.loadParams validA validB).coreUp = s.coreUp := by
  unfold State.loadParams
  dsimp only
  cases (chooseParams (s.se.copies.getD 0 none) (s.se.copies.getD 1 none) validA validB).1 == 3
  · rw [State.when_false]
    split <;> exact State.coreUp_applyRecords ..
  · rw [State.when_true, State.coreUp_queueFault]
    split <;> exact State.coreUp_applyRecords ..

/-- Without a written copy there is no image: its registers read zero. -/
theorem State.loadParams_unwritten {s : State} (ha : s.se.copies.getD 0 none = none)
    (hb : s.se.copies.getD 1 none = none) (validA validB : Bool) :
    s.loadParams validA validB =
      (((s.setSe { s.se with inForce := [] }).set SY_STARTINFO.PSRC 0).set SY_PARAMSEQ.SEQ 0).set SY_PARAMRECS.N 0 := by
  unfold State.loadParams
  rw [ha, hb]
  rfl

/-! ### The always-on domain (R583, R586, R593) -/

theorem State.get_dropAll (s : State) {g : Field} (hkept : keyKept g.key = true := by decide) :
    s.dropAll.get g = s.get g := by
  have hfind : sparseFind g.key s.dropAll.regs = sparseFind g.key s.regs :=
    (sparseFind_filter keyKept g.key s.regs).trans (if_pos hkept)
  rw [State.get, hfind, State.get]

/-- R581: what a cold start does before the image in force is loaded. -/
def State.coldBegun (s : State) (sa : Nat) : State :=
  let s := s.dropAll
  let s := { s with bt := { s.bt with hold := true } }
  let s := (s.set SB_ADDR.ADDR (0x58 + sa % 8)).addHold SY_COLDSTARTS.COUNT 1
  { s with mn := { s.mn with pins := 64, slots := s.mn.slots.map unpinned } }

/-- R584, R585: what it does from there to its last step. -/
def State.coldLoaded (s : State) (validA validB : Bool) (r : PackReading) : State :=
  (((s.loadParams validA validB).loadDerived).loadCap).restartGauge r

theorem coldStart_eq {s : State} (hoff : s.power = 0) (sa : Nat) (validA validB : Bool) (r : PackReading) :
    coldStart sa validA validB r s = ((s.coldBegun sa).coldLoaded validA validB r).settle := if_pos hoff

theorem State.coreUp_coldBegun (s : State) (sa : Nat) : (s.coldBegun sa).coreUp = false := (rfl)

theorem State.copies_coldBegun (s : State) (sa : Nat) : (s.coldBegun sa).se.copies = s.se.copies := by
  have hlife : s.stopLife.se = s.se := by
    unfold State.stopLife
    split <;> rfl
  have hcopies : s.stopLife.se.copies = s.se.copies := congrArg Security.copies hlife
  exact hcopies

theorem State.get_coldBegun (s : State) (sa : Nat) {g : Field} (hkept : keyKept g.key = true := by decide)
    (haddr : g.key ≠ SB_ADDR.ADDR.key := by decide) (hcount : g.key ≠ SY_COLDSTARTS.COUNT.key := by decide) :
    (s.coldBegun sa).get g = s.get g := by
  refine Eq.trans ?_ (s.get_dropAll hkept)
  exact (State.get_set_ne _ _ hcount).trans (State.get_set_ne _ _ haddr)

theorem State.coldAddress_coldBegun (s : State) (sa : Nat) : (s.coldBegun sa).get SB_ADDR.ADDR = 0x58 + sa % 8 := by
  refine (State.get_set_ne _ (f := SY_COLDSTARTS.COUNT) _ (by decide)).trans ?_
  rw [State.get_set_same]
  simp only [SB_ADDR.ADDR]
  omega

theorem State.coldStarts_coldBegun (s : State) (sa : Nat) :
    (s.coldBegun sa).get SY_COLDSTARTS.COUNT = min (s.get SY_COLDSTARTS.COUNT + 1) (2 ^ 24 - 1) := by
  refine (State.get_set_same _ _ _).trans ?_
  rw [State.get_set_ne (f := SB_ADDR.ADDR) _ _ (by decide)]
  have hcount : ({ s.dropAll with bt := { s.dropAll.bt with hold := true } } : State).get SY_COLDSTARTS.COUNT =
      s.get SY_COLDSTARTS.COUNT := s.get_dropAll
  rw [hcount]
  simp only [SY_COLDSTARTS.COUNT]
  omega

section
variable {s : State} (hdown : s.coreUp = false) (validA validB : Bool) (r : PackReading)
include hdown

theorem State.coldLoaded_kept : ColdKept (s.loadParams validA validB) (s.coldLoaded validA validB r) := by
  unfold State.coldLoaded
  exact .coldGauge (.coldCap (State.loadDerived_kept ((s.coreUp_loadParams validA validB).trans hdown)))

theorem State.coreUp_coldLoaded : (s.coldLoaded validA validB r).coreUp = false :=
  ((State.coldLoaded_kept hdown validA validB r).view.trans (s.coreUp_loadParams validA validB)).trans hdown

/-- R584: with no written copy the load changes nothing but what shows the image. -/
theorem State.get_coldLoaded (ha : s.se.copies.getD 0 none = none) (hb : s.se.copies.getD 1 none = none) {g : Field}
    (hkept : settingsBeside g.off g.lo = true := by decide) (hlo : g.lo < 32 := by decide)
    (hsrc : g.key ≠ SY_STARTINFO.PSRC.key := by decide) (hseq : g.key ≠ SY_PARAMSEQ.SEQ.key := by decide)
    (hn : g.key ≠ SY_PARAMRECS.N.key := by decide) : (s.coldLoaded validA validB r).get g = s.get g := by
  rw [(State.coldLoaded_kept hdown validA validB r).get g hlo hkept, State.loadParams_unwritten ha hb,
    State.get_set_ne _ _ hn, State.get_set_ne _ _ hseq, State.get_set_ne _ _ hsrc, State.get_setSe]

theorem State.imageSource_coldLoaded (ha : s.se.copies.getD 0 none = none) (hb : s.se.copies.getD 1 none = none) :
    (s.coldLoaded validA validB r).get SY_STARTINFO.PSRC = 0 := by
  rw [(State.coldLoaded_kept hdown validA validB r).get SY_STARTINFO.PSRC (by decide) (by decide),
    State.loadParams_unwritten ha hb, State.get_set_ne _ _ (by decide), State.get_set_ne _ _ (by decide),
    State.get_set_same]
  rfl

end

/-- R565, R581 to R584: a cold start from OFF. -/
theorem coldStart_results {s : State} (hoff : s.power = 0) (sa : Nat) (validA validB : Bool) (r : PackReading) :
    let t := coldStart sa validA validB r s
    t.coreUp = false ∧ t.power = (if t.get PW_LATCH.CAUSE = 0 then dormant else latched) ∧
      (s.se.copies.getD 0 none = none → s.se.copies.getD 1 none = none →
        t.get SB_ADDR.ADDR = 0x58 + sa % 8 ∧ t.get SY_STARTINFO.PSRC = 0 ∧
          t.get PW_LATCH.CAUSE = s.get PW_LATCH.CAUSE ∧
          t.get SY_COLDSTARTS.COUNT = min (s.get SY_COLDSTARTS.COUNT + 1) (2 ^ 24 - 1)) := by
  intro t
  have ht : t = ((s.coldBegun sa).coldLoaded validA validB r).settle := coldStart_eq hoff sa validA validB r
  have hdown := s.coreUp_coldBegun sa
  rw [ht]
  refine ⟨?_, State.power_settle _, fun ha hb => ?_⟩
  · exact (State.coreUp_settle _).trans (State.coreUp_coldLoaded hdown validA validB r)
  · rw [← s.copies_coldBegun sa] at ha hb
    refine ⟨?_, ?_, ?_, ?_⟩ <;> refine (State.get_settle _).trans ?_
    · exact (State.get_coldLoaded hdown validA validB r ha hb).trans (s.coldAddress_coldBegun sa)
    · exact State.imageSource_coldLoaded hdown validA validB r ha hb
    · exact (State.get_coldLoaded hdown validA validB r ha hb).trans (s.get_coldBegun sa)
    · exact (State.get_coldLoaded hdown validA validB r ha hb).trans (s.coldStarts_coldBegun sa)

end
end Sys2Proof.Machine

/-! ## The loss of VDD_AON (R194, R223, R583) -/

namespace Sys2Proof.Machine

set_option Elab.async false

open Reg Host

section
variable {s t : State}

/-! ### A torn copy of a record -/

/-- R194: the save record that a loss leaves: the older copy where it cut the write of the newer one short. -/
theorem State.record_tearRecord (s : State) :
    (s.sv.recordAt ≠ s.clock → s.tearRecord.sv.record = s.sv.record) ∧
      ∀ r, s.sv.recordAt = s.clock → s.sv.oldRecord = some r → s.tearRecord.sv.record = r := by
  unfold State.tearRecord
  constructor
  · intro hlate
    split
    · rw [if_neg hlate]
    · rfl
  · intro r hnow hold
    rw [hold]
    exact congrArg (fun u : State => u.sv.record) (if_pos hnow)

theorem State.tearRecord_kept (s : State) :
    s.tearRecord.regs = s.regs ∧ s.tearRecord.fl = s.fl ∧ s.tearRecord.clock = s.clock := by
  unfold State.tearRecord
  split
  · split <;> exact ⟨rfl, rfl, rfl⟩
  · exact ⟨rfl, rfl, rfl⟩

theorem State.tearRoot_kept (s : State) : s.tearRoot.regs = s.regs ∧ s.tearRoot.sv = s.sv := by
  unfold State.tearRoot
  split
  · split <;> exact ⟨rfl, rfl⟩
  · exact ⟨rfl, rfl⟩

theorem State.tearRoot_late (h : s.fl.rootAt ≠ s.clock) : s.tearRoot = s := if_neg h

/-- R223: the store is what the older copy of the root record names. -/
theorem State.tearRoot_named (h : s.fl.rootAt = s.clock) {r : Root} {v : StoreView} (hroot : s.fl.oldRoot = some r)
    (hstore : s.fl.oldStore = some v) :
    s.tearRoot = s.setFl { s.fl.withView v with root := some r, oldRoot := none, oldStore := none } := by
  rw [State.tearRoot, if_pos h, hroot, hstore]

theorem State.tearRoot_none (h : s.fl.rootAt = s.clock) (hroot : s.fl.oldRoot = none) :
    s.tearRoot = s.setFl { s.fl with root := none } := by
  rw [State.tearRoot, if_pos h, hroot]

/-! ### What the loss leaves of the records -/

/-- The places below the monitors and those of the cold starts. -/
def lossBeside (off _ : Nat) : Bool := decide (off < 0x8000)

abbrev LossKept (s t : State) : Prop := Stands lossBeside (fun u => (u.sv, u.fl)) s t

theorem Stands.lossFault (h : LossKept s t) : LossKept s t.tearFault := by
  unfold State.tearFault
  split
  · exact h
  · exact .set (.congr h)

theorem Stands.lossOtp {n v : Nat} (h : LossKept s t) : LossKept s (t.setOtpState n v) := by
  refine .set h (decide_eq_false ?_) ?_
  · simp only [SE_SLOTST.ST]
    omega
  · simp only [SE_SLOTST.ST]
    decide

theorem Stands.lossSeal (h : LossKept s t) : LossKept s t.seTear := by
  unfold State.seTear
  split
  · exact h
  · next j _ _ =>
    have hdraw : LossKept s (if t.seBurns j then t.draw else (0, t)).2 := by
      split
      · exact .congr h
      · exact h
    generalize (if t.seBurns j then t.draw else (0, t)) = p at hdraw ⊢
    obtain ⟨v, u⟩ := p
    dsimp only
    split
    · exact .ite (.congr (.lossOtp hdraw)) hdraw
    · exact hdraw

theorem State.stopLife_kept (s : State) : s.stopLife.fl.root = s.fl.root ∧ s.stopLife.fl.uses = s.fl.uses ∧
    s.stopLife.fl.base = s.fl.base ∧ s.stopLife.fl.journal = s.fl.journal := by
  unfold State.stopLife
  split <;> exact ⟨rfl, rfl, rfl, rfl⟩

/-- R583, R586, R593: the loss ends in OFF and keeps what MRAM and NAND hold. -/
theorem State.lossEnd (s : State) : let t := (s.tearFault.seTear).dropAll.set PW_STATE.STATE 0
    t.sv.record = s.sv.record ∧ t.fl.root = s.fl.root ∧ t.fl.uses = s.fl.uses ∧ t.fl.base = s.fl.base ∧
      t.fl.journal = s.fl.journal ∧ t.power = 0 ∧ t.coreUp = false ∧ t.running = false ∧
      t.get PW_LATCH.CAUSE = s.get PW_LATCH.CAUSE ∧ t.get SY_COLDSTARTS.COUNT = s.get SY_COLDSTARTS.COUNT := by
  intro t
  have hkept : LossKept s (s.tearFault.seTear) := .lossSeal (.lossFault (.refl s))
  obtain ⟨hsv, hfl⟩ := Prod.mk.inj hkept.view
  have hrecord : s.tearFault.seTear.sv.record = s.sv.record := congrArg SaveUnit.record hsv
  obtain ⟨hroot, huses, hbase, hjournal⟩ := (s.tearFault.seTear).stopLife_kept
  rw [hfl] at hroot huses hbase hjournal
  refine ⟨?_, hroot, huses, hbase, hjournal, State.get_set_same _ _ _, rfl, rfl, ?_, ?_⟩
  · exact hrecord
  · exact ((State.get_set_ne _ _ (by decide)).trans (State.get_dropAll _)).trans (hkept.get _ (by decide) (by decide))
  · exact ((State.get_set_ne _ _ (by decide)).trans (State.get_dropAll _)).trans (hkept.get _ (by decide) (by decide))

/-- R194: what the cut write of the save record leaves. -/
theorem State.saveTorn_results (s : State) (torn : Bool) :
    let t := s.when torn (·.tearRecord)
    t.regs = s.regs ∧ t.fl = s.fl ∧ t.clock = s.clock ∧
      (torn = false ∨ s.sv.recordAt ≠ s.clock → t.sv.record = s.sv.record) ∧
      ∀ r, torn = true → s.sv.recordAt = s.clock → s.sv.oldRecord = some r → t.sv.record = r := by
  intro t
  cases torn with
  | false => exact ⟨rfl, rfl, rfl, fun _ => rfl, nofun⟩
  | true =>
      obtain ⟨hregs, hfl, hclock⟩ := s.tearRecord_kept
      obtain ⟨hlate, hold⟩ := s.record_tearRecord
      exact ⟨hregs, hfl, hclock, fun h => hlate (h.resolve_left nofun), fun r _ => hold r⟩

/-- R223: what the cut write of the root record leaves. -/
theorem State.rootTorn_results (s : State) (torn : Bool) :
    let t := s.when torn (·.tearRoot)
    t.regs = s.regs ∧ t.sv = s.sv ∧ (torn = false ∨ s.fl.rootAt ≠ s.clock → t.fl.root = s.fl.root) ∧
      (∀ r v, torn = true → s.fl.rootAt = s.clock → s.fl.oldRoot = some r → s.fl.oldStore = some v →
        t.fl.root = some r ∧ t.fl.uses = v.uses ∧ t.fl.base = v.base ∧ t.fl.journal = v.journal) ∧
      (torn = true → s.fl.rootAt = s.clock → s.fl.oldRoot = none → t.fl.root = none) := by
  intro t
  cases torn with
  | false => exact ⟨rfl, rfl, fun _ => rfl, nofun, nofun⟩
  | true =>
      obtain ⟨hregs, hsv⟩ := s.tearRoot_kept
      refine ⟨hregs, hsv, fun h => ?_, fun r v _ hnow hroot hstore => ?_, fun _ hnow hroot => ?_⟩
      · exact congrArg (fun u : State => u.fl.root) (State.tearRoot_late (h.resolve_left nofun))
      · have hfl := congrArg State.fl (State.tearRoot_named hnow hroot hstore)
        exact ⟨congrArg Flash.root hfl, congrArg Flash.uses hfl, congrArg Flash.base hfl, congrArg Flash.journal hfl⟩
      · exact congrArg (fun u : State => u.fl.root) (State.tearRoot_none hnow hroot)

/-- Settles O59: the cold start of `coldStart_results`; the tears touch the save record and the root only, and what
follows them keeps every record. -/
theorem startUpResults : Obligations.StartUpResults := by
  intro s
  refine ⟨fun sa validA validB r hoff => ⟨_, rfl, coldStart_results hoff sa validA validB r⟩,
    fun saveTorn rootTorn => ⟨_, rfl, ?_⟩⟩
  obtain ⟨hsaveRegs, hfl, hclock, hsave, holdSave⟩ := s.saveTorn_results saveTorn
  obtain ⟨hrootRegs, hsv, hroot, holdRoot, hnoRoot⟩ := (s.when saveTorn (·.tearRecord)).rootTorn_results rootTorn
  rw [hfl, hclock] at hroot holdRoot hnoRoot
  obtain ⟨hrecord, hrootEnd, huses, hbase, hjournal, hoff, hdown, hstopped, hcause, hcount⟩ :=
    ((s.when saveTorn (·.tearRecord)).when rootTorn (·.tearRoot)).lossEnd
  rw [hsv] at hrecord
  have hget (g : Field) : ((s.when saveTorn (·.tearRecord)).when rootTorn (·.tearRoot)).get g = s.get g := by
    rw [State.get, hrootRegs, hsaveRegs, State.get]
  refine ⟨fun h => hrecord.trans (hsave h), fun r htorn hnow hold => hrecord.trans (holdSave r htorn hnow hold),
    fun h => hrootEnd.trans (hroot h), fun r v htorn hnow hold hstore => ?_,
    fun htorn hnow hold => hrootEnd.trans (hnoRoot htorn hnow hold), hoff, hdown, hstopped,
    hcause.trans (hget _), hcount.trans (hget _)⟩
  obtain ⟨hr, hu, hb, hj⟩ := holdRoot r v htorn hnow hold hstore
  exact ⟨hrootEnd.trans hr, huses.trans hu, hbase.trans hb, hjournal.trans hj⟩

end
end Sys2Proof.Machine

/-! ## What a stop sequence leaves alone (R242, R252) -/

namespace Sys2Proof.Machine

set_option Elab.async false

open Reg Host

/-- The place of BT_STATUS.VINOK. -/
def vinokPlace (off lo : Nat) : Bool := decide (off = 0x9000) && decide (lo = 3)

/-- Pavane, the save record, the two commit records and the save set. -/
def saveView (s : State) : Option Pavane × SaveRecord × List (Option Commit) × List Nat × Sparse Byte :=
  (s.sv.pavane, s.sv.record, s.fl.commits, s.fl.saveIndex, s.fl.saveCells)

/-- What Pavane holds and has written, and the start sequence that runs. -/
def stopView (s : State) : (Option Pavane × SaveRecord × List (Option Commit) × List Nat × Sparse Byte) × Bool × Nat :=
  (saveView s, s.pw.wake, s.pw.seq)

/-- From `s` to `t` Pavane stands, what it has written, the start sequence, and VINOK. -/
abbrev StopKept (s t : State) : Prop := Stands vinokPlace stopView s t

theorem vinokPlace_eq_false {off lo : Nat} (h : off ≠ 0x9000 ∨ lo ≠ 3) : vinokPlace off lo = false := by
  simp only [vinokPlace, Bool.and_eq_false_iff, decide_eq_false_iff_not]
  exact h

theorem vinokPlace_off {off lo : Nat} (h : vinokPlace off lo = true) : off = 0x9000 := by
  simp only [vinokPlace, Bool.and_eq_true, decide_eq_true_eq] at h
  exact h.1

theorem SameUnits.stopView {s t : State} (h : SameUnits s t) : stopView t = stopView s := by
  rw [Machine.stopView, saveView, h.sv, h.fl, h.pw, Machine.stopView, saveView]

section
variable {s t : State}

/-! ### Events, completions and thresholds -/

theorem Stands.stopTable {base n lo width reset v : Nat} (h : StopKept s t)
    (hbase : base + n ≠ 0x9000 ∨ lo ≠ 3) (hlo : lo < 32 := by decide) :
    StopKept s (t.set ⟨base + n, lo, width, reset⟩ v) := .set h (vinokPlace_eq_false hbase) hlo

theorem Stands.stopRaise {code w5 w6 w7 : Nat} (h : StopKept s t) : StopKept s (t.raise code w5 w6 w7) := by
  refine .raise h (fun g hlo hg => ?_) (SameUnits.raise t code w5 w6 w7).stopView
  have hoff := vinokPlace_off hg
  exact not_eventField hlo (by omega) (by omega) (by omega)

theorem Stands.stopPost {c : OpRef} {status result : Nat} (h : StopKept s t) : StopKept s (t.post c status result) := by
  refine h.trans ⟨fun g hlo hg => ?_, ?_⟩
  · have hoff := vinokPlace_off hg
    exact t.get_post c status result (not_postField hlo (by omega))
  · exact State.post_same (view := stopView) (fun _ _ _ => rfl) (fun _ _ _ => rfl) (fun _ _ _ => rfl)
      (fun _ _ _ => rfl) t c status result

theorem Stands.stopPostAll {l : List (OpRef × Nat × Nat)} (h : StopKept s t) : StopKept s (t.postAll l) :=
  .foldl h fun _ _ h => .stopPost h

theorem Stands.stopRetune {n : Nat} (h : StopKept s t) : StopKept s (t.retune n) :=
  .stopTable (.stopTable h (by omega)) (by omega)

/-! ### Rails -/

theorem Stands.stopSetRail {k : Nat} {x : Rail} (h : StopKept s t) : StopKept s (t.setRail k x) := .congr h

theorem Stands.stopWantRail {k : Nat} {b : Bool} (h : StopKept s t) : StopKept s (t.wantRail k b) := .stopSetRail h

theorem Stands.stopRailState {k st : Nat} (h : StopKept s t) : StopKept s (t.setRailState k st) :=
  .stopTable h (by omega)

theorem Stands.stopMarginBack {m step : Nat} (h : StopKept s t) : StopKept s (t.marginBack m step) :=
  .stopTable (.withPw (.stopSetRail h)) (.inr (by decide))

theorem Stands.stopMargins (h : StopKept s t) : StopKept s t.marginsNominal :=
  .stopPostAll (.foldl (.congr h) fun _ _ h => .ite h (.stopMarginBack h))

/-! ### What a rail takes with it (R311, R393, R593) -/

theorem Stands.stopGate {which : Nat} {before after : Bool} (h : StopKept s t) :
    StopKept s (t.gateEvent which before after) := .ite h (.stopRaise h)

theorem Stands.stopQuality {q : Nat} (h : StopKept s t) : StopKept s (t.setQuality q) :=
  .ite h (.stopGate (.stopGate (.stopRaise (.set (.set h)))))

theorem Stands.stopSource {new : Nat} (h : StopKept s t) : StopKept s (t.selectSource new) := by
  have hraised {v w : Nat} {x : TimeUnit} {w5 w6 w7 : Nat} : StopKept s
      (({ (t.set TM_STATUS.SRC v).set TM_CLASS.CLASS w with tm := x } : State).raise 0x501 w5 w6 w7) :=
    .stopRaise (.withTm (.set (.set h)))
  exact .ite h (.ite (.stopQuality hraised) hraised)

theorem Stands.stopSources (h : StopKept s t) : StopKept s t.dropSources := .stopSource (.withTm (.set h))

theorem Stands.stopUart {p : Nat} (h : StopKept s t) : StopKept s (t.uaStop p) := by
  have hcount {u : State} (hu : StopKept s u) : StopKept s (u.uaCount p) := .setPort (.stopTable hu (by omega))
  exact .setPort (hcount (.stopTable (.stopTable h (by omega)) (by omega)))

theorem Stands.stopUarts (h : StopKept s t) : StopKept s t.uaStopAll := .foldl h fun _ _ h => .stopUart h

theorem Stands.stopClock (h : StopKept s t) : StopKept s t.correctClock := .congr h

theorem Stands.stopXtal (h : StopKept s t) : StopKept s t.showXtal := .ite (.stopClock (.set h)) h

theorem Stands.stopOtp {n v : Nat} (h : StopKept s t) : StopKept s (t.setOtpState n v) := .stopTable h (by omega)

theorem Stands.stopBurn {slot : Nat} {key : List Nat} (h : StopKept s t) : StopKept s (t.burnOwner slot key) :=
  .setSe (.stopOtp (.foldl h fun _ _ h => .stopTable h (by omega)))

theorem Stands.stopRevoke {slot : Nat} (h : StopKept s t) : StopKept s (t.burnRevoke slot) := by
  unfold State.burnRevoke
  exact .when (.stopOtp (.stopOtp h)) (.set (.stopOtp (.stopOtp h)))

theorem Stands.stopOwner {ref : OpRef} {action off : Nat} (h : StopKept s t) :
    StopKept s (seOwnerDone ref action off t) :=
  .ite (.ite (.stopPost (.stopRaise (.stopBurn h))) (.stopPost (.stopRaise (.stopRevoke h)))) (.stopPost h)

/-! ### The core domain, and a rail that stops (R242, R593) -/

theorem Stands.stopLife (h : StopKept s t) : StopKept s t.stopLife := by
  unfold State.stopLife
  exact .ite (.congr h) h

/-- R542: only an owner's burn goes on. -/
theorem State.finish_of_burns {j : SeJob} (hburns : s.seBurns j = true) :
    ∃ ref action off, ∀ u, j.finish u = seOwnerDone ref action off u := by
  unfold State.seBurns at hburns
  split at hburns
  · next action off hwork => exact ⟨j.ref, action, off, fun u => by rw [SeJob.finish, hwork]⟩
  · cases hburns

theorem Stands.stopEndBurn (h : StopKept s t) : StopKept s t.endBurn := by
  unfold State.endBurn
  split
  · exact h
  · next j _ _ =>
    cases hburns : t.seBurns j with
    | false => exact h
    | true =>
        obtain ⟨ref, action, off, hfinish⟩ := State.finish_of_burns hburns
        have hdrawn : StopKept s (if true && t.sv.pavane.isNone then t.draw else (boolNat true, t)).2 := by
          split
          · exact .congr h
          · exact h
        generalize (if true && t.sv.pavane.isNone then t.draw else (boolNat true, t)) = p at hdrawn ⊢
        obtain ⟨v, u⟩ := p
        dsimp only
        rw [hfinish]
        exact .ite (.stopOwner hdrawn) hdrawn

theorem Stands.stopDropCore (h : StopKept s t) : StopKept s t.dropCore := by
  refine h.trans ⟨fun g hlo hg => ?_, rfl⟩
  have hoff := vinokPlace_off hg
  have houtlasts : keyOutlasts g.key = true := by
    have hslot : g.key / 32 = 0x9000 := by
      simp only [Field.key]
      omega
    rw [keyOutlasts, hslot]
    rfl
  have hfind : sparseFind g.key t.dropCore.regs = sparseFind g.key t.regs :=
    (sparseFind_filter keyOutlasts g.key t.regs).trans (if_pos houtlasts)
  rw [State.get, hfind, State.get]

theorem Stands.stopSteward (h : StopKept s t) : StopKept s t.stewardAlone := .when h (.set h)

theorem Stands.stopCore (h : StopKept s t) : StopKept s t.coreStop :=
  .ite (.stopWantRail (.stopWantRail (.stopRetune (.stopRetune (.stopSteward (.stopDropCore
    (.stopEndBurn (.congr (.stopLife h)))))))))  h

theorem Stands.stopRelease {k : Nat} (h : StopKept s t) : StopKept s (t.releaseRail k) := by
  have hreleased {n st : Nat} {x : Rail} : StopKept s
      ((((t.setMaskBit PW_ON.EN k false).setRailState k st).setRail k x).retune n) :=
    .stopRetune (.stopSetRail (.stopRailState (.set h)))
  have htime {u : State} {b : Bool} (hu : StopKept s u) : StopKept s (u.when b fun s => s.dropSources.uaStopAll) :=
    .when hu (.stopUarts (.stopSources hu))
  have hxtal {u : State} {b : Bool} (hu : StopKept s u) : StopKept s (u.when b (·.showXtal)) := .when hu (.stopXtal hu)
  exact .when (hxtal (htime hreleased)) (.stopCore (hxtal (htime hreleased)))

/-! ### A stop sequence that begins -/

theorem Stands.stopEnd {goal : StopTo} (hgoal : goal = .saved ∨ goal = .abort) (h : StopKept s t) :
    StopKept s (t.endStop goal) := by
  rcases hgoal with rfl | rfl
  · exact .withPw h
  · exact .withPw h

/-- R242: where no rail has collapsed at most one rail is released at once. -/
theorem Stands.stopFirst {goal : StopTo} (hgoal : goal = .saved ∨ goal = .abort) {l : List Nat} (h : StopKept s t) :
    StopKept s (stopNext goal [] l t) := by
  cases l with
  | nil =>
      unfold stopNext
      split
      · exact .withPw h
      · exact .stopEnd hgoal h
  | cons k l => exact .ite (.withPw h) (.withPw (.stopRelease h))

/-- The start sequence has ended, and what else a stop leaves alone stands. -/
structure SequenceEnded (s t : State) : Prop where
  wake : t.pw.wake = false
  seq : t.pw.seq = 0
  vinok : t.flag BT_STATUS.VINOK = s.flag BT_STATUS.VINOK
  save : saveView t = saveView s

theorem Stands.vinok (h : StopKept s t) : t.flag BT_STATUS.VINOK = s.flag BT_STATUS.VINOK := by
  rw [State.flag, h.get _ (by decide) (by decide), State.flag]

theorem SequenceEnded.kept {u : State} (h : SequenceEnded s t) (hkept : StopKept t u) : SequenceEnded s u := by
  obtain ⟨hsave, hpw⟩ := Prod.mk.inj hkept.view
  obtain ⟨hwake, hseq⟩ := Prod.mk.inj hpw
  exact ⟨hwake.trans h.wake, hseq.trans h.seq, hkept.vinok.trans h.vinok, hsave.trans h.save⟩

theorem Stands.sequenceEnded (h : StopKept s t) : SequenceEnded s
    (({ t with pw := { t.pw with seq := 0, wake := false } } : State).setFlag PW_STATUS.SEQ false) :=
  ⟨rfl, rfl, (State.flag_set_ne (by decide)).trans h.vinok, (Prod.mk.inj h.view).1⟩

/-- R241, R589: the start sequence ends. -/
theorem State.endSequence_ended (s : State) : SequenceEnded s s.endSequence :=
  Stands.sequenceEnded (.foldl (.refl s) fun _ _ h => .ite (.stopWantRail (.stopRailState h)) h)

/-- R242, R589: a stop for a save, or one that cuts a wake short, begins. -/
theorem State.beginStop_ended (s : State) {goal : StopTo} (hgoal : goal = .saved ∨ goal = .abort) (among : Nat → Bool) :
    SequenceEnded s (s.beginStop goal among) := by
  have hmargins : StopKept s.endSequence (s.endSequence.when (s.power == maint) (·.marginsNominal)) :=
    .when (.refl _) (.stopMargins (.refl _))
  exact s.endSequence_ended.kept (.stopFirst hgoal hmargins)

/-- R187: the rails that Pavane's step 8 brings down leave the save alone. -/
theorem State.saveView_pavaneDown (s : State) : saveView s.pavaneDown = saveView s := by
  unfold State.pavaneDown
  split
  · rfl
  · split
    · exact (s.beginStop_ended (.inl rfl) _).save
    · rfl

theorem State.saveView_pavaneTo (s : State) (p : Pavane) :
    saveView (s.pavaneTo p) = (some p, s.sv.record, s.fl.commits, s.fl.saveIndex, s.fl.saveCells) :=
  State.saveView_pavaneDown _

end
end Sys2Proof.Machine

/-! ## Arming and the warning (R178 to R184, R186, R206, R207) -/

namespace Sys2Proof.Machine

set_option Elab.async false

open Reg Host

/-- The places of the save unit's, the power unit's and the battery's registers. -/
def savePlace (off _ : Nat) : Bool := [5, 7, 9].contains (off / 0x1000)

/-- What the save unit and the power unit hold, and the time. -/
def saveUnits (s : State) : SaveUnit × Power × Bool × Nat × Nat := (s.sv, s.pw, s.coreUp, s.now, s.clock)

/-- From `s` to `t` the save unit and the power unit stand with their registers and the battery's. -/
abbrev SaveKept (s t : State) : Prop := Stands savePlace saveUnits s t

theorem savePlace_block {off lo : Nat} (h : savePlace off lo = true) :
    off / 0x1000 = 5 ∨ off / 0x1000 = 7 ∨ off / 0x1000 = 9 := by
  simpa [savePlace] using h

theorem SameUnits.saveUnits {s t : State} (h : SameUnits s t) : saveUnits t = saveUnits s := by
  rw [Machine.saveUnits, h.sv, h.pw, h.coreUp, h.now, h.clock, Machine.saveUnits]

section
variable {s t : State}

theorem Stands.saveRaise {code w5 w6 w7 : Nat} (h : SaveKept s t) : SaveKept s (t.raise code w5 w6 w7) := by
  refine .raise h (fun g hlo hg => ?_) (SameUnits.raise t code w5 w6 w7).saveUnits
  have hblock := savePlace_block hg
  exact not_eventField hlo (by omega) (by omega) (by omega)

theorem Stands.savePost {c : OpRef} {status result : Nat} (h : SaveKept s t) : SaveKept s (t.post c status result) := by
  refine h.trans ⟨fun g hlo hg => ?_, ?_⟩
  · have hblock := savePlace_block hg
    exact t.get_post c status result (not_postField hlo (by omega))
  · exact State.post_same (view := saveUnits) (fun _ _ _ => rfl) (fun _ _ _ => rfl) (fun _ _ _ => rfl)
      (fun _ _ _ => rfl) t c status result

theorem Stands.saveRetuneVin (h : SaveKept s t) : SaveKept s t.retuneVin := .set (.set (.set (.set h)))

theorem Stands.saveEraseStripe {k : Nat} (h : SaveKept s t) : SaveKept s (t.eraseStripe k) :=
  .set (.set (.withFl h))

theorem Stands.saveEraseFree {n : Nat} (h : SaveKept s t) : SaveKept s (State.eraseFree n t) := by
  induction n generalizing t with
  | zero => exact h
  | succ n ih =>
      unfold State.eraseFree
      split
      · exact ih (.withFl (.saveEraseStripe h))
      · exact h

theorem Stands.saveNotice {what : LkSpecial} (h : SaveKept s t) : SaveKept s (t.lkNotice what) :=
  .ite (.ite h (.congr h)) h

theorem Stands.saveFlag (h : SaveKept s t) {f : Field} (hplace : savePlace f.off f.lo = true := by decide)
    (hlo : f.lo < 32 := by decide) : t.flag f = s.flag f := by
  rw [State.flag, h.get f hlo hplace, State.flag]

theorem Stands.saveUnit (h : SaveKept s t) : t.sv = s.sv := (Prod.mk.inj h.view).1

theorem Stands.ioUp (h : SaveKept s t) : t.ioUp = s.ioUp := by
  rw [State.ioUp, State.maskBit, State.maskBit, h.get PW_ON.EN (by decide) (by decide),
    h.get PW_GOOD.RAIL (by decide) (by decide), State.ioUp, State.maskBit, State.maskBit]

theorem Stands.pfw (h : SaveKept s t) : t.pfw = s.pfw := by
  rw [State.pfw, h.saveUnit, h.ioUp, State.pfw]

theorem Stands.svState (h : SaveKept s t) : t.svState = s.svState := h.get SV_STATUS.STATE (by decide) (by decide)

theorem Stands.svStatus (h : SaveKept s t) : t.svStatus = s.svStatus := by
  rw [State.svStatus, h.get SV_STATUS.WIN (by decide) (by decide), h.get SV_STATUS.STAGED (by decide) (by decide),
    h.pfw, h.get SV_STATUS.IMAGE (by decide) (by decide), h.get SV_STATUS.ARMED (by decide) (by decide), h.svState,
    State.svStatus]

/-! ### ARM and DISARM (R178, R206, R207) -/

/-- R71: what the save's instructions are judged by stands as the device admits them. -/
theorem State.saveKept_admitted (s : State) {op : Op} (hring : op.ring < 16) (cost : Nat) :
    SaveKept s (s.admitted op cost) := by
  refine ⟨fun g hlo hg => ?_, ?_⟩
  · have hblock := savePlace_block hg
    exact s.get_admitted_of_off hring cost hlo (by omega)
  · exact State.admitted_same (view := saveUnits) (fun _ _ _ => rfl) (fun _ _ _ => rfl) (fun _ _ _ => rfl)
      (fun _ _ => rfl) s op cost

theorem Stands.powerIn (h : SaveKept s t) (l : List Nat) : t.powerIn l = s.powerIn l := by
  rw [State.powerIn, State.power, h.get PW_STATE.STATE (by decide) (by decide), State.powerIn, State.power]

theorem Stands.armLegal (h : SaveKept s t) (action : Nat) : t.armLegal action = s.armLegal action := by
  rw [State.armLegal, h.powerIn, h.svState, h.saveUnit, h.saveFlag (f := SV_STATUS.ARMED), State.armLegal]

theorem Unposted.raise {r code w5 w6 w7 : Nat} (h : Unposted r s t) : Unposted r s (t.raise code w5 w6 w7) :=
  h.kept (view := id) (.raise (.refl _))

theorem Unposted.when {r : Nat} {b : Bool} {f : State → State} (h : Unposted r s t) (hf : Unposted r s (f t)) :
    Unposted r s (t.when b f) := by
  cases b
  · exact h
  · exact hf

/-- The save's own instructions post SV_STATUS as it then reads. -/
theorem Unposted.statusPosted {r opcode : Nat} (h : Unposted r s t) (hopen : RingOpen s r) :
    SaveKept t (t.post (s.opRef r opcode) 0x01 t.svStatus) ∧
      Posted r opcode 0x01 (t.post (s.opRef r opcode) 0x01 t.svStatus).svStatus s
        (t.post (s.opRef r opcode) 0x01 t.svStatus) := by
  have hkept : SaveKept t (t.post (s.opRef r opcode) 0x01 t.svStatus) := .savePost (.refl t)
  refine ⟨hkept, ?_⟩
  rw [hkept.svStatus]
  exact h.posted hopen opcode 0x01 _

/-- R178, R186: the registers that ARM writes. -/
def State.armRegisters (s : State) (w grace : Nat) : State :=
  let s := (s.set SV_WARN.WARN w).set SV_ARMCFG.HYST (w / 2 ^ 16)
  let s := ((s.set SV_ARMCFG.LKPF (w / 2 ^ 15)).set SV_ARMCFG.GRACE grace).set SV_STATUS.ARMED 1
  s.when (s.svState == svDisarmed) (·.set SV_STATUS.STATE svArmed)

/-- R180, R178: the threshold of VM12 follows, and the change is told. -/
def State.armTold (s : State) : State :=
  s.retuneVin.raise 0x281 1 (s.retuneVin.get SV_WARN.WARN) (s.retuneVin.get SV_ARMCFG.GRACE)

theorem State.armSave_eq (s : State) (ref : OpRef) (w grace : Nat) :
    s.armSave ref w grace =
      (s.armRegisters w grace).armTold.post ref 0x01 (s.armRegisters w grace).armTold.svStatus := rfl

theorem State.armTold_kept (s : State) : SaveKept s s.armTold := .saveRaise (.saveRetuneVin (.refl s))

theorem State.get_when_set_ne (s : State) (b : Bool) {f g : Field} (v : Nat) (hne : g.key ≠ f.key) :
    (s.when b (·.set f v)).get g = s.get g := by
  cases b
  · rfl
  · exact State.get_set_ne s v hne

/-- The state moves on from the state that it is asked for. -/
theorem State.svState_when_set {a b : Nat} (hb : b < 8) (h : s.svState = a) :
    (s.when (s.svState == a) (·.set SV_STATUS.STATE b)).svState = b := by
  rw [beq_iff_eq.mpr h, State.when_true]
  exact (State.get_set_same _ _ _).trans (Nat.mod_eq_of_lt hb)

theorem State.svState_set {f : Field} {v : Nat} (hne : SV_STATUS.STATE.key ≠ f.key := by decide) :
    (s.set f v).svState = s.svState := State.get_set_ne s v hne

theorem State.armRegisters_results (s : State) (w : Nat) {grace : Nat} (hgrace : grace < 64) :
    let t := s.armRegisters w grace
    t.flag SV_STATUS.ARMED = true ∧ t.get SV_WARN.WARN = w % 2 ^ 11 ∧ t.get SV_ARMCFG.HYST = bitsOf w 16 4 ∧
      t.get SV_ARMCFG.GRACE = grace ∧ (s.svState = svDisarmed → t.svState = svArmed) := by
  unfold State.armRegisters
  refine ⟨?_, ?_, ?_, ?_, fun hdisarmed => State.svState_when_set (by decide) ?_⟩
  · rw [State.flag, State.get_when_set_ne _ _ _ (by decide), State.get_set_same]
    rfl
  · rw [State.get_when_set_ne _ _ _ (by decide)]
    simp (disch := decide) only [State.get_set_ne, State.get_set_same]
    rfl
  · rw [State.get_when_set_ne _ _ _ (by decide)]
    simp (disch := decide) only [State.get_set_ne, State.get_set_same]
    rfl
  · rw [State.get_when_set_ne _ _ _ (by decide)]
    simp (disch := decide) only [State.get_set_ne, State.get_set_same]
    exact Nat.mod_eq_of_lt hgrace
  · rw [State.svState_set, State.svState_set, State.svState_set, State.svState_set, State.svState_set, hdisarmed]

theorem Unposted.armRegisters {r w grace : Nat} (h : Unposted r s t) : Unposted r s (t.armRegisters w grace) := by
  unfold State.armRegisters
  have harmed : Unposted r s
      (((((t.set SV_WARN.WARN w).set SV_ARMCFG.HYST (w / 2 ^ 16)).set SV_ARMCFG.LKPF (w / 2 ^ 15)).set SV_ARMCFG.GRACE
        grace).set SV_STATUS.ARMED 1) := .set (.set (.set (.set (.set h))))
  exact .when harmed (.set harmed)

theorem Unposted.armTold {r : Nat} (h : Unposted r s t) : Unposted r s t.armTold :=
  .raise (.set (.set (.set (.set h))))

/-- R178: the registers that DISARM writes. -/
def State.disarmRegisters (s : State) : State :=
  let s := s.set SV_STATUS.ARMED 0
  s.when (s.svState == svArmed) (·.set SV_STATUS.STATE svDisarmed)

def State.disarmTold (s : State) : State := s.raise 0x281 0 (s.get SV_WARN.WARN) (s.get SV_ARMCFG.GRACE)

theorem State.disarmSave_eq (s : State) (ref : OpRef) :
    s.disarmSave ref = s.disarmRegisters.disarmTold.post ref 0x01 s.disarmRegisters.disarmTold.svStatus := rfl

theorem State.disarmRegisters_results (s : State) :
    s.disarmRegisters.flag SV_STATUS.ARMED = false ∧
      (s.svState = svArmed → s.disarmRegisters.svState = svDisarmed) := by
  unfold State.disarmRegisters
  refine ⟨?_, fun harmed => State.svState_when_set (by decide) ?_⟩
  · rw [State.flag, State.get_when_set_ne _ _ _ (by decide), State.get_set_same]
    rfl
  · rw [State.svState_set, harmed]

theorem Unposted.disarmTold {r : Nat} (h : Unposted r s t) : Unposted r s t.disarmRegisters.disarmTold := by
  unfold State.disarmTold State.disarmRegisters
  exact .raise (.when (.set h) (.set (.set h)))

section
variable {op : Op} (hring : op.ring < 16) (hopen : RingOpen s op.ring)
include hring hopen

/-- R108, R207: an ARM with every operand in order comes to its action. -/
theorem arm_eq (hext : op.ext.length = 1) (hreserved : armReserved op = true) (hlegal : s.armLegal op.dst = true)
    (hrange : armRange op = true) : arm op s =
      if op.dst = 1 then (s.admitted op (unitCost 0x17)).armSave (s.opRef op.ring 0x17) (op.word 1) op.imm9
      else (s.admitted op (unitCost 0x17)).disarmSave (s.opRef op.ring 0x17) := by
  rw [arm, hopen.issue_eq, (s.saveKept_admitted hring _).armLegal, hlegal, hreserved, hrange, hext]
  exact State.judge_ok ..

/-- R178, R186, R206, R207: ARM. -/
theorem arm_results (hdst : op.dst = 1) (hext : op.ext.length = 1) (hreserved : armReserved op = true)
    (hlegal : s.armLegal op.dst = true) (hrange : armRange op = true) :
    let t := arm op s
    t.flag SV_STATUS.ARMED = true ∧ t.get SV_WARN.WARN = op.word 1 % 2 ^ 11 ∧
      t.get SV_ARMCFG.HYST = bitsOf (op.word 1) 16 4 ∧ t.get SV_ARMCFG.GRACE = op.imm9 ∧
      (s.svState = svDisarmed → t.svState = svArmed) ∧ Posted op.ring 0x17 0x01 t.svStatus s t := by
  have hgrace : op.imm9 < 64 := by
    simp only [armRange, hdst, Bool.and_eq_true, decide_eq_true_eq] at hrange
    omega
  have hstart : (s.admitted op (unitCost 0x17)).svState = s.svState := (s.saveKept_admitted hring _).svState
  obtain ⟨harmed, hwarn, hhyst, hgraceAt, hstate⟩ :=
    (s.admitted op (unitCost 0x17)).armRegisters_results (op.word 1) hgrace
  rw [hstart] at hstate
  obtain ⟨hpostKept, hposted⟩ := (Unposted.admitted hopen (unitCost 0x17)).armRegisters (w := op.word 1)
    (grace := op.imm9) |>.armTold.statusPosted (opcode := 0x17) hopen
  have hkept := ((s.admitted op (unitCost 0x17)).armRegisters (op.word 1) op.imm9).armTold_kept.trans hpostKept
  rw [arm_eq hring hopen hext hreserved hlegal hrange, if_pos hdst, State.armSave_eq]
  exact ⟨hkept.saveFlag.trans harmed, (hkept.get _ (by decide) (by decide)).trans hwarn,
    (hkept.get _ (by decide) (by decide)).trans hhyst, (hkept.get _ (by decide) (by decide)).trans hgraceAt,
    fun h => hkept.svState.trans (hstate h), hposted⟩

/-- R178, R206, R207: DISARM. -/
theorem disarm_results (hdst : op.dst = 2) (hext : op.ext.length = 1) (hreserved : armReserved op = true)
    (hlegal : s.armLegal op.dst = true) :
    let t := arm op s
    t.flag SV_STATUS.ARMED = false ∧ (s.svState = svArmed → t.svState = svDisarmed) ∧
      Posted op.ring 0x17 0x01 t.svStatus s t := by
  have hrange : armRange op = true := by simp only [armRange, hdst]
  have hstart : (s.admitted op (unitCost 0x17)).svState = s.svState := (s.saveKept_admitted hring _).svState
  obtain ⟨harmed, hstate⟩ := (s.admitted op (unitCost 0x17)).disarmRegisters_results
  rw [hstart] at hstate
  obtain ⟨hpostKept, hposted⟩ :=
    (Unposted.admitted hopen (unitCost 0x17)).disarmTold.statusPosted (opcode := 0x17) hopen
  have htold : SaveKept (s.admitted op (unitCost 0x17)).disarmRegisters
      (s.admitted op (unitCost 0x17)).disarmRegisters.disarmTold := .saveRaise (.refl _)
  have hkept := htold.trans hpostKept
  rw [arm_eq hring hopen hext hreserved hlegal hrange, if_neg (by omega), State.disarmSave_eq]
  exact ⟨hkept.saveFlag.trans harmed, fun h => hkept.svState.trans (hstate h), hposted⟩

end

/-! ### The warning (R180, R181, R183, R184, R287, R589) -/

/-- R180, R287: the warning stands, and is told. -/
def State.warningTold (s : State) : State :=
  let s := s.setFlag BT_STATUS.VINOK false
  let armed := s.flag SV_STATUS.ARMED
  let s := { s with sv := { s.sv with warning := true, warnFrom := s.clock, noticed := false, erased := 0 } }
  s.raise 0x282 s.vin10 (s.get SH_UNSHAD.MIB) (boolNat armed)

/-- R181: the pre-save of an armed device. -/
def State.preSaveBegun (s : State) : State :=
  let s := s.when (s.svState == svArmed) (·.set SV_STATUS.STATE svWarning)
  let s := { s with sv := { s.sv with preSave := some s.clock, lifted := true } }
  s.preErase

/-- R589: VM12's LOW flag cuts a wake short. -/
theorem warningCondition_wake (hlow : s.channelFlag 12 = 1) (hwake : s.pw.wake = true) :
    warningCondition s = (s.setFlag BT_STATUS.VINOK false).abortWake := by
  rw [warningCondition, if_neg (by simp [hlow])]
  exact if_pos hwake

/-- R180, R181: VM12's LOW flag with no wake. -/
theorem warningCondition_eq (hlow : s.channelFlag 12 = 1) (hup : s.coreUp = true) (hwarning : s.sv.warning = false)
    (hpavane : s.sv.pavane = none) (hwake : s.pw.wake = false) :
    warningCondition s =
      if s.flag SV_STATUS.ARMED then
        let u := s.warningTold.preSaveBegun
        if u.get SV_ARMCFG.GRACE = 0 && u.savesItself then u.pavaneStart 3 none
        else u.when (u.flag SV_ARMCFG.LKPF) (·.lkNotice (.notice 1))
      else s.warningTold := by
  have harmed : (s.setFlag BT_STATUS.VINOK false).flag SV_STATUS.ARMED = s.flag SV_STATUS.ARMED :=
    State.flag_set_ne (by decide)
  have hwakes : ¬ (s.setFlag BT_STATUS.VINOK false).pw.wake = true := by
    rw [show (s.setFlag BT_STATUS.VINOK false).pw.wake = false from hwake]
    decide
  have hnew : ((s.setFlag BT_STATUS.VINOK false).coreUp && !(s.setFlag BT_STATUS.VINOK false).sv.warning &&
      (s.setFlag BT_STATUS.VINOK false).sv.pavane.isNone) = true := by
    rw [show (s.setFlag BT_STATUS.VINOK false).coreUp = true from hup,
      show (s.setFlag BT_STATUS.VINOK false).sv.warning = false from hwarning,
      show (s.setFlag BT_STATUS.VINOK false).sv.pavane = none from hpavane]
    rfl
  rw [← harmed, warningCondition, if_neg (by simp [hlow])]
  exact (if_neg hwakes).trans (if_pos hnew)

/-- The state in which the warning is told. -/
def State.warningSet (s : State) : State :=
  { s.setFlag BT_STATUS.VINOK false with
    sv := { s.sv with warning := true, warnFrom := s.clock, noticed := false, erased := 0 } }

theorem State.warningTold_kept (s : State) : SaveKept s.warningSet s.warningTold := .saveRaise (.refl _)

/-- The warning changes no register of the save unit or of the power unit, and of the battery's VINOK. -/
theorem State.get_warningTold (s : State) {g : Field} (hne : g.key ≠ BT_STATUS.VINOK.key := by decide)
    (hplace : savePlace g.off g.lo = true := by decide) (hlo : g.lo < 32 := by decide) :
    s.warningTold.get g = s.get g := by
  have hset : s.warningSet.get g = s.get g := State.get_set_ne s (boolNat false) hne
  exact (s.warningTold_kept.get g hlo hplace).trans hset

theorem State.saveUnits_warningTold (s : State) :
    saveUnits s.warningTold =
      ({ s.sv with warning := true, warnFrom := s.clock, noticed := false, erased := 0 }, s.pw, s.coreUp, s.now,
        s.clock) := s.warningTold_kept.view

theorem State.vinok_warningTold (s : State) : s.warningTold.flag BT_STATUS.VINOK = false :=
  s.warningTold_kept.saveFlag.trans (flag_set_boolNat s rfl false)

theorem State.ioUp_eq_of_get {s t : State} (hon : t.get PW_ON.EN = s.get PW_ON.EN)
    (hgood : t.get PW_GOOD.RAIL = s.get PW_GOOD.RAIL) : t.ioUp = s.ioUp := by
  rw [State.ioUp, State.maskBit, State.maskBit, hon, hgood, State.ioUp, State.maskBit, State.maskBit]

/-- R180, R185: PFW_n follows the IO rail as soon as the warning stands. -/
theorem State.pfw_warningTold (s : State) : s.warningTold.pfw = s.ioUp := by
  have hsv := (Prod.mk.inj s.saveUnits_warningTold).1
  rw [State.pfw, hsv, State.ioUp_eq_of_get s.get_warningTold s.get_warningTold]
  rfl

/-- The state after the first step of a pre-save. -/
def State.preSaveFrom (s : State) : State :=
  let s := s.when (s.svState == svArmed) (·.set SV_STATUS.STATE svWarning)
  { s with sv := { s.sv with preSave := some s.clock, lifted := true } }

/-- R181, R227: the erase of further stripes counts in SV's `erased` alone. -/
theorem State.preErase_eq (s : State) : ∃ u n, SaveKept s u ∧ s.preErase = { u with sv := { u.sv with erased := n } } :=
  ⟨_, _, .set (.saveEraseFree (.refl s)), rfl⟩

/-- A pre-save changes no register of the save unit but its state, and none of the power unit or the battery. -/
theorem State.get_preSaveBegun (s : State) {g : Field} (hne : g.key ≠ SV_STATUS.STATE.key := by decide)
    (hplace : savePlace g.off g.lo = true := by decide) (hlo : g.lo < 32 := by decide) :
    s.preSaveBegun.get g = s.get g := by
  obtain ⟨u, n, hkept, heq⟩ := s.preSaveFrom.preErase_eq
  have hbegun : s.preSaveBegun = { u with sv := { u.sv with erased := n } } := heq
  rw [hbegun]
  exact (hkept.get g hlo hplace).trans (State.get_when_set_ne s _ _ hne)

theorem State.saveUnits_preSaveFrom (s : State) :
    saveUnits s.preSaveFrom =
      ({ s.sv with preSave := some s.clock, lifted := true }, s.pw, s.coreUp, s.now, s.clock) := by
  unfold State.preSaveFrom
  cases s.svState == svArmed <;> rfl

theorem State.saveUnits_preSaveBegun (s : State) : ∃ n,
    saveUnits s.preSaveBegun =
      ({ s.sv with preSave := some s.clock, lifted := true, erased := n }, s.pw, s.coreUp, s.now, s.clock) := by
  obtain ⟨u, n, hkept, heq⟩ := s.preSaveFrom.preErase_eq
  have hbegun : s.preSaveBegun = { u with sv := { u.sv with erased := n } } := heq
  obtain ⟨hsv, hrest⟩ := Prod.mk.inj (hkept.view.trans s.saveUnits_preSaveFrom)
  refine ⟨n, ?_⟩
  rw [hbegun, ← hrest, saveUnits]
  exact congrArg (fun x : SaveUnit => ({ x with erased := n }, u.pw, u.coreUp, u.now, u.clock)) hsv

/-- R181: an armed device is in WARNING. -/
theorem State.svState_preSaveBegun (s : State) (harmed : s.svState = svArmed) : s.preSaveBegun.svState = svWarning := by
  obtain ⟨u, n, hkept, heq⟩ := s.preSaveFrom.preErase_eq
  have hbegun : s.preSaveBegun = { u with sv := { u.sv with erased := n } } := heq
  have hfrom : s.preSaveFrom.svState = svWarning := State.svState_when_set (by decide) harmed
  rw [hbegun]
  exact hkept.svState.trans hfrom

/-- R180, R184, R287: the warning of a disarmed device. -/
theorem warningCondition_disarmed (hlow : s.channelFlag 12 = 1) (hup : s.coreUp = true)
    (hwarning : s.sv.warning = false) (hpavane : s.sv.pavane = none) (hwake : s.pw.wake = false)
    (harmed : s.flag SV_STATUS.ARMED = false) :
    let t := warningCondition s
    t.sv.warning = true ∧ t.pfw = s.ioUp ∧ t.flag BT_STATUS.VINOK = false ∧ t.sv.preSave = s.sv.preSave ∧
      t.svState = s.svState := by
  have hsv := (Prod.mk.inj s.saveUnits_warningTold).1
  rw [warningCondition_eq hlow hup hwarning hpavane hwake, if_neg (by simp [harmed])]
  exact ⟨congrArg SaveUnit.warning hsv, s.pfw_warningTold, s.vinok_warningTold, by rw [hsv],
    s.get_warningTold⟩

/-- R180, R181, R287: the warning of an armed device with a grace window. -/
theorem warningCondition_armed (hlow : s.channelFlag 12 = 1) (hup : s.coreUp = true) (hwarning : s.sv.warning = false)
    (hpavane : s.sv.pavane = none) (hwake : s.pw.wake = false) (harmed : s.flag SV_STATUS.ARMED = true)
    (hgrace : s.get SV_ARMCFG.GRACE ≠ 0) :
    let t := warningCondition s
    t.sv.warning = true ∧ t.pfw = s.ioUp ∧ t.flag BT_STATUS.VINOK = false ∧ t.sv.preSave = some s.clock ∧
      (s.svState = svArmed → t.svState = svWarning) := by
  have hstays : s.warningTold.preSaveBegun.get SV_ARMCFG.GRACE ≠ 0 := by
    rwa [State.get_preSaveBegun, State.get_warningTold]
  rw [warningCondition_eq hlow hup hwarning hpavane hwake, if_pos harmed]
  dsimp only
  rw [if_neg (by simp [hstays])]
  have hkept : SaveKept s.warningTold.preSaveBegun (s.warningTold.preSaveBegun.when
      (s.warningTold.preSaveBegun.flag SV_ARMCFG.LKPF) (·.lkNotice (.notice 1))) :=
    .when (.refl _) (.saveNotice (.refl _))
  obtain ⟨htold, hunits⟩ := Prod.mk.inj s.saveUnits_warningTold
  have hclock : s.warningTold.clock = s.clock := by
    simp only [Prod.mk.injEq] at hunits
    exact hunits.2.2.2
  obtain ⟨n, hbegun⟩ := s.warningTold.saveUnits_preSaveBegun
  have hsv := hkept.saveUnit.trans (Prod.mk.inj hbegun).1
  rw [htold, hclock] at hsv
  refine ⟨congrArg SaveUnit.warning hsv, ?_, ?_, congrArg SaveUnit.preSave hsv, fun h => ?_⟩
  · rw [hkept.pfw, State.pfw, (Prod.mk.inj hbegun).1, htold, State.ioUp_eq_of_get (s := s)]
    · rfl
    · rw [State.get_preSaveBegun, State.get_warningTold]
    · rw [State.get_preSaveBegun, State.get_warningTold]
  · rw [hkept.saveFlag, State.flag, State.get_preSaveBegun]
    exact s.vinok_warningTold
  · exact hkept.svState.trans (State.svState_preSaveBegun _ (s.get_warningTold.trans h))

theorem State.vinok_queueFault (s : State) (code w5 w6 w7 : Nat) :
    (s.queueFault code w5 w6 w7).flag BT_STATUS.VINOK = s.flag BT_STATUS.VINOK := by
  unfold State.queueFault
  split
  · rfl
  · exact State.flag_set_ne (by decide)

/-- R589: the wake and its start sequence are over. -/
theorem State.abortWake_results (s : State) : s.abortWake.pw.wake = false ∧ s.abortWake.pw.seq = 0 ∧
    s.abortWake.flag BT_STATUS.VINOK = s.flag BT_STATUS.VINOK := by
  obtain ⟨hwake, hseq, hvinok, -⟩ := (s.queueFault 0x006 (s.get PW_GOOD.RAIL) s.vin10 s.power).beginStop_ended
    (.inr rfl) fun k => bitOf s.pw.seq k &&
      decide (s.pw.seqFrom ≤ ((s.queueFault 0x006 (s.get PW_GOOD.RAIL) s.vin10 s.power).rail k).t0)
  exact ⟨hwake, hseq, hvinok.trans (s.vinok_queueFault ..)⟩

/-! ### The withdrawal (R183, R184) -/

/-- R184: the warning no longer stands. -/
def State.warningLifted (s : State) : State :=
  ({ s with sv := { s.sv with warning := false } } : State).add SV_WITHDRAWALS.COUNT 1

/-- R184: the withdrawal is told. -/
def State.withdrawalTold (s : State) : State :=
  s.warningLifted.raise 0x283 (min ((s.clock - s.sv.warnFrom) / 100) 0xFFFFFF) s.sv.erased (boolNat s.sv.noticed)

/-- R183: the pre-save is over. -/
def State.preSaveEnded (s : State) : State :=
  let s := s.when (s.svState == svWarning) (·.set SV_STATUS.STATE svArmed)
  { s with sv := { s.sv with preSave := none, lifted := false, noticed := false, erased := 0 } }

theorem State.withdrawWarning_kept (s : State) : SaveKept s.withdrawalTold.preSaveEnded s.withdrawWarning :=
  .when (.congr (.refl _)) (.saveNotice (.congr (.refl _)))

theorem State.withdrawalTold_kept (s : State) : SaveKept s.warningLifted s.withdrawalTold := .saveRaise (.refl _)

theorem State.sv_preSaveEnded (s : State) :
    s.preSaveEnded.sv = { s.sv with preSave := none, lifted := false, noticed := false, erased := 0 } := by
  unfold State.preSaveEnded
  cases s.svState == svWarning <;> rfl

theorem State.withdrawWarning_results (s : State) :
    let t := s.withdrawWarning
    t.sv.warning = false ∧ t.pfw = false ∧ t.sv.preSave = none ∧ (s.svState = svWarning → t.svState = svArmed) ∧
      t.get SV_WITHDRAWALS.COUNT = (s.get SV_WITHDRAWALS.COUNT + 1) % 2 ^ 24 := by
  intro t
  have hsv : t.sv = { s.withdrawalTold.sv with preSave := none, lifted := false, noticed := false, erased := 0 } :=
    s.withdrawWarning_kept.saveUnit.trans s.withdrawalTold.sv_preSaveEnded
  have hwarning : t.sv.warning = false := by
    rw [hsv, s.withdrawalTold_kept.saveUnit]
    rfl
  refine ⟨hwarning, ?_, by rw [hsv], fun hstate => ?_, ?_⟩
  · rw [State.pfw, hwarning, Bool.false_and]
  · have hlifted : s.warningLifted.svState = s.svState := State.get_set_ne _ _ (by decide)
    have htold : s.withdrawalTold.svState = svWarning := (s.withdrawalTold_kept.svState.trans hlifted).trans hstate
    exact s.withdrawWarning_kept.svState.trans (State.svState_when_set (by decide) htold)
  · have hended : s.withdrawalTold.preSaveEnded.get SV_WITHDRAWALS.COUNT = s.withdrawalTold.get SV_WITHDRAWALS.COUNT :=
      State.get_when_set_ne _ _ _ (by decide)
    rw [s.withdrawWarning_kept.get _ (by decide) (by decide), hended,
      s.withdrawalTold_kept.get _ (by decide) (by decide)]
    exact State.get_set_same _ _ _

/-- Settles O38: ARM, DISARM, the warning, the wake that it cuts short and the withdrawal, each by its own lemma. -/
theorem armingResults : Obligations.ArmingResults := by
  intro s op hwf
  obtain ⟨hring, -⟩ := Op.lt_of_wf hwf
  refine ⟨?arm, ?disarm, ?warning, ?wake, ?withdrawal⟩
  case arm =>
    intro hopen hext hreserved hrange hlegal
    exact ⟨_, rfl, arm_results (op := { op with dst := 1 }) hring hopen rfl hext hreserved hlegal hrange⟩
  case disarm =>
    intro hopen hext hsrc himm hlegal
    have hreserved : armReserved { op with dst := 2 } = true := by simp [armReserved, Op.word, bitsOf, hext, hsrc, himm]
    exact ⟨_, rfl, disarm_results (op := { op with dst := 2 }) hring hopen rfl (by rw [hext]; rfl) hreserved hlegal⟩
  case warning =>
    intro hlow hup hwarning hpavane hwake
    exact ⟨fun harmed hgrace =>
        ⟨_, rfl, warningCondition_armed hlow hup hwarning hpavane hwake harmed hgrace⟩,
      fun harmed => ⟨_, rfl, warningCondition_disarmed hlow hup hwarning hpavane hwake harmed⟩⟩
  case wake =>
    intro hlow hwake
    obtain ⟨hended, hseq, hvinok⟩ := (s.setFlag BT_STATUS.VINOK false).abortWake_results
    refine ⟨_, congrArg Outcome.next (warningCondition_wake hlow hwake), hended, hseq, ?_⟩
    exact hvinok.trans (flag_set_boolNat s rfl false)
  case withdrawal =>
    intro hwarning hpavane hlow hgrace hdue
    obtain ⟨n, c, f, hpass⟩ := s.passTo_eq (s.flagSince 12 + 200000)
    have heq : warningWithdrawal s = ({ s with now := n, clock := c, frac := f } : State).withdrawWarning := by
      rw [warningWithdrawal, if_pos (by simp [hwarning, hpavane, hlow, hgrace]), State.onTime_due s _ hdue, hpass]
    exact ⟨_, congrArg Outcome.next heq, State.withdrawWarning_results _⟩

end
end Sys2Proof.Machine

/-! ## What the flash store's work leaves of a save (R187, R216, R226) -/

namespace Sys2Proof.Machine

set_option Elab.async false

open Reg Host

/-- The place of QU_APCTL. -/
def aperturePlace (off _ : Nat) : Bool := decide (off = 0x2000)

/-- The two commit records and the security unit. -/
def commitView (s : State) : List (Option Commit) × Security := (s.fl.commits, s.se)

/-- From `s` to `t` the commit records, the security unit and the aperture stand. -/
abbrev CommitKept (s t : State) : Prop := Stands aperturePlace commitView s t

section
variable {s t : State}

theorem Stands.commitRaise {code w5 w6 w7 : Nat} (h : CommitKept s t) : CommitKept s (t.raise code w5 w6 w7) := by
  have hsame := SameUnits.raise t code w5 w6 w7
  refine .raise h (fun g hlo hg => ?_) (by rw [commitView, hsame.fl, hsame.se, commitView])
  have hoff : g.off = 0x2000 := of_decide_eq_true hg
  exact not_eventField hlo (by omega) (by omega) (by omega)

theorem Stands.commitFl {x : Flash} (h : CommitKept s t) (hcommits : x.commits = t.fl.commits := by rfl) :
    CommitKept s (t.setFl x) := .congr h rfl (by rw [commitView, commitView]; exact congrArg (·, t.se) hcommits)

theorem Stands.commitCodeword {source : Nat} {c : CodewordRead} (h : CommitKept s t) :
    CommitKept s (State.codewordRead source t c) :=
  .ite (.when (.set h) (.set (.set h))) (.commitRaise (.set (.commitFl (.set h))))

theorem Stands.commitWeak {k : Nat} (h : CommitKept s t) : CommitKept s (t.markWeak k) := .ite (.commitFl h) h

/-- R216, R226, R229: what an operation met. -/
theorem Stands.commitWork {source : Nat} {tests : Bool} {k : FlashWork} (h : CommitKept s t) :
    CommitKept s (t.flashWork source tests k) := by
  unfold State.flashWork
  extract_lets read tested
  have hread : CommitKept s read := .foldl h fun _ _ h => .commitCodeword h
  have htested : CommitKept s tested := .when hread (.foldl hread fun _ _ h => .commitWeak h)
  exact .ite htested (.set (.set (.foldl htested fun _ _ h => .commitFl h)))

theorem Stands.commitErase {k : Nat} (h : CommitKept s t) : CommitKept s (t.eraseStripe k) :=
  .set (.set (.commitFl h))

theorem Stands.commitTurn {n : Nat} (h : CommitKept s t) : CommitKept s (t.turnRing n) := by
  refine .ite h (.ite ?_ h)
  split
  · exact .commitFl (.commitErase h)
  · exact h

theorem Stands.commitProgram {area owner : Nat} {e : Nat × Option (List Nat)} (h : CommitKept s t) :
    CommitKept s (State.programCodeword area owner t e) := by
  have hcounted : CommitKept s (t.programmed 1 (boolNat (area == 3))) := .commitFl h
  unfold State.programCodeword
  dsimp only
  split
  · exact .commitFl hcounted
  · exact .commitFl (.congr hcounted)

theorem Stands.commitProgramAll {area owner : Nat} {l : List (Nat × Option (List Nat))} (h : CommitKept s t) :
    CommitKept s (t.programAll area owner l) := .foldl h fun _ _ h => .commitProgram h

theorem Stands.commitPlace (h : CommitKept s t) : CommitKept s t.place := by
  unfold State.place
  dsimp only
  exact .ite h (.ite (.commitRaise (.set h)) (.ite h (.withSh h)))

theorem Stands.commitFill (h : CommitKept s t) : CommitKept s t.showFill := .set h

theorem Stands.commitJournal {l : List JPage} (h : CommitKept s t) :
    CommitKept s (t.setFl { t.fl with journal := l }) := .commitFl h

theorem Stands.commitPage (h : CommitKept s t) : CommitKept s t.writePage := by
  have hprogrammed (n : Nat) (l : List (Nat × Option (List Nat))) :
      CommitKept s (((t.setPair SH_JSEQH.JSEQ SH_JSEQL.JSEQ n).turnRing n).programAll 3 n l) :=
    .commitProgramAll (.commitTurn (.set (.set h)))
  unfold State.writePage
  dsimp only
  refine .commitPlace (.commitFill ?_)
  split
  · exact .set (.set (.withSh (.commitJournal (hprogrammed _ _))))
  · exact .withSh (.commitJournal (hprogrammed _ _))

theorem Stands.commitFlush {n : Nat} (h : CommitKept s t) : CommitKept s (State.flushPages n t) := by
  induction n generalizing t with
  | zero => exact h
  | succ n ih => exact .ite h (ih (.commitPage h))

theorem Stands.commitFlushAll (h : CommitKept s t) : CommitKept s t.flushAll := .commitFlush (.commitPlace h)

theorem Stands.commitEpisode {bit : Field} {below : Bool} {run code which : Nat} (h : CommitKept s t)
    (hbit : bit.off ≠ 0x2000) (hlo : bit.lo < 32) : CommitKept s (t.marginEpisode bit below run code which).1 := by
  have hset (b : Bool) : CommitKept s (t.setFlag bit b) := .set h (decide_eq_false hbit) hlo
  unfold State.marginEpisode
  split
  · dsimp only
    exact .when (hset true) (.commitRaise (hset true))
  · split
    · split
      · exact .commitRaise (hset false)
      · exact h
    · exact h

theorem Stands.commitMargin {m : Int} (h : CommitKept s t) : CommitKept s (t.showMargin m) :=
  .set (.set (.set (.set h)))

theorem Stands.commitShort {m : Int} (h : CommitKept s t) : CommitKept s (t.judgeShort m) :=
  .commitEpisode (.commitMargin h) (by decide) (by decide)

theorem Stands.commitLow {m : Int} (h : CommitKept s t) : CommitKept s (t.judgeLow m) :=
  .commitEpisode (.commitShort h) (by decide) (by decide)

theorem Stands.commitAccount (h : CommitKept s t) : CommitKept s t.accountHoldup := by
  obtain ⟨x, heq⟩ := t.accountHoldup_eq
  rw [heq]
  exact .withSh (.commitLow h)

theorem Stands.commitDrop (h : CommitKept s t) : CommitKept s t.dropSave := .commitFl (.commitFl (.commitFl h))

theorem Stands.commitPick {n : Nat} {u : State} (h : CommitKept s t) (e : t.pickStripe = some (n, u)) :
    CommitKept s u := by
  obtain ⟨k, -, hk⟩ := Option.map_eq_some_iff.mp e
  cases hk
  exact .commitFl (.ite h (.commitErase h))

theorem takeStripes_commitKept {use : StripeUse} {n : Nat} {u : State} (h : CommitKept s t)
    (e : State.takeStripes use n t = some u) : CommitKept s u := by
  induction n generalizing t with
  | zero =>
      cases e
      exact h
  | succ n ih =>
      obtain ⟨v, hv, hu⟩ := Option.bind_eq_some_iff.mp e
      obtain ⟨⟨k, w⟩, hw, rfl⟩ := Option.map_eq_some_iff.mp hv
      exact ih (.commitFl (.commitPick h hw)) hu

end
end Sys2Proof.Machine

/-! ## Pavane: an abandon, and the flush (R187, R189, R191, R192) -/

namespace Sys2Proof.Machine

set_option Elab.async false

open Reg Host

section
variable {s t : State}

/-! ### A step, and an abandon -/

theorem State.pavaneTo_eq (s : State) {p : Pavane} (h : p.step ≠ .down) :
    s.pavaneTo p = { s with sv := { s.sv with pavane := some p } } := by
  have hnot : ¬ (p.step = PavaneStep.down ∧ s.scState = scInactive ∧ s.mcState = mcInactive ∧
      s.pw.stop.isNone = true) := fun hdown => h hdown.1
  exact if_neg hnot

theorem State.saveView_queueFault (s : State) (code w5 w6 w7 : Nat) :
    saveView (s.queueFault code w5 w6 w7) = saveView s := by
  unfold State.queueFault
  split <;> rfl

/-- R191: what an abandoned save leaves. -/
theorem State.abandonSave_results (s : State) (p : Pavane) (energy mram : Bool) :
    let t := s.abandonSave p energy mram
    t.sv.pavane = some { p with step := .down, energy := energy } ∧ t.fl.commits = s.fl.commits ∧
      (mram = true → t.sv.record.saveState = 3) := by
  intro t
  have hview : saveView t = (some { p with step := .down, energy := energy },
      saveView (s.when mram fun u => u.setRecord { u.sv.record with saveState := 3 }) |>.2) :=
    (State.saveView_pavaneTo ..).trans (congrArg (fun v => (some _, v.2)) (State.saveView_queueFault ..))
  cases mram
  · simp only [saveView, Prod.mk.injEq] at hview
    exact ⟨hview.1, hview.2.2.1, nofun⟩
  · simp only [saveView, Prod.mk.injEq] at hview
    obtain ⟨hpavane, hrecord, hcommits, -⟩ := hview
    exact ⟨hpavane, hcommits, fun _ => congrArg SaveRecord.saveState hrecord⟩

/-- R190, R191: an abandon in step 6 writes no commit record. -/
theorem pavaneAbandon_eq {p : Pavane} (hpavane : s.sv.pavane = some p) (hstep : p.step = .set) (energy mram : Bool) :
    pavaneAbandon energy mram s = s.abandonSave p energy mram := by
  rw [pavaneAbandon, hpavane]
  exact if_pos hstep

/-! ### The flush and the decision (R187, R189, R191) -/

theorem Leaves.flushPages {n : Nat} (h : ShadowFrame s t) : ShadowFrame s (State.flushPages n t) := by
  induction n generalizing t with
  | zero => exact h
  | succ n ih => exact .ite h (ih (.writePage h))

/-- R187: what step 5 leaves in the store. -/
def State.flushed (s : State) (work : FlashWork) : State := (s.flashWork 3 false work).flushAll

theorem State.flushed_frame (s : State) (work : FlashWork) : ShadowFrame s (s.flushed work) :=
  .flushPages (.place (.flashWork (.refl s)))

theorem State.flushed_commitKept (s : State) (work : FlashWork) : CommitKept s (s.flushed work) :=
  .commitFlushAll (.commitWork (.refl s))

/-- R189: the save record counts the save, and step 6 begins with the decision. -/
def State.decided (s : State) (p : Pavane) : State :=
  let s := s.setRecord { s.sv.record with saveSeq := s.sv.record.saveSeq + 1, saveState := 1 }
  s.pavaneTo { p with step := .set, full := decide (s.eReq ≤ s.get BT_EAVAIL.E) }

theorem State.eReq_withPavane (s : State) (x : Option Pavane) :
    ({ s with sv := { s.sv with pavane := x } } : State).eReq = s.eReq := rfl

theorem State.decided_eq (s : State) (p : Pavane) : ∃ r, r.saveState = 1 ∧ r.saveSeq = s.sv.record.saveSeq + 1 ∧
    s.decided p = { s.setRecord r with sv := { (s.setRecord r).sv with
      pavane :=
        some { p with step := .set, full := decide ((s.setRecord r).eReq ≤ (s.setRecord r).get BT_EAVAIL.E) } } } :=
  ⟨_, rfl, rfl, State.pavaneTo_eq _ nofun⟩

/-- R189: the decision that a save with a pack comes to. -/
theorem State.decided_results (s : State) (p : Pavane) :
    let t := s.decided p
    t.sv.pavane = some { p with step := .set, full := decide (t.eReq ≤ t.get BT_EAVAIL.E) } ∧
      t.sv.record.saveState = 1 ∧ t.sv.record.saveSeq = s.sv.record.saveSeq + 1 ∧ t.fl = s.fl ∧ t.pw = s.pw ∧
      t.regs = s.regs := by
  obtain ⟨r, hstate, hseq, heq⟩ := s.decided_eq p
  dsimp only
  rw [heq]
  refine ⟨?_, hstate, hseq, rfl, rfl, rfl⟩
  rw [State.eReq_withPavane]
  rfl

/-- R191: what the save rails are judged by. -/
theorem State.saveRailOut_congr (hpw : t.pw = s.pw) (hstate : ∀ k < 12, t.railState k = s.railState k) :
    t.saveRailOut = s.saveRailOut := by
  have hrail (k : Nat) : t.rail k = s.rail k := by rw [State.rail, hpw, State.rail]
  rw [Bool.eq_iff_iff]
  simp only [State.saveRailOut, List.any_eq_true, List.mem_range]
  exact exists_congr fun k => and_congr_right fun hk => by rw [hstate k hk, hrail k]

theorem Leaves.saveRailOut (h : ShadowFrame s t) : t.saveRailOut = s.saveRailOut := by
  obtain ⟨hblocks, -, hview⟩ := h
  simp only [Prod.mk.injEq] at hview
  refine State.saveRailOut_congr hview.2.1 fun k hk => hblocks _ (by decide : 0 < 32) ?_
  have hblock : (PW_RAIL_C.STATE k).off / 0x1000 = 7 := by
    simp only [PW_RAIL_C.STATE]
    omega
  rw [hblock]
  decide

theorem Leaves.saveUnit (h : ShadowFrame s t) : t.sv = s.sv := by
  obtain ⟨-, -, hview⟩ := h
  simp only [Prod.mk.injEq] at hview
  exact hview.2.2.2

theorem Stands.commits (h : CommitKept s t) : t.fl.commits = s.fl.commits := (Prod.mk.inj h.view).1

/-- R191: with a save rail out of its window the save is abandoned as it is decided. -/
def State.decidedWithRails (s : State) (p : Pavane) : State :=
  (s.decided p).when (s.decided p).saveRailOut (pavaneAbandon true true)

theorem State.decidedWithRails_results (s : State) (p : Pavane) :
    let t := s.decidedWithRails p
    (s.saveRailOut = false →
      t.sv.pavane = some { p with step := .set, full := decide (t.eReq ≤ t.get BT_EAVAIL.E) } ∧
        t.sv.record.saveState = 1 ∧ t.sv.record.saveSeq = s.sv.record.saveSeq + 1) ∧
    (s.saveRailOut = true →
      (∃ full, t.sv.pavane = some { p with step := .down, energy := true, full := full }) ∧
        t.sv.record.saveState = 3 ∧ t.fl.commits = s.fl.commits) := by
  obtain ⟨hnext, hbegun, hseq, hfl, hpw, hregs⟩ := s.decided_results p
  have hrails : (s.decided p).saveRailOut = s.saveRailOut :=
    State.saveRailOut_congr hpw fun k _ => by rw [State.railState, State.get, hregs, State.railState, State.get]
  intro t
  refine ⟨fun hgood => ?_, fun hout => ?_⟩
  · have ht : t = s.decided p := by
      rw [show t = (s.decided p).when (s.decided p).saveRailOut (pavaneAbandon true true) from rfl, hrails, hgood,
        State.when_false]
    rw [ht]
    exact ⟨hnext, hbegun, hseq⟩
  · have ht : t = pavaneAbandon true true (s.decided p) := by
      rw [show t = (s.decided p).when (s.decided p).saveRailOut (pavaneAbandon true true) from rfl, hrails, hout,
        State.when_true]
    rw [ht, pavaneAbandon_eq hnext rfl]
    obtain ⟨hdown, hkept, hstate⟩ := (s.decided p).abandonSave_results
      { p with step := .set, full := decide ((s.decided p).eReq ≤ (s.decided p).get BT_EAVAIL.E) } true true
    exact ⟨⟨_, hdown⟩, hstate rfl, hkept.trans (congrArg Flash.commits hfl)⟩

/-- R192: without a pack the rails come down after the flush. -/
def State.flushedWithoutPack (s : State) (p : Pavane) : State :=
  (s.queueFault 0x284 p.cause (s.get SH_UNSHAD.MIB) (s.get SH_MARGIN.E)).pavaneTo { p with step := .down }

theorem State.flushedWithoutPack_results (s : State) (p : Pavane) :
    (s.flushedWithoutPack p).sv.pavane = some { p with step := .down } ∧
      (s.flushedWithoutPack p).sv.record = s.sv.record := by
  have hview : saveView (s.flushedWithoutPack p) = (some { p with step := .down }, (saveView s).2) :=
    (State.saveView_pavaneTo ..).trans (congrArg (fun v => (some _, v.2)) (State.saveView_queueFault ..))
  simp only [saveView, Prod.mk.injEq] at hview
  exact ⟨hview.1, hview.2.1⟩

theorem pavaneFlushDone_eq {p : Pavane} (hpavane : s.sv.pavane = some p) (hstep : p.step = .flush) (work : FlashWork) :
    pavaneFlushDone work s =
      if p.packAbsent then (s.flushed work).flushedWithoutPack p
      else (s.flushed work).accountHoldup.decidedWithRails p := by
  rw [pavaneFlushDone, hpavane]
  exact if_pos hstep

/-- R187, R189, R191, R192: the end of the flush. -/
theorem pavaneFlushDone_results {p : Pavane} (hpavane : s.sv.pavane = some p) (hstep : p.step = .flush)
    (work : FlashWork) :
    let t := pavaneFlushDone work s
    (p.packAbsent = false → s.saveRailOut = false →
      t.sv.pavane = some { p with step := .set, full := decide (t.eReq ≤ t.get BT_EAVAIL.E) } ∧
        t.sv.record.saveState = 1 ∧ t.sv.record.saveSeq = s.sv.record.saveSeq + 1) ∧
    (p.packAbsent = false → s.saveRailOut = true →
      (∃ full, t.sv.pavane = some { p with step := .down, energy := true, full := full }) ∧
        t.sv.record.saveState = 3 ∧ t.fl.commits = s.fl.commits) ∧
    (p.packAbsent = true → t.sv.pavane = some { p with step := .down } ∧ t.sv.record = s.sv.record) := by
  have hflushed : ShadowFrame s (s.flushed work) := s.flushed_frame work
  have hframe : ShadowFrame s (s.flushed work).accountHoldup := .accountHoldup hflushed
  have hcommits : CommitKept s (s.flushed work).accountHoldup := .commitAccount (s.flushed_commitKept work)
  have heq := pavaneFlushDone_eq hpavane hstep work
  obtain ⟨hgoes, hends⟩ := (s.flushed work).accountHoldup.decidedWithRails_results p
  rw [hframe.saveRailOut, hframe.saveUnit] at hgoes
  rw [hframe.saveRailOut, hcommits.commits] at hends
  obtain ⟨hdown, hrecord⟩ := (s.flushed work).flushedWithoutPack_results p
  rw [hflushed.saveUnit] at hrecord
  intro t
  refine ⟨fun hpack hgood => ?_, fun hpack hout => ?_, fun hpack => ?_⟩
  · have ht : t = (s.flushed work).accountHoldup.decidedWithRails p := heq.trans (if_neg (by simp [hpack]))
    rw [ht]
    exact hgoes hgood
  · have ht : t = (s.flushed work).accountHoldup.decidedWithRails p := heq.trans (if_neg (by simp [hpack]))
    rw [ht]
    exact hends hout
  · have ht : t = (s.flushed work).flushedWithoutPack p := heq.trans (if_pos hpack)
    rw [ht]
    exact ⟨hdown, hrecord⟩

end
end Sys2Proof.Machine

/-! ## Pavane: the save set (R187, R188, R191, R195, R219) -/

namespace Sys2Proof.Machine

set_option Elab.async false

open Reg Host

section
variable {s t : State}

/-! ### The save set (R188) -/

theorem mem_insertRegion {r q : Region} {l : List Region} (h : q ∈ insertRegion r l) : q = r ∨ q ∈ l := by
  induction l with
  | nil => exact .inl (List.mem_singleton.mp h)
  | cons x l ih =>
      unfold insertRegion at h
      split at h
      · exact List.mem_cons.mp h
      · rcases List.mem_cons.mp h with hx | hl
        · exact .inr (hx ▸ List.mem_cons_self)
        · exact (ih hl).imp_right (List.mem_cons_of_mem _)

/-- R188: the order holds no region that the table does not. -/
theorem mem_saveOrder {q : Region} {table : List Region} (h : q ∈ saveOrder table) : q ∈ table := by
  have hfold (l : List Region) (hsub : ∀ r ∈ l, r ∈ table) :
      ∀ r ∈ l.foldl (fun m r => insertRegion r m) [], r ∈ table :=
    List.foldlRecOn (motive := fun m : List Region => ∀ r ∈ m, r ∈ table) l _ (by simp) fun m hm x hx r hr =>
      (mem_insertRegion hr).elim (fun e => e ▸ hsub x hx) (hm r)
  exact hfold table (fun _ hr => hr) q h

theorem State.num_lt_of_mem_regionTable {r : Region} (h : r ∈ s.regionTable) : r.num < 64 := by
  obtain ⟨k, hk, heq⟩ := List.mem_filterMap.mp h
  split at heq
  · cases heq
    exact List.mem_range.mp hk
  · cases heq

theorem SameRegions.regionTable (h : SameRegions s t) : t.regionTable = s.regionTable := by
  refine List.filterMap_congr fun k hk => ?_
  have hk64 : k < 64 := List.mem_range.mp hk
  have hstart : t.get (SH_RG_A.START k) = s.get (SH_RG_A.START k) :=
    h _ (by decide : 0 < 32) (by simp only [SH_RG_A.START]; omega) (by simp only [SH_RG_A.START]; omega)
      (by simp only [SH_RG_A.START]; omega)
  have hcount : t.get (SH_RG_B.COUNT k) = s.get (SH_RG_B.COUNT k) :=
    h _ (by decide : 0 < 32) (by simp only [SH_RG_B.COUNT]; omega) (by simp only [SH_RG_B.COUNT]; omega)
      (by simp only [SH_RG_B.COUNT]; omega)
  rw [h.valid hk64, h.kind hk64, h.prio hk64, hstart, hcount]

/-- R188: what the save set is made of. -/
theorem State.saveSet_congr (h : SameRegions s t) (hdirty : t.sh.dirty = s.sh.dirty)
    (haperture : ∀ p, t.beneathAperture p = s.beneathAperture p) : t.saveSet = s.saveSet := by
  rw [State.saveSet, h.regionTable, State.saveSet]
  refine List.flatMap_congr fun r hr => ?_
  have hnum : r.num < 64 := State.num_lt_of_mem_regionTable (List.mem_of_mem_filter (mem_saveOrder hr))
  rw [h.dirtyIn hnum hdirty]
  exact List.filter_congr fun p _ => by rw [haperture]

theorem Stands.beneathAperture (h : CommitKept s t) (p : Nat) : t.beneathAperture p = s.beneathAperture p := by
  rw [State.beneathAperture, State.flag, h.get QU_APCTL.EN (by decide) (by decide),
    h.get QU_APCTL.BASE (by decide) (by decide), State.beneathAperture, State.flag]

/-! ### The commit record (R195) -/

/-- R195: the seal lies outside the bytes that it seals. -/
theorem Commit.body_withMac (c : Commit) (mac : List Nat) : ({ c with mac := mac } : Commit).body = c.body := rfl

theorem State.commitRecord_results (s : State) (p : Pavane) (index : List Nat) :
    let c := s.commitRecord p index
    c.saveSeq = s.sv.record.saveSeq ∧ c.full = p.full ∧ c.pages = index.length ∧ c.bar = s.bar ∧
      c.mac = hmacSha256 s.sealingKey c.body := by
  have hsealed : ∃ (c : Commit) (mac : List Nat), s.commitRecord p index = { c with mac := mac } ∧
      c.saveSeq = s.sv.record.saveSeq ∧ c.full = p.full ∧ c.pages = index.length ∧ c.bar = s.bar ∧
      mac = hmacSha256 s.sealingKey c.body := ⟨_, _, rfl, rfl, rfl, rfl, rfl, rfl⟩
  obtain ⟨c, mac, heq, hseq, hfull, hpages, hbar, hmac⟩ := hsealed
  dsimp only
  rw [heq, Commit.body_withMac]
  exact ⟨hseq, hfull, hpages, hbar, hmac⟩

/-! ### The save set is written (R187, R191, R219) -/

/-- R187: the save set and its commit records stand in the stripes that were taken. -/
def State.saveStored (s : State) (p : Pavane) (pages : List Nat) : State :=
  let index := s.saveIndexOf pages
  let c := s.commitRecord p index
  let t := (s.programSave pages index c).showErased
  let t := t.setFl { t.fl with
    saveIndex := index, saveCells := t.hp.dram.pageCells pages, commits := [some c, some c]
    commitAt := t.commitChannels }
  (t.setRecord { t.sv.record with saveState := 2 }).pavaneTo { p with step := .down }

/-- R188: the pages of save `p`. -/
def State.savedPages (s : State) (p : Pavane) : List Nat := if p.full then s.saveSet else []

theorem saveSetWritten_eq {p : Pavane} (hpavane : s.sv.pavane = some p) (hstep : p.step = .set) (work : FlashWork) :
    let met := (s.flashWork 3 false work).dropSave
    let taken := met.takeStripes .save (met.stripesFor (met.saveCodewords (met.savedPages p)))
    (taken = none → saveSetWritten work s = met.abandonSave p true true) ∧
      ∀ u, taken = some u → saveSetWritten work s = u.saveStored p (met.savedPages p) := by
  intro met taken
  have heq : saveSetWritten work s = match taken with
      | none => met.abandonSave p true true
      | some u => u.saveStored p (met.savedPages p) := by
    rw [saveSetWritten, hpavane]
    exact if_pos hstep
  refine ⟨fun hnone => ?_, fun u hsome => ?_⟩
  · rw [heq, hnone]
  · rw [heq, hsome]

theorem State.programSave_frame (s : State) (pages index : List Nat) (c : Commit) :
    ShadowFrame s (s.programSave pages index c).showErased :=
  .setShadow (.programAll (.programAll (.programAll (.programAll (.refl s)))))

theorem State.saveStored_results (s : State) (p : Pavane) (pages : List Nat) :
    let t := s.saveStored p pages
    let c := s.commitRecord p (s.saveIndexOf pages)
    t.fl.saveIndex = s.saveIndexOf pages ∧ t.fl.saveCells = s.hp.dram.pageCells pages ∧ t.sv.record.saveState = 2 ∧
      t.sv.pavane = some { p with step := .down } ∧ t.fl.commits = [some c, some c] := by
  intro t c
  obtain ⟨-, -, hview⟩ := s.programSave_frame pages (s.saveIndexOf pages) c
  have hhp : ((s.programSave pages (s.saveIndexOf pages) c).showErased).hp = s.hp := congrArg Prod.fst hview
  have hstored : saveView t = (some { p with step := .down },
      { ((s.programSave pages (s.saveIndexOf pages) c).showErased).sv.record with saveState := 2 },
      [some c, some c], s.saveIndexOf pages,
      ((s.programSave pages (s.saveIndexOf pages) c).showErased).hp.dram.pageCells pages) := State.saveView_pavaneTo ..
  rw [hhp] at hstored
  simp only [saveView, Prod.mk.injEq] at hstored
  obtain ⟨hpavane, hrecord, hcommits, hindex, hcells⟩ := hstored
  exact ⟨hindex, hcells, congrArg SaveRecord.saveState hrecord, hpavane, hcommits⟩

/-- What writing a save reads of the device stands from `s` to `t`. -/
structure SaveSource (s t : State) : Prop where
  hp : t.hp = s.hp
  sv : t.sv = s.sv
  commits : t.fl.commits = s.fl.commits
  sealing : t.sealingKey = s.sealingKey
  bar : t.bar = s.bar
  pages : t.saveSet = s.saveSet

theorem SaveSource.of_kept (hframe : ShadowFrame s t) (hjournal : JournalKept id s t) (hcommit : CommitKept s t) :
    SaveSource s t := by
  obtain ⟨-, -, hview⟩ := hframe
  simp only [Prod.mk.injEq] at hview
  refine ⟨hview.1, hview.2.2.2, hcommit.commits, ?_, hjournal.bar, ?_⟩
  · rw [State.sealingKey, (Prod.mk.inj hcommit.view).2, State.sealingKey]
  · exact State.saveSet_congr hjournal.sameRegions (congrArg Shadow.dirty hjournal.sh_eq) hcommit.beneathAperture

theorem SaveSource.saveIndexOf (h : SaveSource s t) (pages : List Nat) : t.saveIndexOf pages = s.saveIndexOf pages := by
  rw [State.saveIndexOf, h.hp, State.saveIndexOf]

theorem SaveSource.savedPages (h : SaveSource s t) (p : Pavane) : t.savedPages p = s.savedPages p := by
  rw [State.savedPages, h.pages, State.savedPages]

/-- R187: what step 6 begins with. -/
def State.saveMet (s : State) (work : FlashWork) : State := (s.flashWork 3 false work).dropSave

theorem State.saveMet_source (s : State) (work : FlashWork) : SaveSource s (s.saveMet work) :=
  .of_kept (.dropSave (.flashWork (.refl s))) (.setFl (.setFl (.setFl (.flashWork (.refl s)))))
    (.commitDrop (.commitWork (.refl s)))

theorem State.saveTaken_source (s : State) (work : FlashWork) {use : StripeUse} {n : Nat} {u : State}
    (h : (s.saveMet work).takeStripes use n = some u) : SaveSource s u :=
  .of_kept (takeStripes_frame (.dropSave (.flashWork (.refl s))) u h)
    (takeStripes_journalKept (.setFl (.setFl (.setFl (.flashWork (.refl s))))) u h)
    (takeStripes_commitKept (.commitDrop (.commitWork (.refl s))) h)

/-- R187, R188, R191, R195, R219: the end of steps 6 and 7. -/
theorem saveSetWritten_results {p : Pavane} (hpavane : s.sv.pavane = some p) (hstep : p.step = .set)
    (work : FlashWork) :
    let set := s.savedPages p
    let room := ((s.saveMet work).takeStripes .save
      ((s.saveMet work).stripesFor ((s.saveMet work).saveCodewords set))).isSome
    let t := saveSetWritten work s
    (room = true → t.fl.saveIndex = s.saveIndexOf set ∧ t.fl.saveCells = s.hp.dram.pageCells set ∧
      t.sv.record.saveState = 2 ∧ t.sv.pavane = some { p with step := .down } ∧
      ∃ c : Commit, t.fl.commits = [some c, some c] ∧ c.saveSeq = s.sv.record.saveSeq ∧ c.full = p.full ∧
        c.pages = set.length ∧ c.bar = s.bar ∧ c.mac = hmacSha256 s.sealingKey c.body) ∧
    (room = false → t.sv.pavane = some { p with step := .down, energy := true } ∧ t.fl.commits = s.fl.commits ∧
      t.sv.record.saveState = 3) := by
  have hmet := s.saveMet_source work
  obtain ⟨hfew, hsome⟩ := saveSetWritten_eq hpavane hstep work
  rw [show (s.flashWork 3 false work).dropSave = s.saveMet work from rfl, hmet.savedPages] at hfew hsome
  intro set room t
  refine ⟨fun hroom => ?_, fun hroom => ?_⟩
  · obtain ⟨u, hu⟩ := Option.isSome_iff_exists.mp hroom
    have hsource := s.saveTaken_source work hu
    obtain ⟨hindex, hcells, hstate, hnext, hcommits⟩ := u.saveStored_results p set
    obtain ⟨hseq, hfull, hpages, hbar, hmac⟩ := u.commitRecord_results p (u.saveIndexOf set)
    rw [show t = u.saveStored p set from hsome u hu]
    refine ⟨hindex.trans (hsource.saveIndexOf set), ?_, hstate, hnext, _, hcommits, ?_, hfull, ?_, ?_, ?_⟩
    · rw [hcells, hsource.hp]
    · rw [hseq, hsource.sv]
    · rw [hpages, State.saveIndexOf, List.length_map]
    · rw [hbar, hsource.bar]
    · rw [hmac, hsource.sealing]
  · obtain ⟨hnext, hcommits, hstate⟩ := (s.saveMet work).abandonSave_results p true true
    rw [show t = (s.saveMet work).abandonSave p true true from hfew (Option.isNone_iff_eq_none.mp
      (Option.isSome_eq_false_iff.mp hroom))]
    exact ⟨hnext, hcommits.trans hmet.commits, hstate rfl⟩

end
end Sys2Proof.Machine

/-! ## Pavane: the shutdown (R187, R192) -/

namespace Sys2Proof.Machine

set_option Elab.async false

open Reg Host

section
variable {s t : State}

/-- The place of PW_STATE.STATE. -/
def statePlace (off lo : Nat) : Bool := decide (off = 0x7000) && decide (lo = 0)

/-- Pavane and the stop sequence. -/
def endView (s : State) : Option Pavane × Option Stop := (s.sv.pavane, s.pw.stop)

/-- From `s` to `t` the power state stands, Pavane and the stop sequence. -/
abbrev EndKept (s t : State) : Prop := Stands statePlace endView s t

theorem statePlace_off {off lo : Nat} (h : statePlace off lo = true) : off = 0x7000 := by
  simp only [statePlace, Bool.and_eq_true, decide_eq_true_eq] at h
  exact h.1

theorem Stands.endRaise {code w5 w6 w7 : Nat} (h : EndKept s t) : EndKept s (t.raise code w5 w6 w7) := by
  have hsame := SameUnits.raise t code w5 w6 w7
  refine .raise h (fun g hlo hg => ?_) (by rw [endView, hsame.sv, hsame.pw, endView])
  have hoff := statePlace_off hg
  exact not_eventField hlo (by omega) (by omega) (by omega)

theorem Stands.endPost {c : OpRef} {status result : Nat} (h : EndKept s t) : EndKept s (t.post c status result) := by
  refine h.trans ⟨fun g hlo hg => ?_, ?_⟩
  · have hoff := statePlace_off hg
    exact t.get_post c status result (not_postField hlo (by omega))
  · exact State.post_same (view := endView) (fun _ _ _ => rfl) (fun _ _ _ => rfl) (fun _ _ _ => rfl)
      (fun _ _ _ => rfl) t c status result

theorem Stands.endMarginBack {m step : Nat} (h : EndKept s t) : EndKept s (t.marginBack m step) := by
  have hrails {k : Nat} {x : Rail} : EndKept s (t.setRail k x) := .withPw h
  refine .set (.withPw hrails) ?_ (by decide : 4 < 32)
  simp [statePlace, PW_MG.STEP]

theorem Stands.endMargins (h : EndKept s t) : EndKept s t.marginsNominal :=
  .foldl (.foldl (.withPw h) fun _ _ h => .ite h (.endMarginBack h)) fun _ _ h => .endPost h

theorem Stands.endChannelBit {f0 f1 : Field} {n : Nat} {b : Bool} (h : EndKept s t)
    (h0 : statePlace f0.off f0.lo = false) (h1 : statePlace f1.off f1.lo = false) (hlo0 : f0.lo < 32)
    (hlo1 : f1.lo < 32) : EndKept s (t.setChannelBit f0 f1 n b) := .ite (.set h h0 hlo0) (.set h h1 hlo1)

theorem Stands.endDropFlag {n : Nat} (h : EndKept s t) : EndKept s (t.dropFlag n) :=
  .ite (.withMn (.endChannelBit (.endChannelBit h (by decide) (by decide) (by decide) (by decide)) (by decide)
    (by decide) (by decide) (by decide))) h

theorem Stands.endDropFlags (h : EndKept s t) : EndKept s t.dropFlags := .foldl h fun _ _ h => .endDropFlag h

theorem Stands.endPath (h : EndKept s t) : EndKept s t.followPath := .ite h (.withBt h)

theorem Stands.endLine (h : EndKept s t) : EndKept s t.showFaultLine := .set (.set h)

/-- R252: the state entered, with Pavane and the stop sequence as they were. -/
theorem State.enterState_results (s : State) (new cause : Nat) :
    (s.enterState new cause).power = new % 16 ∧ endView (s.enterState new cause) = endView s := by
  have hkept : EndKept (((s.when (s.power == maint && new != maint) (·.marginsNominal)).set PW_STATE.PREV s.power).set
      PW_STATE.STATE new) (s.enterState new cause) := .endLine (.endPath (.endDropFlags (.endRaise (.refl _))))
  have hmargins : EndKept s (s.when (s.power == maint && new != maint) (·.marginsNominal)) :=
    .when (.refl s) (.endMargins (.refl s))
  exact ⟨(hkept.get PW_STATE.STATE (by decide) (by decide)).trans (State.get_set_same _ _ _),
    hkept.view.trans hmargins.view⟩

/-- R187, R192: SAVED, or OFF without a pack or energy. -/
theorem pavaneShutdownDone_results {p : Pavane} {collapsed : List Nat} (hpavane : s.sv.pavane = some p)
    (hstop : s.pw.stop = some ⟨[], none, collapsed, .saved⟩) :
    let t := pavaneShutdownDone s
    t.sv.pavane = none ∧ t.pw.stop = none ∧
      t.power = if p.packAbsent = true ∨ p.energy = false then 0 else saved := by
  have hentered (u : State) (new : Nat) (hnew : new < 16) (hu : endView u = (none, none)) :
      (u.enterState new 3).sv.pavane = none ∧ (u.enterState new 3).pw.stop = none ∧
        (u.enterState new 3).power = new := by
    obtain ⟨hpower, hview⟩ := u.enterState_results new 3
    obtain ⟨hnone, hends⟩ := Prod.mk.inj (hview.trans hu)
    exact ⟨hnone, hends, hpower.trans (Nat.mod_eq_of_lt hnew)⟩
  rw [pavaneShutdownDone, hpavane, hstop]
  dsimp only
  rw [if_pos ⟨rfl, rfl, rfl⟩]
  by_cases hoff : p.packAbsent = true ∨ p.energy = false
  · rw [if_pos (by simpa using hoff), if_pos hoff]
    exact hentered _ 0 (by decide) rfl
  · rw [if_neg (by simpa using hoff), if_neg hoff]
    refine hentered _ saved (by decide) ?_
    cases p.cause == 5 <;> rfl

end
end Sys2Proof.Machine

/-! ## Pavane: what starts it (R182) -/

namespace Sys2Proof.Machine

set_option Elab.async false

open Reg Host

section
variable {s t : State}

/-- Pavane has started with `cause`, at `time`. -/
def PavaneStarted (cause time : Nat) (t : State) : Prop := ∃ p, t.sv.pavane = some p ∧ p.cause = cause ∧ p.time = time

theorem State.pavaneStart_started (s : State) (cause : Nat) (save : Option OpRef) :
    PavaneStarted cause s.now (s.pavaneStart cause save) :=
  ⟨_, congrArg Prod.fst (State.saveView_pavaneTo _ _), rfl, rfl⟩

theorem criticalCondition_started (hsaves : s.savesItself = true) (hlow : s.channelFlag 13 = 1) :
    PavaneStarted 1 s.now (criticalCondition s) := by
  rw [criticalCondition, if_pos (by simp [hsaves, hlow])]
  exact s.pavaneStart_started 1 none

theorem saveNLow_started (hsaves : s.savesItself = true)
    (hwarned : s.svState = svWarning ∨ (s.svState = svRestoring ∧ s.sv.preSave.isSome = true)) :
    PavaneStarted 2 s.now (saveNLow s) := by
  rw [saveNLow, if_pos (by simpa [hsaves] using hwarned)]
  exact s.pavaneStart_started 2 none

theorem graceExpiry_started (hsaves : s.savesItself = true) {from_ : Nat} (hfrom : s.sv.preSave = some from_)
    (hdue : s.due (from_ + 100000 * s.get SV_ARMCFG.GRACE) = true) :
    PavaneStarted 3 (s.passTo (from_ + 100000 * s.get SV_ARMCFG.GRACE)).now (graceExpiry s) := by
  have heq : graceExpiry s = (s.passTo (from_ + 100000 * s.get SV_ARMCFG.GRACE)).pavaneStart 3 none := by
    rw [graceExpiry, hfrom]
    dsimp only
    rw [hsaves, State.when_true, State.onTime_due s _ hdue]
  rw [heq]
  exact State.pavaneStart_started _ 3 none

/-- R182: the warning leaves what a save of the device's own accord is judged by. -/
theorem State.savesItself_preSave (hsaves : s.savesItself = true) :
    s.warningTold.preSaveBegun.savesItself = true ∧ s.warningTold.preSaveBegun.now = s.now := by
  obtain ⟨n, hbegun⟩ := s.warningTold.saveUnits_preSaveBegun
  have htold := s.saveUnits_warningTold
  simp only [saveUnits, Prod.mk.injEq] at hbegun htold
  obtain ⟨hsv, hpw, hup, hnow, -⟩ := hbegun
  obtain ⟨hsvTold, hpwTold, hupTold, hnowTold, -⟩ := htold
  refine ⟨?_, hnow.trans hnowTold⟩
  rw [State.savesItself, hsv, hpw, hup, hsvTold, hpwTold, hupTold, State.flag, State.get_preSaveBegun,
    State.get_warningTold]
  exact hsaves

theorem warningCondition_started (hsaves : s.savesItself = true) (hlow : s.channelFlag 12 = 1)
    (hwarning : s.sv.warning = false) (hgrace : s.get SV_ARMCFG.GRACE = 0) :
    PavaneStarted 3 s.now (warningCondition s) := by
  obtain ⟨hbegun, hnow⟩ := State.savesItself_preSave hsaves
  have hnone : s.warningTold.preSaveBegun.get SV_ARMCFG.GRACE = 0 := by
    rw [State.get_preSaveBegun, State.get_warningTold, hgrace]
  simp only [State.savesItself, Bool.and_eq_true, Bool.not_eq_true', Option.isNone_iff_eq_none] at hsaves
  obtain ⟨⟨⟨⟨hup, harmed⟩, hpavane⟩, hwake⟩, -⟩ := hsaves
  rw [warningCondition_eq hlow hup hwarning hpavane hwake, if_pos harmed]
  dsimp only
  rw [if_pos (by simp [hnone, hbegun]), ← hnow]
  exact State.pavaneStart_started _ 3 none

theorem tFaultExpiry_started (hepisode : s.flag PW_STATUS.FAULTEP = true) (hrunning : s.runningSet = true)
    (hpavane : s.sv.pavane = none) (hstop : s.pw.stop = none)
    (hdue : s.due (s.pw.faultFrom + 100000 * s.get PW_TFAULT.MS) = true) (harmed : s.flag SV_STATUS.ARMED = true)
    (hrails : s.pw.faulted &&& saveRails = 0) :
    PavaneStarted 5 (s.passTo (s.pw.faultFrom + 100000 * s.get PW_TFAULT.MS)).now (tFaultExpiry s) := by
  have heq : tFaultExpiry s = (s.passTo (s.pw.faultFrom + 100000 * s.get PW_TFAULT.MS)).pavaneStart 5 none := by
    obtain ⟨n, c, f, hpass⟩ := s.passTo_eq (s.pw.faultFrom + 100000 * s.get PW_TFAULT.MS)
    have hcould : ((s.flag PW_STATUS.FAULTEP && s.runningSet) && s.sv.pavane.isNone && s.pw.stop.isNone) = true := by
      rw [hepisode, hrunning, hpavane, hstop]
      rfl
    have hstarts : (({ s with now := n, clock := c, frac := f } : State).flag SV_STATUS.ARMED &&
        s.pw.faulted &&& saveRails == 0) = true := by
      rw [show ({ s with now := n, clock := c, frac := f } : State).flag SV_STATUS.ARMED = true from harmed, hrails]
      rfl
    rw [tFaultExpiry, if_pos hcould, State.onTime_due s _ hdue, hpass]
    exact if_pos hstarts
  rw [heq]
  exact State.pavaneStart_started _ 5 none

theorem save_started {op : Op} (hring : op.ring < 16) (hopen : RingOpen s op.ring) (hext : op.ext = [])
    (hdst : op.dst = 0) (hsrc : op.src = 0) (himm : op.imm9 = 0) (hpower : s.powerIn [standby, active, quiet, maint] = true)
    (hstate : s.svState ≠ svSaving) (hstop : s.pw.stop = none) : PavaneStarted 4 s.now (save op s) := by
  have hkept := s.saveKept_admitted hring (unitCost 0x1B)
  have hunits := hkept.view
  simp only [saveUnits, Prod.mk.injEq] at hunits
  obtain ⟨-, hpw, -, hnow, -⟩ := hunits
  have heq : save op s =
      (s.admitted op (unitCost 0x1B)).pavaneStart 4 (some (s.opRef op.ring 0x1B)) := by
    rw [save, hopen.issue_eq, hkept.powerIn, hkept.svState, hpw, hpower, hstop, hext, hdst, hsrc, himm,
      bne_iff_ne.mpr hstate]
    exact State.judge_ok ..
  rw [heq, ← hnow]
  exact State.pavaneStart_started _ 4 _

/-- Settles O39: the start causes, the flush, the save set, the abandon and the shutdown, each by its own lemma. -/
theorem pavaneResults : Obligations.PavaneResults := by
  intro s
  refine ⟨fun hsaves hlow => ⟨_, rfl, criticalCondition_started hsaves hlow⟩,
    fun hsaves hwarned => ⟨_, rfl, saveNLow_started hsaves hwarned⟩,
    fun from_ hsaves hfrom hdue => ⟨_, rfl, graceExpiry_started hsaves hfrom hdue⟩,
    fun hsaves hlow hwarning hgrace => ⟨_, rfl, warningCondition_started hsaves hlow hwarning hgrace⟩,
    fun hepisode hrunning hpavane hstop hdue harmed hrails =>
      ⟨_, rfl, tFaultExpiry_started hepisode hrunning hpavane hstop hdue harmed hrails⟩,
    fun op hwf hopen hext hdst hsrc himm hpower hstate hstop =>
      ⟨_, rfl, save_started (Op.lt_of_wf hwf).1 hopen hext hdst hsrc himm hpower hstate hstop⟩, ?flush, ?written,
    ?abandon, ?shutdown⟩
  case flush =>
    intro p work hpavane hstep
    obtain ⟨hset, hout, hpack⟩ := pavaneFlushDone_results hpavane hstep work
    exact ⟨fun h hrails => ⟨_, rfl, hset h hrails⟩, fun h hrails => ⟨_, rfl, hout h hrails⟩, fun h => ⟨_, rfl, hpack h⟩⟩
  case written =>
    intro p work hpavane hstep
    obtain ⟨hroom, hfull⟩ := saveSetWritten_results hpavane hstep work
    exact ⟨fun h => ⟨_, rfl, hroom h⟩, fun h => ⟨_, rfl, hfull h⟩⟩
  case abandon =>
    intro p energy mram hpavane hstep
    exact ⟨_, congrArg Outcome.next (pavaneAbandon_eq hpavane hstep energy mram), s.abandonSave_results p energy mram⟩
  case shutdown =>
    intro p c hpavane hstop
    exact ⟨_, rfl, pavaneShutdownDone_results hpavane hstop⟩

end
end Sys2Proof.Machine

/-! ## A patrol pass that meets nothing (R216, R229, R232) -/

namespace Sys2Proof.Machine

open Reg

/-- An operation whose reads were all clean, and that programmed nothing, leaves the store as it was. -/
theorem State.flashWork_clean (s : State) (source : Nat) (tests : Bool) : s.flashWork source tests ⟨[], []⟩ = s := by
  cases tests <;> rfl

/-- R232: the end of a retention scan shows in its flag and in the share of background work. -/
theorem State.get_endScan (s : State) {g : Field} (hscan : g.key ≠ FL_STATUS.RETSCAN.key := by decide)
    (hshare : g.key ≠ FL_BGSHARE.PCT.key := by decide) (hrate : g.key ≠ SH_FLASHRATE.MBS.key := by decide) :
    s.endScan.get g = s.get g := by
  unfold State.endScan
  split
  · rw [State.showFlashRate, State.get_set_ne _ _ hrate, State.get_set_ne _ _ hshare, State.setFlag,
      State.get_set_ne _ _ hscan]
  · rfl

/-- R216, R229: a pass that meets no uncorrectable codeword leaves FL_UNCORR as it stands. -/
theorem uncorr_patrolDone_clean (codewords : Nat) (s : State) :
    (patrolDone codewords ⟨[], []⟩ s).get FL_UNCORR.COUNT = s.get FL_UNCORR.COUNT := by
  unfold patrolDone
  split
  · dsimp only
    rw [State.get_setFl, State.get_endScan, State.get_raise_shadow, State.flashWork_clean]
  · rfl

/-- ACTIVE with patrol running, FL_UNCORR holding 2²⁴, the least value that its 24 bits cannot. -/
def State.uncorrPastWidth : State :=
  { State.reset with
    coreUp := true
    regs := [(FL_STATUS.READY.key, 1), (FL_STATUS.PATROL.key, 1), (FL_UNCORR.COUNT.key, 2 ^ 24),
      (PW_STATE.STATE.key, active)] }

/-- Refutes O41: the clause on a patrol pass takes FL_UNCORR modulo 2²⁴ whatever the pass met, and bounds the register
before it by nothing. A pass that meets no uncorrectable codeword writes no FL_UNCORR, so a value beyond the field's
width stands. -/
theorem not_flashResults : ¬ Obligations.FlashResults := by
  unfold Obligations.FlashResults
  intro h
  obtain ⟨-, -, -, hpatrol, -⟩ := h State.uncorrPastWidth
  obtain ⟨t, hnext, -, -, -, -, huncorr⟩ := hpatrol 0 ⟨[], []⟩ (by decide) (by decide) (by decide)
  have ht : t = patrolDone 0 ⟨[], []⟩ State.uncorrPastWidth := (Host.Outcome.next.inj hnext).symm
  have hstands : State.uncorrPastWidth.get FL_UNCORR.COUNT = 2 ^ 24 := rfl
  rw [ht, uncorr_patrolDone_clean, hstands] at huncorr
  exact absurd huncorr (by decide)

end Sys2Proof.Machine

/-! ## What stands of the power unit (R237 to R261) -/

namespace Sys2Proof.Machine

set_option Elab.async false

open Reg Host

/-- The places of the power unit's registers. -/
def powerPlace (off _ : Nat) : Bool := decide (off / 0x1000 = 7)

/-- What the power unit holds, and Pavane. -/
def powerView (s : State) : Power × Option Pavane := (s.pw, s.sv.pavane)

/-- From `s` to `t` the power unit stands with its registers, and Pavane. -/
abbrev PowerKept (s t : State) : Prop := Stands powerPlace powerView s t

/-- The power unit without what its rails, its margins and the instructions that wait hold. -/
def Power.plan (p : Power) : Power :=
  { p with rails := [], pstate := [], railOns := [], railOffs := [], margins := [], returning := [] }

def planView (s : State) : Power × Option Pavane := (s.pw.plan, s.sv.pavane)

/-- From `s` to `t` the power unit's registers stand, its plan, and Pavane. -/
abbrev PlanKept (s t : State) : Prop := Stands powerPlace planView s t

/-- The places of the rails' states and enables, and of what the rails are judged by. -/
def railPlace (off _ : Nat) : Bool := decide (0x7014 ≤ off ∧ off < 0x7040 ∨ 0x7100 ≤ off ∧ off < 0x8000)

/-- From `s` to `t` the rails' states and enables stand, the power unit's plan, and Pavane. -/
abbrev RailsKept (s t : State) : Prop := Stands railPlace planView s t

theorem powerPlace_iff {off lo : Nat} : powerPlace off lo = true ↔ off / 0x1000 = 7 := by
  simp [powerPlace]

theorem powerPlace_eq_false {off lo : Nat} (h : off / 0x1000 ≠ 7) : powerPlace off lo = false := by
  simpa [powerPlace] using h

theorem powerPlace_of_railPlace {off lo : Nat} (h : railPlace off lo = true) : powerPlace off lo = true := by
  have hoff := of_decide_eq_true h
  exact powerPlace_iff.mpr (by omega)

theorem SameUnits.powerView {s t : State} (h : SameUnits s t) : powerView t = powerView s := by
  rw [Machine.powerView, h.pw, h.sv, Machine.powerView]

section
variable {s t u : State}

/-! ### Frames that say less -/

theorem Stands.plan (h : PowerKept s t) : PlanKept s t :=
  ⟨h.get, congrArg (fun v : Power × Option Pavane => (v.1.plan, v.2)) h.view⟩

theorem Stands.rails (h : PlanKept s t) : RailsKept s t :=
  ⟨fun g hlo hg => h.get g hlo (powerPlace_of_railPlace hg), h.view⟩

theorem Stands.pw (h : PowerKept s t) : t.pw = s.pw := (Prod.mk.inj h.view).1

theorem Stands.stop (h : Stands railPlace planView s t) : t.pw.stop = s.pw.stop :=
  congrArg (fun v : Power × Option Pavane => v.1.stop) h.view

/-! ### Events, completions, thresholds and flags -/

theorem Stands.powerRaise {code w5 w6 w7 : Nat} (h : PowerKept s t) : PowerKept s (t.raise code w5 w6 w7) := by
  refine .raise h (fun g hlo hg => ?_) (SameUnits.raise t code w5 w6 w7).powerView
  have hblock := powerPlace_iff.mp hg
  exact not_eventField hlo (by omega) (by omega) (by omega)

theorem Stands.powerQueueFault {code w5 w6 w7 : Nat} (h : PowerKept s t) : PowerKept s (t.queueFault code w5 w6 w7) :=
  .ite (.withMn h) (.set h)

theorem Stands.powerRaiseFault {code w5 w6 w7 : Nat} (h : PowerKept s t) : PowerKept s (t.raiseFault code w5 w6 w7) :=
  .powerQueueFault (.powerRaise h)

theorem Stands.powerPost {c : OpRef} {status result : Nat} (h : PowerKept s t) :
    PowerKept s (t.post c status result) := by
  refine h.trans ⟨fun g hlo hg => ?_, ?_⟩
  · have hblock := powerPlace_iff.mp hg
    exact t.get_post c status result (not_postField hlo (by omega))
  · exact State.post_same (view := powerView) (fun _ _ _ => rfl) (fun _ _ _ => rfl) (fun _ _ _ => rfl)
      (fun _ _ _ => rfl) t c status result

theorem Stands.powerPostAll {l : List (OpRef × Nat × Nat)} (h : PowerKept s t) : PowerKept s (t.postAll l) :=
  .foldl h fun _ _ h => .powerPost h

/-- A register of a table of another block. -/
theorem Stands.powerTable {base n lo width reset v : Nat} (h : PowerKept s t) (hbase : (base + n) / 0x1000 ≠ 7)
    (hlo : lo < 32 := by decide) : PowerKept s (t.set ⟨base + n, lo, width, reset⟩ v) :=
  .set h (powerPlace_eq_false hbase) hlo

theorem Stands.powerRetune {n : Nat} (h : PowerKept s t) : PowerKept s (t.retune n) :=
  .powerTable (.powerTable h (by omega)) (by omega)

theorem Stands.powerChannelBit {f0 f1 : Field} {n : Nat} {b : Bool} (h : PowerKept s t)
    (h0 : powerPlace f0.off f0.lo = false) (h1 : powerPlace f1.off f1.lo = false) (hlo0 : f0.lo < 32)
    (hlo1 : f1.lo < 32) : PowerKept s (t.setChannelBit f0 f1 n b) := .ite (.set h h0 hlo0) (.set h h1 hlo1)

theorem Stands.powerDropFlag {n : Nat} (h : PowerKept s t) : PowerKept s (t.dropFlag n) :=
  .ite (.withMn (.powerChannelBit (.powerChannelBit h (by decide) (by decide) (by decide) (by decide)) (by decide)
    (by decide) (by decide) (by decide))) h

theorem Stands.powerDropFlags (h : PowerKept s t) : PowerKept s t.dropFlags := .foldl h fun _ _ h => .powerDropFlag h

/-! ### The path, the DRAM and time -/

theorem Stands.powerPath (h : PowerKept s t) : PowerKept s t.followPath := .ite h (.withBt h)

theorem Stands.powerOwn {new cause : Nat} {block : Bool} (h : PowerKept s t) :
    PowerKept s (t.ownChange new block cause) := .powerRaise (.set (.set h))

theorem Stands.powerDram (h : PowerKept s t) : PowerKept s t.dramRailStart :=
  .powerOwn (.set (.set (.set (.set (.set (.congr h))))))

theorem Stands.powerTime {d : Nat} (h : PowerKept s t) : PowerKept s (t.passTo d) := by
  obtain ⟨n, c, f, heq⟩ := t.passTo_eq d
  rw [heq]
  exact .congr h

theorem Stands.powerVcc (h : PowerKept s t) : PowerKept s t.noteVcc := .ite (.congr h) h

/-! ### What a rail takes with it (R311, R393, R593) -/

theorem Stands.powerClock (h : PowerKept s t) : PowerKept s t.correctClock := .congr h

theorem Stands.powerXtal (h : PowerKept s t) : PowerKept s t.showXtal := .ite (.powerClock (.set h)) h

theorem Stands.powerGate {which : Nat} {before after : Bool} (h : PowerKept s t) :
    PowerKept s (t.gateEvent which before after) := .ite h (.powerRaise h)

theorem Stands.powerQuality {q : Nat} (h : PowerKept s t) : PowerKept s (t.setQuality q) :=
  .ite h (.powerGate (.powerGate (.powerRaise (.set (.set h)))))

theorem Stands.powerSource {new : Nat} (h : PowerKept s t) : PowerKept s (t.selectSource new) := by
  have hraised {v w : Nat} {x : TimeUnit} {w5 w6 w7 : Nat} : PowerKept s
      (({ (t.set TM_STATUS.SRC v).set TM_CLASS.CLASS w with tm := x } : State).raise 0x501 w5 w6 w7) :=
    .powerRaise (.withTm (.set (.set h)))
  exact .ite h (.ite (.powerQuality hraised) hraised)

theorem Stands.powerSources (h : PowerKept s t) : PowerKept s t.dropSources := .powerSource (.withTm (.set h))

theorem Stands.powerUart {p : Nat} (h : PowerKept s t) : PowerKept s (t.uaStop p) := by
  have hcount {u : State} (hu : PowerKept s u) : PowerKept s (u.uaCount p) := .setPort (.powerTable hu (by omega))
  exact .setPort (hcount (.powerTable (.powerTable h (by omega)) (by omega)))

theorem Stands.powerUarts (h : PowerKept s t) : PowerKept s t.uaStopAll := .foldl h fun _ _ h => .powerUart h

theorem Stands.powerOtp {n v : Nat} (h : PowerKept s t) : PowerKept s (t.setOtpState n v) := .powerTable h (by omega)

theorem Stands.powerOwner {ref : OpRef} {action off : Nat} (h : PowerKept s t) :
    PowerKept s (seOwnerDone ref action off t) := by
  have hburn {slot : Nat} {key : List Nat} : PowerKept s (t.burnOwner slot key) :=
    .setSe (.powerOtp (.foldl h fun _ _ h => .powerTable h (by omega)))
  have hrevoke {slot : Nat} : PowerKept s (t.burnRevoke slot) := by
    unfold State.burnRevoke
    exact .when (.powerOtp (.powerOtp h)) (.set (.powerOtp (.powerOtp h)))
  exact .ite (.ite (.powerPost (.powerRaise hburn)) (.powerPost (.powerRaise hrevoke))) (.powerPost h)

theorem Stands.powerLife (h : PowerKept s t) : PowerKept s t.stopLife := by
  unfold State.stopLife
  exact .ite (.congr h) h

theorem Stands.powerEndBurn (h : PowerKept s t) : PowerKept s t.endBurn := by
  unfold State.endBurn
  split
  · exact h
  · next j _ _ =>
    cases hburns : t.seBurns j with
    | false => exact h
    | true =>
        obtain ⟨ref, action, off, hfinish⟩ := State.finish_of_burns hburns
        have hdrawn : PowerKept s (if true && t.sv.pavane.isNone then t.draw else (boolNat true, t)).2 := by
          split
          · exact .congr h
          · exact h
        generalize (if true && t.sv.pavane.isNone then t.draw else (boolNat true, t)) = p at hdrawn ⊢
        obtain ⟨v, u⟩ := p
        dsimp only
        rw [hfinish]
        exact .ite (.powerOwner hdrawn) hdrawn

/-- R593: the power unit's registers outlast the core domain. -/
theorem Stands.planDropCore (h : PlanKept s t) : PlanKept s t.dropCore := by
  refine h.trans ⟨fun g hlo hg => ?_, rfl⟩
  have hblock := powerPlace_iff.mp hg
  have houtlasts : keyOutlasts g.key = true := by
    have hslot : g.key / 32 = g.off := by
      simp only [Field.key]
      omega
    have halways : alwaysOn g.off = true := by
      simp only [alwaysOn, Bool.or_eq_true, Bool.and_eq_true, decide_eq_true_eq]
      omega
    simp only [keyOutlasts, outlastsCore, hslot, halways, Bool.true_or]
  have hfind : sparseFind g.key t.dropCore.regs = sparseFind g.key t.regs :=
    (sparseFind_filter keyOutlasts g.key t.regs).trans (if_pos houtlasts)
  rw [State.get, hfind, State.get]

theorem Stands.planWantRail {k : Nat} {b : Bool} (h : PlanKept s t) : PlanKept s (t.wantRail k b) := .congr h

theorem Stands.planCore (h : PlanKept s t) : PlanKept s t.coreStop := by
  have hended : PlanKept s (({ t.stopLife with coreUp := false } : State).endBurn) :=
    h.trans (Stands.plan (.powerEndBurn (.congr (.powerLife (.refl t)))))
  have hdown : PlanKept s (({ t.stopLife with coreUp := false } : State).endBurn).dropCore.stewardAlone :=
    .when (.planDropCore hended) (.set (.planDropCore hended))
  exact .ite (.planWantRail (.planWantRail (hdown.trans (Stands.plan (.powerRetune (.powerRetune (.refl _))))))) h

end
end Sys2Proof.Machine

/-! ## Rails released, states entered, and what ends in LATCHED (R237, R241, R242, R246, R252) -/

namespace Sys2Proof

theorem bitOf_mod (n : Nat) {w i : Nat} (h : i < w) : bitOf (n % 2 ^ w) i = bitOf n i := by
  rw [bitOf_eq_testBit, bitOf_eq_testBit, Nat.testBit_mod_two_pow, decide_eq_true h, Bool.true_and]

theorem bitOf_putBit_same (n i : Nat) (b : Bool) : bitOf (putBit n i b) i = b := by
  cases b
  · exact bitOf_clearBit_same n i
  · exact bitOf_setBit_same n i

theorem bitOf_or (m n i : Nat) : bitOf (m ||| n) i = (bitOf m i || bitOf n i) := by
  simp only [bitOf_eq_testBit, Nat.testBit_or]

theorem bitOf_two_pow (k i : Nat) : bitOf (2 ^ k) i = decide (k = i) := by
  rw [bitOf_eq_testBit, Nat.testBit_two_pow]

end Sys2Proof

namespace Sys2Proof.Machine

set_option Elab.async false

open Reg Host

section
variable {s t u : State}

/-! ### Single bits, flags and rails -/

theorem State.maskBit_setMaskBit_same (s : State) {f : Field} {i : Nat} (b : Bool) (hi : i < f.width) :
    (s.setMaskBit f i b).maskBit f i = b := by
  rw [State.maskBit, State.setMaskBit, State.get_set_same, bitOf_mod _ hi, bitOf_putBit_same]

theorem State.maskBit_setBit_ne (s : State) {f : Field} {i j : Nat} (hj : j < f.width) (hne : j ≠ i) :
    (s.setMaskBit f i true).maskBit f j = s.maskBit f j := by
  rw [State.maskBit, State.setMaskBit, State.get_set_same, bitOf_mod _ hj]
  exact bitOf_setBit_ne _ hne

theorem State.rail_setRail_same (s : State) (k : Nat) (x : Rail) : (s.setRail k x).rail k = x :=
  sparseFind_store_same Rail.idle x k s.pw.rails

theorem State.rail_setRail_ne (s : State) {j k : Nat} (x : Rail) (h : j ≠ k) : (s.setRail k x).rail j = s.rail j := by
  rw [State.rail, State.setRail, sparseFind_store_ne _ _ _ h, State.rail]

theorem State.get_setRail (s : State) (k : Nat) (x : Rail) (g : Field) : (s.setRail k x).get g = s.get g := rfl

theorem State.railState_setRailState_same (s : State) (k : Nat) {st : Nat} (hst : st < 8) :
    (s.setRailState k st).railState k = st :=
  (State.get_set_same _ _ _).trans (Nat.mod_eq_of_lt hst)

theorem State.railState_setRailState_ne (s : State) {j k : Nat} (st : Nat) (h : j ≠ k) :
    (s.setRailState k st).railState j = s.railState j := by
  refine State.get_set_ne s st ?_
  simp only [Field.key, PW_RAIL_C.STATE]
  omega

theorem railPlace_state {k : Nat} (hk : k < 12) : railPlace (PW_RAIL_C.STATE k).off (PW_RAIL_C.STATE k).lo = true := by
  simp only [PW_RAIL_C.STATE]
  exact decide_eq_true (by omega)

theorem Stands.railState (h : RailsKept s t) {k : Nat} (hk : k < 12) : t.railState k = s.railState k :=
  h.get _ (by decide : 0 < 32) (railPlace_state hk)

theorem Stands.railOn (h : RailsKept s t) (k : Nat) : t.railOn k = s.railOn k := by
  rw [State.railOn, State.maskBit, h.get PW_ON.EN (by decide) (by decide), State.railOn, State.maskBit]

theorem Stands.powerState (h : PlanKept s t) : t.power = s.power := h.get PW_STATE.STATE (by decide) (by decide)

theorem Stands.powerFlag (h : PlanKept s t) {f : Field} (hplace : powerPlace f.off f.lo = true := by decide)
    (hlo : f.lo < 32 := by decide) : t.flag f = s.flag f := by
  rw [State.flag, h.get f hlo hplace, State.flag]

/-! ### A rail that is released (R242) -/

/-- Rail `k` is released: its enable and its state, and `x`, which the sequencer holds of it. -/
def State.released (s : State) (k : Nat) (x : Rail) : State :=
  ((s.setMaskBit PW_ON.EN k false).setRailState k railStopping).setRail k x

/-- R242, R593: what a rail takes with it is no register of the power unit. -/
theorem State.releaseRail_kept (s : State) (k : Nat) : ∃ x, PlanKept (s.released k x) (s.releaseRail k) := by
  have htime {u v : State} {b : Bool} (h : PowerKept u v) : PowerKept u (v.when b fun s => s.dropSources.uaStopAll) :=
    .when h (.powerUarts (.powerSources h))
  have hxtal {u v : State} {b : Bool} (h : PowerKept u v) : PowerKept u (v.when b (·.showXtal)) :=
    .when h (.powerXtal h)
  have hreleased (x : Rail) : PlanKept (s.released k x) ((((s.released k x).retune k).when (k == 2) fun s =>
      s.dropSources.uaStopAll).when (k == 10) (·.showXtal)) :=
    (hxtal (htime (.powerRetune (.refl _)))).plan
  exact ⟨_, .when (hreleased _) (.planCore (hreleased _))⟩

theorem State.get_released_ne (s : State) {k : Nat} (x : Rail) {g : Field} (hon : g.key ≠ PW_ON.EN.key)
    (hstate : g.key ≠ (PW_RAIL_C.STATE k).key) : (s.released k x).get g = s.get g := by
  rw [State.released, State.get_setRail, State.setRailState, State.get_set_ne _ _ hstate, State.setMaskBit,
    State.get_set_ne _ _ hon]

theorem State.railOn_released (s : State) {k : Nat} (hk : k < 12) (x : Rail) : (s.released k x).railOn k = false := by
  have hplace : PW_ON.EN.key ≠ (PW_RAIL_C.STATE k).key := by
    simp only [Field.key, PW_ON.EN, PW_RAIL_C.STATE]
    omega
  rw [State.railOn, State.maskBit, State.released, State.get_setRail, State.setRailState, State.get_set_ne _ _ hplace]
  exact s.maskBit_setMaskBit_same false hk

theorem State.railState_released (s : State) (k : Nat) (x : Rail) : (s.released k x).railState k = railStopping := by
  rw [State.railState, State.released, State.get_setRail]
  exact State.railState_setRailState_same _ k (by decide)

/-- R242, step 1: rail `k` is stopping, and the plan of the power unit stands. -/
theorem State.releaseRail_results (s : State) {k : Nat} (hk : k < 12) :
    (s.releaseRail k).railOn k = false ∧ (s.releaseRail k).railState k = railStopping ∧
      planView (s.releaseRail k) = planView s := by
  obtain ⟨x, hkept⟩ := s.releaseRail_kept k
  exact ⟨(hkept.rails.railOn k).trans (s.railOn_released hk x),
    (hkept.rails.railState hk).trans (s.railState_released k x), hkept.view⟩

/-! ### States entered (R249, R251, R252) -/

theorem Stands.railsBack {m step : Nat} (h : RailsKept s t) (hm : m < 4) : RailsKept s (t.marginBack m step) := by
  refine .set (.congr h) ?_ (by decide : 4 < 32)
  simp only [PW_MG.STEP]
  exact decide_eq_false (by omega)

theorem Stands.railsMargins (h : RailsKept s t) : RailsKept s t.marginsNominal := by
  have hback : RailsKept s ((List.range 4).foldl (fun (s : State) m =>
      if s.get (PW_MG.STEP m) = 0 then s else s.marginBack m (s.get (PW_MG.STEP m)))
      { t with pw := { t.pw with margins := [] } }) :=
    .foldl (.congr h) fun _ hm h => .ite h (.railsBack h (List.mem_range.mp hm))
  exact hback.trans (Stands.powerPostAll (.refl _)).plan.rails

theorem Stands.railsLine (h : RailsKept s t) : RailsKept s t.showFaultLine := .set (.set h)

theorem Stands.railsEnter {new cause : Nat} (h : RailsKept s t) : RailsKept s (t.enterState new cause) := by
  have hentered : RailsKept s
      (((t.when (t.power == maint && new != maint) (·.marginsNominal)).set PW_STATE.PREV t.power).set
        PW_STATE.STATE new) :=
    .set (.set (.when h (.railsMargins h)))
  exact .railsLine (hentered.trans (Stands.powerPath (.powerDropFlags (.powerRaise (.refl _)))).plan.rails)

theorem Stands.railsTarget {target : Nat} (h : RailsKept s t) : RailsKept s (t.enterTarget target) :=
  .railsEnter (.when h (h.trans (Stands.powerOwn (.refl _)).plan.rails))

/-! ### What ends in LATCHED (R241, R242, R246) -/

theorem Stands.seq (h : RailsKept s t) : t.pw.seq = s.pw.seq :=
  congrArg (fun v : Power × Option Pavane => v.1.seq) h.view

/-- A stop sequence runs, or power state `new` has been entered, where Pavane has ended; no start sequence runs. -/
structure Downward (new : Nat) (t : State) : Prop where
  seq : t.pw.seq = 0
  stops : t.pw.stop.isSome = true ∨ (t.power = new ∧ t.sv.pavane = none)

/-- R246, R252: the latch record is written and LATCHED entered. -/
def State.latchEntered (s : State) : State :=
  ({ s with pw := { s.pw with stop := none }, sv := { s.sv with pavane := none } } :
    State).writeLatch.endEpisode.enterState latched 4

theorem State.endStop_latched_eq (s : State) :
    ∃ x, s.endStop .latched = { (s.latchEntered.set TM_SAVTCXO.MIN 0).set TM_SAVXT.MIN 0 with tm := x } := ⟨_, rfl⟩

theorem State.latchEntered_results (hseq : s.pw.seq = 0) : Downward latched s.latchEntered := by
  have hlatch (v : State) : v.writeLatch.endEpisode.pw.seq = v.pw.seq ∧
      v.writeLatch.endEpisode.sv.pavane = v.sv.pavane := by
    unfold State.writeLatch
    split <;> exact ⟨rfl, rfl⟩
  obtain ⟨hlatched, hnone⟩ := hlatch { s with pw := { s.pw with stop := none }, sv := { s.sv with pavane := none } }
  unfold State.latchEntered
  generalize State.endEpisode _ = u at hlatched hnone ⊢
  obtain ⟨hpower, hview⟩ := u.enterState_results latched 4
  have hentered : RailsKept u (u.enterState latched 4) := .railsEnter (.refl u)
  exact ⟨(hentered.seq.trans hlatched).trans hseq, .inr ⟨hpower, (Prod.mk.inj hview).1.trans hnone⟩⟩

/-- R246, R252: the end of the stop sequence that a latch began. -/
theorem State.endStop_latched (hseq : s.pw.seq = 0) : Downward latched (s.endStop .latched) := by
  obtain ⟨hend, hstops⟩ := State.latchEntered_results hseq
  obtain ⟨x, heq⟩ := s.endStop_latched_eq
  rw [heq]
  generalize s.latchEntered = u at hend hstops ⊢
  have hpower : ((u.set TM_SAVTCXO.MIN 0).set TM_SAVXT.MIN 0).power = u.power := by
    rw [State.power, State.get_set_ne _ _ (by decide), State.get_set_ne _ _ (by decide), State.power]
  exact ⟨hend, hstops.imp_right fun ⟨hlatched, hnone⟩ => ⟨hpower.trans hlatched, hnone⟩⟩

/-- R242: a stop sequence begins with its first rail, or ends at once. -/
theorem stopNext_latched (l : List Nat) (hseq : s.pw.seq = 0) : Downward latched (stopNext .latched [] l s) := by
  cases l with
  | nil =>
      unfold stopNext
      split
      · exact ⟨hseq, .inl rfl⟩
      · exact State.endStop_latched hseq
  | cons k l =>
      obtain ⟨x, hkept⟩ := s.releaseRail_kept k
      exact ⟨hkept.rails.seq.trans hseq, .inl rfl⟩

/-- R191: where a stop sequence runs, or Pavane has ended, an abandon of Pavane leaves the power unit alone. -/
theorem Downward.pavaneAbandon {new : Nat} (h : Downward new s) (energy mram : Bool) :
    Downward new (pavaneAbandon energy mram s) := by
  unfold Machine.pavaneAbandon
  split
  · next p hpavane =>
    have hstop : s.pw.stop.isSome = true := h.stops.resolve_right fun ⟨_, hnone⟩ => by
      rw [hnone] at hpavane
      cases hpavane
    have hstays (u : State) (q : Pavane) (hpw : u.pw = s.pw) : Downward new (u.pavaneTo q) := by
      have heq : u.pavaneTo q = { u with sv := { u.sv with pavane := some q } } := by
        unfold State.pavaneTo State.pavaneDown
        dsimp only
        rw [hpw, if_neg]
        cases hs : s.pw.stop
        · simp [hs] at hstop
        · simp
      rw [heq]
      exact ⟨by rw [← h.seq, ← hpw], .inl (by rwa [← hpw] at hstop)⟩
    split
    · exact hstays _ _ (Stands.powerQueueFault (.when (.refl s) (.congr (.refl s)))).pw
    · exact h
  · exact h

/-- R241, R244, R246: a latch ends every start sequence, and every rail stops before LATCHED. -/
theorem State.latch_results (s : State) (cause rail : Nat) : Downward latched (s.latch cause rail) := by
  unfold State.latch State.beginStop
  refine Downward.pavaneAbandon (stopNext_latched _ ?_) true true
  exact (Stands.seq (.when (.refl _) (.railsMargins (.refl _)))).trans (State.endSequence_ended _).seq

/-- R241: a start failure latches the device, but for that of an EN11 that is to be isolated. -/
theorem State.startFailure_latches (s : State) {k : Nat} (cause : Nat)
    (h : k = 11 → s.flag (PW_RAIL_A.ISOLATE 11) = false) : Downward latched (s.startFailure k cause) := by
  unfold State.startFailure
  rw [if_neg fun ⟨hk, hisolate⟩ => by rw [h hk] at hisolate; cases hisolate]
  exact State.latch_results _ 1 k

/-- R241, R245: EN11 alone stops, isolated. -/
theorem State.isolate_results (s : State) (cause : Nat) :
    (s.isolate cause).railState 11 = railStopping ∧ (s.isolate cause).railOn 11 = false ∧
      (s.isolate cause).pw.isolated = true ∧ (s.isolate cause).pw.stop = s.pw.stop ∧
      (s.isolate cause).flag PW_STATUS.FAULTEP = s.flag PW_STATUS.FAULTEP := by
  have hraised : PowerKept s (s.raise 0x38B 11 cause 0) := .powerRaise (.refl s)
  unfold State.isolate
  generalize s.raise 0x38B 11 cause 0 = u at hraised ⊢
  let v : State := { u with pw := { u.pw with isolated := true, aux := false, seq := clearBit u.pw.seq 11 } }
  obtain ⟨hoff, hstate, hview⟩ := v.releaseRail_results (by decide : 11 < 12)
  obtain ⟨x, hkept⟩ := v.releaseRail_kept 11
  have hepisode : (v.released 11 x).flag PW_STATUS.FAULTEP = u.flag PW_STATUS.FAULTEP :=
    congrArg (· != 0) (v.get_released_ne x (g := PW_STATUS.FAULTEP) (by decide) (by decide))
  have hstop : u.pw.stop = s.pw.stop := by rw [hraised.pw]
  exact ⟨hstate, hoff, congrArg (fun w : Power × Option Pavane => w.1.isolated) hview,
    (congrArg (fun w : Power × Option Pavane => w.1.stop) hview).trans hstop,
    hkept.powerFlag.trans (hepisode.trans hraised.plan.powerFlag)⟩

/-! ### PSTATEs and RAILs that end (R241, R254, R257) -/

theorem Stands.railsEndOns {status : Nat} (h : RailsKept s t) : RailsKept s (t.endRailOns status) := by
  have hended : RailsKept s { t with pw := { t.pw with railOns := [] } } := .congr h
  exact hended.trans (Stands.powerPostAll (.refl _)).plan.rails

theorem Stands.railsEndPstates {status : Nat} (h : RailsKept s t) : RailsKept s (t.endPstates status) := by
  have hentered : RailsKept s ((t.pw.pstate.filter fun w => w.target != standby).foldl (fun (s : State) w =>
      s.enterTarget w.target)
        { t with pw := { t.pw with pstate := t.pw.pstate.filter fun w => w.target == standby } }) :=
    .foldl (.congr h) fun _ _ h => .railsTarget h
  exact hentered.trans (Stands.powerPostAll (.refl _)).plan.rails

theorem Stands.railsShowSeq (h : RailsKept s t) : RailsKept s t.showSeq := .set h

/-- R241, R245: a start failure of an EN11 that is to be isolated. -/
theorem State.startFailure_isolates (s : State) (cause : Nat) (h : s.flag (PW_RAIL_A.ISOLATE 11) = true) :
    (s.startFailure 11 cause).railState 11 = railStopping ∧ (s.startFailure 11 cause).railOn 11 = false ∧
      (s.startFailure 11 cause).pw.isolated = true ∧ (s.startFailure 11 cause).pw.stop = s.pw.stop := by
  obtain ⟨hstate, hoff, hisolated, hstop, -⟩ := s.isolate_results 1
  have heq : s.startFailure 11 cause = (((s.isolate 1).endRailOns 0x34).endPstates 0x34).showSeq := if_pos ⟨rfl, h⟩
  have hkept : RailsKept (s.isolate 1) (s.startFailure 11 cause) := by
    rw [heq]
    exact .railsShowSeq (.railsEndPstates (.railsEndOns (.refl _)))
  exact ⟨(hkept.railState (by decide)).trans hstate, (hkept.railOn 11).trans hoff,
    (congrArg (fun w : Power × Option Pavane => w.1.isolated) hkept.view).trans hisolated, hkept.stop.trans hstop⟩

end
end Sys2Proof.Machine

/-! ## PSTATE (R251 to R256) -/

namespace Sys2Proof.Machine

set_option Elab.async false

open Reg Host

/-- The places of the units' registers. -/
def unitPlace (off _ : Nat) : Bool := decide (0x3000 ≤ off)

/-- What an instruction of the power unit is judged by, beside the registers. -/
def judgedBy (s : State) : Power × SaveUnit × HostPath × Nat := (s.pw, s.sv, s.hp, s.clock)

/-- From `s` to `t` the units' registers stand, and what an instruction of the power unit is judged by. -/
abbrev UnitsKept (s t : State) : Prop := Stands unitPlace judgedBy s t

section
variable {s t u : State}

/-! ### What the admission of an instruction leaves alone (R71, R79) -/

theorem State.unitsKept_admitted (s : State) {op : Op} (hring : op.ring < 16) (cost : Nat) :
    UnitsKept s (s.admitted op cost) := by
  refine ⟨fun g hlo hg => s.get_admitted_of_off hring cost hlo ?_, ?_⟩
  · have hoff := of_decide_eq_true hg
    omega
  · exact State.admitted_same (view := judgedBy) (fun _ _ _ => rfl) (fun _ _ _ => rfl) (fun _ _ _ => rfl)
      (fun _ _ => rfl) s op cost

theorem Stands.unitsPw (h : UnitsKept s t) : t.pw = s.pw := (Prod.mk.inj h.view).1

theorem Stands.unitsHp (h : UnitsKept s t) : t.hp = s.hp := congrArg (·.2.2.1) h.view

theorem Stands.unitsClock (h : UnitsKept s t) : t.clock = s.clock := congrArg (·.2.2.2) h.view

theorem Stands.unitsFlag (h : UnitsKept s t) {f : Field} (hplace : unitPlace f.off f.lo = true := by decide)
    (hlo : f.lo < 32 := by decide) : t.flag f = s.flag f := by
  rw [State.flag, h.get f hlo hplace, State.flag]

theorem Stands.unitsPower (h : UnitsKept s t) : t.power = s.power := h.get PW_STATE.STATE (by decide) (by decide)

theorem Stands.unitsPowerIn (h : UnitsKept s t) (l : List Nat) : t.powerIn l = s.powerIn l := by
  rw [State.powerIn, h.unitsPower, State.powerIn]

theorem Stands.unitsRailState (h : UnitsKept s t) (k : Nat) : t.railState k = s.railState k := by
  refine h.get _ (by decide : 0 < 32) (decide_eq_true ?_)
  simp only [PW_RAIL_C.STATE]
  omega

theorem Stands.pstateLegal (h : UnitsKept s t) (target : Nat) : t.pstateLegal target = s.pstateLegal target := by
  rw [State.pstateLegal, h.unitsPowerIn, h.unitsPw, h.unitsHp, h.unitsFlag (f := PW_STATUS.SEQ),
    h.unitsFlag (f := PW_STATUS.FAULTEP), State.svState, h.get SV_STATUS.STATE (by decide) (by decide),
    State.pstateLegal, State.svState]

theorem Stands.auxOwed (h : UnitsKept s t) : t.auxOwed = s.auxOwed := by
  rw [State.auxOwed, h.unitsPw, h.unitsRailState, State.auxOwed]

theorem Stands.own (h : UnitsKept s t) : t.own = s.own := h.get HP_OWN.STATE (by decide) (by decide)

theorem Stands.allRefreshing (h : UnitsKept s t) : t.allRefreshing = s.allRefreshing := by
  rw [State.allRefreshing, h.get HP_CONFIG.RANKS (by decide) (by decide), h.unitsHp, State.allRefreshing]

theorem State.power_post (s : State) (c : OpRef) (status result : Nat) :
    (s.post c status result).power = s.power :=
  s.get_post c status result (not_postField (g := PW_STATE.STATE))

/-! ### The states that PSTATE enters (R251 to R254) -/

theorem State.power_enterState (s : State) {new : Nat} (cause : Nat) (hnew : new < 16) :
    (s.enterState new cause).power = new :=
  (s.enterState_results new cause).1.trans (Nat.mod_eq_of_lt hnew)

theorem State.power_enterTarget (s : State) {target : Nat} (h : target < 16) : (s.enterTarget target).power = target :=
  State.power_enterState _ 1 h

theorem State.power_releaseRail (s : State) (k : Nat) : (s.releaseRail k).power = s.power := by
  obtain ⟨x, hkept⟩ := s.releaseRail_kept k
  refine hkept.powerState.trans (s.get_released_ne x (g := PW_STATE.STATE) (by decide) ?_)
  simp only [Field.key, PW_STATE.STATE, PW_RAIL_C.STATE]
  omega

theorem State.power_enterStandby (s : State) (cause : Nat) : (s.enterStandby cause).power = standby := by
  unfold State.enterStandby
  dsimp only
  generalize s.when (s.own == 0) (·.ownChange 3 false 4) = u
  have hentered : (u.enterState standby cause).power = standby := u.power_enterState cause (by decide)
  unfold State.when
  split
  · exact (State.power_releaseRail _ _).trans hentered
  · exact hentered

/-- R241, R254: the rails that join a start sequence. -/
theorem State.startRails_results (s : State) (rails : Nat) :
    (s.startRails rails).pw.seq = s.pw.seq ||| rails ∧ (s.startRails rails).pw.pstate = s.pw.pstate ∧
      (s.startRails rails).pw.railOns = s.pw.railOns ∧ (s.startRails rails).pw.aux = s.pw.aux ∧
      (s.startRails rails).power = s.power :=
  ⟨rfl, rfl, rfl, rfl, State.get_set_ne _ _ (by decide)⟩

/-- R252: the stop sequence for DORMANT runs, or has ended at once. -/
theorem stopNext_dormant (l : List Nat) (s : State) :
    (stopNext .dormant [] l s).pw.stop.isSome = true ∨ (stopNext .dormant [] l s).power = dormant := by
  cases l with
  | nil =>
      unfold stopNext
      split
      · exact .inl rfl
      · exact .inr (State.power_enterState _ 1 (by decide))
  | cons k l =>
      unfold stopNext
      split
      · exact .inl rfl
      · exact .inl rfl

theorem State.goDormant_stops (s : State) (ref : OpRef) :
    (s.goDormant ref).pw.stop.isSome = true ∨ (s.goDormant ref).power = dormant := by
  unfold State.goDormant State.beginStop
  exact stopNext_dormant _ _

/-! ### PSTATE taken (R253, R256) -/

/-- PSTATE `ref` waits for `target` until `limit`: for self-refresh, or for EN11. -/
structure PstateWaits (ref : OpRef) (target limit : Nat) (s t : State) : Prop where
  waiting : t.pw.pstate = s.pw.pstate ++ [⟨ref, target, limit⟩]
  power : t.power = s.power
  reason : target = standby ∨ bitOf t.pw.seq 11 = true

theorem PstateWaits.of_kept {ref : OpRef} {target limit : Nat} (h : PstateWaits ref target limit u t)
    (hkept : UnitsKept s u) : PstateWaits ref target limit s t :=
  ⟨h.waiting.trans (by rw [hkept.unitsPw]), h.power.trans hkept.unitsPower, h.reason⟩

/-- R254: a PSTATE that waits for EN11, which starts. -/
theorem State.startRails_waits (s : State) (ref : OpRef) (target : Nat) : PstateWaits ref target 0 s
    (({ s with pw := { s.pw with pstate := s.pw.pstate ++ [⟨ref, target, 0⟩] } } : State).startRails (2 ^ 11)) := by
  obtain ⟨hseq, hpstate, -, -, hpower⟩ := State.startRails_results
    { s with pw := { s.pw with pstate := s.pw.pstate ++ [⟨ref, target, 0⟩] } } (2 ^ 11)
  exact ⟨hpstate, hpower, .inr (by rw [hseq, bitOf_or, bitOf_two_pow, decide_eq_true rfl, Bool.or_true])⟩

/-- R253: a PSTATE STANDBY that waits for self-refresh. -/
theorem State.standby_waits (s : State) (ref : OpRef) (limit : Nat) : PstateWaits ref standby limit s
    { s with pw := { s.pw with pstate := s.pw.pstate ++ [⟨ref, standby, limit⟩] } } := ⟨rfl, rfl, .inl rfl⟩

/-- What a legal PSTATE comes to by the state it is taken in: `enters` where nothing is owed, and else a wait. -/
structure PstateTaken (op : Op) (target limit : Nat) (enters waits : Prop) (s t : State) : Prop where
  present : s.power = target → Posted op.ring 0x14 0x01 target s t
  entered : s.power ≠ target → enters → t.power = target
  waiting : s.power ≠ target → waits → PstateWaits (s.opRef op.ring 0x14) target limit s t

section
variable {op : Op} (hring : op.ring < 16) (hopen : RingOpen s op.ring) (hext : op.ext = []) (hsrc : op.src = 0)
include hring hopen hext hsrc

/-- R256: a legal PSTATE takes effect. -/
theorem pstate_eq (hlegal : s.pstateLegal op.dst = true)
    (hrange : [dormant, standby, active, quiet, maint].contains op.dst = true) :
    pstate op s = (s.admitted op (unitCost 0x14)).pstateTo (s.opRef op.ring 0x14) op.dst op.imm9 := by
  rw [pstate, hopen.issue_eq, (s.unitsKept_admitted hring _).pstateLegal, hlegal, hrange, hext, hsrc]
  exact State.judge_ok ..

/-- R254: PSTATE to ACTIVE, QUIET or MAINT. -/
theorem pstate_running (hdst : op.dst = active ∨ op.dst = quiet ∨ op.dst = maint)
    (hlegal : s.pstateLegal op.dst = true) :
    PstateTaken op op.dst 0 (s.power ≠ standby ∨ s.auxOwed = false) (s.power = standby ∧ s.auxOwed = true) s
      (pstate op s) := by
  have hrange : [dormant, standby, active, quiet, maint].contains op.dst = true ∧ op.dst ≠ dormant ∧
      op.dst ≠ standby ∧ op.dst < 16 := by
    rcases hdst with h | h | h <;> rw [h] <;> decide
  obtain ⟨hcodes, hdormant, hstandby, hwidth⟩ := hrange
  have hkept := s.unitsKept_admitted hring (unitCost 0x14)
  rw [pstate_eq hring hopen hext hsrc hlegal hcodes, State.pstateTo, hkept.unitsPower, hkept.auxOwed]
  refine ⟨fun h => ?_, fun h hfree => ?_, fun h howed => ?_⟩
  · rw [if_pos h]
    exact (Unposted.admitted hopen _).posted hopen 0x14 0x01 op.dst
  · rw [if_neg h, if_neg hdormant, if_neg hstandby, if_neg fun ⟨hin, howed⟩ => by
      rcases hfree with hout | hpaid
      · exact hout hin
      · rw [hpaid] at howed
        cases howed]
    exact (State.power_post _ _ _ _).trans (State.power_enterTarget _ hwidth)
  · rw [if_neg h, if_neg hdormant, if_neg hstandby, if_pos howed]
    exact (State.startRails_waits _ _ _).of_kept hkept

/-- R253: PSTATE STANDBY. -/
theorem pstate_standby (hdst : op.dst = standby) (hlegal : s.pstateLegal standby = true) :
    PstateTaken op standby (s.clock + 100000 * op.imm9) (s.own ≠ 0 ∨ s.allRefreshing = true)
      (s.own = 0 ∧ s.allRefreshing = false) s (pstate op s) := by
  have hkept := s.unitsKept_admitted hring (unitCost 0x14)
  rw [pstate_eq hring hopen hext hsrc (by rwa [hdst]) (by rw [hdst]; decide), State.pstateTo, hkept.unitsPower, hdst,
    hkept.own, hkept.allRefreshing, ← hkept.unitsClock]
  refine ⟨fun h => ?_, fun h hready => ?_, fun h hwaits => ?_⟩
  · rw [if_pos h]
    exact (Unposted.admitted hopen _).posted hopen 0x14 0x01 standby
  · rw [if_neg h, if_neg (by decide), if_pos rfl, if_neg fun ⟨hown, howed⟩ => by
      rcases hready with hother | hrefreshes
      · exact hother hown
      · rw [hrefreshes] at howed
        cases howed]
    exact (State.power_post _ _ _ _).trans (State.power_enterStandby _ 1)
  · rw [if_neg h, if_neg (by decide), if_pos rfl, if_pos hwaits]
    exact (State.standby_waits _ _ _).of_kept hkept

/-- R252: PSTATE DORMANT. -/
theorem pstate_dormant (hdst : op.dst = dormant) (hlegal : s.pstateLegal dormant = true) :
    (pstate op s).pw.stop.isSome = true ∨ (pstate op s).power = dormant := by
  have hrunning : s.power ≠ dormant := by
    intro h
    have hno : [standby, active, quiet, maint].contains dormant = false := rfl
    rw [State.pstateLegal, State.powerIn, h, hno] at hlegal
    cases hlegal
  rw [pstate_eq hring hopen hext hsrc (by rwa [hdst]) (by rw [hdst]; decide), State.pstateTo,
    (s.unitsKept_admitted hring (unitCost 0x14)).unitsPower, hdst, if_neg hrunning, if_pos rfl]
  exact State.goDormant_stops _ _

end

/-- Settles O26: the three running states by one lemma, STANDBY and DORMANT by one each. -/
theorem pstateResults : Obligations.PstateResults := by
  unfold Obligations.PstateResults
  intro s op hwf hopen hext hsrc
  have hring := (Op.lt_of_wf hwf).1
  have hrunning {target : Nat} (hdst : target = active ∨ target = quiet ∨ target = maint)
      (hlegal : s.pstateLegal target = true) :=
    pstate_running (op := { op with dst := target }) hring hopen hext hsrc hdst hlegal
  have hwaits {target limit : Nat} {t : State} (h : PstateWaits (s.opRef op.ring 0x14) target limit s t) :
      t.pw.pstate = s.pw.pstate ++ [⟨s.opRef op.ring 0x14, target, limit⟩] ∧ t.power = s.power ∧
        (target = standby ∨ bitOf t.pw.seq 11 = true) := ⟨h.waiting, h.power, h.reason⟩
  refine ⟨fun hlegal => ?_, fun hlegal => ?_, fun hlegal => ?_, fun hlegal => ?_, fun hlegal => ⟨_, rfl,
    pstate_dormant (op := { op with dst := dormant }) hring hopen hext hsrc rfl hlegal⟩⟩
  · have htaken := hrunning (.inl rfl) hlegal
    exact ⟨fun h => ⟨_, rfl, htaken.present h⟩, fun h hfree => ⟨_, rfl, htaken.entered h hfree⟩,
      fun h hin howed => ⟨_, rfl, hwaits (htaken.waiting h ⟨hin, howed⟩)⟩⟩
  · have htaken := hrunning (.inr (.inl rfl)) hlegal
    exact ⟨fun h => ⟨_, rfl, htaken.present h⟩, fun h hfree => ⟨_, rfl, htaken.entered h hfree⟩,
      fun h hin howed => ⟨_, rfl, hwaits (htaken.waiting h ⟨hin, howed⟩)⟩⟩
  · have htaken := hrunning (.inr (.inr rfl)) hlegal
    exact ⟨fun h => ⟨_, rfl, htaken.present h⟩, fun h hfree => ⟨_, rfl, htaken.entered h hfree⟩,
      fun h hin howed => ⟨_, rfl, hwaits (htaken.waiting h ⟨hin, howed⟩)⟩⟩
  · have htaken := pstate_standby (op := { op with dst := standby }) hring hopen hext hsrc rfl hlegal
    exact ⟨fun h => ⟨_, rfl, htaken.present h⟩, fun h hready => ⟨_, rfl, htaken.entered h hready⟩,
      fun h hown howed => ⟨_, rfl, hwaits (htaken.waiting h ⟨hown, howed⟩)⟩⟩

end
end Sys2Proof.Machine

/-! ## RAIL and MARGIN (R238, R242, R250, R253, R257, R258) -/

namespace Sys2Proof.Machine

set_option Elab.async false

open Reg Host

section
variable {s t u : State}

/-! ### RAIL (R238, R257) -/

theorem Stands.unitsRailOn (h : UnitsKept s t) (k : Nat) : t.railOn k = s.railOn k := by
  rw [State.railOn, State.maskBit, h.get PW_ON.EN (by decide) (by decide), State.railOn, State.maskBit]

theorem State.railReading_congr {k : Nat} (h : t.get (MN_VAL.VAL k) = s.get (MN_VAL.VAL k)) :
    t.railReading k = s.railReading k := by
  rw [State.railReading, State.getS, h, State.railReading, State.getS]

theorem State.railResult_congr {k : Nat} (h : t.get (MN_VAL.VAL k) = s.get (MN_VAL.VAL k)) :
    t.railResult k = s.railResult k := by
  rw [State.railResult, State.railReading_congr h, State.railResult]

theorem Stands.railStatus (h : UnitsKept s t) (k : Nat) : t.railStatus k = s.railStatus k := by
  have hrank : t.get (PW_RAIL_C.RANK k) = s.get (PW_RAIL_C.RANK k) :=
    h.get _ (by decide : 3 < 32) (decide_eq_true (by simp only [PW_RAIL_C.RANK]; omega))
  have hreading : t.get (MN_VAL.VAL k) = s.get (MN_VAL.VAL k) :=
    h.get _ (by decide : 0 < 32) (decide_eq_true (by simp only [MN_VAL.VAL]; omega))
  rw [State.railStatus, h.unitsRailState, hrank, h.unitsRailOn, State.rail, h.unitsPw,
    State.railReading_congr hreading, State.railStatus, State.rail]

/-- What RAIL ON and OFF wait on, beside the rail. -/
structure Switchable (s : State) : Prop where
  power : s.powerIn [standby, active, quiet, maint] = true
  stop : s.pw.stop = none
  seq : s.flag PW_STATUS.SEQ = false

theorem Unposted.withPw {r : Nat} {x : Power} (h : Unposted r s t) : Unposted r s { t with pw := x } :=
  ⟨h.idle, h.tail⟩

theorem State.pw_post (s : State) (c : OpRef) (status result : Nat) : (s.post c status result).pw = s.pw :=
  Stands.pw (.powerPost (.refl s))

section
variable {op : Op} (hring : op.ring < 16) (hopen : RingOpen s op.ring) (hext : op.ext = []) (hsrc : op.src = 0)
include hring hopen hext hsrc

/-- R257: RAIL STATUS. -/
theorem rail_status (hdst : op.dst = 3) (himm : op.imm9 < 12) :
    Posted op.ring 0x15 0x01 (s.railStatus op.imm9) s (rail op s) := by
  have heq : rail op s =
      (s.admitted op (unitCost 0x15)).post (s.opRef op.ring 0x15) 0x01 (s.railStatus op.imm9) := by
    rw [rail, hopen.issue_eq, Nat.mod_eq_of_lt (by omega : op.imm9 < 16), hext, hsrc, hdst,
      decide_eq_true (by omega : op.imm9 < 16), decide_eq_true himm, ← (s.unitsKept_admitted hring _).railStatus]
    exact State.judge_ok ..
  rw [heq]
  exact (Unposted.admitted hopen _).posted hopen 0x15 0x01 _

/-- R238, R257: RAIL ON and OFF take effect. -/
theorem rail_eq (hdst : op.dst = 1 ∨ op.dst = 2) (himm : op.imm9 = 11) (hlegal : Switchable s) : rail op s =
    if op.dst = 1 then (s.admitted op (unitCost 0x15)).switchAux (s.opRef op.ring 0x15)
    else (s.admitted op (unitCost 0x15)).dropAux (s.opRef op.ring 0x15) := by
  obtain ⟨hpower, hstop, hseq⟩ := hlegal
  have hkept := s.unitsKept_admitted hring (unitCost 0x15)
  rw [rail, hopen.issue_eq, hkept.unitsPowerIn, hkept.unitsPw, hkept.unitsFlag (f := PW_STATUS.SEQ), hpower, hstop,
    hseq, hext, hsrc, himm]
  rcases hdst with hdst | hdst <;> rw [hdst] <;> exact State.judge_ok ..

end

/-- R238: RAIL ON. -/
theorem switchAux_results {r : Nat} (hkept : UnitsKept s u) (hunposted : Unposted r s u) (hopen : RingOpen s r) :
    (s.railState 11 = railGood → Posted r 0x15 0x01 0 s (u.switchAux (s.opRef r 0x15)) ∧
      (u.switchAux (s.opRef r 0x15)).pw.aux = true) ∧
    (s.railState 11 ≠ railGood → s.power ≠ standby ∨ s.flag PW_CTL.AUXSTBY = true →
      (u.switchAux (s.opRef r 0x15)).pw.aux = true ∧ bitOf (u.switchAux (s.opRef r 0x15)).pw.seq 11 = true ∧
        (u.switchAux (s.opRef r 0x15)).pw.railOns = s.pw.railOns ++ [s.opRef r 0x15]) := by
  have hstate : u.railState 11 = s.railState 11 := hkept.unitsRailState 11
  constructor
  · intro hgood
    have heq : u.switchAux (s.opRef r 0x15) =
        ({ u with pw := { u.pw with aux := true, isolated := false } } : State).post (s.opRef r 0x15) 0x01 0 :=
      if_pos (hstate.trans hgood)
    rw [heq]
    exact ⟨hunposted.withPw.posted hopen 0x15 0x01 0, by rw [State.pw_post]⟩
  · intro hother hstarts
    have hno : ¬ (u.power = standby ∧ u.flag PW_CTL.AUXSTBY = false) := by
      rw [hkept.unitsPower, hkept.unitsFlag (f := PW_CTL.AUXSTBY)]
      rintro ⟨hstandby, haux⟩
      rcases hstarts with hout | hkeeps
      · exact hout hstandby
      · rw [haux] at hkeeps
        cases hkeeps
    have heq : u.switchAux (s.opRef r 0x15) = ({ u with pw := { u.pw with
        aux := true, isolated := false, railOns := u.pw.railOns ++ [s.opRef r 0x15] } } : State).startRails (2 ^ 11) :=
      (if_neg fun h => hother (hstate.symm.trans h)).trans (if_neg hno)
    obtain ⟨hseq, -, hons, haux, -⟩ := State.startRails_results { u with pw := { u.pw with
      aux := true, isolated := false, railOns := u.pw.railOns ++ [s.opRef r 0x15] } } (2 ^ 11)
    rw [heq]
    exact ⟨haux, by rw [hseq, bitOf_or, bitOf_two_pow, decide_eq_true rfl, Bool.or_true], by rw [hons, hkept.unitsPw]⟩

/-- R238, R242: RAIL OFF. -/
theorem dropAux_results {r : Nat} (hkept : UnitsKept s u) (hunposted : Unposted r s u) (hopen : RingOpen s r) :
    (s.railOn 11 = true → (u.dropAux (s.opRef r 0x15)).railState 11 = railStopping ∧
      (u.dropAux (s.opRef r 0x15)).railOn 11 = false ∧ (u.dropAux (s.opRef r 0x15)).pw.aux = false) ∧
    (s.railOn 11 = false → s.railState 11 = railOff → Posted r 0x15 0x01 0 s (u.dropAux (s.opRef r 0x15)) ∧
      (u.dropAux (s.opRef r 0x15)).pw.aux = false) ∧
    (s.railOn 11 = false → s.railState 11 = railStuck → Posted r 0x15 0x02 1 s (u.dropAux (s.opRef r 0x15)) ∧
      (u.dropAux (s.opRef r 0x15)).pw.aux = false) := by
  have hon : u.railOn 11 = s.railOn 11 := hkept.unitsRailOn 11
  have hstate : u.railState 11 = s.railState 11 := hkept.unitsRailState 11
  have hposts (status result : Nat) :
      Posted r 0x15 status result s
          (({ u with pw := { u.pw with aux := false } } : State).post (s.opRef r 0x15) status result) ∧
        (({ u with pw := { u.pw with aux := false } } : State).post (s.opRef r 0x15) status result).pw.aux = false :=
    ⟨hunposted.withPw.posted hopen 0x15 status result, by rw [State.pw_post]⟩
  refine ⟨fun hstops => ?_, fun hoff hstands => ?_, fun hoff hstands => ?_⟩
  · have heq : u.dropAux (s.opRef r 0x15) = ({ u with pw := { u.pw with
        aux := false, railOffs := u.pw.railOffs ++ [s.opRef r 0x15] } } : State).releaseRail 11 :=
      if_pos (hon.trans hstops)
    obtain ⟨hreleased, hstopping, hview⟩ := State.releaseRail_results ({ u with pw := { u.pw with
      aux := false, railOffs := u.pw.railOffs ++ [s.opRef r 0x15] } } : State) (by decide : 11 < 12)
    rw [heq]
    exact ⟨hstopping, hreleased, congrArg (fun v : Power × Option Pavane => v.1.aux) hview⟩
  all_goals
    have hkeeps : ¬ u.railOn 11 = true := by rw [hon, hoff]; decide
    have hstopped : ¬ u.railState 11 = railStopping := by rw [hstate, hstands]; decide
  · have hfree : ¬ u.railState 11 = railStuck := by rw [hstate, hstands]; decide
    have heq : u.dropAux (s.opRef r 0x15) =
        ({ u with pw := { u.pw with aux := false } } : State).post (s.opRef r 0x15) 0x01 0 :=
      (if_neg hkeeps).trans ((if_neg hstopped).trans (if_neg hfree))
    rw [heq]
    exact hposts 0x01 0
  · have heq : u.dropAux (s.opRef r 0x15) =
        ({ u with pw := { u.pw with aux := false } } : State).post (s.opRef r 0x15) 0x02 1 :=
      (if_neg hkeeps).trans ((if_neg hstopped).trans (if_pos (hstate.trans hstands)))
    rw [heq]
    exact hposts 0x02 1

/-! ### MARGIN (R250, R258) -/

theorem Stands.unitsMargin (h : UnitsKept s t) (m : Nat) : t.get (PW_MG.RAIL m) = s.get (PW_MG.RAIL m) := by
  refine h.get _ (by decide : 0 < 32) (decide_eq_true ?_)
  simp only [PW_MG.RAIL]
  omega

theorem Stands.marginLegal (h : UnitsKept s t) (m : Nat) : t.marginLegal m = s.marginLegal m := by
  rw [State.marginLegal, h.unitsMargin, h.unitsPower, h.unitsPw, State.marginLegal]

/-- R258: a legal MARGIN sets its step. -/
theorem margin_eq {op : Op} (hring : op.ring < 16) (hopen : RingOpen s op.ring) (hext : op.ext = []) (hsrc : op.src = 0)
    (hdst : op.dst < 4) (himm : op.imm9 ≤ 4) (hlegal : s.marginLegal op.dst = true)
    (hrail : s.get (PW_MG.RAIL op.dst) ≠ 15) : margin op s =
      (s.admitted op (unitCost 0x16)).setMargin (s.opRef op.ring 0x16) op.dst op.imm9 := by
  have hkept := s.unitsKept_admitted hring (unitCost 0x16)
  rw [margin, hopen.issue_eq, Nat.mod_eq_of_lt hdst, hkept.marginLegal, hkept.unitsMargin, hlegal, hext, hsrc,
    decide_eq_true hdst, decide_eq_true himm, decide_eq_true (by omega : op.imm9 < 8), bne_iff_ne.mpr hrail]
  exact State.judge_ok ..

/-- R250: the step that MARGIN sets and tells. -/
def State.marginTold (s : State) (m step : Nat) : State :=
  (s.set (PW_MG.STEP m) step).raise 0x389 m step (s.get (PW_MG.RAIL m))

/-- R250: MARGIN `ref` waits for rail `k`. -/
def State.awaitMargin (s : State) (ref : OpRef) (m k : Nat) : State :=
  let s := { s with pw := { s.pw with
    margins := s.pw.margins ++ [(⟨m, ref, s.pw.evals⟩ : MarginWait)], returning := sparseDrop k s.pw.returning } }
  s.setRail k { s.rail k with inFor := 0 }

theorem State.setMargin_eq (s : State) (ref : OpRef) (m step : Nat) : s.setMargin ref m step =
    ((s.marginTold m step).awaitMargin ref m (s.get (PW_MG.RAIL m))).retune (s.get (PW_MG.RAIL m)) := rfl

theorem State.get_awaitMargin (s : State) (ref : OpRef) (m k : Nat) (g : Field) :
    (s.awaitMargin ref m k).get g = s.get g := rfl

theorem State.margins_awaitMargin (s : State) (ref : OpRef) (m k : Nat) :
    (s.awaitMargin ref m k).pw.margins = s.pw.margins ++ [⟨m, ref, s.pw.evals⟩] := rfl

theorem powerPlace_step {m : Nat} (hm : m < 4) : powerPlace (PW_MG.STEP m).off (PW_MG.STEP m).lo = true := by
  refine powerPlace_iff.mpr ?_
  simp only [PW_MG.STEP]
  omega

/-- R250: the step is set, and the MARGIN waits. -/
theorem State.setMargin_results (s : State) (ref : OpRef) {m step : Nat} (hm : m < 4) (hstep : step ≤ 4) :
    (s.setMargin ref m step).get (PW_MG.STEP m) = step ∧
      (s.setMargin ref m step).pw.margins = s.pw.margins ++ [⟨m, ref, s.pw.evals⟩] := by
  have htold : PowerKept (s.set (PW_MG.STEP m) step) (s.marginTold m step) := .powerRaise (.refl _)
  have hpw : (s.marginTold m step).pw = s.pw := htold.pw
  have hshown : (s.set (PW_MG.STEP m) step).get (PW_MG.STEP m) = step :=
    (State.get_set_same _ _ _).trans (Nat.mod_eq_of_lt (by simp only [PW_MG.STEP]; omega))
  have hkept : PowerKept ((s.marginTold m step).awaitMargin ref m (s.get (PW_MG.RAIL m))) (s.setMargin ref m step) := by
    rw [s.setMargin_eq]
    exact .powerRetune (.refl _)
  rw [hkept.get _ (by decide : 4 < 32) (powerPlace_step hm), hkept.pw, State.get_awaitMargin,
    State.margins_awaitMargin, htold.get _ (by decide : 4 < 32) (powerPlace_step hm), hpw]
  exact ⟨hshown, rfl⟩

/-! ### MARGINs that end (R250) -/

/-- The completions and the readings that a MARGIN on rail `k` ends with are in `t` those of `s`. -/
structure MarginEnds (k : Nat) (s t : State) : Prop where
  tail : ∀ q < 4, t.get (QU_CQTAIL.TAIL q) = s.get (QU_CQTAIL.TAIL q)
  reading : t.get (MN_VAL.VAL k) = s.get (MN_VAL.VAL k)

/-- The thresholds of a rail are neither its reading nor a completion. -/
theorem MarginEnds.retune {k : Nat} (h : MarginEnds k s t) : MarginEnds k s (t.retune k) := by
  have hkept {g : Field} (hlow : g.key ≠ (MN_CH_D.LO k).key) (hhigh : g.key ≠ (MN_CH_D.HI k).key) :
      (t.retune k).get g = t.get g := (State.get_set_ne _ _ hhigh).trans (State.get_set_ne _ _ hlow)
  refine ⟨fun q hq => (hkept ?_ ?_).trans (h.tail q hq), (hkept ?_ ?_).trans h.reading⟩
  all_goals
    simp only [Field.key, QU_CQTAIL.TAIL, MN_VAL.VAL, MN_CH_D.LO, MN_CH_D.HI]
    omega

theorem State.endMargins_kept (s : State) (m status : Nat) : PowerKept
    { s with pw := { s.pw with margins := s.pw.margins.filter fun w => w.channel != m } } (s.endMargins m status) :=
  .powerPostAll (.refl _)

/-- R250: the MARGINs of channel `m` have ended, each with `status` and the reading of its rail. -/
theorem State.endMargins_results (s : State) (m status : Nat) :
    (∀ w ∈ (s.endMargins m status).pw.margins, w.channel ≠ m) ∧
      ∀ ref at_, s.pw.margins = [⟨m, ref, at_⟩] →
        Done ref status (s.railResult (s.get (PW_MG.RAIL m))) s (s.endMargins m status) := by
  refine ⟨fun w hw => ?_, fun ref at_ hone => ?_⟩
  · rw [(s.endMargins_kept m status).pw] at hw
    exact bne_iff_ne.mp (List.mem_filter.mp hw).2
  · have heq : s.endMargins m status = ({ s with pw := { s.pw with margins := [] } } : State).post ref status
        (s.railResult (s.get (PW_MG.RAIL m))) := by
      unfold State.endMargins
      rw [hone]
      simp only [List.filter_cons, beq_self_eq_true, if_true, List.filter_nil, bne_self_eq_false, Bool.false_eq_true,
        if_false, List.map_cons, List.map_nil]
      exact State.postAll_one _ _ _ _
    rw [heq]
    exact (State.done_post _ ref status _).congr rfl

/-- What a MARGIN ends with is read in `s`, before its rail's thresholds follow. -/
theorem MarginEnds.endMargins {m status : Nat} (h : MarginEnds (s.get (PW_MG.RAIL m)) s t)
    (hrail : t.get (PW_MG.RAIL m) = s.get (PW_MG.RAIL m)) (hmargins : t.pw.margins = s.pw.margins) :
    (∀ w ∈ (t.endMargins m status).pw.margins, w.channel ≠ m) ∧
      ∀ ref at_, s.pw.margins = [⟨m, ref, at_⟩] →
        Done ref status (s.railResult (s.get (PW_MG.RAIL m))) s (t.endMargins m status) := by
  obtain ⟨hends, hdone⟩ := t.endMargins_results m status
  refine ⟨hends, fun ref at_ hone => ?_⟩
  have hposted := hdone ref at_ (hmargins.trans hone)
  rw [hrail, State.railResult_congr h.reading] at hposted
  exact hposted.congr (h.tail _ ref.q_lt)

theorem powerPlace_margin {m : Nat} (hm : m < 4) : powerPlace (PW_MG.RAIL m).off (PW_MG.RAIL m).lo = true := by
  refine powerPlace_iff.mpr ?_
  simp only [PW_MG.RAIL]
  omega

/-- R250, R251: the step has settled. -/
theorem marginSettled_results {m : Nat} (hm : m < 4)
    (hsettled : 10 * (s.rail (s.get (PW_MG.RAIL m))).settle ≤ (s.rail (s.get (PW_MG.RAIL m))).inFor + 1) :
    (∀ w ∈ (marginSettled m s).pw.margins, w.channel ≠ m) ∧
      ∀ ref at_, s.pw.margins = [⟨m, ref, at_⟩] →
        Done ref 0x01 (s.railResult (s.get (PW_MG.RAIL m))) s (marginSettled m s) := by
  rw [marginSettled, if_pos ⟨hm, hsettled⟩]
  dsimp only
  generalize hdrop : ({ s with pw := { s.pw with returning := sparseDrop (s.get (PW_MG.RAIL m)) s.pw.returning } } :
    State) = v
  have hends : MarginEnds (s.get (PW_MG.RAIL m)) s v := hdrop ▸ ⟨fun _ _ => rfl, rfl⟩
  have hrail : v.get (PW_MG.RAIL m) = s.get (PW_MG.RAIL m) := hdrop ▸ rfl
  have hmargins : v.pw.margins = s.pw.margins := hdrop ▸ rfl
  have hkept : PowerKept v (v.when (s.get (PW_MG.RAIL m) < 12) (·.retune (s.get (PW_MG.RAIL m)))) :=
    .when (.refl v) (.powerRetune (.refl v))
  have hretuned : MarginEnds (s.get (PW_MG.RAIL m)) s
      (v.when (s.get (PW_MG.RAIL m) < 12) (·.retune (s.get (PW_MG.RAIL m)))) := by
    unfold State.when
    split
    · exact hends.retune
    · exact hends
  exact hretuned.endMargins ((hkept.get _ (by decide : 0 < 32) (powerPlace_margin hm)).trans hrail)
    ((congrArg Power.margins hkept.pw).trans hmargins)

/-- R250: a step back to nominal is neither a reading nor a completion. -/
theorem MarginEnds.marginBack {k m step : Nat} (h : MarginEnds k s t) :
    MarginEnds k s (t.marginBack m step) := by
  have hkept {g : Field} (hkey : g.key ≠ (PW_MG.STEP m).key) : (t.marginBack m step).get g = t.get g :=
    State.get_set_ne _ _ hkey
  refine ⟨fun q hq => (hkept ?_).trans (h.tail q hq), (hkept ?_).trans h.reading⟩
  all_goals
    simp only [Field.key, QU_CQTAIL.TAIL, MN_VAL.VAL, PW_MG.STEP]
    omega

theorem State.marginBack_results (s : State) (m step : Nat) :
    (s.marginBack m step).get (PW_MG.STEP m) = 0 ∧
      (s.marginBack m step).get (PW_MG.RAIL m) = s.get (PW_MG.RAIL m) ∧
      (s.marginBack m step).pw.margins = s.pw.margins :=
  ⟨State.get_set_same _ _ _, State.get_set_ne _ _ (by simp only [Field.key, PW_MG.STEP, PW_MG.RAIL]; omega), rfl⟩

/-- R250: the step has not settled in 10 ms. -/
theorem marginTimeout_results {m : Nat} (hm : m < 4)
    (hlate : ∃ w ∈ s.pw.margins, w.channel = m ∧ w.issued + 1000 ≤ s.pw.evals + 1) :
    (marginTimeout m s).get (PW_MG.STEP m) = 0 ∧ (∀ w ∈ (marginTimeout m s).pw.margins, w.channel ≠ m) ∧
      ∀ ref at_, s.pw.margins = [⟨m, ref, at_⟩] →
        Done ref 0x31 (s.railResult (s.get (PW_MG.RAIL m))) s (marginTimeout m s) := by
  have hwaits : (s.pw.margins.any fun w => w.channel == m && decide (w.issued + 1000 ≤ s.pw.evals + 1)) = true := by
    simpa using hlate
  obtain ⟨hstep, hrail, hmargins⟩ := s.marginBack_results m 0
  have hends : MarginEnds (s.get (PW_MG.RAIL m)) s (s.marginBack m 0) := .marginBack ⟨fun _ _ => rfl, rfl⟩
  rw [marginTimeout, if_pos ⟨hm, hwaits⟩]
  generalize s.marginBack m 0 = v at hstep hrail hmargins hends ⊢
  have hkept : PowerKept v (v.retune (s.get (PW_MG.RAIL m))) := .powerRetune (.refl v)
  refine ⟨?_, hends.retune.endMargins ((hkept.get _ (by decide : 0 < 32) (powerPlace_margin hm)).trans hrail)
    ((congrArg Power.margins hkept.pw).trans hmargins)⟩
  exact ((State.endMargins_kept _ m 0x31).get _ (by decide : 4 < 32) (powerPlace_step hm)).trans
    ((hkept.get _ (by decide : 4 < 32) (powerPlace_step hm)).trans hstep)

/-! ### The wait for self-refresh (R253) -/

theorem State.get_of_regs (h : t.regs = s.regs) (g : Field) : t.get g = s.get g := by rw [State.get, h, State.get]

/-- R253: WAIT runs out. -/
theorem standbyWaitTimeout_results {ref : OpRef} {limit : Nat} (hwaits : s.pw.pstate = [⟨ref, standby, limit⟩])
    (hdue : s.due limit = true) :
    (standbyWaitTimeout s).pw.pstate = [] ∧ Done ref 0x32 s.power s (standbyWaitTimeout s) := by
  obtain ⟨n, c, f, hpass⟩ := s.passTo_eq limit
  obtain ⟨u, hu⟩ : ∃ u : State, u = { s with now := n, clock := c, frac := f, pw := { s.pw with pstate := [] } } :=
    ⟨_, rfl⟩
  have heq : standbyWaitTimeout s = u.post ref 0x32 s.power := by
    unfold standbyWaitTimeout
    rw [hwaits]
    simp only [List.find?_cons, beq_self_eq_true, s.onTime_due _ hdue, hpass, hwaits, List.erase_cons_head]
    rw [hu]
    rfl
  have hends : u.pw.pstate = [] := by rw [hu]
  have htail : u.get (QU_CQTAIL.TAIL ref.q) = s.get (QU_CQTAIL.TAIL ref.q) := State.get_of_regs (by rw [hu]) _
  rw [heq]
  exact ⟨by rw [State.pw_post, hends], (u.done_post ref 0x32 s.power).congr htail⟩

/-- Settles O27: RAIL, MARGIN and the ends of their waits, each by its own lemma. -/
theorem railInstructionResults : Obligations.RailInstructionResults := by
  unfold Obligations.RailInstructionResults
  intro s op hwf hopen hext hsrc
  have hring := (Op.lt_of_wf hwf).1
  have hkept := s.unitsKept_admitted hring (unitCost 0x15)
  have hunposted := Unposted.admitted hopen (unitCost 0x15)
  refine ⟨fun himm => ⟨_, rfl, rail_status (op := { op with dst := 3 }) hring hopen hext hsrc rfl himm⟩,
    fun himm hpower hstop hseq => ?_, fun hdst himm hlegal hrail => ⟨_, rfl, ?margin⟩,
    fun m hm hsettled => ⟨_, rfl, marginSettled_results hm hsettled⟩,
    fun m hm hlate => ⟨_, rfl, marginTimeout_results hm hlate⟩,
    fun ref limit hwaits hdue => ⟨_, rfl, standbyWaitTimeout_results hwaits hdue⟩⟩
  case margin =>
    obtain ⟨hstep, hwaits⟩ := (s.admitted op (unitCost 0x16)).setMargin_results (s.opRef op.ring 0x16) hdst himm
    rw [margin_eq hring hopen hext hsrc hdst himm hlegal hrail]
    refine ⟨hstep, hwaits.trans ?_⟩
    rw [(s.unitsKept_admitted hring (unitCost 0x16)).unitsPw]
  have hlegal : Switchable s := ⟨hpower, hstop, hseq⟩
  have hon : rail { op with dst := 1 } s = (s.admitted op (unitCost 0x15)).switchAux (s.opRef op.ring 0x15) :=
    (rail_eq (op := { op with dst := 1 }) hring hopen hext hsrc (.inl rfl) himm hlegal).trans (if_pos rfl)
  have hoff : rail { op with dst := 2 } s = (s.admitted op (unitCost 0x15)).dropAux (s.opRef op.ring 0x15) :=
    (rail_eq (op := { op with dst := 2 }) hring hopen hext hsrc (.inr rfl) himm hlegal).trans
      (if_neg (by decide : ¬ 2 = 1))
  have hcompletes {c : Instr} {t u : State} {Q : State → Prop} (hexec : exec c s = .next t) (heq : t = u) (hQ : Q u) :
      Completes c s Q := ⟨t, hexec, heq ▸ hQ⟩
  obtain ⟨hgood, hstarts⟩ := switchAux_results hkept hunposted hopen
  obtain ⟨hreleased, hdown, hstuck⟩ := dropAux_results hkept hunposted hopen
  exact ⟨fun h => hcompletes rfl hon (hgood h), fun h hpowered => hcompletes rfl hon (hstarts h hpowered),
    fun h => hcompletes rfl hoff (hreleased h), fun h hstate => hcompletes rfl hoff (hdown h hstate),
    fun h hstate => hcompletes rfl hoff (hstuck h hstate)⟩

end
end Sys2Proof.Machine

/-! ## Rail faults, withdrawal, T_FAULT and FAULT_n (R243 to R245, R248) -/

namespace Sys2Proof.Machine

set_option Elab.async false

open Reg Host

section
variable {s t : State}

/-! ### A fault (R243, R245) -/

/-- A rail's fault is judged by its cause: of the running start, of an EN11 to be isolated, or of an episode. -/
theorem railFault_eq {k : Nat} {high : Bool} (reading ma : Nat) (hk : k < 12) (h8 : k ≠ 8) (h9 : k ≠ 9)
    (hflag : s.channelFlag k = 1 + boolNat high) (hgood : s.railState k = railGood) (hrunning : s.runningSet = true)
    (hstop : s.pw.stop = none) (hsettled : s.railSettling k = false) :
    railFault k high reading ma s =
      if s.ofSequence k then s.startFailure k 2
      else if k = 11 ∧ s.flag (PW_RAIL_A.ISOLATE 11) = true then s.isolate 2 else s.openFault k high reading := by
  rw [railFault, if_pos ⟨hk, hgood, hflag, hrunning, by rw [hstop]; rfl, hsettled⟩, if_neg h8, if_neg h9]

/-- The places of the rails' states, of the count of faults and of T_FAULT. -/
def faultPlace (off _ : Nat) : Bool := decide (off = 0x700C ∨ off = 0x7024 ∨ 0x7100 ≤ off ∧ off < 0x8000)

/-- From `s` to `t` the states of the rails stand, the count of faults, T_FAULT and Pavane. -/
abbrev FaultKept (s t : State) : Prop := Stands faultPlace (fun u => u.sv.pavane) s t

/-- R243: what the fault of rail `k` logs and counts. -/
def State.faultCounted (s : State) (k : Nat) (high : Bool) (reading : Nat) : State :=
  ((s.raise 0x381 k (1 + boolNat high) reading).setRailState k railFaulty).add PW_FAULTS.COUNT 1

/-- R243: rail `k` joins the episode, which its fault opens where it is the first. -/
def State.episodeJoined (s : State) (k : Nat) (first : Bool) : State :=
  let s := s.when (k == 10) fun s => (s.setMaskBit PW_GOOD.RAIL 10 false).showXtal
  let s := s.setRail k { s.rail k with inFor := 0 }
  let s := { s with pw := { s.pw with faulted := setBit s.pw.faulted k } }
  let s := if first then { s with pw := { s.pw with firstFault := k, faultFrom := s.clock } } else s
  (s.setFlag PW_STATUS.FAULTEP true).showFaultLine

theorem State.openFault_eq (s : State) (k : Nat) (high : Bool) (reading : Nat) :
    s.openFault k high reading =
      let t := (s.faultCounted k high reading).episodeJoined k (!s.flag PW_STATUS.FAULTEP)
      let t := t.when (t.sv.pavane.isSome && bitOf saveRails k) (pavaneAbandon true true)
      t.when (!s.flag PW_STATUS.FAULTEP && t.get PW_TFAULT.MS == 0) tFaultExpiry := rfl

theorem State.faultCounted_results (s : State) {k : Nat} (high : Bool) (reading : Nat) :
    let t := s.faultCounted k high reading
    t.railState k = railFaulty ∧
      t.get PW_FAULTS.COUNT = (s.get PW_FAULTS.COUNT + 1) % 2 ^ PW_FAULTS.COUNT.width ∧
      t.get PW_TFAULT.MS = s.get PW_TFAULT.MS ∧ t.sv.pavane = s.sv.pavane := by
  have hraised : PowerKept s (s.raise 0x381 k (1 + boolNat high) reading) := .powerRaise (.refl s)
  have hcount : PW_FAULTS.COUNT.key ≠ (PW_RAIL_C.STATE k).key := by
    simp only [Field.key, PW_FAULTS.COUNT, PW_RAIL_C.STATE]
    omega
  have hlimit : PW_TFAULT.MS.key ≠ (PW_RAIL_C.STATE k).key := by
    simp only [Field.key, PW_TFAULT.MS, PW_RAIL_C.STATE]
    omega
  refine ⟨?_, ?_, ?_, (Prod.mk.inj hraised.view).2⟩
  · rw [State.railState, State.faultCounted, State.add_eq, State.get_set_ne _ _ hcount.symm]
    exact State.railState_setRailState_same _ k (by decide)
  · rw [State.faultCounted, State.add_eq, State.get_set_same, State.setRailState, State.get_set_ne _ _ hcount,
      hraised.get _ (by decide) (by decide)]
  · rw [State.faultCounted, State.add_eq, State.get_set_ne _ _ (by decide), State.setRailState,
      State.get_set_ne _ _ hlimit, hraised.get _ (by decide) (by decide)]

theorem Stands.faultXtal (h : FaultKept s t) : FaultKept s t.showXtal := by
  have hclock {u : State} (hu : FaultKept s u) : FaultKept s u.correctClock := .congr hu
  exact .ite (hclock (.set h)) h

theorem State.episodeJoined_results (s : State) (k : Nat) (first : Bool) :
    let t := s.episodeJoined k first
    FaultKept s t ∧ t.flag PW_STATUS.FAULTEP = true ∧ bitOf t.pw.faulted k = true := by
  have hshown (u : State) : (u.setFlag PW_STATUS.FAULTEP true).showFaultLine.flag PW_STATUS.FAULTEP = true :=
    (State.flag_set_ne (by decide)).trans ((State.flag_set_ne (by decide)).trans (flag_set_boolNat u rfl true))
  refine ⟨?_, hshown _, ?_⟩
  · have hlost : FaultKept s (s.when (k == 10) fun s => (s.setMaskBit PW_GOOD.RAIL 10 false).showXtal) :=
      .when (.refl s) (.faultXtal (.set (.refl s)))
    have hrail {u : State} {x : Rail} {n : Nat} (hu : FaultKept s u) :
        FaultKept s { u.setRail k x with pw := { (u.setRail k x).pw with faulted := n } } := .congr hu
    have hfirst {u : State} {n c : Nat} (hu : FaultKept s u) : FaultKept s
        (if first then { u with pw := { u.pw with firstFault := n, faultFrom := c } } else u) := .ite (.congr hu) hu
    exact .set (.set (.set (hfirst (hrail hlost))))
  · cases first <;> exact bitOf_setBit_same _ k

/-- R243: a fault opens an episode, or joins it. -/
theorem State.openFault_results {k : Nat} (s : State) (high : Bool) (reading : Nat) (hk : k < 12)
    (hms : s.get PW_TFAULT.MS ≠ 0) (hpavane : s.sv.pavane = none) :
    let t := s.openFault k high reading
    t.flag PW_STATUS.FAULTEP = true ∧ t.railState k = railFaulty ∧ bitOf t.pw.faulted k = true ∧
      t.get PW_FAULTS.COUNT = (s.get PW_FAULTS.COUNT + 1) % 2 ^ PW_FAULTS.COUNT.width := by
  obtain ⟨hstate, hcount, hlimit, hnone⟩ := s.faultCounted_results (k := k) high reading
  obtain ⟨hkept, hepisode, hjoined⟩ :=
    (s.faultCounted k high reading).episodeJoined_results k (!s.flag PW_STATUS.FAULTEP)
  rw [s.openFault_eq]
  generalize (s.faultCounted k high reading).episodeJoined k (!s.flag PW_STATUS.FAULTEP) = t at hkept hepisode hjoined ⊢
  have hplace : faultPlace (PW_RAIL_C.STATE k).off (PW_RAIL_C.STATE k).lo = true := by
    simp only [PW_RAIL_C.STATE]
    exact decide_eq_true (by omega)
  have hpavaneNone : t.sv.pavane = none := hkept.view.trans (hnone.trans hpavane)
  have hwaits : (t.get PW_TFAULT.MS == 0) = false := by
    rw [hkept.get _ (by decide) (by decide), hlimit]
    simpa using hms
  simp only [hpavaneNone, Option.isSome_none, Bool.false_and, State.when_false, hwaits, Bool.and_false]
  exact ⟨hepisode, (hkept.get _ (by decide : 0 < 32) hplace).trans hstate, hjoined,
    (hkept.get _ (by decide) (by decide)).trans hcount⟩

/-! ### The end of an episode (R244) -/

theorem State.railState_setRail (s : State) (k : Nat) (x : Rail) (j : Nat) :
    (s.setRail k x).railState j = s.railState j := rfl

/-- The state of rail `j` is as it was, or GOOD where it was a faulted rail's. -/
theorem State.railState_healRail (s : State) (j k : Nat) :
    (s.healRail k).railState j =
      if j = k ∧ bitOf s.pw.faulted k = true ∧ s.railState k = railFaulty then railGood else s.railState j := by
  unfold State.healRail
  by_cases hheals : bitOf s.pw.faulted k = true ∧ s.railState k = railFaulty
  · rw [if_pos hheals]
    by_cases hj : j = k
    · subst hj
      rw [if_pos ⟨rfl, hheals⟩, State.railState_setRail]
      exact State.railState_setRailState_same s j (by decide)
    · rw [if_neg fun h => hj h.1, State.railState_setRail]
      exact State.railState_setRailState_ne s _ hj
  · rw [if_neg hheals, if_neg fun h => hheals h.2]

theorem State.faulted_healRail (s : State) (k : Nat) : (s.healRail k).pw.faulted = s.pw.faulted := by
  unfold State.healRail
  split <;> rfl

/-- R244: the rails of the episode among `l` are GOOD. -/
theorem State.railState_healRails (l : List Nat) (s : State) (j : Nat) :
    (l.foldl State.healRail s).railState j =
      if j ∈ l ∧ bitOf s.pw.faulted j = true ∧ s.railState j = railFaulty then railGood else s.railState j := by
  induction l generalizing s with
  | nil => simp
  | cons k l ih =>
      rw [List.foldl_cons, ih, s.faulted_healRail, s.railState_healRail]
      by_cases hj : j = k
      · subst hj
        by_cases hheals : bitOf s.pw.faulted j = true ∧ s.railState j = railFaulty
        · simp [hheals, railGood, railFaulty]
        · simp [hheals]
      · simp [hj]

/-- R244: the withdrawal. -/
theorem faultWithdrawal_results (hepisode : s.flag PW_STATUS.FAULTEP = true) (hstop : s.pw.stop = none)
    (hback : s.withdrawn = true) :
    (faultWithdrawal s).flag PW_STATUS.FAULTEP = false ∧ (faultWithdrawal s).pw.faulted = 0 ∧
      ∀ k < 12, bitOf s.pw.faulted k = true → s.railState k = railFaulty →
        (faultWithdrawal s).railState k = railGood := by
  have hcond : (s.flag PW_STATUS.FAULTEP && s.pw.stop.isNone && s.withdrawn) = true := by
    rw [hepisode, hstop, hback]
    rfl
  rw [faultWithdrawal, if_pos hcond]
  dsimp only
  generalize hraise : s.raise 0x382 _ _ _ = u
  have hraised : PowerKept s u := hraise ▸ .powerRaise (.refl s)
  generalize hhealed : (List.range 12).foldl State.healRail u = v
  generalize hons : v.when (v.railState 11 == railGood) (·.endRailOns 0x01) = w
  have hkept : RailsKept v w := hons ▸ .when (.refl v) (.railsEndOns (.refl v))
  have hended : Stands railPlace (fun _ => ()) w w.endEpisode.showFaultLine := .set (.set (.set (.congr (.refl w))))
  refine ⟨?_, rfl, fun k hk hfaulted hstate => ?_⟩
  · exact (State.flag_set_ne (by decide)).trans ((State.flag_set_ne (by decide)).trans (flag_set_boolNat _ rfl false))
  · rw [State.railState, hended.get _ (by decide : 0 < 32) (railPlace_state hk), ← State.railState,
      hkept.railState hk, ← hhealed, State.railState_healRails, hraised.pw, hraised.plan.rails.railState hk,
      if_pos ⟨List.mem_range.mpr hk, hfaulted, hstate⟩]

/-- R241, R244: the device latches where Pavane does not save itself when T_FAULT has elapsed. -/
theorem tFaultExpiry_latches (hepisode : s.flag PW_STATUS.FAULTEP = true) (hrunning : s.runningSet = true)
    (hpavane : s.sv.pavane = none) (hstop : s.pw.stop = none)
    (hdue : s.due (s.pw.faultFrom + 100000 * s.get PW_TFAULT.MS) = true)
    (hunready : s.flag SV_STATUS.ARMED = false ∨ s.pw.faulted &&& saveRails ≠ 0) :
    Downward latched (tFaultExpiry s) := by
  have hcould : (s.flag PW_STATUS.FAULTEP && s.runningSet && s.sv.pavane.isNone && s.pw.stop.isNone) = true := by
    rw [hepisode, hrunning, hpavane, hstop]
    rfl
  rw [tFaultExpiry, if_pos hcould, State.onTime_due s _ hdue]
  have hpassed : PowerKept s (s.passTo (s.pw.faultFrom + 100000 * s.get PW_TFAULT.MS)) := .powerTime (.refl s)
  have hsaves : ¬ (s.flag SV_STATUS.ARMED && s.pw.faulted &&& saveRails == 0) = true := by
    rw [Bool.and_eq_true, beq_iff_eq]
    rintro ⟨harmed, hrails⟩
    rcases hunready with hdisarmed | hfaulted
    · rw [hdisarmed] at harmed
      cases harmed
    · exact hfaulted hrails
  rw [hpassed.pw, State.flag, State.get_passTo, ← State.flag, if_neg hsaves]
  exact State.latch_results _ _ _

/-! ### The shared line (R248) -/

theorem State.flags_showFaultLine (s : State) :
    s.showFaultLine.flag PW_STATUS.FLINE = (s.showFaultLine.flag PW_STATUS.FAULTOUT || s.pw.lineLow) := by
  have hout (u : State) (b : Bool) : ((u.setFlag PW_STATUS.FAULTOUT b).setFlag PW_STATUS.FLINE (b || u.pw.lineLow)).flag
      PW_STATUS.FAULTOUT = b := (State.flag_set_ne (by decide)).trans (flag_set_boolNat u rfl b)
  unfold State.showFaultLine
  dsimp only
  rw [hout]
  exact flag_set_boolNat _ rfl _

/-- R248: the device has seen the line low while it is, unless it asserts the line itself. -/
def State.lineWatched (s : State) : State :=
  { s with pw := { s.pw with
      lineSeen := if s.pw.lineSeen then s.flag PW_STATUS.FLINE else s.pw.lineLow && !s.flag PW_STATUS.FAULTOUT } }

theorem State.watchLine_kept (s : State) : PowerKept s.lineWatched s.watchLine := by
  have hunchanged {b : Bool} (hb : s.pw.lineSeen = b) :
      PowerKept { s with pw := { s.pw with lineSeen := b } } s := by
    subst hb
    exact .refl s
  unfold State.lineWatched State.watchLine
  cases hseen : s.pw.lineSeen <;> simp only [Bool.false_eq_true, if_false, if_true]
  · cases hlow : s.pw.lineLow && !s.flag PW_STATUS.FAULTOUT
    · exact hunchanged hseen
    · exact .powerRaise (.refl _)
  · cases hline : s.flag PW_STATUS.FLINE
    · exact .powerRaise (.refl _)
    · exact hunchanged hseen

/-- R248: the line is low, or released. -/
theorem faultLine_results {low : Bool} (h : s.pw.lineLow ≠ low) :
    (faultLine low s).pw.lineLow = low ∧
      (faultLine low s).flag PW_STATUS.FLINE = ((faultLine low s).flag PW_STATUS.FAULTOUT || low) ∧
      ((faultLine low s).flag PW_STATUS.FAULTOUT = false → (faultLine low s).pw.lineSeen = low) := by
  rw [faultLine, if_neg h]
  have hline := State.flags_showFaultLine { s with pw := { s.pw with lineLow := low } }
  have hlow : ({ s with pw := { s.pw with lineLow := low } } : State).showFaultLine.pw.lineLow = low := rfl
  dsimp only at hline
  generalize ({ s with pw := { s.pw with lineLow := low } } : State).showFaultLine = u at hline hlow ⊢
  have hkept := u.watchLine_kept
  have hout : u.watchLine.flag PW_STATUS.FAULTOUT = u.flag PW_STATUS.FAULTOUT := hkept.plan.powerFlag
  have hlineKept : u.watchLine.flag PW_STATUS.FLINE = u.flag PW_STATUS.FLINE := hkept.plan.powerFlag
  rw [hkept.pw, hout, hlineKept]
  refine ⟨hlow, hline, fun hreleased => ?_⟩
  simp only [State.lineWatched, hline, hreleased, hlow, Bool.false_or, Bool.not_false, Bool.and_true, ite_self]

/-- Settles O29: what a rail's fault opens, the withdrawal, T_FAULT and the shared line, each by its own lemma. -/
theorem railFaultResults : Obligations.RailFaultResults := by
  intro s
  refine ⟨fun k high reading ma hk h8 h9 hflag hgood hrunning hstop hsettled => ?_,
    fun hepisode hstop hback => ⟨_, rfl, faultWithdrawal_results hepisode hstop hback⟩,
    fun hepisode hrunning hpavane hstop hdue hunready => ⟨_, rfl,
      (tFaultExpiry_latches hepisode hrunning hpavane hstop hdue hunready).stops.imp_right And.left⟩,
    fun hhigh => ⟨_, rfl, ?low⟩, fun hlow => ⟨_, rfl, ?released⟩⟩
  case low =>
    obtain ⟨hlow, hline, hseen⟩ := faultLine_results (low := true) (by rw [hhigh]; decide)
    exact ⟨hlow, hline.trans (Bool.or_true _), hseen⟩
  case released =>
    obtain ⟨hlow, hline, hseen⟩ := faultLine_results (low := false) (by rw [hlow]; decide)
    exact ⟨hlow, hline.trans (Bool.or_false _), hseen⟩
  have hfault := railFault_eq reading ma hk h8 h9 hflag hgood hrunning hstop hsettled
  refine ⟨fun hother haux hms hpavane => ⟨_, rfl, ?_⟩, fun hother haux hisolate => ⟨_, rfl, ?_⟩,
    fun hof hlatches => ⟨_, rfl, ?_⟩⟩
  · rw [hfault, hother, if_neg (by decide), if_neg fun ⟨h11, hisolate⟩ => by rw [haux h11] at hisolate; cases hisolate]
    exact s.openFault_results high reading hk hms hpavane
  · rw [hfault, hother, if_neg (by decide), if_pos ⟨haux, hisolate⟩]
    obtain ⟨hstate, hoff, hisolated, -, hepisode⟩ := s.isolate_results 2
    exact ⟨hstate, hoff, hisolated, hepisode⟩
  · rw [hfault, hof, if_pos rfl]
    have hdown := s.startFailure_latches 2 hlatches
    exact ⟨hdown.seq, hdown.stops.imp_right And.left⟩

end
end Sys2Proof.Machine

/-! ## Sequencer evaluations (R240, R244, R251, R252) -/

namespace Sys2Proof.Machine

set_option Elab.async false

open Reg Host

/-- What a rail is started and judged by: its target, and the SETTLE it was started with. -/
def State.railAims (s : State) (k : Nat) : Bool × Nat := ((s.rail k).target, (s.rail k).settle)

/-- What an evaluation counts, what runs, and what the rails are started and judged by. -/
def countedView (s : State) : Nat × Nat × Option Stop × Option Pavane × (Nat → Bool × Nat) :=
  (s.pw.evals, s.pw.seq, s.pw.stop, s.sv.pavane, s.railAims)

/-- From `s` to `t` rails have only been counted: none of the power unit's registers has changed, and a GOOD rail has
been so for as long or longer. -/
structure Counts (s t : State) : Prop where
  kept : Stands powerPlace countedView s t
  good : ∀ j < 12, s.railState j = railGood → (s.rail j).goodFor ≤ (t.rail j).goodFor

section
variable {s t u : State}

theorem powerPlace_state {k : Nat} (hk : k < 12) :
    powerPlace (PW_RAIL_C.STATE k).off (PW_RAIL_C.STATE k).lo = true :=
  powerPlace_of_railPlace (railPlace_state hk)

theorem Counts.railState (h : Counts s t) {j : Nat} (hj : j < 12) : t.railState j = s.railState j :=
  h.kept.get _ (by decide : 0 < 32) (powerPlace_state hj)

theorem Counts.refl (s : State) : Counts s s := ⟨.refl s, fun _ _ _ => le_rfl⟩

theorem Counts.trans (h : Counts s t) (h' : Counts t u) : Counts s u :=
  ⟨h.kept.trans h'.kept, fun j hj hgood => (h.good j hj hgood).trans (h'.good j hj ((h.railState hj).trans hgood))⟩

theorem Counts.of_kept (h : PowerKept s t) : Counts s t := by
  have hrail (k : Nat) : t.rail k = s.rail k := by rw [State.rail, h.pw, State.rail]
  refine ⟨⟨h.get, ?_⟩, fun j _ _ => (congrArg Rail.goodFor (hrail j)).ge⟩
  have haims : t.railAims = s.railAims := funext fun k => by rw [State.railAims, hrail, State.railAims]
  rw [countedView, haims, h.pw, (Prod.mk.inj h.view).2, countedView]

theorem Counts.foldl {β : Type} {f : State → β → State} (l : List β) (hf : ∀ u x, Counts u (f u x)) (s : State) :
    Counts s (l.foldl f s) :=
  foldl_keeps (Counts s) f (fun u x hu => hu.trans (hf u x)) l s (.refl s)

theorem State.railAims_setRail (s : State) {k : Nat} {x : Rail} (htarget : x.target = (s.rail k).target)
    (hsettle : x.settle = (s.rail k).settle) : (s.setRail k x).railAims = s.railAims := by
  funext j
  unfold State.railAims
  by_cases hj : j = k
  · subst hj
    rw [State.rail_setRail_same, htarget, hsettle]
  · rw [State.rail_setRail_ne s x hj]

theorem State.setRail_counts (s : State) {k : Nat} {x : Rail} (htarget : x.target = (s.rail k).target)
    (hsettle : x.settle = (s.rail k).settle)
    (hgood : s.railState k = railGood → (s.rail k).goodFor ≤ x.goodFor) : Counts s (s.setRail k x) := by
  refine ⟨⟨fun _ _ _ => rfl, ?_⟩, fun j _ hstate => ?_⟩
  · rw [countedView, s.railAims_setRail htarget hsettle]
    rfl
  · by_cases hj : j = k
    · subst hj
      rw [State.rail_setRail_same]
      exact hgood hstate
    · rw [State.rail_setRail_ne s x hj]

theorem State.countGood_counts (mask : Nat) (s : State) (k : Nat) : Counts s (s.countGood mask k) := by
  unfold State.countGood
  dsimp only
  by_cases hcounted : s.railState k = railGood ∨ s.railState k = railFaulty
  · rw [if_pos hcounted]
    refine s.setRail_counts rfl rfl fun hgood => ?_
    dsimp only
    rw [if_pos hgood]
    exact Nat.le_succ _
  · rw [if_neg hcounted]
    exact .refl s

theorem State.endDischarge_counts (s : State) (k : Nat) : Counts s (s.endDischarge k) := by
  unfold State.endDischarge
  split
  · exact s.setRail_counts rfl rfl fun _ => le_rfl
  · exact .refl s

theorem State.endReturns_counts (s : State) : Counts s s.endReturns := by
  refine Counts.foldl _ (fun u e => ?_) s
  have hdropped : Counts u { u with pw := { u.pw with returning := sparseDrop e.1 u.pw.returning } } :=
    ⟨.congr (.refl u), fun _ _ _ => le_rfl⟩
  exact hdropped.trans (.of_kept (.powerRetune (.refl _)))

theorem State.watchLine_counts (s : State) : Counts s s.watchLine := by
  have hseen : Counts s s.lineWatched := ⟨.congr (.refl s), fun _ _ _ => le_rfl⟩
  exact hseen.trans (.of_kept s.watchLine_kept)

/-! ### What an evaluation counts and shows (R240) -/

/-- R240: the evaluation counts itself, and shows the rails in their windows. -/
def State.evaluated (s : State) (mask : Nat) : State :=
  ({ s with pw := { s.pw with evals := s.pw.evals + 1 } } : State).set PW_GOOD.RAIL mask

theorem State.rail_evaluated (s : State) (mask j : Nat) : (s.evaluated mask).rail j = s.rail j := rfl

theorem State.view_evaluated (s : State) (mask : Nat) : countedView (s.evaluated mask) =
    (s.pw.evals + 1, s.pw.seq, s.pw.stop, s.sv.pavane, s.railAims) := rfl

/-- R240, R242, R251: what an evaluation counts before the sequencer goes over the rails. -/
def State.counted (s : State) (mask : Nat) : State :=
  (List.range 12).foldl State.endDischarge ((List.range 12).foldl (State.countGood mask)
    (s.evaluated mask).showXtal).endReturns.watchLine

theorem State.counted_counts (s : State) (mask : Nat) : Counts (s.evaluated mask) (s.counted mask) :=
  (Counts.of_kept (.powerXtal (.refl _))).trans <|
    (Counts.foldl _ (State.countGood_counts mask) _).trans <| (State.endReturns_counts _).trans <|
    (State.watchLine_counts _).trans <| Counts.foldl _ State.endDischarge_counts _

theorem sequencerEvaluation_eq (mask : Nat) (hpower : s.power ≠ 0) : sequencerEvaluation mask s =
    if (s.counted mask).pw.stop.isNone then ((s.counted mask).sequence mask).pavaneDown.noteVcc
    else (s.counted mask).stopRetry := by
  rw [sequencerEvaluation, if_neg hpower]
  unfold State.counted State.evaluated
  dsimp only

/-- R240: what an evaluation leaves as it was, beside its own count. -/
theorem State.counted_results (s : State) (mask : Nat) :
    (s.counted mask).pw.evals = s.pw.evals + 1 ∧ (s.counted mask).pw.seq = s.pw.seq ∧
      (s.counted mask).pw.stop = s.pw.stop ∧ (s.counted mask).sv.pavane = s.sv.pavane ∧
      (s.counted mask).railAims = s.railAims := by
  have hview := (s.counted_counts mask).kept.view.trans (s.view_evaluated mask)
  generalize s.counted mask = t at hview ⊢
  simpa only [countedView, Prod.mk.injEq] using hview

theorem State.target_counted (s : State) (mask j : Nat) : ((s.counted mask).rail j).target = (s.rail j).target := by
  obtain ⟨-, -, -, -, haims⟩ := s.counted_results mask
  generalize s.counted mask = t at haims ⊢
  exact congrArg Prod.fst (congrFun haims j)

theorem State.settle_counted (s : State) (mask j : Nat) : ((s.counted mask).rail j).settle = (s.rail j).settle := by
  obtain ⟨-, -, -, -, haims⟩ := s.counted_results mask
  generalize s.counted mask = t at haims ⊢
  exact congrArg Prod.snd (congrFun haims j)

theorem State.good_counted (s : State) (mask : Nat) : (s.counted mask).get PW_GOOD.RAIL = mask % 2 ^ 12 :=
  ((s.counted_counts mask).kept.get _ (by decide) (by decide)).trans (State.get_set_same _ _ _)

theorem State.get_counted (s : State) (mask : Nat) {g : Field} (hlo : g.lo < 32) (hplace : powerPlace g.off g.lo = true)
    (hkey : g.key ≠ PW_GOOD.RAIL.key) : (s.counted mask).get g = s.get g :=
  ((s.counted_counts mask).kept.get g hlo hplace).trans (State.get_set_ne _ _ hkey)

theorem State.railState_counted (s : State) (mask : Nat) {j : Nat} (hj : j < 12) :
    (s.counted mask).railState j = s.railState j := by
  refine s.get_counted mask (by decide : 0 < 32) (powerPlace_state hj) ?_
  simp only [Field.key, PW_RAIL_C.STATE, PW_GOOD.RAIL]
  omega

theorem State.railOn_counted (s : State) (mask j : Nat) : (s.counted mask).railOn j = s.railOn j := by
  rw [State.railOn, State.maskBit, s.get_counted mask (by decide) (by decide) (by decide), State.railOn, State.maskBit]

/-- R255: a rail that has settled stays so while it is only counted. -/
theorem State.settled_counted (s : State) (mask : Nat) {j : Nat} (hj : j < 12) (h : s.settled j = true) :
    (s.counted mask).settled j = true := by
  simp only [State.settled, Bool.and_eq_true, beq_iff_eq, decide_eq_true_eq] at h ⊢
  obtain ⟨hgood, hfor⟩ := h
  have hstate : (s.evaluated mask).railState j = railGood :=
    ((s.counted_counts mask).railState hj).symm.trans ((s.railState_counted mask hj).trans hgood)
  have hlonger := (s.counted_counts mask).good j hj hstate
  rw [State.rail_evaluated] at hlonger
  rw [s.settle_counted]
  exact ⟨(s.railState_counted mask hj).trans hgood, by omega⟩

/-! ### Rails that an evaluation passes over (R237, R240, R241) -/

/-- Rail `j` is of no target set and of no start. -/
structure Resting (s : State) (j : Nat) : Prop where
  unwanted : s.wanted j = false
  waiting : s.railState j ≠ railWaiting
  starting : s.railState j ≠ railStarting
  card : j = 8 ∨ j = 9 → s.railOn j = false

theorem Resting.queueRail {j : Nat} (h : Resting s j) : s.queueRail j = s := by
  have hstays : ¬ ((j = 8 ∨ j = 9) ∧ s.railOn j = true) := fun ⟨hcard, hon⟩ => by
    rw [h.card hcard] at hon
    cases hon
  rw [State.queueRail, if_neg (by rw [h.unwanted]; decide), if_neg h.waiting, if_neg hstays]

theorem State.neverStarts_eq_false {j : Nat} (h : s.railState j ≠ railWaiting) : s.neverStarts j = false := by
  rw [State.neverStarts, beq_eq_false_iff_ne.mpr h, Bool.false_and]

theorem Resting.startLate {j at_ : Nat} (h : Resting s j) : s.startLate j at_ = false := by
  rw [State.startLate, beq_eq_false_iff_ne.mpr h.starting, State.neverStarts_eq_false h.waiting, Bool.false_and,
    Bool.false_and, Bool.or_false]

theorem Resting.ofSequence {j : Nat} (h : Resting s j) : s.ofSequence j = false := by
  have hwanted := h.unwanted
  unfold State.wanted at hwanted
  unfold State.ofSequence
  split
  · next hcard => rw [if_pos hcard] at hwanted; rw [hwanted, Bool.false_and, Bool.false_and]
  · next hcard => rw [if_neg hcard] at hwanted; rw [hwanted, Bool.false_and, Bool.false_and]

/-- Rail `j` rests in `t` where it does in `s`, with its aims and what the sequencer reads of it. -/
theorem Resting.congr {j : Nat} (h : Resting s j) (hseq : bitOf t.pw.seq j = bitOf s.pw.seq j)
    (htarget : (t.rail j).target = (s.rail j).target) (hstate : t.railState j = s.railState j)
    (hon : t.railOn j = s.railOn j) : Resting t j := by
  refine ⟨?_, hstate ▸ h.waiting, hstate ▸ h.starting, fun hcard => hon.trans (h.card hcard)⟩
  rw [State.wanted, hseq, htarget, ← State.wanted, h.unwanted]

theorem Resting.counted {j : Nat} (h : Resting s j) (hj : j < 12) (mask : Nat) : Resting (s.counted mask) j := by
  obtain ⟨-, hseq, -⟩ := s.counted_results mask
  exact h.congr (by rw [hseq]) (s.target_counted mask j) (s.railState_counted mask hj) (s.railOn_counted mask j)

/-! ### The pass of the sequencer (R240, R241, R252) -/

/-- R241, R252: the start failures that the pass finds, and the end of the sequence. -/
def State.judgeStarts (s : State) (mask : Nat) : State :=
  match (List.range 12).find? fun k => s.startLate k s.pw.evals with
  | some k => s.startFailure k 1
  | none =>
      match (List.range 12).find? fun k => s.ofSequence k && s.railState k == railGood && !bitOf mask k with
      | some k => s.startFailure k 2
      | none => s.sequenceDone.showSeq

/-- R240: the rails that start in the pass. -/
def State.starters (s : State) : List Nat :=
  (List.range 12).filter fun k => s.wanted k && s.railState k == railWaiting && s.depsMet k

/-- R240: the starting rails that the pass finds in their windows. -/
def State.arrivals (s : State) (mask : Nat) : List Nat :=
  (List.range 12).filter fun k => s.railState k == railStarting && bitOf mask k

theorem foldl_fixed_mem {α β : Type} {f : β → α → β} {l : List α} {b : β} (h : ∀ a ∈ l, f b a = b) :
    l.foldl f b = b :=
  List.foldlRecOn (motive := (· = b)) l f rfl fun c hc a ha => by rw [hc, h a ha]

theorem State.sequence_eq (mask : Nat) (hqueued : ∀ k < 12, s.queueRail k = s) : s.sequence mask =
    (((s.starters.foldl State.startRail s).arrivals mask).foldl State.goodRail
      (s.starters.foldl State.startRail s)).judgeStarts mask := by
  have hqueue : (List.range 12).foldl State.queueRail s = s :=
    foldl_fixed_mem fun k hk => hqueued k (List.mem_range.mp hk)
  unfold State.sequence
  dsimp only
  rw [hqueue]
  rfl

theorem find?_range_eq_none {n : Nat} {p : Nat → Bool} (h : ∀ k < n, p k = false) : (List.range n).find? p = none :=
  List.find?_eq_none.mpr fun k hk => by rw [h k (List.mem_range.mp hk)]; decide

theorem filter_range_eq_nil {n : Nat} {p : Nat → Bool} (h : ∀ k < n, p k = false) : (List.range n).filter p = [] :=
  List.filter_eq_nil_iff.mpr fun k hk => by rw [h k (List.mem_range.mp hk)]; decide

theorem filter_range_eq_singleton {n k : Nat} {p : Nat → Bool} (hk : k < n) (hp : p k = true)
    (h : ∀ j < n, j ≠ k → p j = false) : (List.range n).filter p = [k] := by
  have heq : (List.range n).filter p = (List.range n).filter (· == k) := by
    refine List.filter_congr fun j hj => ?_
    by_cases hjk : j = k
    · rw [hjk, hp, beq_self_eq_true]
    · rw [h j (List.mem_range.mp hj) hjk, beq_eq_false_iff_ne.mpr hjk]
  rw [heq, List.filter_beq, List.count_eq_one_of_mem List.nodup_range (List.mem_range.mpr hk)]
  rfl

/-- A pass that finds no start failure. -/
theorem State.judgeStarts_eq {mask : Nat} (hlate : ∀ k < 12, s.startLate k s.pw.evals = false)
    (hin : ∀ k < 12, s.ofSequence k = true → s.railState k = railGood → bitOf mask k = true) :
    s.judgeStarts mask = s.sequenceDone.showSeq := by
  have hfound : ∀ k < 12, (s.ofSequence k && s.railState k == railGood && !bitOf mask k) = false := by
    intro k hk
    cases hof : s.ofSequence k with
    | false => rfl
    | true =>
        by_cases hgood : s.railState k = railGood
        · rw [hin k hk hof hgood, Bool.not_true, Bool.and_false]
        · rw [beq_eq_false_iff_ne.mpr hgood, Bool.and_false, Bool.false_and]
  unfold State.judgeStarts
  rw [find?_range_eq_none hlate, find?_range_eq_none hfound]

theorem State.sequenceDone_idle (h : s.pw.seq = 0) : s.sequenceDone = s := if_neg fun hdone => hdone.1 h

theorem State.sequenceDone_unsettled {k : Nat} (hk : k < 12) (hbit : bitOf s.pw.seq k = true)
    (hsettled : s.settled k = false) : s.sequenceDone = s := by
  refine if_neg fun hdone => ?_
  have hall := List.all_eq_true.mp hdone.2 k (List.mem_range.mpr hk)
  rw [hbit, hsettled] at hall
  cases hall

/-- R187, R260: what is shown after the pass leaves the rails alone. -/
theorem State.shown_results (hpavane : s.sv.pavane = none) :
    s.showSeq.pavaneDown.noteVcc.pw = s.pw ∧ ∀ g : Field, g.lo < 32 → powerPlace g.off g.lo = true →
      g.key ≠ PW_STATUS.SEQ.key → s.showSeq.pavaneDown.noteVcc.get g = s.get g := by
  have hdown : s.showSeq.pavaneDown = s.showSeq := by
    have hnone : s.showSeq.sv.pavane = none := hpavane
    unfold State.pavaneDown
    rw [hnone]
  have hkept : PowerKept s.showSeq s.showSeq.pavaneDown.noteVcc := by
    rw [hdown]
    exact .powerVcc (.refl _)
  exact ⟨hkept.pw, fun g hlo hplace hkey => (hkept.get g hlo hplace).trans (State.get_set_ne _ _ hkey)⟩

end
end Sys2Proof.Machine

/-! ## Rails that start, and rails found good (R240, R255, R257) -/

namespace Sys2Proof.Machine

set_option Elab.async false

open Reg Host

/-- What the pass of the sequencer reads of the power unit, beside the registers. -/
def sequencedView (s : State) : Sparse Rail × Nat × Nat × Option Pavane :=
  (s.pw.rails, s.pw.seq, s.pw.evals, s.sv.pavane)

/-- From `s` to `t` stands what the pass of the sequencer reads. -/
abbrev SequencedKept (s t : State) : Prop := Stands powerPlace sequencedView s t

section
variable {s t u : State}

theorem Stands.sequenced (h : PowerKept s t) : SequencedKept s t :=
  ⟨h.get, congrArg (fun v : Power × Option Pavane => (v.1.rails, v.1.seq, v.1.evals, v.2)) h.view⟩

theorem Stands.sequencedOn (h : SequencedKept s t) (k : Nat) : t.railOn k = s.railOn k := by
  rw [State.railOn, State.maskBit, h.get PW_ON.EN (by decide) (by decide), State.railOn, State.maskBit]

theorem Stands.sequencedState (h : SequencedKept s t) {k : Nat} (hk : k < 12) : t.railState k = s.railState k :=
  h.get _ (by decide : 0 < 32) (powerPlace_state hk)

theorem Stands.sequencedRail (h : SequencedKept s t) (k : Nat) : t.rail k = s.rail k := by
  rw [State.rail, (Prod.mk.inj h.view).1, State.rail]

theorem Stands.sequencedSeq (h : SequencedKept s t) : t.pw.seq = s.pw.seq := congrArg (·.2.1) h.view

theorem Stands.sequencedEvals (h : SequencedKept s t) : t.pw.evals = s.pw.evals := congrArg (·.2.2.1) h.view

theorem Stands.sequencedPavane (h : SequencedKept s t) : t.sv.pavane = s.sv.pavane := congrArg (·.2.2.2) h.view

theorem State.railState_ne_register {k : Nat} {f : Field} (s : State) {v : Nat}
    (h : f.off < 0x7100 := by decide) (hlo : f.lo < 32 := by decide) : (s.set f v).railState k = s.railState k := by
  refine State.get_set_ne s v ?_
  simp only [Field.key, PW_RAIL_C.STATE]
  omega

/-! ### A rail started, and a rail found in its window (R240) -/

/-- R240: EN`k` is asserted, the rail starting. -/
def State.enabled (s : State) (k : Nat) : State :=
  ((s.setMaskBit PW_ON.EN k true).setRailState k railStarting).set (PW_RAIL_C.RANK k) s.nextRank

theorem State.get_enabled_ne (s : State) {k : Nat} {g : Field} (hon : g.key ≠ PW_ON.EN.key)
    (hstate : g.key ≠ (PW_RAIL_C.STATE k).key) (hrank : g.key ≠ (PW_RAIL_C.RANK k).key) :
    (s.enabled k).get g = s.get g := by
  rw [State.enabled, State.get_set_ne _ _ hrank, State.setRailState, State.get_set_ne _ _ hstate, State.setMaskBit,
    State.get_set_ne _ _ hon]

theorem State.get_enabled_on (s : State) (k : Nat) :
    (s.enabled k).get PW_ON.EN = (s.setMaskBit PW_ON.EN k true).get PW_ON.EN := by
  rw [State.enabled, State.get_set_ne _ _ (by simp only [Field.key, PW_ON.EN, PW_RAIL_C.RANK]; omega),
    State.setRailState, State.get_set_ne _ _ (by simp only [Field.key, PW_ON.EN, PW_RAIL_C.STATE]; omega)]

theorem State.railOn_enabled_same (s : State) {k : Nat} (hk : k < 12) : (s.enabled k).railOn k = true := by
  rw [State.railOn, State.maskBit, s.get_enabled_on]
  exact s.maskBit_setMaskBit_same true hk

theorem State.railOn_enabled_ne (s : State) {j k : Nat} (hj : j < 12) (hne : j ≠ k) :
    (s.enabled k).railOn j = s.railOn j := by
  rw [State.railOn, State.maskBit, s.get_enabled_on]
  exact s.maskBit_setBit_ne hj hne

theorem State.railState_enabled_same (s : State) (k : Nat) : (s.enabled k).railState k = railStarting := by
  rw [State.railState, State.enabled,
    State.get_set_ne _ _ (by simp only [Field.key, PW_RAIL_C.STATE, PW_RAIL_C.RANK]; omega)]
  exact State.railState_setRailState_same _ k (by decide)

theorem State.railState_enabled_ne (s : State) {j k : Nat} (hne : j ≠ k) :
    (s.enabled k).railState j = s.railState j := by
  refine s.get_enabled_ne ?_ ?_ ?_ <;> simp only [Field.key, PW_RAIL_C.STATE, PW_RAIL_C.RANK, PW_ON.EN] <;> omega

theorem State.startRail_kept (s : State) (k : Nat) : ∃ x : Rail, x.t0 = s.pw.evals ∧
    x.tstart = s.get (PW_RAIL_B.TSTART k) ∧ SequencedKept ((s.enabled k).setRail k x) (s.startRail k) := by
  have htstart : (s.enabled k).get (PW_RAIL_B.TSTART k) = s.get (PW_RAIL_B.TSTART k) := by
    refine s.get_enabled_ne ?_ ?_ ?_ <;>
      simp only [Field.key, PW_RAIL_B.TSTART, PW_RAIL_C.STATE, PW_RAIL_C.RANK, PW_ON.EN] <;> omega
  exact ⟨_, rfl, htstart, Stands.sequenced (.powerRetune (.refl _))⟩

theorem State.railUp_kept (s : State) {k : Nat} (hk : k ≠ 0) : PowerKept s (s.railUp k) := by
  unfold State.railUp
  split
  · exact absurd rfl hk
  · exact .congr (.refl s)
  · exact .when (.refl s) (.powerDram (.refl s))
  · exact .refl s

theorem State.goodRail_kept (s : State) {k : Nat} (hk : k ≠ 0) : ∃ x : Rail, x.goodFor = 0 ∧
    x.settle = (s.rail k).settle ∧ SequencedKept ((s.setRailState k railGood).setRail k x) (s.goodRail k) := by
  have hons {w : State} {b : Bool} : SequencedKept w (w.when b (·.endRailOns 0x01)) := by
    have hended : SequencedKept w { w with pw := { w.pw with railOns := [] } } := .congr (.refl w)
    exact .when (.refl w) (hended.trans (Stands.sequenced (.powerPostAll (.refl _))))
  refine ⟨{ s.rail k with goodFor := 0 }, rfl, rfl, ?_⟩
  unfold State.goodRail
  dsimp only
  generalize (s.setRailState k railGood).setRail k _ = v
  have hup : PowerKept v (v.railUp k) := v.railUp_kept hk
  exact hup.sequenced.trans hons

/-! ### A pass in which one rail alone starts (R240) -/

/-- Rail `k`, no card rail, is all of the target set, and no other rail starts. -/
structure StartsAlone (s : State) (k : Nat) : Prop where
  seq : s.pw.seq = 2 ^ k
  plain : ¬ (k = 8 ∨ k = 9)
  resting : ∀ j < 12, j ≠ k → Resting s j

theorem StartsAlone.wanted {k : Nat} (h : StartsAlone s k) : s.wanted k = true := by
  rw [State.wanted, if_neg h.plain, h.seq, bitOf_two_pow, decide_eq_true rfl]

theorem StartsAlone.queueRail {k : Nat} (h : StartsAlone s k)
    (hstate : s.railState k = railWaiting ∨ s.railState k = railStarting) : ∀ j < 12, s.queueRail j = s := by
  intro j hj
  by_cases hjk : j = k
  · subst hjk
    rw [State.queueRail, if_pos h.wanted, if_neg]
    rcases hstate with hstate | hstate <;> rw [hstate] <;> decide
  · exact (h.resting j hj hjk).queueRail

theorem StartsAlone.counted {k : Nat} (h : StartsAlone s k) (mask : Nat) : StartsAlone (s.counted mask) k := by
  obtain ⟨-, hseq, -⟩ := s.counted_results mask
  exact ⟨hseq.trans h.seq, h.plain, fun j hj hjk => (h.resting j hj hjk).counted hj mask⟩

/-- The pass finds no start failure where rail `k` alone, not settled, is neither late nor out of its window. -/
theorem StartsAlone.judgeStarts {k mask : Nat} (h : StartsAlone s k) (hk : k < 12)
    (hlate : s.startLate k s.pw.evals = false) (hin : s.railState k = railGood → bitOf mask k = true)
    (hsettled : s.settled k = false) : s.judgeStarts mask = s.showSeq := by
  have hbit : bitOf s.pw.seq k = true := by rw [h.seq, bitOf_two_pow, decide_eq_true rfl]
  rw [State.judgeStarts_eq, State.sequenceDone_unsettled hk hbit hsettled]
  · intro j hj
    by_cases hjk : j = k
    · rw [hjk, hlate]
    · exact (h.resting j hj hjk).startLate
  · intro j hj hof hgood
    by_cases hjk : j = k
    · subst hjk
      exact hin hgood
    · rw [(h.resting j hj hjk).ofSequence] at hof
      cases hof

theorem StartsAlone.starters_eq_nil {k : Nat} (h : StartsAlone s k) (hstate : s.railState k ≠ railWaiting) :
    s.starters = [] := by
  refine filter_range_eq_nil fun j hj => ?_
  by_cases hjk : j = k
  · rw [hjk, beq_eq_false_iff_ne.mpr hstate, Bool.and_false, Bool.false_and]
  · rw [(h.resting j hj hjk).unwanted, Bool.false_and, Bool.false_and]

theorem StartsAlone.starters_eq_singleton {k : Nat} (h : StartsAlone s k) (hk : k < 12)
    (hstate : s.railState k = railWaiting) (hdeps : s.depsMet k = true) : s.starters = [k] := by
  refine filter_range_eq_singleton hk ?_ fun j hj hjk => ?_
  · rw [h.wanted, hstate, hdeps]
    rfl
  · rw [(h.resting j hj hjk).unwanted, Bool.false_and, Bool.false_and]

theorem Resting.no_arrival {j : Nat} (h : Resting s j) (mask : Nat) :
    (s.railState j == railStarting && bitOf mask j) = false := by
  rw [beq_eq_false_iff_ne.mpr h.starting, Bool.false_and]

/-- Rail `k` alone starts: the others rest as they did. -/
theorem StartsAlone.of_kept {k : Nat} {x : Rail} (h : StartsAlone s k) (hkept : SequencedKept (u.setRail k x) t)
    (hpw : u.pw = s.pw) (hstate : ∀ j < 12, j ≠ k → u.railState j = s.railState j)
    (hon : ∀ j < 12, j ≠ k → u.railOn j = s.railOn j) : StartsAlone t k := by
  have hseq : t.pw.seq = s.pw.seq := hkept.sequencedSeq.trans (congrArg Power.seq hpw :)
  refine ⟨hseq.trans h.seq, h.plain, fun j hj hjk => (h.resting j hj hjk).congr (by rw [hseq]) ?_ ?_ ?_⟩
  · rw [hkept.sequencedRail, State.rail_setRail_ne _ _ hjk, State.rail, hpw, State.rail]
  · exact (hkept.sequencedState hj).trans (hstate j hj hjk)
  · exact (hkept.sequencedOn j).trans (hon j hj hjk)

theorem StartsAlone.startRail {k : Nat} (h : StartsAlone s k) : StartsAlone (s.startRail k) k := by
  obtain ⟨x, -, -, hkept⟩ := s.startRail_kept k
  exact h.of_kept hkept rfl (fun j _ hjk => s.railState_enabled_ne hjk) fun j hj hjk => s.railOn_enabled_ne hj hjk

theorem StartsAlone.goodRail {k : Nat} (h : StartsAlone s k) (hk : k ≠ 0) : StartsAlone (s.goodRail k) k := by
  obtain ⟨x, -, -, hkept⟩ := s.goodRail_kept hk
  refine h.of_kept hkept rfl (fun j _ hjk => State.railState_setRailState_ne s _ hjk) fun j _ _ => ?_
  have hkey : PW_ON.EN.key ≠ (PW_RAIL_C.STATE k).key := by
    simp only [Field.key, PW_ON.EN, PW_RAIL_C.STATE]
    omega
  rw [State.railOn, State.maskBit, State.setRailState, State.get_set_ne _ _ hkey, State.railOn, State.maskBit]

/-! ### The evaluations (R240) -/

theorem sequencerEvaluation_passes (mask : Nat) (hpower : s.power ≠ 0) (hstop : s.pw.stop = none) :
    sequencerEvaluation mask s = ((s.counted mask).sequence mask).pavaneDown.noteVcc := by
  obtain ⟨-, -, hrunning, -⟩ := s.counted_results mask
  rw [sequencerEvaluation_eq mask hpower, hrunning, hstop, if_pos Option.isNone_none]

/-- R240: an evaluation while no rail starts. -/
theorem sequencerEvaluation_idle (mask : Nat) (hpower : s.power ≠ 0) (hstop : s.pw.stop = none)
    (hpavane : s.sv.pavane = none) (hseq : s.pw.seq = 0) (hrest : ∀ j < 12, Resting s j) :
    let t := sequencerEvaluation mask s
    t.get PW_GOOD.RAIL = mask % 2 ^ 12 ∧ t.pw.evals = s.pw.evals + 1 ∧ t.power = s.power ∧
      ∀ j < 12, t.railState j = s.railState j ∧ t.railOn j = s.railOn j := by
  obtain ⟨hevals, hseqKept, -, hpavaneKept, -⟩ := s.counted_results mask
  have hresting : ∀ j < 12, Resting (s.counted mask) j := fun j hj => (hrest j hj).counted hj mask
  have hgood := s.good_counted mask
  have hpowerKept : (s.counted mask).power = s.power := s.get_counted mask (by decide) (by decide) (by decide)
  have hstate {j : Nat} (hj : j < 12) := s.railState_counted mask hj
  have hon (j : Nat) := s.railOn_counted mask j
  rw [sequencerEvaluation_passes mask hpower hstop]
  generalize s.counted mask = u at hevals hseqKept hpavaneKept hresting hgood hpowerKept hstate hon ⊢
  have hpassed : u.sequence mask = u.showSeq := by
    have hstarters : u.starters = [] := filter_range_eq_nil fun j hj => by
      rw [(hresting j hj).unwanted, Bool.false_and, Bool.false_and]
    have harrivals : u.arrivals mask = [] := filter_range_eq_nil fun j hj => (hresting j hj).no_arrival mask
    rw [State.sequence_eq mask fun j hj => (hresting j hj).queueRail, hstarters, List.foldl_nil, harrivals,
      List.foldl_nil, State.judgeStarts_eq (fun j hj => (hresting j hj).startLate),
      State.sequenceDone_idle (hseqKept.trans hseq)]
    intro j hj hof
    rw [(hresting j hj).ofSequence] at hof
    cases hof
  obtain ⟨hpw, hget⟩ := State.shown_results (s := u) (hpavaneKept.trans hpavane)
  rw [hpassed]
  refine ⟨(hget _ (by decide) (by decide) (by decide)).trans hgood, (congrArg Power.evals hpw).trans hevals,
    (hget PW_STATE.STATE (by decide) (by decide) (by decide)).trans hpowerKept, fun j hj => ⟨?_, ?_⟩⟩
  · refine (hget _ (by decide : 0 < 32) (powerPlace_state hj) ?_).trans (hstate hj)
    simp only [Field.key, PW_RAIL_C.STATE, PW_STATUS.SEQ]
    omega
  · rw [State.railOn, State.maskBit, hget PW_ON.EN (by decide) (by decide) (by decide), ← State.maskBit, ← State.railOn,
      hon]

/-- R242: an evaluation while a stop sequence waits for a rail to fall. -/
theorem sequencerEvaluation_stopping (mask : Nat) {st : Stop} {j : Nat} (hpower : s.power ≠ 0)
    (hstop : s.pw.stop = some st) (hrail : st.rail = some j) :
    let t := sequencerEvaluation mask s
    t.get PW_GOOD.RAIL = mask % 2 ^ 12 ∧ t.pw.stop = some st ∧ ∀ i < 12, t.railOn i = s.railOn i := by
  obtain ⟨-, -, hrunning, -⟩ := s.counted_results mask
  have hstands := hrunning.trans hstop
  have heq : sequencerEvaluation mask s = s.counted mask := by
    rw [sequencerEvaluation_eq mask hpower, hstands, Option.isNone_some,
      if_neg Bool.false_ne_true, State.stopRetry, hstands]
    dsimp only
    rw [hrail, Option.isNone_some, Bool.false_and, if_neg Bool.false_ne_true]
  rw [heq]
  exact ⟨s.good_counted mask, hstands, fun i _ => s.railOn_counted mask i⟩

theorem State.depsMet_counted (mask : Nat) {k : Nat} (hk : k < 12)
    (hdeps : ∀ j < 12, s.maskBit (PW_RAIL_A.DEP k) j = true → s.settled j = true) :
    (s.counted mask).depsMet k = true := by
  have hkept : (s.counted mask).get (PW_RAIL_A.DEP k) = s.get (PW_RAIL_A.DEP k) := by
    refine s.get_counted mask (by decide : 0 < 32) (powerPlace_iff.mpr ?_) ?_ <;>
      simp only [Field.key, PW_RAIL_A.DEP, PW_GOOD.RAIL] <;> omega
  refine List.all_eq_true.mpr fun j hj => ?_
  rw [State.maskBit, hkept, ← State.maskBit]
  cases hdep : s.maskBit (PW_RAIL_A.DEP k) j with
  | false => rfl
  | true =>
      rw [Bool.not_true, Bool.false_or]
      exact s.settled_counted mask (List.mem_range.mp hj) (hdeps j (List.mem_range.mp hj) hdep)

/-- R240: the enable of a waiting rail whose dependencies have settled is asserted. -/
theorem sequencerEvaluation_starts {k mask : Nat} (hk : k < 12) (hpower : s.power ≠ 0) (hstop : s.pw.stop = none)
    (hpavane : s.sv.pavane = none) (halone : StartsAlone s k) (hwaits : s.railState k = railWaiting)
    (htstart : 0 < s.get (PW_RAIL_B.TSTART k)) (hmask : bitOf mask k = false)
    (hdeps : ∀ j < 12, s.maskBit (PW_RAIL_A.DEP k) j = true → s.settled j = true) :
    let t := sequencerEvaluation mask s
    t.railOn k = true ∧ t.railState k = railStarting ∧ t.get PW_GOOD.RAIL = mask % 2 ^ 12 := by
  obtain ⟨-, -, -, hpavaneKept, -⟩ := s.counted_results mask
  have hcounted := halone.counted mask
  have hstate := (s.railState_counted mask hk).trans hwaits
  have hmet := State.depsMet_counted mask hk hdeps
  have hgood := s.good_counted mask
  have hlimit : (s.counted mask).get (PW_RAIL_B.TSTART k) = s.get (PW_RAIL_B.TSTART k) := by
    refine s.get_counted mask (by decide : 0 < 32) (powerPlace_iff.mpr ?_) ?_ <;>
      simp only [Field.key, PW_RAIL_B.TSTART, PW_GOOD.RAIL] <;> omega
  rw [sequencerEvaluation_passes mask hpower hstop]
  generalize s.counted mask = u at hpavaneKept hcounted hstate hmet hgood hlimit ⊢
  obtain ⟨x, ht0, hxstart, hkept⟩ := u.startRail_kept k
  have hstarting : (u.startRail k).railState k = railStarting :=
    (hkept.sequencedState hk).trans (u.railState_enabled_same k)
  have halone' := hcounted.startRail
  have harrivals : (u.startRail k).arrivals mask = [] := by
    refine filter_range_eq_nil fun j hj => ?_
    by_cases hjk : j = k
    · rw [hjk, hmask, Bool.and_false]
    · exact (halone'.resting j hj hjk).no_arrival mask
  have hlate : (u.startRail k).startLate k (u.startRail k).pw.evals = false := by
    have hevals : (u.startRail k).pw.evals = u.pw.evals := hkept.sequencedEvals
    have hnever : (u.startRail k).neverStarts k = false :=
      State.neverStarts_eq_false (by rw [hstarting]; decide)
    rw [State.startLate, hnever, hkept.sequencedRail, State.rail_setRail_same, ht0, hxstart, hevals,
      decide_eq_false (by omega), Bool.and_false, Bool.false_and, Bool.or_false]
  have hsettled : (u.startRail k).settled k = false := by
    rw [State.settled, hstarting]
    rfl
  have hpassed : u.sequence mask = (u.startRail k).showSeq := by
    rw [State.sequence_eq mask (hcounted.queueRail (.inl hstate)), hcounted.starters_eq_singleton hk hstate hmet,
      List.foldl_cons, List.foldl_nil, harrivals, List.foldl_nil,
      halone'.judgeStarts hk hlate (fun h => absurd (hstarting.symm.trans h) (by decide)) hsettled]
  obtain ⟨-, hget⟩ := State.shown_results (s := u.startRail k) (hkept.sequencedPavane.trans (hpavaneKept.trans hpavane))
  rw [hpassed]
  refine ⟨?_, ?_, ?_⟩
  · rw [State.railOn, State.maskBit, hget PW_ON.EN (by decide) (by decide) (by decide), ← State.maskBit, ← State.railOn,
      hkept.sequencedOn]
    exact u.railOn_enabled_same hk
  · refine (hget _ (by decide : 0 < 32) (powerPlace_state hk) ?_).trans hstarting
    simp only [Field.key, PW_RAIL_C.STATE, PW_STATUS.SEQ]
    omega
  · refine (hget _ (by decide) (by decide) (by decide)).trans ((hkept.get _ (by decide) (by decide)).trans ?_)
    rw [State.get_setRail, u.get_enabled_ne (by decide) (by simp only [Field.key, PW_GOOD.RAIL, PW_RAIL_C.STATE]; omega)
      (by simp only [Field.key, PW_GOOD.RAIL, PW_RAIL_C.RANK]; omega)]
    exact hgood

/-- R240: a starting rail in its window is good. -/
theorem sequencerEvaluation_arrives {k mask : Nat} (hk : k < 12) (h0 : k ≠ 0) (hpower : s.power ≠ 0)
    (hstop : s.pw.stop = none) (hpavane : s.sv.pavane = none) (halone : StartsAlone s k)
    (hstarts : s.railState k = railStarting) (hmask : bitOf mask k = true) (hsettle : 0 < (s.rail k).settle) :
    (sequencerEvaluation mask s).railState k = railGood := by
  obtain ⟨-, -, -, hpavaneKept, -⟩ := s.counted_results mask
  have hcounted := halone.counted mask
  have hstate := (s.railState_counted mask hk).trans hstarts
  have hsettleKept := s.settle_counted mask k
  rw [sequencerEvaluation_passes mask hpower hstop]
  generalize s.counted mask = u at hpavaneKept hcounted hstate hsettleKept ⊢
  obtain ⟨x, hfor, hxsettle, hkept⟩ := u.goodRail_kept h0
  have hgood : (u.goodRail k).railState k = railGood :=
    (hkept.sequencedState hk).trans
      ((State.railState_setRail _ k x k).trans (u.railState_setRailState_same k (by decide)))
  have hstarters : u.starters = [] := hcounted.starters_eq_nil (by rw [hstate]; decide)
  have harrivals : u.arrivals mask = [k] := by
    refine filter_range_eq_singleton hk ?_ fun j hj hjk => (hcounted.resting j hj hjk).no_arrival mask
    rw [hstate, hmask]
    rfl
  have hlate : (u.goodRail k).startLate k (u.goodRail k).pw.evals = false := by
    rw [State.startLate, State.neverStarts_eq_false (by rw [hgood]; decide), hgood]
    rfl
  have hsettled : (u.goodRail k).settled k = false := by
    rw [State.settled, hkept.sequencedRail, State.rail_setRail_same, hfor, hxsettle, hsettleKept,
      decide_eq_false (by omega), Bool.and_false]
  have hpassed : u.sequence mask = (u.goodRail k).showSeq := by
    rw [State.sequence_eq mask (hcounted.queueRail (.inr hstate)), hstarters, List.foldl_nil, harrivals,
      List.foldl_cons, List.foldl_nil, (hcounted.goodRail h0).judgeStarts hk hlate (fun _ => hmask) hsettled]
  obtain ⟨-, hget⟩ := State.shown_results (s := u.goodRail k) (hkept.sequencedPavane.trans (hpavaneKept.trans hpavane))
  rw [hpassed]
  refine (hget _ (by decide : 0 < 32) (powerPlace_state hk) ?_).trans hgood
  simp only [Field.key, PW_RAIL_C.STATE, PW_STATUS.SEQ]
  omega

end
end Sys2Proof.Machine

/-! ## Start failures and rails that stop (R241, R242) -/

namespace Sys2Proof.Machine

set_option Elab.async false

open Reg Host

section
variable {s t u : State}

/-! ### A start that misses its window (R241) -/

/-- R241: a starting rail that is late has failed. -/
theorem startTimeout_eq {k : Nat} (hk : k < 12) (hstop : s.pw.stop = none) (hstarts : s.railState k = railStarting)
    (hlate : (s.rail k).t0 + 100 * (s.rail k).tstart ≤ s.pw.evals + 1) : startTimeout k s = s.startFailure k 1 := by
  have hmissed : s.startLate k (s.pw.evals + 1) = true := by
    rw [State.startLate, hstarts, decide_eq_true hlate]
    rfl
  exact if_pos ⟨hk, by rw [hstop]; rfl, hmissed⟩

/-! ### A rail below its off-threshold, or stuck (R242, R245) -/

/-- R257: the RAIL OFFs that end are no part of the plan, nor read by the sequencer. -/
theorem State.endRailOffs_kept (s : State) (k status result : Nat) :
    PlanKept s (s.endRailOffs k status result) ∧ SequencedKept s (s.endRailOffs k status result) := by
  unfold State.endRailOffs
  split
  · exact ⟨Stands.trans (.congr (.refl s)) (Stands.plan (.powerPostAll (.refl _))),
      Stands.trans (.congr (.refl s)) (Stands.sequenced (.powerPostAll (.refl _)))⟩
  · exact ⟨.refl s, .refl s⟩

/-- The state of a rail that has fallen: EN11 may be isolated. -/
def State.fallenState (s : State) (k : Nat) : Nat :=
  if k = 11 ∧ s.pw.isolated = true then railIsolated else railOff

/-- R242, step 2: rail `k` has fallen, and `x`, which the sequencer holds of it. -/
def State.fallen (s : State) (k : Nat) (x : Rail) : State :=
  ((s.setRailState k (s.fallenState k)).setMaskBit PW_GOOD.RAIL k false).setRail k x

theorem State.railFallen_kept (s : State) (k : Nat) : ∃ x, PowerKept (s.fallen k x) (s.railFallen k) :=
  ⟨_, .powerDropFlag (.powerRetune (.refl _))⟩

theorem State.fallen_results (s : State) {k : Nat} (hk : k < 12) (x : Rail) :
    (s.fallen k x).railState k = s.fallenState k ∧ (s.fallen k x).maskBit PW_GOOD.RAIL k = false ∧
      (s.fallen k x).pw.stop = s.pw.stop := by
  have hwidth : s.fallenState k < 8 := by
    unfold State.fallenState
    split <;> decide
  refine ⟨?_, State.maskBit_setMaskBit_same _ false hk, rfl⟩
  rw [State.fallen, State.railState_setRail, State.setMaskBit, State.railState_ne_register]
  exact s.railState_setRailState_same k hwidth

/-- R242, step 3: rail `k` is stuck, and `x`, which the sequencer holds of it. -/
def State.stuck (s : State) (k : Nat) (x : Rail) : State :=
  ((s.setRailState k railStuck).setMaskBit PW_STUCK.RAIL k true).setRail k x

theorem State.stuck_results (s : State) {k : Nat} (hk : k < 12) (x : Rail) :
    (s.stuck k x).railState k = railStuck ∧ (s.stuck k x).maskBit PW_STUCK.RAIL k = true ∧ (s.stuck k x).rail k = x ∧
      (s.stuck k x).pw.stop = s.pw.stop := by
  refine ⟨?_, State.maskBit_setMaskBit_same _ true hk, State.rail_setRail_same _ k x, rfl⟩
  rw [State.stuck, State.railState_setRail, State.setMaskBit, State.railState_ne_register]
  exact s.railState_setRailState_same k (by decide)

/-- What the fall of rail `k` leaves, before the stop sequence goes on. -/
def State.fell (s : State) (k : Nat) : State := (s.railFallen k).endRailOffs k 0x01 0

theorem railOffReached_eq {k : Nat} (reading : Nat) (hstate : s.railState k = railStopping) :
    railOffReached k reading s = (s.fell k).stopAfter k := if_pos hstate

theorem State.fell_results (s : State) {k : Nat} (hk : k < 12) :
    (s.fell k).railState k = s.fallenState k ∧ (s.fell k).maskBit PW_GOOD.RAIL k = false ∧
      (s.fell k).pw.stop = s.pw.stop := by
  obtain ⟨x, hfallen⟩ := s.railFallen_kept k
  obtain ⟨hended, -⟩ := (s.railFallen k).endRailOffs_kept k 0x01 0
  obtain ⟨hstate, hgood, hstop⟩ := s.fallen_results hk x
  refine ⟨?_, ?_, ?_⟩
  · exact (hended.rails.railState hk).trans ((hfallen.plan.rails.railState hk).trans hstate)
  · rw [State.maskBit, State.fell, hended.get PW_GOOD.RAIL (by decide) (by decide)]
    exact (congrArg (bitOf · k) (hfallen.get PW_GOOD.RAIL (by decide) (by decide))).trans hgood
  · exact hended.rails.stop.trans (hfallen.plan.rails.stop.trans hstop)

/-- R242: the sequence goes on after the rail whose fall it awaits alone. -/
theorem State.stopAfter_other {k : Nat} (h : ∀ st, s.pw.stop = some st → st.rail ≠ some k) : s.stopAfter k = s := by
  unfold State.stopAfter
  split
  · next st hstop => exact if_neg (h st hstop)
  · rfl

/-- R242: the sequence goes on with its next rail. -/
theorem stopNext_releases {goal : StopTo} {j : Nat} (rest : List Nat) (s : State) (hj : j < 12)
    (hgoal : goal ≠ .dormant) :
    (stopNext goal [] (j :: rest) s).railOn j = false ∧
      (stopNext goal [] (j :: rest) s).railState j = railStopping ∧
      (stopNext goal [] (j :: rest) s).pw.stop = some ⟨rest, some j, [], goal⟩ := by
  obtain ⟨hoff, hstate, -⟩ := s.releaseRail_results hj
  have heq : stopNext goal [] (j :: rest) s =
      { s.releaseRail j with pw := { (s.releaseRail j).pw with stop := some ⟨rest, some j, [], goal⟩ } } := by
    rw [stopNext, if_neg fun ⟨hdormant, _⟩ => hgoal hdormant]
    rfl
  rw [heq]
  generalize s.releaseRail j = v at hoff hstate ⊢
  exact ⟨hoff, hstate, rfl⟩

/-- R242: the rail that a stop sequence awaits has fallen, and its next rail is released. -/
theorem railOffReached_releases {j k : Nat} {rest : List Nat} {goal : StopTo} (reading : Nat) (hk : k < 12)
    (hj : j < 12) (hstop : s.pw.stop = some ⟨j :: rest, some k, [], goal⟩) (hgoal : goal ≠ .dormant)
    (hstate : s.railState k = railStopping) :
    let t := railOffReached k reading s
    t.railOn j = false ∧ t.railState j = railStopping ∧ t.pw.stop = some ⟨rest, some j, [], goal⟩ := by
  obtain ⟨-, -, hruns⟩ := s.fell_results hk
  have heq : railOffReached k reading s = stopNext goal [] (j :: rest) (s.fell k) := by
    rw [railOffReached_eq reading hstate, State.stopAfter, hruns, hstop]
    exact if_pos rfl
  rw [heq]
  exact stopNext_releases rest (s.fell k) hj hgoal

/-- R242, R245: a rail that no stop sequence awaits has fallen. -/
theorem railOffReached_results {k : Nat} (reading : Nat) (hk : k < 12) (hstate : s.railState k = railStopping)
    (hother : ∀ st, s.pw.stop = some st → st.rail ≠ some k) :
    (railOffReached k reading s).railState k = s.fallenState k ∧
      (railOffReached k reading s).maskBit PW_GOOD.RAIL k = false := by
  obtain ⟨hfell, hgood, hruns⟩ := s.fell_results hk
  rw [railOffReached_eq reading hstate, State.stopAfter_other (by rwa [hruns])]
  exact ⟨hfell, hgood⟩

/-- R242, step 3: rail `k` is stuck, and told so. -/
def State.stuckTold (s : State) (k reading : Nat) : State :=
  let s := (s.setRailState k railStuck).setMaskBit PW_STUCK.RAIL k true
  let s := ((s.setRail k { s.rail k with dis := true, offAt := s.pw.evals }).retune k).dropFlag k
  s.raiseFault 0x384 k reading (s.rail k).offto

theorem State.stuckTold_kept (s : State) (k reading : Nat) :
    ∃ x : Rail, x.dis = true ∧ PowerKept (s.stuck k x) (s.stuckTold k reading) :=
  ⟨_, rfl, .powerRaiseFault (.powerDropFlag (.powerRetune (.refl _)))⟩

theorem railStuckAt_eq {k : Nat} (reading : Nat) (hstate : s.railState k = railStopping)
    (hlate : (s.rail k).offAt + 100 * (s.rail k).offto ≤ s.pw.evals + 1) :
    railStuckAt k reading s = ((s.stuckTold k reading).endRailOffs k 0x02 1).stopAfter k := if_pos ⟨hstate, hlate⟩

/-- R242, step 3: a rail that no stop sequence awaits is stuck. -/
theorem railStuckAt_results {k : Nat} (reading : Nat) (hk : k < 12) (hstate : s.railState k = railStopping)
    (hlate : (s.rail k).offAt + 100 * (s.rail k).offto ≤ s.pw.evals + 1)
    (hother : ∀ st, s.pw.stop = some st → st.rail ≠ some k) :
    (railStuckAt k reading s).railState k = railStuck ∧ (railStuckAt k reading s).maskBit PW_STUCK.RAIL k = true ∧
      ((railStuckAt k reading s).rail k).dis = true := by
  obtain ⟨x, hdis, htold⟩ := s.stuckTold_kept k reading
  obtain ⟨hstuck, hshown, hrail, hruns⟩ := s.stuck_results hk x
  obtain ⟨hended, hsequenced⟩ := (s.stuckTold k reading).endRailOffs_kept k 0x02 1
  have hstop : ((s.stuckTold k reading).endRailOffs k 0x02 1).pw.stop = s.pw.stop :=
    hended.rails.stop.trans (htold.plan.rails.stop.trans hruns)
  have hrails : ((s.stuckTold k reading).endRailOffs k 0x02 1).rail k = x :=
    (hsequenced.sequencedRail k).trans ((htold.sequenced.sequencedRail k).trans hrail)
  rw [railStuckAt_eq reading hstate hlate, State.stopAfter_other (by rwa [hstop])]
  refine ⟨?_, ?_, by rw [hrails, hdis]⟩
  · exact (hended.rails.railState hk).trans ((htold.plan.rails.railState hk).trans hstuck)
  · rw [State.maskBit, hended.get PW_STUCK.RAIL (by decide) (by decide)]
    exact (congrArg (bitOf · k) (htold.get PW_STUCK.RAIL (by decide) (by decide))).trans hshown

/-! ### The statement -/

/-- A card rail of no target set that is off rests, as another rail outside the running sequence does. -/
theorem resting_of {j : Nat} (hbit : ¬ (j = 8 ∨ j = 9) → bitOf s.pw.seq j = false) (h8 : (s.rail 8).target = false)
    (h9 : (s.rail 9).target = false) (hon8 : s.railOn 8 = false) (hon9 : s.railOn 9 = false)
    (hstate : s.railState j ≠ railWaiting ∧ s.railState j ≠ railStarting) : Resting s j := by
  refine ⟨?_, hstate.1, hstate.2, ?_⟩
  · unfold State.wanted
    split
    · next hcard => rcases hcard with rfl | rfl <;> assumption
    · next hplain => exact hbit hplain
  · rintro (rfl | rfl) <;> assumption

/-- Settles O28: evaluations, start failures, and rails that fall or are stuck, each by its own lemma. -/
theorem railSequenceResults : Obligations.RailSequenceResults := by
  unfold Obligations.RailSequenceResults
  intro s k mask hk
  have halone (h8 : k ≠ 8) (h9 : k ≠ 9) (hseq : s.pw.seq = 2 ^ k) (ht8 : (s.rail 8).target = false)
      (ht9 : (s.rail 9).target = false) (hon8 : s.railOn 8 = false) (hon9 : s.railOn 9 = false)
      (hothers : ∀ j < 12, j ≠ k → s.railState j ≠ railWaiting ∧ s.railState j ≠ railStarting) : StartsAlone s k :=
    ⟨hseq, fun hcard => hcard.elim h8 h9, fun j hj hjk => resting_of (fun _ => by
      rw [hseq, bitOf_two_pow, decide_eq_false fun h => hjk h.symm]) ht8 ht9 hon8 hon9 (hothers j hj hjk)⟩
  refine ⟨?idle, fun st j hpower hstop hrail => ⟨_, rfl, sequencerEvaluation_stopping mask hpower hstop hrail⟩, ?starts,
    ?arrives, ?latches, ?isolates,
    fun reading hstate hother => ⟨⟨_, rfl, railOffReached_results reading hk hstate hother⟩,
      fun hlate => ⟨_, rfl, railStuckAt_results reading hk hstate hlate hother⟩⟩,
    fun reading j rest goal hj _ hstop hgoal hstate =>
      ⟨_, rfl, railOffReached_releases reading hk hj hstop hgoal hstate⟩⟩
  case idle =>
    intro hpower hstop hpavane hseq ht8 ht9 hon8 hon9 hidle
    have hrest : ∀ j < 12, Resting s j := fun j hj => resting_of (fun _ => by
      rw [hseq, bitOf_eq_testBit, Nat.zero_testBit]) ht8 ht9 hon8 hon9 (hidle j hj)
    exact ⟨_, rfl, sequencerEvaluation_idle mask hpower hstop hpavane hseq hrest⟩
  case starts =>
    intro h8 h9 hpower hstop hpavane hseq hwaits htstart hmask hdeps ht8 ht9 hon8 hon9 hothers
    exact ⟨_, rfl, sequencerEvaluation_starts hk hpower hstop hpavane
      (halone h8 h9 hseq ht8 ht9 hon8 hon9 hothers) hwaits htstart hmask fun j hj hdep => (hdeps j hj hdep).2⟩
  case arrives =>
    intro h0 h8 h9 hpower hstop hpavane hseq hstarts hmask hsettle ht8 ht9 hon8 hon9 hothers
    exact ⟨_, rfl, sequencerEvaluation_arrives hk h0 hpower hstop hpavane
      (halone h8 h9 hseq ht8 ht9 hon8 hon9 hothers) hstarts hmask hsettle⟩
  case latches =>
    intro hstop hstarts hlate haux
    have hdown := s.startFailure_latches 1 haux
    rw [← startTimeout_eq hk hstop hstarts hlate] at hdown
    exact ⟨_, rfl, hdown.seq, hdown.stops.imp_right And.left⟩
  case isolates =>
    intro hstop hstarts hlate hisolate
    obtain ⟨hstate, hoff, hisolated, hstays⟩ := s.startFailure_isolates 1 hisolate
    rw [← startTimeout_eq (by decide) hstop hstarts hlate] at hstate hoff hisolated hstays
    exact ⟨_, rfl, hstate, hoff, hisolated, hstays.trans hstop⟩

end
end Sys2Proof.Machine

/-! ## WAKE while the device is latched (R246, R247, R255) -/

namespace Sys2Proof.Machine

set_option Elab.async false

open Reg Host

/-- R247: UNLATCH is legal for the side band. -/
structure Unlatchable (s : State) : Prop where
  power : s.power = latched
  vin : s.flag BT_STATUS.VINOK = true
  stop : s.pw.stop = none
  wake : s.pw.wake = false

/-- R255: WAKE is no action of LATCHED. -/
theorem wakeAction_latched {s : State} (w : Writer) (h : s.power = latched) : wakeAction w s = none :=
  if_neg fun ⟨_, hpower, _⟩ => hpower h

theorem isSome_unlatchAction {s : State} (h : Unlatchable s) : (unlatchAction .sideBand s).isSome = true := by
  obtain ⟨hpower, hvin, hstop, hwake⟩ := h
  rw [unlatchAction, if_pos ⟨by decide, .inl hpower, hvin, by rw [hstop]; rfl, hwake⟩]
  rfl

/-- R9, R247: a WAKE that may not change the AUX bits changes nothing while UNLATCH is legal, and is not refused. -/
theorem pwctlAct_wake_unlatchable {s : State} (h : Unlatchable s) (haux : s.mayWrite .sideBand 0x7004 .rwm = false) :
    s.pwctlAct .sideBand 2 = some s := by
  obtain ⟨t, hunlatch⟩ := Option.isSome_iff_exists.mp (isSome_unlatchAction h)
  have hbit : bitOf (2 + 2 ^ 4 * s.get PW_CTL.AUXSTBY + 2 ^ 5 * s.get PW_CTL.AUXWAKE) 0 = false := by
    simp only [bitOf, beq_eq_false_iff_ne]
    omega
  rw [State.pwctlAct, pwctlWrite, haux, Bool.and_false]
  rw [State.when_false, hunlatch, wakeAction_latched .sideBand h.power, hbit]
  rfl

/-- LATCHED with VIN qualified and the core rail down. -/
def State.latchedOnVin : State :=
  { State.reset with regs := [(PW_STATE.STATE.key, latched), (BT_STATUS.VINOK.key, 1)] }

theorem unlatchable_latchedOnVin : Unlatchable State.latchedOnVin := ⟨rfl, rfl, rfl, rfl⟩

/-- Refutes O30: the clause of a WAKE in LATCHED wants a violation. PW_CTL holds UNLATCH too, and with VIN qualified
that action is legal there: the write of the register is then accepted and, with UNLATCH 0, changes nothing (R9). -/
theorem not_wakeResults : ¬ Obligations.WakeResults := by
  unfold Obligations.WakeResults
  intro h
  obtain ⟨-, -, hwake, -⟩ := h State.latchedOnVin ⟨0, 0, 0, 0⟩
  obtain ⟨t, hnext, hviolated⟩ := hwake unlatchable_latchedOnVin.power
  have ht : t = State.latchedOnVin := by
    have hrow : State.latchedOnVin.rowWrite .sideBand 0x7004 (State.latchedOnVin.pwctlAct .sideBand 2) =
        State.latchedOnVin := by
      rw [pwctlAct_wake_unlatchable unlatchable_latchedOnVin rfl, State.rowWrite_up _ _ _ rfl]
      rfl
    exact (Outcome.next.inj hnext).symm.trans hrow
  have hcount := congrArg (·.get SY_VIOLATIONS.COUNT) (ht.symm.trans hviolated)
  exact absurd hcount (by decide)

end Sys2Proof.Machine
